-- ==== Sys2Proof/Word.lean ====
section
/-!
DEFINITION. The word types of the Gelandug and the canonical sparse map in which the state holds everything that
is keyed by a number (03 R55: little-endian words; 02 R35: register widths).
-/

namespace Sys2Proof

/-- One byte of memory. -/
abbrev Byte := BitVec 8
/-- One lane's 32 bits of a vector register, or one instruction word. -/
abbrev Word := BitVec 32
/-- A scalar register, an address, a PC. -/
abbrev Xword := BitVec 64
/-- A set of lanes of one warp: bit i is lane i (02 R37, 01 R21). -/
abbrev LaneSet := BitVec 64

/-- A sparse table: pairs of a key and a value, keys strictly rising. What an unlisted key means is said where
the table is used; the operations over tables are in Machine/Tables.lean. -/
abbrev SMap (β : Type) := List (Nat × β)

end Sys2Proof
end

