-- ==== Sys2Proof/Syntax.lean ====
section
/-!
DEFINITION. The instruction set: one constructor of `Instr` for each row of the opcode table. The first 188 are the
instruction words of 03 R66; the others are the steps that engines, firmware, clocks and the host take, with the
values that the outside world supplies as arguments.
-/

namespace Sys2Proof

/-- A name of the vector window, v0 to v127 (02 R38). -/
abbrev VReg := BitVec 7
/-- A scalar register, s0 to s63 (02 R36). -/
abbrev SReg := BitVec 6
/-- A predicate register, p0 to p7 (02 R37). -/
abbrev PReg := BitVec 3
/-- A rejoin mask, j0 to j7 (01 R21). -/
abbrev JMask := BitVec 3

/-- The entry that F3 writes for a recorded miss (05 R443): the 64 KiB page, the level of the leaf, and an area of the die's
memory for tables that are missing. -/
structure MissEntry where
  page : Nat
  level : Nat
  area : Nat
deriving DecidableEq, Repr

/-- Where an uncorrectable error lies, as a LOC of 15 R255 has it, and whether eviction or scrubbing found it (15 R256). -/
structure ErrorPlace where
  kind : Nat
  scrubbed : Bool
deriving DecidableEq, Repr

/-- The b operand of a vector-integer member (03 R63). -/
inductive VOp where
  | reg (n : VReg)
  | sreg (n : SReg)
  /-- A constant 0 to 62. -/
  | const (k : BitVec 6)
  /-- A literal word's payload. -/
  | lit (x : BitVec 27)
deriving DecidableEq, Repr

/-- The b operand of a scalar member (03 R64). -/
inductive SOp where
  | reg (n : SReg)
  /-- A constant 0 to 126. -/
  | const (k : BitVec 7)
  | lit (x : BitVec 27)
deriving DecidableEq, Repr

/-- Conditions of `cmp` (21 R330), in the order of their op values. -/
inductive CmpCond where
  | eq | ne | ltI | leI | gtI | geI | ltN | leN | gtN | geN
deriving DecidableEq, Repr

/-- Conditions of `fcmp` (22 R351), in the order of their fn values. -/
inductive FCmpCond where
  | eq | ne | lt | le | gt | ge | ord | unord
deriving DecidableEq, Repr

/-- Conditions of `brs` (21 R323). -/
inductive BrsCond where
  | z | nz | lt | ge | gt | le
deriving DecidableEq, Repr

/-- Conditions of `waitc` (24 R437). -/
inductive WaitCond where
  | eq | ne | geN | gtN | geI | gtI
deriving DecidableEq, Repr

/-- Directions of `frnd` (22 R364), fn 8 to 11. -/
inductive RndDir where
  | ne | z | dn | up
deriving DecidableEq, Repr

/-- Members of `plog` (23 R404). -/
inductive PlogOp where
  | and | or | xor | andn
deriving DecidableEq, Repr

/-- Types, in the order of their codes 0 to 24 (03 R72). -/
inductive Ty where
  | b8 | b16 | b32 | b64 | b128 | i8 | n8 | i16 | n16 | i32 | n32 | i64 | n64 | f32 | f16 | bf16
  | e4m3 | e5m2 | e3m2 | e2m3 | e2m1 | kf4 | e8m0 | f16x2 | bf16x2
deriving DecidableEq, Repr

/-- Operations of `atom` and `red`, in the order of their codes 0 to 17 (03 R74). -/
inductive AtomOp where
  | addB32 | addB64 | addF32 | minI32 | minN32 | maxI32 | maxN32 | andB32 | orB32 | xorB32
  | exchB32 | exchB64 | incN32 | minF32 | maxF32 | addBf16x2 | minI64 | maxN64
deriving DecidableEq, Repr

/-- Scopes, in the order of their codes 0 to 4 (03 R73). -/
inductive Scope where
  | wg | gang | cluster | die | pkg
deriving DecidableEq, Repr

/-- ORDER of a memory extension (03 R69). -/
inductive MemOrder where
  | plain | acq | rel | acqrel
deriving DecidableEq, Repr

/-- Members of `fence` (22 R355). -/
inductive FenceKind where
  | acq | rel | acqrel
deriving DecidableEq, Repr

/-- The memory extension word (03 R69). -/
structure MemExt where
  order : MemOrder
  scope : Scope
  /-- SPACE: true for the gang's local memory. -/
  inLocal : Bool
  rcount : BitVec 4
  scale : BitVec 2
  offset : BitVec 15
deriving DecidableEq, Repr

/-- The count of a `loop` (01 R25). -/
inductive LoopCount where
  | reg (n : SReg)
  | imm (k : BitVec 7)
deriving DecidableEq, Repr

/-- One constructor per row of the opcode table: the instructions, the steps that the machine takes itself, and last the steps
that only the world outside can ask for. -/
inductive Instr where
  /-- ADD (R307): Vector add: each active lane writes (A + B) mod 2^32. -/
  | add (d a : VReg) (b : VOp)
  /-- ADD_S (R307): Scalar add: writes (A + B) mod 2^64 to a scalar register. -/
  | addS (d a : SReg) (b : SOp)
  /-- SUB (R428): Vector subtract: writes (A - B) mod 2^32 per lane. -/
  | sub (d a : VReg) (b : VOp)
  /-- SUB_S (R428): Scalar subtract: writes (A - B) mod 2^64. -/
  | subS (d a : SReg) (b : SOp)
  /-- MUL (R394): Vector multiply: writes the low 32 bits of A x B per lane. -/
  | mul (d a : VReg) (b : VOp)
  /-- MUL_S (R394): Scalar multiply: writes the low 64 bits of A x B. -/
  | mulS (d a : SReg) (b : SOp)
  /-- MULHI_I (R395): Vector signed high multiply: writes bits [63:32] of the signed product. -/
  | mulhiI (d a : VReg) (b : VOp)
  /-- MULHI_I_S (R395): Scalar signed high multiply: writes bits [127:64] of the signed product. -/
  | mulhiIS (d a : SReg) (b : SOp)
  /-- MULHI_N (R395): Vector unsigned high multiply: writes bits [63:32] of the unsigned product. -/
  | mulhiN (d a : VReg) (b : VOp)
  /-- MULHI_N_S (R395): Scalar unsigned high multiply: writes bits [127:64] of the unsigned product. -/
  | mulhiNS (d a : SReg) (b : SOp)
  /-- MAD (R383): Vector multiply-add: writes (A x B + old d) mod 2^32 per lane. -/
  | mad (d a : VReg) (b : VOp)
  /-- MAD_S (R383): Scalar multiply-add: writes (A x B + old d) mod 2^64. -/
  | madS (d a : SReg) (b : SOp)
  /-- MIN_I (R388): Vector signed minimum of A and B per lane. -/
  | minI (d a : VReg) (b : VOp)
  /-- MIN_I_S (R388): Scalar signed minimum of A and B. -/
  | minIS (d a : SReg) (b : SOp)
  /-- MIN_N (R388): Vector unsigned minimum of A and B per lane. -/
  | minN (d a : VReg) (b : VOp)
  /-- MIN_N_S (R388): Scalar unsigned minimum of A and B. -/
  | minNS (d a : SReg) (b : SOp)
  /-- MAX_I (R385): Vector signed maximum of A and B per lane. -/
  | maxI (d a : VReg) (b : VOp)
  /-- MAX_I_S (R385): Scalar signed maximum of A and B. -/
  | maxIS (d a : SReg) (b : SOp)
  /-- MAX_N (R385): Vector unsigned maximum of A and B per lane. -/
  | maxN (d a : VReg) (b : VOp)
  /-- MAX_N_S (R385): Scalar unsigned maximum of A and B. -/
  | maxNS (d a : SReg) (b : SOp)
  /-- AND (R308): Vector bitwise AND per lane. -/
  | and (d a : VReg) (b : VOp)
  /-- AND_S (R308): Scalar bitwise AND. -/
  | andS (d a : SReg) (b : SOp)
  /-- OR (R399): Vector bitwise OR per lane. -/
  | or (d a : VReg) (b : VOp)
  /-- OR_S (R399): Scalar bitwise OR. -/
  | orS (d a : SReg) (b : SOp)
  /-- XOR (R441): Vector bitwise XOR per lane. -/
  | xor (d a : VReg) (b : VOp)
  /-- XOR_S (R441): Scalar bitwise XOR. -/
  | xorS (d a : SReg) (b : SOp)
  /-- SHL (R420): Vector shift left; a count of 32 or more gives 0. -/
  | shl (d a : VReg) (b : VOp)
  /-- SHL_S (R420): Scalar shift left; a count of 64 or more gives 0. -/
  | shlS (d a : SReg) (b : SOp)
  /-- SHR (R421): Vector logical shift right with zero fill. -/
  | shr (d a : VReg) (b : VOp)
  /-- SHR_S (R421): Scalar logical shift right with zero fill. -/
  | shrS (d a : SReg) (b : SOp)
  /-- SRA (R424): Vector arithmetic shift right with sign fill. -/
  | sra (d a : VReg) (b : VOp)
  /-- SRA_S (R424): Scalar arithmetic shift right with sign fill. -/
  | sraS (d a : SReg) (b : SOp)
  /-- ANDN (R309): Vector A AND NOT B per lane. -/
  | andn (d a : VReg) (b : VOp)
  /-- ANDN_S (R309): Scalar A AND NOT B. -/
  | andnS (d a : SReg) (b : SOp)
  /-- ROL (R415): Vector rotate left by B mod 32. -/
  | rol (d a : VReg) (b : VOp)
  /-- ROL_S (R415): Scalar rotate left by B mod 64. -/
  | rolS (d a : SReg) (b : SOp)
  /-- ABSD_I (R306): Vector signed absolute difference per lane. -/
  | absdI (d a : VReg) (b : VOp)
  /-- ABSD_I_S (R306): Scalar signed absolute difference. -/
  | absdIS (d a : SReg) (b : SOp)
  /-- ABSD_N (R306): Vector unsigned absolute difference per lane. -/
  | absdN (d a : VReg) (b : VOp)
  /-- ABSD_N_S (R306): Scalar unsigned absolute difference. -/
  | absdNS (d a : SReg) (b : SOp)
  /-- CLZ (R329): Vector count of leading zero bits per lane. -/
  | clz (d a : VReg)
  /-- CLZ_S (R329): Scalar count of leading zero bits. -/
  | clzS (d a : SReg)
  /-- POPC (R406): Vector population count per lane. -/
  | popc (d a : VReg)
  /-- POPC_S (R406): Scalar population count. -/
  | popcS (d a : SReg)
  /-- BREV (R320): Vector bit reversal per lane. -/
  | brev (d a : VReg)
  /-- BREV_S (R320): Scalar bit reversal. -/
  | brevS (d a : SReg)
  /-- BFX_I (R318): Vector signed bit-field extract. -/
  | bfxI (d a : VReg) (b : VOp)
  /-- BFX_I_S (R318): Scalar signed bit-field extract. -/
  | bfxIS (d a : SReg) (b : SOp)
  /-- BFX_N (R318): Vector unsigned bit-field extract. -/
  | bfxN (d a : VReg) (b : VOp)
  /-- BFX_N_S (R318): Scalar unsigned bit-field extract. -/
  | bfxNS (d a : SReg) (b : SOp)
  /-- BFI (R317): Vector bit-field insert of A into d at the position and length in B. -/
  | bfi (d a : VReg) (b : VOp)
  /-- BFI_S (R317): Scalar bit-field insert. -/
  | bfiS (d a : SReg) (b : SOp)
  /-- DIV_I (R342): Vector signed division truncating toward zero, with the defined divide-by-zero result. -/
  | divI (d a : VReg) (b : VOp)
  /-- DIV_I_S (R342): Scalar signed division. -/
  | divIS (d a : SReg) (b : SOp)
  /-- DIV_N (R342): Vector unsigned division. -/
  | divN (d a : VReg) (b : VOp)
  /-- DIV_N_S (R342): Scalar unsigned division. -/
  | divNS (d a : SReg) (b : SOp)
  /-- REM_I (R412): Vector signed remainder matching div.i. -/
  | remI (d a : VReg) (b : VOp)
  /-- REM_I_S (R412): Scalar signed remainder. -/
  | remIS (d a : SReg) (b : SOp)
  /-- REM_N (R412): Vector unsigned remainder. -/
  | remN (d a : VReg) (b : VOp)
  /-- REM_N_S (R412): Scalar unsigned remainder. -/
  | remNS (d a : SReg) (b : SOp)
  /-- MOV (R392): Vector move of B into d per lane. -/
  | mov (d : VReg) (b : VOp)
  /-- MOV_S (R392): Scalar move of B into d. -/
  | movS (d : SReg) (b : SOp)
  /-- CMP (R330): Vector compare setting one predicate bit per active lane under the condition. -/
  | cmp (c : CmpCond) (p : PReg) (a : VReg) (b : VOp)
  /-- CMP_S (R330): Scalar compare writing 1 or 0 to a scalar register. -/
  | cmpS (c : CmpCond) (d a : SReg) (b : SOp)
  /-- SEL (R417): Per-lane select between va and B under a predicate. -/
  | sel (p : PReg) (inv : Bool) (d a : VReg) (b : VOp)
  /-- FADD (R350): f32 addition rounded once to nearest-even. -/
  | fadd (d a b : VReg)
  /-- FADD_F16X2 (R350): Packed f16 pair addition. -/
  | faddF16x2 (d a b : VReg)
  /-- FADD_BF16X2 (R350): Packed bf16 pair addition. -/
  | faddBf16x2 (d a b : VReg)
  /-- FSUB (R368): f32 subtraction rounded once. -/
  | fsub (d a b : VReg)
  /-- FSUB_F16X2 (R368): Packed f16 pair subtraction. -/
  | fsubF16x2 (d a b : VReg)
  /-- FSUB_BF16X2 (R368): Packed bf16 pair subtraction. -/
  | fsubBf16x2 (d a b : VReg)
  /-- FMUL (R361): f32 multiplication rounded once. -/
  | fmul (d a b : VReg)
  /-- FMUL_F16X2 (R361): Packed f16 pair multiplication. -/
  | fmulF16x2 (d a b : VReg)
  /-- FMUL_BF16X2 (R361): Packed bf16 pair multiplication. -/
  | fmulBf16x2 (d a b : VReg)
  /-- FMA (R358): f32 fused multiply-add d + a x b with one rounding. -/
  | fma (d a b : VReg)
  /-- FMA_F16X2 (R358): Packed f16 pair fused multiply-add. -/
  | fmaF16x2 (d a b : VReg)
  /-- FMA_BF16X2 (R358): Packed bf16 pair fused multiply-add. -/
  | fmaBf16x2 (d a b : VReg)
  /-- FMIN (R360): f32 minimum under the NaN and signed-zero rules. -/
  | fmin (d a b : VReg)
  /-- FMIN_F16X2 (R360): Packed f16 pair minimum. -/
  | fminF16x2 (d a b : VReg)
  /-- FMIN_BF16X2 (R360): Packed bf16 pair minimum. -/
  | fminBf16x2 (d a b : VReg)
  /-- FMAX (R359): f32 maximum under the NaN and signed-zero rules. -/
  | fmax (d a b : VReg)
  /-- FMAX_F16X2 (R359): Packed f16 pair maximum. -/
  | fmaxF16x2 (d a b : VReg)
  /-- FMAX_BF16X2 (R359): Packed bf16 pair maximum. -/
  | fmaxBf16x2 (d a b : VReg)
  /-- FABS (R349): Clears the f32 sign bit. -/
  | fabs (d a : VReg)
  /-- FABS_F16X2 (R349): Clears the sign bit of each f16 half. -/
  | fabsF16x2 (d a : VReg)
  /-- FABS_BF16X2 (R349): Clears the sign bit of each bf16 half. -/
  | fabsBf16x2 (d a : VReg)
  /-- FNEG (R362): Flips the f32 sign bit. -/
  | fneg (d a : VReg)
  /-- FNEG_F16X2 (R362): Flips the sign bit of each f16 half. -/
  | fnegF16x2 (d a : VReg)
  /-- FNEG_BF16X2 (R362): Flips the sign bit of each bf16 half. -/
  | fnegBf16x2 (d a : VReg)
  /-- FRND (R364): Rounds f32 to an integral value in the direction the fn field names. -/
  | frnd (dir : RndDir) (d a : VReg)
  /-- FRND_F16X2 (R364): Rounds each f16 half to an integral value. -/
  | frndF16x2 (dir : RndDir) (d a : VReg)
  /-- FRND_BF16X2 (R364): Rounds each bf16 half to an integral value. -/
  | frndBf16x2 (dir : RndDir) (d a : VReg)
  /-- FDOT2_F16 (R354): Adds an exact f16 pair dot product to d and rounds once to f32. -/
  | fdot2F16 (d a b : VReg)
  /-- FDOT2_BF16 (R354): Adds an exact bf16 pair dot product to d and rounds once to f32. -/
  | fdot2Bf16 (d a b : VReg)
  /-- FCMP (R351): f32 IEEE comparison setting a predicate bit per active lane. -/
  | fcmp (c : FCmpCond) (p : PReg) (a b : VReg)
  /-- FRCP (R363): SFU reciprocal within 1 ulp. -/
  | frcp (d a : VReg)
  /-- FRSQ (R365): SFU reciprocal square root within 2 ulp. -/
  | frsq (d a : VReg)
  /-- FSQRT (R367): SFU square root, correctly rounded. -/
  | fsqrt (d a : VReg)
  /-- FEXP2 (R356): SFU base-2 exponential. -/
  | fexp2 (d a : VReg)
  /-- FLOG2 (R357): SFU base-2 logarithm. -/
  | flog2 (d a : VReg)
  /-- FSIN (R366): SFU sine in radians. -/
  | fsin (d a : VReg)
  /-- FCOS (R353): SFU cosine in radians. -/
  | fcos (d a : VReg)
  /-- FTANH (R369): SFU hyperbolic tangent. -/
  | ftanh (d a : VReg)
  /-- CVT (R340): Converts each lane's value between a legal pair of types under CVTMODE. -/
  | cvt (dst src : Ty) (d a : VReg)
  /-- PACK (R401): Converts n consecutive source registers into one register of narrow elements. -/
  | pack (dst src : Ty) (d a : VReg)
  /-- UNPACK (R435): Decodes the narrow elements of one register into n consecutive destinations. -/
  | unpack (dst src : Ty) (d a : VReg)
  /-- SHFL (R419): Each participant reads va from the lane its index register names, mod W. -/
  | shfl (d a b : VReg)
  /-- BCAST (R315): Every participant receives va of the immediate source lane. -/
  | bcast (d a : VReg) (lane : BitVec 6)
  /-- SLUP (R423): Slides va up by k lanes; out-of-range sources keep vd. -/
  | slup (d a : VReg) (k : BitVec 6)
  /-- SLDN (R422): Slides va down by k lanes; out-of-range sources keep vd. -/
  | sldn (d a : VReg) (k : BitVec 6)
  /-- COMPRESS (R333): Packs the selected participants' values into the lowest participants. -/
  | compress (d a : VReg) (p : PReg)
  /-- EXPAND (R347): Spreads the lowest participants' values to the selected participants. -/
  | expand (d a : VReg) (p : PReg)
  /-- SCAN_ADD_I32 (R416): Inclusive integer add scan over participants in lane order. -/
  | scanAddI32 (d a : VReg)
  /-- SCAN_ADD_F32 (R416): Inclusive f32 add scan, rounded at each step. -/
  | scanAddF32 (d a : VReg)
  /-- SCAN_MAX_I32 (R416): Inclusive signed maximum scan. -/
  | scanMaxI32 (d a : VReg)
  /-- SCAN_MIN_I32 (R416): Inclusive signed minimum scan. -/
  | scanMinI32 (d a : VReg)
  /-- REDUCE_ADD_I32 (R411): Integer add reduction over participants, result to every participant. -/
  | reduceAddI32 (d a : VReg)
  /-- REDUCE_ADD_F32 (R411): f32 add reduction in lane order, rounded at each step. -/
  | reduceAddF32 (d a : VReg)
  /-- REDUCE_MIN_I32 (R411): Signed minimum reduction. -/
  | reduceMinI32 (d a : VReg)
  /-- REDUCE_MAX_I32 (R411): Signed maximum reduction. -/
  | reduceMaxI32 (d a : VReg)
  /-- REDUCE_MIN_F32 (R411): f32 minimum reduction following fmin. -/
  | reduceMinF32 (d a : VReg)
  /-- REDUCE_MAX_F32 (R411): f32 maximum reduction following fmax. -/
  | reduceMaxF32 (d a : VReg)
  /-- MATCH_RANK (R228): Writes the number of lower participants holding an equal value. -/
  | matchRank (d a : VReg)
  /-- MATCH_CNT (R228): Writes the number of participants holding an equal value. -/
  | matchCnt (d a : VReg)
  /-- MATCH_LEAD (R384): Sets a predicate in each participant that is first of its value. -/
  | matchLead (p : PReg) (a : VReg)
  /-- VOTE_ANY (R436): Sets the predicate in every participant if any participant's bit is set. -/
  | voteAny (d a : PReg)
  /-- VOTE_ALL (R436): Sets the predicate in every participant if all participants' bits are set. -/
  | voteAll (d a : PReg)
  /-- VOTE_BALLOT (R436): Writes a scalar mask of the participants whose predicate bit is set. -/
  | voteBallot (d : SReg) (a : PReg)
  /-- PLOG (R404): Combines two predicates by and, or, xor or andn per active lane. -/
  | plog (op : PlogOp) (d a b : PReg)
  /-- PMOV_P_FROM_S (R405): Copies scalar bits into a predicate for active lanes. -/
  | pmovPFromS (d : PReg) (a : SReg)
  /-- PMOV_S_FROM_P (R405): Copies the whole predicate into a scalar register. -/
  | pmovSFromP (d : SReg) (a : PReg)
  /-- PCNT (R403): Counts active lanes whose predicate bit is set. -/
  | pcnt (d : SReg) (a : PReg)
  /-- LD (R378): Loads each lane's element into registers from global, formatted or local memory. -/
  | ld (t : Ty) (d : VReg) (a : SReg) (b : VReg) (ext : Option MemExt)
  /-- ST (R425): Stores each lane's element to global, formatted or local memory. -/
  | st (t : Ty) (d : VReg) (a : SReg) (b : VReg) (ext : Option MemExt)
  /-- ATOM (R312): Atomic read-modify-write at the home returning the old value. -/
  | atom (op : AtomOp) (d : VReg) (a : SReg) (b : VReg) (ext : Option MemExt)
  /-- RED (R409): Reduction update without a return, combined in L1 or performed at the home. -/
  | red (op : AtomOp) (d : VReg) (a : SReg) (b : VReg) (ext : Option MemExt)
  /-- CAS (R327): Compare-and-swap at the home returning the old value. -/
  | cas (wide : Bool) (d : VReg) (a : SReg) (b : VReg) (ext : Option MemExt)
  /-- PREF (R407): Fills the named line into its home L2 and, where allowed, the L1. -/
  | pref (a : SReg) (b : VReg) (ext : Option MemExt)
  /-- KEEP (R374): Fills and pins the named line in its home L2 for the gang. -/
  | keep (a : SReg) (b : VReg) (ext : Option MemExt)
  /-- CINV (R328): Writes back the line's dirty sectors in L1 and invalidates it there. -/
  | cinv (a : SReg) (b : VReg) (ext : Option MemExt)
  /-- CWB (R341): Writes back the line's dirty sectors in L1 and leaves them clean. -/
  | cwb (a : SReg) (b : VReg) (ext : Option MemExt)
  /-- FENCE (R151): Acquire, release or both fence at a scope, optionally over engine commands. -/
  | fence (k : FenceKind) (mask : BitVec 4) (sc : Scope)
  /-- BARINIT (R314): Sets up a barrier object's member set and expected count. -/
  | barinit (o : BitVec 4) (d a : SReg)
  /-- ARRIVE (R311): Records the warp's arrival in the object's current phase without waiting. -/
  | arrive (d : SReg) (o : BitVec 4)
  /-- BWAIT (R325): Waits until the object has completed past a given phase. -/
  | bwait (d : SReg) (o : BitVec 4) (a : SReg)
  /-- BSYNC (R324): Arrives and waits for the phase arrived at to complete. -/
  | bsync (d : SReg) (o : BitVec 4)
  /-- BDROP (R316): Removes the warp from the object's member set. -/
  | bdrop (o : BitVec 4)
  /-- WAITC (R437): Reads a location at its home, arms a monitor and sleeps until the condition holds. -/
  | waitc (c : WaitCond) (wide : Bool) (d a b : SReg)
  /-- WAITN (R439): Stops the warp until its outstanding-operation counters fall to the thresholds. -/
  | waitn (ld st cp mx : BitVec 5)
  /-- CPY (R334): Queues a linear byte copy under a control word. -/
  | cpy (d a : SReg)
  /-- CPYT (R337): Queues a tensor copy of a layout record's box in either direction. -/
  | cpyt (d a : SReg) (toGlobal : Bool)
  /-- CPYM (R336): Queues a global-to-local copy written once for each named gang member. -/
  | cpym (d a : SReg)
  /-- CPYX (R338): Queues a global-to-local copy with rows chosen by an index array. -/
  | cpyx (d a b : SReg)
  /-- COLL (R332): Queues a chain collective on the record's global box. -/
  | coll (d a b : SReg)
  /-- MMA (R390): Queues a matrix product into the accumulator region. -/
  | mma (a : SReg)
  /-- MRST (R393): Writes the restart label and clears RESTARTED at issue. -/
  | mrst (a : SReg)
  /-- MZERO (R396): Queues zeroing of an accumulator region. -/
  | mzero (a : SReg)
  /-- MLOAD (R389): Queues a raw load of 32-bit words into an accumulator region. -/
  | mload (a : SReg)
  /-- MDRAIN (R386): Queues conversion and write of an accumulator region to memory. -/
  | mdrain (a : SReg)
  /-- HIST (R372): Queues a write of a histogram tensor to local memory, optionally clearing it. -/
  | hist (a : SReg) (clear : Bool) (t : BitVec 3)
  /-- QUOTE (R408): Writes the predicted time and energy of an mma on a given engine. -/
  | quote (d a : SReg) (lanes : Bool)
  /-- LAUNCH (R376): Releases and copies a launch record into a device queue, returning a code. -/
  | launch (d a b : SReg)
  /-- TRIGGER (R433): Marks the executing lanes triggered with a release at die scope. -/
  | trigger
  /-- NEXT (R397): Takes the core's next schedule-table entry atomically. -/
  | next (d : SReg) (p : PReg)
  /-- REP (R29): Issues the next instruction n times with stepped register fields. -/
  | rep (n : BitVec 6) (sd sa sb : BitVec 2)
  /-- NOP (R398): Advances the executing lanes' PCs and nothing else. -/
  | nop
  /-- EXIT (R346): Ends the executing lanes and the warp with its last lane. -/
  | exit
  /-- YIELD (R442): Gives other lanes and other warps precedence in issue. -/
  | yield
  /-- BRK (R321): Traps with BREAK, TRAPPC at itself. -/
  | brk (code : BitVec 7)
  /-- TRAP (R432): Traps with SWTRAP, TRAPPC after itself and TRAPINFO = n. -/
  | trap (code : BitVec 7)
  /-- RET (R414): Uniform branch to the address in a scalar register. -/
  | ret (a : SReg)
  /-- ERET (R249): Returns from supervisor mode to TRAPPC, or to the restart label when pending. -/
  | eret
  /-- SYSC (R429): Traps with SWTRAP and TRAPINFO = 0x100 | n. -/
  | sysc (code : BitVec 7)
  /-- ELECT (R343): Sets a predicate only in the lowest active lane. -/
  | elect (p : PReg)
  /-- WBASE (R39): Sets the vector window base. -/
  | wbase (imm : BitVec 7)
  /-- LEXIT (R28): Executing lanes leave the top loop body. -/
  | lexit
  /-- STRIKE (R427): Removes executing lanes from a rejoin mask and applies the completion test. -/
  | strike (j : JMask)
  /-- PARK (R402): Enrolled lanes arrive at a rejoin mask and wait for the rest. -/
  | park (j : JMask)
  /-- TLBI (R431): Supervisor TLB invalidation by page or whole ASID on the die. -/
  | tlbi (a : SReg) (all : Bool)
  /-- GETSR (R370): Reads a special register. -/
  | getsr (d : BitVec 7) (n : BitVec 7)
  /-- SETSR (R418): Writes a writable special register. -/
  | setsr (n : BitVec 7) (a : SReg)
  /-- BRA (R319): Uniform relative branch of the executing group. -/
  | bra (off : BitVec 26)
  /-- BRS (R323): Branch on a scalar register compared with zero. -/
  | brs (c : BrsCond) (a : SReg) (off : BitVec 15)
  /-- BRP (R322): Per-lane branch on a predicate. -/
  | brp (p : PReg) (inv : Bool) (off : BitVec 21)
  /-- CALL (R326): Writes the return address to s63 and branches. -/
  | call (off : BitVec 26)
  /-- JMP (R373): Branch to a register target with optional link. -/
  | jmp (d a : SReg)
  /-- ENROL (R344): Enrols the executing lanes in a free rejoin mask with a rejoin PC. -/
  | enrol (j : JMask) (off : BitVec 21)
  /-- LOOP (R382): Pushes a counted loop entry onto the warp's loop stack. -/
  | loop (count : LoopCount) (off : BitVec 18)
  /-- ASYNC_TRAP_ENTRY (R246): A matrix-engine fault or PEER kind 1 or 2 is taken before the warp's next issue. -/
  | asyncTrapEntry (w : Nat)
  /-- LOAD_RETURN (R379): Data of an outstanding load, atomic or cas reaches its registers and the load counter falls. -/
  | loadReturn (w op : Nat)
  /-- STORE_PERFORMED (R157): A store, red, cinv or cwb is performed at its scope's meeting point and the store counter falls. -/
  | storePerformed (w op : Nat)
  /-- CACHE_WALK_DONE (R128): A table walk started by a CACHE operation completes and the operation acts or is dropped. -/
  | cacheWalkDone (die : Nat)
  /-- WAITC_POLL (R218): A warp waiting for a free monitor re-reads its location every 1 µs. -/
  | waitcPoll (w : Nat)
  /-- PACKET_ARRIVE (R173): A packet arrives into the destination's holding buffer FIFO for its channel. -/
  | packetArrive (src dst : Nat) (outside : Option (BitVec 128 × BitVec 256 × List Byte))
  /-- PACKET_DELIVER (R171): A deliverable packet updates D and K and is performed at the destination. -/
  | packetDeliver (src dst : Nat)
  /-- FLOOR_BEAT_SEND (R172): An agent sends its delivery vector after a 2^12 advance or at the 10 µs interval. -/
  | floorBeatSend (src dst : Nat)
  /-- FLOOR_BEAT_RECEIVE (R172): A receiver sets its floor matrix and clears entries no newer than the floor. -/
  | floorBeatReceive (src dst : Nat)
  /-- TOKEN_BUCKET_READY (R175): A refilling bucket covers a waiting packet's cost and the stopped warp or command resumes. -/
  | tokenBucketReady (w : Nat)
  /-- RESEAL_ZERO (R180): After every channel has delivered and buffers are empty, F4 broadcasts the zeroing. -/
  | resealZero
  /-- RESEAL_REENABLE (R180): When every agent has acknowledged the zeroing, F4 re-enables injection. -/
  | resealReenable
  /-- LINK_WIDTH_CHANGE_DONE (R181): A causeway link width change completes. -/
  | linkWidthChangeDone (die : Nat)
  /-- COPY_SLICE (R188): The copy engine moves one slice of one warp's queued command in round-robin turn. -/
  | copySlice (die cluster : Nat)
  /-- COPY_COMPLETE (R197): A copy's writes are performed, its counter updated, status written and copy counter lowered. -/
  | copyComplete (die cluster id : Nat)
  /-- COLLECTIVE_COMPLETE (R198): A collective ends with its results written, status and counter updated. -/
  | collectiveComplete (die id : Nat) (others : List (Nat × List Nat × List Nat)) (late : Nat)
  /-- MATRIX_COMMAND_COMPLETE (R207): The matrix engine finishes a command in issue order and the matrix counter falls. -/
  | matrixCommandComplete (die core : Nat)
  /-- ENGINE_WAKE (R291): A gated engine finishes its wake ramp and accepts commands. -/
  | engineWake (die number : Nat) (isCopy : Bool)
  /-- HEAD_LAUNCH_TAKE (R230): The front end reads the next record as head launch and advances HEAD. -/
  | headLaunchTake (die q : Nat)
  /-- PROLOGUE_RUN (R235): The prologue unit runs the head launch's prologue and chooses its action. -/
  | prologueRun (die q : Nat)
  /-- WAITSIG_SATISFIED (R232): The WAITSIG monitor sees its value reach WAITVAL and the head becomes eligible. -/
  | waitsigSatisfied (die q : Nat)
  /-- PLACER_PASS (R241): The gang placer places eligible head gangs in priority order, with backfill. -/
  | placerPass (die : Nat)
  /-- HEAD_GANG_AGE_TIMEOUT (R242): 20 µs after first standing blocked, a head gang ages and reserves a window. -/
  | headGangAgeTimeout (die q : Nat)
  /-- OVERFLOW_MOVE (R237): As a ring slot frees, the front end moves the oldest overflow record into the ring. -/
  | overflowMove (die q : Nat)
  /-- GANG_RETIRE (R225): The last workgroup's operations are done; the gang's data is written back, its done bit set and resources freed. -/
  | gangRetire (g : Nat)
  /-- SWITCH_DRAIN (R253): In-flight loads complete, copies run to completion and matrix commands are discarded. -/
  | switchDrain (die asid : Nat)
  /-- SWITCH_WRITE_BACK (R253): Every L1 of the context is written back, update-only lines pushed and pins released. -/
  | switchWriteBack (die asid : Nat)
  /-- SWITCH_SAVE (R253): Warp records, barrier objects, schedule tables and local regions are saved. -/
  | switchSave (die asid : Nat)
  /-- SWITCH_CLEAR (R253): L1s are invalidated and accumulators and histogram tensors zeroed. -/
  | switchClear (die asid : Nat)
  /-- SWITCH_ADMIT (R253): The incoming context is restored or new gangs placed. -/
  | switchAdmit (die asid : Nat)
  /-- VOLTAGE_STEP (R277): The regulator moves the cluster supply one 5 mV step toward its target. -/
  | voltageStep (die cluster : Nat)
  /-- VOLTAGE_REACHED (R279): The supply reaches the new point's voltage and the trim relaxes to its frequency. -/
  | voltageReached (die cluster : Nat)
  /-- CEILING_EFFECTIVE (R286): An entry's effective time is reached and clusters exclude points above the new ceiling. -/
  | ceilingEffective (die : Nat)
  /-- CMD_BIND (R295): Mailbox OP 1 binds a queue, region, floor policy or save area through F2. -/
  | cmdBind (rec : List Xword)
  /-- CMD_UNBIND (R295): Mailbox OP 2 unbinds a queue, region, floor policy or save area through F2. -/
  | cmdUnbind (rec : List Xword)
  /-- CMD_KILL_CONTEXT (R295): Mailbox OP 3 kills a context through F4 with reason 5. -/
  | cmdKillContext (rec : List Xword)
  /-- CMD_RESEAL (R295): Mailbox OP 4 asks F4 for a reseal. -/
  | cmdReseal (rec : List Xword)
  /-- CMD_ATTESTATION_REPORT (R299): Mailbox OP 5 writes a signed attestation report over the measurements and nonce. -/
  | cmdAttestationReport (rec : List Xword)
  /-- CMD_EXTEND_MEAS7 (R298): Mailbox OP 6 extends MEAS 7 with a host measurement. -/
  | cmdExtendMeas7 (rec : List Xword)
  /-- CMD_EXPORT_IMPORT_WITHDRAW (R165): Mailbox OP 7 has F3 export, import or withdraw pages. -/
  | cmdExportImportWithdraw (rec : List Xword)
  /-- CMD_CHAIN_JOIN_LEAVE (R288): Mailbox OP 8 has F6 join or leave a chain. -/
  | cmdChainJoinLeave (rec : List Xword)
  /-- CMD_READ_TELEMETRY (R295): Mailbox OP 9 returns telemetry from F7. -/
  | cmdReadTelemetry (rec : List Xword)
  /-- RESERVED_ENCODING (R67): An instruction word with a reserved major, reserved fn, reserved field value or non-zero zero-field is issued and traps with ILLOP. -/
  | reservedEncoding
  /-- LITERAL_WORD_AT_INSTRUCTION_START (R59): A literal word fetched as the start of an instruction traps with BADTGT, TRAPPC at the literal. -/
  | literalWordAtInstructionStart
  /-- INSTRUCTION_FETCH_FAULT (R55): The fetch of a PC, or of the word fetched with it, fails translation or protection, or misses replayably and stops the warp. -/
  | instructionFetchFault
  /-- MEMBERSHIP_CHANGE_EFFECTIVE (R288): The effective time of a join, leave or removal is reached: membership and ranks change, and collectives bound to the old membership end. -/
  | membershipChangeEffective (die : Nat)
  /-- MAILBOX_RESERVED_OP (R295): A command record with a reserved OP or field is answered with an event record of status 2. -/
  | mailboxReservedOp (rec : List Xword)
  /-- FAULT_RESOLVED (R443): F3 writes a valid leaf for a recorded page and every waiting warp or engine resumes. -/
  | faultResolved (die asid : Nat) (page : MissEntry) (w0 w1 : Xword)
  /-- FAULT_UNRESOLVABLE (R443): F3 declares a replayable miss unresolvable, raising XLATE or ending the command. -/
  | faultUnresolvable (die asid page : Nat)
  /-- DEPARTURE (R178): F4 declares a die departed after silence, fatal error or removal, and every agent applies the departure steps. -/
  | departure (die : Nat)
  /-- RESEAL_STOP (R180): F4 stops injection at every port to begin a reseal. -/
  | resealStop (rejoin : Option Nat)
  /-- CAUSEWAY_WIDTH_CHOOSER (R264): At the end of each 100 µs sample the link width chooser selects a width. -/
  | causewayWidthChooser (die packets traffic : Nat)
  /-- COLLECTIVE_ABANDON (R198): A member's leave, removal or fault ends the collective with CODE 3 at the others. -/
  | collectiveAbandon (die id : Nat)
  /-- DOORBELL_WRITE (R229): A host write sets a host queue's TAIL, or is ignored and sets OVERRUN. -/
  | doorbellWrite (die q : Nat) (v : BitVec 32)
  /-- SWITCH_STOP (R253): F2 begins a time-slice switch and every warp of the set stops at a boundary. -/
  | switchStop (die asid : Nat) (clusters : List Nat)
  /-- KILL (R254): F4 kills a context on a die, stopping issue and releasing its resources. -/
  | kill (die asid reason : Nat)
  /-- UNCORRECTABLE_ERROR (R256): An uncorrectable data error stops the warp, kills the affected contexts and retires the frame. -/
  | uncorrectableError (die : Nat) (asids : List Nat) (place : ErrorPlace) (address : Nat)
  /-- RATE_BROADCAST (R257): Every 250 ns the integrator broadcasts the package rate to every cluster. -/
  | rateBroadcast
  /-- RATE_INTEGRATOR_STEP (R258): Every 1 µs the integrator measures power and updates the rate. -/
  | rateIntegratorStep (p1 other : Nat) (dies : List Nat)
  /-- LIMITER_SAMPLE (R268): Every 50 ns a die's limiter lengthens or shortens cluster trims against its budget. -/
  | limiterSample (die power : Nat)
  /-- EMERGENCY_STEP (R269): A cluster at full trim for 100 µs drops one point every 10 µs until within budget. -/
  | emergencyStep (die : Nat)
  /-- STALL_SAMPLE_END (R281): At the end of each 10 µs sample the cluster sets STALLR. -/
  | stallSampleEnd (die cluster occupied stalled energy : Nat)
  /-- PREFETCH_DEPTH_CHOOSER (R264): At the end of each 50 µs sample a core's prefetch depth is chosen. -/
  | prefetchDepthChooser (die core : Nat) (stalls : List Nat) (bytes : List (Nat × Nat))
  /-- SKEW_BIAS_DECAY (R274): Every microsecond log2 B falls by 1/512 toward 0. -/
  | skewBiasDecay
  /-- CLUSTER_WAKE (R282): A cluster takes a context or wakes and goes to the highest point at or below point 4 and CEIL. -/
  | clusterWake (die cluster : Nat)
  /-- CLUSTER_GATE (R282): A cluster with no context for 100 µs gates its cores at point 0. -/
  | clusterGate (die cluster : Nat)
  /-- CEILING_REPUBLISH (R286): A member republishes its present ceiling entry at least every 100 µs. -/
  | ceilingRepublish (die : Nat)
  /-- CHAIN_CEILING_MESSAGE (R286): A KIND 0 ceiling entry is received from a member. -/
  | chainCeilingMessage (die : Nat) (w0 w1 w2 w3 : Xword)
  /-- CHAIN_JOIN (R288): A join message makes the sender a member from its effective time; members answer with snapshots. -/
  | chainJoin (die : Nat) (w0 w1 w2 w3 : Xword)
  /-- CHAIN_SNAPSHOT (R288): A joining die receives a member's entries in force and planned. -/
  | chainSnapshot (die : Nat) (w0 w1 w2 w3 : Xword)
  /-- CHAIN_LEAVE (R288): A leave message stops the sender's entries counting at its effective time. -/
  | chainLeave (die : Nat) (w0 w1 w2 w3 : Xword)
  /-- CHAIN_REMOVE (R288): A remove message drops a silent member at its effective time and posts events. -/
  | chainRemove (die : Nat) (w0 w1 w2 w3 : Xword)
  /-- CHAIN_SILENCE_TIMEOUT (R288): Nothing heard from a member for 400 µs makes a member send a remove message. -/
  | chainSilenceTimeout (die member : Nat)
  /-- PCAP_WRITE (R272): A host cap write is accepted or rejected with CAPREJ, and floors recomputed. -/
  | pcapWrite (v : Xword)
  /-- PRATE_WRITE (R272): A host rate-bound write is accepted or rejected with RATEREJ. -/
  | prateWrite (v : Xword)
  /-- PSTAT_WRITE (R271): A host write of 1 clears CAPREJ or RATEREJ. -/
  | pstatWrite (v : Xword)
  /-- PFLOOR_WRITE (R273): A floor write recomputes every EFLOOR and notifies changed contexts. -/
  | pfloorWrite (die asid : Nat) (v : Xword)
  /-- CLKREQ_RELEASE (R283): CLKREQ MODE 0 releases a cluster's pin. -/
  | clkreqRelease (die cluster : Nat) (v : Xword)
  /-- CLKREQ_PIN_DELTA (R283): CLKREQ MODE 1 pins a cluster at the present point plus DELTA, or is denied. -/
  | clkreqPinDelta (die cluster : Nat) (v : Xword)
  /-- CLKREQ_PIN_POINT (R283): CLKREQ MODE 2 pins a cluster at POINT, bounded by CEIL. -/
  | clkreqPinPoint (die cluster : Nat) (v : Xword)
  /-- CLKDIE_WRITE (R283): A CLKDIE write sets DCEIL, clears REJ, or is ignored and sets REJ. -/
  | clkdieWrite (die : Nat) (v : Xword)
  /-- HINTDROP_CLEAR (R293): A write of 0 clears a context's HINTDROP counter. -/
  | hintdropClear (die asid : Nat)
  /-- ELOST_CLEAR (R295): A write of 0 clears the host event ring's ELOST count. -/
  | elostClear
  /-- DIE_RESET (R300): RSTCTL bit d resets a die: departure, kills, reinitialisation and a reseal before rejoin. -/
  | dieReset (die : Nat)
  /-- PACKAGE_RESET (R300): RSTCTL bit 63 resets the whole package to reset values and reruns boot. -/
  | packageReset
  /-- BOOT_STAGE (R298): F0 loads, measures and verifies a boot stage, then starts it or stops boot. -/
  | bootStage (stage : Nat) (digests : List (List Byte)) (good : Bool)
  /-- REGISTER_WRITE (R293): A write to a control or descriptor register with no behaviour of its own stores the value. -/
  | registerWrite (offset size : Nat) (v : Option Xword)
  /-- THERMAL_LIMIT_CHANGE (R290): F7 reports a new thermal limit, which changes the member's ceiling and makes F6 publish a new entry. -/
  | thermalLimitChange (die mhz : Nat)
  /-- SOFT_ERROR_CORRECTED (R256): A single-bit soft error in a storage structure is corrected in place and counted in telemetry. -/
  | softErrorCorrected (die : Nat)
  /-- HBM_STACK_INIT_DONE (R291): An HBM stack finishes initialising after reset, and the next stack starts. -/
  | hbmStackInitDone
  /-- CLKREQ_RESERVED_MODE (R283): A CLKREQ write with MODE 3 or non-zero reserved bits is denied with RESULT 3. -/
  | clkreqReservedMode (die cluster : Nat) (v : Xword)
deriving DecidableEq, Repr

end Sys2Proof
end

