-- ==== Sys2Proof/WellFormed.lean ====
section
/-!
DEFINITION. Which instructions are well formed: the bounds that the encodings of 03 R60 to R79 put on operands beyond
the widths of their fields.
-/

namespace Sys2Proof

/-- Types that `ld` and `st` take: codes 0 to 15, 23 and 24 (03 R71, R72). -/
def Ty.isRegType : Ty → Bool
  | .b8 | .b16 | .b32 | .b64 | .b128 | .i8 | .n8 | .i16 | .n16 | .i32 | .n32 | .i64 | .n64 | .f32 | .f16
  | .bf16 | .f16x2 | .bf16x2 => true
  | .e4m3 | .e5m2 | .e3m2 | .e2m3 | .e2m1 | .kf4 | .e8m0 => false

/-- How many registers a register type takes (03 R72). -/
def Ty.regs : Ty → Nat
  | .b64 | .i64 | .n64 => 2
  | .b128 => 4
  | .b8 | .b16 | .b32 | .i8 | .n8 | .i16 | .n16 | .i32 | .n32 | .f32 | .f16 | .bf16 | .e4m3 | .e5m2 | .e3m2
  | .e2m3 | .e2m1 | .kf4 | .e8m0 | .f16x2 | .bf16x2 => 1

/-- Whether an atomic operation acts on 8 bytes (03 R74). -/
def AtomOp.wide : AtomOp → Bool
  | .addB64 | .exchB64 | .minI64 | .maxN64 => true
  | .addB32 | .addF32 | .minI32 | .minN32 | .maxI32 | .maxN32 | .andB32 | .orB32 | .xorB32 | .exchB32 | .incN32
  | .minF32 | .maxF32 | .addBf16x2 => false

/-- How many registers an atomic operand takes. -/
def AtomOp.regs (op : AtomOp) : Nat := if op.wide then 2 else 1

/-- Whether an extension, where there is one, is allowed. -/
def extOk (ok : MemExt → Bool) (ext : Option MemExt) : Bool :=
  match ext with
  | none => true
  | some e => ok e

/-- A scope wider than the cluster does not go with local memory (03 R71). -/
def localScopeOk (e : MemExt) : Bool := !(e.inLocal && (e.scope == .die || e.scope == .pkg))

/-- Extensions of `ld` (03 R71). -/
def ldExtOk (e : MemExt) : Bool :=
  (e.order == .plain || e.order == .acq) && (e.rcount == 0 || (!e.inLocal && e.order == .plain)) && localScopeOk e

/-- Extensions of `st` and `red`. -/
def stExtOk (e : MemExt) : Bool := (e.order == .plain || e.order == .rel) && e.rcount == 0 && localScopeOk e

/-- Extensions of `atom` and `cas`. -/
def atomExtOk (e : MemExt) : Bool := e.rcount == 0 && localScopeOk e

/-- Extensions of the cache operations. -/
def cacheExtOk (e : MemExt) : Bool := e.order == .plain && e.rcount == 0 && !e.inLocal

/-- Types that `cvt` converts between (21 R339). -/
def Ty.isCvt : Ty → Bool
  | .i8 | .n8 | .i16 | .n16 | .i32 | .n32 | .f32 | .f16 | .bf16 => true
  | .b8 | .b16 | .b32 | .b64 | .b128 | .i64 | .n64 | .e4m3 | .e5m2 | .e3m2 | .e2m3 | .e2m1 | .kf4 | .e8m0 | .f16x2
  | .bf16x2 => false

/-- Pairs of `cvt` (21 R339). -/
def cvtPair (dst src : Ty) : Bool := dst.isCvt && src.isCvt && dst != src

/-- Pairs of `pack` (23 R400). -/
def packPair (dst src : Ty) : Bool :=
  match dst with
  | .f16 | .bf16 | .e4m3 | .e5m2 | .e3m2 | .e2m3 | .e2m1 => src == .f32
  | .i8 | .n8 | .i16 | .n16 => src == .i32 || src == .n32
  | .b8 | .b16 | .b32 | .b64 | .b128 | .i32 | .n32 | .i64 | .n64 | .f32 | .kf4 | .e8m0 | .f16x2 | .bf16x2 => false

/-- Pairs of `unpack` (24 R434). -/
def unpackPair (dst src : Ty) : Bool :=
  match src with
  | .f16 | .bf16 | .e4m3 | .e5m2 | .e3m2 | .e2m3 | .e2m1 => dst == .f32
  | .i8 | .i16 => dst == .i32
  | .n8 | .n16 => dst == .n32
  | .b8 | .b16 | .b32 | .b64 | .b128 | .i32 | .n32 | .i64 | .n64 | .f32 | .kf4 | .e8m0 | .f16x2 | .bf16x2 => false

/-- Elements of a narrow type in one packed register (23 R400, 24 R434). -/
def packCount : Ty → Nat
  | .e2m1 => 8
  | .e4m3 | .e5m2 | .e3m2 | .e2m3 | .i8 | .n8 => 4
  | .f16 | .bf16 | .i16 | .n16 => 2
  | .b8 | .b16 | .b32 | .b64 | .b128 | .i32 | .n32 | .i64 | .n64 | .f32 | .kf4 | .e8m0 | .f16x2 | .bf16x2 => 1

/-- R63: a constant is 0 to 62; the code after it introduces a literal. -/
def VOp.ok : VOp → Bool
  | .const k => decide (k.toNat ≤ 62)
  | .reg _ | .sreg _ | .lit _ => true

/-- R64: a constant is 0 to 126. -/
def SOp.ok : SOp → Bool
  | .const k => decide (k.toNat ≤ 126)
  | .reg _ | .lit _ => true

/-- A group of n vector registers ends by v127 (03 R61). -/
def groupOk (d : VReg) (n : Nat) : Bool := decide (d.toNat + n ≤ 128)

/-- Whether an instruction has an encoding: one line for each constructor. -/
def Instr.wf (i : Instr) : Bool :=
  match i with
  | .add _ _ b => b.ok
  | .addS _ _ b => b.ok
  | .sub _ _ b => b.ok
  | .subS _ _ b => b.ok
  | .mul _ _ b => b.ok
  | .mulS _ _ b => b.ok
  | .mulhiI _ _ b => b.ok
  | .mulhiIS _ _ b => b.ok
  | .mulhiN _ _ b => b.ok
  | .mulhiNS _ _ b => b.ok
  | .mad _ _ b => b.ok
  | .madS _ _ b => b.ok
  | .minI _ _ b => b.ok
  | .minIS _ _ b => b.ok
  | .minN _ _ b => b.ok
  | .minNS _ _ b => b.ok
  | .maxI _ _ b => b.ok
  | .maxIS _ _ b => b.ok
  | .maxN _ _ b => b.ok
  | .maxNS _ _ b => b.ok
  | .and _ _ b => b.ok
  | .andS _ _ b => b.ok
  | .or _ _ b => b.ok
  | .orS _ _ b => b.ok
  | .xor _ _ b => b.ok
  | .xorS _ _ b => b.ok
  | .shl _ _ b => b.ok
  | .shlS _ _ b => b.ok
  | .shr _ _ b => b.ok
  | .shrS _ _ b => b.ok
  | .sra _ _ b => b.ok
  | .sraS _ _ b => b.ok
  | .andn _ _ b => b.ok
  | .andnS _ _ b => b.ok
  | .rol _ _ b => b.ok
  | .rolS _ _ b => b.ok
  | .absdI _ _ b => b.ok
  | .absdIS _ _ b => b.ok
  | .absdN _ _ b => b.ok
  | .absdNS _ _ b => b.ok
  | .clz _ _ => true
  | .clzS _ _ => true
  | .popc _ _ => true
  | .popcS _ _ => true
  | .brev _ _ => true
  | .brevS _ _ => true
  | .bfxI _ _ b => b.ok
  | .bfxIS _ _ b => b.ok
  | .bfxN _ _ b => b.ok
  | .bfxNS _ _ b => b.ok
  | .bfi _ _ b => b.ok
  | .bfiS _ _ b => b.ok
  | .divI _ _ b => b.ok
  | .divIS _ _ b => b.ok
  | .divN _ _ b => b.ok
  | .divNS _ _ b => b.ok
  | .remI _ _ b => b.ok
  | .remIS _ _ b => b.ok
  | .remN _ _ b => b.ok
  | .remNS _ _ b => b.ok
  | .mov _ b => b.ok
  | .movS _ b => b.ok
  | .cmp _ _ _ b => b.ok
  | .cmpS _ _ _ b => b.ok
  | .sel _ _ _ _ b => b.ok
  | .fadd _ _ _ => true
  | .faddF16x2 _ _ _ => true
  | .faddBf16x2 _ _ _ => true
  | .fsub _ _ _ => true
  | .fsubF16x2 _ _ _ => true
  | .fsubBf16x2 _ _ _ => true
  | .fmul _ _ _ => true
  | .fmulF16x2 _ _ _ => true
  | .fmulBf16x2 _ _ _ => true
  | .fma _ _ _ => true
  | .fmaF16x2 _ _ _ => true
  | .fmaBf16x2 _ _ _ => true
  | .fmin _ _ _ => true
  | .fminF16x2 _ _ _ => true
  | .fminBf16x2 _ _ _ => true
  | .fmax _ _ _ => true
  | .fmaxF16x2 _ _ _ => true
  | .fmaxBf16x2 _ _ _ => true
  | .fabs _ _ => true
  | .fabsF16x2 _ _ => true
  | .fabsBf16x2 _ _ => true
  | .fneg _ _ => true
  | .fnegF16x2 _ _ => true
  | .fnegBf16x2 _ _ => true
  | .frnd _ _ _ => true
  | .frndF16x2 _ _ _ => true
  | .frndBf16x2 _ _ _ => true
  | .fdot2F16 _ _ _ => true
  | .fdot2Bf16 _ _ _ => true
  | .fcmp _ _ _ _ => true
  | .frcp _ _ => true
  | .frsq _ _ => true
  | .fsqrt _ _ => true
  | .fexp2 _ _ => true
  | .flog2 _ _ => true
  | .fsin _ _ => true
  | .fcos _ _ => true
  | .ftanh _ _ => true
  | .cvt dst src _ _ => cvtPair dst src
  | .pack dst src _ a => packPair dst src && groupOk a (packCount dst)
  | .unpack dst src d _ => unpackPair dst src && groupOk d (packCount src)
  | .shfl _ _ _ => true
  | .bcast _ _ _ => true
  | .slup _ _ _ => true
  | .sldn _ _ _ => true
  | .compress _ _ _ => true
  | .expand _ _ _ => true
  | .scanAddI32 _ _ => true
  | .scanAddF32 _ _ => true
  | .scanMaxI32 _ _ => true
  | .scanMinI32 _ _ => true
  | .reduceAddI32 _ _ => true
  | .reduceAddF32 _ _ => true
  | .reduceMinI32 _ _ => true
  | .reduceMaxI32 _ _ => true
  | .reduceMinF32 _ _ => true
  | .reduceMaxF32 _ _ => true
  | .matchRank _ _ => true
  | .matchCnt _ _ => true
  | .matchLead _ _ => true
  | .voteAny _ _ => true
  | .voteAll _ _ => true
  | .voteBallot _ _ => true
  | .plog _ _ _ _ => true
  | .pmovPFromS _ _ => true
  | .pmovSFromP _ _ => true
  | .pcnt _ _ => true
  | .ld t d _ _ ext => t.isRegType && extOk ldExtOk ext && groupOk d t.regs
  | .st t d _ _ ext => t.isRegType && extOk stExtOk ext && groupOk d t.regs
  | .atom op d _ _ ext => extOk atomExtOk ext && groupOk d op.regs
  | .red op d _ _ ext => extOk stExtOk ext && groupOk d op.regs
  | .cas wide d _ _ ext => extOk atomExtOk ext && groupOk d (if wide then 4 else 2)
  | .pref _ _ ext => extOk cacheExtOk ext
  | .keep _ _ ext => extOk cacheExtOk ext
  | .cinv _ _ ext => extOk cacheExtOk ext
  | .cwb _ _ ext => extOk cacheExtOk ext
  | .fence _ _ _ => true
  | .barinit _ _ _ => true
  | .arrive _ _ => true
  | .bwait _ _ _ => true
  | .bsync _ _ => true
  | .bdrop _ => true
  | .waitc _ _ _ _ _ => true
  | .waitn _ _ _ _ => true
  | .cpy _ a => decide (a.toNat ≤ 61)
  | .cpyt _ _ _ => true
  | .cpym _ _ => true
  | .cpyx _ _ _ => true
  | .coll _ _ _ => true
  | .mma _ => true
  | .mrst _ => true
  | .mzero _ => true
  | .mload _ => true
  | .mdrain _ => true
  | .hist _ _ _ => true
  | .quote d _ _ => decide (1 ≤ d.toNat ∧ d.toNat ≤ 62)
  | .launch _ _ _ => true
  | .trigger => true
  | .next _ _ => true
  | .rep _ _ _ _ => true
  | .nop => true
  | .exit => true
  | .yield => true
  | .brk _ => true
  | .trap _ => true
  | .ret _ => true
  | .eret => true
  | .sysc _ => true
  | .elect _ => true
  | .wbase _ => true
  | .lexit => true
  | .strike _ => true
  | .park _ => true
  | .tlbi _ _ => true
  | .getsr d n => decide (n = 0 ∨ d.toNat < 64)
  | .setsr _ _ => true
  | .bra _ => true
  | .brs _ _ _ => true
  | .brp _ _ _ => true
  | .call _ => true
  | .jmp _ _ => true
  | .enrol _ _ => true
  | .loop _ _ => true
  | .asyncTrapEntry _ => true
  | .loadReturn _ _ => true
  | .storePerformed _ _ => true
  | .cacheWalkDone _ => true
  | .waitcPoll _ => true
  | .packetArrive _ _ _ => true
  | .packetDeliver _ _ => true
  | .floorBeatSend _ _ => true
  | .floorBeatReceive _ _ => true
  | .tokenBucketReady _ => true
  | .resealZero => true
  | .resealReenable => true
  | .linkWidthChangeDone _ => true
  | .copySlice _ _ => true
  | .copyComplete _ _ _ => true
  | .collectiveComplete _ _ _ _ => true
  | .matrixCommandComplete _ _ => true
  | .engineWake _ _ _ => true
  | .headLaunchTake _ _ => true
  | .prologueRun _ _ => true
  | .waitsigSatisfied _ _ => true
  | .placerPass _ => true
  | .headGangAgeTimeout _ _ => true
  | .overflowMove _ _ => true
  | .gangRetire _ => true
  | .switchDrain _ _ => true
  | .switchWriteBack _ _ => true
  | .switchSave _ _ => true
  | .switchClear _ _ => true
  | .switchAdmit _ _ => true
  | .voltageStep _ _ => true
  | .voltageReached _ _ => true
  | .ceilingEffective _ => true
  | .cmdBind _ => true
  | .cmdUnbind _ => true
  | .cmdKillContext _ => true
  | .cmdReseal _ => true
  | .cmdAttestationReport _ => true
  | .cmdExtendMeas7 _ => true
  | .cmdExportImportWithdraw _ => true
  | .cmdChainJoinLeave _ => true
  | .cmdReadTelemetry _ => true
  | .reservedEncoding => true
  | .literalWordAtInstructionStart => true
  | .instructionFetchFault => true
  | .membershipChangeEffective _ => true
  | .mailboxReservedOp _ => true
  | .faultResolved _ _ _ _ _ => true
  | .faultUnresolvable _ _ _ => true
  | .departure _ => true
  | .resealStop _ => true
  | .causewayWidthChooser _ _ _ => true
  | .collectiveAbandon _ _ => true
  | .doorbellWrite _ _ _ => true
  | .switchStop _ _ _ => true
  | .kill _ _ _ => true
  | .uncorrectableError _ _ _ _ => true
  | .rateBroadcast => true
  | .rateIntegratorStep _ _ _ => true
  | .limiterSample _ _ => true
  | .emergencyStep _ => true
  | .stallSampleEnd _ _ _ _ _ => true
  | .prefetchDepthChooser _ _ _ _ => true
  | .skewBiasDecay => true
  | .clusterWake _ _ => true
  | .clusterGate _ _ => true
  | .ceilingRepublish _ => true
  | .chainCeilingMessage _ _ _ _ _ => true
  | .chainJoin _ _ _ _ _ => true
  | .chainSnapshot _ _ _ _ _ => true
  | .chainLeave _ _ _ _ _ => true
  | .chainRemove _ _ _ _ _ => true
  | .chainSilenceTimeout _ _ => true
  | .pcapWrite _ => true
  | .prateWrite _ => true
  | .pstatWrite _ => true
  | .pfloorWrite _ _ _ => true
  | .clkreqRelease _ _ _ => true
  | .clkreqPinDelta _ _ _ => true
  | .clkreqPinPoint _ _ _ => true
  | .clkdieWrite _ _ => true
  | .hintdropClear _ _ => true
  | .elostClear => true
  | .dieReset _ => true
  | .packageReset => true
  | .bootStage _ _ _ => true
  | .registerWrite _ _ _ => true
  | .thermalLimitChange _ _ => true
  | .softErrorCorrected _ => true
  | .hbmStackInitDone => true
  | .clkreqReservedMode _ _ _ => true

end Sys2Proof
end

