-- ==== Sys2Proof/Decode.lean ====
section
/-!
DEFINITION. The decoder, total on any words and rejecting by name, and after it the encoder, written from the same
tables (03 R55 to R79). Bit fields are taken with division and remainder.
-/

namespace Sys2Proof

/-- Why a word is no instruction (03 R59 to R71); all but the first trap with ILLOP. -/
inductive DecodeError where
  /-- A literal word where an instruction starts (R59). -/
  | literalWord
  /-- A major that R66 reserves. -/
  | reservedMajor
  /-- A reserved fn, op, condition or cache operation (R67). -/
  | reservedFn
  /-- A field that must be zero is not (R62). -/
  | nonZeroField
  /-- A register field outside its class (R61). -/
  | registerRange
  /-- A group of registers past the last name of its class (R61). -/
  | registerGroup
  /-- S = 1 and b = 127 without a literal word (R60). -/
  | missingLiteral
  /-- A type that the instruction does not take (R72). -/
  | wrongType
  /-- A memory extension that R71 does not allow. -/
  | memoryExtension
deriving DecidableEq, Repr

/-- What the decoder answers. -/
abbrev Decoded := Except DecodeError Instr

/-- The `n` bits of `w` from bit `lo` up. -/
def fld (w lo n : Nat) : Nat := w / 2 ^ lo % 2 ^ n

/-- R58: bits [31:27] are 11111. -/
def isLiteral (w : Nat) : Bool := fld w 27 5 == 31

/-- A field that must be zero. -/
def zero (x : Nat) (k : Decoded) : Decoded := if x = 0 then k else .error .nonZeroField

/-- A field that names a scalar register (02 R36). -/
def sreg (x : Nat) (k : SReg → Decoded) : Decoded :=
  if x < 64 then k (BitVec.ofNat 6 x) else .error .registerRange

/-- A field that names a predicate register or a rejoin mask (02 R37). -/
def preg (x : Nat) (k : PReg → Decoded) : Decoded :=
  if x < 8 then k (BitVec.ofNat 3 x) else .error .registerRange

/-- The vector register that the 7-bit field at `lo` names. -/
def vreg (w lo : Nat) : VReg := BitVec.ofNat 7 (fld w lo 7)

/-- R63: the b operand of a vector-integer member. -/
def vop (w : Nat) (nx : Option Nat) (k : VOp → Decoded) : Decoded :=
  let b := fld w 0 7
  if fld w 21 1 = 0 then k (.reg (BitVec.ofNat 7 b))
  else if b < 64 then k (.sreg (BitVec.ofNat 6 b))
  else if b < 127 then k (.const (BitVec.ofNat 6 (b - 64)))
  else match nx with
    | some l => if isLiteral l then k (.lit (BitVec.ofNat 27 l)) else .error .missingLiteral
    | none => .error .missingLiteral

/-- R64: the b operand of a scalar member. -/
def sop (w : Nat) (nx : Option Nat) (k : SOp → Decoded) : Decoded :=
  let b := fld w 0 7
  if fld w 21 1 = 0 then sreg b fun r => k (.reg r)
  else if b < 127 then k (.const (BitVec.ofNat 7 b))
  else match nx with
    | some l => if isLiteral l then k (.lit (BitVec.ofNat 27 l)) else .error .missingLiteral
    | none => .error .missingLiteral

/-- The binary member `c` of VIA or VIB. -/
def decVBinary (w : Nat) (nx : Option Nat) (c : VReg → VReg → VOp → Instr) : Decoded :=
  vop w nx fun b => .ok (c (vreg w 14) (vreg w 7) b)

/-- A unary member of VIB: S = 0 and b = 0. -/
def decVUnary (w : Nat) (c : VReg → VReg → Instr) : Decoded :=
  zero (fld w 21 1) <| zero (fld w 0 7) <| .ok (c (vreg w 14) (vreg w 7))

/-- `mov` of VIB: a = 0. -/
def decVMov (w : Nat) (nx : Option Nat) (c : VReg → VOp → Instr) : Decoded :=
  zero (fld w 7 7) <| vop w nx fun b => .ok (c (vreg w 14) b)

/-- The binary member `c` of SIA or SIB. -/
def decABinary (w : Nat) (nx : Option Nat) (c : SReg → SReg → SOp → Instr) : Decoded :=
  sreg (fld w 14 7) fun d => sreg (fld w 7 7) fun a => sop w nx fun b => .ok (c d a b)

/-- A unary member of SIB. -/
def decAUnary (w : Nat) (c : SReg → SReg → Instr) : Decoded :=
  zero (fld w 21 1) <| zero (fld w 0 7) <|
    sreg (fld w 14 7) fun d => sreg (fld w 7 7) fun a => .ok (c d a)

/-- `mov` of SIB. -/
def decAMov (w : Nat) (nx : Option Nat) (c : SReg → SOp → Instr) : Decoded :=
  zero (fld w 7 7) <| sreg (fld w 14 7) fun d => sop w nx fun b => .ok (c d b)

/-- A member with d, a and b all vector registers. -/
def decTernary (w : Nat) (c : VReg → VReg → VReg → Instr) : Decoded :=
  .ok (c (vreg w 14) (vreg w 7) (vreg w 0))

/-- A member with d and a vector registers and b = 0. -/
def decUnary (w : Nat) (c : VReg → VReg → Instr) : Decoded :=
  zero (fld w 0 7) <| .ok (c (vreg w 14) (vreg w 7))


/-- Major 0x08, VIA (03 R66). -/
def decVIA (w : Nat) (nx : Option Nat) : Decoded :=
  match fld w 22 4 with
  | 0 => decVBinary w nx .add
  | 1 => decVBinary w nx .sub
  | 2 => decVBinary w nx .mul
  | 3 => decVBinary w nx .mulhiI
  | 4 => decVBinary w nx .mulhiN
  | 5 => decVBinary w nx .mad
  | 6 => decVBinary w nx .minI
  | 7 => decVBinary w nx .minN
  | 8 => decVBinary w nx .maxI
  | 9 => decVBinary w nx .maxN
  | 10 => decVBinary w nx .and
  | 11 => decVBinary w nx .or
  | 12 => decVBinary w nx .xor
  | 13 => decVBinary w nx .shl
  | 14 => decVBinary w nx .shr
  | 15 => decVBinary w nx .sra
  | _ => .error .reservedFn

/-- Major 0x09, VIB (03 R66). -/
def decVIB (w : Nat) (nx : Option Nat) : Decoded :=
  match fld w 22 4 with
  | 0 => decVBinary w nx .andn
  | 1 => decVBinary w nx .rol
  | 2 => decVBinary w nx .absdI
  | 3 => decVBinary w nx .absdN
  | 4 => decVUnary w .clz
  | 5 => decVUnary w .popc
  | 6 => decVUnary w .brev
  | 7 => decVBinary w nx .bfxI
  | 8 => decVBinary w nx .bfxN
  | 9 => decVBinary w nx .bfi
  | 10 => decVBinary w nx .divI
  | 11 => decVBinary w nx .divN
  | 12 => decVBinary w nx .remI
  | 13 => decVBinary w nx .remN
  | 14 => decVMov w nx .mov
  | _ => .error .reservedFn

/-- Major 0x0C, SIA. -/
def decSIA (w : Nat) (nx : Option Nat) : Decoded :=
  match fld w 22 4 with
  | 0 => decABinary w nx .addS
  | 1 => decABinary w nx .subS
  | 2 => decABinary w nx .mulS
  | 3 => decABinary w nx .mulhiIS
  | 4 => decABinary w nx .mulhiNS
  | 5 => decABinary w nx .madS
  | 6 => decABinary w nx .minIS
  | 7 => decABinary w nx .minNS
  | 8 => decABinary w nx .maxIS
  | 9 => decABinary w nx .maxNS
  | 10 => decABinary w nx .andS
  | 11 => decABinary w nx .orS
  | 12 => decABinary w nx .xorS
  | 13 => decABinary w nx .shlS
  | 14 => decABinary w nx .shrS
  | 15 => decABinary w nx .sraS
  | _ => .error .reservedFn

/-- Major 0x0D, SIB. -/
def decSIB (w : Nat) (nx : Option Nat) : Decoded :=
  match fld w 22 4 with
  | 0 => decABinary w nx .andnS
  | 1 => decABinary w nx .rolS
  | 2 => decABinary w nx .absdIS
  | 3 => decABinary w nx .absdNS
  | 4 => decAUnary w .clzS
  | 5 => decAUnary w .popcS
  | 6 => decAUnary w .brevS
  | 7 => decABinary w nx .bfxIS
  | 8 => decABinary w nx .bfxNS
  | 9 => decABinary w nx .bfiS
  | 10 => decABinary w nx .divIS
  | 11 => decABinary w nx .divNS
  | 12 => decABinary w nx .remIS
  | 13 => decABinary w nx .remNS
  | 14 => decAMov w nx .movS
  | _ => .error .reservedFn

/-- Major 0x10, VF32 (22 R348). -/
def decVF32 (w : Nat) : Decoded :=
  match fld w 21 5 with
  | 0 => decTernary w .fadd
  | 1 => decTernary w .fsub
  | 2 => decTernary w .fmul
  | 3 => decTernary w .fma
  | 4 => decTernary w .fmin
  | 5 => decTernary w .fmax
  | 6 => decUnary w .fabs
  | 7 => decUnary w .fneg
  | 8 => decUnary w (.frnd .ne)
  | 9 => decUnary w (.frnd .z)
  | 10 => decUnary w (.frnd .dn)
  | 11 => decUnary w (.frnd .up)
  | 12 => decTernary w .fdot2F16
  | 13 => decTernary w .fdot2Bf16
  | _ => .error .reservedFn

/-- Major 0x11, VF16X2 (22 R348). -/
def decVF16 (w : Nat) : Decoded :=
  match fld w 21 5 with
  | 0 => decTernary w .faddF16x2
  | 1 => decTernary w .fsubF16x2
  | 2 => decTernary w .fmulF16x2
  | 3 => decTernary w .fmaF16x2
  | 4 => decTernary w .fminF16x2
  | 5 => decTernary w .fmaxF16x2
  | 6 => decUnary w .fabsF16x2
  | 7 => decUnary w .fnegF16x2
  | 8 => decUnary w (.frndF16x2 .ne)
  | 9 => decUnary w (.frndF16x2 .z)
  | 10 => decUnary w (.frndF16x2 .dn)
  | 11 => decUnary w (.frndF16x2 .up)
  | _ => .error .reservedFn

/-- Major 0x12, VBF16X2 (22 R348). -/
def decVBF16 (w : Nat) : Decoded :=
  match fld w 21 5 with
  | 0 => decTernary w .faddBf16x2
  | 1 => decTernary w .fsubBf16x2
  | 2 => decTernary w .fmulBf16x2
  | 3 => decTernary w .fmaBf16x2
  | 4 => decTernary w .fminBf16x2
  | 5 => decTernary w .fmaxBf16x2
  | 6 => decUnary w .fabsBf16x2
  | 7 => decUnary w .fnegBf16x2
  | 8 => decUnary w (.frndBf16x2 .ne)
  | 9 => decUnary w (.frndBf16x2 .z)
  | 10 => decUnary w (.frndBf16x2 .dn)
  | 11 => decUnary w (.frndBf16x2 .up)
  | _ => .error .reservedFn

/-- Major 0x14, SFU (22 R352). -/
def decSFU (w : Nat) : Decoded :=
  match fld w 21 5 with
  | 0 => decUnary w .frcp
  | 1 => decUnary w .frsq
  | 2 => decUnary w .fsqrt
  | 3 => decUnary w .fexp2
  | 4 => decUnary w .flog2
  | 5 => decUnary w .fsin
  | 6 => decUnary w .fcos
  | 7 => decUnary w .ftanh
  | _ => .error .reservedFn

/-- Major 0x18, XLANE (03 R66). -/
def decXLane (w : Nat) : Decoded :=
  match fld w 21 5 with
  | 0 => decTernary w .shfl
  | 1 => zero (fld w 6 1) (.ok (.bcast (vreg w 14) (vreg w 7) (BitVec.ofNat 6 (fld w 0 6))))
  | 2 => zero (fld w 6 1) (.ok (.slup (vreg w 14) (vreg w 7) (BitVec.ofNat 6 (fld w 0 6))))
  | 3 => zero (fld w 6 1) (.ok (.sldn (vreg w 14) (vreg w 7) (BitVec.ofNat 6 (fld w 0 6))))
  | 4 => preg (fld w 0 7) fun p => .ok (.compress (vreg w 14) (vreg w 7) p)
  | 5 => preg (fld w 0 7) fun p => .ok (.expand (vreg w 14) (vreg w 7) p)
  | 6 => decUnary w .scanAddI32
  | 7 => decUnary w .scanAddF32
  | 8 => decUnary w .scanMaxI32
  | 9 => decUnary w .scanMinI32
  | 10 => decUnary w .reduceAddI32
  | 11 => decUnary w .reduceAddF32
  | 12 => decUnary w .reduceMinI32
  | 13 => decUnary w .reduceMaxI32
  | 14 => decUnary w .reduceMinF32
  | 15 => decUnary w .reduceMaxF32
  | 16 => decUnary w .matchRank
  | 17 => decUnary w .matchCnt
  | 18 => preg (fld w 14 7) fun p => zero (fld w 0 7) (.ok (.matchLead p (vreg w 7)))
  | 19 => preg (fld w 14 7) fun d => preg (fld w 7 7) fun a => zero (fld w 0 7) (.ok (.voteAny d a))
  | 20 => preg (fld w 14 7) fun d => preg (fld w 7 7) fun a => zero (fld w 0 7) (.ok (.voteAll d a))
  | 21 => sreg (fld w 14 7) fun d => preg (fld w 7 7) fun a => zero (fld w 0 7) (.ok (.voteBallot d a))
  | _ => .error .reservedFn

/-- The condition of `cmp` that an op value selects (21 R330). -/
def cmpCond (op : Nat) : Option CmpCond :=
  match op with
  | 0 => some .eq | 1 => some .ne | 2 => some .ltI | 3 => some .leI | 4 => some .gtI
  | 5 => some .geI | 6 => some .ltN | 7 => some .leN | 8 => some .gtN | 9 => some .geN
  | _ => none

/-- The op value of a condition of `cmp`. -/
def cmpCode : CmpCond → Nat
  | .eq => 0 | .ne => 1 | .ltI => 2 | .leI => 3 | .gtI => 4
  | .geI => 5 | .ltN => 6 | .leN => 7 | .gtN => 8 | .geN => 9

/-- The condition of `fcmp` that an fn value selects (22 R351). -/
def fcmpCond (fn : Nat) : Option FCmpCond :=
  match fn with
  | 0 => some .eq | 1 => some .ne | 2 => some .lt | 3 => some .le
  | 4 => some .gt | 5 => some .ge | 6 => some .ord | 7 => some .unord
  | _ => none

/-- The fn value of a condition of `fcmp`. -/
def fcmpCode : FCmpCond → Nat
  | .eq => 0 | .ne => 1 | .lt => 2 | .le => 3 | .gt => 4 | .ge => 5 | .ord => 6 | .unord => 7

/-- The condition of `brs` that cnd selects (21 R323). -/
def brsCond (cnd : Nat) : Option BrsCond :=
  match cnd with
  | 0 => some .z | 1 => some .nz | 2 => some .lt | 3 => some .ge | 4 => some .gt | 5 => some .le
  | _ => none

/-- The cnd value of a condition of `brs`. -/
def brsCode : BrsCond → Nat
  | .z => 0 | .nz => 1 | .lt => 2 | .ge => 3 | .gt => 4 | .le => 5

/-- The condition of `waitc` that fn[3:0] selects (24 R437). -/
def waitCond (cond : Nat) : Option WaitCond :=
  match cond with
  | 0 => some .eq | 1 => some .ne | 2 => some .geN | 3 => some .gtN | 4 => some .geI | 5 => some .gtI
  | _ => none

/-- The fn[3:0] value of a condition of `waitc`. -/
def waitCode : WaitCond → Nat
  | .eq => 0 | .ne => 1 | .geN => 2 | .gtN => 3 | .geI => 4 | .gtI => 5

/-- fn minus 8 of a direction of `frnd` (22 R364). -/
def rndCode : RndDir → Nat
  | .ne => 0 | .z => 1 | .dn => 2 | .up => 3

/-- The fn value of a member of `plog` (23 R404). -/
def plogCode : PlogOp → Nat
  | .and => 0 | .or => 1 | .xor => 2 | .andn => 3

/-- The fn value of a member of `fence` (22 R355). -/
def fenceCode : FenceKind → Nat
  | .acq => 0 | .rel => 1 | .acqrel => 2

/-- The type of a type code (03 R72). -/
def tyOf (code : Nat) : Option Ty :=
  match code with
  | 0 => some .b8 | 1 => some .b16 | 2 => some .b32 | 3 => some .b64 | 4 => some .b128
  | 5 => some .i8 | 6 => some .n8 | 7 => some .i16 | 8 => some .n16 | 9 => some .i32
  | 10 => some .n32 | 11 => some .i64 | 12 => some .n64 | 13 => some .f32 | 14 => some .f16
  | 15 => some .bf16 | 16 => some .e4m3 | 17 => some .e5m2 | 18 => some .e3m2 | 19 => some .e2m3
  | 20 => some .e2m1 | 21 => some .kf4 | 22 => some .e8m0 | 23 => some .f16x2 | 24 => some .bf16x2
  | _ => none

/-- The code of a type. -/
def tyCode : Ty → Nat
  | .b8 => 0 | .b16 => 1 | .b32 => 2 | .b64 => 3 | .b128 => 4 | .i8 => 5 | .n8 => 6 | .i16 => 7
  | .n16 => 8 | .i32 => 9 | .n32 => 10 | .i64 => 11 | .n64 => 12 | .f32 => 13 | .f16 => 14
  | .bf16 => 15 | .e4m3 => 16 | .e5m2 => 17 | .e3m2 => 18 | .e2m3 => 19 | .e2m1 => 20 | .kf4 => 21
  | .e8m0 => 22 | .f16x2 => 23 | .bf16x2 => 24

/-- The operation of an atomic operation code (03 R74). -/
def atomOp (code : Nat) : Option AtomOp :=
  match code with
  | 0 => some .addB32 | 1 => some .addB64 | 2 => some .addF32 | 3 => some .minI32 | 4 => some .minN32
  | 5 => some .maxI32 | 6 => some .maxN32 | 7 => some .andB32 | 8 => some .orB32 | 9 => some .xorB32
  | 10 => some .exchB32 | 11 => some .exchB64 | 12 => some .incN32 | 13 => some .minF32
  | 14 => some .maxF32 | 15 => some .addBf16x2 | 16 => some .minI64 | 17 => some .maxN64
  | _ => none

/-- The code of an atomic operation. -/
def atomCode : AtomOp → Nat
  | .addB32 => 0 | .addB64 => 1 | .addF32 => 2 | .minI32 => 3 | .minN32 => 4 | .maxI32 => 5
  | .maxN32 => 6 | .andB32 => 7 | .orB32 => 8 | .xorB32 => 9 | .exchB32 => 10 | .exchB64 => 11
  | .incN32 => 12 | .minF32 => 13 | .maxF32 => 14 | .addBf16x2 => 15 | .minI64 => 16 | .maxN64 => 17

/-- The scope of a scope code (03 R73). -/
def scopeOf (code : Nat) : Option Scope :=
  match code with
  | 0 => some .wg | 1 => some .gang | 2 => some .cluster | 3 => some .die | 4 => some .pkg
  | _ => none

/-- The code of a scope. -/
def scopeCode : Scope → Nat
  | .wg => 0 | .gang => 1 | .cluster => 2 | .die => 3 | .pkg => 4

/-- ORDER of a memory extension. -/
def orderOf (x : Nat) : MemOrder :=
  match x with
  | 0 => .plain | 1 => .acq | 2 => .rel | _ => .acqrel

/-- The code of an ORDER. -/
def orderCode : MemOrder → Nat
  | .plain => 0 | .acq => 1 | .rel => 2 | .acqrel => 3

/-- Continue with a selected member, or reject. -/
def sel {α : Type} (x : Option α) (e : DecodeError) (k : α → Decoded) : Decoded :=
  match x with
  | some a => k a
  | none => .error e

/-- R69: the memory extension that a following literal word carries; a word that is no literal is not part of the
instruction. -/
def memExt (nx : Option Nat) (k : Option MemExt → Decoded) : Decoded :=
  match nx with
  | none => k none
  | some l =>
    if isLiteral l then
      sel (scopeOf (fld l 22 3)) .memoryExtension fun sc =>
        k (some ⟨orderOf (fld l 25 2), sc, fld l 21 1 == 1, BitVec.ofNat 4 (fld l 17 4),
          BitVec.ofNat 2 (fld l 15 2), BitVec.ofNat 15 l⟩)
    else k none

/-- A memory instruction whose extension must meet `ok` (R71). -/
def decMem (nx : Option Nat) (ok : MemExt → Bool) (k : Option MemExt → Decoded) : Decoded :=
  memExt nx fun ext =>
    if extOk ok ext then k ext else .error .memoryExtension

/-- A group of `n` vector registers from the field at `lo` must end by v127 (R61). -/
def group (w lo n : Nat) (k : VReg → Decoded) : Decoded :=
  if fld w lo 7 + n ≤ 128 then k (vreg w lo) else .error .registerGroup

/-- Majors 0x1A to 0x1F (03 R69 to R74). -/
def decMemory (major w : Nat) (nx : Option Nat) : Decoded :=
  let b := vreg w 5
  match major with
  | 26 =>
    sel (tyOf (fld w 0 5)) .wrongType fun t => if t.isRegType = false then .error .wrongType else
      decMem nx ldExtOk fun ext => sreg (fld w 12 7) fun a => group w 19 t.regs fun d => .ok (.ld t d a b ext)
  | 27 =>
    sel (tyOf (fld w 0 5)) .wrongType fun t => if t.isRegType = false then .error .wrongType else
      decMem nx stExtOk fun ext => sreg (fld w 12 7) fun a => group w 19 t.regs fun d => .ok (.st t d a b ext)
  | 28 =>
    sel (atomOp (fld w 0 5)) .reservedFn fun op =>
      decMem nx atomExtOk fun ext => sreg (fld w 12 7) fun a => group w 19 op.regs fun d => .ok (.atom op d a b ext)
  | 29 =>
    sel (atomOp (fld w 0 5)) .reservedFn fun op =>
      decMem nx stExtOk fun ext => sreg (fld w 12 7) fun a => group w 19 op.regs fun d => .ok (.red op d a b ext)
  | 30 =>
    match fld w 0 5 with
    | 2 => decMem nx atomExtOk fun ext => sreg (fld w 12 7) fun a => group w 19 2 fun d => .ok (.cas false d a b ext)
    | 3 => decMem nx atomExtOk fun ext => sreg (fld w 12 7) fun a => group w 19 4 fun d => .ok (.cas true d a b ext)
    | _ => .error .wrongType
  | _ =>
    zero (fld w 19 7) <|
    match fld w 0 5 with
    | 0 => decMem nx cacheExtOk fun ext => sreg (fld w 12 7) fun a => .ok (.pref a b ext)
    | 1 => decMem nx cacheExtOk fun ext => sreg (fld w 12 7) fun a => .ok (.keep a b ext)
    | 2 => decMem nx cacheExtOk fun ext => sreg (fld w 12 7) fun a => .ok (.cinv a b ext)
    | 3 => decMem nx cacheExtOk fun ext => sreg (fld w 12 7) fun a => .ok (.cwb a b ext)
    | _ => .error .reservedFn

/-- Major 0x00, MISC (03 R66, R68). -/
def decMisc (w : Nat) : Decoded :=
  let d := fld w 14 7
  let a := fld w 7 7
  let imm := fld w 0 7
  match fld w 21 5 with
  | 0 => zero d <| zero a <| zero imm (.ok .nop)
  | 1 => zero d <| zero a <| zero imm (.ok .exit)
  | 2 => zero d <| zero a <| zero imm (.ok .yield)
  | 3 => zero d <| zero a (.ok (.brk (BitVec.ofNat 7 imm)))
  | 4 => zero d <| zero a (.ok (.trap (BitVec.ofNat 7 imm)))
  | 5 => zero d <| zero imm <| sreg a fun r => .ok (.ret r)
  | 6 => zero d <| zero a <| zero imm (.ok .eret)
  | 7 => zero d <| zero a (.ok (.sysc (BitVec.ofNat 7 imm)))
  | 8 => zero a <| zero imm <| preg d fun p => .ok (.elect p)
  | 9 => zero d <| zero a (.ok (.wbase (BitVec.ofNat 7 imm)))
  | 10 => zero d <| zero a <| zero imm (.ok .lexit)
  | 11 => zero a <| zero imm <| preg d fun j => .ok (.strike j)
  | 12 => zero a <| zero imm <| preg d fun j => .ok (.park j)
  | 13 => zero d <| sreg a fun r =>
      match imm with
      | 0 => .ok (.tlbi r false)
      | 1 => .ok (.tlbi r true)
      | _ => .error .reservedFn
  | 14 => zero a <| if imm = 0 ∨ d < 64 then .ok (.getsr (BitVec.ofNat 7 d) (BitVec.ofNat 7 imm))
      else .error .registerRange
  | 15 => zero d <| sreg a fun r => .ok (.setsr (BitVec.ofNat 7 imm) r)
  | _ => .error .reservedFn

/-- Major 0x19, PRED (03 R68). -/
def decPred (w : Nat) : Decoded :=
  let d := fld w 14 7
  let a := fld w 7 7
  let b := fld w 0 7
  match fld w 21 5 with
  | 0 => preg d fun d => preg a fun a => preg b fun b => .ok (.plog .and d a b)
  | 1 => preg d fun d => preg a fun a => preg b fun b => .ok (.plog .or d a b)
  | 2 => preg d fun d => preg a fun a => preg b fun b => .ok (.plog .xor d a b)
  | 3 => preg d fun d => preg a fun a => preg b fun b => .ok (.plog .andn d a b)
  | 4 => preg d fun d => sreg a fun a => zero b (.ok (.pmovPFromS d a))
  | 5 => sreg d fun d => preg a fun a => zero b (.ok (.pmovSFromP d a))
  | 6 => sreg d fun d => preg a fun a => zero b (.ok (.pcnt d a))
  | _ => .error .reservedFn

/-- Majors 0x20 and 0x21, FENCE and BAR (03 R75, R76). -/
def decFence (w : Nat) : Decoded :=
  let k := match fld w 21 5 with
    | 0 => some FenceKind.acq
    | 1 => some FenceKind.rel
    | 2 => some FenceKind.acqrel
    | _ => none
  sel k .reservedFn fun k => zero (fld w 14 7) <| zero (fld w 7 7) <|
    sel (scopeOf (fld w 0 3)) .reservedFn fun sc => .ok (.fence k (BitVec.ofNat 4 (fld w 3 4)) sc)

/-- Major 0x21, BAR. -/
def decBar (w : Nat) : Decoded :=
  let d := fld w 14 7
  let a := fld w 7 7
  let o := BitVec.ofNat 4 (fld w 0 4)
  zero (fld w 4 3) <|
  match fld w 21 5 with
  | 0 => sreg d fun d => sreg a fun a => .ok (.barinit o d a)
  | 1 => zero a <| sreg d fun d => .ok (.arrive d o)
  | 2 => sreg d fun d => sreg a fun a => .ok (.bwait d o a)
  | 3 => zero a <| sreg d fun d => .ok (.bsync d o)
  | 4 => zero d <| zero a (.ok (.bdrop o))
  | _ => .error .reservedFn

/-- Major 0x24, COPY (09 R189). -/
def decCopy (w : Nat) : Decoded :=
  let b := fld w 0 7
  sreg (fld w 14 7) fun d => sreg (fld w 7 7) fun a =>
  match fld w 21 5 with
  | 0 => zero b <| if a.toNat ≤ 61 then .ok (.cpy d a) else .error .registerGroup
  | 1 => match b with
    | 0 => .ok (.cpyt d a false)
    | 1 => .ok (.cpyt d a true)
    | _ => .error .reservedFn
  | 2 => zero b (.ok (.cpym d a))
  | 3 => sreg b fun b => .ok (.cpyx d a b)
  | 4 => sreg b fun b => .ok (.coll d a b)
  | _ => .error .reservedFn

/-- Major 0x25, MATRIX (09 R203). -/
def decMatrix (w : Nat) : Decoded :=
  let d := fld w 14 7
  let b := fld w 0 7
  sreg (fld w 7 7) fun a =>
  match fld w 21 5 with
  | 0 => zero d <| zero b (.ok (.mma a))
  | 1 => zero d <| zero b (.ok (.mrst a))
  | 2 => zero d <| zero b (.ok (.mzero a))
  | 3 => zero d <| zero b (.ok (.mload a))
  | 4 => zero d <| zero b (.ok (.mdrain a))
  | 5 => zero d <| zero (fld w 4 3) (.ok (.hist a (fld w 3 1 == 1) (BitVec.ofNat 3 (fld w 0 3))))
  | 6 => if 1 ≤ d ∧ d ≤ 62 then
      match b with
      | 0 => .ok (.quote (BitVec.ofNat 6 d) a false)
      | 1 => .ok (.quote (BitVec.ofNat 6 d) a true)
      | _ => .error .reservedFn
    else .error .registerGroup
  | _ => .error .reservedFn

/-- Major 0x26, LAUNCH (14 R236). -/
def decLaunch (w : Nat) : Decoded :=
  let d := fld w 14 7
  let a := fld w 7 7
  let b := fld w 0 7
  match fld w 21 5 with
  | 0 => sreg d fun d => sreg a fun a => sreg b fun b => .ok (.launch d a b)
  | 1 => zero d <| zero a <| zero b (.ok .trigger)
  | 2 => zero a <| sreg d fun d => preg b fun p => .ok (.next d p)
  | _ => .error .reservedFn

/-- The pairs of `cvt`, `pack` and `unpack` (03 R68). -/
def decPair (w : Nat) (ok : Ty → Ty → Bool) (regs : Ty → Nat) (lo : Nat) (c : Ty → Ty → VReg → VReg → Instr) : Decoded :=
  zero (fld w 5 2) <|
  sel (tyOf (fld w 21 5)) .wrongType fun dst => sel (tyOf (fld w 0 5)) .wrongType fun src =>
    if ok dst src = false then .error .wrongType
    else if fld w lo 7 + regs (if lo = 7 then dst else src) ≤ 128 then .ok (c dst src (vreg w 14) (vreg w 7))
    else .error .registerGroup

/-- The whole decoder: an instruction word and the word after it, where there is one. -/
def decode (w : Nat) (nx : Option Nat) : Decoded :=
  match fld w 26 6 with
  | 0 => decMisc w
  | 1 => .ok (.bra (BitVec.ofNat 26 w))
  | 2 => sel (brsCond (fld w 22 4)) .reservedFn fun c => sreg (fld w 15 7) fun a => .ok (.brs c a (BitVec.ofNat 15 w))
  | 3 => zero (fld w 21 1) <|
      .ok (.brp (BitVec.ofNat 3 (fld w 23 3)) (fld w 22 1 == 1) (BitVec.ofNat 21 w))
  | 4 => .ok (.call (BitVec.ofNat 26 w))
  | 5 => if fld w 21 5 = 0 then
      sreg (fld w 14 7) fun d => sreg (fld w 7 7) fun a => zero (fld w 0 7) (.ok (.jmp d a))
    else .error .reservedFn
  | 6 => zero (fld w 21 2) <| .ok (.enrol (BitVec.ofNat 3 (fld w 23 3)) (BitVec.ofNat 21 w))
  | 7 => if fld w 25 1 = 1 then .ok (.loop (.imm (BitVec.ofNat 7 (fld w 18 7))) (BitVec.ofNat 18 w))
    else sreg (fld w 18 7) fun c => .ok (.loop (.reg c) (BitVec.ofNat 18 w))
  | 8 => decVIA w nx
  | 9 => decVIB w nx
  | 10 => sel (cmpCond (fld w 22 4)) .reservedFn fun c => preg (fld w 14 7) fun p =>
      vop w nx fun b => .ok (.cmp c p (vreg w 7) b)
  | 11 => vop w nx fun b =>
      .ok (.sel (BitVec.ofNat 3 (fld w 23 3)) (fld w 22 1 == 1) (vreg w 14) (vreg w 7) b)
  | 12 => decSIA w nx
  | 13 => decSIB w nx
  | 14 => sel (cmpCond (fld w 22 4)) .reservedFn fun c => decABinary w nx (.cmpS c)
  | 16 => decVF32 w
  | 17 => decVF16 w
  | 18 => decVBF16 w
  | 19 => sel (fcmpCond (fld w 21 5)) .reservedFn fun c => preg (fld w 14 7) fun p =>
      .ok (.fcmp c p (vreg w 7) (vreg w 0))
  | 20 => decSFU w
  | 21 => decPair w cvtPair (fun _ => 1) 7 .cvt
  | 22 => decPair w packPair packCount 7 .pack
  | 23 => decPair w unpackPair packCount 14 .unpack
  | 24 => decXLane w
  | 25 => decPred w
  | 26 => decMemory 26 w nx
  | 27 => decMemory 27 w nx
  | 28 => decMemory 28 w nx
  | 29 => decMemory 29 w nx
  | 30 => decMemory 30 w nx
  | 31 => decMemory 31 w nx
  | 32 => decFence w
  | 33 => decBar w
  | 34 => sel (waitCond (fld w 21 4)) .reservedFn fun c => sreg (fld w 14 7) fun d =>
      sreg (fld w 7 7) fun a => sreg (fld w 0 7) fun b => .ok (.waitc c (fld w 25 1 == 1) d a b)
  | 35 => zero (fld w 0 6) <| .ok (.waitn (BitVec.ofNat 5 (fld w 21 5)) (BitVec.ofNat 5 (fld w 16 5))
      (BitVec.ofNat 5 (fld w 11 5)) (BitVec.ofNat 5 (fld w 6 5)))
  | 36 => decCopy w
  | 37 => decMatrix w
  | 38 => decLaunch w
  | 61 => zero (fld w 0 14) <| .ok (.rep (BitVec.ofNat 6 (fld w 20 6)) (BitVec.ofNat 2 (fld w 18 2))
      (BitVec.ofNat 2 (fld w 16 2)) (BitVec.ofNat 2 (fld w 14 2)))
  | 62 => .error .literalWord
  | 63 => .error .literalWord
  | _ => .error .reservedMajor

/-- R58: whether the word after `w` is fetched as part of the instruction. -/
def fetchesNext (w : Nat) : Bool :=
  let m := fld w 26 6
  (26 ≤ m && m ≤ 31) || (8 ≤ m && m ≤ 14 && fld w 21 1 == 1 && fld w 0 7 == 127)

/-- A word in the layout of F-R3 and F-S (R56). -/
def wR3 (major fn d a b : Nat) : Nat :=
  major * 2 ^ 26 + fn * 2 ^ 21 + d * 2 ^ 14 + a * 2 ^ 7 + b

/-- A literal word (R58). -/
def wLit (x : BitVec 27) : Nat := 0xF8000000 + x.toNat

/-- A bit as a number. -/
def bit (b : Bool) : Nat := if b then 1 else 0

/-- Words of a vector-integer member whose fn without the S bit is `f` (R63). -/
def encVFn (major f d : Nat) (a : VReg) (b : VOp) : List Nat :=
  match b with
  | .reg n => [wR3 major f d a.toNat n.toNat]
  | .sreg n => [wR3 major (f + 1) d a.toNat n.toNat]
  | .const k => [wR3 major (f + 1) d a.toNat (64 + k.toNat)]
  | .lit x => [wR3 major (f + 1) d a.toNat 127, wLit x]

/-- Words of a vector-integer member with operation `op`. -/
def encV (major op d : Nat) (a : VReg) (b : VOp) : List Nat := encVFn major (2 * op) d a b

/-- Words of a scalar member with operation `op` (R64). -/
def encS (major op : Nat) (d a : SReg) (b : SOp) : List Nat :=
  match b with
  | .reg n => [wR3 major (2 * op) d.toNat a.toNat n.toNat]
  | .const k => [wR3 major (2 * op + 1) d.toNat a.toNat k.toNat]
  | .lit x => [wR3 major (2 * op + 1) d.toNat a.toNat 127, wLit x]

/-- The payload of a memory extension (R69). -/
def encExt (e : MemExt) : Nat :=
  0xF8000000 + orderCode e.order * 2 ^ 25 + scopeCode e.scope * 2 ^ 22 + bit e.inLocal * 2 ^ 21
    + e.rcount.toNat * 2 ^ 17 + e.scale.toNat * 2 ^ 15 + e.offset.toNat

/-- Words of a memory instruction (R69). -/
def encM (major d : Nat) (a : SReg) (b : VReg) (t : Nat) (ext : Option MemExt) : List Nat :=
  let w := major * 2 ^ 26 + d * 2 ^ 19 + a.toNat * 2 ^ 12 + b.toNat * 2 ^ 5 + t
  match ext with
  | none => [w]
  | some e => [w, encExt e]

/-- Bits [25:18] of `loop` (01 R25). -/
def loopCode (c : LoopCount) : Nat :=
  match c with
  | .reg r => r.toNat
  | .imm k => 128 + k.toNat


/-- The words of an instruction: the instruction word and, where it has one, its literal word (03 R56 to R79). The
steps that are no instruction words have none. -/
def encode (i : Instr) : List Nat :=
  match i with
  | .add d a b => encV 8 0 d.toNat a b
  | .addS d a b => encS 12 0 d a b
  | .sub d a b => encV 8 1 d.toNat a b
  | .subS d a b => encS 12 1 d a b
  | .mul d a b => encV 8 2 d.toNat a b
  | .mulS d a b => encS 12 2 d a b
  | .mulhiI d a b => encV 8 3 d.toNat a b
  | .mulhiIS d a b => encS 12 3 d a b
  | .mulhiN d a b => encV 8 4 d.toNat a b
  | .mulhiNS d a b => encS 12 4 d a b
  | .mad d a b => encV 8 5 d.toNat a b
  | .madS d a b => encS 12 5 d a b
  | .minI d a b => encV 8 6 d.toNat a b
  | .minIS d a b => encS 12 6 d a b
  | .minN d a b => encV 8 7 d.toNat a b
  | .minNS d a b => encS 12 7 d a b
  | .maxI d a b => encV 8 8 d.toNat a b
  | .maxIS d a b => encS 12 8 d a b
  | .maxN d a b => encV 8 9 d.toNat a b
  | .maxNS d a b => encS 12 9 d a b
  | .and d a b => encV 8 10 d.toNat a b
  | .andS d a b => encS 12 10 d a b
  | .or d a b => encV 8 11 d.toNat a b
  | .orS d a b => encS 12 11 d a b
  | .xor d a b => encV 8 12 d.toNat a b
  | .xorS d a b => encS 12 12 d a b
  | .shl d a b => encV 8 13 d.toNat a b
  | .shlS d a b => encS 12 13 d a b
  | .shr d a b => encV 8 14 d.toNat a b
  | .shrS d a b => encS 12 14 d a b
  | .sra d a b => encV 8 15 d.toNat a b
  | .sraS d a b => encS 12 15 d a b
  | .andn d a b => encV 9 0 d.toNat a b
  | .andnS d a b => encS 13 0 d a b
  | .rol d a b => encV 9 1 d.toNat a b
  | .rolS d a b => encS 13 1 d a b
  | .absdI d a b => encV 9 2 d.toNat a b
  | .absdIS d a b => encS 13 2 d a b
  | .absdN d a b => encV 9 3 d.toNat a b
  | .absdNS d a b => encS 13 3 d a b
  | .clz d a => [wR3 9 8 d.toNat a.toNat 0]
  | .clzS d a => [wR3 13 8 d.toNat a.toNat 0]
  | .popc d a => [wR3 9 10 d.toNat a.toNat 0]
  | .popcS d a => [wR3 13 10 d.toNat a.toNat 0]
  | .brev d a => [wR3 9 12 d.toNat a.toNat 0]
  | .brevS d a => [wR3 13 12 d.toNat a.toNat 0]
  | .bfxI d a b => encV 9 7 d.toNat a b
  | .bfxIS d a b => encS 13 7 d a b
  | .bfxN d a b => encV 9 8 d.toNat a b
  | .bfxNS d a b => encS 13 8 d a b
  | .bfi d a b => encV 9 9 d.toNat a b
  | .bfiS d a b => encS 13 9 d a b
  | .divI d a b => encV 9 10 d.toNat a b
  | .divIS d a b => encS 13 10 d a b
  | .divN d a b => encV 9 11 d.toNat a b
  | .divNS d a b => encS 13 11 d a b
  | .remI d a b => encV 9 12 d.toNat a b
  | .remIS d a b => encS 13 12 d a b
  | .remN d a b => encV 9 13 d.toNat a b
  | .remNS d a b => encS 13 13 d a b
  | .mov d b => encV 9 14 d.toNat 0 b
  | .movS d b => encS 13 14 d 0 b
  | .cmp c p a b => encV 10 (cmpCode c) p.toNat a b
  | .cmpS c d a b => encS 14 (cmpCode c) d a b
  | .sel p inv d a b => encVFn 11 (4 * p.toNat + 2 * bit inv) d.toNat a b
  | .fadd d a b => [wR3 16 0 d.toNat a.toNat b.toNat]
  | .faddF16x2 d a b => [wR3 17 0 d.toNat a.toNat b.toNat]
  | .faddBf16x2 d a b => [wR3 18 0 d.toNat a.toNat b.toNat]
  | .fsub d a b => [wR3 16 1 d.toNat a.toNat b.toNat]
  | .fsubF16x2 d a b => [wR3 17 1 d.toNat a.toNat b.toNat]
  | .fsubBf16x2 d a b => [wR3 18 1 d.toNat a.toNat b.toNat]
  | .fmul d a b => [wR3 16 2 d.toNat a.toNat b.toNat]
  | .fmulF16x2 d a b => [wR3 17 2 d.toNat a.toNat b.toNat]
  | .fmulBf16x2 d a b => [wR3 18 2 d.toNat a.toNat b.toNat]
  | .fma d a b => [wR3 16 3 d.toNat a.toNat b.toNat]
  | .fmaF16x2 d a b => [wR3 17 3 d.toNat a.toNat b.toNat]
  | .fmaBf16x2 d a b => [wR3 18 3 d.toNat a.toNat b.toNat]
  | .fmin d a b => [wR3 16 4 d.toNat a.toNat b.toNat]
  | .fminF16x2 d a b => [wR3 17 4 d.toNat a.toNat b.toNat]
  | .fminBf16x2 d a b => [wR3 18 4 d.toNat a.toNat b.toNat]
  | .fmax d a b => [wR3 16 5 d.toNat a.toNat b.toNat]
  | .fmaxF16x2 d a b => [wR3 17 5 d.toNat a.toNat b.toNat]
  | .fmaxBf16x2 d a b => [wR3 18 5 d.toNat a.toNat b.toNat]
  | .fabs d a => [wR3 16 6 d.toNat a.toNat 0]
  | .fabsF16x2 d a => [wR3 17 6 d.toNat a.toNat 0]
  | .fabsBf16x2 d a => [wR3 18 6 d.toNat a.toNat 0]
  | .fneg d a => [wR3 16 7 d.toNat a.toNat 0]
  | .fnegF16x2 d a => [wR3 17 7 d.toNat a.toNat 0]
  | .fnegBf16x2 d a => [wR3 18 7 d.toNat a.toNat 0]
  | .frnd dir d a => [wR3 16 (8 + rndCode dir) d.toNat a.toNat 0]
  | .frndF16x2 dir d a => [wR3 17 (8 + rndCode dir) d.toNat a.toNat 0]
  | .frndBf16x2 dir d a => [wR3 18 (8 + rndCode dir) d.toNat a.toNat 0]
  | .fdot2F16 d a b => [wR3 16 12 d.toNat a.toNat b.toNat]
  | .fdot2Bf16 d a b => [wR3 16 13 d.toNat a.toNat b.toNat]
  | .fcmp c p a b => [wR3 19 (fcmpCode c) p.toNat a.toNat b.toNat]
  | .frcp d a => [wR3 20 0 d.toNat a.toNat 0]
  | .frsq d a => [wR3 20 1 d.toNat a.toNat 0]
  | .fsqrt d a => [wR3 20 2 d.toNat a.toNat 0]
  | .fexp2 d a => [wR3 20 3 d.toNat a.toNat 0]
  | .flog2 d a => [wR3 20 4 d.toNat a.toNat 0]
  | .fsin d a => [wR3 20 5 d.toNat a.toNat 0]
  | .fcos d a => [wR3 20 6 d.toNat a.toNat 0]
  | .ftanh d a => [wR3 20 7 d.toNat a.toNat 0]
  | .cvt dst src d a => [wR3 21 (tyCode dst) d.toNat a.toNat (tyCode src)]
  | .pack dst src d a => [wR3 22 (tyCode dst) d.toNat a.toNat (tyCode src)]
  | .unpack dst src d a => [wR3 23 (tyCode dst) d.toNat a.toNat (tyCode src)]
  | .shfl d a b => [wR3 24 0 d.toNat a.toNat b.toNat]
  | .bcast d a l => [wR3 24 1 d.toNat a.toNat l.toNat]
  | .slup d a k => [wR3 24 2 d.toNat a.toNat k.toNat]
  | .sldn d a k => [wR3 24 3 d.toNat a.toNat k.toNat]
  | .compress d a p => [wR3 24 4 d.toNat a.toNat p.toNat]
  | .expand d a p => [wR3 24 5 d.toNat a.toNat p.toNat]
  | .scanAddI32 d a => [wR3 24 6 d.toNat a.toNat 0]
  | .scanAddF32 d a => [wR3 24 7 d.toNat a.toNat 0]
  | .scanMaxI32 d a => [wR3 24 8 d.toNat a.toNat 0]
  | .scanMinI32 d a => [wR3 24 9 d.toNat a.toNat 0]
  | .reduceAddI32 d a => [wR3 24 10 d.toNat a.toNat 0]
  | .reduceAddF32 d a => [wR3 24 11 d.toNat a.toNat 0]
  | .reduceMinI32 d a => [wR3 24 12 d.toNat a.toNat 0]
  | .reduceMaxI32 d a => [wR3 24 13 d.toNat a.toNat 0]
  | .reduceMinF32 d a => [wR3 24 14 d.toNat a.toNat 0]
  | .reduceMaxF32 d a => [wR3 24 15 d.toNat a.toNat 0]
  | .matchRank d a => [wR3 24 16 d.toNat a.toNat 0]
  | .matchCnt d a => [wR3 24 17 d.toNat a.toNat 0]
  | .matchLead p a => [wR3 24 18 p.toNat a.toNat 0]
  | .voteAny d a => [wR3 24 19 d.toNat a.toNat 0]
  | .voteAll d a => [wR3 24 20 d.toNat a.toNat 0]
  | .voteBallot d a => [wR3 24 21 d.toNat a.toNat 0]
  | .plog op d a b => [wR3 25 (plogCode op) d.toNat a.toNat b.toNat]
  | .pmovPFromS d a => [wR3 25 4 d.toNat a.toNat 0]
  | .pmovSFromP d a => [wR3 25 5 d.toNat a.toNat 0]
  | .pcnt d a => [wR3 25 6 d.toNat a.toNat 0]
  | .ld t d a b ext => encM 26 d.toNat a b (tyCode t) ext
  | .st t d a b ext => encM 27 d.toNat a b (tyCode t) ext
  | .atom op d a b ext => encM 28 d.toNat a b (atomCode op) ext
  | .red op d a b ext => encM 29 d.toNat a b (atomCode op) ext
  | .cas wide d a b ext => encM 30 d.toNat a b (2 + bit wide) ext
  | .pref a b ext => encM 31 0 a b 0 ext
  | .keep a b ext => encM 31 0 a b 1 ext
  | .cinv a b ext => encM 31 0 a b 2 ext
  | .cwb a b ext => encM 31 0 a b 3 ext
  | .fence k mask sc => [wR3 32 (fenceCode k) 0 0 (8 * mask.toNat + scopeCode sc)]
  | .barinit o d a => [wR3 33 0 d.toNat a.toNat o.toNat]
  | .arrive d o => [wR3 33 1 d.toNat 0 o.toNat]
  | .bwait d o a => [wR3 33 2 d.toNat a.toNat o.toNat]
  | .bsync d o => [wR3 33 3 d.toNat 0 o.toNat]
  | .bdrop o => [wR3 33 4 0 0 o.toNat]
  | .waitc c wide d a b => [wR3 34 (16 * bit wide + waitCode c) d.toNat a.toNat b.toNat]
  | .waitn l s c m => [0x8C000000 + l.toNat * 2 ^ 21 + s.toNat * 2 ^ 16 + c.toNat * 2 ^ 11 + m.toNat * 2 ^ 6]
  | .cpy d a => [wR3 36 0 d.toNat a.toNat 0]
  | .cpyt d a t => [wR3 36 1 d.toNat a.toNat (bit t)]
  | .cpym d a => [wR3 36 2 d.toNat a.toNat 0]
  | .cpyx d a b => [wR3 36 3 d.toNat a.toNat b.toNat]
  | .coll d a b => [wR3 36 4 d.toNat a.toNat b.toNat]
  | .mma a => [wR3 37 0 0 a.toNat 0]
  | .mrst a => [wR3 37 1 0 a.toNat 0]
  | .mzero a => [wR3 37 2 0 a.toNat 0]
  | .mload a => [wR3 37 3 0 a.toNat 0]
  | .mdrain a => [wR3 37 4 0 a.toNat 0]
  | .hist a cl t => [wR3 37 5 0 a.toNat (8 * bit cl + t.toNat)]
  | .quote d a l => [wR3 37 6 d.toNat a.toNat (bit l)]
  | .launch d a b => [wR3 38 0 d.toNat a.toNat b.toNat]
  | .trigger => [wR3 38 1 0 0 0]
  | .next d p => [wR3 38 2 d.toNat 0 p.toNat]
  | .rep n sd sa sb => [0xF4000000 + n.toNat * 2 ^ 20 + sd.toNat * 2 ^ 18 + sa.toNat * 2 ^ 16 + sb.toNat * 2 ^ 14]
  | .nop => [wR3 0 0 0 0 0]
  | .exit => [wR3 0 1 0 0 0]
  | .yield => [wR3 0 2 0 0 0]
  | .brk c => [wR3 0 3 0 0 c.toNat]
  | .trap c => [wR3 0 4 0 0 c.toNat]
  | .ret a => [wR3 0 5 0 a.toNat 0]
  | .eret => [wR3 0 6 0 0 0]
  | .sysc c => [wR3 0 7 0 0 c.toNat]
  | .elect p => [wR3 0 8 p.toNat 0 0]
  | .wbase i => [wR3 0 9 0 0 i.toNat]
  | .lexit => [wR3 0 10 0 0 0]
  | .strike j => [wR3 0 11 j.toNat 0 0]
  | .park j => [wR3 0 12 j.toNat 0 0]
  | .tlbi a all => [wR3 0 13 0 a.toNat (bit all)]
  | .getsr d n => [wR3 0 14 d.toNat 0 n.toNat]
  | .setsr n a => [wR3 0 15 0 a.toNat n.toNat]
  | .bra off => [0x04000000 + off.toNat]
  | .brs c a off => [0x08000000 + brsCode c * 2 ^ 22 + a.toNat * 2 ^ 15 + off.toNat]
  | .brp p inv off => [0x0C000000 + p.toNat * 2 ^ 23 + bit inv * 2 ^ 22 + off.toNat]
  | .call off => [0x10000000 + off.toNat]
  | .jmp d a => [wR3 5 0 d.toNat a.toNat 0]
  | .enrol j off => [0x18000000 + j.toNat * 2 ^ 23 + off.toNat]
  | .loop c off => [0x1C000000 + loopCode c * 2 ^ 18 + off.toNat]
  | .asyncTrapEntry _ => []
  | .loadReturn _ _ => []
  | .storePerformed _ _ => []
  | .cacheWalkDone _ => []
  | .waitcPoll _ => []
  | .packetArrive _ _ _ => []
  | .packetDeliver _ _ => []
  | .floorBeatSend _ _ => []
  | .floorBeatReceive _ _ => []
  | .tokenBucketReady _ => []
  | .resealZero => []
  | .resealReenable => []
  | .linkWidthChangeDone _ => []
  | .copySlice _ _ => []
  | .copyComplete _ _ _ => []
  | .collectiveComplete _ _ _ _ => []
  | .matrixCommandComplete _ _ => []
  | .engineWake _ _ _ => []
  | .headLaunchTake _ _ => []
  | .prologueRun _ _ => []
  | .waitsigSatisfied _ _ => []
  | .placerPass _ => []
  | .headGangAgeTimeout _ _ => []
  | .overflowMove _ _ => []
  | .gangRetire _ => []
  | .switchDrain _ _ => []
  | .switchWriteBack _ _ => []
  | .switchSave _ _ => []
  | .switchClear _ _ => []
  | .switchAdmit _ _ => []
  | .voltageStep _ _ => []
  | .voltageReached _ _ => []
  | .ceilingEffective _ => []
  | .cmdBind _ => []
  | .cmdUnbind _ => []
  | .cmdKillContext _ => []
  | .cmdReseal _ => []
  | .cmdAttestationReport _ => []
  | .cmdExtendMeas7 _ => []
  | .cmdExportImportWithdraw _ => []
  | .cmdChainJoinLeave _ => []
  | .cmdReadTelemetry _ => []
  | .reservedEncoding => []
  | .literalWordAtInstructionStart => []
  | .instructionFetchFault => []
  | .membershipChangeEffective _ => []
  | .mailboxReservedOp _ => []
  | .faultResolved _ _ _ _ _ => []
  | .faultUnresolvable _ _ _ => []
  | .departure _ => []
  | .resealStop _ => []
  | .causewayWidthChooser _ _ _ => []
  | .collectiveAbandon _ _ => []
  | .doorbellWrite _ _ _ => []
  | .switchStop _ _ _ => []
  | .kill _ _ _ => []
  | .uncorrectableError _ _ _ _ => []
  | .rateBroadcast => []
  | .rateIntegratorStep _ _ _ => []
  | .limiterSample _ _ => []
  | .emergencyStep _ => []
  | .stallSampleEnd _ _ _ _ _ => []
  | .prefetchDepthChooser _ _ _ _ => []
  | .skewBiasDecay => []
  | .clusterWake _ _ => []
  | .clusterGate _ _ => []
  | .ceilingRepublish _ => []
  | .chainCeilingMessage _ _ _ _ _ => []
  | .chainJoin _ _ _ _ _ => []
  | .chainSnapshot _ _ _ _ _ => []
  | .chainLeave _ _ _ _ _ => []
  | .chainRemove _ _ _ _ _ => []
  | .chainSilenceTimeout _ _ => []
  | .pcapWrite _ => []
  | .prateWrite _ => []
  | .pstatWrite _ => []
  | .pfloorWrite _ _ _ => []
  | .clkreqRelease _ _ _ => []
  | .clkreqPinDelta _ _ _ => []
  | .clkreqPinPoint _ _ _ => []
  | .clkdieWrite _ _ => []
  | .hintdropClear _ _ => []
  | .elostClear => []
  | .dieReset _ => []
  | .packageReset => []
  | .bootStage _ _ _ => []
  | .registerWrite _ _ _ => []
  | .thermalLimitChange _ _ => []
  | .softErrorCorrected _ => []
  | .hbmStackInitDone => []
  | .clkreqReservedMode _ _ _ => []

/-- How many words an instruction has. -/
def wordCount (i : Instr) : Nat := (encode i).length

/-- The bytes of a word as it is stored, lowest address first (R55). -/
def wordBytes (w : Nat) : List Byte :=
  [BitVec.ofNat 8 w, BitVec.ofNat 8 (w / 2 ^ 8), BitVec.ofNat 8 (w / 2 ^ 16), BitVec.ofNat 8 (w / 2 ^ 24)]

/-- The word that stored bytes hold. -/
def bytesWord : List Byte → Nat
  | [] => 0
  | b :: bs => b.toNat + 2 ^ 8 * bytesWord bs

/-- The decoder on stored bytes: the instruction and the bytes after it, or why there is none. -/
def decodeBytes (bs : List Byte) : Option (Decoded × List Byte) :=
  if bs.length < 4 then none
  else
    let w := bytesWord (bs.take 4)
    let rest := bs.drop 4
    let nx := if rest.length < 4 then none else some (bytesWord (rest.take 4))
    match decode w nx with
    | .ok i => some (.ok i, if wordCount i = 2 then rest.drop 4 else rest)
    | .error e => some (.error e, rest)

/-- The instruction the decoder reads from an instruction whose bits are `w`, the first word in bits 31 to 0 and the
second above it; bits above `nbits` are zero. -/
def decodeTableWord (nbits w : Nat) : Option Instr :=
  let v := w % 2 ^ nbits
  match decodeBytes (wordBytes v ++ wordBytes (v / 2 ^ 32)) with
  | some (.ok i, _) => some i
  | _ => none

end Sys2Proof
end

