-- ==== Sys2Proof/Machine/Numbers.lean ====
section
/-!
DEFINITION. Number formats and exact arithmetic (04 R83 to R105): the value of a code, rounding of an exact value to a
format, and conversions. Every finite value is held exactly as a sign, a natural mantissa and a power of two.
-/

namespace Sys2Proof

/-- The value of a floating-point code (R86, R90): NaN, an infinity, or exactly (-1)^neg * m * 2^e. -/
inductive FVal where
  | nan
  | inf (neg : Bool)
  | fin (neg : Bool) (m : Nat) (e : Int)
deriving DecidableEq, Repr

/-- A floating-point format of R86 or R90. -/
inductive Fmt where
  | f32 | f16 | bf16 | e4m3 | e5m2 | e3m2 | e2m3 | e2m1
deriving DecidableEq, Repr

/-- The four rounding modes of a CVTMODE field (02 R42). -/
inductive Rnd where
  | nearest | zero | down | stochastic
deriving DecidableEq, Repr

/-- One CVTMODE field (02 R42). -/
structure CvtField where
  rnd : Rnd
  sat : Bool
deriving DecidableEq, Repr

/-- The mode that no CVTMODE field governs: nearest-even without saturation (R88). -/
def nearestMode : CvtField := ⟨.nearest, false⟩

/-- Mantissa bits of a format. -/
def Fmt.mbits : Fmt → Nat
  | .f32 => 23 | .f16 => 10 | .bf16 => 7 | .e4m3 => 3 | .e5m2 => 2 | .e3m2 => 2 | .e2m3 => 3 | .e2m1 => 1

/-- Exponent bits of a format. -/
def Fmt.ebits : Fmt → Nat
  | .f32 => 8 | .f16 => 5 | .bf16 => 8 | .e4m3 => 4 | .e5m2 => 5 | .e3m2 => 3 | .e2m3 => 2 | .e2m1 => 2

/-- Exponent bias of a format. -/
def Fmt.bias : Fmt → Nat
  | .f32 => 127 | .f16 => 15 | .bf16 => 127 | .e4m3 => 7 | .e5m2 => 15 | .e3m2 => 3 | .e2m3 => 1 | .e2m1 => 1

/-- All bits of a format but the sign. -/
def Fmt.magBits (f : Fmt) : Nat := f.ebits + f.mbits

/-- The code of the largest finite magnitude. -/
def Fmt.maxCode : Fmt → Nat
  | .f32 => 0x7F7FFFFF | .f16 => 0x7BFF | .bf16 => 0x7F7F | .e4m3 => 0x7E | .e5m2 => 0x7B
  | .e3m2 => 0x1F | .e2m3 => 0x1F | .e2m1 => 0x7

/-- The canonical NaN, where the format has one; the formats without one write +0 (R103). -/
def Fmt.nanCode : Fmt → Nat
  | .f32 => 0x7FC00000 | .f16 => 0x7E00 | .bf16 => 0x7FC0 | .e4m3 => 0x7F | .e5m2 => 0x7E | _ => 0

/-- Whether the format has infinities. -/
def Fmt.hasInf : Fmt → Bool
  | .f32 | .f16 | .bf16 | .e5m2 => true
  | _ => false

/-- Whether the format has a NaN. -/
def Fmt.hasNan : Fmt → Bool
  | .e3m2 | .e2m3 | .e2m1 => false
  | _ => true

/-- The code with its sign bit. -/
def Fmt.signed (f : Fmt) (neg : Bool) (mag : Nat) : Nat := if neg then 2 ^ f.magBits + mag else mag

/-- The power of two of the smallest subnormal. -/
def Fmt.qmin (f : Fmt) : Int := 1 - (f.bias : Int) - (f.mbits : Int)

/-- The value of a code (R86, R90). -/
def Fmt.value (f : Fmt) (code : Nat) : FVal :=
  let mag := code % 2 ^ f.magBits
  let neg := code / 2 ^ f.magBits % 2 == 1
  let m := mag % 2 ^ f.mbits
  let e := mag / 2 ^ f.mbits
  if mag > f.maxCode then
    if f.hasInf && m == 0 then .inf neg else .nan
  else if e = 0 then .fin neg m f.qmin
  else .fin neg (2 ^ f.mbits + m) (f.qmin + (e - 1 : Nat))

/-- The integer part and the rounding of `n + r / 2^s`, where a stochastic draw `x` adds its 32 bits (R100, R102). -/
def roundMag (rnd : Rnd) (neg : Bool) (x n r s : Nat) : Nat :=
  match rnd with
  | .nearest => if 2 * r > 2 ^ s ∨ (2 * r = 2 ^ s ∧ n % 2 = 1) then n + 1 else n
  | .zero => n
  | .down => if neg ∧ r ≠ 0 then n + 1 else n
  | .stochastic => if r * 2 ^ 32 / 2 ^ s + x ≥ 2 ^ 32 then n + 1 else n

/-- m * 2^e in units of 2^q, rounded. -/
def roundUnits (rnd : Rnd) (neg : Bool) (x m : Nat) (e q : Int) : Nat :=
  if e ≥ q then m * 2 ^ (e - q).toNat
  else
    let s := (q - e).toNat
    roundMag rnd neg x (m / 2 ^ s) (m % 2 ^ s) s

/-- What a magnitude beyond the largest finite value becomes (R100 steps 2 and 3). -/
def Fmt.overflow (f : Fmt) (md : CvtField) (neg : Bool) : Nat :=
  if !f.hasNan || md.sat || md.rnd == .zero || (md.rnd == .down && !neg) then f.signed neg f.maxCode
  else if f.hasInf then f.signed neg (f.maxCode + 1)
  else f.nanCode

/-- Round(f, v, md) with draw `x` (R100, R103). -/
def Fmt.round (f : Fmt) (md : CvtField) (x : Nat) (v : FVal) : Nat :=
  match v with
  | .nan => f.nanCode
  | .inf neg =>
    if md.sat || !f.hasNan then f.signed neg f.maxCode
    else if f.hasInf then f.signed neg (f.maxCode + 1)
    else f.nanCode
  | .fin neg m e =>
    if m = 0 then f.signed neg 0
    else
      let top : Int := (Nat.log2 m : Int) + e
      let q := max (top - f.mbits) f.qmin
      let code := (q - f.qmin).toNat * 2 ^ f.mbits + roundUnits md.rnd neg x m e q
      if code > f.maxCode then f.overflow md neg else f.signed neg code

/-- Round to nearest-even, as arithmetic does (R88). -/
def Fmt.rne (f : Fmt) (v : FVal) : Nat := f.round nearestMode 0 v

/-- A finite value as a signed mantissa. -/
def signedMant (neg : Bool) (m : Nat) : Int := if neg then -(m : Int) else m

/-- The value n * 2^e; a zero is +0. -/
def FVal.ofInt (n : Int) (e : Int) : FVal := .fin (n < 0) n.natAbs e

/-- Exact sum with the IEEE rules for NaN, infinities and the sign of zero (R88). -/
def FVal.add (x y : FVal) : FVal :=
  match x, y with
  | .nan, _ => .nan
  | _, .nan => .nan
  | .inf a, .inf b => if a = b then .inf a else .nan
  | .inf a, _ => .inf a
  | _, .inf b => .inf b
  | .fin a m e, .fin b n f =>
    let q := min e f
    let s := signedMant a m * 2 ^ (e - q).toNat + signedMant b n * 2 ^ (f - q).toNat
    if s = 0 then .fin (a && b) 0 q else .fin (s < 0) s.natAbs q

/-- The sign flipped. -/
def FVal.neg : FVal → FVal
  | .nan => .nan
  | .inf a => .inf (!a)
  | .fin a m e => .fin (!a) m e

/-- Exact product; an infinity times zero is NaN (R88). -/
def FVal.mul (x y : FVal) : FVal :=
  match x, y with
  | .nan, _ => .nan
  | _, .nan => .nan
  | .inf a, .inf b => .inf (a != b)
  | .inf a, .fin b n _ => if n = 0 then .nan else .inf (a != b)
  | .fin a m _, .inf b => if m = 0 then .nan else .inf (a != b)
  | .fin a m e, .fin b n f => .fin (a != b) (m * n) (e + f)

/-- The value times 2^k. -/
def FVal.scale (x : FVal) (k : Int) : FVal :=
  match x with
  | .fin a m e => .fin a m (e + k)
  | v => v

/-- Comparison of two values that are no NaN; -0 equals +0. -/
def FVal.cmp (x y : FVal) : Ordering :=
  let rank : FVal → Int := fun v => match v with
    | .inf true => -1
    | .inf false => 1
    | _ => 0
  match x, y with
  | .fin a m e, .fin b n f =>
    let q := min e f
    compare (signedMant a m * 2 ^ (e - q).toNat) (signedMant b n * 2 ^ (f - q).toNat)
  | u, v => compare (rank u) (rank v)

/-- Whether the value is NaN. -/
def FVal.isNan : FVal → Bool
  | .nan => true
  | _ => false

/-- The sign of a value that is no NaN. -/
def FVal.isNeg : FVal → Bool
  | .nan => false
  | .inf a => a
  | .fin a _ _ => a

/-- `x` ordered below `y`, with -0 below +0 (R89). -/
def FVal.below (x y : FVal) : Bool :=
  match x.cmp y with
  | .lt => true
  | .eq => x.isNeg && !y.isNeg
  | .gt => false

/-- Rounding to an integer in the direction of a `frnd` member (22 R364); the sign of a zero is kept. -/
def FVal.integral (dir : RndDir) (v : FVal) : FVal :=
  match v with
  | .fin neg m e =>
    if e ≥ 0 then v
    else
      let s := (-e).toNat
      let n := m / 2 ^ s
      let r := m % 2 ^ s
      let n' := match dir with
        | .ne => roundMag .nearest neg 0 n r s
        | .z => n
        | .dn => roundMag .down neg 0 n r s
        | .up => if neg ∨ r = 0 then n else n + 1
      .fin neg n' 0
  | v => v

/-- The format of a float type, narrow ones included. -/
def Ty.fmt : Ty → Option Fmt
  | .f32 => some .f32 | .f16 => some .f16 | .bf16 => some .bf16 | .e4m3 => some .e4m3 | .e5m2 => some .e5m2
  | .e3m2 => some .e3m2 | .e2m3 => some .e2m3 | .e2m1 => some .e2m1
  | _ => none

/-- Width and signedness of an integer type of `cvt` and `pack`. -/
def Ty.int : Ty → Option (Nat × Bool)
  | .i8 => some (8, true) | .n8 => some (8, false) | .i16 => some (16, true) | .n16 => some (16, false)
  | .i32 => some (32, true) | .n32 => some (32, false)
  | _ => none

/-- The value of the low N bits of `x` (R84). -/
def intValue (n : Nat) (signed : Bool) (x : Nat) : Int :=
  let y := x % 2 ^ n
  if signed && y ≥ 2 ^ (n - 1) then (y : Int) - 2 ^ n else y

/-- The range of an integer type. -/
def intMin (n : Nat) (signed : Bool) : Int := if signed then -(2 ^ (n - 1) : Int) else 0
/-- The largest value of an integer type. -/
def intMax (n : Nat) (signed : Bool) : Int := if signed then 2 ^ (n - 1) - 1 else 2 ^ n - 1

/-- An integer result beyond or within a range: wrapped to N bits, or clamped with SAT (R104, R105). -/
def intNarrow (n : Nat) (signed sat : Bool) (v : Int) : Int :=
  if intMin n signed ≤ v ∧ v ≤ intMax n signed then v
  else if sat then (if v < intMin n signed then intMin n signed else intMax n signed)
  else intValue n signed (v.emod (2 ^ n)).toNat

/-- A float value converted to an integer type (R104). -/
def toIntType (n : Nat) (signed : Bool) (md : CvtField) (x : Nat) (v : FVal) : Int :=
  match v with
  | .nan => 0
  | .inf neg => if md.sat then (if neg then intMin n signed else intMax n signed) else 0
  | .fin neg m e => intNarrow n signed md.sat (signedMant neg (roundUnits md.rnd neg x m e 0))

/-- The 32 bits in which an integer result stands: sign-extended for i types, zero-extended for n types (21 R339). -/
def intWord (v : Int) : Word := BitVec.ofInt 32 v

/-- One step of the stochastic recurrence (R101). -/
def xsNext (x : Word) : Word :=
  let x := x ^^^ (x <<< 13)
  let x := x ^^^ (x >>> 17)
  x ^^^ (x <<< 5)

/-- The seed of lane i (R101). -/
def xsSeed (seed : Xword) (i : Nat) : Word :=
  let x := BitVec.ofNat 32 seed.toNat ^^^ BitVec.ofNat 32 (0x9E3779B9 * (i + 1))
  if x = 0 then 0x9E3779B9 else x

/-- The rounding mode of two bits. -/
def rndOf (x : Nat) : Rnd :=
  match x % 4 with
  | 0 => .nearest
  | 1 => .zero
  | 2 => .down
  | _ => .stochastic

/-- The number of the CVTMODE field of a destination type (02 R42); types without a field read none. -/
def Ty.cvtIndex : Ty → Option Nat
  | .f32 => some 0 | .f16 => some 1 | .bf16 => some 2 | .e4m3 => some 3 | .e5m2 => some 4 | .e3m2 => some 5
  | .e2m3 => some 6 | .e2m1 => some 7 | .kf4 => some 8 | .i8 => some 9 | .n8 => some 10 | .i16 => some 11
  | .n16 => some 12 | .i32 => some 13 | .n32 => some 14
  | _ => none

/-- The CVTMODE field of a type. -/
def cvtField (cvtmode : Xword) (t : Ty) : CvtField :=
  match t.cvtIndex with
  | some k =>
    let f := cvtmode.toNat / 2 ^ (4 * k) % 16
    ⟨rndOf f, f / 4 % 2 == 1⟩
  | none => nearestMode

/-- One element converted from type `src` to type `dst`: the source code in the low bits of `x`, the result as it
stands in a 32-bit register (21 R339, R340). -/
def convert (dst src : Ty) (md : CvtField) (draw : Nat) (x : Nat) : Word :=
  match dst.fmt, src.fmt, dst.int, src.int with
  | some f, some g, _, _ => BitVec.ofNat 32 (f.round md draw (g.value x))
  | some f, none, _, some (n, s) => BitVec.ofNat 32 (f.round md draw (.ofInt (intValue n s x) 0))
  | none, some g, some (n, s), _ => intWord (toIntType n s md draw (g.value x))
  | none, none, some (n, s), some (k, t) => intWord (intNarrow n s md.sat (intValue k t x))
  | _, _, _, _ => 0

/-- Whether a conversion takes a draw when RND is stochastic: it does unless both types are integers (R340). -/
def takesDraw (dst src : Ty) (md : CvtField) : Bool :=
  md.rnd == .stochastic && (dst.fmt.isSome || src.fmt.isSome)

end Sys2Proof
end

