-- ==== Sys2Proof/Machine/Blocks.lean ====
section
/-!
DEFINITION. Block formats (04 R93 to R99) and the block quantiser (R106 to R109): where an element's bits stand in a
block, the value of an element, and how 32 values become codes, a scale byte and a spare byte.
-/

namespace Sys2Proof

/-- The element bits of a block format; 0 for any other type (R90). -/
def Ty.blockBits : Ty → Nat
  | .e4m3 | .e5m2 => 8
  | .e3m2 | .e2m3 => 6
  | .e2m1 | .kf4 => 4
  | _ => 0

/-- Whether the type is one of the six block formats (R94). -/
def Ty.isBlock (t : Ty) : Bool := t.blockBits != 0

/-- The bytes of one block of 32 elements (R94). -/
def Ty.blockBytes (t : Ty) : Nat := 4 * t.blockBits

/-- The bit of a block, taken as one little-endian number, at which element `i` starts (R97 to R99). -/
def elemPos (bits i : Nat) : Nat :=
  if bits = 8 then 8 * i
  else if bits = 4 then 32 * (i / 8) + 4 * ((i % 2) * 4 + i % 8 / 2)
  else 96 * (i / 16) + 6 * ((i % 4) * 4 + i % 16 / 4)

/-- Element `i` of a block. -/
def elemOf (bits block i : Nat) : Nat := block / 2 ^ elemPos bits i % 2 ^ bits

/-- The block that holds the listed codes. -/
def packCodes (bits : Nat) (codes : List Nat) : Nat :=
  (codes.zipIdx.map fun (c, i) => c % 2 ^ bits * 2 ^ elemPos bits i).sum

/-- The decoded value of a code of an element format, with the block's spare byte (R90, R93). -/
def codeValue (t : Ty) (spare code : Nat) : FVal :=
  match t with
  | .kf4 => if code = 8 then Fmt.e4m3.value spare else Fmt.e2m1.value code
  | _ => match t.fmt with
    | some f => f.value code
    | none => .nan

/-- The value of an element of a block (R95). -/
def elemValue (t : Ty) (scale spare code : Nat) : FVal :=
  if scale = 0xFF then .nan else (codeValue t spare code).scale ((scale : Int) - 127)

/-- emax of R107. -/
def quantEmax : Ty → Int
  | .e4m3 => 8 | .e5m2 => 15 | .e3m2 => 4 | _ => 2

/-- One block as it is written: the codes, the scale byte and the spare byte. -/
structure QBlock where
  codes : List Nat
  scale : Nat
  spare : Nat
deriving DecidableEq, Repr

/-- floor(log2) of the greatest magnitude; none when all are zero. -/
def topExp (vs : List FVal) : Option Int :=
  vs.foldl (fun acc v => match v with
    | .fin _ m e => if m = 0 then acc else
        let t := (Nat.log2 m : Int) + e
        match acc with
        | none => some t
        | some u => some (max t u)
    | _ => acc) none

/-- The shared exponent (R107). -/
def sharedExp (t : Ty) (vs : List FVal) : Int :=
  let s := match topExp vs with
    | none => 0
    | some e => e - quantEmax t
  max (-127) (min 127 s)

/-- Infinities replaced by the largest finite f32 (R107). -/
def clampInf (v : FVal) : FVal :=
  match v with
  | .inf neg => .fin neg 0xFFFFFF 104
  | v => v

/-- |x - y| for finite values. -/
def absDiff (x y : FVal) : FVal :=
  match x.add y.neg with
  | .fin _ m e => .fin false m e
  | v => v

/-- The e2m1 codes other than -0, in increasing order of value (R109). -/
def e2m1Codes : List Nat := [15, 14, 13, 12, 11, 10, 9, 0, 1, 2, 3, 4, 5, 6, 7]

/-- The candidate set of R109: codes with their values in increasing order, the spare as code 8. -/
def kf4Candidates (spare : Nat) : List (Nat × FVal) :=
  let base := e2m1Codes.map fun c => (c, Fmt.e2m1.value c)
  let sv := Fmt.e4m3.value spare
  if base.any fun p => p.2.cmp sv == .eq then base
  else (base.filter fun p => p.2.cmp sv == .lt) ++ [(8, sv)] ++ (base.filter fun p => p.2.cmp sv == .gt)

/-- Of two candidates the nearer to `y`; a tie goes to the even e2m1 code and away from the spare (R109). -/
def nearerOf (y : FVal) (a b : Nat × FVal) : Nat × FVal :=
  match (absDiff a.2 y).cmp (absDiff b.2 y) with
  | .lt => a
  | .gt => b
  | .eq => if a.1 = 8 then b else if b.1 = 8 then a else if a.1 % 2 = 0 then a else b

/-- The last member of a list that holds, or the given one. -/
def lastWhere (p : Nat × FVal → Bool) (d : Nat × FVal) (cs : List (Nat × FVal)) : Nat × FVal :=
  cs.foldl (fun acc c => if p c then c else acc) d

/-- The magnitude of `v` as a mantissa in units of 2^q. -/
def magAt (v : FVal) (q : Int) : Nat :=
  match v with
  | .fin _ m e => m * 2 ^ (e - q).toNat
  | _ => 0

/-- Rounding over the candidate set C (R109 step 3). -/
def kf4Round (rnd : Rnd) (draw : Nat) (cs : List (Nat × FVal)) (y : FVal) : Nat :=
  let first := cs.headD (0, .fin false 0 0)
  let zeroC : Nat × FVal := (0, .fin false 0 0)
  match rnd with
  | .nearest => (cs.foldl (nearerOf y) first).1
  | .down => (lastWhere (fun c => c.2.cmp y != .gt) first cs).1
  | .zero =>
    if y.isNeg then ((cs.filter fun c => c.2.cmp y != .lt && c.2.cmp (.fin false 0 0) != .gt).headD zeroC).1
    else (lastWhere (fun c => c.2.cmp y != .gt && c.2.cmp (.fin false 0 0) != .lt) zeroC cs).1
  | .stochastic =>
    -- the magnitudes of the members of y's sign, 0 counting as both
    let same := cs.filter fun c => c.1 = 0 || c.2.isNeg == y.isNeg
    let same := if y.isNeg then same.reverse else same
    let lo := lastWhere (fun c => (absDiff c.2 (.fin false 0 0)).cmp (absDiff y (.fin false 0 0)) != .gt) zeroC same
    match same.find? fun c => (absDiff c.2 (.fin false 0 0)).cmp (absDiff y (.fin false 0 0)) == .gt with
    | none => lo.1
    | some hi =>
      let q : Int := -600
      let l := magAt lo.2 q
      let h := magAt hi.2 q
      let m := magAt y q
      if (m - l) * 2 ^ 32 / (h - l) + draw ≥ 2 ^ 32 then hi.1 else lo.1

/-- Fold with a draw for each element when the mode is stochastic (R102). -/
def mapDraw {σ : Type} (rnd : Rnd) (draw : Nat → σ → Nat × σ) (f : Nat → FVal → Nat) (s : σ) :
    Nat → List FVal → List Nat × σ
  | _, [] => ([], s)
  | k, v :: vs =>
    let (x, s) := if rnd == .stochastic then draw k s else (0, s)
    let (cs, s) := mapDraw rnd draw f s (k + 1) vs
    (f x v :: cs, s)

/-- The lowest index of greatest error of the scaled values against e2m1 nearest-even, with whether it is not zero
(R109 steps 1 and 2). -/
def worstIndex (ys : List FVal) : Nat × Bool :=
  let err := ys.map fun y => absDiff y (Fmt.e2m1.value (Fmt.e2m1.rne y))
  let (j, e, _) := err.foldl (fun (acc : Nat × FVal × Nat) e =>
    if acc.2.1.cmp e == .lt then (acc.2.2, e, acc.2.2 + 1) else (acc.1, acc.2.1, acc.2.2 + 1)) (0, .fin false 0 0, 0)
  (j, e.cmp (.fin false 0 0) == .gt)

/-- The quantiser on one block of values (R107 to R109); `draw k` draws for element `k`. -/
def quantise {σ : Type} (t : Ty) (md : CvtField) (draw : Nat → σ → Nat × σ) (s : σ) (vs : List FVal) : QBlock × σ :=
  let isInf : FVal → Bool := fun v => match v with
    | .inf _ => true
    | _ => false
  if vs.any fun v => v.isNan || (isInf v && !md.sat) then (⟨vs.map fun _ => 0, 0xFF, 0⟩, s)
  else
    let vs := vs.map clampInf
    let sh := sharedExp t vs
    let ys := vs.map fun v => v.scale (-sh)
    let scale := (sh + 127).toNat
    let sat : CvtField := ⟨md.rnd, true⟩
    match t with
    | .kf4 =>
      let (j, wrong) := worstIndex ys
      let (x, s) := if wrong && md.rnd == .stochastic then draw j s else (0, s)
      let spare := if wrong then Fmt.e4m3.round sat x (ys.getD j (.fin false 0 0)) else 0
      let cs := kf4Candidates spare
      let (codes, s) := mapDraw md.rnd draw (fun x y => kf4Round md.rnd x cs y) s 0 ys
      (⟨codes, scale, spare⟩, s)
    | _ =>
      let f := t.fmt.getD .e2m1
      let (codes, s) := mapDraw md.rnd draw (fun x y => f.round sat x y) s 0 ys
      (⟨codes, scale, 0⟩, s)

end Sys2Proof
end

