-- ==== Sys2Proof/Config.lean ====
section
/-!
DEFINITION. What the spec leaves to an implementation or leaves open: opaque constants without a body, so that no
proof can rest on their values. The log entry of each is named.
-/

namespace Sys2Proof

/-- A byte that the spec leaves undefined, by a counter of such bytes (log 3, log 5). -/
opaque Config.freeByte : Nat → Byte
/-- A choice that the spec leaves open, by a counter (log 3). -/
opaque Config.freeNat : Nat → Nat
/-- The result that an SFU function would give, held to the bounds of 04 R114 where it is used (log 6). -/
opaque Config.sfu : Nat → Word → Word
/-- The place in a list of lines of the one that a full cache evicts, by a counter of such choices (log 17). -/
opaque Config.victim : Nat → List Nat → Nat
/-- The package number in the member ids of its dies (18 R284; log 32). -/
opaque Config.packageNumber : BitVec 24
/-- The fused leakage in mW of a cluster, by its key, at a point (16 R261; log 38). -/
opaque Config.leakage : Nat → Nat → Nat
/-- The signature of an attestation report over its bytes (19 R299; log 30). -/
opaque Config.signature : List Byte → List Byte

end Sys2Proof
end

