-- ==== Sys2Proof/Machine/State.lean ====
section
/-!
DEFINITION. The state of the package as plain data, everything the spec gives the machine (INVENTORY.md lists it line by
line with its rule), the reasons a step can stop, and the state after reset. Keyed collections are sparse tables: the
default of each is the value of an unlisted key, and no table lists a default.
-/

namespace Sys2Proof.Machine

/-- Why the machine stops with a fault. -/
inductive Fault where
  /-- An instruction is executed while no warp is issuing: raised by the meanings of instructions only, where the agenda
  names an instruction in place of an event. Safe. -/
  | noIssue
  /-- An access to a physical address that no agent's memory holds (00 R1, 05 R118), raised by memory operations. Safe. -/
  | noMemory (pa : Nat)
deriving DecidableEq, Repr

/-- Why an instruction has no meaning. -/
inductive Refusal where
  /-- The instruction is not modelled yet: raised by its arm of `exec`. Safe. -/
  | notModelled (mnemonic : String)
deriving DecidableEq, Repr

/-! ### Caches and translation (05) -/

/-- A 128-byte sector in an L1 (05 R125). Bit k of each mask, and byte k of `data`, belong to byte k of the sector. -/
structure Sector where
  valid : BitVec 128
  /-- The bytes the core has written and not written back. -/
  dirty : BitVec 128
  data : BitVec 1024
  /-- Whether a written byte belongs to an exported page (07 R169). -/
  exported : Bool
deriving DecidableEq, Repr

/-- A 512-byte line held update-only (11 R223). -/
structure UoLine where
  op : AtomOp
  /-- Bit k: the aligned 4-byte word k has been combined into. -/
  written : BitVec 128
  words : BitVec 4096
  exported : Bool
deriving DecidableEq, Repr

/-- A leaf translation as a TLB holds it (05 R130, R131). -/
structure Leaf where
  asid : Nat
  /-- The page's first virtual address, and the level of the leaf. -/
  va : Nat
  level : Nat
  pa : Nat
  canWrite : Bool
  canFetch : Bool
  exported : Bool
  /-- FMT, 0 to 8. -/
  fmt : Nat
  side : Nat
deriving DecidableEq, Repr

/-- A sector in an L2 home slice, as far as programs can observe it (05 R125, R126). -/
structure L2Sector where
  /-- Remaining reads of a counted sector; none for an ordinary one. -/
  count : Option Nat
  /-- Whether the home's copy is newer than HBM. -/
  dirty : Bool
  /-- Written by a copy that does not allocate in the L3 (16 R264). -/
  bypass : Bool := false
deriving DecidableEq, Repr

/-- A line in an L3, as far as programs can observe it (05 R125): bit j of each set is for sector j. -/
structure L3Line where
  present : BitVec 4
  dirty : BitVec 4
deriving DecidableEq, Repr

/-- Who waits for a monitor: a warp by key (24 R437), or the front end for a launch's WAITSIG (14 R232). -/
inductive Waiter where
  | warp (k : Nat)
  | launch (lid : Nat)
deriving DecidableEq, Repr

/-- A condition monitor (06 R160, 11 R218). -/
structure Monitor where
  waiter : Waiter
  /-- The arming it belongs to. -/
  id : Nat
  /-- The die of the waiter. -/
  die : Nat
  asid : Nat
  addr : Nat
  cond : WaitCond
  wide : Bool
  value : Xword
deriving DecidableEq, Repr

/-- What a packet asks its destination to do (07 R167). -/
inductive PacketBody where
  /-- Bytes at physical addresses of the destination: one sector, or one block with its side pair (05 R138). -/
  | write (bytes : List (Nat × Byte))
  /-- The bytes at a list of addresses and lengths, in one read. -/
  | readReq (parts : List (Nat × Nat)) (req : Nat) (acquire : Bool) (rcount : Nat)
  | readReply (req : Nat) (bytes : List Byte)
  /-- One lane after another (21 R312): address and operand of each. -/
  | atomicReq (op : AtomOp) (lanes : List (Nat × Xword)) (acquire : Bool) (req : Nat)
  /-- Address, compare value and new value of each lane. -/
  | casReq (wide : Bool) (lanes : List (Nat × Xword × Xword)) (acquire : Bool) (req : Nat)
  | atomicReply (req : Nat) (olds : List Xword)
  | reduction (op : AtomOp) (lanes : List (Nat × Xword))
  /-- Arming of a monitor, and its answer (24 R438). -/
  | waitReq (m : Monitor)
  /-- The value that a monitor latched, or none where no monitor was free at the home. -/
  | waitReply (m : Monitor) (value : Option Xword)
  /-- A sector to fill, or a line to pin for a gang, at its home; the reply fills the L1 (05 R128). `lanes` is how many lanes
  named the line. -/
  | prefetch (addr : Nat) (gang : Option Nat) (lanes : Nat) (req : Nat)
  | carrier
  /-- What a member of a collective contributes, up to 128 bytes (09 R198; log 36). -/
  | contribution (bytes : List Byte)
  /-- An access to the control aperture (19 R292, R293): a write of a value, or a read with no value; sent to H, the value that a
  read found. -/
  | register (offset size : Nat) (value : Option Xword) (req : Nat)
  /-- D of the sender (R172); not counted. -/
  | floorBeat (counts : SMap Nat)
  /-- A header that R174 calls malformed. -/
  | malformed
deriving DecidableEq, Repr

/-- A packet (07 R168): its header fields, entries (src, dst, count) and body. -/
structure Packet where
  src : Nat
  dst : Nat
  cls : Nat
  asid : Nat
  entries : List (Nat × Nat × Nat)
  body : PacketBody
  /-- The warp that issued it, for PEER reports; none for engines and firmware. -/
  warp : Option Nat
  /-- The outstanding store of that warp, or the command, that a write or reduction belongs to. -/
  op : Option Nat
  /-- The virtual address that the packet of a command accesses (09 R196). -/
  va : Nat := 0
deriving DecidableEq, Repr
/-! ### Warps (01, 02, 15 R251) -/

/-- A lane's status (01 R34, 15 R251). -/
inductive LaneStat where
  | candidate
  /-- Parked at rejoin mask j. -/
  | parked (j : JMask)
  | held
  | exited
deriving DecidableEq, Repr

/-- One lane of a warp. -/
structure Lane where
  pc : Xword
  age : Nat
  stat : LaneStat
  /-- Suspended by a trap (15 R245); `stat` is then the status it returns to. -/
  suspended : Bool
  /-- Stochastic state XS (04 R101). -/
  xs : Word
  /-- Marked by `trigger` (14 R238). -/
  triggered : Bool
  /-- The scope of an executed `fence.rel` (06 R151). -/
  relFence : Option Scope
deriving DecidableEq, Repr

/-- A rejoin mask (01 R21). -/
structure RejoinMask where
  enrolled : LaneSet
  arrived : LaneSet
  pc : Xword
deriving DecidableEq, Repr

/-- A loop-stack entry (01 R25, 15 R251). -/
structure LoopEntry where
  start : Xword
  stop : Xword
  count : BitVec 32
  inBody : LaneSet
  held : LaneSet
deriving DecidableEq, Repr

/-- REPSTATE and the sequence in progress (01 R29 to R31). -/
structure RepState where
  done : Nat
  busy : Bool
  cnt : Nat
  /-- The group that issued the prefix; the warp's other lanes wait. -/
  lanes : LaneSet
deriving DecidableEq, Repr

/-- Where the data of an outstanding load, `atom` or `cas` goes when it returns (22 R378). -/
structure LoadReg where
  /-- Allocated register and lane. -/
  reg : Nat
  lane : Nat
  value : Word
deriving DecidableEq, Repr

/-- One lane's part of a reply: where its bytes stand, and how they become a register's value (22 R378). -/
structure LanePart where
  lane : Nat
  /-- First allocated register. -/
  reg : Nat
  /-- The type of the `ld`. -/
  ty : Ty
  /-- Byte offset in the reply; in a block, the element within it. -/
  off : Nat
  /-- FMT of the page, 0 to 8. -/
  fmt : Nat
  /-- The lane's draw, where the conversion takes one (04 R102). -/
  draw : Word
  /-- Where its block begins in the reply. -/
  base : Nat := 0
deriving DecidableEq, Repr

/-- A request of an outstanding load whose reply has not come. -/
structure LoadReq where
  req : Nat
  agent : Nat
  /-- The sector that the reply fills in the L1, as PA / 128, with the acquires of the core at the request; none for an
  acquire or a block. -/
  fill : Option (Nat × Nat)
  parts : List LanePart
  /-- What is read, as addresses and lengths; none for an atomic. -/
  spans : List (Nat × Nat) := []
deriving DecidableEq, Repr

/-- An outstanding `ld`, `atom` or `cas` (22 R379). -/
structure LoadOp where
  id : Nat
  /-- Destination registers, by allocated register number, whatever the lane. -/
  dests : List Nat
  /-- Values that have arrived. -/
  ready : List LoadReg
  waiting : List LoadReq
  cvtmode : Xword
  /-- The lanes whose acquire completes with this operation (06 R149), and its scope. -/
  acquire : Option (LaneSet × Scope)
  /-- The kinds of engine command that wait for that acquire, as the bits of a fence's mask (R149, R151). -/
  kinds : BitVec 4
  /-- A reply that will not come: the departed agent (07 R179). -/
  lost : Option Nat
deriving DecidableEq, Repr

/-- An outstanding `st`, `red`, `cinv` or `cwb` (24 R439): the packets that have not been performed. -/
structure StoreOp where
  id : Nat
  packets : Nat
  /-- Translation walks of CACHE operations still under way. -/
  walks : Nat
deriving DecidableEq, Repr

/-- Why a warp is stopped, with what it waits for (01 R14, 15 R252). -/
inductive Stop where
  | running
  /-- `waitc`, with a monitor armed or, when all are taken, polling (11 R218). -/
  | monitor (addr : Nat) (polling : Bool)
  /-- Barrier object, and the phase a second arrival waits past (11 R213). -/
  | barrier (o : Nat)
  | waitn (ld st cp mx : Nat)
  /-- The address of a replayable fault, and whether its 64 KiB page is recorded (05 R134). -/
  | fault (va : Nat) (recorded : Bool)
  /-- A token bucket, a reseal or the 2^14 bound of 07 R172. -/
  | bucket (cost : Nat)
  /-- Loads, stores or atomics in flight: a register or an acquire that it needs, or a counter at 31 (R14, 22 R379). -/
  | scoreboard
  /-- Engine commands: a full queue or counter of theirs, or a fence that waits for engines (09 R187, R203, 06 R151). -/
  | engine
deriving DecidableEq, Repr

/-- A cause owed at the warp's next issue in user mode (15 R246). -/
structure AsyncCause where
  cause : Nat
  info : Xword
deriving DecidableEq, Repr

/-- The trap that a warp's handler was entered for (15 R245, R255). -/
structure TrapEntry where
  cause : Nat
  pc : Xword
  info : Xword
deriving DecidableEq, Repr

/-- A resident warp (02 R35, 15 R251). -/
structure Warp where
  die : Nat
  asid : Nat
  cluster : Nat
  /-- Core within the die. -/
  core : Nat
  partition : Nat
  slot : Nat
  gang : Nat
  member : Nat
  index : Nat
  width : Nat
  alloc : Nat
  lanes : List Lane
  /-- Keyed 64 * register + lane; unlisted registers are 0. -/
  vregs : SMap Word
  sregs : SMap Xword
  pregs : SMap LaneSet
  masks : SMap RejoinMask
  /-- Top first. -/
  loops : List LoopEntry
  rep : RepState
  vwb : Nat
  cvtmode : Xword
  srseed : Xword
  /-- LABEL in place, RESTARTED in bit 0 (02 R45). -/
  restart : Xword
  priv : Bool
  trappc : Xword
  trapcause : Xword
  trapinfo : Xword
  scratch0 : Xword
  scratch1 : Xword
  tlanes : LaneSet
  /-- The cause of the last entry, which a kill record names whatever the handler writes (R255). -/
  entered : Option TrapEntry
  stop : Stop
  latch : Option Xword
  /-- The same for a `waitc` of a handler. -/
  supLatch : Option Xword
  /-- The monitor that the warp's `waitc` has asked for and that has not latched, and the same for a `waitc` of a handler. -/
  armed : Option Monitor
  supArmed : Option Monitor
  pendingRestart : Bool
  loads : List LoadOp
  stores : List StoreOp
  copies : Nat
  matrix : Nat
  async : List AsyncCause
  /-- The phase that a `bsync` in progress has arrived in, with its object (11 R211). -/
  bsync : Option (Nat × BitVec 32)
  /-- The time of the warp's last issue (01 R19), as a count of issues. -/
  lastIssue : Nat
deriving DecidableEq, Repr

/-- The instruction that a warp is executing: what an issue fixes before the meaning runs (01 R15). -/
structure Cur where
  warp : Nat
  lanes : LaneSet
  /-- The warp's candidates at the issue (01 R18). -/
  cands : LaneSet
  pc : Xword
  /-- The PC that a trap reports: the `rep` word within a sequence (01 R31). -/
  trapPc : Xword
  /-- The address after the instruction's last word. -/
  nextPc : Xword
  /-- Whether the warp issues in supervisor mode. -/
  priv : Bool
  /-- Set for a repeat of a rep sequence; then lanes move after the last repeat only. -/
  inRep : Bool
deriving DecidableEq, Repr

/-! ### Barriers, gangs and launches (11, 14) -/

/-- Whether an object that cannot complete its phase owes a trap to the next member that waits, or one has been
taken (11 R215). -/
inductive Stuck where
  | no | owed | taken
deriving DecidableEq, Repr

/-- A barrier object (11 R210); warps are named by slot, GMEMBER * 32 + WARP. -/
structure BarObj where
  ready : Bool
  members : BitVec 256
  expected : Nat
  arrived : BitVec 256
  phase : BitVec 32
  waiters : BitVec 256
  /-- The order in which the waiting warps began to wait, first first (R215). -/
  order : List Nat
  stuck : Stuck
deriving DecidableEq, Repr

/-- A gang that has been admitted and not retired (01 R8, 11 R224). -/
structure Gang where
  launch : Nat
  index : Nat
  die : Nat
  asid : Nat
  cluster : Nat
  /-- First core, within the die. -/
  core : Nat
  members : Nat
  warps : Nat
  /-- First byte of the local region in the cluster's memory, and the launch record's local bytes (05 R121). -/
  base : Nat
  localBytes : Nat
  bars : SMap BarObj
  /-- Admission time (14 R242). -/
  admitted : Nat
deriving DecidableEq, Repr

/-- A queue (14 R229): the descriptor, and the queue's head launch. -/
structure Queue where
  qbase : Nat
  qsize : Nat
  enable : Bool
  overrun : Bool
  ovfbase : Nat
  ovfsize : Nat
  maxprio : Nat
  head : BitVec 32
  tail : BitVec 32
  asid : Nat
  devq : Bool
  rfault : Bool
  ovfhead : BitVec 32
  ovftail : BitVec 32
  /-- The head launch, while it has gangs to place or repeats. -/
  headLaunch : Option Nat
  /-- The record before the next one: whether it has ended and whether it counts as triggered (DEP, R232). -/
  prevLaunch : Option Nat
deriving DecidableEq, Repr

/-- A write that the front end makes in a context's address space (14 R444). -/
structure FrontWrite where
  /-- 0 status word, 1 completion bitmap, 2 SIGNAL, 3 TRIGSIG. -/
  kind : Nat
  addr : Nat
  /-- None for an 8-byte write. -/
  op : Option AtomOp
  value : Xword
deriving DecidableEq, Repr

/-- How far a launch has come (14 R230 to R234). -/
inductive LaunchStage where
  /-- Taken; the prologue, where there is one, has not run. -/
  | taken
  /-- Its prologue has run; the check is still to be made. -/
  | rewritten
  /-- Checked; waits for DEP and WAITSIG. -/
  | checked
  | eligible
  | placed
  /-- Its last writes are being made; the status word (R233). -/
  | ending (status : Nat)
  | ended (status : Nat)
deriving DecidableEq, Repr

/-- A launch that the front end has taken as head launch (14 R232). -/
structure Launch where
  die : Nat
  queue : Nat
  asid : Nat
  /-- The record as the prologue left it, and as it was read. -/
  record : List Xword
  slotRec : List Xword
  /-- HEAD just before the record was taken. -/
  slot : BitVec 32
  stage : LaunchStage
  /-- When it became head launch. -/
  since : Nat
  nextGang : Nat
  retired : Nat
  triggered : Bool
  repeats : Bool
  /-- The schedule-table image, as read when the record was checked (R239). -/
  sched : List Nat
  /-- The monitor that watches WAITSIG, and whether it has latched (R232). -/
  waiting : Option Monitor
  met : Bool
  passes : Nat
  /-- The time the head gang first stood blocked, and the window it has reserved: cluster and first core. -/
  blockedSince : Option Nat
  window : Option (Nat × Nat)
  /-- Front-end writes still to be made, in order (R444). -/
  todo : List FrontWrite
deriving DecidableEq, Repr

/-! ### Engines (09) -/

/-- A read request whose reply a command waits for: its number, the virtual address read, and its parts. -/
structure Asked where
  req : Nat
  va : Nat
  parts : List (Nat × Nat)
deriving DecidableEq, Repr

/-- What a queued copy does, with its operands as they stood at issue (09 R185 to R195). -/
inductive CopyKind where
  | linear (src dst count : Nat) (srcLocal dstLocal : Bool)
  | tensor (rec : List Xword) (toGlobal : Bool)
  | multicast (rec : List Xword)
  | indexed (rec : List Xword) (idx : List Nat)
  | collective (rec : List Xword) (word : Xword)
deriving DecidableEq, Repr

/-- A queued copy or collective. -/
structure CopyCmd where
  id : Nat
  warp : Nat
  gang : Nat
  asid : Nat
  die : Nat
  kind : CopyKind
  acq : Bool
  rel : Bool
  scope : Scope
  cvtmode : Xword
  /-- The state its stochastic draws come from (04 R102). -/
  draw : Word
  /-- Virtual and physical address of its status word (R196). -/
  token : Nat
  tokenPa : Nat
  counter : Nat
  add : Word
  /-- The next slice of the command, and the packets that its slices still wait for. -/
  slice : Nat
  packets : Nat
  /-- Where the present run of slices ends, the command's own end where none is named; and the runs that have been passed over
  (R188). -/
  stop : Option Nat := none
  behind : List (Nat × Nat) := []
  /-- The read request whose reply the next slice waits for, and the bytes that replies have brought. -/
  asked : Option Asked
  fetched : SMap Byte
  /-- Whether its writes allocate in the L3 (16 R264). -/
  alloc : Bool
  /-- It waits for its context's token bucket (07 R175), and for what cost. -/
  short : Bool
  due : Nat := 0
  /-- Its counter has been updated (R197). -/
  updated : Bool
  /-- The cause and address of a fault that ends it (R197). -/
  fault : Option (Nat × Nat)
  /-- The address of a replayable fault it waits for. -/
  paused : Option Nat
  /-- A collective: the members of the chain it is bound to (18 R289), and the time of its issue (16 R274). -/
  chainMembers : List Nat
  arrived : Nat
  /-- The warp's loads and stores that had not been performed at the issue, which the command comes after (06 R155). -/
  after : List Nat := []
  /-- The lane that has still to give a draw, where it was open at the issue whether one is taken (04 R102). -/
  owes : Option Nat := none
deriving DecidableEq, Repr

/-- A queued matrix command (09 R203, R207). -/
inductive MatrixKind where
  | mma | mzero | mload | mdrain
  | hist (clear : Bool) (t : Nat)
deriving DecidableEq, Repr

/-- A queued matrix command with its parameter block as it stood at issue. -/
structure MatrixCmd where
  id : Nat
  warp : Nat
  gang : Nat
  asid : Nat
  die : Nat
  kind : MatrixKind
  block : List Word
  /-- The output offset of `hist`. -/
  out : Nat
  idx : List Nat
  cvtmode : Xword
  draw : Word
  /-- The engine that carries it out: the vector lanes or the matrix engine (16 R263). -/
  onLanes : Bool
  paused : Option Nat
  /-- The read request it waits for, and the bytes of other agents that replies have brought. -/
  asked : Option Asked
  fetched : SMap Byte
  short : Bool
  due : Nat := 0
  /-- It has been carried out, and waits for the packets of its writes. -/
  ran : Bool
  packets : Nat
  /-- The parts of its output that have been written so far, by number (R386, 22 R372). -/
  written : List Nat := []
  /-- As for a copy (06 R155). -/
  after : List Nat := []
deriving DecidableEq, Repr

/-- A histogram tensor (09 R206). -/
structure HistTensor where
  bins : SMap Word
  count : Word
  amax : Word
deriving DecidableEq, Repr

/-- The schedule table of a core (14 R239). -/
structure SchedTable where
  gang : Nat
  member : Nat
  entries : List Nat
  cursor : Nat
deriving DecidableEq, Repr

/-- The operand latch (09 R202): what names the B operand of the core's last `mma`, and its bytes: spans of memory by
physical address, and of local memory by key. A write to any of them empties it. -/
structure Latch where
  key : List Word
  mem : List (Nat × Nat)
  loc : List (Nat × Nat)
deriving DecidableEq, Repr

/-- One core (01 R12, 05 R123 to R131). -/
structure Core where
  rotation : Nat
  /-- By sector number, PA / 128. -/
  l1 : SMap Sector
  /-- By line number, PA / 512. -/
  uo : SMap UoLine
  tlb : List Leaf
  /-- Values of instruction words that a fetch may still return, by virtual address and ASID (ASID * 2^57 + VA): what the
  word has held since the core's context was last admitted (03 R81, R82). -/
  icache : SMap (List Nat)
  /-- Prefetches of remote sectors under way: the sector by request. An acquire drops them. -/
  fills : SMap Nat
  /-- The acquires that have taken hold in the L1 so far (06 R149). -/
  acquires : Nat
  /-- Accumulator elements: 512 * row + column. -/
  acc : SMap Word
  /-- Rows written, by row, with the gangs and members that wrote them (R124). -/
  accRows : SMap (List (Nat × Nat))
  hists : SMap HistTensor
  sched : Option SchedTable
  mq : List MatrixCmd
  latch : Option Latch
  gated : Bool
  /-- When the matrix engine's queue last emptied, and its last idle gap in ns (16 R264). -/
  idleFrom : Nat
  idleGap : Nat
  /-- Whether its wake policy last chose to gate. -/
  choseGate : Bool
  /-- The prefetch depth, and when it last changed (16 R260). -/
  prefetch : Nat
  depthSince : Nat
  lastAuto : Option Bool
deriving DecidableEq, Repr

/-! ### Clusters, dies and contexts -/

/-- What a cluster's last usable sample said (16 R261). -/
structure Sample where
  stall : Nat
  energy : Nat
  point : Nat
deriving DecidableEq, Repr

/-- One cluster (05 R124, 16, 18). -/
structure Cluster where
  /-- The context it serves, by ASID; none when idle. -/
  asid : Option Nat
  /-- Queued copies, and the warp whose turn was last (09 R188). -/
  cq : List CopyCmd
  lastTurn : Nat
  copyGated : Bool
  copyIdleFrom : Nat
  copyIdleGap : Nat
  /-- Whether its L3 chooser last chose to allocate (16 R260). -/
  copyAlloc : Bool
  copyChoseGate : Bool
  cycle : Xword
  xrate : BitVec 32
  /-- The point the chooser or a pin names, and the supply in mV (18 R277). -/
  point : Nat
  mv : Nat
  /-- The limiter's trim in hundredths (16 R268), and the frequency the oscillator is clamped to, in MHz (18 R278). -/
  trim : Nat
  clampMhz : Nat
  stallr : BitVec 16
  changed : Bool
  /-- A pin in force, and the point it names (18 R283). -/
  pinned : Bool
  pinPoint : Nat
  clkResult : Nat
  gated : Bool
  /-- When the chooser's dwell started, and its last usable sample. -/
  dwell : Nat
  sample : Option Sample
  /-- The energy of the last sample in nJ; and what matrix commands have charged in the present one, in 2^-16 nJ (17 R276). -/
  lastEnergy : Nat
  charged : Nat
  fullTrimSince : Option Nat
  /-- The time of its last emergency step (16 R269). -/
  lastDrop : Nat
  /-- The TIME at which its present sample ends, and whether a partition of it has been occupied, and stalled, in the sample
  (18 R281). -/
  sampleEnd : Nat
  occSeen : Bool
  stallSeen : Bool
  /-- When the cluster last held no context from (18 R282). -/
  idleSince : Nat
deriving DecidableEq, Repr

/-- A walk that a CACHE operation started (05 R128). -/
structure CacheWalk where
  warp : Nat
  core : Nat
  gang : Nat
  asid : Nat
  va : Nat
  /-- t5: 0 pref, 1 keep, 2 cinv, 3 cwb. -/
  op : Nat
  storeOp : Nat
  /-- How many lanes named the line. -/
  lanes : Nat
deriving DecidableEq, Repr

/-- A member of a die's chain as F6 knows it (18 R286, R288). -/
structure ChainMember where
  id : Nat
  joinAt : Nat
  /-- The effective time of its leave or removal. -/
  leaveAt : Option Nat
  /-- Ceiling entries: effective time and MHz, that of the latest time first. -/
  entries : List (Nat × Nat)
  heard : Nat
  /-- A removal of it has been received, and told (R288). -/
  told : Bool
deriving DecidableEq, Repr

/-- Where the straits carry a chain message (18 R287, R288). -/
inductive StraitTo where
  | member (id : Nat)
  /-- Every member outside the package of the chain that a member belongs to. -/
  | chainOf (id : Nat)
deriving DecidableEq, Repr

/-- One compute die. -/
structure Die where
  tlb : List Leaf
  /-- Records of the fault buffer: ASID and 64 KiB page (05 R134). -/
  faults : List (Nat × Nat)
  /-- Of those, what F3 has found to have no backing, while the front end hears of it (R443). -/
  unbacked : List (Nat × Nat)
  /-- By sector number. -/
  l2 : SMap L2Sector
  /-- By line number: the gangs that pin the line (05 R127). -/
  pins : SMap (List Nat)
  monitors : List Monitor
  /-- By signal address: the cores recorded (06 R162). -/
  pending : SMap (List Nat)
  walks : List CacheWalk
  /-- Collectives in progress (09 R198), each with its input once read. -/
  colls : List (CopyCmd × Option (List Nat))
  dceil : Nat
  rej : Bool
  thermal : Nat
  /-- CEIL as the clusters use it. -/
  ceil : Nat
  chain : List ChainMember
  /-- Ids whose messages are discarded until they join again (18 R288). -/
  removed : List Nat
  /-- The chain timebase less the package timebase, in ns, and the value below which TIME does not fall (18 R285). -/
  timeShift : Int
  timeFloor : Nat
  /-- The member outside the package through which the die joined its chain (R288). -/
  joinedBy : Option Nat
  /-- Link width in lanes: 64, 32 or 16; and the width a change in progress goes to (07 R181). -/
  width : Nat
  widening : Option Nat
  widthDwell : Nat
  /-- Points that wait for the width change (07 R182): cluster, point and time of the request. -/
  heldPoints : List (Nat × Nat × Nat)
  budget : Nat
  /-- The power in mW that the die's limiter last sampled (16 R268). -/
  sample : Nat
  departed : Bool
  /-- A departed die has been reset and may rejoin (07 R180, 19 R300). -/
  renewed : Bool
  /-- Contexts that have issued `coll` (18 R288). -/
  collContexts : List Nat
  softErrors : Nat
  lateEntries : Nat
  badMessages : Nat
  badPackets : Nat
deriving DecidableEq, Repr

/-- A token bucket (07 R175): bytes per ns, depth and fill in bytes. -/
structure Bucket where
  rate : Nat
  depth : Nat
  fill : Nat
deriving DecidableEq, Repr

/-- The stages of a switch that a context has gone through (15 R253). -/
inductive SwitchStage where
  | running | stopped | drained | writtenBack | saved | cleared
deriving DecidableEq, Repr

/-- A replica of an imported page: its first byte, and its side area (07 R166, 05 R120). -/
structure Replica where
  pa : Nat
  side : Nat
  /-- The level and FMT of the page. -/
  level : Nat := 4
  fmt : Nat := 0
deriving DecidableEq, Repr

/-- A context: one ASID on one die (15 R250). -/
structure Ctx where
  bound : Bool
  region : List Nat
  lrate : Xword
  pwrcls : Nat
  trapvec : Xword
  ptbase : Xword
  floor : Nat
  maxcls : Nat
  efloor : Nat
  energy : Xword
  /-- log2 of the skew bias in units of 1/512 (16 R274). -/
  bias : Nat
  hintdrop : Xword
  savebase : Nat
  evring : Nat
  /-- The token ring's base and the copies issued (09 R196). -/
  tokenRing : Nat
  tokens : Nat
  /-- Lines that copies have written in the last 100 microseconds: when, and whether they were read again from the L3 since
  (16 R264). -/
  copyLines : SMap (Nat × Bool)
  /-- By class. -/
  buckets : SMap Bucket
  killed : Bool
  stage : SwitchStage
  /-- The clusters that a switch in progress, or the last one, takes it off, and when it last held none (14 R243). -/
  leaving : List Nat
  outSince : Nat
  /-- What is off its clusters: warps, gangs and local bytes (by gang * 2^24 + offset). -/
  savedWarps : SMap Warp
  savedGangs : SMap Gang
  savedLocal : SMap Byte
  savedScheds : SMap SchedTable
  /-- Where in the save area the record of each saved warp stands, and the first offset behind everything saved. -/
  savedAt : SMap Nat
  saveEnd : Nat
  /-- Exported pages by handle: physical address and bytes (07 R165). -/
  handles : SMap (List (Nat × Nat))
  /-- Import records: page VA to its replicas, one for a peer page; and the handle (07 R166). -/
  imports : SMap (List Replica)
  importHandles : SMap Nat
  power : Nat
deriving DecidableEq, Repr

/-! ### The causeway and the package -/

/-- Where a reseal stands (07 R180). -/
inductive ResealStage where
  | normal
  | stopped (rejoin : Option Nat)
  | zeroed (rejoin : Option Nat)
deriving DecidableEq, Repr

/-- What a channel had been sent when a mapping went: K of its source, and whether more waited at the port (07 R165). -/
structure ChannelMark where
  src : Nat
  dst : Nat
  count : Nat
  queued : Bool
deriving DecidableEq, Repr

/-- Pages that an importer no longer maps, and what has to be delivered before that removal is complete (07 R165, 24 R431);
where an export is being withdrawn, its owner may not use the frames again until then, and the host may have a reply. -/
structure Withdrawal where
  /-- Physical address and bytes of each page. -/
  pages : List (Nat × Nat)
  exported : Bool
  waits : List ChannelMark
  reply : Option (List Xword)
deriving DecidableEq, Repr

/-- The causeway (07 R170 to R173). Keys: K and F, 256 i + 16 k + m; D and the beats, 16 i + k; dirty bits,
256 (16 i + j) + 16 k + m; channels, 16 src + dst. -/
structure Causeway where
  know : SMap Nat
  delivered : SMap Nat
  floors : SMap Nat
  dirty : SMap Bool
  /-- D of the last floor beat that a receiver was sent and has acknowledged: 256 i + 16 receiver + k. -/
  beats : SMap Nat
  /-- Packets that wait at their source's port until they may be injected (R172, R180). -/
  outbox : SMap (List Packet)
  flying : SMap (List Packet)
  held : SMap (List Packet)
  reseal : ResealStage
  resetsHeld : List Nat
deriving DecidableEq, Repr

/-- The rate integrator and the host's power registers (16 R257, R271). -/
structure Power where
  rate : BitVec 32
  cap : Nat
  rmin : BitVec 32
  rmax : BitVec 32
  caprej : Bool
  raterej : Bool
  scaled : Bool
  pmeas : Nat
  /-- The rate that the integrator last broadcast (R257). -/
  cast : BitVec 32
  /-- RATE as PSTAT shows it. -/
  shownRate : BitVec 32
  /-- Average power of each die over the last 10 microseconds, in mW. -/
  diePower : SMap Nat
deriving DecidableEq, Repr

/-- The mailbox, measurements and boot (19). -/
structure HostIf where
  cbase : Nat
  csize : Nat
  ebase : Nat
  esize : Nat
  ctail : BitVec 32
  chead : BitVec 32
  ehead : BitVec 32
  etail : BitVec 32
  elost : BitVec 32
  /-- MEAS n as 32 bytes; unlisted registers are zero. -/
  meas : SMap (List Byte)
  bootStage : Nat
  bootStopped : Bool
  accepting : Bool
  hbmStacks : Nat
  /-- Clusters that have started since the package reset, in the order of 18 R291, and when the last one did. -/
  clustersUp : Nat
  lastStart : Nat
  /-- Frames of 64 KiB that F3 has retired (15 R256). -/
  retired : List Nat
  /-- The command whose reply waits for the end of a reseal (R295, 07 R180). -/
  resealFor : Option (List Xword)
  resets : Nat
  serial : Nat
  /-- Replies that H has received to its reads and atomics, by tag (R292). -/
  replies : SMap (List Byte)
deriving DecidableEq, Repr

/-- The whole machine. Keys are numbers: a warp's ((die * 32 + core) * 32 + partition) * 16 + slot; a queue's
256 * die + queue; a context's 2048 * die + ASID; a core's 32 * die + core; a cluster's 4 * die + cluster; a die's its agent
index, with 8 for H as a home. Gangs and launches are keyed by numbers never used again. -/
structure State where
  /-- Memory by physical address; an unlisted byte is 0 (05 R118; log 4). -/
  mem : SMap Byte
  /-- Local memory by 2^24 * gang + offset; an unlisted byte is undefined (05 R121; log 5). -/
  lmem : SMap Byte
  warps : SMap Warp
  gangs : SMap Gang
  launches : SMap Launch
  queues : SMap Queue
  ctxs : SMap Ctx
  cores : SMap Core
  clusters : SMap Cluster
  dies : SMap Die
  /-- The L3s of the base dies (05 R125), by line number; a line's base die follows from its owner (00 R1). -/
  l3 : SMap L3Line
  cway : Causeway
  withdrawals : List Withdrawal
  /-- Chain messages on the straits to members outside the package, oldest first, with their words (18 R287). -/
  straits : List (StraitTo × List Xword)
  power : Power
  host : HostIf
  /-- The instruction being executed (log 1). -/
  cur : Option Cur
  /-- A group that issues at the next step, before anything else happens: the second half of a pair (01 R15). -/
  second : Option (Nat × LaneSet)
  /-- What the outside world and the engines do next, in order (log 2). -/
  agenda : List Instr
  /-- Issues so far (01 R19). -/
  issues : Nat
  /-- What free values are applied to (log 3). -/
  tick : Nat
  /-- Time in ns (log 2). -/
  now : Nat
  nextId : Nat
deriving DecidableEq, Repr

/-! ### Values of unlisted keys, and reset -/

/-- 14 R229: the descriptor of a queue that firmware has not written. -/
def Queue.unused : Queue :=
  { qbase := 0, qsize := 0, enable := false, overrun := false, ovfbase := 0, ovfsize := 0, maxprio := 0, head := 0,
    tail := 0, asid := 0, devq := false, rfault := false, ovfhead := 0, ovftail := 0, headLaunch := none,
    prevLaunch := none }

/-- R175: rate in bytes per ns and depth in bytes; full at reset (log 26). -/
def Bucket.atReset : Bucket := { rate := 6000, depth := 65536, fill := 65536 }

/-- A context that is not bound: the reset values of 02 R41, 16 R271 and R273, and the choices of log 26. -/
def Ctx.unbound : Ctx :=
  { bound := false, region := [], lrate := 0, pwrcls := 0, trapvec := 0, ptbase := 0, floor := 0, maxcls := 7,
    efloor := 0, energy := 0, bias := 0, hintdrop := 0, savebase := 0, evring := 0, tokenRing := 0, tokens := 0, copyLines := [],
    buckets := [], killed := false, stage := .running, leaving := [], outSince := 0, savedWarps := [], savedGangs := [], savedLocal := [], savedScheds := [],
    savedAt := [], saveEnd := 0, handles := [], imports := [], importHandles := [], power := 0 }

/-- A core with nothing resident (05 R124; log 21). -/
def Core.idle : Core :=
  { rotation := 0, l1 := [], uo := [], tlb := [], icache := [], fills := [], acquires := 0, acc := [], accRows := [], hists := [], sched := none,
    mq := [], latch := none, gated := false, idleFrom := 0, idleGap := 0,
    choseGate := false, prefetch := 0, depthSince := 0, lastAuto := none }

/-- An idle cluster (16 R258, 18 R277, R283, R291; log 22). -/
def Cluster.idle : Cluster :=
  { asid := none, cq := [], lastTurn := 0, copyGated := false, copyIdleFrom := 0, copyIdleGap := 0, copyAlloc := true, copyChoseGate := false, cycle := 0,
    xrate := 0x00040000, point := 0, mv := 550, trim := 0, clampMhz := 600, stallr := 0, changed := false, pinned := false, pinPoint := 0, clkResult := 0, gated := true, dwell := 0,
    sample := none, lastEnergy := 0, charged := 0, fullTrimSince := none,
    lastDrop := 0, sampleEnd := 10000, occSeen := false, stallSeen := false, idleSince := 0 }

/-- A die after reset (18 R283, R286; logs 22, 24, 25). -/
def Die.atReset : Die :=
  { tlb := [], faults := [], unbacked := [], l2 := [], pins := [], monitors := [], pending := [], walks := [], colls := [],
    dceil := 2300, rej := false, thermal := 2300, ceil := 2300, chain := [], removed := [], timeShift := 0, timeFloor := 0, joinedBy := none, width := 64, widening := none,
    widthDwell := 0, heldPoints := [], budget := 0, sample := 0, departed := false, renewed := false, collContexts := [], softErrors := 0,
    lateEntries := 0, badMessages := 0, badPackets := 0 }

/-- The causeway after reset (07 R170; log 27). -/
def Causeway.atReset : Causeway :=
  { know := [], delivered := [], floors := [], dirty := [], beats := [], outbox := [], flying := [], held := [], reseal := .normal,
    resetsHeld := [] }

/-- The power registers after reset (16 R257, R271). -/
def Power.atReset : Power :=
  { rate := 0x00040000, cap := 5000, rmin := 0x00001000, rmax := 0x04000000, caprej := false, raterej := false,
    scaled := false, pmeas := 0, cast := 0x00040000, shownRate := 0x00040000, diePower := [] }

/-- The host's registers after reset (19 R295, R298). -/
def HostIf.atReset : HostIf :=
  { cbase := 0, csize := 0, ebase := 0, esize := 0, ctail := 0, chead := 0, ehead := 0, etail := 0, elost := 0,
    meas := [], bootStage := 0, bootStopped := false, accepting := false, hbmStacks := 0, clustersUp := 0, lastStart := 0,
    retired := [], resealFor := none, resets := 0, serial := 0,
    replies := [] }

/-- The machine after reset: nothing resident, no memory byte listed, every register at its reset value. -/
def State.reset : State :=
  { mem := [], lmem := [], warps := [], gangs := [], launches := [], queues := [], ctxs := [], cores := [],
    clusters := [], dies := [], l3 := [], cway := Causeway.atReset, withdrawals := [], straits := [], power := Power.atReset, host := HostIf.atReset, cur := none,
    second := none, agenda := [], issues := 0, tick := 0, now := 0, nextId := 0 }

end Sys2Proof.Machine
end

