-- ==== Sys2Proof/Machine/Tables.lean ====
section
/-!
DEFINITION. The operations over sparse tables, in their one canonical form: keys strictly rising. `mget` and `mset` are
for tables whose unlisted keys mean a default value, which no entry then lists.
-/

namespace Sys2Proof.Machine

/-- The entry at a key. -/
def mfind {β : Type} (m : SMap β) (k : Nat) : Option β :=
  match m with
  | [] => none
  | e :: r => if e.1 = k then some e.2 else mfind r k

/-- Whether a key is listed. -/
def mhas {β : Type} (m : SMap β) (k : Nat) : Bool := (mfind m k).isSome

/-- Without the entry at a key. -/
def mdel {β : Type} (m : SMap β) (k : Nat) : SMap β :=
  match m with
  | [] => []
  | e :: r => if e.1 = k then mdel r k else e :: mdel r k

/-- With the entry at a key, in its place. -/
def mput {β : Type} (m : SMap β) (k : Nat) (v : β) : SMap β :=
  match m with
  | [] => [(k, v)]
  | e :: r =>
    if e.1 < k then e :: mput r k v
    else if e.1 = k then (k, v) :: r
    else (k, v) :: e :: r

/-- The value at a key, `d` where nothing is listed. -/
def mget {β : Type} (d : β) (m : SMap β) (k : Nat) : β := (mfind m k).getD d

/-- The table with a value at a key; the default is not listed. -/
def mset {β : Type} [DecidableEq β] (d : β) (m : SMap β) (k : Nat) (v : β) : SMap β :=
  if v = d then mdel m k else mput m k v

/-- The keys of a table. -/
def mkeys {β : Type} (m : SMap β) : List Nat := m.map Prod.fst

/-- The table with a function applied to every value. -/
def mmap {β : Type} (f : β → β) (m : SMap β) : SMap β := m.map fun e => (e.1, f e.2)

/-- A table with the entries of another put into it. -/
def mmerge {β : Type} (m l : SMap β) : SMap β := l.foldl (fun m e => mput m e.1 e.2) m

/-- The table with the value at a key changed, where it is listed. -/
def mupd {β : Type} (m : SMap β) (k : Nat) (f : β → β) : SMap β :=
  match mfind m k with
  | none => m
  | some v => mput m k (f v)

/-- Whether the keys rise strictly. -/
def rising {β : Type} (m : SMap β) : Bool :=
  match m with
  | [] => true
  | e :: r => r.all (fun x => decide (e.1 < x.1)) && rising r

/-- The canonical form of a table with default `d`. -/
def canonical {β : Type} [DecidableEq β] (d : β) (m : SMap β) : Bool :=
  rising m && m.all fun e => decide (e.2 ≠ d)

/-- The canonical form of memory: addresses strictly rising, no byte 0 listed (log 4). -/
def Memory.wf (m : SMap Byte) : Bool := canonical 0 m

/-! ### Sets of lanes -/

/-- The lane set of one lane. -/
def laneBit (i : Nat) : LaneSet := BitVec.ofNat 64 (2 ^ i)

/-- The first n lanes. -/
def firstLanes (n : Nat) : LaneSet := BitVec.ofNat 64 (2 ^ n - 1)

/-- The lanes of a set, in increasing index. -/
def lanesOf (s : LaneSet) : List Nat := (List.range 64).filter fun i => s.getLsbD i

/-- The set of the lanes below 64 that a test accepts. -/
def laneSet (p : Nat → Bool) : LaneSet :=
  (List.range 64).foldl (fun acc i => if p i then acc ||| laneBit i else acc) 0

/-- The number of lanes in a set. -/
def laneCount (s : LaneSet) : Nat := (lanesOf s).length

/-- The lowest-numbered lane of a set. -/
def firstLane (s : LaneSet) : Option Nat := (lanesOf s).head?

/-- The greatest of a list by a measure, the first among equals. -/
def bestBy {α : Type} (score : α → Nat) : List α → Option α
  | [] => none
  | x :: xs =>
    match bestBy score xs with
    | none => some x
    | some y => if score x < score y then some y else some x

end Sys2Proof.Machine
end

