-- ==== Sys2Proof/Machine/Operands.lean ====
section
/-!
DEFINITION. Reading and writing a warp's registers, and every operand form (02 R35 to R38, 03 R63, R64).
-/

namespace Sys2Proof.Machine

/-- The allocated register that a window name denotes (02 R38). -/
def Warp.allocated (w : Warp) (n : Nat) : Nat := w.vwb + n

/-- Lane i's 32 bits of window register n. -/
def Warp.v (w : Warp) (n i : Nat) : Word := mget 0 w.vregs (64 * w.allocated n + i)

/-- Lane i's 64 bits of registers n and n + 1, the low half in n (03 R72). -/
def Warp.v64 (w : Warp) (n i : Nat) : Xword := (w.v (n + 1) i ++ w.v n i)

/-- Scalar register n; s0 reads as zero (R36). -/
def Warp.s (w : Warp) (n : SReg) : Xword := if n = 0 then 0 else mget 0 w.sregs n.toNat

/-- The lanes in which predicate n is true; p0 is true in all (R35, R37). -/
def Warp.p (w : Warp) (n : PReg) : LaneSet := if n = 0 then firstLanes w.width else mget 0 w.pregs n.toNat

/-- With lane i's window register n written. -/
def Warp.setV (w : Warp) (n i : Nat) (x : Word) : Warp :=
  { w with vregs := mset 0 w.vregs (64 * w.allocated n + i) x }

/-- With a value written to window register n in each lane of a list. -/
def Warp.setVs (w : Warp) (n : Nat) (l : List (Nat × Word)) : Warp :=
  l.foldl (fun w e => w.setV n e.1 e.2) w

/-- With scalar register n written; a write to s0 is discarded (R36). -/
def Warp.setS (w : Warp) (n : SReg) (x : Xword) : Warp :=
  if n = 0 then w else { w with sregs := mset 0 w.sregs n.toNat x }

/-- With the bits of predicate n replaced in the lanes of a set; a write to p0 is discarded (R37). -/
def Warp.setP (w : Warp) (n : PReg) (lanes bits : LaneSet) : Warp :=
  if n = 0 then w
  else { w with pregs := mset 0 w.pregs n.toNat ((w.p n &&& ~~~lanes) ||| (bits &&& lanes)) }

/-- The b operand of lane i of a vector-integer member (03 R63). -/
def Warp.vop (w : Warp) (i : Nat) (b : VOp) : Word :=
  match b with
  | .reg n => w.v n.toNat i
  | .sreg n => (w.s n).setWidth 32
  | .const k => k.setWidth 32
  | .lit x => x.signExtend 32

/-- The b operand of a scalar member (03 R64). -/
def Warp.sop (w : Warp) (b : SOp) : Xword :=
  match b with
  | .reg n => w.s n
  | .const k => k.setWidth 64
  | .lit x => x.signExtend 64

/-- The window names that an operand uses. -/
def vopNames (b : VOp) : List Nat :=
  match b with
  | .reg n => [n.toNat]
  | .sreg _ | .const _ | .lit _ => []

/-- The window names n to n + k - 1. -/
def groupNames (n : VReg) (k : Nat) : List Nat := (List.range k).map fun j => n.toNat + j

/-- Lane i of a warp; a lane that does not exist has exited. -/
def Warp.lane (w : Warp) (i : Nat) : Lane :=
  w.lanes.getD i
    { pc := 0, age := 0, stat := .exited, suspended := false, xs := 0, triggered := false, relFence := none }

/-- Lanes from index k on, each changed by a function of its index. -/
def mapLanes (f : Nat → Lane → Lane) (k : Nat) (l : List Lane) : List Lane :=
  match l with
  | [] => []
  | x :: r => f k x :: mapLanes f (k + 1) r

/-- With a change made to the lanes of a set. -/
def Warp.onLanes (w : Warp) (s : LaneSet) (f : Lane → Lane) : Warp :=
  { w with lanes := mapLanes (fun i l => if s.getLsbD i then f l else l) 0 w.lanes }

/-- The set of lanes that a test accepts. -/
def Warp.lanesThat (w : Warp) (p : Lane → Bool) : LaneSet :=
  laneSet fun i => decide (i < w.lanes.length) && p (w.lane i)

end Sys2Proof.Machine
end

