-- ==== Sys2Proof/Machine/Warps.lean ====
section
/-!
DEFINITION. How the lanes of a warp move: PC groups, ages, rejoin masks and the loop stack (01 R14 to R28), and what is
deferred while the warp is in supervisor mode (15 R248).
-/

namespace Sys2Proof.Machine

/-- REPSTATE when no sequence is in progress. -/
def RepState.idle : RepState := { done := 0, busy := false, cnt := 0, lanes := 0 }

/-- Lanes that have not exited. -/
def Warp.live (w : Warp) : LaneSet := w.lanesThat fun l => l.stat != .exited

/-- The candidates of a warp (01 R14): lanes that have not exited, are not suspended and are not waiting at a park, at or
outside a loop body, or for another group's rep sequence. A handler's lanes run whatever they wait for after it (15 R248). -/
def Warp.candidates (w : Warp) : LaneSet :=
  let c := w.lanesThat fun l => !l.suspended && (if w.priv then l.stat != .exited else l.stat == .candidate)
  if w.rep.busy then c &&& w.rep.lanes else c

/-- The candidates whose PC is `pc`. -/
def Warp.group (w : Warp) (pc : Xword) : LaneSet :=
  w.candidates &&& w.lanesThat fun l => l.pc == pc

/-- Whether group a goes before group b: greater population, then lower PC (01 R15). -/
def groupBefore (a b : Xword × LaneSet) : Bool :=
  decide (laneCount b.2 < laneCount a.2) || (laneCount a.2 == laneCount b.2 && decide (a.1.toNat < b.1.toNat))

/-- The first of a list of groups. -/
def firstGroup (l : List (Xword × LaneSet)) : Option (Xword × LaneSet) :=
  match l with
  | [] => none
  | g :: r =>
    match firstGroup r with
    | none => some g
    | some h => if groupBefore h g then some h else some g

/-- The PC groups of some candidates. -/
def Warp.groupsOf (w : Warp) (cands : LaneSet) : List (Xword × LaneSet) :=
  (lanesOf cands).map fun i => ((w.lane i).pc, w.group (w.lane i).pc)

/-- R15, R18: the primary group. In user mode a lane whose age has reached 64 promotes its group. -/
def Warp.primary (w : Warp) : Option (Xword × LaneSet) :=
  let aged := lanesOf (w.candidates &&& w.lanesThat fun l => decide (64 ≤ l.age))
  match (if w.priv then [] else aged) with
  | i :: _ => some ((w.lane i).pc, w.group (w.lane i).pc)
  | [] => firstGroup (w.groupsOf w.candidates)

/-- R15: the secondary group beside a primary one. -/
def Warp.secondary (w : Warp) (prim : LaneSet) : Option (Xword × LaneSet) :=
  firstGroup (w.groupsOf (w.candidates &&& ~~~prim))

/-- R18: executing lanes return to age 0, the other candidates age by one, up to 64. -/
def Warp.ageBy (w : Warp) (executed cands : LaneSet) : Warp :=
  (w.onLanes (cands &&& ~~~executed) fun l => { l with age := min 64 (l.age + 1) }).onLanes executed
    fun l => { l with age := 0 }

/-! ### The loop stack -/

/-- Whether the words from `pc` to before `next` include an entry's end word (R26). -/
def LoopEntry.endsIn (e : LoopEntry) (pc next : Xword) : Bool :=
  decide (pc.toNat ≤ e.stop.toNat) && decide (e.stop.toNat < next.toNat)

/-- R27: whether a body contains a target. -/
def LoopEntry.contains (e : LoopEntry) (t : Xword) : Bool :=
  decide (e.start.toNat ≤ t.toNat) && decide (t.toNat ≤ e.stop.toNat)

/-- Lanes that are held or wait at an end. -/
def Warp.heldLanes (w : Warp) : LaneSet := w.lanesThat fun l => l.stat == .held

/-- Held lanes of a set resume at their own PCs. -/
def Warp.release (w : Warp) (s : LaneSet) : Warp :=
  w.onLanes s fun l => if l.stat = .held then { l with stat := .candidate } else l

/-- Lanes of a set become held. -/
def Warp.hold (w : Warp) (s : LaneSet) : Warp :=
  w.onLanes s fun l => if l.stat = .candidate then { l with stat := .held } else l

/-- R26: of lanes that have completed an instruction of the words from `pc` to before `next`, those in the top entry's body
wait when it ends there; they go on after the instruction. -/
def Warp.waitAtEnd (w : Warp) (done : LaneSet) (pc next : Xword) : Warp :=
  match w.loops with
  | [] => w
  | e :: _ =>
    if w.priv = false && e.endsIn pc next then
      w.onLanes (done &&& e.inBody) fun l => if l.stat = .candidate then { l with pc := next, stat := .held } else l
    else w

/-- Lanes that have completed an instruction of the words from `pc` to before `next` go on after it, or wait there (R26). In
a handler only their PCs move (15 R248). -/
def Warp.finishAt (w : Warp) (done : LaneSet) (pc next : Xword) : Warp :=
  (w.onLanes done fun l => { l with pc := next, stat := if w.priv then l.stat else .candidate }).waitAtEnd done pc next

/-- R26: the lanes that wait at an entry's end and still wait at that of the next entry below it, where it has the same
end. -/
def LoopEntry.waitOn (e : LoopEntry) (below : List LoopEntry) : LaneSet :=
  match below with
  | [] => 0
  | f :: _ => if f.stop = e.stop then e.inBody &&& f.inBody else 0

/-- R26: the test of the top entry, at most five times: while it pops and the new top must be tested too. -/
def loopTest (fuel : Nat) (w : Warp) : Warp :=
  match fuel with
  | 0 => w
  | fuel + 1 =>
    match w.loops with
    | [] => w
    | e :: rest =>
      if e.inBody = 0 then loopTest fuel (({ w with loops := rest } : Warp).release e.held)
      else if e.inBody &&& w.heldLanes = e.inBody then
        if e.count = 1 then
          let w := ({ w with loops := rest } : Warp).release (e.inBody ||| e.held)
          loopTest fuel (w.hold (e.waitOn rest))
        else
          ({ w with loops := { e with count := e.count - 1 } :: rest } : Warp).onLanes e.inBody
            fun l => { l with pc := e.start, stat := .candidate }
      else w

/-- R27: what a branch to `t` that only some of the in-body lanes take does to a stack, and the lanes that leave a body by
it. A lane that leaves several bodies is held by the lowest of them. -/
def leavePart (lanes : LaneSet) (t : Xword) (l : List LoopEntry) : List LoopEntry × LaneSet :=
  match l with
  | [] => ([], 0)
  | e :: r =>
    if e.contains t then (e :: r, 0)
    else
      let mine := lanes &&& e.inBody
      let below := leavePart lanes t r
      ({ e with inBody := e.inBody &&& ~~~mine, held := e.held ||| (mine &&& ~~~below.2) } :: below.1,
        mine ||| below.2)

/-- R27: a stack without the entries whose bodies do not contain `t`, and the lanes that those held or had waiting at their
ends. A lane belongs to the topmost entry that names it: `seen` are the lanes of the entries above. -/
def popOut (t : Xword) (seen : LaneSet) (l : List LoopEntry) : List LoopEntry × LaneSet :=
  match l with
  | [] => ([], 0)
  | e :: r =>
    let below := popOut t (seen ||| e.inBody ||| e.held) r
    if e.contains t then (e :: below.1, below.2 &&& ~~~e.held)
    else (below.1, ((e.inBody ||| e.held) &&& ~~~seen &&& ~~~e.waitOn below.1) ||| below.2)

/-- R27: lanes branch to `t`. `whole` is set for a uniform branch, which pops entries when every in-body lane of the top
entry takes it. In supervisor mode no entry is touched (R248). -/
def Warp.branchTo (w : Warp) (taken : LaneSet) (t : Xword) (whole : Bool) : Warp :=
  let w := w.onLanes taken fun l => { l with pc := t }
  if w.priv then w
  else
    match w.loops with
    | [] => w
    | e :: _ =>
      if whole && e.inBody &&& ~~~taken == 0 then
        let r := popOut t 0 w.loops
        ({ w with loops := r.1 } : Warp).release r.2
      else
        let r := leavePart taken t w.loops
        ({ w with loops := r.1 } : Warp).hold r.2

/-! ### Rejoin masks -/

/-- A free mask. -/
def RejoinMask.free : RejoinMask := { enrolled := 0, arrived := 0, pc := 0 }

/-- Mask j of a warp. -/
def Warp.mask (w : Warp) (j : JMask) : RejoinMask := mget RejoinMask.free w.masks j.toNat

/-- With mask j replaced. -/
def Warp.setMask (w : Warp) (j : JMask) (m : RejoinMask) : Warp :=
  { w with masks := mset RejoinMask.free w.masks j.toNat m }

/-- R22: the completion test of mask j: when every enrolled lane has arrived, the mask becomes free and the waiting lanes
resume after the `park` at which they stand. -/
def Warp.maskTest (w : Warp) (j : JMask) : Warp :=
  let m := w.mask j
  if m.enrolled ≠ 0 ∧ m.arrived = m.enrolled then
    (w.setMask j { m with enrolled := 0, arrived := 0 }).finishAt m.arrived m.pc (m.pc + 4)
  else w

/-- Some lanes leave mask j (R22, strike). -/
def Warp.strikeFrom (w : Warp) (lanes : LaneSet) (j : JMask) : Warp :=
  let m := w.mask j
  w.setMask j { m with enrolled := m.enrolled &&& ~~~lanes, arrived := m.arrived &&& ~~~lanes }

/-- The eight masks. -/
def allMasks : List JMask := [0, 1, 2, 3, 4, 5, 6, 7]

/-- The completion tests of R22 for every mask, then that of R26. -/
def Warp.tests (w : Warp) : Warp := loopTest 5 (allMasks.foldl Warp.maskTest w)

/-- R22, R27: lanes end. They leave every mask and every loop entry, and a rep sequence ends with its lanes; the tests
wait in supervisor mode (R248). -/
def Warp.endLanes (w : Warp) (lanes : LaneSet) : Warp :=
  let w := w.onLanes lanes fun l => { l with stat := .exited }
  let w := allMasks.foldl (fun w j => w.strikeFrom lanes j) w
  let w := { w with loops := w.loops.map fun e =>
    { e with inBody := e.inBody &&& ~~~lanes, held := e.held &&& ~~~lanes } }
  let w := if w.rep.busy && w.rep.lanes &&& ~~~lanes == 0 then { w with rep := RepState.idle } else w
  if w.priv then w else w.tests

/-- R249: return to user mode: suspended lanes return to their status, the deferred tests are applied. -/
def Warp.toUser (w : Warp) : Warp :=
  let w := { w with priv := false, tlanes := 0, entered := none }
  (w.onLanes (firstLanes 64) fun l => { l with suspended := false }).tests

/-- R24: the mask and lanes of a deadlock: no candidate is left, though some lane has not exited. -/
def Warp.deadlock (w : Warp) : Option (JMask × LaneSet) :=
  if w.priv = false ∧ w.candidates = 0 ∧ w.live ≠ 0 then
    (allMasks.map fun j => (j, w.lanesThat fun l => l.stat == .parked j)).find? fun e => e.2 != 0
  else none

end Sys2Proof.Machine
end

