-- ==== Sys2Proof/Machine/Access.lean ====
section
/-!
DEFINITION. Reading and writing the parts of the state, and memory as bytes (00 R1 to R3, 03 R55, 05 R118).
-/

namespace Sys2Proof.Machine

/-! ### Parts of the state by key -/

def coreKey (die core : Nat) : Nat := 32 * die + core
def clusterKey (die cl : Nat) : Nat := 4 * die + cl
def queueKey (die q : Nat) : Nat := 256 * die + q
def ctxKey (die asid : Nat) : Nat := 2048 * die + asid

/-- Whether agent d is a matrix die (00 R3). -/
def isMatrixDie (d : Nat) : Bool := decide (d < 4)
/-- Clusters of a die (00 R1). -/
def clusterCount (d : Nat) : Nat := if isMatrixDie d then 4 else 2
/-- Cores of a die. -/
def coreCount (d : Nat) : Nat := 8 * clusterCount d
/-- Rows of an accumulator store (05 R123). -/
def accRowCount (d : Nat) : Nat := if isMatrixDie d then 1024 else 256

/-- The base die that a compute die stands on: 0 for B0, 1 for B1 (00 R1). -/
def baseOf (d : Nat) : Nat := if d = 0 ∨ d = 1 ∨ d = 4 ∨ d = 5 then 0 else 1
/-- The HBM4E stacks assigned to a die (00 R1): one to a matrix die, two to a vector die. -/
def stacksOf (d : Nat) : List Nat := if isMatrixDie d then [d] else [2 * d - 4, 2 * d - 3]

def State.core (s : State) (k : Nat) : Core := mget Core.idle s.cores k
def State.setCore (s : State) (k : Nat) (c : Core) : State := { s with cores := mset Core.idle s.cores k c }
def State.cluster (s : State) (k : Nat) : Cluster := mget Cluster.idle s.clusters k
def State.setCluster (s : State) (k : Nat) (c : Cluster) : State :=
  { s with clusters := mset Cluster.idle s.clusters k c }
def State.die (s : State) (d : Nat) : Die := mget Die.atReset s.dies d
def State.setDie (s : State) (d : Nat) (x : Die) : State := { s with dies := mset Die.atReset s.dies d x }
def State.ctx (s : State) (k : Nat) : Ctx := mget Ctx.unbound s.ctxs k
def State.setCtx (s : State) (k : Nat) (c : Ctx) : State := { s with ctxs := mset Ctx.unbound s.ctxs k c }
def State.queue (s : State) (k : Nat) : Queue := mget Queue.unused s.queues k
def State.setQueue (s : State) (k : Nat) (q : Queue) : State := { s with queues := mset Queue.unused s.queues k q }
def State.warp (s : State) (k : Nat) : Option Warp := mfind s.warps k
def State.setWarp (s : State) (k : Nat) (w : Warp) : State := { s with warps := mput s.warps k w }
/-- The warp changed, where it is resident. -/
def State.onWarp (s : State) (k : Nat) (f : Warp → Warp) : State := { s with warps := mupd s.warps k f }
def State.setGang (s : State) (k : Nat) (g : Gang) : State := { s with gangs := mput s.gangs k g }
def State.setLaunch (s : State) (k : Nat) (l : Launch) : State := { s with launches := mput s.launches k l }

/-- The core of a warp, by key. -/
def Warp.coreK (w : Warp) : Nat := coreKey w.die w.core
def Warp.clusterK (w : Warp) : Nat := clusterKey w.die w.cluster
def Warp.ctxK (w : Warp) : Nat := ctxKey w.die w.asid
/-- A warp's slot in its gang (11 R210). -/
def Warp.gangSlot (w : Warp) : Nat := 32 * w.member + w.index

/-- A warp of a context on a die, resident or switched out. -/
def State.warpOf (s : State) (k die asid : Nat) : Option Warp :=
  match s.warp k with
  | some w => if w.die = die ∧ w.asid = asid then some w else mfind (s.ctx (ctxKey die asid)).savedWarps k
  | none => mfind (s.ctx (ctxKey die asid)).savedWarps k

/-- The loads, atomics and stores of a warp that have not been performed, by number. -/
def Warp.unperformed (w : Warp) : List Nat :=
  ((w.loads.filter fun l => !l.waiting.isEmpty && l.lost.isNone).map fun l => l.id) ++
    (w.stores.filter fun o => o.packets != 0 || o.walks != 0).map fun o => o.id

/-- 06 R155: whether a command's warp has performed what the command comes after. -/
def State.begins (s : State) (die asid warp : Nat) (after : List Nat) : Bool :=
  after.all fun id => !(s.warpOf warp die asid).any fun w => w.unperformed.contains id

/-- A fresh number, and the state after it is taken. -/
def State.fresh (s : State) : Nat × State := (s.nextId, { s with nextId := s.nextId + 1 })

/-- A free number (log 3), and the state after it is taken. -/
def State.freeNat (s : State) : Nat × State := (Config.freeNat s.tick, { s with tick := s.tick + 1 })

/-- A member of a list is kept where a free choice says so (log 3). -/
def freeSubset {α : Type} (tick : Nat) (l : List α) : List α :=
  (l.zipIdx.filter fun e => Config.freeNat (tick + e.2) % 2 == 1).map Prod.fst

/-- TIME as a die reads it: its chain's timebase, or the package's (18 R285). -/
def State.timeOf (s : State) (d : Nat) : Nat := max (s.die d).timeFloor ((s.now : Int) + (s.die d).timeShift).toNat

/-! ### Memory -/

/-- The bytes of agent a's memory (00 R1); H's memory is as large as an address can name (log 7). -/
def memoryBytes (a : Nat) : Nat :=
  if a < 4 then 64 * 2 ^ 30 else if a < 8 then 128 * 2 ^ 30 else if a = 8 then 2 ^ 48 else 0

/-- The agent that owns a physical address (05 R118). -/
def ownerOf (pa : Nat) : Nat := pa / 2 ^ 48

/-- Whether n bytes at a physical address exist. -/
def memoryExists (pa n : Nat) : Bool := decide (pa % 2 ^ 48 + n ≤ memoryBytes (ownerOf pa))

/-- One byte at its home. -/
def State.byte (s : State) (pa : Nat) : Byte := mget 0 s.mem pa

/-- n bytes at their home, lowest address first. -/
def State.bytes (s : State) (pa n : Nat) : List Byte := (List.range n).map fun k => s.byte (pa + k)

/-- The number that bytes hold, little-endian (04 R84). -/
def leNat (l : List Byte) : Nat := l.foldr (fun b acc => b.toNat + 256 * acc) 0

/-- The n bytes of a number, little-endian. -/
def leBytes (n x : Nat) : List Byte := (List.range n).map fun k => BitVec.ofNat 8 (x / 256 ^ k)

/-- The number in n bytes at their home. -/
def State.num (s : State) (pa n : Nat) : Nat := leNat (s.bytes pa n)

/-- Operand latches that a test accepts are emptied. -/
def State.dropLatches (s : State) (p : Latch → Bool) : State :=
  if s.cores.any fun e => e.2.latch.any p then
    { s with cores := mmap (fun c => if c.latch.any p then { c with latch := none } else c) s.cores }
  else s

/-- Whether one of some addresses lies in a span. -/
def inSpans (spans : List (Nat × Nat)) (l : List (Nat × Byte)) : Bool :=
  l.any fun e => spans.any fun r => decide (r.1 ≤ e.1) && decide (e.1 < r.1 + r.2)

/-- Bytes written where they are held; a latch that holds them is emptied (09 R202). -/
def State.poke (s : State) (l : List (Nat × Byte)) : State :=
  ({ s with mem := l.foldl (fun m e => mset 0 m e.1 e.2) s.mem } : State).dropLatches fun x => inSpans x.mem l

/-- Whether two ranges of memory, by address and bytes, meet. -/
def meets (a b : Nat × Nat) : Bool := decide (a.1 < b.1 + b.2) && decide (b.1 < a.1 + a.2)

/-- Bytes with the addresses they go to. -/
def placed (pa : Nat) (l : List Byte) : List (Nat × Byte) := l.zipIdx.map fun e => (pa + e.2, e.1)

/-! ### Local memory (05 R121) -/

/-- The key of byte o of a gang's region. -/
def localKey (gang o : Nat) : Nat := 2 ^ 24 * gang + o

/-- A byte of a gang's region; a byte not yet written is undefined (log 5). -/
def State.localByte (s : State) (gang o : Nat) : Byte :=
  (mfind s.lmem (localKey gang o)).getD (Config.freeByte (localKey gang o))

/-- n bytes of a gang's region. -/
def State.localBytes (s : State) (gang o n : Nat) : List Byte :=
  (List.range n).map fun k => s.localByte gang (o + k)

/-- Bytes written to a gang's region. -/
def State.localPoke (s : State) (gang o : Nat) (l : List Byte) : State :=
  let b := placed (localKey gang o) l
  ({ s with lmem := b.foldl (fun m e => mput m e.1 e.2) s.lmem } : State).dropLatches fun x => inSpans x.loc b

/-! ### Lists -/

/-- Without repeats, the first of each kept. -/
def distinct (l : List Nat) : List Nat :=
  l.foldl (fun acc x => if acc.contains x then acc else acc ++ [x]) []

end Sys2Proof.Machine
end

