-- ==== Sys2Proof/Machine/Causeway.lean ====
section
/-!
DEFINITION. The causeway's counters and channels: sending a packet with its knowledge entries (07 R170), the bounds of
R172, and the test and the counting of a delivery (R171). What a delivered packet does is in Deliver.lean.
-/

namespace Sys2Proof.Machine

def knowKey (i k m : Nat) : Nat := 256 * i + 16 * k + m
def dirtyKey (i j k m : Nat) : Nat := 256 * (16 * i + j) + 16 * k + m
def channelKey (i j : Nat) : Nat := 16 * i + j

/-- The agents of the causal domain (00 R3). -/
def agents : List Nat := List.range 10

/-- Whether a packet on a channel is a floor beat, which is neither counted nor ordered (R167). -/
def Packet.isBeat (p : Packet) : Bool :=
  match p.body with
  | .floorBeat _ => true
  | _ => false

/-- A list without its first member that a test accepts. -/
def dropFirst {α : Type} (p : α → Bool) (l : List α) : List α :=
  match l with
  | [] => []
  | x :: r => if p x then r else x :: dropFirst p r

/-- K_i[k][m]. -/
def Causeway.K (c : Causeway) (i k m : Nat) : Nat := mget 0 c.know (knowKey i k m)
/-- D_j[k]. -/
def Causeway.D (c : Causeway) (j k : Nat) : Nat := mget 0 c.delivered (channelKey j k)
/-- F_i[k][m]. -/
def Causeway.F (c : Causeway) (i k m : Nat) : Nat := mget 0 c.floors (knowKey i k m)

/-- Entry (k, m) of agent i becomes dirty for every destination that a test accepts. -/
def Causeway.mark (c : Causeway) (i k m : Nat) (p : Nat → Bool) : Causeway :=
  { c with dirty := (agents.filter fun j => j ≠ i && p j).foldl (fun d j => mset false d (dirtyKey i j k m) true) c.dirty }

/-- K_i[k][m] set, dirty for every destination that a test accepts. -/
def Causeway.setK (c : Causeway) (i k m v : Nat) (p : Nat → Bool) : Causeway :=
  ({ c with know := mset 0 c.know (knowKey i k m) v } : Causeway).mark i k m p

/-- E of R170: the entries that are dirty at i for j, in (k, m) order. -/
def Causeway.entriesFor (c : Causeway) (i j : Nat) : List (Nat × Nat × Nat) :=
  (c.dirty.filter fun e => e.1 / 256 == channelKey i j && e.1 % 256 != channelKey i j).map fun e =>
    (e.1 % 256 / 16, e.1 % 16, c.K i (e.1 % 256 / 16) (e.1 % 16))

/-- The entries of a list are clean at i for j. -/
def Causeway.clean (c : Causeway) (i j : Nat) (l : List (Nat × Nat × Nat)) : Causeway :=
  { c with dirty := l.foldl (fun d e => mset false d (dirtyKey i j e.1 e.2.1) false) c.dirty }

/-- One packet put on its channel with the entries given. -/
def Causeway.putOn (c : Causeway) (p : Packet) (l : List (Nat × Nat × Nat)) : Causeway :=
  let c := c.clean p.src p.dst l
  let c := c.setK p.src p.src p.dst ((c.K p.src p.src p.dst + 1) % 2 ^ 16) (fun j => j ≠ p.dst)
  let q := mget [] c.flying (channelKey p.src p.dst) ++ [{ p with entries := l }]
  { c with flying := mput c.flying (channelKey p.src p.dst) q }

/-- R170: carriers while more than ten entries are left, then the packet. -/
def Causeway.sendWith (fuel : Nat) (c : Causeway) (p : Packet) (l : List (Nat × Nat × Nat)) : Causeway :=
  match fuel with
  | 0 => c.putOn p (l.take 10)
  | fuel + 1 =>
    if l.length ≤ 10 then c.putOn p l
    else Causeway.sendWith fuel (c.putOn { p with body := .carrier, op := none, warp := none } (l.take 10)) p (l.drop 10)

/-- R170: agent i sends a packet to j. A malformed one carries nothing that its destination takes (R174). -/
def Causeway.send (c : Causeway) (p : Packet) : Causeway :=
  if p.body = .malformed then c.putOn p [] else Causeway.sendWith 26 c p (c.entriesFor p.src p.dst)

/-- Payload beats of 128 bits (R168; log 8 for requests). A floor beat carries the sixteen 16-bit counters of D (log 74). -/
def PacketBody.beats (b : PacketBody) : Nat :=
  match b with
  | .write bytes => (bytes.length + 15) / 16
  | .readReply _ bytes | .contribution bytes => (bytes.length + 15) / 16
  | .atomicReq _ lanes _ _ | .reduction _ lanes => min 8 lanes.length
  | .casReq _ lanes _ _ => min 8 lanes.length
  | .atomicReply _ olds => min 8 olds.length
  | .readReq .. | .waitReq .. | .waitReply .. | .prefetch .. | .register .. => 1
  | .floorBeat .. => 2
  | .carrier | .malformed => 0

/-- R175: the cost of a packet in bytes, with its reply's where it asks for one. -/
def packetCost (b : PacketBody) (entries : Nat) : Nat :=
  let own := 16 + (if 2 < entries then 32 else 0) + 16 * b.beats
  match b with
  | .readReq parts _ _ _ => own + 48 + 16 * (((parts.map Prod.snd).sum + 15) / 16)
  | .atomicReq _ lanes _ _ => own + 48 + 16 * min 8 lanes.length
  | .casReq _ lanes _ _ => own + 48 + 16 * min 8 lanes.length
  | .waitReq _ => own + 64
  | .prefetch _ none _ _ => own + 176
  | .write _ | .readReply .. | .atomicReply .. | .reduction .. | .waitReply .. | .prefetch _ (some _) _ _ | .carrier | .contribution _
  | .register .. | .floorBeat .. | .malformed => own

/-- The carriers that go before a packet from i to j if it is sent now (R170). -/
def Causeway.carriersNow (c : Causeway) (i j : Nat) : Nat := ((c.entriesFor i j).length - 1) / 10

/-- The cost that a packet has if it is sent now, with that of the carriers before it: each is a header and a dependency
beat. -/
def Causeway.costNow (c : Causeway) (i j : Nat) (b : PacketBody) : Nat :=
  48 * c.carriersNow i j + packetCost b ((c.entriesFor i j).length - 10 * c.carriersNow i j)

/-- The packets that wait at the port of i for j. -/
def Causeway.queuedAt (c : Causeway) (i j : Nat) : List Packet := mget [] c.outbox (channelKey i j)

/-- R172, R180: whether i may inject n packets to j: injection is on, nothing waits before them, and at most 2^14 are then
covered by no floor. -/
def Causeway.mayInject (c : Causeway) (i j n : Nat) : Bool :=
  c.reseal == .normal && (c.queuedAt i j).isEmpty &&
    decide ((c.K i i j + 2 ^ 16 - c.F i i j) % 2 ^ 16 + n ≤ 2 ^ 14)

/-- A packet is injected, or waits at its source's port until it may be. -/
def Causeway.post (c : Causeway) (p : Packet) : Causeway :=
  if c.mayInject p.src p.dst (c.carriersNow p.src p.dst + 1) then c.send p
  else { c with outbox := mput c.outbox (channelKey p.src p.dst) (c.queuedAt p.src p.dst ++ [p]) }

/-- The first packet that waits at the port of i for j is injected, where it may be. -/
def Causeway.inject (c : Causeway) (i j : Nat) : Causeway :=
  match c.queuedAt i j with
  | [] => c
  | p :: rest =>
    let free := { c with outbox := mdel c.outbox (channelKey i j) }
    if free.mayInject i j (c.carriersNow i j + 1) then { c.send p with outbox := mset [] c.outbox (channelKey i j) rest }
    else c

/-- R171: Sat(d, c). -/
def satisfied (d c : Nat) : Bool :=
  let x := (c + 2 ^ 16 - d) % 2 ^ 16
  !(decide (1 ≤ x) && decide (x ≤ 2 ^ 15 - 1))

/-- Whether a die has departed (R178). -/
def State.gone (s : State) (a : Nat) : Bool := decide (a < 8) && (s.die a).departed

/-- R172: the distance D_m[k] would have gone past the last floor beat that every live receiver has acknowledged. -/
def State.pastBeat (s : State) (m k : Nat) : Nat :=
  ((agents.filter fun r => r ≠ m && !s.gone r).map fun r =>
    (s.cway.D m k + 1 + 2 ^ 16 - mget 0 s.cway.beats (256 * m + 16 * r + k)) % 2 ^ 16).foldl max 0

/-- R174: whether a header is malformed. -/
def Packet.bad (p : Packet) : Bool :=
  p.body == .malformed || decide (9 < p.src) || decide (9 < p.dst) ||
    p.entries.any fun e => decide (9 < e.1) || decide (9 < e.2.1) || e.1 == e.2.1

/-- R171, R178: whether a packet at the head of channel i to j may be delivered, or discarded where its header is malformed
(R174): either counts as a delivery. -/
def State.deliverable (s : State) (p : Packet) : Bool :=
  (p.bad || p.entries.all (fun e => e.2.1 ≠ p.dst || s.gone e.1 || satisfied (s.cway.D p.dst e.1) e.2.2)) &&
    decide (s.pastBeat p.dst p.src ≤ 2 ^ 13)

/-- R171: an entry merged into K_j; one that is not newer than the floor is never carried again (R172). -/
def Causeway.merge (c : Causeway) (j : Nat) (e : Nat × Nat × Nat) : Causeway :=
  if satisfied (c.K j e.1 e.2.1) e.2.2 then c
  else c.setK j e.1 e.2.1 e.2.2 (fun _ => !satisfied (c.F j e.1 e.2.1) e.2.2)

/-- R171: the counting of a delivery at j. -/
def Causeway.count (c : Causeway) (p : Packet) : Causeway :=
  let d := (c.D p.dst p.src + 1) % 2 ^ 16
  let c := { c with delivered := mset 0 c.delivered (channelKey p.dst p.src) d }
  let c := c.setK p.dst p.src p.dst d (fun _ => true)
  p.entries.foldl (fun c e => c.merge p.dst e) c

/-- D of an agent, by source. -/
def Causeway.deliveries (c : Causeway) (m : Nat) : SMap Nat :=
  agents.foldl (fun t k => mset 0 t k (c.D m k)) []

/-- R172: a floor beat from m to j. -/
def Causeway.sendBeat (c : Causeway) (m j : Nat) (d : SMap Nat) : Causeway :=
  let p : Packet := { src := m, dst := j, cls := 3, asid := 0, entries := [], body := .floorBeat d, warp := none, op := none }
  { c with flying := mput c.flying (channelKey m j) (mget [] c.flying (channelKey m j) ++ [p]) }

/-- R172: whether m has to send j a floor beat: some D_m[k] has advanced by 2^12 since the last one, and none is under way. -/
def Causeway.beatOwed (c : Causeway) (m j : Nat) : Bool :=
  m != j && !(mget [] c.flying (channelKey m j)).any Packet.isBeat &&
    agents.any fun k => decide (2 ^ 12 ≤ (c.D m k + 2 ^ 16 - mget 0 c.beats (256 * m + 16 * j + k)) % 2 ^ 16)

/-- R171, R172: a packet counted as delivered, with the floor beats that its destination then has to send; those go out in a
reseal too, whose second step could not end without them (log 74). -/
def State.counted (s : State) (p : Packet) : State :=
  let c := s.cway.count p
  let owed := agents.filter fun j => !s.gone j && c.beatOwed p.dst j
  { s with cway := owed.foldl (fun c j => c.sendBeat p.dst j (c.deliveries p.dst)) c }

/-- R173: whether the holding buffer of j takes one more packet of channel i to j: 256 slots are its own, 1,792 are
shared. -/
def Causeway.hasSlot (c : Causeway) (i j : Nat) : Bool :=
  let used := fun i => (mget [] c.held (channelKey i j)).length
  decide (used i < 256) || decide ((agents.map fun i => used i - 256).sum < 1792)

end Sys2Proof.Machine
end

