-- ==== Sys2Proof/Machine/Float.lean ====
section
/-!
DEFINITION. Float arithmetic on register words (04 R87 to R89, 22 R348 to R368): one lane's result of each member, in
f32 and in packed pairs of f16 or bf16.
-/

namespace Sys2Proof

/-- A binary operation in format `f` on codes. -/
def fBin (f : Fmt) (op : FVal → FVal → FVal) (a b : Nat) : Nat := f.rne (op (f.value a) (f.value b))

/-- a + b. -/
def fAdd (f : Fmt) (a b : Nat) : Nat := fBin f FVal.add a b
/-- a - b. -/
def fSub (f : Fmt) (a b : Nat) : Nat := fBin f (fun x y => x.add y.neg) a b
/-- a * b. -/
def fMul (f : Fmt) (a b : Nat) : Nat := fBin f FVal.mul a b
/-- d + a * b with one rounding. -/
def fFma (f : Fmt) (d a b : Nat) : Nat := f.rne ((f.value d).add ((f.value a).mul (f.value b)))

/-- The smaller or larger operand under R89. -/
def fPick (f : Fmt) (larger : Bool) (a b : Nat) : Nat :=
  let x := f.value a
  let y := f.value b
  if x.isNan && y.isNan then f.nanCode
  else if x.isNan then b
  else if y.isNan then a
  else if larger then (if x.below y then b else a)
  else (if y.below x then b else a)

/-- The sign bit cleared (R87). -/
def fAbs (f : Fmt) (a : Nat) : Nat := a % 2 ^ f.magBits
/-- The sign bit flipped (R87). -/
def fNeg (f : Fmt) (a : Nat) : Nat := if a / 2 ^ f.magBits % 2 = 1 then a % 2 ^ f.magBits else 2 ^ f.magBits + a % 2 ^ f.magBits
/-- `frnd` (22 R364). -/
def fRnd (f : Fmt) (dir : RndDir) (a : Nat) : Nat := f.rne ((f.value a).integral dir)

/-- One f32 operand per lane. -/
def onF32 (op : Nat → Nat → Nat → Nat) (d a b : Word) : Word := BitVec.ofNat 32 (op d.toNat a.toNat b.toNat)

/-- Two halves per lane, each on its own (R88). -/
def onHalves (op : Nat → Nat → Nat → Nat) (d a b : Word) : Word :=
  let lo := op (d.toNat % 2 ^ 16) (a.toNat % 2 ^ 16) (b.toNat % 2 ^ 16)
  let hi := op (d.toNat / 2 ^ 16) (a.toNat / 2 ^ 16) (b.toNat / 2 ^ 16)
  BitVec.ofNat 32 (hi * 2 ^ 16 + lo)

/-- `fdot2`: d + a.lo * b.lo + a.hi * b.hi exactly, then one rounding to f32 (22 R354). -/
def fDot2 (half : Fmt) (d a b : Word) : Word :=
  let p := (half.value (a.toNat % 2 ^ 16)).mul (half.value (b.toNat % 2 ^ 16))
  let q := (half.value (a.toNat / 2 ^ 16)).mul (half.value (b.toNat / 2 ^ 16))
  BitVec.ofNat 32 (Fmt.f32.rne (((Fmt.f32.value d.toNat).add p).add q))

/-- The relation of `fcmp` on two f32 words (22 R351). -/
def fCompare (c : FCmpCond) (a b : Word) : Bool :=
  let x := Fmt.f32.value a.toNat
  let y := Fmt.f32.value b.toNat
  let unord := x.isNan || y.isNan
  match c with
  | .unord => unord
  | .ord => !unord
  | .ne => unord || x.cmp y != .eq
  | .eq => !unord && x.cmp y == .eq
  | .lt => !unord && x.cmp y == .lt
  | .le => !unord && x.cmp y != .gt
  | .gt => !unord && x.cmp y == .gt
  | .ge => !unord && x.cmp y != .lt

end Sys2Proof
end

