-- ==== Sys2Proof/Machine/Flags.lean ====
section
/-!
DEFINITION. Conditions: what `cmp`, `brs` and `waitc` test (21 R330, R323, 24 R437), and the operations of atomics and
reductions (11 R222, R223). The hardware has no flags; conditions write predicates or choose branches.
-/

namespace Sys2Proof.Machine

/-- The condition of `cmp` on two values of one width (21 R330). -/
def cmpHolds {n : Nat} (c : CmpCond) (a b : BitVec n) : Bool :=
  match c with
  | .eq => a == b
  | .ne => a != b
  | .ltI => a.slt b
  | .leI => a.sle b
  | .gtI => b.slt a
  | .geI => b.sle a
  | .ltN => a.ult b
  | .leN => a.ule b
  | .gtN => b.ult a
  | .geN => b.ule a

/-- The condition of `brs`: a signed 64-bit value against 0 (03 R66). -/
def brsHolds (c : BrsCond) (a : Xword) : Bool :=
  match c with
  | .z => a == 0
  | .nz => a != 0
  | .lt => a.slt 0
  | .ge => (0 : Xword).sle a
  | .gt => (0 : Xword).slt a
  | .le => a.sle 0

/-- The condition of `waitc` on values of one width (24 R437). -/
def waitTest {n : Nat} (c : WaitCond) (x v : BitVec n) : Bool :=
  match c with
  | .eq => x == v
  | .ne => x != v
  | .geN => v.ule x
  | .gtN => v.ult x
  | .geI => v.sle x
  | .gtI => v.slt x

/-- Whether an observed value meets a wait: at 32 bits only the low halves are compared (03 R77). -/
def waitMet (c : WaitCond) (wide : Bool) (x v : Xword) : Bool :=
  if wide then waitTest c x v else waitTest c (x.setWidth 32) (v.setWidth 32)

/-- Bytes of an atomic operand (03 R74). -/
def atomBytes (op : AtomOp) : Nat := if op.wide then 8 else 4

/-- R222 on 32 bits. -/
def atom32 (op : AtomOp) (old x : Word) : Word :=
  match op with
  | .addB32 => old + x
  | .addF32 => onF32 (fun _ a b => fAdd .f32 a b) 0 old x
  | .minI32 => if old.slt x then old else x
  | .minN32 => if old.ult x then old else x
  | .maxI32 => if x.slt old then old else x
  | .maxN32 => if x.ult old then old else x
  | .andB32 => old &&& x
  | .orB32 => old ||| x
  | .xorB32 => old ^^^ x
  | .exchB32 => x
  | .incN32 => if x.ule old then 0 else old + 1
  | .minF32 => onF32 (fun _ a b => fPick .f32 false a b) 0 old x
  | .maxF32 => onF32 (fun _ a b => fPick .f32 true a b) 0 old x
  | .addBf16x2 => onHalves (fun _ a b => fAdd .bf16 a b) 0 old x
  | .addB64 | .exchB64 | .minI64 | .maxN64 => old

/-- R222 on 64 bits. -/
def atom64 (op : AtomOp) (old x : Xword) : Xword :=
  match op with
  | .addB64 => old + x
  | .exchB64 => x
  | .minI64 => if old.slt x then old else x
  | .maxN64 => if x.ult old then old else x
  | .addB32 | .addF32 | .minI32 | .minN32 | .maxI32 | .maxN32 | .andB32 | .orB32 | .xorB32 | .exchB32 | .incN32
  | .minF32 | .maxF32 | .addBf16x2 => old

/-- R222: the word after an operation, in the operand's width. -/
def atomApply (op : AtomOp) (old x : Xword) : Xword :=
  if op.wide then atom64 op old x
  else (atom32 op (old.setWidth 32) (x.setWidth 32)).setWidth 64

/-- The value at which the words of an update-only line start (R223). -/
def atomIdentity (op : AtomOp) : Xword :=
  match op with
  | .addB32 | .addB64 | .addF32 | .orB32 | .xorB32 | .exchB32 | .exchB64 | .incN32 | .addBf16x2 | .maxN32 | .maxN64 => 0
  | .andB32 | .minN32 => 0xFFFFFFFF
  | .minI32 => 0x7FFFFFFF
  | .maxI32 => 0x80000000
  | .minF32 => 0x7F800000
  | .maxF32 => 0xFF800000
  | .minI64 => 0x7FFFFFFFFFFFFFFF

/-- `cas` (21 R327): the word after it. -/
def casApply (old cmp new : Xword) : Xword := if old = cmp then new else old

end Sys2Proof.Machine
end

