-- ==== Sys2Proof/Machine/Home.lean ====
section
/-!
DEFINITION. What a home does (05 R125 to R127, 06 R141, R154, R158, R160, R162, R163; 11 R218, R223): reads, writes and
atomics performed there, the L2 and the L3 behind it, recalling update-only lines, condition monitors, counted sectors and
pending sets of signals.
-/

namespace Sys2Proof.Machine

/-! ### Writes and monitors -/

/-- The packet of a body, from agent i to j, of a class and context. -/
def mkPacket (i j cls asid : Nat) (b : PacketBody) (warp op : Option Nat) : Packet :=
  { src := i, dst := j, cls := cls, asid := asid, entries := [], body := b, warp := warp, op := op }

/-- A packet goes on its channel, or waits at its source's port (R172, R180); one bound for a departed die is discarded, and a
departed die sends none: its counters are frozen (R178). -/
def State.send (s : State) (p : Packet) : State :=
  if s.gone p.src || s.gone p.dst then s else { s with cway := s.cway.post p }

/-- The value that a monitor watches. -/
def State.watched (s : State) (m : Monitor) : Xword := BitVec.ofNat 64 (s.num m.addr (if m.wide then 8 else 4))

/-- A warp that is stopped becomes ready (01 R14). -/
def Warp.wake (w : Warp) : Warp := { w with stop := .running }

/-- A change to a warp that a context keeps while it is switched out. -/
def State.onSaved (s : State) (k ctx : Nat) (f : Warp → Warp) : State :=
  let c := s.ctx ctx
  s.setCtx ctx { c with savedWarps := mupd c.savedWarps k f }

/-- A change to a warp of a context on a die, resident or switched out. -/
def State.onOwner (s : State) (k die asid : Nat) (f : Warp → Warp) : State :=
  match s.warp k with
  | some w => if w.die = die ∧ w.asid = asid then s.setWarp k (f w) else s.onSaved k (ctxKey die asid) f
  | none => s.onSaved k (ctxKey die asid) f

/-- Whether an arming is that of a monitor. -/
def Monitor.isArmedAs (m : Monitor) (o : Option Monitor) : Bool := o.any fun x => x.id == m.id

/-- R160, R219: a value latched for the arming that the warp still stands in: it wakes if it is stopped in that `waitc`,
and else finds the value when its `waitc` issues again. -/
def Warp.takeLatch (w : Warp) (m : Monitor) (x : Xword) : Warp :=
  let wakes := fun (priv : Bool) (w : Warp) => match w.stop with
    | .monitor _ _ => if w.priv = priv then w.wake else w
    | .running | .barrier _ | .waitn .. | .fault .. | .bucket _ | .scoreboard | .engine => w
  if m.isArmedAs w.armed then wakes false { w with latch := some x, armed := none }
  else if m.isArmedAs w.supArmed then wakes true { w with supLatch := some x, supArmed := none }
  else w

/-- R232: the value that a launch's WAITSIG reached. -/
def Launch.takeLatch (l : Launch) (m : Monitor) : Launch :=
  if m.isArmedAs l.waiting then { l with waiting := none, met := true } else l

/-- A change to what waits for a monitor. -/
def State.onWaiter (s : State) (m : Monitor) (f : Warp → Warp) (g : Launch → Launch) : State :=
  match m.waiter with
  | .warp k => s.onOwner k m.die m.asid f
  | .launch lid => { s with launches := mupd s.launches lid g }

/-- R160: a monitor at home a latches a value. -/
def State.latch (s : State) (a : Nat) (m : Monitor) (x : Xword) : State :=
  if m.die = a then s.onWaiter m (fun w => w.takeLatch m x) (fun l => l.takeLatch m)
  else s.send (mkPacket a m.die 0 m.asid (.waitReply m (some x)) none none)

/-- R160: after a write at home a, every monitor tests its value; those whose condition is met latch it. -/
def State.testMonitors (s : State) (a : Nat) : State :=
  let hit := fun m : Monitor => waitMet m.cond m.wide (s.watched m) m.value
  let ms := (s.die a).monitors
  if ms.any hit then
    let d := s.die a
    (ms.filter hit).foldl (fun s m => s.latch a m (s.watched m))
      (s.setDie a { d with monitors := ms.filter fun m => !hit m })
  else s

/-- The sector of a physical address (05 R125). -/
def sectorOf (pa : Nat) : Nat := pa / 128
/-- The line of a physical address. -/
def lineOf (pa : Nat) : Nat := pa / 512

/-! ### The L2 and the L3 behind it (R125) -/

/-- R125, R218: the L2 slice that is the home of a physical address. -/
def sliceOf (pa : Nat) : Nat := (pa / 2 ^ 9 % 32) ^^^ (pa / 2 ^ 14 % 32) ^^^ (pa / 2 ^ 19 % 32)

/-- The set of an L2 slice that holds a line: slice, and PA[22:14] within it (log 11). -/
def l2Set (line : Nat) : Nat × Nat := (sliceOf (512 * line), 512 * line / 2 ^ 14 % 512)

/-- The lines that an L2 set holds. -/
def Die.l2Lines (d : Die) (set : Nat × Nat) : List Nat :=
  distinct ((d.l2.map fun e => e.1 / 4).filter fun line => l2Set line == set)

/-- Bit j of a line's sets of sectors. -/
def sectorBit (sector : Nat) : BitVec 4 := BitVec.ofNat 4 (2 ^ (sector % 4))

/-- The sectors of a line, among those that a test accepts, as a set. -/
def Die.l2Sectors (d : Die) (line : Nat) (p : L2Sector → Bool) : BitVec 4 :=
  (d.l2.filter fun e => e.1 / 4 == line && p e.2).foldl (fun b e => b ||| sectorBit e.1) 0

/-- An L3 line with nothing present. -/
def L3Line.none : L3Line := { present := 0, dirty := 0 }

/-- The line as its base die's L3 holds it. -/
def State.l3Line (s : State) (line : Nat) : L3Line := mget L3Line.none s.l3 line

def State.setL3 (s : State) (line : Nat) (x : L3Line) : State := { s with l3 := mset L3Line.none s.l3 line x }

/-- A member of a list that the hardware chooses (log 17). -/
def State.victim (s : State) (l : List Nat) : Nat × State :=
  (l.getD (Config.victim s.tick l % l.length) 0, { s with tick := s.tick + 1 })

/-- The L3 of a base die evicts a line; a dirty one goes to HBM. -/
def State.evictL3 (s : State) (line : Nat) : State := s.setL3 line L3Line.none

/-- The lines that the L3 of a line's base die holds. -/
def State.l3Beside (s : State) (line : Nat) : List Nat :=
  (mkeys s.l3).filter fun x => baseOf (ownerOf (512 * x)) == baseOf (ownerOf (512 * line))

/-- Room for a line in its L3, of 2^20 lines. -/
def State.l3Room (s : State) (line : Nat) : State :=
  if mhas s.l3 line || decide ((s.l3Beside line).length < 2 ^ 20) then s
  else
    let v := s.victim (s.l3Beside line)
    v.2.evictL3 v.1

/-- An L2 evicts a line into the L3: all but counted sectors (R126, log 17), and what a copy wrote that does not allocate
there (16 R264). -/
def State.evictL2 (s : State) (a line : Nat) : State :=
  let d := s.die a
  let kept := d.l2Sectors line fun x => x.count.isNone && !x.bypass
  let dirty := d.l2Sectors line fun x => x.dirty && !x.bypass
  let s := s.setDie a { d with l2 := d.l2.filter fun e => e.1 / 4 ≠ line }
  if kept = 0 then s
  else
    let s := s.l3Room line
    let x := s.l3Line line
    s.setL3 line { present := x.present ||| kept, dirty := x.dirty ||| dirty }

/-- The lines of an L2 set that may be victims: neither pinned (R127) nor a signal's with a pending set (06 R164). -/
def Die.victims (d : Die) (set : Nat × Nat) : List Nat :=
  (d.l2Lines set).filter fun x => !mhas d.pins x && !d.pending.any fun e => e.1 / 512 == x

/-- Room for a line in its L2 set of 16 ways. Where every way is pinned or a signal's with a pending set, none leaves, and the set
holds a line more (log 80). -/
def State.l2Room (s : State) (a line : Nat) : State :=
  let lines := (s.die a).l2Lines (l2Set line)
  let victims := (s.die a).victims (l2Set line)
  if lines.contains line || decide (lines.length < 16) || victims.isEmpty then s
  else
    let v := s.victim victims
    v.2.evictL2 a v.1

/-- A sector's state in the L2 of its home. -/
def State.setL2 (s : State) (a sector : Nat) (x : L2Sector) : State :=
  let s := s.l2Room a (sector / 4)
  s.setDie a { s.die a with l2 := mput (s.die a).l2 sector x }

/-- A sector leaves the L3: the state, and whether it was dirty there. -/
def State.takeL3 (s : State) (sector : Nat) : State × Bool :=
  let x := s.l3Line (sector / 4)
  (s.setL3 (sector / 4) { present := x.present &&& ~~~sectorBit sector, dirty := x.dirty &&& ~~~sectorBit sector },
   x.dirty &&& sectorBit sector != 0)

/-- A sector that is in its home L2 from now on, as an ordinary one; one already there stays as it is. -/
def State.l2Fill (s : State) (a sector : Nat) : State :=
  if mhas (s.die a).l2 sector then s
  else
    let r := s.takeL3 sector
    r.1.setL2 a sector { count := none, dirty := r.2 }

/-- The four sectors of a line are in its home L2; H has none. -/
def State.fillLine (s : State) (a line : Nat) : State :=
  if a < 8 then (List.range 4).foldl (fun s j => s.l2Fill a (4 * line + j)) s else s

/-- R126: a write makes the sectors ordinary and dirty at home. -/
def State.touch (s : State) (a : Nat) (bypass : Bool) (l : List (Nat × Byte)) : State :=
  if a < 8 then
    (distinct (l.map fun e => sectorOf e.1)).foldl (fun s k =>
      (s.takeL3 k).1.setL2 a k { count := none, dirty := true, bypass := bypass }) s
  else s

/-- 16 R264: a line that copies of a context wrote is read again from the L3. -/
def Ctx.reread (c : Ctx) (line : Nat) : Ctx := { c with copyLines := mupd c.copyLines line fun x => (x.1, true) }

/-- The same for every context, where the L3 holds the sector. -/
def State.reread (s : State) (sector : Nat) : State :=
  if (s.l3Line (sector / 4)).present &&& sectorBit sector = 0 then s
  else if s.ctxs.any fun e => mhas e.2.copyLines (sector / 4) then
    { s with ctxs := mmap (fun c => c.reread (sector / 4)) s.ctxs }
  else s

/-- R126: an atomic that writes nothing leaves the sector ordinary all the same. -/
def State.uncount (s : State) (a sector : Nat) : State :=
  match mfind (s.die a).l2 sector with
  | none => s
  | some x => s.setDie a { s.die a with l2 := mput (s.die a).l2 sector { x with count := none } }

/-- R126: a counted sector has n reads left; with none it is invalidated. -/
def State.setCount (s : State) (a sector n : Nat) : State :=
  if n = 0 then s.setDie a { s.die a with l2 := mdel (s.die a).l2 sector }
  else s.setL2 a sector { count := some n, dirty := false }

/-- R126: a read of a sector that reaches its home, with the RCOUNT of an `ld`. -/
def State.countRead (s : State) (a sector rcount : Nat) : State :=
  match mfind (s.die a).l2 sector with
  | none =>
    let r := (s.reread sector).takeL3 sector
    if rcount = 0 || r.2 then r.1.setL2 a sector { count := none, dirty := r.2 } else r.1.setCount a sector (rcount - 1)
  | some x =>
    if x.dirty then s
    else if rcount ≠ 0 then s.setCount a sector (rcount - 1)
    else match x.count with
      | none => s
      | some n => s.setCount a sector (n - 1)

/-- Bytes written at their home, as one event, and the monitors' test; `bypass` for a copy that does not allocate in the
L3. -/
def State.homeWriteBy (s : State) (bypass : Bool) (l : List (Nat × Byte)) : State :=
  match l with
  | [] => s
  | e :: _ => ((s.poke l).touch (ownerOf e.1) bypass l).testMonitors (ownerOf e.1)

/-- Bytes written at their home. -/
def State.homeWrite (s : State) (l : List (Nat × Byte)) : State := s.homeWriteBy false l

/-! ### Update-only lines -/

/-- Word k of an update-only line. -/
def UoLine.word (u : UoLine) (k : Nat) : Word := (u.words >>> (32 * k)).setWidth 32

/-- With word k replaced and its written bit set. -/
def UoLine.setWord (u : UoLine) (k : Nat) (x : Word) : UoLine :=
  { u with written := u.written ||| BitVec.ofNat 128 (2 ^ k),
           words := (u.words &&& ~~~(BitVec.ofNat 4096 (0xFFFFFFFF * 2 ^ (32 * k)))) ||| (x.setWidth 4096 <<< (32 * k)) }

/-- The value of the element at byte o of a line, its identity where nothing has been combined (R223). -/
def UoLine.elem (u : UoLine) (o : Nat) : Xword :=
  if u.written.getLsbD (o / 4) then
    if u.op.wide then u.word (o / 4 + 1) ++ u.word (o / 4) else (u.word (o / 4)).setWidth 64
  else atomIdentity u.op

/-- R223: an update combined into the element at byte o. -/
def UoLine.combine (u : UoLine) (o : Nat) (x : Xword) : UoLine :=
  let y := atomApply u.op (u.elem o) x
  let u := u.setWord (o / 4) (y.setWidth 32)
  if u.op.wide then u.setWord (o / 4 + 1) ((y >>> 32).setWidth 32) else u

/-- R223: the bytes that pushing a line writes at home: each element whose written bit is set, combined. -/
def State.uoBytes (s : State) (line : Nat) (u : UoLine) : List (Nat × Byte) :=
  let n := (atomBytes u.op)
  ((List.range (512 / n)).filter fun k => u.written.getLsbD (k * n / 4)).flatMap fun k =>
    let pa := 512 * line + n * k
    placed pa (leBytes n (atomApply u.op (BitVec.ofNat 64 (s.num pa n)) (u.elem (n * k))).toNat)

/-- A core pushes its update-only line to the home (R223). -/
def State.pushLine (s : State) (ck line : Nat) : State :=
  let c := s.core ck
  match mfind c.uo line with
  | none => s
  | some u => (s.setCore ck { c with uo := mdel c.uo line }).homeWrite (s.uoBytes line u)

/-- The cores of a die that hold a line update-only. -/
def State.uoHolders (s : State) (a line : Nat) : List Nat :=
  (s.cores.filter fun e => e.1 / 32 == a && mhas e.2.uo line).map Prod.fst

/-- R158: the home recalls and combines every update-only copy of a line, core by core in key order (log 70). -/
def State.recall (s : State) (a line : Nat) : State :=
  (s.uoHolders a line).foldl (fun s ck => s.pushLine ck line) s

/-! ### Writing back an L1 -/

/-- The bytes of a sector that a mask selects, with their addresses. -/
def Sector.masked (x : Sector) (sector : Nat) (mask : BitVec 128) : List (Nat × Byte) :=
  ((List.range 128).filter fun k => mask.getLsbD k).map fun k => (128 * sector + k, (x.data >>> (8 * k)).setWidth 8)

/-- R125: the written bytes of a sector go home; the sector stays, clean. -/
def State.writeBackSector (s : State) (ck sector : Nat) : State :=
  let c := s.core ck
  match mfind c.l1 sector with
  | none => s
  | some x =>
    if x.dirty = 0 then s
    else (s.setCore ck { c with l1 := mput c.l1 sector { x with dirty := 0, exported := false } }).homeWrite (x.masked sector x.dirty)

/-- R150: every dirty sector of a core is written back and every update-only line pushed. -/
def State.flushCore (s : State) (ck : Nat) : State :=
  let s := (mkeys ((s.core ck).l1.filter fun e => e.2.dirty != 0)).foldl (fun s k => s.writeBackSector ck k) s
  (mkeys (s.core ck).uo).foldl (fun s k => s.pushLine ck k) s

/-- R169: what a core has written to the die's own exported pages goes home. -/
def State.flushExported (s : State) (ck : Nat) : State :=
  let s := (mkeys ((s.core ck).l1.filter fun e => e.2.exported)).foldl (fun s k => s.writeBackSector ck k) s
  (mkeys ((s.core ck).uo.filter fun e => e.2.exported)).foldl (fun s k => s.pushLine ck k) s

/-- Whether a core holds dirty or update-only data. -/
def Core.holdsDirty (c : Core) : Bool := !c.uo.isEmpty || c.l1.any fun e => e.2.dirty != 0

/-! ### Signals (06 R162 to R164) -/

/-- Launches that make their SIGNAL and TRIGSIG signals: taken and not ended. -/
def Launch.isOpen (l : Launch) : Bool :=
  match l.stage with
  | .ended _ => false
  | .taken | .rewritten | .checked | .eligible | .placed | .ending _ => true

/-- A core is taken off the pending sets of its die: its data have reached home. -/
def Die.discharge (d : Die) (ck : Nat) : Die :=
  { d with pending := (d.pending.map fun e => (e.1, e.2.filter fun c => c ≠ ck)).filter fun e => !e.2.isEmpty }

/-- R150: the part of a release at gang scope or wider before its own write. -/
def State.releaseCore (s : State) (ck : Nat) : State :=
  let s := s.flushCore ck
  s.setDie (ck / 32) ((s.die (ck / 32)).discharge ck)

/-- R163: the home of a signal pulls its pending set. -/
def State.pull (s : State) (a sig : Nat) : State :=
  match mfind (s.die a).pending sig with
  | none => s
  | some cores =>
    let s := cores.foldl (fun s ck => s.flushCore ck) s
    let d := s.die a
    s.setDie a { d with pending := mdel d.pending sig }

/-- R163: before an acquire reads n bytes at home: the pending sets of the signals there are pulled. -/
def State.pullAt (s : State) (pa n : Nat) : State :=
  ((List.range ((pa + n - 1) / 8 - pa / 8 + 1)).map fun k => pa / 8 + k).foldl (fun s k => s.pull (ownerOf pa) (8 * k)) s

/-- Every pending set of the package is pulled (log 12). -/
def State.pullAll (s : State) : State :=
  (List.range 8).foldl (fun s a => (mkeys (s.die a).pending).foldl (fun s k => s.pull a k) s) s

/-! ### Reads and atomics at home -/

/-- A read at home of n bytes within one sector: the state after it. The host window is not counted (R126). -/
def State.homeRead (s : State) (pa n rcount : Nat) (acquire : Bool) : State :=
  let a := ownerOf pa
  let s := if acquire then s.pullAt pa n else s
  let s := s.recall a (lineOf pa)
  if a < 8 then s.countRead a (sectorOf pa) rcount else s

/-- The parts of n bytes that lie in one sector each. -/
def sectorSpans (pa n : Nat) : List (Nat × Nat) :=
  ((List.range ((pa + n - 1) / 128 - pa / 128 + 1)).map fun j =>
    let k := pa / 128 + j
    let lo := max pa (128 * k)
    (lo, min (pa + n) (128 * k + 128) - lo)).filter fun e => e.2 != 0

/-- A read at home of n bytes, sector by sector. -/
def State.homeReadAll (s : State) (pa n rcount : Nat) (acquire : Bool) : State :=
  (sectorSpans pa n).foldl (fun s e => s.homeRead e.1 e.2 rcount acquire) s

/-- One atomic at home: the state after it and the old value (06 R154). -/
def State.homeAtomic (s : State) (op : AtomOp) (pa : Nat) (x : Xword) : State × Xword :=
  let s := s.recall (ownerOf pa) (lineOf pa)
  let old : Xword := BitVec.ofNat 64 (s.num pa (atomBytes op))
  (s.homeWrite (placed pa (leBytes (atomBytes op) (atomApply op old x).toNat)), old)

/-- One `cas` at home; a failed one writes nothing, and leaves its sector uncounted all the same (05 R126). -/
def State.homeCas (s : State) (wide : Bool) (pa : Nat) (cmp new : Xword) : State × Xword :=
  let n := if wide then 8 else 4
  let s := s.recall (ownerOf pa) (lineOf pa)
  let old : Xword := BitVec.ofNat 64 (s.num pa n)
  if old = cmp then (s.homeWrite (placed pa (leBytes n new.toNat)), old) else (s.uncount (ownerOf pa) (sectorOf pa), old)

/-- Several atomics of one instruction, one after another in lane order (21 R312). -/
def State.homeAtomics (s : State) (op : AtomOp) (l : List (Nat × Xword)) : State × List Xword :=
  l.foldl (fun r e => let q := r.1.homeAtomic op e.1 e.2; (q.1, r.2 ++ [q.2])) (s, [])

/-- Several `cas` of one instruction. -/
def State.homeCases (s : State) (wide : Bool) (l : List (Nat × Xword × Xword)) : State × List Xword :=
  l.foldl (fun r e => let q := r.1.homeCas wide e.1 e.2.1 e.2.2; (q.1, r.2 ++ [q.2])) (s, [])

/-- R160, R218: a read of a monitor's location at its home, which arms it when the condition does not hold and one of
the slice's 512 monitors is free. Answers the observed value and whether it meets the condition. -/
def State.armMonitor (s : State) (m : Monitor) : State × Xword × Bool :=
  let a := ownerOf m.addr
  let s := s.homeRead m.addr (if m.wide then 8 else 4) 0 true
  let x := s.watched m
  if waitMet m.cond m.wide x m.value then (s, x, true)
  else
    let d := s.die a
    let used := (d.monitors.filter fun k => sliceOf k.addr == sliceOf m.addr).length
    if used < 512 then (s.setDie a { d with monitors := d.monitors ++ [m] }, x, false) else (s, x, false)

/-- A monitor is removed from its home. -/
def State.disarm (s : State) (o : Option Monitor) : State :=
  match o with
  | none => s
  | some m =>
    let d := s.die (ownerOf m.addr)
    s.setDie (ownerOf m.addr) { d with monitors := d.monitors.filter fun x => x.id ≠ m.id }

/-- The monitors that a warp has armed are removed (R219). -/
def State.dropMonitors (s : State) (w : Warp) : State := (s.disarm w.armed).disarm w.supArmed

/-- The monitors of a context on a die are removed, those of warps that are switched out too (R219). -/
def State.dropCtxMonitors (s : State) (die asid : Nat) : State :=
  (mkeys s.dies).foldl (fun s k =>
    let d := s.die k
    s.setDie k { d with monitors := d.monitors.filter fun m => !(m.die == die && m.asid == asid) }) s

end Sys2Proof.Machine
end

