-- ==== Sys2Proof/Machine/Translate.lean ====
section
/-!
DEFINITION. Windows, page tables, TLBs and the checks of one lane's access (05 R117 to R120, R129 to R136).
-/

namespace Sys2Proof.Machine

/-- The windows of R117. -/
inductive Window where
  | priv | peer | multicast | host | unused
deriving DecidableEq, Repr

/-- The window of an address. -/
def windowOf (va : Nat) : Window :=
  if va < 2 ^ 55 then .priv
  else if va < 2 ^ 55 + 2 ^ 54 then .peer
  else if va < 2 ^ 56 then .multicast
  else if va < 2 ^ 56 + 2 ^ 55 then .host
  else .unused

/-- What a walk or a TLB answers. -/
inductive Xlat where
  | leaf (l : Leaf)
  /-- V = 0 with DEMAND = 1. -/
  | replay
  /-- V = 0 with DEMAND = 0: XLATE kind 0. -/
  | absent
  /-- XLATE kind 1. -/
  | malformed
  /-- A table that no memory holds. -/
  | hole (pa : Nat)
deriving DecidableEq, Repr

/-- The page size of a leaf at a level (R129). -/
def pageBytes (level : Nat) : Nat :=
  match level with
  | 1 => 2 ^ 32
  | 2 => 2 ^ 29
  | 3 => 2 ^ 21
  | _ => 2 ^ 16

/-- The lowest VA bit a level indexes, and the number of its entries (R129). -/
def levelShift (level : Nat) : Nat :=
  match level with
  | 0 => 44
  | 1 => 32
  | 2 => 29
  | 3 => 21
  | _ => 16

def levelEntries (level : Nat) : Nat :=
  match level with
  | 0 => 8192
  | 1 => 4096
  | 2 => 8
  | 3 => 256
  | _ => 32

/-- R118: whether a leaf for an address may name an owner. -/
def ownerAllowed (die va owner : Nat) : Bool :=
  match windowOf va with
  | .priv => owner == die
  | .peer => decide (owner < 8) && owner != die
  | .multicast => decide (owner < 8)
  | .host => owner == 8
  | .unused => false

/-- Bits of an element of a formatted page (R135). -/
def fmtBits (fmt : Nat) : Nat :=
  match fmt with
  | 1 | 2 => 16
  | 3 | 4 => 8
  | 5 | 6 => 6
  | _ => 4

/-- The bytes of one block (04 R94). -/
def blockLen (fmt : Nat) : Nat := 4 * fmtBits fmt

/-- The bytes of the side area of a page: a pair for each whole block (04 R94). -/
def sideBytes (fmt level : Nat) : Nat := 2 * (pageBytes level / blockLen fmt)

/-- R130: whether a valid entry at a level is malformed. -/
def badEntry (die va level w0 w1 : Nat) : Bool :=
  let addr := w0 / 2 ^ 7 % 2 ^ 45 * 2 ^ 7
  let isLeaf := fld w0 1 1 == 1
  let fmt := fld w1 0 4
  let geom := fld w1 4 2
  let side := fld w1 8 44 * 2 ^ 8
  fld w0 6 1 != 0 || fld w0 52 12 != 0 ||
  (if isLeaf then
    level == 0 || addr % pageBytes level != 0 || !ownerAllowed die va (ownerOf addr) ||
    fld w1 6 2 != 0 || fld w1 52 12 != 0 ||
    !((decide (fmt ≤ 2) && geom == 0) || (decide (3 ≤ fmt) && decide (fmt ≤ 8) && geom == 1)) ||
    (geom == 1 && (side == 0 || ownerOf side != ownerOf addr || !memoryExists side (sideBytes fmt level)))
  else
    level == 4 || w1 != 0 || addr % (16 * levelEntries (level + 1)) != 0)

/-- R129 to R131: a walk from a level's table, which may stand in any agent's memory (log 61). Each entry is read whole. -/
def State.walkFrom (s : State) (die asid va : Nat) (fuel level table : Nat) : Xlat :=
  match fuel with
  | 0 => .malformed
  | fuel + 1 =>
    let at_ := table + 16 * (va / 2 ^ levelShift level % levelEntries level)
    if memoryExists at_ 16 then
      let w0 := s.num at_ 8
      let w1 := s.num (at_ + 8) 8
      let addr := w0 / 2 ^ 7 % 2 ^ 45 * 2 ^ 7
      if fld w0 0 1 = 0 then (if fld w0 4 1 = 1 then .replay else .absent)
      else if badEntry die va level w0 w1 then .malformed
      else if fld w0 1 1 = 1 then
        .leaf { asid := asid, va := va / pageBytes level * pageBytes level, level := level, pa := addr,
                canWrite := fld w0 2 1 == 1, canFetch := fld w0 3 1 == 1, exported := fld w0 5 1 == 1,
                fmt := fld w1 0 4, side := fld w1 8 44 * 2 ^ 8 }
      else s.walkFrom die asid va fuel (level + 1) addr
    else .hole at_

/-- The walk of a context on a die. -/
def State.walk (s : State) (die asid va : Nat) : Xlat :=
  s.walkFrom die asid va 5 0 (s.ctx (ctxKey die asid)).ptbase.toNat

/-- Whether a leaf translates an address. -/
def Leaf.covers (l : Leaf) (asid va : Nat) : Bool :=
  l.asid == asid && l.va == va / pageBytes l.level * pageBytes l.level

/-- A TLB with an entry filled, the oldest leaving when it is full (R131; log 9). -/
def tlbFill (size : Nat) (t : List Leaf) (l : Leaf) : List Leaf := (t ++ [l]).drop (t.length + 1 - size)

/-- R131: a translation through the core's TLB, the die's TLB and a walk, which fill what missed. -/
def State.translate (s : State) (ck asid va : Nat) : State × Xlat :=
  let die := ck / 32
  let c := s.core ck
  match c.tlb.find? fun l => l.covers asid va with
  | some l => (s, .leaf l)
  | none =>
    let d := s.die die
    match d.tlb.find? fun l => l.covers asid va with
    | some l => (s.setCore ck { c with tlb := tlbFill 128 c.tlb l }, .leaf l)
    | none =>
      match s.walk die asid va with
      | .leaf l =>
        let s := s.setDie die { d with tlb := tlbFill 8192 d.tlb l }
        (s.setCore ck { c with tlb := tlbFill 128 c.tlb l }, .leaf l)
      | r => (s, r)

/-- A translation by an engine or the front end of a die, which use the die's TLB. -/
def State.translateDie (s : State) (die asid va : Nat) : State × Xlat :=
  let d := s.die die
  match d.tlb.find? fun l => l.covers asid va with
  | some l => (s, .leaf l)
  | none =>
    match s.walk die asid va with
    | .leaf l => (s.setDie die { d with tlb := tlbFill 8192 d.tlb l }, .leaf l)
    | .replay => (s, if d.unbacked.contains (asid, va / 2 ^ 16) then .absent else .replay)
    | r => (s, r)

/-- The element format that FMT names (R130); none for raw. -/
def fmtTy (fmt : Nat) : Option Ty :=
  match fmt with
  | 1 => some .f16
  | 2 => some .bf16
  | 3 => some .e4m3
  | 4 => some .e5m2
  | 5 => some .e3m2
  | 6 => some .e2m3
  | 7 => some .e2m1
  | 8 => some .kf4
  | _ => none

/-! ### The checks of R133 -/

/-- What an access wants to do (R119). -/
inductive Want where
  | load | store | atomic | reduce | wait
deriving DecidableEq, Repr

/-- Where one lane's access goes once its checks have passed. -/
structure Place where
  lane : Nat
  va : Nat
  pa : Nat
  window : Window
  leaf : Leaf
deriving DecidableEq, Repr

/-- What the checks of one lane answer. -/
inductive Check where
  | ok (p : Place)
  | trap (cause : Nat) (info : Xword)
  /-- A replayable miss. -/
  | miss (va : Nat)
  | hole (pa : Nat)
deriving DecidableEq, Repr

/-- TRAPINFO of R132: kind and address. -/
def faultInfo (kind addr : Nat) : Xword := BitVec.ofNat 64 (kind * 2 ^ 60 + addr % 2 ^ 57)

/-- Whether a `ld` or `st` may use a type in a formatted page (R135). -/
def tyFormatted (t : Ty) : Bool := t == .f32 || t == .f16 || t == .bf16

/-- The size of a register type in bytes (03 R72). -/
def tyBytes (t : Ty) : Nat :=
  match t with
  | .b8 | .i8 | .n8 | .e4m3 | .e5m2 | .e8m0 | .e3m2 | .e2m3 | .e2m1 | .kf4 => 1
  | .b16 | .i16 | .n16 | .f16 | .bf16 => 2
  | .b32 | .i32 | .n32 | .f32 | .f16x2 | .bf16x2 => 4
  | .b64 | .i64 | .n64 => 8
  | .b128 => 16

/-- R133 steps 1 to 5 for one lane of a global access of `size` bytes; `fmtOk` says whether the instruction and type
may reach a formatted page at all. The state keeps what translation filled. -/
def State.checkLane (s : State) (ck asid : Nat) (want : Want) (size : Nat) (fmtOk : Bool) (lane : Nat) (a : Xword) :
    State × Check :=
  let va := a.toNat
  let win := windowOf va
  if win = .unused then (s, .trap 0x05 (faultInfo 2 va))
  else if win = .multicast && want = .atomic then (s, .trap 0x11 1)
  else
    match s.translate ck asid va with
    | (s, .replay) => (s, .miss va)
    | (s, .absent) => (s, .trap 0x05 (faultInfo 0 va))
    | (s, .malformed) => (s, .trap 0x05 (faultInfo 1 va))
    | (s, .hole pa) => (s, .hole pa)
    | (s, .leaf l) =>
      let pa := l.pa + va % pageBytes l.level
      if !l.canWrite && (want == .store || want == .atomic || want == .reduce) then (s, .trap 0x06 (faultInfo 0 va))
      else if l.fmt ≠ 0 ∧ fmtOk then
        if fmtBits l.fmt = 16 ∧ va % 2 ≠ 0 then (s, .trap 0x04 a)
        else if memoryExists pa 2 then (s, .ok { lane := lane, va := va, pa := pa, window := win, leaf := l })
        else (s, .hole pa)
      else if l.fmt ≠ 0 ∧ (want = .load ∨ want = .store) then
        (if fmtBits l.fmt = 16 ∧ va % 2 ≠ 0 then (s, .trap 0x04 a) else (s, .trap 0x07 (faultInfo 0 va)))
      else if va % size ≠ 0 then (s, .trap 0x04 a)
      else if l.fmt ≠ 0 then (s, .trap 0x07 (faultInfo 0 va))
      else if memoryExists pa size then (s, .ok { lane := lane, va := va, pa := pa, window := win, leaf := l })
      else (s, .hole pa)

/-- The checks of every lane of an instruction, in lane order. -/
def State.checkLanes (s : State) (ck asid : Nat) (want : Want) (size : Nat) (fmtOk : Bool) (l : List (Nat × Xword)) :
    State × List (Nat × Check) :=
  l.foldl (fun r e =>
    let q := r.1.checkLane ck asid want size fmtOk e.1 e.2
    (q.1, r.2 ++ [(e.1, q.2)])) (s, [])

/-- R133: what the checks of all lanes come to: a trap of the lowest failing lane goes before any miss. -/
inductive Checked where
  | places (l : List Place)
  | trap (cause : Nat) (info : Xword)
  | miss (va : Nat)
  | hole (pa : Nat)
deriving DecidableEq, Repr

/-- A trap of the lowest failing lane goes before an access that no memory holds, and that before any miss. -/
def judge (l : List (Nat × Check)) : Checked :=
  match l.findSome? fun e => match e.2 with
    | .trap c i => some (c, i)
    | .ok _ | .miss _ | .hole _ => none with
  | some (c, i) => .trap c i
  | none =>
  match l.findSome? fun e => match e.2 with
    | .hole pa => some pa
    | .ok _ | .trap .. | .miss _ => none with
  | some pa => .hole pa
  | none =>
  match l.findSome? fun e => match e.2 with
    | .miss va => some va
    | .ok _ | .trap .. | .hole _ => none with
  | some va => .miss va
  | none => .places (l.filterMap fun e => match e.2 with
    | .ok p => some p
    | .trap .. | .miss _ | .hole _ => none)

/-- An address and the side area of its page, as the place's leaf names them. -/
def Place.own (p : Place) : Replica := { pa := p.pa, side := p.leaf.side }

/-- R120: the place's address in each replica of a multicast page, in the order of the import record, with the replica's
side area; the leaf's own where no record of the import is held. -/
def State.replicas (s : State) (die asid : Nat) (p : Place) : List Replica :=
  match mfind (s.ctx (ctxKey die asid)).imports p.leaf.va with
  | some (b :: bs) => (b :: bs).map fun r => { r with pa := r.pa + (p.pa - p.leaf.pa) }
  | some [] | none => [p.own]

/-- R120: the replica that a load or a wait of a die reads. -/
def State.chosenReplica (s : State) (die asid : Nat) (p : Place) : Replica :=
  let rs := s.replicas die asid p
  match rs.find? fun r => ownerOf r.pa == die with
  | some r => r
  | none => (bestBy (fun r : Replica => 16 - ownerOf r.pa) rs).getD p.own

/-- Where an access is performed: its address at each home it reaches, with the side area there (R119, R120). -/
def State.homesOf (s : State) (die asid : Nat) (want : Want) (p : Place) : List Replica :=
  if p.window = .multicast then
    if want = .store ∨ want = .reduce then s.replicas die asid p else [s.chosenReplica die asid p]
  else [p.own]

/-- The physical addresses of an access. -/
def State.targets (s : State) (die asid : Nat) (want : Want) (p : Place) : List Nat :=
  (s.homesOf die asid want p).map fun r => r.pa

/-- R179 kind 0: the departed agent that an access names. -/
def State.departedTarget (s : State) (l : List Nat) : Option Nat :=
  (l.find? fun pa => s.gone (ownerOf pa)).map ownerOf

end Sys2Proof.Machine
end

