-- ==== Sys2Proof/Machine/Cache.lean ====
section
/-!
DEFINITION. The L1 of a core (05 R125, R128, 06 R149, R158, 11 R223), and the values that loads take and stores give
(22 R378, 24 R425, 05 R135 to R138).
-/

namespace Sys2Proof.Machine

/-! ### Sectors -/

/-- A sector with nothing valid. -/
def Sector.empty : Sector := { valid := 0, dirty := 0, data := 0, exported := false }

/-- The mask of n bytes from byte o of a sector. -/
def byteMask (o n : Nat) : BitVec 128 := BitVec.ofNat 128 ((2 ^ n - 1) * 2 ^ o)

/-- A core's sector. -/
def State.sector (s : State) (ck k : Nat) : Sector := (mfind (s.core ck).l1 k).getD Sector.empty

/-- A line leaves a core's L1: its dirty sectors and an update-only copy go home (R125, 06 R152, 11 R223). -/
def State.evictL1 (s : State) (ck line : Nat) : State :=
  let s := s.pushLine ck line
  let s := (mkeys ((s.core ck).l1.filter fun e => e.1 / 4 == line)).foldl (fun s k => s.writeBackSector ck k) s
  let c := s.core ck
  s.setCore ck { c with l1 := c.l1.filter fun e => e.1 / 4 ≠ line }

/-- The lines that a core's L1 holds. -/
def Core.l1Lines (c : Core) : List Nat := distinct (c.l1.map (fun e => e.1 / 4) ++ mkeys c.uo)

/-- Room for a line in an L1 of 1,024 lines: a line that the core chooses is evicted (log 17). -/
def State.l1Room (s : State) (ck line : Nat) : State :=
  let c := s.core ck
  if decide (c.l1.length + c.uo.length < 1024) || c.l1Lines.contains line || decide (c.l1Lines.length < 1024) then s
  else
    let v := s.victim c.l1Lines
    v.2.evictL1 ck v.1

/-- A core with a sector replaced; a sector with nothing valid is not held. -/
def State.setSector (s : State) (ck k : Nat) (x : Sector) : State :=
  if x.valid = 0 then s.setCore ck { s.core ck with l1 := mdel (s.core ck).l1 k }
  else
    let s := s.l1Room ck (k / 4)
    s.setCore ck { s.core ck with l1 := mput (s.core ck).l1 k x }

/-- Data with n bytes from byte o replaced. -/
def patch (data : BitVec 1024) (o : Nat) (l : List Byte) : BitVec 1024 :=
  (data &&& ~~~(BitVec.ofNat 1024 ((2 ^ (8 * l.length) - 1) * 2 ^ (8 * o)))) ||| BitVec.ofNat 1024 (leNat l * 2 ^ (8 * o))

/-- Bytes written by the core: valid and dirty. -/
def Sector.write (x : Sector) (o : Nat) (l : List Byte) (exported : Bool) : Sector :=
  { valid := x.valid ||| byteMask o l.length, dirty := x.dirty ||| byteMask o l.length, data := patch x.data o l,
    exported := x.exported || exported }

/-- Bytes that stand at home too: valid, no longer dirty. -/
def Sector.put (x : Sector) (o : Nat) (l : List Byte) : Sector :=
  { x with valid := x.valid ||| byteMask o l.length, dirty := x.dirty &&& ~~~(byteMask o l.length), data := patch x.data o l }

/-- R125: a whole sector fetched and merged under the written bytes. -/
def Sector.merge (x : Sector) (l : List Byte) : Sector :=
  let keep := (List.range 128).foldl
    (fun (m : BitVec 1024) k => if x.dirty.getLsbD k then m ||| BitVec.ofNat 1024 (255 * 2 ^ (8 * k)) else m) 0
  { x with valid := BitVec.ofNat 128 (2 ^ 128 - 1),
           data := (x.data &&& keep) ||| (BitVec.ofNat 1024 (leNat l) &&& ~~~keep) }

/-- n bytes of a sector. -/
def Sector.bytes (x : Sector) (o n : Nat) : List Byte := (List.range n).map fun k => (x.data >>> (8 * (o + k))).setWidth 8

/-- Whether the core's L1 holds all of n bytes. -/
def State.l1Has (s : State) (ck pa n : Nat) : Bool :=
  (s.sector ck (sectorOf pa)).valid &&& byteMask (pa % 128) n == byteMask (pa % 128) n

/-- n bytes as the core's L1 holds them. -/
def State.l1Bytes (s : State) (ck pa n : Nat) : List Byte := (s.sector ck (sectorOf pa)).bytes (pa % 128) n

/-- A byte at its home with the core's own written byte over it. -/
def State.viewByte (s : State) (ck pa : Nat) : Byte :=
  let x := s.sector ck (sectorOf pa)
  if x.dirty.getLsbD (pa % 128) then (x.data >>> (8 * (pa % 128))).setWidth 8 else s.byte pa

/-- n bytes at their home with the core's own written bytes over them (log 10). -/
def State.view (s : State) (ck pa n : Nat) : List Byte := (List.range n).map fun k => s.viewByte ck (pa + k)

/-- A plain read of the private window (R125): from the L1, which fetches the sector when a byte is missing. -/
def State.loadPlain (s : State) (ck pa n rcount : Nat) : State × List Byte :=
  let s := s.pushLine ck (lineOf pa)
  let s :=
    if s.l1Has ck pa n then s
    else
      let s := s.homeRead (128 * sectorOf pa) 128 rcount false
      s.setSector ck (sectorOf pa) ((s.sector ck (sectorOf pa)).merge (s.bytes (128 * sectorOf pa) 128))
  (s, s.l1Bytes ck pa n)

/-- The core's operand latch is emptied by a write of bytes that it holds (09 R202). -/
def State.dropLatch (s : State) (ck pa : Nat) (l : List Byte) : State :=
  if (s.core ck).latch.any fun x => inSpans x.mem (placed pa l) then s.setCore ck { s.core ck with latch := none } else s

/-- Bytes of one sector stored to the private window in one step (24 R425): they are held dirty. -/
def State.storePlain (s : State) (ck : Nat) (l : List (Nat × Byte)) (exported : Bool) : State :=
  match l with
  | [] => s
  | e :: _ =>
    let k := sectorOf e.1
    let s := s.pushLine ck (lineOf e.1)
    let s := if (s.core ck).latch.any fun x => inSpans x.mem l then s.setCore ck { s.core ck with latch := none } else s
    s.setSector ck k (l.foldl (fun x e => x.write (e.1 % 128) [e.2] exported) (s.sector ck k))

/-- The core's own copy follows a write that was performed at home, where it holds the sector. -/
def State.l1Follow (s : State) (ck pa : Nat) (l : List Byte) : State :=
  let x := s.sector ck (sectorOf pa)
  if x.valid = 0 then s else (s.dropLatch ck pa l).setSector ck (sectorOf pa) (x.put (pa % 128) l)

/-- The sectors of a line that a core holds. -/
def State.lineSectors (s : State) (ck line : Nat) : List Nat :=
  mkeys ((s.core ck).l1.filter fun e => e.1 / 4 == line)

/-- `cwb` of a line (21 R341): its dirty sectors and an update-only copy go home. -/
def State.cleanLine (s : State) (ck line : Nat) : State :=
  (s.lineSectors ck line).foldl (fun s k => s.writeBackSector ck k) (s.pushLine ck line)

/-- `cinv` of a line (21 R328): written back, then dropped. -/
def State.dropLine (s : State) (ck line : Nat) : State :=
  let s := s.cleanLine ck line
  (s.lineSectors ck line).foldl (fun s k => s.setSector ck k Sector.empty) s

/-- R149: an acquire at gang scope or wider: clean sectors and unwritten bytes are dropped, written bytes and update-only
lines kept. A sector that was asked for before fills nothing when it comes (R145). -/
def State.acquireCore (s : State) (ck : Nat) : State :=
  let c := s.core ck
  s.setCore ck { c with l1 := (c.l1.filter fun e => e.2.dirty != 0).map (fun e => (e.1, { e.2 with valid := e.2.dirty })),
                        fills := [], acquires := c.acquires + 1 }

/-- R158, R223: an update of the private window combined into the core's update-only line. -/
def State.reduceHeld (s : State) (ck : Nat) (op : AtomOp) (pa : Nat) (x : Xword) (exported : Bool) : State :=
  let s := if (s.lineSectors ck (lineOf pa)).isEmpty then s else s.dropLine ck (lineOf pa)
  let s := match mfind (s.core ck).uo (lineOf pa) with
    | some u => if u.op = op then s else s.pushLine ck (lineOf pa)
    | none => s
  let s := (s.l1Room ck (lineOf pa)).dropLatch ck pa (leBytes (atomBytes op) 0)
  let c := s.core ck
  let u := (mfind c.uo (lineOf pa)).getD { op := op, written := 0, words := 0, exported := false }
  s.setCore ck { c with uo := mput c.uo (lineOf pa) { u.combine (pa % 512) x with exported := u.exported || exported } }

/-- Whether a monitor is armed on the line of an address: then every `red` to it is performed at the home (06 R160). -/
def State.monitored (s : State) (pa : Nat) : Bool :=
  (s.die (ownerOf pa)).monitors.any fun m => lineOf m.addr == lineOf pa

/-! ### Values of loads and stores -/

/-- R378: the register words of bytes of a type. -/
def loadWords (t : Ty) (l : List Byte) : List Word :=
  let x := leNat l
  match t with
  | .i8 => [(BitVec.ofNat 8 x).signExtend 32]
  | .i16 => [(BitVec.ofNat 16 x).signExtend 32]
  | .b8 | .n8 | .b16 | .n16 | .f16 | .bf16 | .b32 | .i32 | .n32 | .f32 | .f16x2 | .bf16x2 => [BitVec.ofNat 32 x]
  | .b64 | .i64 | .n64 => [BitVec.ofNat 32 x, BitVec.ofNat 32 (x / 2 ^ 32)]
  | .b128 => [BitVec.ofNat 32 x, BitVec.ofNat 32 (x / 2 ^ 32), BitVec.ofNat 32 (x / 2 ^ 64), BitVec.ofNat 32 (x / 2 ^ 96)]
  | .e4m3 | .e5m2 | .e3m2 | .e2m3 | .e2m1 | .kf4 | .e8m0 => [BitVec.ofNat 32 x]

/-- R425: the bytes that a lane's registers give a type. -/
def storeBytes (t : Ty) (l : List Word) : List Byte :=
  leBytes (tyBytes t) (l.foldr (fun w acc => w.toNat + 2 ^ 32 * acc) 0)

/-- One draw of a lane (04 R101). -/
def Warp.draw (w : Warp) (i : Nat) : Word × Warp :=
  let x := xsNext (w.lane i).xs
  (x, w.onLanes (laneBit i) fun l => { l with xs := x })

/-- R136: the element that an element address names, by rank; none beyond the elements there. -/
def elementAt (fmt pageSize off rank : Nat) : Option Nat :=
  match fmtBits fmt with
  | 16 => some (off / 2)
  | 8 => some off
  | 4 => if rank < 2 then some (2 * off + rank) else none
  | _ =>
    if pageSize / 24 * 24 ≤ off then none
    else match off % 3 with
      | 0 => if rank < 2 then some (off / 3 * 4 + rank) else none
      | 1 => if rank = 0 then some (off / 3 * 4 + 2) else none
      | _ => if rank = 0 then some (off / 3 * 4 + 3) else none

/-- The element of a place in a formatted page, with the places of lower lanes that name its address as rank. -/
def Place.element (p : Place) (all : List Place) : Option Nat :=
  let rank := (all.filter fun q => q.va == p.va && decide (q.lane < p.lane)).length
  elementAt p.leaf.fmt (pageBytes p.leaf.level) (p.va - p.leaf.va) rank

/-- Where block b of a page stands, as address and length, and its side pair. -/
def blockParts (page side fmt b : Nat) : List (Nat × Nat) := [(page + blockLen fmt * b, blockLen fmt), (side + 2 * b, 2)]

/-- R137: the register value of one element: `bytes` is the element of a 16-bit page, or a block and its side pair. -/
def formattedWord (fmt : Nat) (t : Ty) (bytes : List Byte) (k : Nat) (cvtmode : Xword) (draw : Word) : Word :=
  let v := match fmtTy fmt with
    | none => FVal.nan
    | some f =>
      if fmtBits fmt = 16 then (f.fmt.getD .f16).value (leNat bytes)
      else
        let side := bytes.drop (blockLen fmt)
        elemValue f ((side.getD 0 0).toNat) ((side.getD 1 0).toNat) (elemOf (fmtBits fmt) (leNat (bytes.take (blockLen fmt))) k)
  BitVec.ofNat 32 ((t.fmt.getD .f32).round (cvtField cvtmode t) draw.toNat v)

/-- R378: the register values that a lane takes from the bytes of its read. -/
def LanePart.regs (p : LanePart) (bytes : List Byte) (cvtmode : Xword) : List LoadReg :=
  if p.fmt = 0 then
    (loadWords p.ty ((bytes.drop p.off).take (tyBytes p.ty))).zipIdx.map fun e =>
      { reg := p.reg + e.2, lane := p.lane, value := e.1 }
  else if fmtBits p.fmt = 16 then
    [{ reg := p.reg, lane := p.lane,
       value := formattedWord p.fmt p.ty ((bytes.drop p.off).take 2) 0 cvtmode p.draw }]
  else [{ reg := p.reg, lane := p.lane, value := formattedWord p.fmt p.ty (bytes.drop p.base) p.off cvtmode p.draw }]

/-- The part of a load that lane i has, with the draw it takes when its conversion is stochastic (R102). -/
def Warp.lanePart (w : Warp) (d : VReg) (t : Ty) (p : Place) (off : Nat) : LanePart × Warp :=
  let takes := p.leaf.fmt ≠ 0 ∧ (cvtField w.cvtmode t).rnd = .stochastic
  let r := if takes then w.draw p.lane else (0, w)
  ({ lane := p.lane, reg := w.allocated d.toNat, ty := t, off := off, fmt := p.leaf.fmt, draw := r.1 }, r.2)

end Sys2Proof.Machine
end

