-- ==== Sys2Proof/Machine/Records.lean ====
section
/-!
DEFINITION. Records and event rings (19 R295 to R297, 15 R255), the front end's writes in a context's address space
(14 R444) and the end of a launch (14 R233, R234, R238).
-/

namespace Sys2Proof.Machine

/-! ### Rings -/

/-- A physical address in H's memory. -/
def hostPa (x : Nat) : Nat := 8 * 2 ^ 48 + x % 2 ^ 48

/-- Words as bytes. -/
def wordsBytes (l : List Xword) : List Byte := l.flatMap fun w => leBytes 8 w.toNat

/-- What the firmware has sent to an agent and that agent has not performed. -/
def Causeway.fwPending (c : Causeway) (dst : Nat) : List Packet :=
  let at_ := fun (m : SMap (List Packet)) => mget [] m (channelKey 9 dst)
  at_ c.held ++ at_ c.flying ++ at_ c.outbox

/-- n bytes of an agent's memory as the firmware's own writes leave them, those on their way included. -/
def State.fwNum (s : State) (pa n : Nat) : Nat :=
  let w := (s.cway.fwPending (ownerOf pa)).flatMap fun p => match p.body with
    | .write l => l
    | _ => []
  leNat ((List.range n).map fun k => w.foldl (fun b e => if e.1 = pa + k then e.2 else b) (s.byte (pa + k)))

/-- The firmware's packets on their way to an agent arrive and are delivered, up to the first that may not be yet. -/
def State.fwDeliver (fuel : Nat) (s : State) (dst : Nat) : State :=
  match fuel with
  | 0 => s
  | fuel + 1 =>
    let fly := mget [] s.cway.flying (channelKey 9 dst)
    match mget [] s.cway.held (channelKey 9 dst), fly.find? (fun p => !p.isBeat) with
    | [], some p =>
      let rest := dropFirst (fun p => !p.isBeat) fly
      let t : State := { s with cway := { s.cway with flying := mset [] s.cway.flying (channelKey 9 dst) rest } }
      if s.deliverable p then
        let t := t.counted p
        match p.body with
        | .write l => State.fwDeliver fuel (t.homeWrite l) dst
        | .carrier => State.fwDeliver fuel t dst
        | _ => s
      else s
    | _, _ => s

/-- Bytes that the firmware writes in one sector of an agent's memory: a packet of the system class (07 R167, R175), which is
delivered at once where it may be (log 60). -/
def State.fwWriteSector (s : State) (l : List (Nat × Byte)) : State :=
  match l with
  | [] => s
  | e :: _ =>
    let dst := ownerOf e.1
    (s.send (mkPacket 9 dst 3 0 (.write l) none none)).fwDeliver (s.cway.carriersNow 9 dst + 1) dst

/-- Bytes that the firmware writes, sector by sector. -/
def State.fwWrite (s : State) (l : List (Nat × Byte)) : State :=
  (distinct (l.map fun e => sectorOf e.1)).foldl (fun s k => s.fwWriteSector (l.filter fun e => sectorOf e.1 == k)) s

/-- R295: a record of eight words to the host event ring, dropped when the ring is full. -/
def State.hostEvent (s : State) (l : List Xword) : State :=
  let h := s.host
  if (h.etail - h.ehead).toNat < 2 ^ h.esize then
    let rec8 := (l ++ List.replicate 8 0).take 8
    let at_ := hostPa (h.ebase + 64 * (h.etail.toNat % 2 ^ h.esize))
    let s := s.fwWrite (placed at_ (wordsBytes rec8))
    { s with host := { s.host with etail := h.etail + 1 } }
  else { s with host := { h with elost := h.elost + 1 } }

/-- The reply to a command (R295; log 42): CODE 0x40, the status, the command's TAG, and data. -/
def State.answer (s : State) (rec : List Xword) (status : Nat) (data : List Xword) : State :=
  s.hostEvent (BitVec.ofNat 64 (0x40 + 2 ^ 8 * status + 2 ^ 32 * fld (rec.getD 0 0).toNat 32 32) :: data)

/-- R297: an event to the ring of a context on a die; the agent it names and its detail. HEAD is read at the home, which recalls
what the die's L1s have combined into it (06 R158). -/
def State.ctxEvent (s : State) (die asid code agent : Nat) (w1 : Xword) : State :=
  let ring := (s.ctx (ctxKey die asid)).evring
  if ring = 0 then s
  else
    let tail := s.fwNum ring 8
    let s := s.homeReadAll (ring + 8) 8 0 false
    let head := s.num (ring + 8) 8
    if (tail + 2 ^ 64 - head) % 2 ^ 64 < 4096 then
      let words := [BitVec.ofNat 64 (code + 2 ^ 8 * agent), w1, BitVec.ofNat 64 (s.timeOf die), 0]
      let s := s.fwWrite (placed (ring + 64 + 32 * (tail % 4096)) (wordsBytes words))
      s.fwWrite (placed ring (leBytes 8 (tail + 1)))
    else s.fwWrite (placed (ring + 16) (leBytes 8 (s.fwNum (ring + 16) 8 + 1)))

/-! ### Fault buffer (05 R134) -/

/-- The 64 KiB page of an address. -/
def faultPage (va : Nat) : Nat := va / 2 ^ 16

/-- Whether a page is in the die's fault buffer. -/
def Die.hasFault (d : Die) (asid page : Nat) : Bool := d.faults.contains (asid, page)

/-- A miss recorded once for each page, while a record is free. Answers whether it stands recorded. -/
def State.recordFault (s : State) (die asid page : Nat) : State × Bool :=
  let d := s.die die
  if d.hasFault asid page then (s, true)
  else if d.faults.length < 1024 then (s.setDie die { d with faults := d.faults ++ [(asid, page)] }, true)
  else (s, false)

/-! ### Launch records (14 R232) -/

/-- Word n of a launch's record. -/
def Launch.word (l : Launch) (n : Nat) : Nat := (l.record.getD n 0).toNat

def Launch.entry (l : Launch) : Nat := fld (l.word 0) 0 57
def Launch.widthCode (l : Launch) : Nat := fld (l.word 1) 0 2
/-- Lanes of a warp: 16, 32 or 64. -/
def Launch.width (l : Launch) : Nat := 16 * 2 ^ l.widthCode
/-- Vector registers allocated. -/
def Launch.alloc (l : Launch) : Nat := 32 * (fld (l.word 1) 2 3 + 1)
def Launch.warps (l : Launch) : Nat := fld (l.word 1) 5 5 + 1
/-- Workgroups per gang. -/
def Launch.members (l : Launch) : Nat := fld (l.word 1) 10 3 + 1
def Launch.coResident (l : Launch) : Bool := fld (l.word 1) 13 1 == 1
def Launch.prio (l : Launch) : Nat := fld (l.word 1) 14 3
def Launch.dep (l : Launch) : Nat := fld (l.word 1) 17 2
def Launch.gangs (l : Launch) : Nat := fld (l.word 1) 32 24
def Launch.localBytes (l : Launch) : Nat := fld (l.word 2) 0 25
def Launch.args (l : Launch) : Nat := fld (l.word 3) 0 57
def Launch.schedVa (l : Launch) : Nat := fld (l.word 4) 0 57
def Launch.bitmap (l : Launch) : Nat := fld (l.word 5) 0 57
def Launch.prologue (l : Launch) : Nat := fld (l.word 6) 0 57
def Launch.signal (l : Launch) : Nat := fld (l.word 7) 0 57
def Launch.trigsig (l : Launch) : Nat := fld (l.word 9) 0 57
def Launch.waitsig (l : Launch) : Nat := fld (l.word 10) 0 57
def Launch.status (l : Launch) : Nat := fld (l.word 12) 0 57

/-- R232: the byte offset of the first faulty field of a record; none when it keeps every limit. -/
def Launch.fault (l : Launch) : Option Nat :=
  let w := l.word
  let bad := fun (p : Bool) (off : Nat) => if p then some off else none
  let addr := fun (n align : Nat) => [bad (fld (w n) 0 57 % align != 0) (8 * n), bad (fld (w n) 57 7 != 0) (8 * n + 7)]
  let checks : List (Option Nat) :=
    [bad (l.entry % 4 != 0 || decide (2 ^ 55 ≤ l.entry)) 0, bad (fld (w 0) 57 7 != 0) 7, bad (l.widthCode == 3) 8,
     bad (l.dep == 3) 10, bad (fld (w 1) 19 13 != 0) 10, bad (l.gangs == 0) 12, bad (fld (w 1) 56 8 != 0) 15,
     bad (l.localBytes % 64 != 0 || decide (2 ^ 24 < l.localBytes)) 16, bad (fld (w 2) 25 39 != 0) 19] ++
    addr 3 1 ++ addr 4 4 ++ addr 5 4 ++ addr 6 4 ++ addr 7 8 ++ addr 9 8 ++ addr 10 8 ++ addr 12 8 ++
    [bad (w 13 != 0) 104, bad (w 14 != 0) 112, bad (w 15 != 0) 120]
  checks.findSome? id

/-! ### The front end's writes (R444) -/

/-- What became of a front-end write. -/
inductive Front where
  | made (s : State)
  | held (s : State)
  | skipped (s : State)

/-- The bytes of a front-end write. -/
def FrontWrite.size (f : FrontWrite) : Nat :=
  match f.op with
  | none => 8
  | some op => atomBytes op

/-- One front-end write: at home on its own die, as a packet elsewhere. A misaligned address, or one of a die that has departed,
is a fault that cannot be replayed (05 R133, 07 R179). -/
def State.frontWrite (s : State) (die asid : Nat) (f : FrontWrite) : Front :=
  if windowOf f.addr = .unused ∨ f.addr % f.size ≠ 0 then .skipped s
  else
    match s.translateDie die asid f.addr with
    | (s, .replay) => .held (s.recordFault die asid (faultPage f.addr)).1
    | (s, .absent) | (s, .malformed) | (s, .hole _) => .skipped s
    | (s, .leaf l) =>
      let pa := l.pa + f.addr % pageBytes l.level
      let p : Place := { lane := 0, va := f.addr, pa := pa, window := windowOf f.addr, leaf := l }
      let pas := s.targets die asid .store p
      if !l.canWrite || l.fmt ≠ 0 || !memoryExists pa 8 || (s.departedTarget pas).isSome then .skipped s
      else
        .made (pas.foldl (fun s pa =>
          match f.op with
          | none =>
            let bytes := placed pa (leBytes 8 f.value.toNat)
            if ownerOf pa = die then s.homeWrite bytes
            else s.send (mkPacket die (ownerOf pa) 3 asid (.write bytes) none none)
          | some op =>
            if ownerOf pa = die then (s.homeAtomic op pa f.value).1
            else s.send (mkPacket die (ownerOf pa) 3 asid (.reduction op [(pa, f.value)]) none none)) s)

/-- The event of a skipped write (R444). -/
def State.skipEvent (s : State) (die asid : Nat) (f : FrontWrite) : State :=
  s.ctxEvent die asid 0x29 die (BitVec.ofNat 64 (f.addr % 2 ^ 57 + 2 ^ 60 * f.kind))

/-- The queue gives up a head launch; it stays as the record before the next one. -/
def Queue.dropHead (q : Queue) (lid : Nat) : Queue :=
  if q.headLaunch = some lid then { q with headLaunch := none, prevLaunch := some lid } else q

/-- R233, R235: the writes of an ending launch are made: its event is posted, and a repeating one starts again on the
record first read, whatever has become of its queue. A launch that has failed or been cancelled stays its queue's head
launch up to here: until its writes are made (R230; log 84). -/
def State.finishLaunch (s : State) (lid status : Nat) : State :=
  match mfind s.launches lid with
  | none => s
  | some l =>
    let s := s.setLaunch lid { l with stage := .ended status }
    let s := ([l.signal, l.trigsig].filter fun va => va ≠ 0).foldl (fun s va =>
      match s.translateDie l.die l.asid va with
      | (s, .leaf f) => s.pull l.die (f.pa + va % pageBytes f.level)
      | (s, _) => s) s
    let s :=
      if l.status = 0 then s
      else s.ctxEvent l.die l.asid 0x28 l.die
        (BitVec.ofNat 64 (status % 2 ^ 16 + 2 ^ 16 * l.queue + 2 ^ 24 * l.slot.toNat))
    let qk := queueKey l.die l.queue
    let q := (s.queue qk).dropHead lid
    if l.repeats ∧ status % 256 = 1 ∧ (s.ctx (ctxKey l.die l.asid)).killed = false then
      let (nid, s) := s.fresh
      let again : Launch :=
        { l with record := l.slotRec, stage := .taken, since := s.now, nextGang := 0, retired := 0, triggered := false,
                 repeats := false, sched := [], waiting := none, met := false, passes := 0, blockedSince := none, window := none, todo := [] }
      (s.setLaunch nid again).setQueue qk { q with headLaunch := some nid }
    else s.setQueue qk q

/-- The front end makes the writes of a launch, in order, until one is held. -/
def State.drainLaunch (fuel : Nat) (s : State) (lid : Nat) : State :=
  match fuel with
  | 0 => s
  | fuel + 1 =>
    match mfind s.launches lid with
    | none => s
    | some l =>
      match l.todo with
      | [] =>
        match l.stage with
        | .ending status => s.finishLaunch lid status
        | .taken | .rewritten | .checked | .eligible | .placed | .ended _ => s
      | f :: rest =>
        match s.frontWrite l.die l.asid f with
        | .held s => s
        | .made s => State.drainLaunch fuel (s.setLaunch lid { l with todo := rest }) lid
        | .skipped s => State.drainLaunch fuel ((s.skipEvent l.die l.asid f).setLaunch lid { l with todo := rest }) lid

/-- Writes added to those of a launch, and made as far as they can be. -/
def State.frontWrites (s : State) (lid : Nat) (fs : List FrontWrite) : State :=
  match mfind s.launches lid with
  | none => s
  | some l =>
    let todo := l.todo ++ fs
    State.drainLaunch (todo.length + 1) (s.setLaunch lid { l with todo := todo }) lid

/-- R238: a launch becomes triggered, once. -/
def Launch.triggerWrites (l : Launch) : List FrontWrite :=
  if l.triggered ∨ l.trigsig = 0 then [] else [{ kind := 3, addr := l.trigsig, op := some .addB64, value := 1 }]

/-- R233, R234: a launch ends with a status word; `first` are writes that go before, such as SIGNAL's. -/
def State.endLaunch (s : State) (lid status : Nat) (first : List FrontWrite) : State :=
  match mfind s.launches lid with
  | none => s
  | some l =>
    match l.stage with
    | .ending _ | .ended _ => s
    | .taken | .rewritten | .checked | .eligible | .placed =>
      let statusWrite : List FrontWrite :=
        if l.status = 0 then []
        else [{ kind := 0, addr := l.status, op := none, value := BitVec.ofNat 64 status }]
      let fs := l.triggerWrites ++ first ++ statusWrite
      (s.setLaunch lid { l with triggered := true, stage := .ending status, window := none, waiting := none }).frontWrites lid fs

/-- R224: the front end sets a gang's bit in the done or the abandoned array. -/
def Launch.bitWrite (l : Launch) (g : Nat) (abandoned : Bool) : List FrontWrite :=
  if l.bitmap = 0 then []
  else
    let off := if abandoned then 4 * ((l.gangs + 31) / 32) else 0
    [{ kind := 1, addr := l.bitmap + off + 4 * (g / 32), op := some .orB32, value := BitVec.ofNat 64 (2 ^ (g % 32)) }]

end Sys2Proof.Machine
end

