-- ==== Sys2Proof/Machine/Clocks.lean ====
section
/-!
DEFINITION. Operating points, and the frequency of a cluster (18 R277, R278).
-/

namespace Sys2Proof.Machine

/-- R277: the supply of a point in mV. -/
def pointMv (k : Nat) : Nat := 550 + 50 * min 7 k

/-- R277: the frequency of a point in MHz. -/
def pointMhz (k : Nat) : Nat :=
  match k with
  | 0 => 600
  | 1 => 900
  | 2 => 1200
  | 3 => 1500
  | 4 => 1800
  | 5 => 2000
  | 6 => 2150
  | _ => 2300

/-- The highest point whose voltage a supply has reached. -/
def reachedPoint (mv : Nat) : Nat := min 7 ((mv - 550) / 50)

/-- The highest of the points 0 to k whose frequency does not pass a ceiling; point 0 where none does. -/
def pointUnder (ceil : Nat) (k : Nat) : Nat :=
  match k with
  | 0 => 0
  | k + 1 => if pointMhz (k + 1) ≤ ceil then k + 1 else pointUnder ceil k

/-- R278: FREQ in MHz, with the limiter's trim in hundredths. -/
def Cluster.freq (c : Cluster) : Nat := min c.clampMhz (pointMhz (reachedPoint c.mv)) * 100 / (100 + c.trim)

end Sys2Proof.Machine
end

