-- ==== Sys2Proof/Machine/Toll.lean ====
section
/-!
DEFINITION. The effective rate of a context (16 R259), and the choices of an engine whose queue has emptied and of the L3 chooser
(R260, R264).
-/

namespace Sys2Proof.Machine

/-- A product or quotient of 16.16 numbers saturates at 0xFFFF_FFFF. -/
def sat32 (x : Nat) : Nat := min x 0xFFFFFFFF

/-- 2^(n/512) in 16.16 for n from 0 to 1024, as the greatest number whose 512th power is not above it: the rule gives the factor
no precision, and here it is cut to 16.16 before the product is taken (log 77). -/
def biasFactor (n : Nat) : Nat :=
  (List.range 19).reverse.foldl (fun acc b =>
    if (acc + 2 ^ b) ^ 512 ≤ 2 ^ n * 65536 ^ 512 then acc + 2 ^ b else acc) 0

/-- R259: the effective rate of a context on a cluster, in 16.16. -/
def effectiveRate (xrate lrate bias : Nat) : Nat :=
  let base := if lrate = 0 then xrate else max (xrate / 4) (min lrate (sat32 (xrate * 16)))
  min (sat32 (base * biasFactor bias / 65536)) (sat32 (xrate * 16))

/-- R273, R267: whether a context runs below its floor in force. -/
def Ctx.belowFloor (c : Ctx) : Bool := decide (c.power < 1000 * c.efloor)

/-- The effective rate of a context's cluster; RMIN while the context runs below its floor (R273). -/
def State.rateOf (s : State) (die cl asid : Nat) : Nat :=
  let c := s.ctx (ctxKey die asid)
  if c.belowFloor then s.power.rmin.toNat
  else effectiveRate (s.cluster (clusterKey die cl)).xrate.toNat (c.lrate.toNat % 2 ^ 32) c.bias

/-- R260: the choice between a current option and the other, by cost: the other is taken when its cost is at most 15/16
of the current one's. -/
def moves (current other : Nat) : Bool := decide (16 * other ≤ 15 * current)

/-- The costs of R264 for a copy of some bytes, where `reread` of `written` lines were read again from the L3: to allocate,
and to bypass; each times 2^24 * written. -/
def allocCosts (rate bytes reread written : Nat) : Nat × Nat :=
  (rate * bytes * written, 65536 * 120 * bytes * reread + 4 * rate * bytes * reread)

/-- R260, R264: whether a copy allocates in the L3, from what its unit chose last. Of two equal costs the one of lower
energy is taken. -/
def allocates (last : Bool) (rate bytes reread written : Nat) : Bool :=
  let w := max 1 written
  let c := allocCosts rate bytes reread w
  let tie := decide (w < 4 * reread)
  if last then !(moves c.1 c.2 && (c.1 != c.2 || !tie)) else moves c.2 c.1 && (c.1 != c.2 || tie)

/-- R264: whether an engine whose queue has emptied gates, from its last choice, rate, idle gap in ns, idle power in mW,
wake ramp in ps and wake energy in nJ. Costs are in pJ times 2^16. -/
def gates (choseGate : Bool) (rate gap idle ramp wake : Nat) : Bool :=
  let stay := rate * (idle * gap)
  let gate := 65536 * ramp + rate * (wake * 1000)
  if choseGate then !moves gate stay else moves stay gate

/-- Whether a queue holds a command of the matrix engine itself; those on the vector lanes leave the engine as it is. -/
def engineQueued (l : List MatrixCmd) : Bool := l.any fun c => !c.onLanes

/-- R264: the matrix engine decides whether it gates once its queue is empty, by its last idle gap; one that is gated stays so. -/
def State.matrixRest (s : State) (die core asid : Nat) : State :=
  let ck := coreKey die core
  let k := s.core ck
  if engineQueued k.mq then s
  else
    let full := isMatrixDie die
    let ramp := 64 * 1000000 / max 1 (s.cluster (clusterKey die (core / 8))).freq
    let g := gates k.choseGate (s.rateOf die (core / 8) asid) k.idleGap (if full then 1500 else 400) ramp
      (if full then 40 else 10)
    s.setCore ck { k with idleFrom := s.now, gated := g || k.gated, choseGate := g }

/-- R264: the copy engine decides whether it gates once its queue is empty, by its last idle gap; one that is gated stays so. -/
def State.copyRest (s : State) (die cluster asid : Nat) : State :=
  let clk := clusterKey die cluster
  let cl := s.cluster clk
  if cl.cq.isEmpty then
    let ramp := 32 * 1000000 / max 1 cl.freq
    let g := gates cl.copyChoseGate (s.rateOf die cluster asid) cl.copyIdleGap 800 ramp 12
    s.setCluster clk { cl with copyIdleFrom := s.now, copyGated := g || cl.copyGated, copyChoseGate := g }
  else s

/-- The matrix queue of a core is emptied, by a switch or a kill of its context. -/
def State.emptyMatrix (s : State) (ck asid : Nat) : State :=
  let k := s.core ck
  let s' := s.setCore ck { k with mq := [] }
  if engineQueued k.mq then s'.matrixRest (ck / 32) (ck % 32) asid else s'

/-- The copy queue of a cluster is emptied, by a kill of its context. -/
def State.emptyCopies (s : State) (die cluster asid : Nat) : State :=
  let clk := clusterKey die cluster
  let cl := s.cluster clk
  let s' := s.setCluster clk { cl with cq := [] }
  if cl.cq.isEmpty then s' else s'.copyRest die cluster asid

end Sys2Proof.Machine
end

