-- ==== Sys2Proof/Machine/Kill.lean ====
section
/-!
DEFINITION. Ending a context: what a kill releases and reports (11 R225, 15 R254, R255), and withdrawing exports
(07 R165).
-/

namespace Sys2Proof.Machine

/-- The address of the leaf entry that translates an address, from a level's table. -/
def State.leafAddrFrom (s : State) (va : Nat) (fuel level table : Nat) : Option Nat :=
  match fuel with
  | 0 => none
  | fuel + 1 =>
    let at_ := table + 16 * (va / 2 ^ levelShift level % levelEntries level)
    let w0 := s.num at_ 8
    if fld w0 0 1 = 0 then none
    else if fld w0 1 1 = 1 then some at_
    else s.leafAddrFrom va fuel (level + 1) (w0 / 2 ^ 7 % 2 ^ 45 * 2 ^ 7)

/-- TLB entries that a test accepts leave every TLB of a die. -/
def State.tlbRemove (s : State) (die : Nat) (p : Leaf → Bool) : State :=
  let s := s.setDie die { s.die die with tlb := (s.die die).tlb.filter fun l => !p l }
  (mkeys (s.cores.filter fun e => e.1 / 32 == die)).foldl (fun s ck =>
    s.setCore ck { s.core ck with tlb := (s.core ck).tlb.filter fun l => !p l }) s

/-- R165 step 3: F3 removes a page's mapping from a context and executes `tlbi`. -/
def State.unmap (s : State) (die asid va : Nat) : State :=
  let s := match s.leafAddrFrom va 5 0 (s.ctx (ctxKey die asid)).ptbase.toNat with
    | some at_ => s.homeWrite (placed at_ (leBytes 16 0))
    | none => s
  let s := s.tlbRemove die fun l => l.covers asid va
  let c := s.ctx (ctxKey die asid)
  s.setCtx (ctxKey die asid) { c with imports := mdel c.imports va, importHandles := mdel c.importHandles va }

/-- What a channel has been sent so far. -/
def Causeway.markOf (c : Causeway) (src dst : Nat) : ChannelMark :=
  { src := src, dst := dst, count := c.K src src dst, queued := !(c.queuedAt src dst).isEmpty }

/-- The replicas of a context's imports that lie in some pages. -/
def Ctx.importsOf (c : Ctx) (pages : List (Nat × Nat)) : SMap (List Replica) :=
  c.imports.filter fun i => i.2.any fun r => pages.any fun p => p.1 == r.pa

/-- 24 R431: what an importer has sent to the homes of pages that it is about to lose; accesses at its own die are performed. -/
def State.importMarks (s : State) (die : Nat) (l : SMap (List Replica)) : List ChannelMark :=
  ((distinct (l.flatMap fun i => i.2.map fun r => ownerOf r.pa)).filter fun a => a ≠ die).map fun a => s.cway.markOf die a

/-- R165 step 4: whether a channel has delivered every packet that was sent before the removal. -/
def State.sentDelivered (s : State) (x : ChannelMark) : Bool :=
  let l := fun (m : SMap (List Packet)) => (mget [] m (channelKey x.src x.dst)).isEmpty
  s.gone x.src || s.gone x.dst ||
    (if x.queued then l s.cway.outbox && l s.cway.flying && l s.cway.held else satisfied (s.cway.D x.dst x.src) x.count)

/-- R165 step 4: withdrawals whose channels have delivered what was sent before are done, and the host has its reply (19 R295). -/
def State.withdrawDone (s : State) : State :=
  let done := fun (w : Withdrawal) => w.waits.all fun x => s.sentDelivered x
  (s.withdrawals.filter done).foldl (fun s w => match w.reply with
    | some rec => s.answer rec 0 []
    | none => s) { s with withdrawals := s.withdrawals.filter fun w => !done w }

/-- A removal joins those that are not complete. -/
def State.addRemoval (s : State) (w : Withdrawal) : State := { s with withdrawals := s.withdrawals ++ [w] }

/-- R165, R254: a context's export is withdrawn: every importer of its pages loses the mapping and receives event 0x26
where `tell` is set; the owner then waits for what the importers had sent, those that had given up their mapping before among
them, before the host has its reply. -/
def State.withdraw (s : State) (ck handle : Nat) (tell : Bool) (reply : Option (List Xword)) : State :=
  let c := s.ctx ck
  let pages := mget [] c.handles handle
  let s := s.setCtx ck { c with handles := mdel c.handles handle }
  let importers := s.ctxs.filter fun e => !(e.2.importsOf pages).isEmpty
  let before := (s.withdrawals.filter fun w => w.pages.any fun p => pages.contains p).flatMap fun w => w.waits
  let marks := before ++ importers.flatMap fun e => s.importMarks (e.1 / 2048) (e.2.importsOf pages)
  let s := if marks.isEmpty && reply.isNone then s else s.addRemoval { pages := pages, exported := true, waits := marks, reply := reply }
  importers.foldl (fun s e =>
    let s := (mkeys (e.2.importsOf pages)).foldl (fun s va => s.unmap (e.1 / 2048) (e.1 % 2048) va) s
    if tell then s.ctxEvent (e.1 / 2048) (e.1 % 2048) 0x26 (ck / 2048) (BitVec.ofNat 64 handle) else s) s

/-- A context gives up its exports and its imports: each export is withdrawn (R165), and F3 removes each import's mapping. -/
def State.endSharing (s : State) (ck : Nat) : State :=
  let s := (mkeys (s.ctx ck).handles).foldl (fun s h => s.withdraw ck h false none) s
  let l := (s.ctx ck).imports
  let marks := s.importMarks (ck / 2048) l
  let pages := l.flatMap fun i => i.2.map fun r => (r.pa, pageBytes r.level)
  let s := if marks.isEmpty then s else s.addRemoval { pages := pages, exported := false, waits := marks, reply := none }
  (mkeys l).foldl (fun s va => s.unmap (ck / 2048) (ck % 2048) va) s

/-! ### Collectives that pair (09 R198, 16 R274, 18 R284, R289) -/

/-- The member id of a die of this package (18 R284; log 32). -/
def memberId (die : Nat) : Nat := 16 * Config.packageNumber.toNat + die

/-- The word of a collective, and its tag. -/
def CopyCmd.collWord (c : CopyCmd) : Nat :=
  match c.kind with
  | .collective _ w => w.toNat
  | .linear .. | .tensor .. | .multicast .. | .indexed .. => 0
def CopyCmd.collTag (c : CopyCmd) : Nat := fld c.collWord 16 16

/-- The dies of this package among the members that a collective is bound to, in rank order (18 R284). -/
def CopyCmd.diesHere (c : CopyCmd) : List Nat := (List.range 8).filter fun d => c.chainMembers.contains (memberId d)

/-- The oldest collective of a tag on a die, with its input where it has been read. -/
def State.collHead (s : State) (die tag : Nat) : Option (CopyCmd × Option (List Nat)) :=
  (s.die die).colls.find? fun x => x.1.collTag == tag

/-- What a die has issued for the collective that one of another die stands for: of those of its tag that have got as far, the one
of the same place, where it is bound to the same members or both come first (18 R289). -/
def State.collPair (s : State) (c : CopyCmd) (d : Nat) : Option (CopyCmd × Option (List Nat)) :=
  let queue := fun (d : Nat) => (s.die d).colls.filter fun x => x.1.collTag == c.collTag && (x.1.slice == 2) == (c.slice == 2)
  let n := (queue c.die).findIdx fun x => x.1.id == c.id
  ((queue d)[n]?).filter fun x => x.1.chainMembers == c.chainMembers || n == 0

/-- R289: collectives with those that others are bound to, as far as they have been issued. -/
def State.collSpreads (fuel : Nat) (s : State) (l : List CopyCmd) : List CopyCmd :=
  match fuel with
  | 0 => l
  | fuel + 1 =>
    let found := l.flatMap fun c => (c.diesHere.filter fun d => l.all fun x => x.die ≠ d).filterMap fun d => (s.collPair c d).map Prod.fst
    let more := found.foldl (fun acc x => if acc.any fun y => y.die == x.die then acc else acc ++ [x]) []
    if more.isEmpty then l else State.collSpreads fuel s (l ++ more)

/-- The collectives that have been issued on the dies of this package for the same collective as one. -/
def State.collIssued (s : State) (c : CopyCmd) : List CopyCmd := s.collSpreads 8 [c]

/-- R274: the skew bias of a context whose die arrived more than 2 µs before the latest member. -/
def Ctx.skew (c : Ctx) : Ctx := { c with bias := min 1024 (c.bias + 256) }

/-- R274: at the end of a collective at some members, the earliness of each of these dies; `all` are those that have issued it, and
`late` is the latest arrival outside the package. -/
def State.earlinessOf (s : State) (ends all : List CopyCmd) (late : Nat) : State :=
  let latest := (all.map fun c => c.arrived).foldl max late
  ends.foldl (fun s c =>
    if c.arrived + 2000 < latest then s.setCtx (ctxKey c.die c.asid) (s.ctx (ctxKey c.die c.asid)).skew else s) s

/-- The same at the end of the collective at every member. -/
def State.earliness (s : State) (mates : List CopyCmd) (late : Nat) : State := s.earlinessOf mates mates late

/-- The latest arrival among the members outside the package of a collective that ends early: a free value, where there
are any (log 48). -/
def State.lateOutside (s : State) (c : CopyCmd) : Nat × State :=
  if c.chainMembers.length = c.diesHere.length then (0, s) else s.freeNat

/-- R254, R274: a collective ends at a member that is killed, before its results are written. -/
def State.earlyEnd (s : State) (c : CopyCmd) : State :=
  if c.slice = 2 then s
  else
    let r := s.lateOutside c
    r.2.earlinessOf [c] (s.collIssued c) r.1

/-! ### What a kill releases -/

/-- R196: a queued copy or collective ends with CODE 3; no counter is updated. -/
def State.abandonCopy (s : State) (c : CopyCmd) : State :=
  if memoryExists c.tokenPa 8 then s.homeWrite (placed c.tokenPa (leBytes 8 3)) else s

/-- Whether a warp belongs to a context. -/
def Warp.ofCtx (w : Warp) (die asid : Nat) : Bool := w.die == die && w.asid == asid

/-- The gangs of a context that hold a cluster. -/
def State.gangsOf (s : State) (die asid : Nat) : SMap Gang := s.gangs.filter fun e => e.2.die == die && e.2.asid == asid

/-- The clusters that serve a context. -/
def State.clustersOf (s : State) (die asid : Nat) : List Nat :=
  (List.range (clusterCount die)).filter fun c => (s.cluster (clusterKey die c)).asid == some asid

/-- The cores of a cluster, by key. -/
def coresOfCluster (die c : Nat) : List Nat := (List.range 8).map fun k => coreKey die (8 * c + k)

/-- R124, R206: a core's accumulators and histogram tensors are zeroed and its L1 dropped. -/
def Core.cleared (c : Core) : Core :=
  { c with l1 := [], uo := [], tlb := c.tlb, acc := [], accRows := [], hists := [], fills := [], sched := none, latch := none }

/-- R127: the pins of gangs are released, at whichever home they stand. -/
def State.unpin (s : State) (gangs : List Nat) : State :=
  (mkeys s.dies).foldl (fun s a =>
    let d := s.die a
    s.setDie a { d with
      pins := (d.pins.map fun e => (e.1, e.2.filter fun g => !gangs.contains g)).filter fun e => !e.2.isEmpty }) s

/-- R225, killed: what the context holds on its clusters is released, written back nowhere. -/
def State.releaseAll (s : State) (die asid : Nat) : State :=
  let gs := mkeys (s.gangsOf die asid)
  let cls := s.clustersOf die asid
  let s := s.dropCtxMonitors die asid
  let copies := cls.flatMap fun c => (s.cluster (clusterKey die c)).cq.filter fun q => q.asid == asid
  let colls := (s.die die).colls.filter fun q => q.1.asid == asid
  let s := (colls.map Prod.fst).foldl State.earlyEnd s
  let s := (copies ++ colls.map Prod.fst).foldl (fun s c => s.abandonCopy c) s
  let s := s.unpin gs
  let d := s.die die
  let s := s.setDie die { d with colls := d.colls.filter fun q => q.1.asid ≠ asid,
                                 walks := d.walks.filter fun w => w.asid ≠ asid }
  let s := cls.foldl (fun s c =>
    let s := (coresOfCluster die c).foldl (fun s k => let s := s.emptyMatrix k asid; s.setCore k (s.core k).cleared) s
    let s := s.emptyCopies die c asid
    s.setCluster (clusterKey die c) { s.cluster (clusterKey die c) with asid := none, idleSince := s.now }) s
  { s with warps := s.warps.filter fun e => !e.2.ofCtx die asid,
           gangs := s.gangs.filter fun e => !(e.2.die == die && e.2.asid == asid),
           lmem := s.lmem.filter fun e => !gs.contains (e.1 / 2 ^ 24) }

/-- R225, R254: the launches taken as head launch and not ended end with ABANDONED; each gang not yet retired has its
abandoned bit set, and its done bit after that. -/
def State.abandonLaunches (s : State) (die asid : Nat) (resident : List (Nat × Nat)) : State :=
  (s.launches.filter fun e => e.2.die == die && e.2.asid == asid && e.2.isOpen).foldl (fun s e =>
    let l := e.2
    let left := (List.range l.gangs).filter fun g => decide (l.nextGang ≤ g) || resident.contains (e.1, g)
    s.endLaunch e.1 4 (left.flatMap (fun g => l.bitWrite g true) ++ left.flatMap (fun g => l.bitWrite g false))) s

/-- What a kill reports beside its reason (R255). -/
structure KillInfo where
  first : Nat
  second : Nat
  warp : Nat
  pc : Xword
  info : Xword
  loc : Xword
deriving DecidableEq, Repr

/-- A kill that no trap caused. -/
def KillInfo.none : KillInfo := { first := 0, second := 0, warp := 0, pc := 0, info := 0, loc := 0 }

/-- R254: F4 kills a context on a die. Its own imports are left to unbinding; what it had put on a channel, or what waited at a
port, is delivered all the same: of the writes that the front end had made and that wait there, too (log 76). -/
def State.kill (s : State) (die asid reason : Nat) (k : KillInfo) : State :=
  let ck := ctxKey die asid
  if (s.ctx ck).killed then s
  else
    let c := s.ctx ck
    let gangs := s.gangsOf die asid ++ c.savedGangs
    let resident := gangs.map fun e => (e.2.launch, e.2.index)
    let s := s.releaseAll die asid
    let s := s.setCtx ck
      { s.ctx ck with killed := true, savedWarps := [], savedGangs := [], savedLocal := [], savedScheds := [], leaving := [], stage := .running }
    let s := (mkeys (s.queues.filter fun e => e.1 / 256 == die && e.2.asid == asid)).foldl (fun s qk =>
      s.setQueue qk { s.queue qk with enable := false }) s
    let s := s.abandonLaunches die asid resident
    let s := s.tlbRemove die fun l => l.asid == asid
    let s := (mkeys (s.ctx ck).handles).foldl (fun s h => s.withdraw ck h true none) s
    let w0 := 0x13 + 2 ^ 8 * reason + 2 ^ 16 * k.first + 2 ^ 24 * k.second + 2 ^ 32 * die + 2 ^ 36 * asid + 2 ^ 47 * k.warp
    s.hostEvent [BitVec.ofNat 64 w0, k.pc, k.info, k.loc]

/-- The WARP field of a kill record (R255). -/
def Warp.killField (w : Warp) : Nat := w.core * 2 ^ 12 + w.partition * 2 ^ 7 + w.slot * 2 ^ 3

end Sys2Proof.Machine
end

