-- ==== Sys2Proof/Machine/Ops.lean ====
section
/-!
DEFINITION. The named operations that every meaning is built from: taking an exception (15 R244 to R249), the return
from one, the restart of 09 R208, the checks of 03 R80, and what completing an instruction does to its warp (01 R18,
R22 to R31).
-/

namespace Sys2Proof.Machine

/-! ### Exceptions -/

/-- R245: the warp in its handler: group `lanes` runs there, every other lane is suspended. -/
def Warp.enter (w : Warp) (lanes : LaneSet) (vec pc : Xword) (cause : Nat) (info : Xword) : Warp :=
  let w := w.onLanes (firstLanes 64) fun l => if l.stat = .exited then l else { l with suspended := true }
  let w := w.onLanes lanes fun l => { l with suspended := false, pc := vec }
  { w with trappc := pc, trapcause := BitVec.ofNat 64 cause, trapinfo := info, priv := true, tlanes := lanes,
           stop := .running, entered := some { cause := cause, pc := pc, info := info } }

/-- R245: taking an exception: group `lanes` of warp k raises a cause. In supervisor mode, or without a trap vector, the
context is killed (R254, R255). -/
def State.takeTrap (s : State) (k : Nat) (lanes : LaneSet) (pc : Xword) (cause : Nat) (info : Xword) : State :=
  match s.warp k with
  | none => s
  | some w =>
    let vec := (s.ctx w.ctxK).trapvec
    if w.priv then
      let e := w.entered.getD { cause := 0, pc := 0, info := 0 }
      s.kill w.die w.asid 2
        { first := e.cause, second := cause, warp := w.killField, pc := e.pc, info := e.info, loc := 0 }
    else if vec = 0 then
      s.kill w.die w.asid 1 { first := cause, second := 0, warp := w.killField, pc := pc, info := info, loc := 0 }
    else s.setWarp k (w.enter lanes vec pc cause info)

/-- 09 R208: the warp restarts at its label. -/
def Warp.restartAt (w : Warp) : Warp :=
  let label := w.restart &&& 0x01FFFFFFFFFFFFFC
  let w := w.onLanes (firstLanes 64) fun l =>
    if l.stat = .exited then l else { l with pc := label, stat := .candidate, suspended := false, age := 0 }
  { w with restart := label ||| 1, loops := [], masks := [],
           rep := RepState.idle, matrix := 0, stop := .running, latch := none, supLatch := none,
           bsync := none, pendingRestart := false, priv := false, tlanes := 0, entered := none, armed := none,
           supArmed := none }

/-- R245: whether a cause comes from the matrix engine (R207), which is held while the warp is in supervisor mode. -/
def AsyncCause.ofEngine (a : AsyncCause) : Bool := a.info.getLsbD 59

/-- The cause that a warp takes before its next issue. -/
def Warp.asyncDue (w : Warp) : Option AsyncCause := w.async.find? fun a => !(w.priv && a.ofEngine)

/-- Whether the lanes of a handler go back to the instruction that its trap found, so that one which had stopped there goes on
where it was (11 R211, R219). -/
def Warp.goesBack (w : Warp) : Bool := w.tlanes &&& w.live != 0 && w.entered.any fun e => e.pc == w.trappc

/-- R249: the return from an exception. An instruction in progress whose lanes do not come back to it is left: a `bsync` has no
phase to wait past, and a `waitc` no value. -/
def Warp.eret (w : Warp) : Warp :=
  if w.restart &&& 0x01FFFFFFFFFFFFFC ≠ 0 ∧ w.pendingRestart then w.restartAt
  else
    let u := (w.onLanes w.tlanes fun l => if l.stat = .exited then l else { l with pc := w.trappc }).toUser
    if w.goesBack then u else { u with bsync := none, latch := none }

/-- R24, R246: a warp that can never move again traps with JOIN kind 2. -/
def State.checkDeadlock (s : State) (k : Nat) : State :=
  match s.warp k with
  | none => s
  | some w =>
    match w.deadlock with
    | none => s
    | some (j, lanes) =>
      let m := w.mask j
      let w := (w.setMask j { m with arrived := m.arrived &&& ~~~lanes }).onLanes lanes fun l =>
        { l with stat := .candidate, pc := m.pc }
      (s.setWarp k w).takeTrap k lanes m.pc 0x09 (BitVec.ofNat 64 (j.toNat + 2 * 2 ^ 3))

/-! ### What a meaning answers -/

/-- What executing an instruction comes to. -/
inductive Effect where
  /-- It completes; its lanes go on after it. -/
  | done (s : State)
  /-- It completes and has set the lanes' PCs and statuses itself. -/
  | moved (s : State)
  /-- It raises a cause; with `next` TRAPPC is the instruction after it (15 R247). -/
  | trap (s : State) (cause : Nat) (info : Xword) (next : Bool)
  /-- It raises a cause without completing, and TRAPPC is the word after it (03 R59). -/
  | trapPast (s : State) (cause : Nat) (info : Xword)
  /-- The warp stops; the instruction issues again (01 R14). -/
  | stop (s : State) (why : Stop)
  | fault (f : Fault)

/-- R29 to R31: one repeat is done; after the last the lanes go on after the target. -/
def Warp.repeatDone (w : Warp) (c : Cur) : Warp :=
  if w.rep.done < w.rep.cnt then { w with rep := { w.rep with done := w.rep.done + 1 } }
  else ({ w with rep := RepState.idle } : Warp).finishAt c.lanes c.trapPc c.nextPc

/-- What completing an instruction does to its warp: lanes move on, ages count in user mode (R18, R248), loop ends are
tested (R26). -/
def Warp.complete (w : Warp) (c : Cur) (moved : Bool) (issue : Nat) : Warp :=
  let w := { w with lastIssue := issue, bsync := if c.priv then w.bsync else none }
  let w :=
    if moved then (if w.rep.busy || c.priv then w else w.waitAtEnd c.lanes c.pc c.nextPc)
    else if c.inRep then w.repeatDone c
    else w.finishAt c.lanes c.pc c.nextPc
  if c.priv then w
  else loopTest 5 (if c.inRep then w else w.ageBy c.lanes c.cands)

/-- The instruction in `c` completes. -/
def State.complete (s : State) (c : Cur) (moved : Bool) : State :=
  let n := s.issues + 1
  let s := { s with cur := none, issues := n }
  (s.onWarp c.warp fun w => w.complete c moved n).checkDeadlock c.warp

/-- What an issue that ends in a trap does to its warp before the trap is taken: ages count it (R18), and lanes that have
completed the instruction go on after it (15 R247), or wait there (R26). -/
def Warp.trapped (w : Warp) (c : Cur) (done : Bool) (issue : Nat) : Warp :=
  let w := { w with lastIssue := issue }
  if c.priv then w
  else
    let w := if c.inRep then w else w.ageBy c.lanes c.cands
    if done then w.finishAt c.lanes c.pc c.nextPc else w

/-- A trap that an issue ends in, with TRAPPC `pc`. -/
def State.trapAt (s : State) (c : Cur) (next : Bool) (pc : Xword) (cause : Nat) (info : Xword) : State :=
  let s := { s with cur := none, issues := s.issues + 1 }
  (s.onWarp c.warp fun w => w.trapped c next s.issues).takeTrap c.warp c.lanes pc cause info

/-- Carrying out what a meaning answers. An issue that only stops its warp ages no lane (log 15), and counts as the warp's last
issue (log 13). -/
def State.settle (c : Cur) (e : Effect) : Host.Outcome State Fault Refusal :=
  match e with
  | .done s => .next (s.complete c false)
  | .moved s => .next (s.complete c true)
  | .trap s cause info next => .next (s.trapAt c next (if next then c.nextPc else c.trapPc) cause info)
  | .trapPast s cause info => .next (s.trapAt c false c.nextPc cause info)
  | .stop s why =>
    let s := { s with cur := none, issues := s.issues + 1 }
    .next (s.onWarp c.warp fun w => { w with lastIssue := s.issues, stop := why })
  | .fault f => .fault f

/-- A warp meets a replayable miss: the page is recorded, or waits for a free record (05 R134). -/
def State.missStop (s : State) (w : Warp) (va : Nat) : Effect :=
  let r := s.recordFault w.die w.asid (faultPage va)
  .stop r.1 (.fault va r.2)

/-! ### The checks of R80, steps 3 and 5 -/

/-- What an instruction needs. -/
structure Needs where
  /-- Allowed in supervisor mode (15 R248). -/
  sup : Bool
  /-- Privileged (03 R80 step 3). -/
  privileged : Bool
  /-- The window names it uses, in the order d, a, b. -/
  names : List Nat
  /-- Makes an access, which waits for the acquires of its lanes (06 R149). -/
  access : Bool := false
  /-- Issues an engine command of the kinds given as the bits of a fence's mask (03 R75), which waits for the acquires of its
  lanes that name the kind (06 R149, R151). -/
  engine : BitVec 4 := 0
  /-- Takes a place in the load counter (22 R379). -/
  counted : Bool := false

/-- Allowed in both modes, using the names listed. -/
def uses (names : List Nat) : Needs := { sup := true, privileged := false, names := names }

/-- Not allowed in supervisor mode (15 R248). -/
def userOnly (names : List Nat) : Needs := { sup := false, privileged := false, names := names }

/-- R80 steps 3 and 5: the cause and detail of the first check that fails; of several names at or above A it is the first in the
order d, a, b that TRAPINFO holds (02 R38; log 16). -/
def Needs.check (n : Needs) (w : Warp) : Option (Nat × Xword) :=
  if w.priv && !n.sup then some (0x01, 0)
  else if !w.priv && n.privileged then some (0x03, 0)
  else match n.names.find? fun k => decide (w.alloc ≤ w.allocated k) with
    | some k => some (0x10, BitVec.ofNat 64 k)
    | none => none

/-! ### Outstanding loads (22 R378, R379) -/

/-- A PEER detail: kind and agent (07 R179). -/
def peerInfo (kind agent : Nat) : Xword := BitVec.ofNat 64 (2 ^ 60 * kind + agent)

/-- A warp stopped on the scoreboard or on engine commands looks again. -/
def Warp.stir (w : Warp) : Warp :=
  match w.stop with
  | .scoreboard | .engine => w.wake
  | .running | .waitn .. | .monitor .. | .barrier _ | .fault .. | .bucket _ => w

/-- R439: the outstanding loads whose data has come, and those whose reply will not come (07 R179). -/
def Warp.loadsHere (w : Warp) : List LoadOp := w.loads.filter fun l => l.waiting.isEmpty && l.lost.isNone
def Warp.loadsLost (w : Warp) : List LoadOp := w.loads.filter fun l => l.lost.isSome

/-- R439: whether every counter is at or below its threshold once the data that has come is in its registers. -/
def Warp.countersMet (w : Warp) (ld st cp mx : Nat) : Bool :=
  decide (w.loads.length - ld ≤ w.loadsHere.length) && decide (w.stores.length ≤ st) && decide (w.copies ≤ cp) &&
  decide (w.matrix ≤ mx)

/-- R439, R207: whether a warp stopped in `waitn` goes on: its thresholds are met, or its load threshold is held up by a
reply that will not come. It then completes the `waitn` before anything else, a cause that it is owed included. -/
def Warp.waitnOpen (w : Warp) : Bool :=
  match w.stop with
  | .waitn ld st cp mx => decide (ld < w.loadsLost.length) || w.countersMet ld st cp mx
  | .running | .scoreboard | .engine | .monitor .. | .barrier _ | .fault .. | .bucket _ => false

/-- The warps of a context on a die that are stopped on a counter, a queue or other warps' accesses look again. -/
def State.stirCtx (s : State) (die asid : Nat) : State :=
  { s with warps := mmap (fun w => if w.ofCtx die asid then w.stir else w) s.warps }

/-- The registers of an outstanding load are written and it leaves the load counter. -/
def Warp.land (w : Warp) (l : LoadOp) : Warp :=
  { w with vregs := l.ready.foldl (fun m r => mset 0 m (64 * r.reg + r.lane) r.value) w.vregs,
           loads := w.loads.filter fun x => x.id ≠ l.id }

/-- R378, R149: an outstanding load whose data has come is written to its registers; an acquire at gang scope or wider
then takes hold: pending sets are pulled (log 12), and the core's L1 is dropped. -/
def State.landLoad (s : State) (k : Nat) (l : LoadOp) : State :=
  match s.warp k with
  | none => s
  | some w =>
    let s := s.setWarp k (w.land l).stir
    match l.acquire with
    | none | some (_, .wg) => s
    | some _ => s.pullAll.acquireCore w.coreK

/-- The loads that an instruction waits for: those that write a register it names, those whose acquire its lanes await,
and the oldest when the load counter is full. -/
def Needs.awaits (n : Needs) (w : Warp) (lanes : LaneSet) : List LoadOp :=
  w.loads.filter (fun l =>
    (n.names.any fun k => l.dests.contains (w.allocated k)) ||
    ((n.access || l.kinds &&& n.engine != 0) && match l.acquire with
      | some (a, _) => a &&& lanes != 0
      | none => false)) ++
  (if n.counted && decide (31 ≤ w.loads.length) then w.loads.take 1 else [])

/-- R379, R246: an instruction that waits for loads. Those that have come are written, as a step of its own; a reply that
will not come is PEER kind 2; else the warp stops. -/
def State.awaitLoads (s : State) (c : Cur) (l : List LoadOp) : Host.Outcome State Fault Refusal :=
  match l.find? fun x => x.lost.isSome with
  | some x =>
    let s := s.onWarp c.warp fun w => { w with loads := w.loads.filter fun y => y.id ≠ x.id }
    State.settle c (.trap s 0x0C (peerInfo 2 (x.lost.getD 0)) false)
  | none =>
    if l.all fun x => x.waiting.isEmpty then
      .next (l.foldl (fun s x => s.landLoad c.warp x) { s with cur := none })
    else State.settle c (.stop s .scoreboard)

/-- An instruction of the issuing warp: its checks, the loads it waits for, then its effect. -/
def State.run (s : State) (n : Needs) (body : Cur → Warp → Effect) : Host.Outcome State Fault Refusal :=
  match s.cur with
  | none => .fault .noIssue
  | some c =>
    match s.warp c.warp with
    | none => .fault .noIssue
    | some w =>
      match n.check w with
      | some (cause, info) => State.settle c (.trap s cause info false)
      | none =>
        match n.awaits w c.lanes with
        | [] => State.settle c (body c w)
        | l :: ls => s.awaitLoads c (l :: ls)

/-! ### Shapes of register instructions -/

/-- Each executing lane writes register d with a function of its index; the sources are read first (20 R304). -/
def Warp.vecMap (w : Warp) (lanes : LaneSet) (d : VReg) (f : Nat → Word) : Warp :=
  w.setVs d.toNat ((lanesOf lanes).map fun i => (i, f i))

/-- A vector instruction: lane i of the group writes register d. -/
def State.vec (s : State) (names : List Nat) (d : VReg) (f : Warp → Nat → Word) : Host.Outcome State Fault Refusal :=
  s.run (uses names) fun c w => .done (s.setWarp c.warp (w.vecMap c.lanes d (f w)))

/-- A binary member of the vector-integer majors. -/
def State.vecBin (s : State) (d a : VReg) (b : VOp) (f : Word → Word → Word) : Host.Outcome State Fault Refusal :=
  s.vec ([d.toNat, a.toNat] ++ vopNames b) d fun w i => f (w.v a.toNat i) (w.vop i b)

/-- A unary vector member. -/
def State.vecUn (s : State) (d a : VReg) (f : Word → Word) : Host.Outcome State Fault Refusal :=
  s.vec [d.toNat, a.toNat] d fun w i => f (w.v a.toNat i)

/-- A member with d, a and b vector registers, d read too. -/
def State.vecTri (s : State) (d a b : VReg) (f : Word → Word → Word → Word) : Host.Outcome State Fault Refusal :=
  s.vec [d.toNat, a.toNat, b.toNat] d fun w i => f (w.v d.toNat i) (w.v a.toNat i) (w.v b.toNat i)

/-- A scalar instruction: register d is written with a function of the warp. -/
def State.scal (s : State) (d : SReg) (f : Warp → Xword) : Host.Outcome State Fault Refusal :=
  s.run (uses []) fun c w => .done (s.setWarp c.warp (w.setS d (f w)))

/-- A binary scalar member. -/
def State.scalBin (s : State) (d a : SReg) (b : SOp) (f : Xword → Xword → Xword) : Host.Outcome State Fault Refusal :=
  s.scal d fun w => f (w.s a) (w.sop b)

/-- The lanes of the group for which a test holds. -/
def groupSet (lanes : LaneSet) (f : Nat → Bool) : LaneSet := laneSet fun i => lanes.getLsbD i && f i

/-- A predicate written in the executing lanes from a test of each (02 R37). -/
def State.predMap (s : State) (n : Needs) (p : PReg) (f : Warp → Nat → Bool) : Host.Outcome State Fault Refusal :=
  s.run n fun c w => .done (s.setWarp c.warp (w.setP p c.lanes (groupSet c.lanes (f w))))

end Sys2Proof.Machine
end

