-- ==== Sys2Proof/Machine/Convert.lean ====
section
/-!
DEFINITION. The conversions, majors 0x15 to 0x17 (21 R339, R340; 23 R400, R401; 24 R434, R435).
-/

namespace Sys2Proof.Machine

/-- The bit at which element k of a packed register starts, and its width (R400, R434). -/
def packPos (t : Ty) (k : Nat) : Nat :=
  match t with
  | .e2m1 => 4 * ((k % 2) * 4 + k / 2)
  | .e3m2 | .e2m3 => 6 * k
  | .e4m3 | .e5m2 | .i8 | .n8 => 8 * k
  | _ => 16 * k

def packBits (t : Ty) : Nat :=
  match t with
  | .e2m1 => 4
  | .e3m2 | .e2m3 => 6
  | .e4m3 | .e5m2 | .i8 | .n8 => 8
  | _ => 16

/-- Values converted one after another by lane i, with its draws in order (04 R102). -/
def Warp.convertAll (w : Warp) (i : Nat) (dst src : Ty) (xs : List Word) : List Word × Warp :=
  let md := cvtField w.cvtmode dst
  xs.foldl (fun r x =>
    let t := if takesDraw dst src md then r.2.draw i else (0, r.2)
    (r.1 ++ [convert dst src md t.1.toNat x.toNat], t.2)) ([], w)

/-- The register that holds packed elements. -/
def packWord (t : Ty) (xs : List Word) : Word :=
  BitVec.ofNat 32 (xs.zipIdx.map fun e => e.1.toNat % 2 ^ packBits t * 2 ^ packPos t e.2).sum

/-- Lane by lane, a result from values that the lane converts. -/
def Warp.convertLanes (w : Warp) (lanes : LaneSet) (dst src : Ty) (read : Nat → List Word) (make : List Word → Word) :
    List (Nat × Word) × Warp :=
  (lanesOf lanes).foldl (fun r i =>
    let q := r.2.convertAll i dst src (read i)
    (r.1 ++ [(i, make q.1)], q.2)) ([], w)

/-- CVT: R339, R340. -/
def execCvt (dst src : Ty) (d a : VReg) (s : State) : Host.Outcome State Fault Refusal :=
  s.run (uses [d.toNat, a.toNat]) fun c w =>
    let r := w.convertLanes c.lanes dst src (fun i => [w.v a.toNat i]) (fun xs => xs.headD 0)
    .done (s.setWarp c.warp (r.2.setVs d.toNat r.1))

/-- PACK: R400, R401. -/
def execPack (dst src : Ty) (d a : VReg) (s : State) : Host.Outcome State Fault Refusal :=
  let n := packCount dst
  s.run (uses (d.toNat :: groupNames a n)) fun c w =>
    let r := w.convertLanes c.lanes dst src (fun i => (List.range n).map fun k => w.v (a.toNat + k) i) (packWord dst)
    .done (s.setWarp c.warp (r.2.setVs d.toNat r.1))

/-- Element k of a packed register, exactly (R434, R435). -/
def unpackElem (dst src : Ty) (x : Word) (k : Nat) : Word :=
  convert dst src nearestMode 0 (x.toNat / 2 ^ packPos src k % 2 ^ packBits src)

/-- UNPACK: R434, R435. -/
def execUnpack (dst src : Ty) (d a : VReg) (s : State) : Host.Outcome State Fault Refusal :=
  let n := packCount src
  s.run (uses (groupNames d n ++ [a.toNat])) fun c w =>
    .done (s.setWarp c.warp ((List.range n).foldl (fun w' k =>
      w'.setVs (d.toNat + k) ((lanesOf c.lanes).map fun i => (i, unpackElem dst src (w.v a.toNat i) k))) w))

end Sys2Proof.Machine
end

