-- ==== Sys2Proof/Machine/IntOps.lean ====
section
/-!
DEFINITION. The results of the integer members (21 R305 to R320, 22 R342 to R385, 23 R388 to R415, 24 R420 to R441), once
for every width: the vector majors use 32 bits, the scalar majors 64.
-/

namespace Sys2Proof.Machine

variable {n : Nat}

/-- `mulhi.i` (R395). -/
def mulhiSigned (a b : BitVec n) : BitVec n := BitVec.ofInt n (a.toInt * b.toInt / 2 ^ n)
/-- `mulhi.n`. -/
def mulhiUnsigned (a b : BitVec n) : BitVec n := BitVec.ofNat n (a.toNat * b.toNat / 2 ^ n)
/-- `mad` (R383). -/
def madd (d a b : BitVec n) : BitVec n := a * b + d
/-- `min.i`, `min.n`, `max.i`, `max.n` (R388, R385). -/
def minSigned (a b : BitVec n) : BitVec n := if a.slt b then a else b
def minUnsigned (a b : BitVec n) : BitVec n := if a.ult b then a else b
def maxSigned (a b : BitVec n) : BitVec n := if b.slt a then a else b
def maxUnsigned (a b : BitVec n) : BitVec n := if b.ult a then a else b
/-- `shl`, `shr`, `sra`: a count of the width or more shifts everything out (R420). -/
def shiftLeft (a b : BitVec n) : BitVec n := if b.toNat < n then a <<< b.toNat else 0
def shiftRight (a b : BitVec n) : BitVec n := if b.toNat < n then a >>> b.toNat else 0
def shiftArith (a b : BitVec n) : BitVec n := a.sshiftRight (min b.toNat n)
/-- `andn` (R309). -/
def andNot (a b : BitVec n) : BitVec n := a &&& ~~~b
/-- `rol` (R415). -/
def rotate (a b : BitVec n) : BitVec n := a.rotateLeft (b.toNat % n)
/-- `absd.i`, `absd.n` (R306). -/
def distSigned (a b : BitVec n) : BitVec n := BitVec.ofNat n (a.toInt - b.toInt).natAbs
def distUnsigned (a b : BitVec n) : BitVec n := BitVec.ofNat n ((a.toNat : Int) - b.toNat).natAbs
/-- `clz` (R329). -/
def leadingZeros (a : BitVec n) : BitVec n := BitVec.ofNat n (((List.range n).find? fun k => a.getMsbD k).getD n)
/-- `popc` (R406). -/
def bitCount (a : BitVec n) : BitVec n := BitVec.ofNat n ((List.range n).filter fun k => a.getLsbD k).length
/-- `brev` (R320). -/
def bitReverse (a : BitVec n) : BitVec n := a.reverse

/-- Position and length of a field (R317). -/
def fieldPos (b : BitVec n) : Nat := b.toNat % 64
def fieldLen (b : BitVec n) : Nat := min (b.toNat / 256 % 64) n

/-- `bfi` (R317). -/
def fieldInsert (d a b : BitVec n) : BitVec n :=
  let mask : BitVec n := BitVec.ofNat n ((2 ^ fieldLen b - 1) * 2 ^ fieldPos b)
  (d &&& ~~~mask) ||| ((a <<< fieldPos b) &&& mask)
/-- `bfx.n` (R318). -/
def fieldUnsigned (a b : BitVec n) : BitVec n := (a >>> fieldPos b) &&& BitVec.ofNat n (2 ^ fieldLen b - 1)
/-- `bfx.i` (R318). -/
def fieldSigned (a b : BitVec n) : BitVec n :=
  if fieldLen b = 0 then 0
  else ((a.sshiftRight (fieldPos b)) <<< (n - fieldLen b)).sshiftRight (n - fieldLen b)

/-- `div.i` (R342): truncated toward zero; by zero every bit is set; the overflow gives A. -/
def divSigned (a b : BitVec n) : BitVec n := if b = 0 then BitVec.allOnes n else BitVec.ofInt n (a.toInt.tdiv b.toInt)
/-- `div.n`. -/
def divUnsigned (a b : BitVec n) : BitVec n := if b = 0 then BitVec.allOnes n else BitVec.ofNat n (a.toNat / b.toNat)
/-- `rem.i` (R412): the sign of the dividend; by zero it is A. -/
def remSigned (a b : BitVec n) : BitVec n := if b = 0 then a else BitVec.ofInt n (a.toInt.tmod b.toInt)
/-- `rem.n`. -/
def remUnsigned (a b : BitVec n) : BitVec n := if b = 0 then a else BitVec.ofNat n (a.toNat % b.toNat)

end Sys2Proof.Machine
end

