-- ==== Sys2Proof/Machine/CrossLane.lean ====
section
/-!
DEFINITION. The cross-lane instructions, major 0x18 (01 R32, R33): every one reads its sources as they stand at the issue
and writes participants only.
-/

namespace Sys2Proof.Machine

/-- The members of `reduce` and `scan` combine participants' values in increasing lane index (R411, R416). -/
def reduceBy (f : Word → Word → Word) : List Word → Word
  | [] => 0
  | x :: xs => xs.foldl f x

/-- The running combinations (R416). -/
def scanBy (f : Word → Word → Word) (acc : Word) : List Word → List Word
  | [] => []
  | x :: xs => f acc x :: scanBy f (f acc x) xs

/-- Inclusive scan of a list. -/
def scanAll (f : Word → Word → Word) : List Word → List Word
  | [] => []
  | x :: xs => x :: scanBy f x xs

/-- The f32 steps of `reduce` and `scan`. -/
def stepAddF32 (x y : Word) : Word := onF32 (fun _ a b => fAdd .f32 a b) 0 x y
def stepMinF32 (x y : Word) : Word := onF32 (fun _ a b => fPick .f32 false a b) 0 x y
def stepMaxF32 (x y : Word) : Word := onF32 (fun _ a b => fPick .f32 true a b) 0 x y

/-- Participants' values of a register, in increasing lane index. -/
def Warp.values (w : Warp) (lanes : LaneSet) (a : VReg) : List Word := (lanesOf lanes).map fun i => w.v a.toNat i

/-- A reduction: every participant receives the same result. -/
def State.reduceLanes (s : State) (d a : VReg) (f : Word → Word → Word) : Host.Outcome State Fault Refusal :=
  s.run (uses [d.toNat, a.toNat]) fun c w =>
    .done (s.setWarp c.warp (w.vecMap c.lanes d fun _ => reduceBy f (w.values c.lanes a)))

/-- A scan. -/
def State.scanLanes (s : State) (d a : VReg) (f : Word → Word → Word) : Host.Outcome State Fault Refusal :=
  s.run (uses [d.toNat, a.toNat]) fun c w =>
    .done (s.setWarp c.warp (w.setVs d.toNat ((lanesOf c.lanes).zip (scanAll f (w.values c.lanes a)))))

/-- SHFL: R419. -/
def execShfl (d a b : VReg) (s : State) : Host.Outcome State Fault Refusal :=
  s.vec [d.toNat, a.toNat, b.toNat] d fun w i => w.v a.toNat ((w.v b.toNat i).toNat % w.width)

/-- BCAST: R315. -/
def execBcast (d a : VReg) (lane : BitVec 6) (s : State) : Host.Outcome State Fault Refusal :=
  s.vec [d.toNat, a.toNat] d fun w _ => w.v a.toNat (lane.toNat % w.width)

/-- SLUP: R423; a lane whose source lies outside the warp keeps its register. -/
def execSlup (d a : VReg) (k : BitVec 6) (s : State) : Host.Outcome State Fault Refusal :=
  s.vec [d.toNat, a.toNat] d fun w i => if k.toNat ≤ i then w.v a.toNat (i - k.toNat) else w.v d.toNat i

/-- SLDN: R422. -/
def execSldn (d a : VReg) (k : BitVec 6) (s : State) : Host.Outcome State Fault Refusal :=
  s.vec [d.toNat, a.toNat] d fun w i => if i + k.toNat < w.width then w.v a.toNat (i + k.toNat) else w.v d.toNat i

/-- COMPRESS: R333. -/
def execCompress (d a : VReg) (p : PReg) (s : State) : Host.Outcome State Fault Refusal :=
  s.run (uses [d.toNat, a.toNat]) fun c w =>
    .done (s.setWarp c.warp (w.setVs d.toNat ((lanesOf c.lanes).zip (w.values (c.lanes &&& w.p p) a))))

/-- EXPAND: R347. -/
def execExpand (d a : VReg) (p : PReg) (s : State) : Host.Outcome State Fault Refusal :=
  s.run (uses [d.toNat, a.toNat]) fun c w =>
    .done (s.setWarp c.warp (w.setVs d.toNat ((lanesOf (c.lanes &&& w.p p)).zip (w.values c.lanes a))))

/-- SCAN_ADD_I32: R416. -/
def execScanAddI32 (d a : VReg) (s : State) : Host.Outcome State Fault Refusal := s.scanLanes d a fun x y => x + y
/-- SCAN_ADD_F32: R416. -/
def execScanAddF32 (d a : VReg) (s : State) : Host.Outcome State Fault Refusal := s.scanLanes d a stepAddF32
/-- SCAN_MAX_I32: R416. -/
def execScanMaxI32 (d a : VReg) (s : State) : Host.Outcome State Fault Refusal := s.scanLanes d a maxSigned
/-- SCAN_MIN_I32: R416. -/
def execScanMinI32 (d a : VReg) (s : State) : Host.Outcome State Fault Refusal := s.scanLanes d a minSigned
/-- REDUCE_ADD_I32: R411. -/
def execReduceAddI32 (d a : VReg) (s : State) : Host.Outcome State Fault Refusal := s.reduceLanes d a fun x y => x + y
/-- REDUCE_ADD_F32: R411. -/
def execReduceAddF32 (d a : VReg) (s : State) : Host.Outcome State Fault Refusal := s.reduceLanes d a stepAddF32
/-- REDUCE_MIN_I32: R411. -/
def execReduceMinI32 (d a : VReg) (s : State) : Host.Outcome State Fault Refusal := s.reduceLanes d a minSigned
/-- REDUCE_MAX_I32: R411. -/
def execReduceMaxI32 (d a : VReg) (s : State) : Host.Outcome State Fault Refusal := s.reduceLanes d a maxSigned
/-- REDUCE_MIN_F32: R411. -/
def execReduceMinF32 (d a : VReg) (s : State) : Host.Outcome State Fault Refusal := s.reduceLanes d a stepMinF32
/-- REDUCE_MAX_F32: R411. -/
def execReduceMaxF32 (d a : VReg) (s : State) : Host.Outcome State Fault Refusal := s.reduceLanes d a stepMaxF32

/-- Participants that hold lane i's value. -/
def Warp.sameAs (w : Warp) (lanes : LaneSet) (a : VReg) (i : Nat) : List Nat :=
  (lanesOf lanes).filter fun j => w.v a.toNat j == w.v a.toNat i

/-- MATCH_RANK: R228, the participants below with the same value. -/
def execMatchRank (d a : VReg) (s : State) : Host.Outcome State Fault Refusal :=
  s.run (uses [d.toNat, a.toNat]) fun c w => .done (s.setWarp c.warp (w.vecMap c.lanes d fun i =>
    BitVec.ofNat 32 ((w.sameAs c.lanes a i).filter fun j => decide (j < i)).length))

/-- MATCH_CNT: R228, all participants with the same value. -/
def execMatchCnt (d a : VReg) (s : State) : Host.Outcome State Fault Refusal :=
  s.run (uses [d.toNat, a.toNat]) fun c w => .done (s.setWarp c.warp (w.vecMap c.lanes d fun i =>
    BitVec.ofNat 32 (w.sameAs c.lanes a i).length))

/-- MATCH_LEAD: R384. -/
def execMatchLead (p : PReg) (a : VReg) (s : State) : Host.Outcome State Fault Refusal :=
  s.run (uses [a.toNat]) fun c w => .done (s.setWarp c.warp (w.setP p c.lanes (groupSet c.lanes fun i =>
    ((w.sameAs c.lanes a i).filter fun j => decide (j < i)).isEmpty)))

/-- VOTE_ANY: R436. -/
def execVoteAny (d a : PReg) (s : State) : Host.Outcome State Fault Refusal :=
  s.run (uses []) fun c w => .done (s.setWarp c.warp
    (w.setP d c.lanes (if w.p a &&& c.lanes = 0 then 0 else c.lanes)))

/-- VOTE_ALL: R436. -/
def execVoteAll (d a : PReg) (s : State) : Host.Outcome State Fault Refusal :=
  s.run (uses []) fun c w => .done (s.setWarp c.warp
    (w.setP d c.lanes (if w.p a &&& c.lanes = c.lanes then c.lanes else 0)))

/-- VOTE_BALLOT: R436. -/
def execVoteBallot (d : SReg) (a : PReg) (s : State) : Host.Outcome State Fault Refusal :=
  s.run (uses []) fun c w => .done (s.setWarp c.warp (w.setS d (w.p a &&& c.lanes)))

end Sys2Proof.Machine
end

