-- ==== Sys2Proof/Machine/Sfu.lean ====
section
/-!
DEFINITION. The special-function unit (04 R114 to R116): the special inputs of R115, and for every other input the
result that the open constant `Config.sfu` names if it lies within the bound of R114, else the f32 nearest the exact
value. Exact values are computed to some 250 bits in fixed point with 320 fraction bits.
-/

namespace Sys2Proof

/-- The members of the SFU, in the order of their fn values (22 R352). -/
inductive SfuFn where
  | rcp | rsq | sqrt | exp2 | log2 | sin | cos | tanh
deriving DecidableEq, Repr

/-- The fn value of a member. -/
def SfuFn.code : SfuFn → Nat
  | .rcp => 0 | .rsq => 1 | .sqrt => 2 | .exp2 => 3 | .log2 => 4 | .sin => 5 | .cos => 6 | .tanh => 7

/-- floor(pi * 2^320). -/
def piFixed : Int := 0x3243f6a8885a308d313198a2e03707344a4093822299f31d0082efa98ec4e6c89452821e638d01377
/-- floor(ln 2 * 2^320). -/
def ln2Fixed : Int := 0xb17217f7d1cf79abc9e3b39803f2f6af40f343267298b62d8a0d175b8baafa2be7b876206debac98

/-- 1 in fixed point. -/
def fixOne : Int := 2 ^ 320
/-- Product of two fixed-point numbers. -/
def fixMul (a b : Int) : Int := a * b / fixOne
/-- A finite value in fixed point; exact for every f32. -/
def fixOf (neg : Bool) (m : Nat) (e : Int) : Int :=
  let v : Int := if e + 320 ≥ 0 then m * 2 ^ (e + 320).toNat else m / 2 ^ (-(e + 320)).toNat
  if neg then -v else v
/-- A fixed-point number times 2^k as a value. -/
def fixVal (x : Int) (k : Int) : FVal := .ofInt x (k - 320)

/-- sum of t, t*y/(a*(a+1)), ... for `n` terms: the series of sine (a = 2) and cosine (a = 1) with y = -r^2. -/
def trigSeries (n : Nat) (t y a : Int) : Int :=
  match n with
  | 0 => t
  | n + 1 => t + trigSeries n (fixMul t y / (a * (a + 1))) y (a + 2)

/-- sum of t, t*y/a, t*y^2/(a*(a+1)), ...: the exponential series. -/
def expSeries (n : Nat) (t y a : Int) : Int :=
  match n with
  | 0 => t
  | n + 1 => t + expSeries n (fixMul t y / a) y (a + 1)

/-- sum of t/a, t*y/(a+2), ...: the series of atanh with y = z^2. -/
def atanhSeries (n : Nat) (t y a : Int) : Int :=
  match n with
  | 0 => 0
  | n + 1 => t / a + atanhSeries n (fixMul t y) y (a + 2)

/-- The angle reduced to at most pi in magnitude. -/
def reduceAngle (x : Int) : Int :=
  let two := 2 * piFixed
  let r := x.emod two
  if r > piFixed then r - two else r

/-- 2^x for a fixed-point x, as a value. -/
def exp2Val (x : Int) : FVal :=
  let n := x / fixOne
  let f := x - n * fixOne
  fixVal (expSeries 80 fixOne (fixMul f ln2Fixed) 1) n

/-- The exact result of a member at a finite input (-1)^neg * m * 2^e that R115 does not list, to some 250 bits. -/
def sfuExact (fn : SfuFn) (neg : Bool) (m : Nat) (e : Int) : FVal :=
  match fn with
  | .rcp => .fin neg (2 ^ 400 / m) (-400 - e)
  | .rsq =>
    -- 1/sqrt(m 2^e) with e made even
    let m' := if e.emod 2 = 0 then m else 2 * m
    let e' := if e.emod 2 = 0 then e else e - 1
    .fin false (Nat.sqrt (2 ^ 800 / m')) (-400 - e' / 2)
  | .sqrt =>
    let m' := if e.emod 2 = 0 then m else 2 * m
    let e' := if e.emod 2 = 0 then e else e - 1
    let r := Nat.sqrt (m' * 2 ^ 400)
    -- a last bit that records an inexact root keeps the rounding correct
    .fin false (2 * r + (if r * r = m' * 2 ^ 400 then 0 else 1)) (e' / 2 - 201)
  | .exp2 => exp2Val (fixOf neg m e)
  | .log2 =>
    let k := (Nat.log2 m : Int)
    let y := fixOf false m (-k)
    let z := (y - fixOne) * fixOne / (y + fixOne)
    let l := 2 * atanhSeries 110 z (fixMul z z) 1
    fixVal ((k + e) * fixOne + l * fixOne / ln2Fixed) 0
  | .sin =>
    let r := reduceAngle (fixOf neg m e)
    fixVal (trigSeries 50 r (-(fixMul r r)) 2) 0
  | .cos =>
    let r := reduceAngle (fixOf neg m e)
    fixVal (trigSeries 50 fixOne (-(fixMul r r)) 1) 0
  | .tanh =>
    let x := fixOf false m e
    let x := if x > 64 * fixOne then 64 * fixOne else x
    let y := 2 * x
    let n := y / ln2Fixed
    let ex := expSeries 80 fixOne (y - n * ln2Fixed) 1 * 2 ^ n.toNat
    let t := (ex - fixOne) * fixOne / (ex + fixOne)
    fixVal (if neg then -t else t) 0

/-- |y - v| ≤ n * 2^q. -/
def closeTo (y v : FVal) (n : Nat) (q : Int) : Bool :=
  match y.add v.neg with
  | .fin _ m e => (FVal.fin false m e).cmp (.fin false n q) != .gt
  | _ => false

/-- The power of two of one ulp of a value in f32, subnormals included. -/
def ulpExp (v : FVal) : Int :=
  match v with
  | .fin _ m e => if m = 0 then -149 else max ((Nat.log2 m : Int) + e - 23) (-149)
  | _ => -149

/-- Whether the magnitude of a value is at most the largest of f32; `frcp` gives an infinity beyond it (R115). -/
def inF32Range (v : FVal) : Bool :=
  match v with
  | .fin _ m e => (FVal.fin false m e).cmp (.fin false (2 ^ 24 - 1) 104) != .gt
  | _ => false

/-- The bound of R114 on result `y` where the exact value is `v` and the input is m * 2^e. -/
def sfuBound (fn : SfuFn) (m : Nat) (e : Int) (y v : FVal) : Bool :=
  match fn with
  | .rcp => inF32Range v && closeTo y v 1 (ulpExp v)
  | .rsq | .exp2 => closeTo y v 2 (ulpExp v)
  | .sqrt => false
  | .log2 =>
    let x := FVal.fin false m e
    if x.cmp (.fin false 1 (-1)) != .lt && x.cmp (.fin false 1 1) != .gt then closeTo y v 1 (-22)
    else closeTo y v 2 (ulpExp v)
  | .sin | .cos => closeTo y v 1 (-21)
  | .tanh => closeTo y v 2 (ulpExp v) || closeTo y v 1 (-22)

/-- The special inputs of R115. -/
def sfuSpecial (fn : SfuFn) (v : FVal) : Option FVal :=
  match v with
  | .nan => some .nan
  | .inf true => some (match fn with
      | .rcp => .fin true 0 0
      | .exp2 => .fin false 0 0
      | .tanh => .fin true 1 0
      | _ => .nan)
  | .inf false => some (match fn with
      | .rcp | .rsq => .fin false 0 0
      | .sqrt | .exp2 | .log2 => .inf false
      | .sin | .cos => .nan
      | .tanh => .fin false 1 0)
  | .fin neg m _ =>
    if m = 0 then some (match fn with
      | .rcp | .rsq => .inf neg
      | .sqrt | .sin | .tanh => .fin neg 0 0
      | .exp2 | .cos => .fin false 1 0
      | .log2 => .inf true)
    else match fn with
      | .rsq | .sqrt => if neg then some .nan else none
      | .log2 => if neg then some .nan else if v.cmp (.fin false 1 0) == .eq then some (.fin false 0 0) else none
      | .exp2 =>
        if v.cmp (.fin false 128 0) != .lt then some (.inf false)
        else if v.cmp (.fin true 149 0) == .lt then some (.fin false 0 0)
        else none
      | _ => none

/-- F(x) of an SFU member (22 R352). -/
def sfu (fn : SfuFn) (x : Word) : Word :=
  let v := Fmt.f32.value x.toNat
  match sfuSpecial fn v with
  | some r => BitVec.ofNat 32 (Fmt.f32.rne r)
  | none =>
    match v with
    | .fin neg m e =>
      let exact := sfuExact fn neg m e
      let y := Config.sfu fn.code x
      if fn ≠ .sqrt && sfuBound fn m e (Fmt.f32.value y.toNat) exact then y
      else BitVec.ofNat 32 (Fmt.f32.rne exact)
    | _ => BitVec.ofNat 32 Fmt.f32.nanCode

end Sys2Proof
end

