-- ==== Sys2Proof/Machine/FloatArith.lean ====
section
/-!
DEFINITION. The float instructions: majors 0x10 to 0x14 (04 R87 to R89, R114, R115; 22 R348 to R368).
-/

namespace Sys2Proof.Machine

/-- FADD: R350. -/
def execFadd (d a b : VReg) (s : State) : Host.Outcome State Fault Refusal :=
  s.vecTri d a b (onF32 (fun _ a b => fAdd .f32 a b))

/-- FSUB: R368. -/
def execFsub (d a b : VReg) (s : State) : Host.Outcome State Fault Refusal :=
  s.vecTri d a b (onF32 (fun _ a b => fSub .f32 a b))

/-- FMUL: R361. -/
def execFmul (d a b : VReg) (s : State) : Host.Outcome State Fault Refusal :=
  s.vecTri d a b (onF32 (fun _ a b => fMul .f32 a b))

/-- FMA: R358. -/
def execFma (d a b : VReg) (s : State) : Host.Outcome State Fault Refusal :=
  s.vecTri d a b (onF32 (fFma .f32))

/-- FMIN: R360. -/
def execFmin (d a b : VReg) (s : State) : Host.Outcome State Fault Refusal :=
  s.vecTri d a b (onF32 (fun _ a b => fPick .f32 false a b))

/-- FMAX: R359. -/
def execFmax (d a b : VReg) (s : State) : Host.Outcome State Fault Refusal :=
  s.vecTri d a b (onF32 (fun _ a b => fPick .f32 true a b))

/-- FABS: R349. -/
def execFabs (d a : VReg) (s : State) : Host.Outcome State Fault Refusal :=
  s.vecUn d a fun x => onF32 (fun _ a _ => fAbs .f32 a) 0 x 0

/-- FNEG: R362. -/
def execFneg (d a : VReg) (s : State) : Host.Outcome State Fault Refusal :=
  s.vecUn d a fun x => onF32 (fun _ a _ => fNeg .f32 a) 0 x 0

/-- FRND: R364. -/
def execFrnd (dir : RndDir) (d a : VReg) (s : State) : Host.Outcome State Fault Refusal :=
  s.vecUn d a fun x => onF32 (fun _ a _ => fRnd .f32 dir a) 0 x 0

/-- FADD_F16X2: R350. -/
def execFaddF16x2 (d a b : VReg) (s : State) : Host.Outcome State Fault Refusal :=
  s.vecTri d a b (onHalves (fun _ a b => fAdd .f16 a b))

/-- FSUB_F16X2: R368. -/
def execFsubF16x2 (d a b : VReg) (s : State) : Host.Outcome State Fault Refusal :=
  s.vecTri d a b (onHalves (fun _ a b => fSub .f16 a b))

/-- FMUL_F16X2: R361. -/
def execFmulF16x2 (d a b : VReg) (s : State) : Host.Outcome State Fault Refusal :=
  s.vecTri d a b (onHalves (fun _ a b => fMul .f16 a b))

/-- FMA_F16X2: R358. -/
def execFmaF16x2 (d a b : VReg) (s : State) : Host.Outcome State Fault Refusal :=
  s.vecTri d a b (onHalves (fFma .f16))

/-- FMIN_F16X2: R360. -/
def execFminF16x2 (d a b : VReg) (s : State) : Host.Outcome State Fault Refusal :=
  s.vecTri d a b (onHalves (fun _ a b => fPick .f16 false a b))

/-- FMAX_F16X2: R359. -/
def execFmaxF16x2 (d a b : VReg) (s : State) : Host.Outcome State Fault Refusal :=
  s.vecTri d a b (onHalves (fun _ a b => fPick .f16 true a b))

/-- FABS_F16X2: R349. -/
def execFabsF16x2 (d a : VReg) (s : State) : Host.Outcome State Fault Refusal :=
  s.vecUn d a fun x => onHalves (fun _ a _ => fAbs .f16 a) 0 x 0

/-- FNEG_F16X2: R362. -/
def execFnegF16x2 (d a : VReg) (s : State) : Host.Outcome State Fault Refusal :=
  s.vecUn d a fun x => onHalves (fun _ a _ => fNeg .f16 a) 0 x 0

/-- FRND_F16X2: R364. -/
def execFrndF16x2 (dir : RndDir) (d a : VReg) (s : State) : Host.Outcome State Fault Refusal :=
  s.vecUn d a fun x => onHalves (fun _ a _ => fRnd .f16 dir a) 0 x 0

/-- FADD_BF16X2: R350. -/
def execFaddBf16x2 (d a b : VReg) (s : State) : Host.Outcome State Fault Refusal :=
  s.vecTri d a b (onHalves (fun _ a b => fAdd .bf16 a b))

/-- FSUB_BF16X2: R368. -/
def execFsubBf16x2 (d a b : VReg) (s : State) : Host.Outcome State Fault Refusal :=
  s.vecTri d a b (onHalves (fun _ a b => fSub .bf16 a b))

/-- FMUL_BF16X2: R361. -/
def execFmulBf16x2 (d a b : VReg) (s : State) : Host.Outcome State Fault Refusal :=
  s.vecTri d a b (onHalves (fun _ a b => fMul .bf16 a b))

/-- FMA_BF16X2: R358. -/
def execFmaBf16x2 (d a b : VReg) (s : State) : Host.Outcome State Fault Refusal :=
  s.vecTri d a b (onHalves (fFma .bf16))

/-- FMIN_BF16X2: R360. -/
def execFminBf16x2 (d a b : VReg) (s : State) : Host.Outcome State Fault Refusal :=
  s.vecTri d a b (onHalves (fun _ a b => fPick .bf16 false a b))

/-- FMAX_BF16X2: R359. -/
def execFmaxBf16x2 (d a b : VReg) (s : State) : Host.Outcome State Fault Refusal :=
  s.vecTri d a b (onHalves (fun _ a b => fPick .bf16 true a b))

/-- FABS_BF16X2: R349. -/
def execFabsBf16x2 (d a : VReg) (s : State) : Host.Outcome State Fault Refusal :=
  s.vecUn d a fun x => onHalves (fun _ a _ => fAbs .bf16 a) 0 x 0

/-- FNEG_BF16X2: R362. -/
def execFnegBf16x2 (d a : VReg) (s : State) : Host.Outcome State Fault Refusal :=
  s.vecUn d a fun x => onHalves (fun _ a _ => fNeg .bf16 a) 0 x 0

/-- FRND_BF16X2: R364. -/
def execFrndBf16x2 (dir : RndDir) (d a : VReg) (s : State) : Host.Outcome State Fault Refusal :=
  s.vecUn d a fun x => onHalves (fun _ a _ => fRnd .bf16 dir a) 0 x 0

/-- FDOT2_F16: R354. -/
def execFdot2F16 (d a b : VReg) (s : State) : Host.Outcome State Fault Refusal :=
  s.vecTri d a b (fDot2 .f16)

/-- FDOT2_BF16: R354. -/
def execFdot2Bf16 (d a b : VReg) (s : State) : Host.Outcome State Fault Refusal :=
  s.vecTri d a b (fDot2 .bf16)

/-- FCMP: R351. -/
def execFcmp (c : FCmpCond) (p : PReg) (a b : VReg) (s : State) : Host.Outcome State Fault Refusal :=
  s.predMap (uses [a.toNat, b.toNat]) p fun w i => fCompare c (w.v a.toNat i) (w.v b.toNat i)

/-- FRCP: R363. -/
def execFrcp (d a : VReg) (s : State) : Host.Outcome State Fault Refusal :=
  s.vecUn d a (sfu .rcp)

/-- FRSQ: R365. -/
def execFrsq (d a : VReg) (s : State) : Host.Outcome State Fault Refusal :=
  s.vecUn d a (sfu .rsq)

/-- FSQRT: R367. -/
def execFsqrt (d a : VReg) (s : State) : Host.Outcome State Fault Refusal :=
  s.vecUn d a (sfu .sqrt)

/-- FEXP2: R356. -/
def execFexp2 (d a : VReg) (s : State) : Host.Outcome State Fault Refusal :=
  s.vecUn d a (sfu .exp2)

/-- FLOG2: R357. -/
def execFlog2 (d a : VReg) (s : State) : Host.Outcome State Fault Refusal :=
  s.vecUn d a (sfu .log2)

/-- FSIN: R366. -/
def execFsin (d a : VReg) (s : State) : Host.Outcome State Fault Refusal :=
  s.vecUn d a (sfu .sin)

/-- FCOS: R353. -/
def execFcos (d a : VReg) (s : State) : Host.Outcome State Fault Refusal :=
  s.vecUn d a (sfu .cos)

/-- FTANH: R369. -/
def execFtanh (d a : VReg) (s : State) : Host.Outcome State Fault Refusal :=
  s.vecUn d a (sfu .tanh)

end Sys2Proof.Machine
end

