-- ==== Sys2Proof/Machine/Barriers.lean ====
section
/-!
DEFINITION. Barrier objects and the BAR instructions, major 0x21 (11 R210 to R217; 21 R310, R311, R314, R316, R324, R325).
-/

namespace Sys2Proof.Machine

/-- R210: an object at the admission of its gang. -/
def BarObj.start : BarObj :=
  { ready := false, members := 0, expected := 0, arrived := 0, phase := 0, waiters := 0, order := [], stuck := .no }

/-- The set of one slot. -/
def slotBit (n : Nat) : BitVec 256 := BitVec.ofNat 256 (2 ^ n)

/-- The number of slots in a set. -/
def slotCount (s : BitVec 256) : Nat := ((List.range 256).filter fun i => s.getLsbD i).length

/-- Object o of a gang. -/
def State.barObj (s : State) (g o : Nat) : BarObj :=
  match mfind s.gangs g with
  | none => BarObj.start
  | some x => mget BarObj.start x.bars o

/-- A gang with object o replaced. -/
def State.setBarObj (s : State) (g o : Nat) (b : BarObj) : State :=
  { s with gangs := mupd s.gangs g fun x => { x with bars := mset BarObj.start x.bars o b } }

/-- TRAPINFO of R212. -/
def BarObj.info (b : BarObj) (o kind : Nat) : Xword :=
  BitVec.ofNat 64 (o + 2 ^ 4 * kind + 2 ^ 8 * b.expected + 2 ^ 17 * slotCount b.members)

/-- The warps of a gang in a slot, by key. -/
def State.warpsAt (s : State) (g slot : Nat) : List Nat :=
  (s.warps.filter fun e => e.2.gang == g && e.2.gangSlot == slot).map Prod.fst

/-- R211 Complete: when the expected arrivals have come, the phase advances and every warp stopped on the object wakes. -/
def State.barComplete (s : State) (g o : Nat) : State :=
  let b := s.barObj g o
  if b.expected ≠ 0 ∧ slotCount b.arrived = b.expected then
    let s := s.setBarObj g o { b with phase := b.phase + 1, arrived := 0, waiters := 0, order := [], stuck := .no }
    { s with warps := mmap (fun w => if w.gang = g ∧ w.stop = .barrier o then w.wake else w) s.warps }
  else s

/-- R215: whether every live member has arrived and still more arrivals are expected. -/
def BarObj.blocked (b : BarObj) : Bool :=
  b.ready && decide (slotCount b.members < b.expected) && b.members != 0 && b.arrived == b.members

/-- A warp leaves the waiters of an object. -/
def BarObj.unwait (b : BarObj) (slot : Nat) : BarObj :=
  { b with waiters := b.waiters &&& ~~~(slotBit slot), order := b.order.filter fun k => k ≠ slot }

/-- The primary group of a stopped warp takes a trap (R246). -/
def State.trapPrimary (s : State) (k cause : Nat) (info : Xword) : State :=
  match s.warp k with
  | none => s
  | some w =>
    match w.primary with
    | none => s
    | some g => (s.setWarp k { w with bsync := none }).takeTrap k g.2 g.1 cause info

/-- R215: once every live member has arrived in vain, the member that began to wait last traps; without one, the next
member that waits does. -/
def State.barStuck (s : State) (g o : Nat) : State :=
  let b := s.barObj g o
  if b.stuck = .no ∧ b.blocked then
    match b.order.reverse.find? fun k => b.members.getLsbD k with
    | none => s.setBarObj g o { b with stuck := .owed }
    | some slot =>
      let s := s.setBarObj g o { b.unwait slot with stuck := .taken }
      (s.warpsAt g slot).foldl (fun s k => s.trapPrimary k 0x0A (b.info o 0)) s
  else s

/-- R211 Remove. -/
def State.barRemove (s : State) (g o slot : Nat) : State :=
  let b := s.barObj g o
  let b := { b with members := b.members &&& ~~~(slotBit slot), arrived := b.arrived &&& ~~~(slotBit slot),
                    expected := b.expected - 1 }
  if b.members = 0 then s.setBarObj g o { b with ready := false, expected := 0 }
  else ((s.setBarObj g o b).barComplete g o).barStuck g o

/-- R214: a warp that ends leaves every object. -/
def State.barLeave (s : State) (g slot : Nat) : State :=
  (List.range 16).foldl (fun s o =>
    let b := (s.barObj g o).unwait slot
    let s := s.setBarObj g o b
    if b.members.getLsbD slot then s.barRemove g o slot else s) s

/-- R208: a restarted warp is in no waiter bitmap. -/
def State.barUnwait (s : State) (g slot : Nat) : State :=
  (List.range 16).foldl (fun s o => s.setBarObj g o ((s.barObj g o).unwait slot)) s

/-! ### The instructions -/

/-- The warp waits on an object, or takes the trap of R215. -/
def State.barWait (s : State) (k : Nat) (w : Warp) (o : Nat) : Effect :=
  let b := s.barObj w.gang o
  if b.members.getLsbD w.gangSlot && (b.stuck == .owed || (b.stuck == .no && b.blocked)) then
    .trap ((s.setBarObj w.gang o { b with stuck := .taken }).setWarp k { w with bsync := none }) 0x0A (b.info o 0) false
  else
    let b := b.unwait w.gangSlot
    let b := { b with waiters := b.waiters ||| slotBit w.gangSlot, order := b.order ++ [w.gangSlot] }
    .stop ((s.setBarObj w.gang o b).barStuck w.gang o) (.barrier o)

/-- The failing check of an arrival. -/
def BarObj.arriveFault (b : BarObj) (slot : Nat) : Option Nat :=
  if !b.ready then some 3 else if !b.members.getLsbD slot then some 2 else none

/-- R211: the arrival of a warp, a release at gang scope; the phase may complete. -/
def State.barArrive (s : State) (w : Warp) (o : Nat) : State :=
  let s := s.releaseCore w.coreK
  let b := s.barObj w.gang o
  (s.setBarObj w.gang o { b with arrived := b.arrived ||| slotBit w.gangSlot }).barComplete w.gang o

/-- R211: whether an object has gone past a phase. -/
def BarObj.past (b : BarObj) (t : Xword) : Bool :=
  if t.getLsbD 63 then b.phase.getLsbD 0 != t.getLsbD 0
  else
    let x := (b.phase - t.setWidth 32).toNat
    decide (1 ≤ x) && decide (x < 2 ^ 31)

/-- ARRIVE: R311, R211. -/
def execArrive (d : SReg) (o : BitVec 4) (s : State) : Host.Outcome State Fault Refusal :=
  s.run (userOnly []) fun c w =>
    let b := s.barObj w.gang o.toNat
    match b.arriveFault w.gangSlot with
    | some kind => .trap s 0x0A (b.info o.toNat kind) false
    | none =>
      if b.arrived.getLsbD w.gangSlot then s.barWait c.warp w o.toNat
      else
        let s := (s.barArrive w o.toNat).onWarp c.warp fun w => w.setS d (b.phase.setWidth 64)
        .done (s.barStuck w.gang o.toNat)

/-- A wait past phase t: its completion is an acquire at gang scope and writes s[d]. -/
def State.barPast (s : State) (c : Cur) (w : Warp) (d : SReg) (o : Nat) (t : Xword) (x : Xword) : Effect :=
  let b := s.barObj w.gang o
  if b.past t then .done ((s.setWarp c.warp (w.setS d x)).acquireCore w.coreK) else s.barWait c.warp w o

/-- BWAIT: R325, R211. -/
def execBwait (d : SReg) (o : BitVec 4) (a : SReg) (s : State) : Host.Outcome State Fault Refusal :=
  s.run (userOnly []) fun c w =>
    let b := s.barObj w.gang o.toNat
    let t := w.s a
    if a = 0 then .done (s.setWarp c.warp (w.setS d (b.phase.setWidth 64)))
    else if t.toNat / 2 ^ 32 % 2 ^ 31 ≠ 0 then .trap s 0x0A (b.info o.toNat 4) false
    else s.barPast c w d o.toNat t (b.phase.setWidth 64)

/-- BSYNC: R324, R211. -/
def execBsync (d : SReg) (o : BitVec 4) (s : State) : Host.Outcome State Fault Refusal :=
  s.run (userOnly []) fun c w =>
    let b := s.barObj w.gang o.toNat
    match w.bsync with
    | some (_, p) => s.barPast c w d o.toNat (p.setWidth 64) (p.setWidth 64)
    | none =>
      match b.arriveFault w.gangSlot with
      | some kind => .trap s 0x0A (b.info o.toNat kind) false
      | none =>
        if b.arrived.getLsbD w.gangSlot then s.barWait c.warp w o.toNat
        else
          let w := { w with bsync := some (o.toNat, b.phase) }
          ((s.setWarp c.warp w).barArrive w o.toNat).barPast c w d o.toNat (b.phase.setWidth 64) (b.phase.setWidth 64)

/-- BDROP: R316. -/
def execBdrop (o : BitVec 4) (s : State) : Host.Outcome State Fault Refusal :=
  s.run (userOnly []) fun _ w =>
    let b := s.barObj w.gang o.toNat
    if !b.ready then .trap s 0x0A (b.info o.toNat 3) false
    else if b.members.getLsbD w.gangSlot then .done (s.barRemove w.gang o.toNat w.gangSlot)
    else .done s

/-- The slots of the live warps of the workgroups that a mask names. -/
def State.liveSlots (s : State) (g mask : Nat) : BitVec 256 :=
  (s.warps.filter fun e => e.2.gang == g && fld mask e.2.member 1 == 1 && e.2.live != 0).foldl
    (fun acc e => acc ||| slotBit e.2.gangSlot) 0

/-- BARINIT: R314, R211. -/
def execBarinit (o : BitVec 4) (d a : SReg) (s : State) : Host.Outcome State Fault Refusal :=
  s.run (userOnly []) fun _ w =>
    let b := s.barObj w.gang o.toNat
    let mask := (w.s d).toNat
    let wgs := match mfind s.gangs w.gang with
      | some g => g.members
      | none => 0
    let m := s.liveSlots w.gang mask
    let e := if w.s a = 0 then slotCount m else (w.s a).toNat
    if mask = 0 ∨ 2 ^ 8 ≤ mask ∨ 2 ^ wgs ≤ mask ∨ e < slotCount m ∨ 256 < e then .trap s 0x0A (b.info o.toNat 4) false
    else if b.arrived ≠ 0 then .trap s 0x0A (b.info o.toNat 1) false
    else .done (s.setBarObj w.gang o.toNat { b with members := m, expected := e, ready := true, stuck := .no })

end Sys2Proof.Machine
end

