-- ==== Sys2Proof/Machine/Lifecycle.lean ====
section
/-!
DEFINITION. What the end of a warp releases and reports (01 R22, 11 R214, R225, 05 R124, 07 R179, 14 R239), and when a
launch becomes triggered (14 R238).
-/

namespace Sys2Proof.Machine

/-- R238: whether a warp is triggered: every lane that has not exited is, or the warp has ended. -/
def Warp.isTriggered (w : Warp) : Bool := w.lanes.all fun l => l.stat == .exited || l.triggered

/-- Whether a gang belongs to a launch. -/
def State.gangOfLaunch (s : State) (g lid : Nat) : Bool :=
  match mfind s.gangs g with
  | some x => x.launch == lid
  | none => false

/-- The warps of a launch that are not triggered, resident or saved. -/
def State.untriggered (s : State) (lid : Nat) : Bool :=
  (s.warps.any fun e => s.gangOfLaunch e.2.gang lid && !e.2.isTriggered) ||
    (s.ctxs.any fun c => c.2.savedWarps.any fun e =>
      (match mfind c.2.savedGangs e.2.gang with
        | some x => x.launch == lid
        | none => false) && !e.2.isTriggered)

/-- R238: a launch becomes triggered once every gang has been placed and every warp of every gang is triggered. -/
def State.checkTriggered (s : State) (lid : Nat) : State :=
  match mfind s.launches lid with
  | none => s
  | some l =>
    if l.triggered = false ∧ l.stage = .placed ∧ l.nextGang = l.gangs ∧ s.untriggered lid = false then
      (s.setLaunch lid { l with triggered := true }).frontWrites lid l.triggerWrites
    else s

/-- The check of R238 for the launch of a gang. -/
def State.checkGangTriggered (s : State) (g : Nat) : State :=
  match mfind s.gangs g with
  | none => s
  | some x => s.checkTriggered x.launch

/-- R124: the rows that a workgroup's matrix operations wrote are zeroed, whoever else wrote them too. -/
def Core.zeroRows (c : Core) (gang member : Nat) : Core :=
  let gone := (c.accRows.filter fun e => e.2.contains (gang, member)).map Prod.fst
  { c with acc := c.acc.filter fun e => !gone.contains (e.1 / 512),
           accRows := (mmap (fun l => l.filter fun x => x != (gang, member)) c.accRows).filter fun e => !e.2.isEmpty }

/-- Whether every warp of a workgroup has ended. -/
def State.workgroupEnded (s : State) (g member : Nat) : Bool :=
  s.warps.all fun e => !(e.2.gang == g && e.2.member == member && e.2.live != 0)

/-- R225, R239: once the workgroup's last warp has ended, its schedule table is freed, and the rows it wrote are zeroed
when its last matrix command has run. -/
def State.workgroupEnd (s : State) (ck g member : Nat) : State :=
  if s.workgroupEnded g member then
    let c := s.core ck
    let c := match c.sched with
      | some t => if t.gang = g ∧ t.member = member then { c with sched := none } else c
      | none => c
    let busy := c.mq.any fun q => q.gang == g && (match s.warp q.warp with
      | some w => w.member == member
      | none => false)
    s.setCore ck (if busy then c else c.zeroRows g member)
  else s

/-- R179, R207: what a warp is owed when it ends goes to its context as events. -/
def State.reportEnded (s : State) (w : Warp) : State :=
  let s := w.async.foldl (fun s a =>
    if a.cause = 0x0C then s.ctxEvent w.die w.asid 0x25 (a.info.toNat % 16) a.info
    else s.ctxEvent w.die w.asid 0x24 w.die a.info) s
  w.loads.foldl (fun s l => match l.lost with
    | some a => s.ctxEvent w.die w.asid 0x25 a (peerInfo 2 a)
    | none => s) s

/-- The last lane of warp k has ended. -/
def State.warpEnd (s : State) (k : Nat) : State :=
  match s.warp k with
  | none => s
  | some w =>
    let s := s.reportEnded w
    let s := s.setWarp k { w with async := [], loads := w.loads.filter fun l => l.lost.isNone, armed := none, supArmed := none }
    let s := (s.dropMonitors w).barLeave w.gang w.gangSlot
    (s.workgroupEnd w.coreK w.gang w.member).checkGangTriggered w.gang

/-- R249: warp k returns to user mode, at its label where a restart is pending (09 R208). -/
def State.leaveHandler (s : State) (k : Nat) (w : Warp) : State :=
  let w' := w.eret
  let s := s.setWarp k w'
  if w.pendingRestart ∧ w'.pendingRestart = false then (s.dropMonitors w).barUnwait w.gang w.gangSlot else s

/-- R22, R249: lanes of warp k end. With the last lane of its handler the warp returns to user mode as if by `eret`. -/
def State.endLanes (s : State) (k : Nat) (w : Warp) (lanes : LaneSet) : State :=
  let w := w.endLanes lanes
  let s := if w.priv ∧ w.tlanes &&& w.live = 0 then s.leaveHandler k w else s.setWarp k w
  if w.live = 0 then s.warpEnd k else s.checkGangTriggered w.gang

end Sys2Proof.Machine
end

