-- ==== Sys2Proof/Machine/Memory.lean ====
section
/-!
DEFINITION. What the memory instructions share: addresses (03 R70), the checks of all lanes (05 R133, R136), local
memory's checks (R121), packets of demand traffic and their cost (07 R175), releases (06 R150, R151, R162), and writes at
home.
-/

namespace Sys2Proof.Machine

/-! ### Addresses -/

/-- The extension's fields when there is none (03 R69). -/
def extOf (ext : Option MemExt) : MemExt :=
  ext.getD { order := .plain, scope := .wg, inLocal := false, rcount := 0, scale := 0, offset := 0 }

/-- The window names that an address uses. -/
def offsetNames (b : VReg) : List Nat := if b = 127 then [] else [b.toNat]

/-- The factor of SCALE (R70). -/
def scaleOf (x : BitVec 2) (size : Nat) : Nat :=
  match x.toNat with
  | 0 => size
  | 1 => 1
  | 2 => 4
  | _ => 16

/-- R70: the address of lane i. -/
def Warp.addr (w : Warp) (a : SReg) (b : VReg) (e : MemExt) (size i : Nat) : Xword :=
  let idx : Xword := if b = 127 then 0 else (w.v b.toNat i).signExtend 64
  w.s a + idx * BitVec.ofNat 64 (scaleOf e.scale size) + e.offset.signExtend 64

/-- The addresses of the executing lanes, in lane order. -/
def Warp.addrs (w : Warp) (lanes : LaneSet) (a : SReg) (b : VReg) (e : MemExt) (size : Nat) : List (Nat × Xword) :=
  (lanesOf lanes).map fun i => (i, w.addr a b e size i)

/-! ### Checks of an instruction -/

/-- What the checks of an instruction lead to. -/
inductive Checks (α : Type) where
  | go (s : State) (x : α)
  | ends (e : Effect)

/-- R136: a lane whose rank is beyond the elements at its address fails with FMT. -/
def rankChecks (l : List (Nat × Check)) : List (Nat × Check) :=
  let ps := l.filterMap fun e => match e.2 with
    | .ok p => some p
    | .trap .. | .miss _ | .hole _ => none
  l.map fun e => match e.2 with
    | .ok p => if p.leaf.fmt ≠ 0 ∧ (p.element ps).isNone then (e.1, .trap 0x07 (faultInfo 0 p.va)) else e
    | .trap .. | .miss _ | .hole _ => e

/-- R137: the first element's address of a block of a page. -/
def Place.blockVa (p : Place) (b : Nat) : Nat := p.leaf.va + blockLen p.leaf.fmt * b

/-- Whether the page is blocked (05 R130). -/
def Leaf.blocked (l : Leaf) : Bool := decide (3 ≤ l.fmt)

/-- The lanes of a list of places that name block b of the page of place p, with their elements. -/
def blockLanes (ps : List Place) (p : Place) (b : Nat) : List (Nat × Nat) :=
  ps.filterMap fun q =>
    let k := (q.element ps).getD 0
    if q.leaf.va = p.leaf.va ∧ k / 32 = b then some (k % 32, q.lane) else none

/-- R137: whether a block's elements are each named once. -/
def blockWhole (l : List (Nat × Nat)) : Bool :=
  l.length == 32 && (List.range 32).all fun k => l.any fun e => e.1 == k

/-- The blocks that a store touches: a place of each, and its number. -/
def touchedBlocks (ps : List Place) : List (Place × Nat) :=
  (ps.filter fun p => p.leaf.blocked).foldl (fun acc p =>
    let b := (p.element ps).getD 0 / 32
    if acc.any fun e => e.1.leaf.va == p.leaf.va && e.2 == b then acc else acc ++ [(p, b)]) []

/-- R137: the first block that the lanes do not cover: of several, the one at the lowest address (log 81). -/
def brokenBlock (ps : List Place) : Option Nat :=
  let bad := (touchedBlocks ps).filter fun e => !blockWhole (blockLanes ps e.1 e.2)
  bestBy (fun va => 2 ^ 60 - va) (bad.map fun e => e.1.blockVa e.2)

/-- R137: every lane of a store that names a block which the lanes do not cover fails with FMT, and the address of the first
such block. -/
def blockChecks (l : List (Nat × Check)) : List (Nat × Check) :=
  let ps := l.filterMap fun e => match e.2 with
    | .ok p => some p
    | .trap .. | .miss _ | .hole _ => none
  match brokenBlock ps with
  | none => l
  | some va => l.map fun e => match e.2 with
    | .ok p =>
      if p.leaf.blocked && !blockWhole (blockLanes ps p ((p.element ps).getD 0 / 32)) then (e.1, .trap 0x07 (faultInfo 0 va))
      else e
    | .trap .. | .miss _ | .hole _ => e

/-- R133, R179 kind 0: the checks of every lane, and of the agents they name. -/
def State.place (s : State) (w : Warp) (want : Want) (size : Nat) (fmtOk : Bool) (l : List (Nat × Xword)) :
    Checks (List Place) :=
  let r := s.checkLanes w.coreK w.asid want size fmtOk l
  let ranked := rankChecks r.2
  match judge (if want = .store then blockChecks ranked else ranked) with
  | .hole pa => .ends (.fault (.noMemory pa))
  | .trap cause info => .ends (.trap r.1 cause info false)
  | .miss va => .ends (r.1.missStop w va)
  | .places ps =>
    match r.1.departedTarget (ps.flatMap fun p => r.1.targets w.die w.asid want p) with
    | some a => .ends (.trap r.1 0x0C (peerInfo 0 a) false)
    | none => .go r.1 ps

/-- R121, R133: the first lane that fails a check of local memory. -/
def State.localFault (s : State) (w : Warp) (size : Nat) (l : List (Nat × Xword)) : Option (Nat × Xword) :=
  let n := match mfind s.gangs w.gang with
    | some g => g.localBytes
    | none => 0
  l.findSome? fun e =>
    if n ≤ e.2.toNat then some (0x06, faultInfo 2 e.2.toNat)
    else if e.2.toNat % size ≠ 0 then some (0x04, e.2)
    else none

/-! ### Packets of demand traffic -/

/-- What an instruction has done so far: the state, the cost of its packets, the agents it sends to (one entry for each
packet, carriers included), and the packets without their carriers. -/
structure Sent where
  s : State
  cost : Nat
  dsts : List Nat
  count : Nat := 0

/-- One more packet, after its carriers. -/
def Sent.packet (t : Sent) (p : Packet) : Sent :=
  { s := t.s.send p, cost := t.cost + t.s.cway.costNow p.src p.dst p.body,
    dsts := List.replicate (t.s.cway.carriersNow p.src p.dst + 1) p.dst ++ t.dsts, count := t.count + 1 }

/-- The fill of a context's bucket (R175). -/
def Ctx.bucket (c : Ctx) (cls : Nat) : Bucket := mget Bucket.atReset c.buckets cls

/-- A context with a bucket replaced. -/
def Ctx.setBucket (c : Ctx) (cls : Nat) (b : Bucket) : Ctx := { c with buckets := mset Bucket.atReset c.buckets cls b }

/-- R172, R175, R180: whether packets of a total cost may be injected now. A cost above the depth asks for a full
bucket. -/
def State.mayCharge (s : State) (die ctx cls cost : Nat) (dsts : List Nat) : Bool :=
  let b := (s.ctx ctx).bucket cls
  (distinct dsts).all (fun d => s.cway.mayInject die d (dsts.count d)) && s.cway.reseal == .normal &&
    decide (min cost b.depth ≤ b.fill)

/-- R175: the packets of an instruction that began in state `s` are charged, or the warp stops with nothing done. -/
def State.charge (s : State) (w : Warp) (t : Sent) (k : State → Effect) : Effect :=
  if t.dsts.isEmpty then k t.s
  else if s.mayCharge w.die w.ctxK 0 t.cost t.dsts then
    let c := t.s.ctx w.ctxK
    let b := c.bucket 0
    k (t.s.setCtx w.ctxK (c.setBucket 0 { b with fill := b.fill - t.cost }))
  else .stop s (.bucket t.cost)

/-! ### Signals and releases -/

/-- R162: whether an 8-byte slot is a signal of a die: SIGNAL or TRIGSIG of a launch taken and not ended. -/
def State.isSignal (s : State) (die slot : Nat) : Bool :=
  s.launches.any fun e =>
    e.2.die == die && e.2.isOpen && [e.2.signal, e.2.trigsig].any fun va =>
      va != 0 && va % 8 == 0 && (match s.walk die e.2.asid va with
        | .leaf l => l.pa + va % pageBytes l.level == 8 * slot
        | .replay | .absent | .malformed | .hole _ => false)

/-- The cores of a context's clusters that hold dirty or update-only data. -/
def State.dirtyCores (s : State) (die asid : Nat) : List Nat :=
  ((s.clustersOf die asid).flatMap fun c => coresOfCluster die c).filter fun k => (s.core k).holdsDirty

/-- R162: a deferred release records the cores in the pending set of its signal; none when a set beyond 256 is needed. -/
def State.deferAt (s : State) (die asid slot : Nat) : Option State :=
  let d := s.die die
  let cores := s.dirtyCores die asid
  let p := if cores.isEmpty then d.pending else mput d.pending (8 * slot) (distinct (mget [] d.pending (8 * slot) ++ cores))
  if 256 < p.length then none else some (s.setDie die { d with pending := p })

/-- The code of the scope that a write of the lanes releases at: 0 for none or wg; `own` is the instruction's (R151). -/
def Warp.releaseScope (w : Warp) (lanes : LaneSet) (own : Option Scope) : Nat :=
  let f := fun o : Option Scope => match o with
    | some x => scopeCode x
    | none => 0
  ((lanesOf lanes).map fun i => f (w.lane i).relFence).foldl max (f own)

/-- The scope at which a memory extension releases. -/
def releaseOf (e : MemExt) : Option Scope :=
  match e.order with
  | .rel | .acqrel => some e.scope
  | .plain | .acq => none

/-- The scope at which a memory extension acquires. -/
def acquireOf (e : MemExt) : Option Scope :=
  match e.order with
  | .acq | .acqrel => some e.scope
  | .plain | .rel => none

/-- R150, R162, R169: what goes before the writes of an instruction to global memory at physical addresses. An instruction that
releases at pkg scope is deferred on each signal of the issuer's die that it writes, whatever fence went before it, and performed
for every other location; a signal of another die is such a location (log 62). -/
def State.beforeWrites (s : State) (w : Warp) (lanes : LaneSet) (e : MemExt) (pas : List Nat) : State :=
  let s := if pas.any fun pa => ownerOf pa ≠ w.die then s.flushExported w.coreK else s
  if w.releaseScope lanes (releaseOf e) = 0 then s
  else if releaseOf e ≠ some .pkg then s.releaseCore w.coreK
  else
    let slots := distinct (pas.map fun pa => pa / 8)
    let defers := fun k => ownerOf (8 * k) == w.die && s.isSignal w.die k
    let s0 := if slots.all defers then s else s.releaseCore w.coreK
    (slots.filter defers).foldl (fun s k => (s.deferAt w.die w.asid k).getD (s.releaseCore w.coreK)) s0

/-! ### Writes at home and packets of writes -/

/-- A write at the core's own die as one event: an update-only copy the core holds goes first, and the core's own
sectors follow. -/
def State.writeHomeBy (s : State) (ck : Nat) (bypass : Bool) (l : List (Nat × Byte)) : State :=
  let s := (distinct (l.map fun e => lineOf e.1)).foldl (fun s k => s.pushLine ck k) s
  l.foldl (fun s e => s.l1Follow ck e.1 [e.2]) (s.homeWriteBy bypass l)

/-- The same by anything but a copy that does not allocate in the L3. -/
def State.writeHome (s : State) (ck : Nat) (l : List (Nat × Byte)) : State := s.writeHomeBy ck false l

/-- Whether a request fills a sector of an L1. -/
def LoadReq.fillsSector (q : LoadReq) (sector : Nat) : Bool := q.fill.any fun f => f.1 == sector

/-- The warps of a core no longer fill a remote sector from replies on their way. -/
def State.cancelFill (s : State) (ck sector : Nat) : State :=
  let c := s.core ck
  let s := s.setCore ck { c with fills := c.fills.filter fun e => e.2 ≠ sector }
  { s with warps := mmap (fun w => if w.coreK = ck then
      { w with loads := w.loads.map fun l =>
          { l with waiting := l.waiting.map fun q => if q.fillsSector sector then { q with fill := none } else q } }
      else w) s.warps }

/-- A write packet to another agent; the core's own copy of the sectors follows. -/
def Sent.write (t : Sent) (w : Warp) (k op : Nat) (l : List (Nat × Byte)) : Sent :=
  match l with
  | [] => t
  | e :: _ =>
    let s := (distinct (l.map fun e => sectorOf e.1)).foldl (fun s x => s.cancelFill w.coreK x) t.s
    let s := l.foldl (fun s e => s.l1Follow w.coreK e.1 [e.2]) s
    ({ t with s := s } : Sent).packet (mkPacket w.die (ownerOf e.1) 0 w.asid (.write l) (some k) (some op))

/-- The outstanding store of packets just sent joins its warp. -/
def State.addStore (s : State) (k op packets walks : Nat) : State :=
  if packets = 0 ∧ walks = 0 then s
  else s.onWarp k fun w => { w with stores := w.stores ++ [{ id := op, packets := packets, walks := walks }] }

/-- An instruction that takes a place in the store counter; the warp stops while it stands at 31 (24 R439). -/
def Warp.storesFull (w : Warp) : Bool := decide (31 ≤ w.stores.length)

/-- What a memory instruction needs. -/
def memNeeds (names : List Nat) (b : VReg) (counted : Bool) : Needs :=
  { sup := true, privileged := false, names := names ++ offsetNames b, access := true, counted := counted }

end Sys2Proof.Machine
end

