-- ==== Sys2Proof/Machine/Loads.lean ====
section
/-!
DEFINITION. `ld` (22 R377 to R380).
-/

namespace Sys2Proof.Machine

/-- One read: a sector, or blocks with their side pairs, and the lanes it serves (R379, 05 R138). -/
structure ReadUnit where
  parts : List (Nat × Nat)
  /-- The sector, where one is read. -/
  sector : Option Nat
  /-- The sectors in which the elements of its blocks stand. -/
  data : List Nat
  lanes : List LanePart

/-- The page's first byte at the home that `pa` names. -/
def Place.base (p : Place) (pa : Nat) : Nat := pa - (p.pa - p.leaf.pa)

/-- The read that serves a place at a home. -/
def Place.readUnit (p : Place) (ps : List Place) (h : Replica) (part : LanePart) : ReadUnit :=
  if p.leaf.blocked then
    let k := (p.element ps).getD 0
    let block := p.base h.pa + blockLen p.leaf.fmt * (k / 32)
    { parts := blockParts (p.base h.pa) h.side p.leaf.fmt (k / 32), sector := none,
      data := distinct [sectorOf block, sectorOf (block + blockLen p.leaf.fmt - 1)], lanes := [{ part with off := k % 32 }] }
  else
    { parts := [(128 * sectorOf h.pa, 128)], sector := some (sectorOf h.pa), data := [], lanes := [{ part with off := h.pa % 128 }] }

/-- Whether two reads have to be one: they read one sector, or elements of blocks in one. -/
def ReadUnit.meets (x u : ReadUnit) : Bool :=
  x.parts == u.parts || (x.sector.isNone && u.sector.isNone && x.data.any fun k => u.data.contains k)

/-- Where a part stands in the bytes of a read. -/
def ReadUnit.offsetOf (x : ReadUnit) (p : Nat × Nat) : Option Nat :=
  if x.parts.contains p then some ((x.parts.takeWhile fun q => q != p).map Prod.snd).sum else none

/-- Two reads as one. -/
def ReadUnit.joined (x u : ReadUnit) : ReadUnit :=
  let at_ := fun (n : Nat) => u.lanes.map fun l => { l with base := l.base + n }
  match u.parts.head?.bind x.offsetOf with
  | some n => { x with lanes := x.lanes ++ at_ n }
  | none =>
    { x with parts := x.parts ++ u.parts, data := x.data ++ u.data, lanes := x.lanes ++ at_ (x.parts.map Prod.snd).sum }

/-- Reads with one more: lanes that read one sector share its read, in a blocked page too (R379; log 85). -/
def joinUnit (l : List ReadUnit) (u : ReadUnit) : List ReadUnit :=
  match l.filter fun x => x.meets u with
  | [] => l ++ [u]
  | x :: r => (l.filter fun x => !x.meets u) ++ [(r.foldl ReadUnit.joined x).joined u]

/-- The home that a load reads. -/
def State.loadHome (s : State) (w : Warp) (p : Place) : Replica := (s.homesOf w.die w.asid .load p).headD p.own

/-- The reads of an `ld`, and the warp after the draws of its lanes. -/
def State.readUnits (s : State) (w : Warp) (d : VReg) (t : Ty) (ps : List Place) : List ReadUnit × Warp :=
  ps.foldl (fun r p =>
    let q := r.2.lanePart d t p 0
    (joinUnit r.1 (p.readUnit ps (s.loadHome w p) q.1), q.2)) ([], w)

/-- The bytes of a lane's part of a sector. -/
def LanePart.span (p : LanePart) : Nat := if p.fmt = 0 then tyBytes p.ty else 2

/-- Whether the core's L1 holds what every lane of a sector's read takes. -/
def State.unitHeld (s : State) (ck sector : Nat) (l : List LanePart) : Bool :=
  l.all fun p => s.l1Has ck (128 * sector + p.off) p.span

/-- R149: whether every byte that the lanes take is one that the core has written. -/
def State.unitWritten (s : State) (ck sector : Nat) (l : List LanePart) : Bool :=
  l.all fun p => (s.sector ck sector).dirty &&& byteMask p.off p.span == byteMask p.off p.span

/-- The bytes of parts as the core sees them at its own die's home. -/
def State.viewParts (s : State) (ck : Nat) (l : List (Nat × Nat)) : List Byte := l.flatMap fun p => s.view ck p.1 p.2

/-- R149: whether a read goes past the L1: an acquire at gang scope or wider. -/
def readsHome (acq : Option Scope) : Bool :=
  match acq with
  | some .wg | none => false
  | some .gang | some .cluster | some .die | some .pkg => true

/-- The core's copy of a sector, where it has one, takes what stands at home under its written bytes: a raw read after a read of a
block is no older (06 R141). -/
def State.refresh (s : State) (ck k : Nat) : State :=
  match mfind (s.core ck).l1 k with
  | none => s
  | some x => s.setSector ck k (x.merge (s.bytes (128 * k) 128))

/-- A read at the issuing die's home, or in the core's L1: the state and the bytes. An acquire at any scope first pulls the pending
sets of the signals there, wherever it reads (R380, 06 R163). -/
def State.readOwn (s : State) (ck : Nat) (u : ReadUnit) (acq : Option Scope) (rcount : Nat) : State × List Byte :=
  match u.sector with
  | none =>
    let s := u.parts.foldl (fun s p => s.homeReadAll p.1 p.2 rcount acq.isSome) s
    (u.data.foldl (fun s k => s.refresh ck k) s, s.viewParts ck u.parts)
  | some k =>
    let s := s.pushLine ck (k / 4)
    let s := if acq.isSome then s.pullAt (128 * k) 128 else s
    if readsHome acq then
      if s.unitWritten ck k u.lanes then (s, s.l1Bytes ck (128 * k) 128)
      else
        let s := s.homeRead (128 * k) 128 0 true
        (s, s.view ck (128 * k) 128)
    else if s.unitHeld ck k u.lanes then (s, s.l1Bytes ck (128 * k) 128)
    else
      let s := s.homeRead (128 * k) 128 rcount acq.isSome
      let s := s.setSector ck k ((s.sector ck k).merge (s.bytes (128 * k) 128))
      (s, s.l1Bytes ck (128 * k) 128)

/-- What a load has done so far. -/
structure Loading where
  sent : Sent
  ready : List LoadReg
  waiting : List LoadReq

/-- Whether a lane of a list has a plain load of a range outstanding: its later read of it is not to be older (06 R141). -/
def Warp.reads (w : Warp) (range : Nat × Nat) (l : List LanePart) : Bool :=
  w.loads.any fun o => o.waiting.any fun q => (q.spans.any fun r => meets r range) && q.parts.any fun p => l.any fun x => x.lane == p.lane

/-- The core's copies of the sectors of another agent's blocks that are about to be read. -/
def State.dropData (s : State) (ck : Nat) (u : ReadUnit) : State :=
  u.data.foldl (fun s k => (s.cancelFill ck k).setSector ck k Sector.empty) s

/-- One read of an `ld`: at home, in the L1, or as a request to another agent. An acquire of another agent's memory is always read at
its home, which pulls (06 R163), and so is what the lane still waits for from there. -/
def Loading.read (t : Loading) (k : Nat) (w : Warp) (acq : Option Scope) (rcount : Nat) (u : ReadUnit) : Loading :=
  let s := t.sent.s
  let owner := ownerOf ((u.parts.map Prod.fst).headD 0)
  let keep := fun (bytes : List Byte) => t.ready ++ u.lanes.flatMap fun p => p.regs bytes w.cvtmode
  if owner = w.die then
    let r := s.readOwn w.coreK u acq rcount
    { t with sent := { t.sent with s := r.1 }, ready := keep r.2 }
  else
    let inL1 := match u.sector with
      | some x => acq.isNone && s.unitHeld w.coreK x u.lanes && !w.reads (128 * x, 128) u.lanes
      | none => false
    if inL1 then { t with ready := keep (s.l1Bytes w.coreK (128 * u.sector.getD 0) 128) }
    else
      let r := (s.dropData w.coreK u).fresh
      let fill := if readsHome acq then none else u.sector.map fun x => (x, (s.core w.coreK).acquires)
      let p := mkPacket w.die owner 0 w.asid (.readReq u.parts r.1 acq.isSome rcount) (some k) none
      { t with sent := ({ t.sent with s := r.2 } : Sent).packet p,
               waiting := t.waiting ++ [{ req := r.1, agent := owner, fill := fill, parts := u.lanes, spans := u.parts }] }

/-- The allocated registers d to d + n - 1. -/
def Warp.dests (w : Warp) (d : VReg) (n : Nat) : List Nat := (groupNames d n).map w.allocated

/-- The acquire that a load carries. -/
def acquireMark (lanes : LaneSet) (o : Option Scope) : Option (LaneSet × Scope) := o.map fun x => (lanes, x)

/-- A load of global memory. -/
def State.ldGlobal (s : State) (c : Cur) (w : Warp) (t : Ty) (d : VReg) (a : SReg) (b : VReg) (e : MemExt) : Effect :=
  match s.place w .load (tyBytes t) (tyFormatted t) (w.addrs c.lanes a b e (tyBytes t)) with
  | .ends x => x
  | .go s ps =>
    let r := s.readUnits w d t ps
    let id := s.fresh
    let acq := acquireOf e
    let l := r.1.foldl (fun l u => l.read c.warp r.2 acq e.rcount.toNat u)
      ({ sent := { s := id.2, cost := 0, dsts := [] }, ready := [], waiting := [] } : Loading)
    s.charge w l.sent fun s =>
      .done (s.onWarp c.warp fun x => { x with lanes := r.2.lanes, loads := x.loads ++
        [{ id := id.1, dests := w.dests d t.regs, ready := l.ready, waiting := l.waiting, cvtmode := w.cvtmode,
           acquire := acquireMark c.lanes acq, kinds := 0xF, lost := none }] })

/-- An outstanding operation on local memory: its data have come (06 R143). -/
def State.addLocal (s : State) (k : Nat) (dests : List Nat) (ready : List LoadReg) : State :=
  let id := s.fresh
  id.2.onWarp k fun w => { w with loads := w.loads ++
    [{ id := id.1, dests := dests, ready := ready, waiting := [], cvtmode := w.cvtmode, acquire := none, kinds := 0,
       lost := none }] }

/-- Words for consecutive registers of a lane. -/
def regWords (reg lane : Nat) (l : List Word) : List LoadReg :=
  l.zipIdx.map fun e => { reg := reg + e.2, lane := lane, value := e.1 }

/-- A load of the gang's local memory (R121, R122, 06 R143). -/
def State.ldLocal (s : State) (c : Cur) (w : Warp) (t : Ty) (d : VReg) (a : SReg) (b : VReg) (e : MemExt) : Effect :=
  let l := w.addrs c.lanes a b e (tyBytes t)
  match s.localFault w (tyBytes t) l with
  | some (cause, info) => .trap s cause info false
  | none => .done (s.addLocal c.warp (w.dests d t.regs) (l.flatMap fun x =>
      regWords (w.allocated d.toNat) x.1 (loadWords t (s.localBytes w.gang x.2.toNat (tyBytes t)))))

/-- LD: R378. -/
def execLd (t : Ty) (d : VReg) (a : SReg) (b : VReg) (ext : Option MemExt) (s : State) :
    Host.Outcome State Fault Refusal :=
  s.run (memNeeds (groupNames d t.regs) b true) fun c w =>
    if (extOf ext).inLocal then s.ldLocal c w t d a b (extOf ext) else s.ldGlobal c w t d a b (extOf ext)

end Sys2Proof.Machine
end

