-- ==== Sys2Proof/Machine/Stores.lean ====
section
/-!
DEFINITION. `st` (24 R425, R426) with formatted pages (05 R135 to R138).
-/

namespace Sys2Proof.Machine

/-- The value of a register in a float type (R425). -/
def regValue (t : Ty) (x : Word) : FVal :=
  match t.fmt with
  | none => .nan
  | some f => f.value (x.toNat % 2 ^ (if t = .f32 then 32 else 16))

/-- What a store writes as one event: bytes of one sector, or of one block with its side pair, at one home (R425). -/
structure WriteUnit where
  bytes : List (Nat × Byte)
  /-- Held dirty in the L1 unless the store is a release: a raw or 16-bit page of the private window. -/
  held : Bool
  exported : Bool

/-- The bytes that a lane stores to a raw or 16-bit page, and the warp after its draw. -/
def Warp.laneBytes (w : Warp) (t : Ty) (d : VReg) (p : Place) : List Byte × Warp :=
  if p.leaf.fmt = 0 then (storeBytes t ((List.range t.regs).map fun k => w.v (d.toNat + k) p.lane), w)
  else
    let f := (fmtTy p.leaf.fmt).getD .f16
    let md := cvtField w.cvtmode f
    let r := if md.rnd = .stochastic then w.draw p.lane else (0, w)
    (leBytes 2 ((f.fmt.getD .f16).round md r.1.toNat (regValue t (w.v d.toNat p.lane))), r.2)

/-- R107 to R109, R102: the bytes of a block quantised from its lanes, with its side pair, and the warp after the
draws. -/
def Warp.blockBytes (w : Warp) (t : Ty) (d : VReg) (ps : List Place) (p : Place) (b : Nat) :
    List Byte × List Byte × Warp :=
  let l := blockLanes ps p b
  let lane := fun k => ((l.find? fun e => e.1 == k).map Prod.snd).getD 0
  let f := (fmtTy p.leaf.fmt).getD .e4m3
  let draw := fun k (w : Warp) => let r := w.draw (lane k); (r.1.toNat, r.2)
  let q := quantise f (cvtField w.cvtmode f) draw w ((List.range 32).map fun k => regValue t (w.v d.toNat (lane k)))
  (leBytes (blockLen p.leaf.fmt) (packCodes (fmtBits p.leaf.fmt) q.1.codes),
   [BitVec.ofNat 8 q.1.scale, BitVec.ofNat 8 q.1.spare], q.2)

/-- The homes that a store of a place reaches. -/
def State.storeHomes (s : State) (w : Warp) (p : Place) : List Replica := s.homesOf w.die w.asid .store p

/-- A byte that a lane stores: its value, whether the L1 holds it, and whether its page is exported. -/
structure LaneByte where
  value : Byte
  held : Bool
  exported : Bool

/-- The bytes of a store's lanes to raw and 16-bit pages by physical address, in lane order, and the warp after its draws. -/
def State.plainBytes (s : State) (w : Warp) (t : Ty) (d : VReg) (ps : List Place) : List (Nat × LaneByte) × Warp :=
  (ps.filter fun p => !p.leaf.blocked).foldl (fun r p =>
    let q := r.2.laneBytes t d p
    let mark := fun (e : Nat × Byte) =>
      (e.1, ({ value := e.2, held := p.window == .priv, exported := p.leaf.exported } : LaneByte))
    (r.1 ++ (s.storeHomes w p).flatMap fun h => (placed h.pa q.1).map mark, q.2)) ([], w)

/-- The writes of a store's lanes to raw and 16-bit pages, one for each sector of each home, and the warp after. Of several lanes
that write a byte, through whatever window, the highest stands (R425). -/
def State.plainUnits (s : State) (w : Warp) (t : Ty) (d : VReg) (ps : List Place) : List WriteUnit × Warp :=
  let r := s.plainBytes w t d ps
  let last := r.1.foldl (fun m e => mput m e.1 e.2) ([] : SMap LaneByte)
  let units := fun (held : Bool) =>
    let l := last.filter fun e => e.2.held == held
    (distinct (l.map fun e => sectorOf e.1)).map fun k =>
      let g := l.filter fun e => sectorOf e.1 == k
      ({ bytes := g.map fun e => (e.1, e.2.value), held := held, exported := g.any fun e => e.2.held && e.2.exported } : WriteUnit)
  (units true ++ units false, r.2)

/-- The writes of a store's blocks: each block with its side pair at every replica (R138, 07 R177; log 8). -/
def State.blockUnits (s : State) (w : Warp) (t : Ty) (d : VReg) (ps : List Place) : List WriteUnit × Warp :=
  (touchedBlocks ps).foldl (fun r e =>
    let q := r.2.blockBytes t d ps e.1 e.2
    (r.1 ++ (s.storeHomes w e.1).map fun h =>
      { bytes := placed (e.1.base h.pa + blockLen e.1.leaf.fmt * e.2) q.1 ++ placed (h.side + 2 * e.2) q.2.1,
        held := false, exported := false }, q.2.2)) ([], w)

/-- The home of a write. -/
def WriteUnit.home (u : WriteUnit) : Nat := ownerOf ((u.bytes.map Prod.fst).headD 0)

/-- One write of a store, as one event, the 16 bytes of a b128 included (log 64): in the L1, at home, or as a packet. -/
def Sent.writeUnit (t : Sent) (w : Warp) (k op : Nat) (released : Bool) (u : WriteUnit) : Sent :=
  if u.home ≠ w.die then t.write w k op u.bytes
  else if u.held && !released then
    { t with s := t.s.storePlain w.coreK u.bytes u.exported }
  else { t with s := t.s.writeHome w.coreK u.bytes }

/-- A store to global memory. Plain accesses to different locations are unordered (06 R142): those to the private window take
place here in program order, and those to other agents in the order of each channel (log 63). -/
def State.stGlobal (s : State) (c : Cur) (w : Warp) (t : Ty) (d b : VReg) (a : SReg) (e : MemExt) : Effect :=
  match s.place w .store (tyBytes t) (tyFormatted t) (w.addrs c.lanes a b e (tyBytes t)) with
  | .ends x => x
  | .go s ps =>
    let r := s.plainUnits w t d ps
    let q := s.blockUnits r.2 t d ps
    let released := w.releaseScope c.lanes (releaseOf e) ≠ 0
    let us := r.1 ++ q.1
    let id := s.fresh
    let s1 := (id.2.beforeWrites w c.lanes e (us.flatMap fun u => u.bytes.map Prod.fst)).onWarp c.warp fun x => { x with lanes := q.2.lanes }
    let l := us.foldl (fun l u => l.writeUnit w c.warp id.1 released u) ({ s := s1, cost := 0, dsts := [] } : Sent)
    s.charge w l fun s => .done (s.addStore c.warp id.1 l.count 0)

/-- Bytes written to the gang's region in lane order (R121, R122). -/
def State.localWrites (s : State) (g : Nat) (l : List (Nat × List Byte)) : State :=
  l.foldl (fun s e => s.localPoke g e.1 e.2) s

/-- A store to the gang's local memory; where lanes share a byte the highest lane's stands (R122). -/
def State.stLocal (s : State) (c : Cur) (w : Warp) (t : Ty) (d b : VReg) (a : SReg) (e : MemExt) : Effect :=
  let l := w.addrs c.lanes a b e (tyBytes t)
  match s.localFault w (tyBytes t) l with
  | some (cause, info) => .trap s cause info false
  | none => .done (s.localWrites w.gang (l.map fun x =>
      (x.2.toNat, storeBytes t ((List.range t.regs).map fun k => w.v (d.toNat + k) x.1))))

/-- ST: R425. -/
def execSt (t : Ty) (d : VReg) (a : SReg) (b : VReg) (ext : Option MemExt) (s : State) :
    Host.Outcome State Fault Refusal :=
  s.run (memNeeds (groupNames d t.regs) b false) fun c w =>
    if w.storesFull then .stop s .scoreboard
    else if (extOf ext).inLocal then s.stLocal c w t d b a (extOf ext)
    else s.stGlobal c w t d b a (extOf ext)

end Sys2Proof.Machine
end

