-- ==== Sys2Proof/Machine/Atomics.lean ====
section
/-!
DEFINITION. `atom`, `cas` and `red` (21 R312, R313, R327; 23 R409, R410; 11 R221 to R223).
-/

namespace Sys2Proof.Machine

/-- The operand of a lane: one or two registers. -/
def Warp.operand (w : Warp) (wide : Bool) (d i : Nat) : Xword := if wide then w.v64 d i else (w.v d i).setWidth 64

/-- A value as register words. -/
def valueWords (wide : Bool) (x : Xword) : List Word :=
  if wide then [x.setWidth 32, (x >>> 32).setWidth 32] else [x.setWidth 32]

/-- The core's own copies of the lines go home and are dropped before an access at home (R141, R154). -/
def State.dropLines (s : State) (ck : Nat) (pas : List Nat) : State :=
  (distinct (pas.map lineOf)).foldl (fun s k => s.dropLine ck k) s

/-- The core's copies of remote sectors are dropped. -/
def State.dropRemote (s : State) (ck : Nat) (pas : List Nat) : State :=
  (distinct (pas.map sectorOf)).foldl (fun s k => (s.cancelFill ck k).setSector ck k Sector.empty) s

/-- Lane operands in groups of one sector. -/
def operandGroups {α : Type} (l : List (Nat × Nat × α)) : List (List (Nat × Nat × α)) :=
  (distinct (l.map fun e => sectorOf e.2.1)).map fun k => l.filter fun e => sectorOf e.2.1 == k

/-- What an atomic on one group of lanes answers: lane, address and operand of each in lane order. `own` performs it at
the issuing die's home. -/
def Loading.atomic {α : Type} (t : Loading) (k : Nat) (w : Warp) (wide : Bool) (d : VReg)
    (own : State → List (Nat × α) → State × List Xword) (body : List (Nat × α) → Nat → PacketBody)
    (g : List (Nat × Nat × α)) : Loading :=
  let owner := ownerOf ((g.map fun e => e.2.1).headD 0)
  let ops := g.map Prod.snd
  if owner = w.die then
    let r := own t.sent.s ops
    let regs := (g.zip r.2).flatMap fun e => regWords (w.allocated d.toNat) e.1.1 (valueWords wide e.2)
    { t with sent := { t.sent with s := r.1 }, ready := t.ready ++ regs }
  else
    let r := t.sent.s.fresh
    let s := r.2.dropRemote w.coreK (ops.map Prod.fst)
    let p := mkPacket w.die owner 0 w.asid (body ops r.1) (some k) none
    let parts := g.zipIdx.map fun e =>
      ({ lane := e.1.1, reg := w.allocated d.toNat, ty := if wide then .b64 else .b32, off := 8 * e.2, fmt := 0,
         draw := 0 } : LanePart)
    { t with sent := ({ t.sent with s := s } : Sent).packet p,
             waiting := t.waiting ++ [{ req := r.1, agent := owner, fill := none, parts := parts }] }

/-- An `atom` or `cas` on global memory. -/
def State.atomicGlobal {α : Type} (s : State) (c : Cur) (w : Warp) (wide : Bool) (d : VReg) (l : List (Nat × Xword))
    (e : MemExt) (operand : Nat → α) (own : State → List (Nat × α) → State × List Xword)
    (body : List (Nat × α) → Nat → PacketBody) : Effect :=
  match s.place w .atomic (if wide then 8 else 4) false l with
  | .ends x => x
  | .go s ps =>
    let g := ps.map fun p => (p.lane, p.pa, operand p.lane)
    let pas := g.map fun e => e.2.1
    let id := s.fresh
    let s1 := (id.2.beforeWrites w c.lanes e pas).dropLines w.coreK (pas.filter fun pa => ownerOf pa == w.die)
    let s1 := if (acquireOf e).isSome then
      (pas.filter fun pa => ownerOf pa == w.die).foldl (fun s pa => s.pullAt pa (if wide then 8 else 4)) s1 else s1
    let t := (operandGroups g).foldl (fun t g => t.atomic c.warp w wide d own body g)
      ({ sent := { s := s1, cost := 0, dsts := [] }, ready := [], waiting := [] } : Loading)
    s.charge w t.sent fun s =>
      .done (s.onWarp c.warp fun w => { w with loads := w.loads ++
        [{ id := id.1, dests := w.dests d (if wide then 2 else 1), ready := t.ready, waiting := t.waiting,
           cvtmode := w.cvtmode, acquire := acquireMark c.lanes (acquireOf e), kinds := 0xF, lost := none }] })

/-- A read-modify-write of a word of local memory (R122): the state and the old value. -/
def State.localUpdate (s : State) (g o n : Nat) (f : Xword → Xword) : State × Xword :=
  let old : Xword := BitVec.ofNat 64 (leNat (s.localBytes g o n))
  (s.localPoke g o (leBytes n (f old).toNat), old)

/-- Updates of local memory in lane order, each complete before the next (R122): the state and each lane's old value. -/
def State.localUpdates (s : State) (g n : Nat) (l : List (Nat × Xword)) (f : Nat → Xword → Xword) :
    State × List (Nat × Xword) :=
  l.foldl (fun r e =>
    let q := r.1.localUpdate g e.2.toNat n (f e.1)
    (q.1, r.2 ++ [(e.1, q.2)])) (s, [])

/-- An `atom` or `cas` on local memory; the bank passes of R122 are timing (log 56). -/
def State.atomicLocal (s : State) (c : Cur) (w : Warp) (wide : Bool) (d : VReg) (l : List (Nat × Xword))
    (f : Nat → Xword → Xword) : Effect :=
  let n := if wide then 8 else 4
  match s.localFault w n l with
  | some (cause, info) => .trap s cause info false
  | none =>
    let r := s.localUpdates w.gang n l f
    .done (r.1.addLocal c.warp (w.dests d (if wide then 2 else 1))
      (r.2.flatMap fun e => regWords (w.allocated d.toNat) e.1 (valueWords wide e.2)))

/-- ATOM: R312. -/
def execAtom (op : AtomOp) (d : VReg) (a : SReg) (b : VReg) (ext : Option MemExt) (s : State) :
    Host.Outcome State Fault Refusal :=
  s.run (memNeeds (groupNames d op.regs) b true) fun c w =>
    let e := extOf ext
    let l := w.addrs c.lanes a b e (atomBytes op)
    let x := fun i => w.operand op.wide d.toNat i
    if e.inLocal then s.atomicLocal c w op.wide d l fun i old => atomApply op old (x i)
    else s.atomicGlobal c w op.wide d l e x (fun s l => s.homeAtomics op l)
      fun l req => .atomicReq op l (acquireOf e).isSome req

/-- CAS: R327. -/
def execCas (wide : Bool) (d : VReg) (a : SReg) (b : VReg) (ext : Option MemExt) (s : State) :
    Host.Outcome State Fault Refusal :=
  s.run (memNeeds (groupNames d (if wide then 4 else 2)) b true) fun c w =>
    let e := extOf ext
    let l := w.addrs c.lanes a b e (if wide then 8 else 4)
    let cmp := fun i => w.operand wide d.toNat i
    let new := fun i => w.operand wide (d.toNat + if wide then 2 else 1) i
    if e.inLocal then s.atomicLocal c w wide d l fun i old => casApply old (cmp i) (new i)
    else s.atomicGlobal c w wide d l e (fun i => (cmp i, new i)) (fun s l => s.homeCases wide l)
      fun l req => .casReq wide l (acquireOf e).isSome req

/-! ### Reductions -/

/-- Whether an update is combined in the L1 (R158, R160, R223). -/
def State.redHeld (s : State) (op : AtomOp) (released : Bool) (p : Place) : Bool :=
  p.window == .priv && op != .incN32 && !released && !s.monitored p.pa

/-- Updates performed at the home of another agent, as packets: one for each sector. -/
def Sent.reductions (t : Sent) (w : Warp) (k id : Nat) (op : AtomOp) (l : List (Nat × Xword)) : Sent :=
  (distinct (l.map fun e => sectorOf e.1)).foldl (fun t x =>
    let g := l.filter fun e => sectorOf e.1 == x
    let t := { t with s := t.s.dropRemote w.coreK (g.map Prod.fst) }
    t.packet (mkPacket w.die (ownerOf (128 * x)) 0 w.asid (.reduction op g) (some k) (some id))) t

/-- A reduction on global memory. -/
def State.redGlobal (s : State) (c : Cur) (w : Warp) (op : AtomOp) (d : VReg) (l : List (Nat × Xword)) (e : MemExt) :
    Effect :=
  match s.place w .reduce (atomBytes op) false l with
  | .ends x => x
  | .go s ps =>
    let released := w.releaseScope c.lanes (releaseOf e) ≠ 0
    let x := fun i => w.operand op.wide d.toNat i
    let held := ps.filter fun p => s.redHeld op released p
    let homes := (ps.filter fun p => !s.redHeld op released p).flatMap fun p =>
      (s.targets w.die w.asid .reduce p).map fun pa => (pa, x p.lane)
    let own := homes.filter fun e => ownerOf e.1 == w.die
    let id := s.fresh
    let s1 := id.2.beforeWrites w c.lanes e (homes.map Prod.fst)
    let s1 := held.foldl (fun s p => s.reduceHeld w.coreK op p.pa (x p.lane) p.leaf.exported) s1
    let s1 := ((s1.dropLines w.coreK (own.map Prod.fst)).homeAtomics op own).1
    let t := ({ s := s1, cost := 0, dsts := [] } : Sent).reductions w c.warp id.1 op
      (homes.filter fun e => ownerOf e.1 != w.die)
    s.charge w t fun s => .done (s.addStore c.warp id.1 t.count 0)

/-- RED: R409. -/
def execRed (op : AtomOp) (d : VReg) (a : SReg) (b : VReg) (ext : Option MemExt) (s : State) :
    Host.Outcome State Fault Refusal :=
  s.run (memNeeds (groupNames d op.regs) b false) fun c w =>
    let e := extOf ext
    let l := w.addrs c.lanes a b e (atomBytes op)
    if w.storesFull then .stop s .scoreboard
    else if e.inLocal then
      match s.localFault w (atomBytes op) l with
      | some (cause, info) => .trap s cause info false
      | none => .done (s.localUpdates w.gang (atomBytes op) l fun i old => atomApply op old (w.operand op.wide d.toNat i)).1
    else s.redGlobal c w op d l e

end Sys2Proof.Machine
end

