-- ==== Sys2Proof/Machine/CacheOps.lean ====
section
/-!
DEFINITION. The CACHE operations, major 0x1F (05 R127, R128; 21 R328, R341; 22 R374; 23 R407).
-/

namespace Sys2Proof.Machine

/-- R131: a translation that a TLB of the core or the die holds; no walk. -/
def State.tlbHeld (s : State) (ck asid va : Nat) : Option (State × Leaf) :=
  let c := s.core ck
  match c.tlb.find? fun l => l.covers asid va with
  | some l => some (s, l)
  | none =>
    match (s.die (ck / 32)).tlb.find? fun l => l.covers asid va with
    | some l => some (s.setCore ck { c with tlb := tlbFill 128 c.tlb l }, l)
    | none => none

/-- R127: a line pinned for a gang; none when twelve other lines of its set are. -/
def Die.pin (d : Die) (line gang : Nat) : Option Die :=
  match mfind d.pins line with
  | some gs => some { d with pins := mput d.pins line (distinct (gs ++ [gang])) }
  | none =>
    if (d.pins.filter fun e => l2Set e.1 == l2Set line).length < 12 then some { d with pins := mput d.pins line [gang] }
    else none

/-- n dropped lanes (R128): HINTDROP of the context on the die counts them, up to 2^64 - 1 (19 R293). -/
def State.dropHint (s : State) (ctx n : Nat) : State :=
  let c := s.ctx ctx
  s.setCtx ctx { c with hintdrop := BitVec.ofNat 64 (min (2 ^ 64 - 1) (c.hintdrop.toNat + n)) }

/-- `keep` of a line by n lanes at its home: filled and pinned, or dropped. One that acts after its gang has retired, been killed or
been switched out fills the line, and there is no gang to pin it for (R127). -/
def State.keepAt (s : State) (line gang ctx n : Nat) : State :=
  let a := ownerOf (512 * line)
  if mhas s.gangs gang then
    match (s.die a).pin line gang with
    | some d => (s.setDie a d).fillLine a line
    | none => s.dropHint ctx n
  else s.fillLine a line

/-- Whether every byte of a sector is valid. -/
def Sector.full (x : Sector) : Bool := x.valid == BitVec.allOnes 128

/-- `pref` into a core's L1 from its own die: sectors it does not hold whole are filled under its own written bytes. -/
def State.prefOwn (s : State) (ck line : Nat) : State :=
  let s := s.fillLine (ck / 32) line
  if mhas (s.core ck).uo line then s
  else
    let s := s.recall (ck / 32) line
    (List.range 4).foldl (fun s j =>
      let k := 4 * line + j
      if (s.sector ck k).full then s else s.setSector ck k ((s.sector ck k).merge (s.bytes (128 * k) 128))) s

/-- A warp's CACHE operation: the warp by key, its core, gang, context, and t5. -/
structure CacheOp where
  warp : Nat
  ck : Nat
  gang : Nat
  asid : Nat
  op : Nat

/-- The CACHE operation of a warp. -/
def Warp.cacheOp (w : Warp) (k op : Nat) : CacheOp := { warp := k, ck := w.coreK, gang := w.gang, asid := w.asid, op := op }

/-- A prefetch request to another agent for a sector, which the reply fills in the L1 where the core does not hold it whole. -/
def Sent.prefSector (t : Sent) (o : CacheOp) (n k : Nat) : Sent :=
  let r := t.s.fresh
  let c := r.2.core o.ck
  let s := if (t.s.sector o.ck k).full then r.2 else r.2.setCore o.ck { c with fills := mput c.fills r.1 k }
  ({ t with s := s } : Sent).packet (mkPacket (o.ck / 32) (ownerOf (128 * k)) 0 o.asid (.prefetch (128 * k) none n r.1) none none)

/-- Prefetch requests to another agent for the sectors of a line that the core does not hold whole; where it holds all of them,
one, which fills the line at its home. -/
def Sent.prefRemote (t : Sent) (o : CacheOp) (line n : Nat) : Sent :=
  let missing := ((List.range 4).map fun j => 4 * line + j).filter fun k => !(t.s.sector o.ck k).full
  (if missing.isEmpty then [4 * line] else missing).foldl (fun t k => t.prefSector o n k) t

/-- Where an operation on a line acts: the place of an address in it, and its physical address. -/
def State.cachePlace (s : State) (o : CacheOp) (va : Nat) (l : Leaf) : Place × Nat :=
  let p : Place := { lane := 0, va := va, pa := l.pa + va % pageBytes l.level, window := windowOf va, leaf := l }
  (p, (s.targets (o.ck / 32) o.asid .load p).headD p.pa)

/-- R128: an operation on the line that n lanes name, by the leaf that translates its address. -/
def Sent.cacheLane (t : Sent) (o : CacheOp) (va : Nat) (l : Leaf) (n : Nat) : Sent :=
  let die := o.ck / 32
  let r := t.s.cachePlace o va l
  let p := r.1
  let pa := r.2
  let line := lineOf pa
  if !memoryExists pa 1 || (p.window == .multicast && decide (2 ≤ o.op)) || (p.window == .host && o.op == 1) then
    { t with s := t.s.dropHint (ctxKey die o.asid) n }
  else match o.op with
    | 0 => if ownerOf pa = die then { t with s := t.s.prefOwn o.ck line } else t.prefRemote o line n
    | 1 =>
      if ownerOf pa = die then { t with s := t.s.keepAt line o.gang (ctxKey die o.asid) n }
      else t.packet (mkPacket die (ownerOf pa) 0 o.asid (.prefetch pa (some o.gang) n 0) none none)
    | 2 =>
      let s := (List.range 4).foldl (fun (s : State) j => s.cancelFill o.ck (4 * line + j)) t.s
      { t with s := s.dropLine o.ck line }
    | _ => { t with s := t.s.cleanLine o.ck line }

/-- R128: n lanes that name one line at issue: they are dropped or wait for a walk, or their translation is held. -/
def State.cacheIssue (s : State) (o : CacheOp) (storeOp va n : Nat) : State × Option Leaf :=
  let die := o.ck / 32
  if windowOf va = .unused then (s.dropHint (ctxKey die o.asid) n, none)
  else match s.tlbHeld o.ck o.asid va with
    | some (s, l) => (s, some l)
    | none =>
      let d := s.die die
      let k : CacheWalk :=
        { warp := o.warp, core := o.ck, gang := o.gang, asid := o.asid, va := va, op := o.op, storeOp := storeOp, lanes := n }
      (s.setDie die { d with walks := d.walks ++ [k] }, none)

/-- The lines of a list of addresses, as the first address in each with how many lie there. -/
def lineGroups (l : List Nat) : List (Nat × Nat) :=
  (distinct (l.map lineOf)).map fun k =>
    let g := l.filter fun va => lineOf va == k
    (g.headD 0, g.length)

/-- Operations with the lanes of those that act on one line combined. -/
def State.combined (s : State) (o : CacheOp) (l : List (Nat × Leaf × Nat)) : List (Nat × Leaf × Nat) :=
  let line := fun (e : Nat × Leaf × Nat) => lineOf (s.cachePlace o e.1 e.2.1).2
  (distinct (l.map line)).filterMap fun k => match l.filter fun e => line e == k with
    | [] => none
    | e :: r => some (e.1, e.2.1, ((e :: r).map fun e => e.2.2).sum)

/-- A CACHE instruction. `counted` is set for those that the store counter tracks. -/
def State.cacheInstr (s : State) (op : Nat) (counted : Bool) (a : SReg) (b : VReg) (ext : Option MemExt) :
    Host.Outcome State Fault Refusal :=
  s.run (memNeeds [] b false) fun c w =>
    if counted && w.storesFull then .stop s .scoreboard
    else
      let id := s.fresh
      let o := w.cacheOp c.warp op
      let r := (lineGroups ((w.addrs c.lanes a b (extOf ext) 1).map fun e => e.2.toNat)).foldl (fun r e =>
        let q := r.1.cacheIssue o id.1 e.1 e.2
        (q.1, match q.2 with
          | some l => r.2 ++ [(e.1, l, e.2)]
          | none => r.2)) ((id.2, []) : State × List (Nat × Leaf × Nat))
      let t := (r.1.combined o r.2).foldl (fun t e => t.cacheLane o e.1 e.2.1 e.2.2) ({ s := r.1, cost := 0, dsts := [] } : Sent)
      s.charge w t fun s =>
        let walks := ((s.die w.die).walks.filter fun k => k.storeOp == id.1).length
        .done (if counted then s.addStore c.warp id.1 0 walks else s)

/-- PREF: R407, R128. -/
def execPref (a : SReg) (b : VReg) (ext : Option MemExt) (s : State) : Host.Outcome State Fault Refusal :=
  s.cacheInstr 0 false a b ext

/-- KEEP: R374, R127, R128. -/
def execKeep (a : SReg) (b : VReg) (ext : Option MemExt) (s : State) : Host.Outcome State Fault Refusal :=
  s.cacheInstr 1 false a b ext

/-- CINV: R328, R128. -/
def execCinv (a : SReg) (b : VReg) (ext : Option MemExt) (s : State) : Host.Outcome State Fault Refusal :=
  s.cacheInstr 2 true a b ext

/-- CWB: R341, R128. -/
def execCwb (a : SReg) (b : VReg) (ext : Option MemExt) (s : State) : Host.Outcome State Fault Refusal :=
  s.cacheInstr 3 true a b ext

/-- An outstanding store has one part fewer to wait for; with none left it leaves the store counter (06 R157). -/
def StoreOp.isDone (o : StoreOp) : Bool := o.packets == 0 && o.walks == 0

/-- A walk of a store's is done. -/
def Warp.walkDone (w : Warp) (id : Nat) : Warp :=
  { w with stores := w.stores.map fun o => if o.id = id then { o with walks := o.walks - 1 } else o }

/-- CACHE_WALK_DONE: R128. The oldest walk of a die completes, and its operation acts or is dropped. -/
def execCacheWalkDone (die : Nat) (s : State) : Host.Outcome State Fault Refusal :=
  match (s.die die).walks with
  | [] => .next s
  | k :: rest =>
    let d := s.die die
    let s0 := s.setDie die { d with walks := rest }
    let o : CacheOp := { warp := k.warp, ck := k.core, gang := k.gang, asid := k.asid, op := k.op }
    let t : Sent := match s0.translate k.core k.asid k.va with
      | (s, .leaf l) => ({ s := s, cost := 0, dsts := [] } : Sent).cacheLane o k.va l k.lanes
      | (s, .replay) | (s, .absent) | (s, .malformed) | (s, .hole _) =>
        { s := s.dropHint (ctxKey die k.asid) k.lanes, cost := 0, dsts := [] }
    let ctx := ctxKey die k.asid
    let ends := fun (s : State) => (s.onWarp k.warp fun w => w.walkDone k.storeOp).stirCtx die k.asid
    if t.dsts.isEmpty then .next (ends t.s)
    else if s.mayCharge die ctx 0 t.cost t.dsts then
      let c := t.s.ctx ctx
      let b := c.bucket 0
      .next (ends (t.s.setCtx ctx (c.setBucket 0 { b with fill := b.fill - t.cost })))
    else .next (s.setDie die { d with walks := rest ++ [k] })

end Sys2Proof.Machine
end

