-- ==== Sys2Proof/Machine/Waits.lean ====
section
/-!
DEFINITION. `fence`, `waitc` and `waitn` (06 R148, R149, R151, R157, R160; 11 R218, R219; 22 R355; 24 R437 to R439).
-/

namespace Sys2Proof.Machine

/-- A copy of the kind that `coll` queues. -/
def CopyCmd.isColl (c : CopyCmd) : Bool :=
  match c.kind with
  | .collective .. => true
  | .linear .. | .tensor .. | .multicast .. | .indexed .. => false

/-- Commands of warp k that are still queued or running, by the bits of an engine mask (R151, R355): copy, matrix,
collective. Those of the launch path, bit 6 of a fence, are complete when the instruction is (log 54). -/
def State.enginesBusy (s : State) (k : Nat) (w : Warp) (mask : BitVec 4) : Bool :=
  let q := (s.cluster w.clusterK).cq
  (mask.getLsbD 0 && q.any fun c => c.warp == k && !c.isColl) ||
  (mask.getLsbD 1 && (s.core w.coreK).mq.any fun c => c.warp == k) ||
  (mask.getLsbD 2 && ((q.any fun c => c.warp == k && c.isColl) || (s.die w.die).colls.any fun c => c.1.warp == k))

/-- The wider of two scopes. -/
def widerScope (a : Option Scope) (b : Scope) : Scope :=
  match a with
  | none => b
  | some x => if scopeCode b < scopeCode x then x else b

/-- The release side of a fence: each later write of the lanes releases at the scope (R151). -/
def Warp.fenceRel (w : Warp) (lanes : LaneSet) (sc : Scope) : Warp :=
  w.onLanes lanes fun l => { l with relFence := some (widerScope l.relFence sc) }

/-- A load that becomes an acquire of some lanes, which the masked kinds of engine command wait for too (R151). -/
def LoadOp.makeAcquire (l : LoadOp) (lanes : LaneSet) (mask : BitVec 4) (sc : Scope) : LoadOp :=
  match l.acquire with
  | none => { l with acquire := some (lanes, sc), kinds := mask }
  | some (m, x) => { l with acquire := some (m ||| lanes, widerScope (some x) sc), kinds := l.kinds ||| mask }

/-- The acquire side of a fence: it takes hold once the earlier loads have returned (R355); pending sets are then pulled
(log 12). -/
def State.fenceAcq (s : State) (c : Cur) (w : Warp) (mask : BitVec 4) (sc : Scope) : State :=
  if w.loads.isEmpty then (if sc = .wg then s else s.pullAll.acquireCore w.coreK)
  else s.onWarp c.warp fun w => { w with loads := w.loads.map fun l => l.makeAcquire c.lanes mask sc }

/-- FENCE: R151, R355. -/
def execFence (k : FenceKind) (mask : BitVec 4) (sc : Scope) (s : State) : Host.Outcome State Fault Refusal :=
  s.run (uses []) fun c w =>
    let acq := k != .rel
    let rel := k != .acq
    if rel && s.enginesBusy c.warp w mask then .stop s .engine
    else
      let s := if rel then s.setWarp c.warp (w.fenceRel c.lanes sc) else s
      .done (if acq then s.fenceAcq c w mask sc else s)

/-- The arming that stands for the mode a warp is in. -/
def Warp.arming (w : Warp) : Option Monitor := if w.priv then w.supArmed else w.armed

/-- The same, replaced. -/
def Warp.setArming (w : Warp) (o : Option Monitor) : Warp :=
  if w.priv then { w with supArmed := o } else { w with armed := o }

/-- `waitc` completes with a value: an acquire at pkg scope that synchronises with the write which produced the value, so
every pending set is pulled (R160, R163; log 12). -/
def State.waitcDone (s : State) (c : Cur) (w : Warp) (d : SReg) (x : Xword) : Effect :=
  let s := s.onWarp c.warp fun w =>
    ((if w.priv then { w with supLatch := none } else { w with latch := none } : Warp).setArming none).setS d x
  .done (s.pullAll.acquireCore w.coreK)

/-- R160: `waitc` on the issuing die's own memory: what the core has written to the line goes home, and the location is read
there. -/
def State.armOwn (s : State) (c : Cur) (w : Warp) (d : SReg) (m : Monitor) : Effect :=
  let r := (s.cleanLine w.coreK (lineOf m.addr)).armMonitor m
  if r.2.2 then r.1.waitcDone c w d r.2.1
  else
    let armed := (r.1.die w.die).monitors.contains m
    .stop (r.1.onWarp c.warp fun w => w.setArming (if armed then some m else none)) (.monitor m.addr !armed)

/-- R438: `waitc` on another agent's memory asks its home. -/
def State.armRemote (s : State) (c : Cur) (w : Warp) (m : Monitor) : Effect :=
  let t := ({ s := s, cost := 0, dsts := [] } : Sent).packet
    (mkPacket w.die (ownerOf m.addr) 0 w.asid (.waitReq m) (some c.warp) none)
  s.charge w t fun s => .stop (s.onWarp c.warp fun w => w.setArming (some m)) (.monitor m.addr false)

/-- WAITC: R437, R438, R160. A `waitc` that issues again finds the value that its monitor latched, or the monitor still
armed. -/
def execWaitc (cond : WaitCond) (wide : Bool) (d a b : SReg) (s : State) : Host.Outcome State Fault Refusal :=
  s.run { sup := true, privileged := false, names := [], access := true } fun c w =>
    match (if w.priv then w.supLatch else w.latch) with
    | some x => s.waitcDone c w d x
    | none =>
      match s.place w .wait (if wide then 8 else 4) false [((firstLane c.lanes).getD 0, w.s a)] with
      | .ends x => x
      | .go s ps =>
        let pa := match ps with
          | p :: _ => (s.targets w.die w.asid .wait p).headD p.pa
          | [] => 0
        let m : Monitor :=
          { waiter := .warp c.warp, id := s.fresh.1, die := w.die, asid := w.asid, addr := pa, cond := cond, wide := wide,
            value := w.s b }
        if w.arming.any fun o => { o with id := m.id } == m then .stop s (.monitor pa false)
        else
          let s := s.fresh.2.disarm w.arming
          if ownerOf pa = w.die then s.armOwn c w d m else s.armRemote c w m

/-- WAITN: R439, R157. -/
def execWaitn (ld st cp mx : BitVec 5) (s : State) : Host.Outcome State Fault Refusal :=
  s.run (userOnly []) fun c w =>
    if ld.toNat < w.loadsLost.length then
      let x := w.loadsLost.head?.bind fun l => l.lost
      let s := s.onWarp c.warp fun y => { y with loads := y.loads.filter fun l => some l.id ≠ w.loadsLost.head?.map LoadOp.id }
      .trap s 0x0C (peerInfo 2 (x.getD 0)) false
    else if w.countersMet ld.toNat st.toNat cp.toNat mx.toNat then
      .done ((w.loadsHere.take (w.loads.length - ld.toNat)).foldl (fun s l => s.landLoad c.warp l) s)
    else .stop s (.waitn ld.toNat st.toNat cp.toNat mx.toNat)

/-- WAITC_POLL: R218. A polling warp reads its location again: its `waitc` issues again. -/
def execWaitcPoll (k : Nat) (s : State) : Host.Outcome State Fault Refusal :=
  .next (s.onWarp k fun w => match w.stop with
    | .monitor _ true => w.wake
    | .monitor _ false | .running | .barrier _ | .waitn .. | .fault .. | .bucket _ | .scoreboard | .engine => w)

/-- LOAD_RETURN: R379, R378, R149. -/
def execLoadReturn (k id : Nat) (s : State) : Host.Outcome State Fault Refusal :=
  match s.warp k with
  | none => .next s
  | some w =>
    match w.loads.find? fun l => l.id == id && l.waiting.isEmpty && l.lost.isNone with
    | none => .next s
    | some l => .next (s.landLoad k l)

/-- STORE_PERFORMED: R157. -/
def execStorePerformed (k id : Nat) (s : State) : Host.Outcome State Fault Refusal :=
  match s.warp k with
  | none => .next s
  | some w =>
    if w.stores.any fun o => o.id == id && o.isDone then
      .next ((s.setWarp k ({ w with stores := w.stores.filter fun o => o.id ≠ id } : Warp).stir).stirCtx w.die w.asid)
    else .next s

end Sys2Proof.Machine
end

