-- ==== Sys2Proof/Machine/Engines.lean ====
section
/-!
DEFINITION. What the copy, collective and matrix engines share: translating an address and reading and writing memory for
a command (09 R188, R197, R207; 06 R155, R156), PARAM checks (R186), the counters of a warp (R187), the draws of a command
(04 R102) and when an engine gates (16 R264).
-/

namespace Sys2Proof.Machine

/-! ### What a part of a command comes to -/

/-- A part of a command that an engine carries out. -/
inductive Eng (α : Type) where
  | go (s : State) (x : α)
  /-- A replayable miss at an address. -/
  | pause (s : State) (va : Nat)
  /-- A fault that cannot be replayed: cause, detail and address. -/
  | fail (s : State) (cause : Nat) (info : Xword) (va : Nat)
  /-- Bytes of another agent's memory are needed first, for a virtual address: address and length of each part. -/
  | need (s : State) (va : Nat) (parts : List (Nat × Nat))
  /-- An address that no memory holds. -/
  | hole (pa : Nat)

/-- Going on with what a part found. -/
def Eng.bind {α β : Type} (x : Eng α) (f : State → α → Eng β) : Eng β :=
  match x with
  | .go s a => f s a
  | .pause s g => .pause s g
  | .fail s c i va => .fail s c i va
  | .need s va l => .need s va l
  | .hole pa => .hole pa

/-- A part for each member of a list, one after another. -/
def engList {α β : Type} (f : State → α → Eng β) (s : State) (l : List α) : Eng (List β) :=
  match l with
  | [] => .go s []
  | x :: r => (f s x).bind fun s y => (engList f s r).bind fun s ys => .go s (y :: ys)

/-- A command's context and issuing core, the bytes that other agents have sent it, and whether it acquires. -/
structure EngineCtx where
  die : Nat
  ck : Nat
  asid : Nat
  fetched : SMap Byte
  acq : Bool

/-- An address translated for an engine (R133 without alignment), with the owners it names. -/
def State.engineAddr (s : State) (e : EngineCtx) (want : Want) (va : Nat) : Eng Place :=
  match windowOf va with
  | .unused => .fail s 0x05 (faultInfo 2 va) va
  | win =>
    match s.translateDie e.die e.asid va with
    | (s, .replay) => .pause (s.recordFault e.die e.asid (faultPage va)).1 va
    | (s, .absent) => .fail s 0x05 (faultInfo 0 va) va
    | (s, .malformed) => .fail s 0x05 (faultInfo 1 va) va
    | (_, .hole pa) => .hole pa
    | (s, .leaf l) =>
      let p : Place := { lane := 0, va := va, pa := l.pa + va % pageBytes l.level, window := win, leaf := l }
      if !l.canWrite && (want == .store || want == .reduce) then .fail s 0x06 (faultInfo 0 va) va
      else if !memoryExists p.pa 1 then .hole p.pa
      else match s.departedTarget (s.targets e.die e.asid want p) with
        | some a => .fail s 0x0C (peerInfo 0 a) va
        | none => .go s p

/-- A byte that an engine of a die can read now. -/
def State.engineByte (s : State) (e : EngineCtx) (pa : Nat) : Option Byte :=
  if ownerOf pa = e.die then some (s.byte pa) else mfind e.fetched pa

/-- Bytes read by an engine for a virtual address: at its own die's homes, which first recall what the L1s hold update-only
(06 R158), or out of the replies that have come. -/
def State.engineRead (s : State) (e : EngineCtx) (va : Nat) (parts : List (Nat × Nat)) : Eng (List Byte) :=
  let got := fun (s : State) => parts.flatMap fun p => (List.range p.2).map fun k => s.engineByte e (p.1 + k)
  if (got s).all Option.isSome then
    let own := parts.filter fun p => ownerOf p.1 = e.die
    let t := own.foldl (fun s p => s.homeReadAll p.1 p.2 0 e.acq) s
    .go t ((got t).map fun x => x.getD 0)
  else .need s va parts

/-- The home that an engine reads, with the page's side area there. -/
def State.readReplica (s : State) (e : EngineCtx) (p : Place) : Replica := (s.homesOf e.die e.asid .load p).headD p.own
def State.readHome (s : State) (e : EngineCtx) (p : Place) : Nat := (s.readReplica e p).pa

/-- What a command writes as one event: the virtual address, and the bytes. -/
abbrev EngEvent := Nat × List (Nat × Byte)

/-- A write of a command as one event at one home: there, or as a packet of a class that names the command. The issuing
core's own copies follow, so that its warp sees the write after a completion wait (06 R157). -/
def Sent.engineWrite (t : Sent) (e : EngineCtx) (cls op : Nat) (bypass : Bool) (ev : EngEvent) : Sent :=
  let l := ev.2
  match l with
  | [] => t
  | x :: _ =>
    if ownerOf x.1 = e.die then { t with s := t.s.writeHomeBy e.ck bypass l }
    else
      let s := (distinct (l.map fun y => sectorOf y.1)).foldl (fun s k => s.cancelFill e.ck k) t.s
      let s := l.foldl (fun s y => s.l1Follow e.ck y.1 [y.2]) s
      let p := mkPacket e.die (ownerOf x.1) cls e.asid (.write l) none (some op)
      ({ t with s := s } : Sent).packet { p with va := ev.1 }

/-- R175: the packets of a part of a command are charged to its context's bucket; none when that lacks their cost or
nothing may be injected. `s` is the state before the part. -/
def Sent.pay (t : Sent) (s : State) (e : EngineCtx) (cls : Nat) : Option State :=
  if t.dsts.isEmpty then some t.s
  else
    let ck := ctxKey e.die e.asid
    if s.mayCharge e.die ck cls t.cost t.dsts then
      let c := t.s.ctx ck
      let b := c.bucket cls
      some (t.s.setCtx ck (c.setBucket cls { b with fill := b.fill - t.cost }))
    else none

/-- A read request of a command for parts of another agent's memory that have not come yet; the parts of a further agent are asked
for after the reply. -/
def Sent.engineAsk (t : Sent) (e : EngineCtx) (cls op va : Nat) (parts : List (Nat × Nat)) : Asked × Sent :=
  let r := t.s.fresh
  let come := fun (p : Nat × Nat) => (List.range p.2).all fun k => mhas e.fetched (p.1 + k)
  let missing := parts.filter fun p => ownerOf p.1 ≠ e.die && !come p
  let owner := ownerOf ((missing.map Prod.fst).headD 0)
  let far := missing.filter fun p => ownerOf p.1 == owner
  let p := mkPacket e.die owner cls e.asid (.readReq far r.1 e.acq 0) none (some op)
  ({ req := r.1, va := va, parts := far }, ({ t with s := r.2 } : Sent).packet { p with va := va })

/-- The core that issued a command, from its warp's key. -/
def issuerCore (warp : Nat) : Nat := warp / 2 ^ 9

/-- The bytes of a reply by their addresses. -/
def replyBytes (parts : List (Nat × Nat)) (l : List Byte) : List (Nat × Byte) :=
  (parts.flatMap fun p => (List.range p.2).map fun k => p.1 + k).zip l

/-! ### Warps that own commands -/

/-- R157: the copy counter falls. -/
def Warp.copyFall (w : Warp) : Warp := { w with copies := w.copies - 1 }.stir
/-- R157: the matrix counter falls. -/
def Warp.matrixFall (w : Warp) : Warp := { w with matrix := w.matrix - 1 }.stir

/-! ### Draws (04 R102) -/

/-- The state that serves a command's elements gives its next draw. -/
def stepDraw (_ : Nat) (x : Word) : Nat × Word :=
  let y := xsNext x
  (y.toNat, y)

/-- A value rounded to a float type under a command's CVTMODE, with its draw. -/
def roundTo (f : Ty) (cvtmode : Xword) (x : Word) (v : FVal) : Nat × Word :=
  let md := cvtField cvtmode f
  let r := if md.rnd = .stochastic then stepDraw 0 x else (0, x)
  ((f.fmt.getD .f32).round md r.1 v, r.2)

/-- A block quantised under a command's CVTMODE: its bytes, its side pair, and the draw state after. -/
def quantiseBytes (f : Ty) (cvtmode : Xword) (x : Word) (vs : List FVal) : List Byte × List Byte × Word :=
  let q := quantise f (cvtField cvtmode f) stepDraw x vs
  (leBytes f.blockBytes (packCodes f.blockBits q.1.codes), [BitVec.ofNat 8 q.1.scale, BitVec.ofNat 8 q.1.spare], q.2)

/-- The value of element k of a block and its side pair as bytes (04 R95). -/
def blockElem (f : Ty) (block side : List Byte) (k : Nat) : FVal :=
  elemValue f (side.getD 0 0).toNat (side.getD 1 0).toNat (elemOf f.blockBits (leNat block) k)

/-! ### PARAM (09 R186) -/

/-- A condition found at issue: whether it fails, its kind and the offset reported. -/
structure ParamCheck where
  fails : Bool
  kind : Nat
  off : Nat

/-- R331, R371: the lowest failing kind, with the lowest offset among its failing conditions; 256 * kind + offset. -/
def firstParam (l : List ParamCheck) : Option Nat :=
  (l.filter fun c => c.fails).foldl (fun m c =>
    match m with
    | none => some (256 * c.kind + c.off)
    | some x => some (min x (256 * c.kind + c.off))) none

/-- TRAPINFO of a PARAM trap. -/
def paramInfo (x : Nat) : Xword := BitVec.ofNat 64 (x / 256 + 256 * (x % 256))

/-- The bytes of a gang's region (05 R121). -/
def State.regionBytes (s : State) (g : Nat) : Nat :=
  match mfind s.gangs g with
  | some x => x.localBytes
  | none => 0

/-- Whether n bytes of a gang's region lie outside it. -/
def State.outside (s : State) (g off n : Nat) : Bool := decide (s.regionBytes g < off + n)

/-- R185: words of n bytes of a parameter block; none when it is not aligned or not wholly inside the region (kind 1). -/
def State.paramBlock (s : State) (w : Warp) (a : SReg) (n : Nat) : Option (List Nat) :=
  let off := (w.s a).toNat
  if off % 64 ≠ 0 ∨ s.outside w.gang off 64 then none
  else some ((List.range (64 / n)).map fun k => leNat (s.localBytes w.gang (off + n * k) n))

/-- A COPY or MATRIX instruction: it traps with the failing PARAM kind, else it goes on. -/
def State.checked (s : State) (l : List ParamCheck) (k : Unit → Effect) : Effect :=
  match firstParam l with
  | some x => .trap s 0x0B (paramInfo x) false
  | none => k ()

/-- R156: a command that acquires before its first read: the pending sets of signals are pulled (log 12). -/
def State.engineAcquire (s : State) : State := s.pullAll

end Sys2Proof.Machine
end

