-- ==== Sys2Proof/Machine/Layout.lean ====
section
/-!
DEFINITION. Layout records (09 R190), the placement of box elements (R191, R192, R194, R195) and the checks made on a
record at issue (R186, R190; 21 R332, R336 to R338).
-/

namespace Sys2Proof.Machine

/-- Word n of a record. -/
def recWord (r : List Xword) (n : Nat) : Nat := (r.getD n 0).toNat

def recBase (r : List Xword) : Nat := fld (recWord r 0) 0 57
def recType (r : List Xword) : Option Ty := tyOf (fld (recWord r 0) 57 5)
def recCounter (r : List Xword) : Nat := fld (recWord r 1) 0 57
def recMirror (r : List Xword) : Bool := fld (recWord r 1) 57 1 == 1
def recEdgeRep (r : List Xword) : Bool := fld (recWord r 1) 58 1 == 1
def recAcq (r : List Xword) : Bool := fld (recWord r 1) 59 1 == 1
def recRel (r : List Xword) : Bool := fld (recWord r 1) 60 1 == 1
def recScope (r : List Xword) : Nat := fld (recWord r 1) 61 3
def recAdd (r : List Xword) : Word := BitVec.ofNat 32 (recWord r 2)
def recLocal (r : List Xword) : Nat := fld (recWord r 2) 32 24
def recMcast (r : List Xword) : Nat := fld (recWord r 2) 56 8

/-- EXTENTj. -/
def recExtent (r : List Xword) (j : Nat) : Nat := fld (recWord r (3 + j / 2)) (24 * (j % 2)) 24

/-- BOXj. -/
def recBox (r : List Xword) (j : Nat) : Nat :=
  match j with
  | 0 => fld (recWord r 3) 48 16
  | 1 => fld (recWord r 4) 48 16
  | 2 => fld (recWord r 5) 32 16
  | _ => fld (recWord r 5) 48 16

/-- STRIDEj for j from 1 to 3. -/
def recStride (r : List Xword) (j : Nat) : Nat :=
  match j with
  | 1 => fld (recWord r 5) 0 32
  | 2 => fld (recWord r 6) 0 32
  | _ => fld (recWord r 6) 32 32

/-- ORIGINj, signed. -/
def recOrigin (r : List Xword) (j : Nat) : Int := (BitVec.ofNat 16 (fld (recWord r 7) (16 * j) 16)).toInt

/-- Elements of the box. -/
def recCount (r : List Xword) : Nat := recBox r 0 * recBox r 1 * recBox r 2 * recBox r 3

/-- Index i_j of the box element with local index n (R191). -/
def boxIndex (r : List Xword) (n j : Nat) : Nat :=
  match j with
  | 0 => n % recBox r 0
  | 1 => n / recBox r 0 % recBox r 1
  | 2 => n / (recBox r 0 * recBox r 1) % recBox r 2
  | _ => n / (recBox r 0 * recBox r 1 * recBox r 2)

/-- R192: a coordinate in its extent, reflected once where the record mirrors; none when it stays outside. -/
def reflect (mirror edgeRep : Bool) (c : Int) (e : Nat) : Option Nat :=
  let k : Int := if edgeRep then 1 else 0
  let c := if 0 ≤ c ∧ c < e then c else if !mirror then -1 else if c < 0 then -c - k else 2 * e - 2 + k - c
  if 0 ≤ c ∧ c < e then some c.toNat else none

/-- The global coordinate in dimension j of the element with local index n: R192, R195. -/
def elemCoord (r : List Xword) (idx : List Nat) (mirror : Bool) (n j : Nat) : Option Nat :=
  match j, idx with
  | 1, x :: xs =>
    let c := (x :: xs).getD (boxIndex r n 1) 0
    if c < recExtent r 1 then some c else none
  | _, _ => reflect mirror (recEdgeRep r) (recOrigin r j + boxIndex r n j) (recExtent r j)

/-- Where an element lies in global memory: the address of its row, and c0 (R191). -/
def elemSpot (r : List Xword) (idx : List Nat) (mirror : Bool) (n : Nat) : Option (Nat × Nat) :=
  let c := elemCoord r idx mirror n
  match c 0, c 1, c 2, c 3 with
  | some c0, some c1, some c2, some c3 =>
    some (recBase r + c1 * recStride r 1 + c2 * recStride r 2 + c3 * recStride r 3, c0)
  | _, _, _, _ => none

/-- Bytes of the box in local memory before its side pairs. -/
def boxData (r : List Xword) (t : Ty) : Nat :=
  if t.isBlock then recCount r / 32 * t.blockBytes else recCount r * tyBytes t

/-- Bytes of the box in local memory. -/
def boxBytes (r : List Xword) (t : Ty) : Nat := boxData r t + (if t.isBlock then 2 * (recCount r / 32) else 0)

/-- R194: the member stride of a gang. -/
def memberStride (localBytes members : Nat) : Nat := localBytes / members / 64 * 64

/-- Whether a type code may stand in a record (R190). -/
def recTypeOk (r : List Xword) : Bool :=
  match recType r with
  | some .e8m0 | none => false
  | some _ => true

/-- The windows that a command may use. -/
inductive CopyWindows where
  | any | noMulticast | privOnly
deriving DecidableEq, Repr

def CopyWindows.allow (c : CopyWindows) (va : Nat) : Bool :=
  match windowOf va, c with
  | .unused, _ => false
  | .priv, _ => true
  | _, .privOnly => false
  | .multicast, .noMulticast => false
  | _, _ => true

/-- The member offsets that a copy writes at: one, or one for each bit of MCAST. -/
def copyBases (mcast : Option Nat) (stride : Nat) : List Nat :=
  match mcast with
  | none => [0]
  | some m => ((List.range 8).filter fun k => m.testBit k).map fun k => k * stride

/-- The checks of R190 on a record, with those of R336 for a multicast. -/
def recChecks (r : List Xword) (region stride : Nat) (windows : CopyWindows) (multicast needsLocal : Bool) :
    List ParamCheck :=
  let t := (recType r).getD .b8
  let bases := copyBases (if multicast then some (recMcast r) else none) stride
  let beyond := bases.any fun b => decide (region < recLocal r + b + boxBytes r t)
  let block := t.isBlock && (recBox r 0 % 32 != 0 || fld (recWord r 7) 0 16 % 32 != 0)
  [⟨fld (recWord r 0) 62 2 != 0, 2, 7⟩, ⟨!multicast && recMcast r != 0, 2, 23⟩, ⟨!recTypeOk r, 3, 7⟩, ⟨block, 4, 7⟩,
   ⟨recExtent r 0 == 0, 4, 24⟩, ⟨recExtent r 1 == 0, 4, 27⟩, ⟨recBox r 0 == 0, 4, 30⟩, ⟨recExtent r 2 == 0, 4, 32⟩,
   ⟨recExtent r 3 == 0, 4, 35⟩, ⟨recBox r 1 == 0, 4, 38⟩, ⟨recBox r 2 == 0, 4, 44⟩, ⟨recBox r 3 == 0, 4, 46⟩,
   ⟨needsLocal && beyond, 6, 7⟩, ⟨needsLocal && recLocal r % 16 != 0, 6, 20⟩, ⟨!windows.allow (recBase r), 7, 0⟩,
   ⟨decide (4 < recScope r), 7, 15⟩, ⟨recCounter r % 4 != 0, 8, 8⟩, ⟨multicast && recMcast r == 0, 10, 23⟩]

/-! ### Whole blocks (05 R139, 09 R193) -/

/-- Whether the 32 elements from local index n are, in order, a block's 32 elements, or all lie outside. -/
def blockStands (r : List Xword) (idx : List Nat) (mirror : Bool) (n : Nat) : Bool :=
  let spots := (List.range 32).map fun k => elemSpot r idx mirror (n + k)
  match spots with
  | some (row, c0) :: _ =>
    c0 % 32 == 0 && spots.zipIdx.all fun e => e.1 == some (row, c0 + e.2)
  | none :: _ | [] => spots.all Option.isNone

/-- Whether a copy of a block format moves whole blocks at both ends; judged for the whole copy. -/
def blocksStand (r : List Xword) (idx : List Nat) (mirror : Bool) : Bool :=
  (List.range (recCount r / 32)).all fun q => blockStands r idx mirror (32 * q)

end Sys2Proof.Machine
end

