-- ==== Sys2Proof/Machine/Copies.lean ====
section
/-!
DEFINITION. The COPY members, major 0x24 (09 R185 to R198; 21 R331 to R338), and the copy engine: slices (R188) and the
end of a copy (R196, R197).
-/

namespace Sys2Proof.Machine

/-! ### Issue -/

/-- A physical address that no memory holds: the place of a status word that is not mapped. -/
def nowhere : Nat := 15 * 2 ^ 48

/-- A status word is written at its home, where it is mapped (R196). -/
def State.statusWrite (s : State) (ck pa word : Nat) : State :=
  if memoryExists pa 8 then s.writeHome ck (placed pa (leBytes 8 word)) else s

/-- R196: the next token of a context: its virtual and physical address. -/
def State.nextToken (s : State) (die asid : Nat) : Nat × Nat :=
  let c := s.ctx (ctxKey die asid)
  let va := c.tokenRing + 8 * (c.tokens % 4096)
  match s.walk die asid va with
  | .leaf l => (va, l.pa + va % pageBytes l.level)
  | .replay | .absent | .malformed | .hole _ => (va, nowhere)

/-- FMT of the page of a copy's BASE, where it is mapped. -/
def State.baseFmt (s : State) (die asid va : Nat) : Option Nat :=
  match s.walk die asid va with
  | .leaf l => some l.fmt
  | .replay | .absent | .malformed | .hole _ => none

/-- R139, R193: whether a copy moves the bytes of a page of a format unchanged. -/
def copyUnchanged (fmt : Nat) (r : List Xword) (idx : List Nat) (toGlobal : Bool) : Bool :=
  fmt == 0 || (match recType r with
    | none => true
    | some t => fmtTy fmt == some t && (!t.isBlock || blocksStand r idx (recMirror r && !toGlobal)))

/-- R102: whether a copy converts into a format whose RND field is stochastic, from FMT of its global page. -/
def copyDraws (fmt : Nat) (r : List Xword) (idx : List Nat) (toGlobal : Bool) (cvtmode : Xword) : Bool :=
  match recType r with
  | none => false
  | some t =>
    let written := if toGlobal then (fmtTy fmt).getD t else t
    (cvtField cvtmode written).rnd == .stochastic && !copyUnchanged fmt r idx toGlobal

/-- The row of the first element of a box that lies in the tensor. -/
def firstRow (r : List Xword) (idx : List Nat) (mirror : Bool) : Option Nat :=
  (List.range (recCount r)).findSome? fun n => (elemSpot r idx mirror n).map Prod.fst

/-- FMT of a copy's global page: that of BASE, or where BASE is not mapped that of its first element's row. -/
def State.copyFmt (s : State) (die asid : Nat) (r : List Xword) (idx : List Nat) (mirror : Bool) : Option Nat :=
  match s.baseFmt die asid (recBase r) with
  | some f => some f
  | none => (firstRow r idx mirror).bind fun row => s.baseFmt die asid row

/-- The parts of a queued copy that its kind and operands fix. -/
structure CopySpec where
  kind : CopyKind
  acq : Bool
  rel : Bool
  scope : Nat
  counter : Nat
  add : Word
  /-- Whether it takes a draw at its issue; none where that is open until its page is mapped (log 19). -/
  draws : Option Bool
  /-- Bytes that it moves. -/
  bytes : Nat
  members : List Nat

/-- 16 R260, R264: what the L3 chooser of a cluster's copy engine says for a copy of some bytes of a context, and the state
after it. Lines written more than 100 microseconds ago no longer count. -/
def State.chooseAlloc (s : State) (w : Warp) (bytes : Nat) : Bool × State :=
  let c := s.ctx w.ctxK
  let lines := c.copyLines.filter fun e => decide (s.now < e.2.1 + 100000)
  let cl := s.cluster w.clusterK
  let a := allocates cl.copyAlloc (s.rateOf w.die w.cluster w.asid) bytes (lines.filter fun e => e.2.2).length lines.length
  (a, (s.setCtx w.ctxK { c with copyLines := lines }).setCluster w.clusterK { cl with copyAlloc := a })

/-- R185, R196: a copy whose checks have passed is queued; its token goes to d. The issuing core's dirty data go home
first (06 R155; log 31). -/
def State.queueCopy (s : State) (c : Cur) (w : Warp) (d : SReg) (x : CopySpec) : State :=
  let s := s.flushCore w.coreK
  let tok := s.nextToken w.die w.asid
  let ctx := s.ctx w.ctxK
  let s := s.setCtx w.ctxK { ctx with tokens := ctx.tokens + 1 }
  let s := s.statusWrite w.coreK tok.2 0
  let lane := (firstLane c.lanes).getD 0
  let drawn := fun w : Warp => if x.draws = some true then (w.draw lane).2 else w
  let a := s.chooseAlloc w x.bytes
  let s := if x.members.isEmpty then a.2 else s
  let r := s.fresh
  let cmd : CopyCmd :=
    { id := r.1, warp := c.warp, gang := w.gang, asid := w.asid, die := w.die, kind := x.kind, acq := x.acq,
      rel := x.rel, scope := (scopeOf x.scope).getD .wg, cvtmode := w.cvtmode, draw := (w.draw lane).1, token := tok.1,
      tokenPa := tok.2, counter := x.counter, add := x.add, slice := 0, packets := 0, asked := none, fetched := [],
      alloc := a.1, short := false, updated := false, fault := none, paused := none, chainMembers := x.members, arrived := s.timeOf w.die,
      after := w.unperformed, owes := if x.draws.isNone then some lane else none }
  let s := r.2.onWarp c.warp fun w => { (drawn w).setS d (BitVec.ofNat 64 tok.1) with copies := w.copies + 1 }
  if cmd.isColl then
    let dd := s.die w.die
    s.setDie w.die { dd with colls := dd.colls ++ [(cmd, none)], collContexts := distinct (dd.collContexts ++ [w.asid]) }
  else
    let cl := s.cluster w.clusterK
    let gap := if cl.cq.isEmpty then s.now - cl.copyIdleFrom else cl.copyIdleGap
    s.setCluster w.clusterK { cl with cq := cl.cq ++ [cmd], copyIdleGap := gap }

/-- R187: whether the warp must wait before it can queue a copy; collectives take no place in the cluster's queue. -/
def State.copyFull (s : State) (w : Warp) (coll : Bool) : Bool :=
  decide (31 ≤ w.copies) || (!coll && decide (256 ≤ (s.cluster w.clusterK).cq.length))

/-- A COPY member with a layout record: its block is read, and its checks and its queueing follow. -/
def State.recordCopy (s : State) (coll : Bool) (a : SReg) (make : State → Cur → Warp → List Xword → Effect) :
    Host.Outcome State Fault Refusal :=
  s.run { userOnly [] with engine := if coll then 4 else 1 } fun c w =>
    if s.copyFull w coll then .stop s .engine
    else match s.paramBlock w a 8 with
      | none => .trap s 0x0B (paramInfo (256 + 0xFF)) false
      | some l => make s c w (l.map fun x => BitVec.ofNat 64 x)

/-- What a record says of its copy. -/
def recSpec (r : List Xword) (kind : CopyKind) (draws : Option Bool) (members : List Nat) : CopySpec :=
  { kind := kind, acq := recAcq r, rel := recRel r, scope := recScope r, counter := recCounter r, add := recAdd r,
    draws := draws, bytes := boxBytes r ((recType r).getD .b8), members := members }

/-- A copy with a layout record is queued, after its draw. -/
def State.queueRecord (s : State) (c : Cur) (w : Warp) (d : SReg) (r : List Xword) (kind : CopyKind) (idx : List Nat)
    (toGlobal : Bool) : State :=
  let fmt := s.copyFmt w.die w.asid r idx (recMirror r && !toGlobal)
  s.queueCopy c w d (recSpec r kind (fmt.map fun f => copyDraws f r idx toGlobal w.cvtmode) [])

/-- The gang's member stride (R194), and its workgroups. -/
def State.strideOf (s : State) (g : Nat) : Nat × Nat :=
  match mfind s.gangs g with
  | some x => (memberStride x.localBytes x.members, x.members)
  | none => (0, 1)

/-- CPY: R334, R335, R189. -/
def execCpy (d a : SReg) (s : State) : Host.Outcome State Fault Refusal :=
  s.run { userOnly [] with engine := 1 } fun c w =>
    if s.copyFull w false then .stop s .engine
    else
      let src := (w.s a).toNat
      let dst := (w.s (a + 1)).toNat
      let ctl := (w.s (a + 2)).toNat
      let n := fld ctl 0 32
      let srcLoc := fld ctl 32 1 == 1
      let dstLoc := fld ctl 33 1 == 1
      s.checked [⟨fld ctl 39 25 != 0, 2, 0xFF⟩, ⟨n == 0, 4, 0xFF⟩, ⟨srcLoc && s.outside w.gang src n, 6, 0xFF⟩,
        ⟨dstLoc && s.outside w.gang dst n, 6, 0xFF⟩, ⟨decide (4 < fld ctl 36 3), 7, 0xFF⟩] fun _ =>
        .done (s.queueCopy c w d
          { kind := .linear src dst n srcLoc dstLoc, acq := fld ctl 34 1 == 1, rel := fld ctl 35 1 == 1,
            scope := fld ctl 36 3, counter := 0, add := 0, draws := some false, bytes := n, members := [] })

/-- CPYT: R337. -/
def execCpyt (d a : SReg) (toGlobal : Bool) (s : State) : Host.Outcome State Fault Refusal :=
  s.recordCopy false a fun s c w r =>
    s.checked (recChecks r (s.regionBytes w.gang) 0 (if toGlobal then .noMulticast else .any) false true) fun _ =>
      .done (s.queueRecord c w d r (.tensor r toGlobal) [] toGlobal)

/-- CPYM: R336, R194. -/
def execCpym (d a : SReg) (s : State) : Host.Outcome State Fault Refusal :=
  s.recordCopy false a fun s c w r =>
    let g := s.strideOf w.gang
    s.checked (recChecks r (s.regionBytes w.gang) g.1 .any true true) fun _ =>
      if 2 ^ g.2 ≤ recMcast r then .trap s 0x11 (BitVec.ofNat 64 (2 + recMcast r * 2 ^ 8)) false
      else .done (s.queueRecord c w d r (.multicast r) [] false)

/-- CPYX: R338, R195. -/
def execCpyx (d a b : SReg) (s : State) : Host.Outcome State Fault Refusal :=
  s.recordCopy false a fun s c w r =>
    let word := (w.s b).toNat
    let off := fld word 0 24
    let n := recBox r 1
    s.checked (recChecks r (s.regionBytes w.gang) 0 .any false true ++
      [⟨fld word 24 40 != 0, 2, 0xFF⟩, ⟨off % 4 != 0 || s.outside w.gang off (4 * n), 6, 0xFF⟩]) fun _ =>
      let idx := (List.range n).map fun k => leNat (s.localBytes w.gang (off + 4 * k) 4)
      .done (s.queueRecord c w d r (.indexed r idx) idx false)

/-! ### Chains as collectives see them (18 R284, R289) -/

/-- Whether a member is in force at a time (18 R286). -/
def ChainMember.inForce (m : ChainMember) (t : Nat) : Bool :=
  decide (m.joinAt ≤ t) && (match m.leaveAt with
    | none => true
    | some l => decide (t < l))

/-- A list of numbers in increasing order, without repeats. -/
def ordered (l : List Nat) : List Nat := mkeys (l.foldl (fun m x => mput m x ()) [])

/-- R289: the membership in force that a `coll` of a die binds to; a die in no chain is alone (21 R332). -/
def State.membership (s : State) (die : Nat) : List Nat :=
  let ids := ((s.die die).chain.filter fun m => m.inForce (s.timeOf die)).map fun m => m.id
  if ids.contains (memberId die) then ordered ids else [memberId die]

/-- COLL: R332, R198. -/
def execColl (d a b : SReg) (s : State) : Host.Outcome State Fault Refusal :=
  s.recordCopy true a fun s c w r =>
    let word := (w.s b).toNat
    let op := fld word 0 3
    let t := (recType r).getD .b8
    let sums := op == 0 || op == 1 || op == 3
    s.checked (recChecks r (s.regionBytes w.gang) 0 .privOnly false false ++
      [⟨decide (4 < op) || fld word 3 5 != 0 || fld word 12 4 != 0 || fld word 32 32 != 0, 2, 0xFF⟩,
       ⟨recLocal r != 0, 2, 20⟩, ⟨t.isBlock || (sums && t != .f32 && t != .bf16), 3, 7⟩]) fun _ =>
      .done (s.queueCopy c w d (recSpec r (.collective r (w.s b)) (some false) (s.membership w.die)))

/-! ### Elements in memory -/

/-- A range of raw memory, in parts within one 64 KiB page each, page by page. -/
def State.pageSpans (s : State) (fuel : Nat) (e : EngineCtx) (want : Want) (va n : Nat) : Eng (List (Place × Nat)) :=
  let m := min n (2 ^ 16 - va % 2 ^ 16)
  (s.engineAddr e want va).bind fun s p =>
    if p.leaf.fmt ≠ 0 then .fail s 0x07 (faultInfo 0 p.va) p.va
    else if !memoryExists p.pa m then .hole p.pa
    else match fuel with
      | 0 => .go s [(p, m)]
      | fuel + 1 =>
        if m = n then .go s [(p, m)]
        else (State.pageSpans s fuel e want (va + m) (n - m)).bind fun s l => .go s ((p, m) :: l)

/-- A range of raw memory, in parts within one 64 KiB page each. -/
def State.engineSpan (s : State) (e : EngineCtx) (want : Want) (va n : Nat) : Eng (List (Place × Nat)) :=
  s.pageSpans (n / 2 ^ 16 + 1) e want va n

/-- The bytes of a range of raw memory. -/
def State.engineBytes (s : State) (e : EngineCtx) (va n : Nat) : Eng (List Byte) :=
  (s.engineSpan e .load va n).bind fun s l => s.engineRead e va (l.map fun p => (s.readHome e p.1, p.2))

/-- The events that write a list of bytes to raw memory: one for each page and home. -/
def State.spanWrites (s : State) (e : EngineCtx) (l : List (Place × Nat)) (bytes : List Byte) :
    List EngEvent :=
  match l with
  | [] => []
  | p :: r =>
    (s.targets e.die e.asid .store p.1).map (fun pa => (p.1.va, placed pa (bytes.take p.2))) ++
      s.spanWrites e r (bytes.drop p.2)

/-- Where an element stands: in a raw page; in a 16-bit page; or in a block, by the place of its block. -/
inductive Spot where
  | raw (va : Nat)
  | half (p : Place) (f : Ty)
  | block (p : Place) (f : Ty) (k : Nat)

/-- R191, R135, R193: where the element c0 of a row at an address stands. An odd element address in a 16-bit page is reported as
FMT: the causes of a copy (R196) have no ALIGN (log 79). -/
def State.spot (s : State) (e : EngineCtx) (want : Want) (t : Ty) (row c0 : Nat) : Eng Spot :=
  let rawSpot := fun (s : State) =>
    let va := row + (if t.isBlock then c0 * t.blockBits / 8 else c0 * tyBytes t)
    (s.engineAddr e want va).bind fun s p =>
      if p.leaf.fmt ≠ 0 ∨ t.isBlock then Eng.fail s 0x07 (faultInfo 0 va) va else .go s (.raw va)
  match s.translateDie e.die e.asid row with
  | (s, .replay) => (s.engineAddr e want row).bind fun s _ => rawSpot s
  | (s, .leaf l) =>
    match fmtTy l.fmt with
    | none => rawSpot s
    | some f =>
      let half := fmtBits l.fmt = 16
      let va := if half then row + 2 * c0 else row + blockLen l.fmt * (c0 / 32)
      (s.engineAddr e want va).bind fun s p =>
        let o := va - p.leaf.va
        if p.leaf.fmt ≠ l.fmt ∨ !(t.isBlock || tyFormatted t) then .fail s 0x07 (faultInfo 0 va) va
        else if half then (if o % 2 = 0 then .go s (.half p f) else .fail s 0x07 (faultInfo 0 va) va)
        else if o % blockLen l.fmt ≠ 0 ∨ pageBytes l.level < o + blockLen l.fmt then .fail s 0x07 (faultInfo 0 va) va
        else .go s (.block p f (c0 % 32))
  | (s, .absent) | (s, .malformed) | (s, .hole _) => rawSpot s

/-- The number of the block at a place. -/
def Place.blockNo (p : Place) : Nat := (p.va - p.leaf.va) / blockLen p.leaf.fmt

/-- The bytes of a block and its side pair. -/
def State.engineBlock (s : State) (e : EngineCtx) (p : Place) : Eng (List Byte) :=
  let h := s.readReplica e p
  s.engineRead e p.va [(h.pa, blockLen p.leaf.fmt), (h.side + 2 * p.blockNo, 2)]

/-- The events that write a block with its side pair (05 R138). -/
def State.blockWrites (s : State) (e : EngineCtx) (p : Place) (block side : List Byte) : List EngEvent :=
  (s.homesOf e.die e.asid .store p).map fun h => (p.va, placed h.pa block ++ placed (h.side + 2 * p.blockNo) side)

/-- R95, R139: the value of an element of a formatted page. -/
def State.spotValue (s : State) (e : EngineCtx) (x : Spot) : Eng FVal :=
  match x with
  | .raw va => .fail s 0x07 (faultInfo 0 va) va
  | .half p f => (s.engineRead e p.va [(s.readHome e p, 2)]).bind fun s l => .go s ((f.fmt.getD .f16).value (leNat l))
  | .block p f k => (s.engineBlock e p).bind fun s l =>
    .go s (blockElem f (l.take f.blockBytes) (l.drop f.blockBytes) k)

/-! ### Slices (R188) -/

/-- What a slice writes: events at homes, bytes of local memory, the draw state after it, and how far it goes. -/
structure SliceOut where
  events : List EngEvent
  locals : List (Nat × List Byte)
  draw : Word
  count : Nat

/-- Bytes at several places of local memory. -/
def atBases (bases : List Nat) (off : Nat) (l : List Byte) : List (Nat × List Byte) := bases.map fun b => (off + b, l)

/-- One element toward local memory, for a TYPE that is no block format (R191 to R193); an outside one is +0 and takes no
draw (log 71). -/
def State.elemIn (s : State) (e : EngineCtx) (c : CopyCmd) (r : List Xword) (idx bases : List Nat) (t : Ty) :
    Eng SliceOut :=
  let off := recLocal r + c.slice * tyBytes t
  let out := fun (l : List Byte) (x : Word) =>
    ({ events := [], locals := atBases bases off l, draw := x, count := 1 } : SliceOut)
  match elemSpot r idx (recMirror r) c.slice with
  | none => .go s (out (List.replicate (tyBytes t) 0) c.draw)
  | some (row, c0) =>
    (s.spot e .load t row c0).bind fun s x =>
      match x with
      | .raw va => (s.engineBytes e va (tyBytes t)).bind fun s l => .go s (out l c.draw)
      | .half p f =>
        (s.engineRead e p.va [(s.readHome e p, 2)]).bind fun s l =>
          if f = t then .go s (out l c.draw)
          else
            let q := roundTo t c.cvtmode c.draw ((f.fmt.getD .f16).value (leNat l))
            .go s (out (leBytes (tyBytes t) q.1) q.2)
      | .block .. => (s.spotValue e x).bind fun s v =>
        let q := roundTo t c.cvtmode c.draw v
        .go s (out (leBytes (tyBytes t) q.1) q.2)

/-- The value of one element of a block toward local memory; outside elements are zero. -/
def State.valueIn (s : State) (e : EngineCtx) (r : List Xword) (idx : List Nat) (t : Ty) (n : Nat) : Eng FVal :=
  match elemSpot r idx (recMirror r) n with
  | none => .go s (.fin false 0 0)
  | some (row, c0) => (s.spot e .load t row c0).bind fun s x => s.spotValue e x

/-- One block toward local memory (R191 to R193, 05 R139). A block that lies all outside is zeros with the ordinary scale
(R192); a copy that converts quantises it like the others, with its draws (04 R102; log 71): whether it does is seen from its global
page, for which it waits. -/
def State.blockIn (s : State) (e : EngineCtx) (c : CopyCmd) (r : List Xword) (idx bases : List Nat) (t : Ty) :
    Eng SliceOut :=
  let q := c.slice / 32
  let out := fun (block side : List Byte) (x : Word) =>
    ({ events := [], locals := atBases bases (recLocal r + t.blockBytes * q) block ++
        atBases bases (recLocal r + boxData r t + 2 * q) side, draw := x, count := 32 } : SliceOut)
  let convert := fun (s : State) =>
    (engList (fun s k => s.valueIn e r idx t (c.slice + k)) s (List.range 32)).bind fun s vs =>
      let z := quantiseBytes t c.cvtmode c.draw vs
      .go s (out z.1 z.2.1 z.2.2)
  if blocksStand r idx (recMirror r) then
    match elemSpot r idx (recMirror r) c.slice with
    | none =>
      let zeros := fun (s : State) => Eng.go s (out (List.replicate t.blockBytes 0) [127, 0] c.draw)
      match s.copyFmt e.die e.asid r idx (recMirror r), firstRow r idx (recMirror r) with
      | some f, _ => if copyUnchanged f r idx false then zeros s else convert s
      | none, some row => (s.engineAddr e .load row).bind fun s _ => zeros s
      | none, none => zeros s
    | some (row, c0) =>
      (s.spot e .load t row c0).bind fun s x =>
        match x with
        | .block p f _ =>
          if f = t then
            (s.engineBlock e p).bind fun s l => .go s (out (l.take t.blockBytes) (l.drop t.blockBytes) c.draw)
          else convert s
        | .half .. | .raw _ => convert s
  else convert s

/-- The value of a local element in a float type or a block format. -/
def State.localValue (s : State) (g : Nat) (r : List Xword) (t : Ty) (n : Nat) : FVal :=
  if t.isBlock then
    blockElem t (s.localBytes g (recLocal r + t.blockBytes * (n / 32)) t.blockBytes)
      (s.localBytes g (recLocal r + boxData r t + 2 * (n / 32)) 2) (n % 32)
  else (t.fmt.getD .f32).value (leNat (s.localBytes g (recLocal r + n * tyBytes t) (tyBytes t)))

/-- One element, or one block of a blocked page, toward global memory (R191 to R193, R106). -/
def State.elemOut (s : State) (e : EngineCtx) (c : CopyCmd) (r : List Xword) (t : Ty) : Eng SliceOut :=
  let n := c.slice
  let out := fun (events : List EngEvent) (x : Word) (count : Nat) =>
    ({ events := events, locals := [], draw := x, count := count } : SliceOut)
  match elemSpot r [] false n with
  | none => .go s (out [] c.draw 1)
  | some (row, c0) =>
    (s.spot e .store t row c0).bind fun s x =>
      match x with
      | .raw va =>
        (s.engineSpan e .store va (tyBytes t)).bind fun s l =>
          .go s (out (s.spanWrites e l (s.localBytes c.gang (recLocal r + n * tyBytes t) (tyBytes t))) c.draw 1)
      | .half p f =>
        let q := if f = t then (leNat (s.localBytes c.gang (recLocal r + 2 * n) 2), c.draw)
          else roundTo f c.cvtmode c.draw (s.localValue c.gang r t n)
        .go s (out ((s.targets e.die e.asid .store p).map fun pa => (p.va, placed pa (leBytes 2 q.1))) q.2 1)
      | .block p f _ =>
        if boxIndex r n 0 + 32 ≤ recBox r 0 ∧ c0 % 32 = 0 ∧ blockStands r [] false n then
          if f = t ∧ blocksStand r [] false then
            .go s (out (s.blockWrites e p (s.localBytes c.gang (recLocal r + t.blockBytes * (n / 32)) t.blockBytes)
              (s.localBytes c.gang (recLocal r + boxData r t + 2 * (n / 32)) 2)) c.draw 32)
          else
            let z := quantiseBytes f c.cvtmode c.draw ((List.range 32).map fun k => s.localValue c.gang r t (n + k))
            .go s (out (s.blockWrites e p z.1 z.2.1) z.2.2 32)
        else .fail s 0x07 (faultInfo 0 p.va) p.va

/-- Some bytes of a `cpy`: within one sector of its destination, so that each element is written as one. -/
def State.bytesAcross (s : State) (e : EngineCtx) (c : CopyCmd) (src dst n : Nat) (srcLoc dstLoc : Bool) : Eng SliceOut :=
  let a := src + c.slice
  let b := dst + c.slice
  let m := min (n - c.slice) (128 - b % 128)
  let get : Eng (List Byte) := if srcLoc then .go s (s.localBytes c.gang a m) else s.engineBytes e a m
  get.bind fun s l =>
    if dstLoc then .go s { events := [], locals := [(b, l)], draw := c.draw, count := m }
    else (s.engineSpan e .store b m).bind fun s ps =>
      .go s { events := s.spanWrites e ps l, locals := [], draw := c.draw, count := m }

/-- What a copy's accesses are made for. -/
def CopyCmd.ctx (c : CopyCmd) (fetched : SMap Byte) : EngineCtx :=
  { die := c.die, ck := issuerCore c.warp, asid := c.asid, fetched := fetched, acq := c.acq }

/-- How far a copy must go: bytes of a `cpy`, elements of a box. -/
def CopyCmd.total (c : CopyCmd) : Nat :=
  match c.kind with
  | .linear _ _ n _ _ => n
  | .tensor r _ | .multicast r | .indexed r _ => recCount r
  | .collective .. => 0

/-- The next slice of a copy. -/
def State.sliceOf (s : State) (c : CopyCmd) : Eng SliceOut :=
  let e := c.ctx c.fetched
  let toLocal := fun (r : List Xword) (idx bases : List Nat) =>
    let t := (recType r).getD .b8
    if t.isBlock then s.blockIn e c r idx bases t else s.elemIn e c r idx bases t
  match c.kind with
  | .linear src dst n srcLoc dstLoc => s.bytesAcross e c src dst n srcLoc dstLoc
  | .tensor r false => toLocal r [] [0]
  | .tensor r true => s.elemOut e c r ((recType r).getD .b8)
  | .multicast r => toLocal r [] (copyBases (some (recMcast r)) (s.strideOf c.gang).1)
  | .indexed r idx => toLocal r idx [0]
  | .collective .. => .go s { events := [], locals := [], draw := c.draw, count := 0 }

/-- A change to a queued copy. -/
def Cluster.onCopy (cl : Cluster) (id : Nat) (f : CopyCmd → CopyCmd) : Cluster :=
  { cl with cq := cl.cq.map fun c => if c.id = id then f c else c }

/-- The same in a state. -/
def State.onCopy (s : State) (clk id : Nat) (f : CopyCmd → CopyCmd) : State :=
  s.setCluster clk ((s.cluster clk).onCopy id f)

/-- Where the present run of slices of a copy ends. -/
def CopyCmd.goal (c : CopyCmd) : Nat := c.stop.getD c.total

/-- A copy whose present run of slices is at its end goes on with one that has been passed over. -/
def CopyCmd.settled (c : CopyCmd) : CopyCmd :=
  match c.behind with
  | [] => c
  | x :: r => if c.goal ≤ c.slice then { c with slice := x.1, stop := some x.2, behind := r } else c

/-- Whether a copy can move now. -/
def CopyCmd.canMove (c : CopyCmd) : Bool :=
  c.fault.isNone && c.paused.isNone && c.asked.isNone && !c.short && decide (c.slice < c.goal)

/-- Whether a copy can end now. -/
def CopyCmd.canEnd (c : CopyCmd) : Bool :=
  c.packets == 0 && c.paused.isNone && c.asked.isNone && !c.short && 
    (c.fault.isSome || (decide (c.goal ≤ c.slice) && c.behind.isEmpty))

/-- R188: the command whose turn it is on a cluster: of the warp after the one whose turn was last, its oldest that can move and
that comes after nothing which is still to be performed (06 R155). -/
def State.turn (s : State) (clk : Nat) : Option CopyCmd :=
  let cl := s.cluster clk
  let l := cl.cq.filter fun c => c.canMove && s.begins c.die c.asid c.warp c.after
  let next := l.filter fun c => decide (cl.lastTurn < c.warp)
  bestBy (fun c => 2 ^ 20 - c.warp) (if next.isEmpty then l else next)

/-- R102: a copy that finds only now that it converts into a stochastic format takes the draw that it owes (log 19). -/
def State.takeOwed (s : State) (c : CopyCmd) : State × CopyCmd :=
  match c.owes, s.sliceOf c with
  | some lane, .go _ o =>
    if o.draw = c.draw then (s, c)
    else match s.warpOf c.warp c.die c.asid with
      | some w => (s.onOwner c.warp c.die c.asid fun w => (w.draw lane).2, { c with draw := (w.draw lane).1, owes := none })
      | none => (s, { c with owes := none })
  | some _, .pause .. | some _, .fail .. | some _, .need .. | some _, .hole _ | none, _ => (s, c)

/-- 16 R264: the lines of a context's copy writes, with the time. -/
def Ctx.noteLines (c : Ctx) (now : Nat) (l : List EngEvent) : Ctx :=
  let lines := distinct (l.flatMap fun e => e.2.map fun x => lineOf x.1)
  { c with copyLines := lines.foldl (fun m k => mput m k (now, false)) c.copyLines }

/-- One slice of a command has been found: what it writes is written. -/
def State.doSlice (s0 s : State) (clk : Nat) (c : CopyCmd) (o : SliceOut) : State :=
  let e := c.ctx []
  let owes := c.owes
  let s := s.localWrites c.gang o.locals
  let ck := ctxKey c.die c.asid
  let s := if o.events.isEmpty then s else s.setCtx ck ((s.ctx ck).noteLines s.now o.events)
  let t := o.events.foldl (fun t l => t.engineWrite e 1 c.id (!c.alloc) l) ({ s := s, cost := 0, dsts := [] } : Sent)
  match t.pay s0 e 1 with
  | none => s0.onCopy clk c.id fun c => { c with short := true, due := t.cost }
  | some s => s.onCopy clk c.id fun c =>
      ({ c with slice := c.slice + o.count, draw := o.draw, owes := owes, fetched := [], packets := c.packets + t.count } : CopyCmd).settled

/-- COPY_SLICE: R188. The copy engine of a cluster takes one slice of the command whose turn it is. -/
def execCopySlice (die cluster : Nat) (s : State) : Host.Outcome State Fault Refusal :=
  let clk := clusterKey die cluster
  match s.turn clk with
  | none => .next s
  | some c =>
    let cl := s.cluster clk
    let s := s.setCluster clk { cl with lastTurn := c.warp }
    let s := if c.acq ∧ c.slice = 0 ∧ c.fetched = [] then s.engineAcquire else s
    let r := s.takeOwed c
    match r.1.sliceOf r.2 with
    | .go s' o => .next (s.doSlice s' clk r.2 o)
    | .pause s g => .next (s.onCopy clk c.id fun c => { c with paused := some g })
    | .fail s cause _ va => .next (s.onCopy clk c.id fun c => { c with fault := some (cause, va) })
    | .need s' va parts =>
      let e := c.ctx c.fetched
      let q := ({ s := s', cost := 0, dsts := [] } : Sent).engineAsk e 1 c.id va parts
      (match q.2.pay s e 1 with
        | none => .next (s.onCopy clk c.id fun c => { c with short := true, due := q.2.cost })
        | some s => .next (s.onCopy clk c.id fun c => { c with asked := some q.1 }))
    | .hole pa => .fault (.noMemory pa)

/-! ### The order of slices and commands (R188) -/

/-- How far the next slice of a copy goes, where it may be taken later than those behind it: a slice that takes a draw keeps
its place, since draws follow the order of the elements (04 R102), and so do the one before which the copy acquires and one whose
bytes another agent has still to send (log 69). -/
def State.passable (s : State) (c : CopyCmd) : Option Nat :=
  if c.acq && c.slice == 0 then none
  else match c.kind with
    | .linear _ dst n _ _ => some (min (n - c.slice) (128 - (dst + c.slice) % 128))
    | .tensor .. | .multicast _ | .indexed .. | .collective .. =>
      match s.sliceOf c with
      | .go _ o => if o.draw = c.draw then some o.count else none
      | .pause .. | .fail .. | .need .. | .hole _ => none

/-- The next slice of the copy whose turn it is is passed over: slices of a command have no order. -/
def State.passSlice (s : State) (clk : Nat) : State :=
  match s.turn clk with
  | none => s
  | some c =>
    match s.passable c with
    | none => s
    | some n => s.onCopy clk c.id fun c =>
        ({ c with slice := c.slice + n, fetched := [], behind := c.behind ++ [(c.slice, c.slice + n)] } : CopyCmd).settled

/-- The copy whose turn it is goes behind the others of its warp, which have no order among them. -/
def State.passCopy (s : State) (clk : Nat) : State :=
  let cl := s.cluster clk
  match s.turn clk with
  | none => s
  | some c => s.setCluster clk { cl with cq := (cl.cq.filter fun x => x.id ≠ c.id) ++ cl.cq.filter fun x => x.id = c.id }

/-! ### The end of a copy (R196, R197) -/

/-- The final status word (R196). -/
def statusWord (fault : Option (Nat × Nat)) : Nat :=
  match fault with
  | none => 1
  | some (cause, va) => 2 + 2 ^ 8 * cause + 2 ^ 16 * (va / 2 ^ 9 % 2 ^ 48)

/-- The addition to a counter: a reduction at each home it reaches (R197). -/
def State.counterTargets (s : State) (e : EngineCtx) (va : Nat) : Eng (List Nat) :=
  (s.engineAddr e .reduce va).bind fun s p =>
    if p.leaf.fmt ≠ 0 then .fail s 0x07 (faultInfo 0 va) va
    else .go s (s.targets e.die e.asid .reduce p)

/-- The additions, as packets where the homes are other agents'. -/
def Sent.countAt (t : Sent) (e : EngineCtx) (cls op va : Nat) (add : Word) (pa : Nat) : Sent :=
  if ownerOf pa = e.die then
    let s := (t.s.homeAtomic .addB32 pa (add.setWidth 64)).1
    { t with s := s.l1Follow e.ck pa (s.bytes pa 4) }
  else
    let p := mkPacket e.die (ownerOf pa) cls e.asid (.reduction .addB32 [(pa, add.setWidth 64)]) none (some op)
    t.packet { p with va := va }

/-- The status is written, the counter of the warp falls, and a fault is told to the context. -/
def State.finishCopy (s : State) (c : CopyCmd) : State :=
  let s := s.statusWrite (issuerCore c.warp) c.tokenPa (statusWord c.fault)
  let s := s.onOwner c.warp c.die c.asid Warp.copyFall
  match c.fault with
  | none => s
  | some _ => s.ctxEvent c.die c.asid 0x23 c.die (BitVec.ofNat 64 c.token)

/-- The command leaves the queue. -/
def State.dropCopy (s : State) (clk id : Nat) (c : CopyCmd) : State :=
  let cl := s.cluster clk
  (s.setCluster clk { cl with cq := cl.cq.filter fun c => c.id ≠ id }).stirCtx c.die c.asid

/-- COPY_COMPLETE: R197, R196. A command whose writes have been performed updates its counter; when that is performed,
its status is written. -/
def execCopyComplete (die cluster id : Nat) (s : State) : Host.Outcome State Fault Refusal :=
  let clk := clusterKey die cluster
  match (s.cluster clk).cq.find? fun c => c.id == id && c.canEnd with
  | none => .next s
  | some c =>
    let finish := fun (s : State) (c : CopyCmd) => ((s.dropCopy clk id c).finishCopy c).copyRest die cluster c.asid
    if c.fault.isSome ∨ c.counter = 0 ∨ c.updated then .next (finish s c)
    else
      let e := c.ctx []
      match s.counterTargets e c.counter with
      | .pause s g => .next (s.onCopy clk id fun c => { c with paused := some g })
      | .fail s cause _ va => .next (finish s { c with fault := some (cause, va) })
      | .need s _ _ => .next s
      | .hole pa => .fault (.noMemory pa)
      | .go s' pas =>
        let t := pas.foldl (fun t pa => t.countAt e 1 id c.counter c.add pa) ({ s := s', cost := 0, dsts := [] } : Sent)
        match t.pay s e 1 with
        | none => .next (s.onCopy clk id fun c => { c with short := true, due := t.cost })
        | some s =>
          if t.dsts.isEmpty then .next (finish s c)
          else .next (s.onCopy clk id fun c => { c with updated := true, packets := t.count })

end Sys2Proof.Machine
end

