-- ==== Sys2Proof/Machine/MatrixBlock.lean ====
section
/-!
DEFINITION. Matrix blocks (09 R199), the checks made on them at issue (R186, R200; 23 R386 to R390, R396), and the cost
of an `mma` (16 R262, R263).
-/

namespace Sys2Proof.Machine

/-- A matrix block (R199), with its reserved bits. -/
structure MBlock where
  gather : Bool
  transB : Bool
  accZero : Bool
  auto : Bool
  acq : Bool
  rel : Bool
  hist : Bool
  /-- ATYPE as it stands, and the types that ATYPE and BTYPE name. -/
  atyCode : Nat
  aty : Option Ty
  bty : Option Ty
  accTy : Nat
  m : Nat
  n : Nat
  k : Nat
  row0 : Nat
  col0 : Nat
  aaddr : Nat
  baddr : Nat
  astride : Nat
  bstride : Nat
  idx : Nat
  nidx : Nat
  aside : Nat
  bside : Nat
  histId : Nat
  scope : Nat
  /-- Whether reserved bits are set: in W0, in W14 [15:3], in W14 [31:19], in W15, in W10. -/
  res0 : Bool
  res14 : Bool
  res14hi : Bool
  res15 : Bool
  res10 : Bool

/-- A block from its sixteen words. -/
def MBlock.of (l : List Word) : MBlock :=
  let w := fun n => (l.getD n 0).toNat
  { gather := fld (w 0) 0 1 == 1, transB := fld (w 0) 1 1 == 1, accZero := fld (w 0) 2 1 == 1, auto := fld (w 0) 3 1 == 1,
    acq := fld (w 0) 4 1 == 1, rel := fld (w 0) 5 1 == 1, hist := fld (w 0) 6 1 == 1, atyCode := fld (w 0) 8 8, aty := tyOf (fld (w 0) 8 8),
    bty := tyOf (fld (w 0) 16 8), accTy := fld (w 0) 24 8, m := fld (w 1) 0 16, n := fld (w 1) 16 16, k := w 2,
    row0 := fld (w 3) 0 16, col0 := fld (w 3) 16 16, aaddr := w 4 + 2 ^ 32 * w 5, baddr := w 6 + 2 ^ 32 * w 7,
    astride := w 8, bstride := w 9, idx := fld (w 10) 0 24, nidx := w 11, aside := w 12, bside := w 13,
    histId := fld (w 14) 0 3, scope := fld (w 14) 16 3, res0 := fld (w 0) 7 1 != 0, res14 := fld (w 14) 3 13 != 0,
    res14hi := fld (w 14) 19 13 != 0, res15 := w 15 != 0, res10 := fld (w 10) 24 8 != 0 }

/-- Whether an operand address is a local offset, and the offset. -/
def addrLocal (a : Nat) : Bool := a.testBit 63
def localOff (a : Nat) : Nat := a % 2 ^ 24

/-- Whether a type has 8-bit or 6-bit float elements. -/
def tyNarrow (t : Ty) : Bool := t == .e4m3 || t == .e5m2 || t == .e3m2 || t == .e2m3
/-- Whether a type has 4-bit elements. -/
def tyFour (t : Ty) : Bool := t == .e2m1 || t == .kf4

/-- R200: G and the ACCTYPE of an operand pair. -/
def pairOf (a b : Ty) : Option (Nat × Nat) :=
  if (a = .f16 ∧ b = .f16) ∨ (a = .bf16 ∧ b = .bf16) then some (16, 13)
  else if (a = .i8 ∨ a = .n8) ∧ (b = .i8 ∨ b = .n8) then some (32, 9)
  else if tyFour a && tyFour b then some (64, 13)
  else if (tyNarrow a || tyFour a) && (tyNarrow b || tyFour b) then some (32, 13)
  else none

/-- The pair of a block. -/
def MBlock.pair (b : MBlock) : Option (Nat × Nat) :=
  match b.aty, b.bty with
  | some x, some y => pairOf x y
  | _, _ => none

/-- Bytes of n elements of a type in a row. -/
def rowBytes (t : Ty) (n : Nat) : Nat := if t.isBlock then (n + 31) / 32 * t.blockBytes else n * tyBytes t

/-- R186 kinds 4 and 5 of the region. -/
def MBlock.regionChecks (b : MBlock) (rows : Nat) : List ParamCheck :=
  [⟨b.m == 0, 4, 4⟩, ⟨b.n == 0, 4, 6⟩, ⟨decide (rows < b.row0 + b.m), 5, 4⟩, ⟨decide (512 < b.col0 + b.n), 5, 6⟩]

/-- Reserved bits of a block that a command reads whole. -/
def MBlock.reservedChecks (b : MBlock) : List ParamCheck :=
  [⟨b.res0, 2, 0⟩, ⟨b.res14, 2, 56⟩, ⟨b.res14hi, 2, 58⟩, ⟨b.res15, 2, 60⟩]

/-- An operand as its checks see it: address, stride, side, the offsets of its address and type fields, its type, the last
row it reads and the elements of a row. Which rows it reads depends on a flag of W0, so a range of them is reported at offset
0 (R186). -/
structure OperandUse where
  addr : Nat
  stride : Nat
  side : Nat
  addrOff : Nat
  tyOff : Nat
  ty : Ty
  rows : Option Nat
  elems : Nat

/-- Whether the page of a global operand is raw, as far as the issue can tell (R200). -/
def State.operandRaw (s : State) (die asid addr : Nat) : Bool :=
  addrLocal addr || (match s.baseFmt die asid addr with
    | some f => f == 0
    | none => true)

/-- R200, R186: kinds 2, 4, 6 and 7 of an operand. The ranges are checked where it reads a row at all. -/
def State.operandChecks (s : State) (w : Warp) (u : OperandUse) : List ParamCheck :=
  let raw := s.operandRaw w.die w.asid u.addr
  let off := localOff u.addr
  let align := if u.ty.isBlock then 1 else tyBytes u.ty
  let last := u.rows.getD 0
  let bytes := rowBytes u.ty u.elems
  let pairs := u.side + 2 * ((last * u.stride + bytes - 1) / max 1 u.ty.blockBytes) + 2
  (if addrLocal u.addr then
    [⟨fld u.addr 24 39 != 0, 2, u.addrOff⟩,
     ⟨u.rows.isSome && s.outside w.gang off (last * u.stride + bytes), 6, 0⟩,
     ⟨off % align != 0 || u.stride % align != 0, 6, u.tyOff⟩]
  else
    [⟨windowOf u.addr != .priv && windowOf u.addr != .peer, 7, u.addrOff⟩, ⟨u.side != 0 && !raw, 2, u.addrOff⟩]) ++
  (if u.ty.isBlock && raw then
    [⟨u.stride % u.ty.blockBytes != 0, 4, u.tyOff⟩,
     ⟨u.rows.isSome && u.side != 0 && decide (s.regionBytes w.gang < pairs), 6, 0⟩]
  else [])

/-- The gathered row indices, as they stand at issue (R202). -/
def State.gatherIdx (s : State) (g : Nat) (b : MBlock) : List Nat :=
  (List.range b.m).map fun i => leNat (s.localBytes g (b.idx + 4 * i) 4)

/-- The last row of A that an `mma` reads; none when every row is zeros. -/
def State.lastRow (s : State) (g : Nat) (b : MBlock) : Option Nat :=
  if b.gather then
    if s.outside g b.idx (4 * b.m) then none
    else match (s.gatherIdx g b).filter fun r => r ≠ 0xFFFFFFFF with
      | [] => none
      | r :: rs => some (rs.foldl max r)
  else some (b.m - 1)

/-- The A and B operands of an `mma`. -/
def State.operandA (s : State) (g : Nat) (b : MBlock) : OperandUse :=
  { addr := b.aaddr, stride := b.astride, side := b.aside, addrOff := 16, tyOff := 1, ty := b.aty.getD .b8,
    rows := s.lastRow g b, elems := b.k }
def MBlock.operandB (b : MBlock) : OperandUse :=
  { addr := b.baddr, stride := b.bstride, side := b.bside, addrOff := 24, tyOff := 2, ty := b.bty.getD .b8,
    rows := some ((if b.transB then b.n else b.k) - 1), elems := if b.transB then b.k else b.n }

/-- R390: the checks of `mma` and `quote`. -/
def State.mmaChecks (s : State) (w : Warp) (b : MBlock) : List ParamCheck :=
  let pair := b.pair
  let g := (pair.map Prod.fst).getD 1
  let acc := (pair.map Prod.snd).getD b.accTy
  let bBlock := (b.bty.getD .b8).isBlock
  b.reservedChecks ++ [⟨b.res10, 2, 43⟩, ⟨pair.isNone, 3, 1⟩, ⟨acc != b.accTy, 3, 1⟩, ⟨b.k == 0, 4, 8⟩,
    ⟨b.k % g != 0, 4, 1⟩] ++ b.regionChecks (accRowCount w.die) ++
  [⟨decide (4 < b.scope), 7, 58⟩, ⟨bBlock && !b.transB, 11, 0⟩, ⟨b.gather && b.nidx != b.m, 9, 0⟩,
   ⟨b.gather && (b.idx % 4 != 0 || s.outside w.gang b.idx (4 * b.nidx)), 6, 0⟩] ++
  s.operandChecks w (s.operandA w.gang b) ++ s.operandChecks w b.operandB

/-- R389: the checks of `mload`. -/
def State.mloadChecks (s : State) (w : Warp) (b : MBlock) : List ParamCheck :=
  let off := localOff b.aaddr
  [⟨b.atyCode != b.accTy, 3, 1⟩, ⟨b.accTy != 13 && b.accTy != 9, 3, 3⟩] ++ b.regionChecks (accRowCount w.die) ++
  [⟨decide (4 < b.scope), 7, 58⟩] ++
  (if addrLocal b.aaddr then
    [⟨fld b.aaddr 24 39 != 0, 2, 16⟩, ⟨s.outside w.gang off ((b.m - 1) * b.astride + 4 * b.n), 6, 4⟩,
     ⟨off % 4 != 0 || b.astride % 4 != 0, 6, 16⟩]
  else [⟨windowOf b.aaddr != .priv && windowOf b.aaddr != .peer, 7, 16⟩])

/-- R204: the destinations of a drain. -/
def drainOk (accTy : Nat) (t : Ty) : Bool :=
  if accTy = 13 then t == .f32 || t == .f16 || t == .bf16 || t.isBlock
  else accTy == 9 && (t == .i32 || t == .n32 || t == .i16 || t == .n16 || t == .i8 || t == .n8)

/-- R387: the checks of `mdrain`. -/
def State.mdrainChecks (s : State) (w : Warp) (b : MBlock) : List ParamCheck :=
  let t := b.aty.getD .b8
  let known := b.aty.isSome
  let bytes := if t.isBlock then b.n / 32 * t.blockBytes else b.n * tyBytes t
  b.reservedChecks ++
  [⟨b.aside != 0 && !addrLocal b.aaddr, 2, 16⟩, ⟨!known || !drainOk b.accTy t, 3, 1⟩,
   ⟨b.hist && b.accTy == 9, 3, 0⟩] ++ b.regionChecks (accRowCount w.die) ++
  (if addrLocal b.aaddr then
    [⟨fld b.aaddr 24 39 != 0, 2, 16⟩, ⟨s.outside w.gang (localOff b.aaddr) ((b.m - 1) * b.astride + bytes), 6, 1⟩,
     ⟨t.isBlock && (b.aside == 0 || s.outside w.gang b.aside (2 * (b.m * b.n / 32))), 6, 1⟩]
  else [⟨windowOf b.aaddr != .priv && windowOf b.aaddr != .peer, 7, 16⟩]) ++
  [⟨decide (4 < b.scope), 7, 58⟩, ⟨t.isBlock && b.n % 32 != 0, 11, 1⟩]

/-! ### The operand latch (R202) -/

/-- What names the B operand; an offset in local memory is one of its gang's. -/
def MBlock.latchKey (b : MBlock) (gang : Nat) : List Word :=
  [BitVec.ofNat 32 (if addrLocal b.baddr ∨ b.bside ≠ 0 then gang + 1 else 0),
   BitVec.ofNat 32 b.baddr, BitVec.ofNat 32 (b.baddr / 2 ^ 32), BitVec.ofNat 32 b.bstride, BitVec.ofNat 32 b.bside,
   BitVec.ofNat 32 ((b.bty.map tyCode).getD 31), BitVec.ofNat 32 b.n, BitVec.ofNat 32 b.k, BitVec.ofBool b.transB |>.setWidth 32]

/-- Where a range of global memory stands, with the side pairs of the blocks it touches in a blocked page: by the walk as it
stands, page by page (log 33). -/
def State.operandSpans (s : State) (fuel die asid va n : Nat) : List (Nat × Nat) :=
  match fuel with
  | 0 => []
  | fuel + 1 =>
    if n = 0 then []
    else
      let m := min n (2 ^ 16 - va % 2 ^ 16)
      let here := match s.walk die asid va with
        | .leaf l =>
          let o := va % pageBytes l.level
          let b := blockLen l.fmt
          if 3 ≤ l.fmt then
            let k := o / b
            let count := (o + m - 1) / b + 1 - k
            [(l.pa + b * k, b * count), (l.side + 2 * k, 2 * count)]
          else [(l.pa + o, m)]
        | .replay | .absent | .malformed | .hole _ => []
      here ++ s.operandSpans fuel die asid (va + m) (n - m)

/-- What the latch holds after an `mma`: the bytes of its B operand with their side pairs. -/
def State.latchOf (s : State) (gang die asid : Nat) (b : MBlock) : Latch :=
  let u := b.operandB
  let last := u.rows.getD 0
  let n := rowBytes u.ty u.elems
  let starts := (List.range (last + 1)).map fun r => r * u.stride
  let side := if u.side = 0 then [] else [(localKey gang u.side, 2 * ((last * u.stride + n - 1) / max 1 u.ty.blockBytes) + 2)]
  if addrLocal u.addr then
    { key := b.latchKey gang, mem := [], loc := starts.map (fun x => (localKey gang (localOff u.addr + x), n)) ++ side }
  else
    { key := b.latchKey gang, mem := starts.flatMap fun x => s.operandSpans (n / 2 ^ 16 + 2) die asid (u.addr + x) n, loc := side }

/-- Whether the core's latch holds the B operand of a block: no byte of it has been written since (R202). -/
def State.latched (s : State) (w : Warp) (b : MBlock) : Bool :=
  (s.core w.coreK).latch.any fun x => x.key == b.latchKey w.gang

/-! ### Cost (16 R262) -/

/-- Where an operand lies: 0 local, 1 private, 2 peer. -/
def placement (addr : Nat) : Nat := if addrLocal addr then 0 else if windowOf addr = .peer then 2 else 1

/-- The energy of a byte in units of 1/320 nJ. -/
def byteEnergy (p : Nat) : Nat :=
  match p with
  | 0 => 1
  | 1 => 8
  | _ => 20

/-- Bytes of n rows of an operand with its side pairs, and their energy in units of 1/320 nJ. -/
def State.operandCost (s : State) (w : Warp) (addr side : Nat) (t : Ty) (n k : Nat) : Nat × Nat :=
  let p := placement addr
  let raw := n * rowBytes t k
  let formatted := !s.operandRaw w.die w.asid addr
  let pairs := if t.isBlock && (side != 0 || formatted) then n * 2 * ((k + 31) / 32) else 0
  (raw + pairs, raw * byteEnergy p + pairs * byteEnergy (if formatted then p else 0))

/-- A quotient rounded to nearest, ties up, saturating at 0xFFFF_FFFF. -/
def quoted (num den : Nat) : Nat := sat32 ((2 * num + den) / (2 * den))

/-- The unit of an energy of `mmaCost` in nJ. -/
def energyUnit : Nat := 1000 * 562500 * 320

/-- R262: the time of an `mma` on an engine, with its gathered indices, in ns times FREQ in MHz, FREQ, and its energy in nJ times `energyUnit`. -/
def State.mmaCost (s : State) (w : Warp) (b : MBlock) (idx : List Nat) (lanes : Bool) : Nat × Nat × Nat :=
  let full := isMatrixDie w.die
  let g := if full then 64 else 32
  let gk := (b.pair.map Prod.fst).getD 16
  let q := (b.m + g - 1) / g * ((b.n + g - 1) / g) * ((b.k + gk - 1) / gk)
  let cl := s.cluster w.clusterK
  let f := max 1 cl.freq
  let v := pointMv cl.point
  let rows := if b.gather then (idx.filter fun r => r ≠ 0xFFFFFFFF).length else b.m
  let ca := s.operandCost w b.aaddr b.aside (b.aty.getD .b8) rows b.k
  let cb := if !lanes && s.latched w b then (0, 0) else s.operandCost w b.baddr b.bside (b.bty.getD .b8) b.n b.k
  let far := max (placement b.aaddr) (placement b.baddr)
  let wait := if far = 0 then 0 else if far = 1 then 240 else 880
  let gated := (s.core w.coreK).gated
  let bytes := (ca.2 + cb.2) * 562500 * 1000
  if lanes then
    let macs := b.m * b.n * b.k
    let clocks := 5 + 16 * ((macs + 15) / 16)
    ((5 + wait) * f + 1000 * clocks, f, (144 + macs) * v * v * 320 + bytes)
  else
    let clocks := 52 + (ca.1 + cb.1 + 511) / 512 + q + (if gated then 64 else 0) +
      (if b.gather then 4 * ((b.m + 63) / 64) else 0)
    let work := if full then 2400 + 6400 * q else 2400 + 1600 * q
    ((8 + wait) * f + 1000 * clocks, f, work * v * v * 320 + bytes + (if gated then (if full then 40 else 10) * energyUnit else 0))

/-- R262, R276: time in ns and energy in nJ as `quote` writes them, both 16.16. -/
def State.quoteOf (s : State) (w : Warp) (b : MBlock) (lanes : Bool) : Nat × Nat :=
  let c := s.mmaCost w b (s.gatherIdx w.gang b) lanes
  (quoted (65536 * c.1) c.2.1, quoted (65536 * c.2.2) energyUnit)

/-- R263: the engine that an AUTO `mma` is given: true for the vector lanes. The costs of R260 are exact here: time and energy
over one denominator. -/
def State.autoLanes (s : State) (w : Warp) (b : MBlock) : Bool :=
  let rate := s.rateOf w.die w.cluster w.asid
  let cost := fun l => let c := s.mmaCost w b (s.gatherIdx w.gang b) l; 65536 * c.1 * energyUnit + rate * c.2.2 * c.2.1
  let current := (s.core w.coreK).lastAuto.getD false
  if moves (cost current) (cost !current) then !current else current

end Sys2Proof.Machine
end

