-- ==== Sys2Proof/Machine/Matrix.lean ====
section
/-!
DEFINITION. The MATRIX members, major 0x25 (09 R199 to R208; 22 R371, R372; 23 R386 to R393, R396, R408), and the matrix
engine, which carries out a core's commands in issue order (R207).
-/

namespace Sys2Proof.Machine

/-! ### Issue -/

/-- R187: whether the warp must wait before it can queue a matrix command. -/
def State.matrixFull (s : State) (w : Warp) : Bool := decide (31 ≤ w.matrix) || decide (64 ≤ (s.core w.coreK).mq.length)

/-- R185: a matrix command whose checks have passed is queued. -/
def State.queueMatrix (s : State) (c : Cur) (w : Warp) (kind : MatrixKind) (block : List Word) (out : Nat)
    (idx : List Nat) (draw : Word) (lanes : Bool) : State :=
  let r := s.fresh
  let cmd : MatrixCmd :=
    { id := r.1, warp := c.warp, gang := w.gang, asid := w.asid, die := w.die, kind := kind, block := block, out := out,
      idx := idx, cvtmode := w.cvtmode, draw := draw, onLanes := lanes, paused := none, asked := none, fetched := [],
      short := false, ran := false, packets := 0, after := w.unperformed }
  let s := r.2.setWarp c.warp { w with matrix := w.matrix + 1 }
  let k := s.core w.coreK
  s.setCore w.coreK { k with mq := k.mq ++ [cmd],
                             idleGap := if lanes || engineQueued k.mq then k.idleGap else s.now - k.idleFrom }

/-- A MATRIX member with a block: it is read, and `make` checks it and goes on. -/
def State.blockInstr (s : State) (queued : Bool) (a : SReg) (make : State → Cur → Warp → List Word → Effect) :
    Host.Outcome State Fault Refusal :=
  s.run { userOnly [] with engine := if queued then 2 else 0 } fun c w =>
    if queued && s.matrixFull w then .stop s .engine
    else match s.paramBlock w a 4 with
      | none => .trap s 0x0B (paramInfo (256 + 0xFF)) false
      | some l => make s c w (l.map fun x => BitVec.ofNat 32 x)

/-- MMA: R390, R200, R201, R263. -/
def execMma (a : SReg) (s : State) : Host.Outcome State Fault Refusal :=
  s.blockInstr true a fun s c w l =>
    let b := MBlock.of l
    s.checked (s.mmaChecks w b) fun _ =>
      let idx := if b.gather then s.gatherIdx w.gang b else []
      if b.auto then
        let x := s.autoLanes w b
        let k := s.core w.coreK
        .done ((s.setCore w.coreK { k with lastAuto := some x }).queueMatrix c w .mma l 0 idx 0 x)
      else .done (s.queueMatrix c w .mma l 0 idx 0 false)

/-- MRST: R393. -/
def execMrst (a : SReg) (s : State) : Host.Outcome State Fault Refusal :=
  s.run (userOnly []) fun c w => .done (s.setWarp c.warp { w with restart := w.s a &&& 0x01FFFFFFFFFFFFFC })

/-- MZERO: R396. -/
def execMzero (a : SReg) (s : State) : Host.Outcome State Fault Refusal :=
  s.blockInstr true a fun s c w l =>
    let b := MBlock.of l
    s.checked (⟨b.res0, 2, 0⟩ :: b.regionChecks (accRowCount w.die)) fun _ =>
      .done (s.queueMatrix c w .mzero l 0 [] 0 false)

/-- MLOAD: R389. -/
def execMload (a : SReg) (s : State) : Host.Outcome State Fault Refusal :=
  s.blockInstr true a fun s c w l =>
    s.checked (s.mloadChecks w (MBlock.of l)) fun _ => .done (s.queueMatrix c w .mload l 0 [] 0 false)

/-- MDRAIN: R386, R387; its draw R102. -/
def execMdrain (a : SReg) (s : State) : Host.Outcome State Fault Refusal :=
  s.blockInstr true a fun s c w l =>
    let b := MBlock.of l
    s.checked (s.mdrainChecks w b) fun _ =>
      let takes := (cvtField w.cvtmode (b.aty.getD .f32)).rnd = .stochastic
      let r := if takes then w.draw ((firstLane c.lanes).getD 0) else (0, w)
      .done (s.queueMatrix c r.2 .mdrain l 0 [] r.1 false)

/-- HIST: R372, R206. -/
def execHist (a : SReg) (clear : Bool) (t : BitVec 3) (s : State) : Host.Outcome State Fault Refusal :=
  s.run { userOnly [] with engine := 2 } fun c w =>
    let off := (w.s a).toNat
    if s.matrixFull w then .stop s .engine
    else s.checked [⟨off % 64 != 0 || s.outside w.gang off 264, 6, 0xFF⟩] fun _ =>
      .done (s.queueMatrix c w (.hist clear t.toNat) [] off [] 0 false)

/-- QUOTE: R408, R262. -/
def execQuote (d a : SReg) (lanes : Bool) (s : State) : Host.Outcome State Fault Refusal :=
  s.blockInstr false a fun s c w l =>
    let b := MBlock.of l
    s.checked (s.mmaChecks w b) fun _ =>
      let q := s.quoteOf w b lanes
      .done (s.setWarp c.warp ((w.setS d (BitVec.ofNat 64 q.1)).setS (d + 1) (BitVec.ofNat 64 q.2)))

/-! ### Reading operands (R200, R201; 06 R155) -/

/-- What a command's accesses are made for. -/
def MatrixCmd.ctx (c : MatrixCmd) : EngineCtx :=
  { die := c.die, ck := issuerCore c.warp, asid := c.asid, fetched := c.fetched, acq := (MBlock.of c.block).acq }

/-- n bytes within one sector, read through the core's L1 for a virtual address. -/
def State.coreSector (s : State) (e : EngineCtx) (va pa n : Nat) : Eng (List Byte) :=
  if ownerOf pa = e.die then let r := s.loadPlain e.ck pa n 0; .go r.1 r.2
  else if s.l1Has e.ck pa n then .go s (s.l1Bytes e.ck pa n)
  else s.engineRead e va [(pa, n)]

/-- The bytes of a range of raw global memory, read through the core's L1. -/
def State.coreBytes (s : State) (e : EngineCtx) (va n : Nat) : Eng (List Byte) :=
  (s.engineSpan e .load va n).bind fun s l =>
    let parts := l.flatMap fun p =>
      let h := s.readHome e p.1
      (sectorSpans h p.2).map fun x => (p.1.va + (x.1 - h), x)
    (engList (fun s x => s.coreSector e x.1 x.2.1 x.2.2) s parts).bind fun s bs => .go s bs.flatten

/-- A block of a formatted page with its side pair, as the core sees it. -/
def State.coreBlock (s : State) (e : EngineCtx) (p : Place) : Eng (List Byte) :=
  let h := s.readReplica e p
  let parts := [(h.pa, blockLen p.leaf.fmt), (h.side + 2 * p.blockNo, 2)]
  if ownerOf h.pa = e.die then
    let s := parts.foldl (fun s x => s.homeReadAll x.1 x.2 0 e.acq) s
    .go s (s.viewParts e.ck parts)
  else s.engineRead e p.va parts

/-- The values of raw elements of a type; integers are exact (R111, R113). -/
def rawValues (t : Ty) (n : Nat) (bytes : List Byte) (side : Nat → Nat × Nat) : List FVal :=
  (List.range n).map fun k =>
    match t with
    | .i8 => .ofInt ((bytes.getD k 0).toInt) 0
    | .n8 => .ofInt ((bytes.getD k 0).toNat : Int) 0
    | .f16 | .bf16 => (t.fmt.getD .f16).value (leNat ((bytes.drop (2 * k)).take 2))
    | _ =>
      let p := side (k / 32)
      elemValue t p.1 p.2 (elemOf t.blockBits (leNat ((bytes.drop (t.blockBytes * (k / 32))).take t.blockBytes)) (k % 32))

/-- The side pairs of a raw block operand at byte offset x: R200, R96. -/
def State.rawSide (s : State) (g side : Nat) (t : Ty) (x q : Nat) : Nat × Nat :=
  if side = 0 then (0x7F, 0)
  else
    let l := s.localBytes g (side + 2 * (x / max 1 t.blockBytes + q)) 2
    ((l.getD 0 0).toNat, (l.getD 1 0).toNat)

/-- Element k of a row that starts at an address in a formatted page of the operand's type. In a 16-bit page the address is
aligned to 2 bytes (05 R135); one past the last whole block of a page names no element (R136), so that its row fails (log 68). -/
def State.pageElem (s : State) (e : EngineCtx) (t : Ty) (p : Place) (k : Nat) : Eng FVal :=
  let fmt := p.leaf.fmt
  let off := p.va - p.leaf.va
  if fmtBits fmt = 16 then
    if p.va % 2 ≠ 0 then .fail s 0x04 (BitVec.ofNat 64 p.va) p.va
    else (s.engineAddr e .load (p.va + 2 * k)).bind fun s q =>
      if q.leaf.fmt ≠ fmt then .fail s 0x07 (faultInfo 0 q.va) q.va
      else (s.coreSector e q.va (s.readHome e q) 2).bind fun s l => .go s ((t.fmt.getD .f16).value (leNat l))
  else match elementAt fmt (pageBytes p.leaf.level) off 0 with
    | none => .fail s 0x07 (faultInfo 0 p.va) p.va
    | some first =>
      let va := p.leaf.va + blockLen fmt * ((first + k) / 32)
      (s.engineAddr e .load va).bind fun s q =>
        let o := va - q.leaf.va
        if q.leaf.fmt ≠ fmt ∨ o % blockLen fmt ≠ 0 ∨ pageBytes q.leaf.level < o + blockLen fmt then
          .fail s 0x07 (faultInfo 0 va) va
        else (s.coreBlock e q).bind fun s l => .go s (blockElem t (l.take t.blockBytes) (l.drop t.blockBytes) ((first + k) % 32))

/-- n elements of a row at byte offset x of an operand. A raw element is aligned to its size (05 R134). -/
def State.opRow (s : State) (e : EngineCtx) (g addr side : Nat) (t : Ty) (n x : Nat) : Eng (List FVal) :=
  if addrLocal addr then
    .go s (rawValues t n (s.localBytes g (localOff addr + x) (rowBytes t n)) (s.rawSide g side t x))
  else
    (s.engineAddr e .load (addr + x)).bind fun s p =>
      if p.leaf.fmt = 0 then
        if !t.isBlock && p.va % tyBytes t != 0 then .fail s 0x04 (BitVec.ofNat 64 p.va) p.va
        else (s.coreBytes e (addr + x) (rowBytes t n)).bind fun s l => .go s (rawValues t n l (s.rawSide g side t x))
      else if fmtTy p.leaf.fmt = some t then engList (fun s k => s.pageElem e t p k) s (List.range n)
      else .fail s 0x07 (faultInfo 0 p.va) p.va

/-! ### The product (04 R111 to R113) -/

/-- A finite value without fraction as an integer. -/
def fvalInt (v : FVal) : Int :=
  match v with
  | .fin neg m e => (if neg then -1 else 1) * (if e < 0 then m / 2 ^ e.natAbs else m * 2 ^ e.toNat : Nat)
  | _ => 0

/-- The exact sum of products of two lists. -/
def sumProducts (a b : List FVal) : FVal := (a.zip b).foldl (fun acc e => acc.add (e.1.mul e.2)) (.fin false 0 0)

/-- R111, R112: K-groups of g, from an accumulator element. -/
def groupSums (fuel g : Nat) (a b : List FVal) (acc : Nat) : Nat :=
  match fuel with
  | 0 => acc
  | fuel + 1 =>
    let grp := Fmt.f32.rne (sumProducts (a.take g) (b.take g))
    groupSums fuel g (a.drop g) (b.drop g) (Fmt.f32.rne ((Fmt.f32.value acc).add (Fmt.f32.value grp)))

/-- One element of the product: R111, R113. -/
def dotElem (accTy g k : Nat) (a b : List FVal) (acc : Word) : Word :=
  if accTy = 13 then BitVec.ofNat 32 (groupSums (k / g) g a b acc.toNat)
  else acc + BitVec.ofInt 32 (fvalInt (sumProducts a b))

/-- Element (m, n) of a region in an accumulator store. -/
def MBlock.accKey (b : MBlock) (m n : Nat) : Nat := 512 * (b.row0 + m) + b.col0 + n

/-- The accumulator element at a key. -/
def Core.accAt (c : Core) (k : Nat) : Word := mget 0 c.acc k

/-- The elements of a region, row by row. -/
def MBlock.cells (b : MBlock) : List (Nat × Nat) :=
  (List.range b.m).flatMap fun m => (List.range b.n).map fun n => (m, n)

/-- A row's writers with one more. -/
def addWriter (m : SMap (List (Nat × Nat))) (row : Nat) (x : Nat × Nat) : SMap (List (Nat × Nat)) :=
  let l := mget [] m row
  if l.contains x then m else mput m row (l ++ [x])

/-- A core whose region's elements are written by a function; its rows are the workgroup's (05 R124). -/
def Core.fillRegion (c : Core) (b : MBlock) (gang member : Nat) (f : Nat × Nat → Word) : Core :=
  { c with acc := b.cells.foldl (fun m x => mset 0 m (b.accKey x.1 x.2) (f x)) c.acc,
           accRows := (List.range b.m).foldl (fun m r => addWriter m (b.row0 + r) (gang, member)) c.accRows }

/-- The workgroup of the warp that issued a command. -/
def State.memberOf (s : State) (k : Nat) : Nat :=
  match s.warp k with
  | some w => w.member
  | none => 0

/-- A region written on the core of a command. -/
def State.fillRegion (s : State) (c : MatrixCmd) (b : MBlock) (f : Core → Nat × Nat → Word) : State :=
  let ck := issuerCore c.warp
  let k := s.core ck
  s.setCore ck (k.fillRegion b c.gang (s.memberOf c.warp) (f k))

/-- A command that sends nothing. -/
def noPackets (s : State) : Sent := { s := s, cost := 0, dsts := [] }

/-- 17 R276: a command charges its context the energy that it spends, in 2^-16 nJ of which whole nJ reach ENERGY. -/
def State.chargeEnergy (s : State) (die cl asid e : Nat) : State :=
  let k := s.cluster (clusterKey die cl)
  let c := s.ctx (ctxKey die asid)
  let n := k.charged + e
  (s.setCluster (clusterKey die cl) { k with charged := n }).setCtx (ctxKey die asid)
    { c with energy := c.energy + BitVec.ofNat 64 (n / 65536 - k.charged / 65536) }

/-- What an `mma` leaves behind beside its result: the latch, and the energy that it took. -/
def State.mmaSpent (s : State) (c : MatrixCmd) (b : MBlock) : State :=
  match s.warp c.warp with
  | none => s
  | some w =>
    let e := 65536 * (s.mmaCost w b c.idx c.onLanes).2.2 / energyUnit
    let ck := issuerCore c.warp
    (s.setCore ck { s.core ck with latch := some (s.latchOf c.gang c.die c.asid b) }).chargeEnergy c.die w.cluster c.asid e

/-- R201: `mma`. -/
def State.runMma (s : State) (c : MatrixCmd) (b : MBlock) : Eng Sent :=
  let e := c.ctx
  let at_ := b.aty.getD .b8
  let bt := b.bty.getD .b8
  let g := (b.pair.map Prod.fst).getD 16
  let rowA := fun (s : State) (m : Nat) =>
    let r := if b.gather then c.idx.getD m 0 else m
    if b.gather && r == 0xFFFFFFFF then Eng.go s (List.replicate b.k (.fin false 0 0))
    else s.opRow e c.gang b.aaddr b.aside at_ b.k (r * b.astride)
  (engList rowA s (List.range b.m)).bind fun s as =>
    let rows := if b.transB then b.n else b.k
    let elems := if b.transB then b.k else b.n
    (engList (fun s r => s.opRow e c.gang b.baddr b.bside bt elems (r * b.bstride)) s (List.range rows)).bind fun s bs =>
      let colB := fun (n : Nat) => if b.transB then bs.getD n [] else bs.map fun r => r.getD n (.fin false 0 0)
      let s := s.fillRegion c b fun k x =>
        dotElem b.accTy g b.k (as.getD x.1 []) (colB x.2) (if b.accZero then 0 else k.accAt (b.accKey x.1 x.2))
      .go (s.mmaSpent c b) (noPackets s)

/-- R389: `mload`. -/
def State.runMload (s : State) (c : MatrixCmd) (b : MBlock) : Eng Sent :=
  let e := c.ctx
  let row := fun (s : State) (m : Nat) =>
    let x := m * b.astride
    if addrLocal b.aaddr then Eng.go s (s.localBytes c.gang (localOff b.aaddr + x) (4 * b.n))
    else if (b.aaddr + x) % 4 ≠ 0 then .fail s 0x04 (BitVec.ofNat 64 (b.aaddr + x)) (b.aaddr + x)
    else s.coreBytes e (b.aaddr + x) (4 * b.n)
  (engList row s (List.range b.m)).bind fun s rows =>
    let s := s.fillRegion c b fun _ x => BitVec.ofNat 32 (leNat (((rows.getD x.1 []).drop (4 * x.2)).take 4))
    .go s (noPackets s)

/-! ### Draining (R204, R386) -/

/-- One write of a drain: an element, or a block with its side pair. -/
structure DrainPart where
  row : Nat
  /-- The first column. -/
  col : Nat
  bytes : List Byte
  side : List Byte

/-- The bytes of a drained element of a type that is no block format (R100, R105). -/
def drainElem (accTy : Nat) (t : Ty) (cvtmode : Xword) (x : Word) (v : Word) : List Byte × Word :=
  if accTy = 13 then
    let q := roundTo t cvtmode x (Fmt.f32.value v.toNat)
    (leBytes (tyBytes t) q.1, q.2)
  else (leBytes (tyBytes t) (convert t .i32 (cvtField cvtmode t) 0 v.toNat).toNat, x)

/-- R102, R107 to R109: the parts of a drain in row-major order. -/
def drainParts (b : MBlock) (t : Ty) (cvtmode : Xword) (x : Word) (acc : Nat → Nat → Word) : List DrainPart :=
  let starts := (List.range b.m).flatMap fun m =>
    (List.range (if t.isBlock then b.n / 32 else b.n)).map fun q => (m, if t.isBlock then 32 * q else q)
  (starts.foldl (fun (r : List DrainPart × Word) p =>
    if t.isBlock then
      let z := quantiseBytes t cvtmode r.2 ((List.range 32).map fun k => Fmt.f32.value (acc p.1 (p.2 + k)).toNat)
      (r.1 ++ [{ row := p.1, col := p.2, bytes := z.1, side := z.2.1 }], z.2.2)
    else
      let z := drainElem b.accTy t cvtmode r.2 (acc p.1 p.2)
      (r.1 ++ [{ row := p.1, col := p.2, bytes := z.1, side := [] }], z.2)) ([], x)).1

/-- Where one part goes: local memory, or events at homes. -/
structure DrainPlace where
  locals : List (Nat × List Byte)
  events : List EngEvent

/-- R386, R387: the place of a part. -/
def State.drainPlace (s : State) (e : EngineCtx) (b : MBlock) (t : Ty) (p : DrainPart) : Eng DrainPlace :=
  let size := tyBytes t
  let row := p.row * b.astride
  if addrLocal b.aaddr then
    let off := localOff b.aaddr + row
    if t.isBlock then
      .go s { locals := [(off + t.blockBytes * (p.col / 32), p.bytes),
                         (b.aside + 2 * (p.row * b.n / 32 + p.col / 32), p.side)], events := [] }
    else if (off + p.col * size) % size ≠ 0 then
      .fail s 0x04 (BitVec.ofNat 64 (off + p.col * size)) (off + p.col * size)
    else .go s { locals := [(off + p.col * size, p.bytes)], events := [] }
  else
    let start := b.aaddr + row
    if t.isBlock then
      let va := start + t.blockBytes * (p.col / 32)
      (s.engineAddr e .store va).bind fun s q =>
        let o := va - q.leaf.va
        if fmtTy q.leaf.fmt ≠ some t then .fail s 0x07 (faultInfo 0 va) va
        else if o % t.blockBytes ≠ 0 then
          let first := q.leaf.va + o / t.blockBytes * t.blockBytes
          .fail s 0x07 (faultInfo 0 first) first
        else if pageBytes q.leaf.level < o + t.blockBytes then .fail s 0x07 (faultInfo 0 va) va
        else .go s { locals := [], events := s.blockWrites e q p.bytes p.side }
    else
      let va := start + p.col * size
      if va % size ≠ 0 then .fail s 0x04 (BitVec.ofNat 64 va) va
      else (s.engineAddr e .store va).bind fun s q =>
        if q.leaf.fmt ≠ 0 ∧ fmtTy q.leaf.fmt ≠ some t then .fail s 0x07 (faultInfo 0 va) va
        else .go s { locals := [], events := (s.targets e.die e.asid .store q).map fun pa => (va, placed pa p.bytes) }

/-- The parts placed in order until one cannot be: what was placed, and how it went on. -/
def State.placeParts (s : State) (e : EngineCtx) (b : MBlock) (t : Ty) (l : List DrainPart) :
    List DrainPlace × Eng Unit :=
  match l with
  | [] => ([], .go s ())
  | p :: r =>
    match s.drainPlace e b t p with
    | .go s x => let q := s.placeParts e b t r; (x :: q.1, q.2)
    | .pause s g => ([], .pause s g)
    | .fail s c i va => ([], .fail s c i va)
    | .need s va x => ([], .need s va x)
    | .hole pa => ([], .hole pa)

/-- A histogram that has counted nothing. -/
def HistTensor.zero : HistTensor := { bins := [], count := 0, amax := 0 }

/-- R206: the bin of an f32 value. -/
def histBin (v : FVal) : Nat :=
  match v with
  | .nan => 63
  | .inf _ => 62
  | .fin _ m e => if m = 0 then 0 else (max 1 (min 61 ((Nat.log2 m : Int) + e + 31))).toNat

/-- R206: one element counted. -/
def HistTensor.count1 (h : HistTensor) (x : Word) : HistTensor :=
  let v := Fmt.f32.value x.toNat
  let k := histBin v
  let up := fun (y : Word) => if y = 0xFFFFFFFF then y else y + 1
  let mag := x &&& 0x7FFFFFFF
  { bins := mset 0 h.bins k (up (mget 0 h.bins k)), count := up h.count,
    amax := if k ≤ 61 ∧ h.amax.toNat < mag.toNat then mag else h.amax }

/-- The writes of a drain's placed parts. -/
def State.drainWrites (s : State) (c : MatrixCmd) (l : List DrainPlace) : Sent :=
  let s := l.foldl (fun s p => s.localWrites c.gang p.locals) s
  (l.flatMap fun p => p.events).foldl (fun t ev => t.engineWrite c.ctx 1 c.id false ev) (noPackets s)

/-- The parts of a drain that a command has not written, with their numbers. -/
def State.partsLeft (s : State) (c : MatrixCmd) (b : MBlock) : List (DrainPart × Nat) :=
  let k := s.core (issuerCore c.warp)
  (drainParts b (b.aty.getD .f32) c.cvtmode c.draw fun m n => k.accAt (b.accKey m n)).zipIdx.filter fun e =>
    !c.written.contains e.2

/-- R204, R386: `mdrain`; it writes the parts that it has not written before. A fault leaves the writes before it (R207). -/
def State.runMdrain (s : State) (c : MatrixCmd) (b : MBlock) : Sent × Eng Unit :=
  let t := b.aty.getD .f32
  let ck := issuerCore c.warp
  let r := s.placeParts c.ctx b t ((s.partsLeft c b).map Prod.fst)
  match r.2 with
  | .go s _ =>
    let s := if b.hist then
        let k := s.core ck
        let h := b.cells.foldl (fun h x => h.count1 (k.accAt (b.accKey x.1 x.2))) (mget HistTensor.zero k.hists b.histId)
        s.setCore ck { k with hists := mset HistTensor.zero k.hists b.histId h }
      else s
    let s := if b.accZero then s.fillRegion c b fun _ _ => 0 else s
    (s.drainWrites c r.1, .go s ())
  | .fail s cause info va => (s.drainWrites c r.1, .fail s cause info va)
  | x => (noPackets s, x)

/-- R206: the bytes that `hist` writes. -/
def HistTensor.outBytes (h : HistTensor) : List Byte :=
  ((List.range 64).map (fun i => mget 0 h.bins i) ++ [h.amax, h.count]).flatMap fun x => leBytes 4 x.toNat

/-- The words of a histogram that a command has not written, each with its number and its place in local memory. -/
def MatrixCmd.wordsLeft (c : MatrixCmd) (h : HistTensor) : List (Nat × Nat × List Byte) :=
  ((List.range 66).filter fun k => !c.written.contains k).map fun k => (k, c.out + 4 * k, (h.outBytes.drop (4 * k)).take 4)

/-- R206, R372: `hist`; it writes the words that it has not written before. -/
def State.runHist (s : State) (c : MatrixCmd) (clear : Bool) (t : Nat) : State :=
  let ck := issuerCore c.warp
  let k := s.core ck
  let h := mget HistTensor.zero k.hists t
  let s := s.localWrites c.gang ((c.wordsLeft h).map fun x => x.2)
  if clear then
    let k := s.core ck
    s.setCore ck { k with hists := mdel k.hists t }
  else s

/-! ### The engine -/

/-- A change to a core's first command. -/
def State.onFirst (s : State) (ck : Nat) (f : MatrixCmd → MatrixCmd) : State :=
  let k := s.core ck
  s.setCore ck { k with mq := match k.mq with
    | [] => []
    | c :: r => f c :: r }

/-- R207: the first command of a core leaves; the counter of its warp falls, rows of an ended workgroup are zeroed after its
last command (05 R124), and the engine may gate after its own (16 R264). -/
def State.matrixEnd (s : State) (c : MatrixCmd) : State :=
  let ck := issuerCore c.warp
  let k := s.core ck
  let s := (s.setCore ck { k with mq := k.mq.drop 1 }).stirCtx c.die c.asid
  let member := s.memberOf c.warp
  let s := s.onOwner c.warp c.die c.asid Warp.matrixFall
  let s := s.workgroupEnd ck c.gang member
  if c.onLanes then s else s.matrixRest c.die (ck % 32) c.asid

/-- R207: a fault of the engine is owed to the warp, or goes to its context when the warp has exited. -/
def State.matrixFault (s : State) (c : MatrixCmd) (cause : Nat) (info : Xword) : State :=
  let info := info ||| BitVec.ofNat 64 (2 ^ 59)
  match s.warp c.warp with
  | some w =>
    if w.live = 0 then s.ctxEvent c.die c.asid 0x24 c.die info
    else s.setWarp c.warp { w with async := w.async ++ [{ cause := cause, info := info }] }
  | none => s.ctxEvent c.die c.asid 0x24 c.die info

/-- R207: the region of a discarded command is undefined: free values. -/
def State.undefineRegion (s : State) (c : MatrixCmd) (b : MBlock) : State :=
  let tick := s.tick
  let s := s.fillRegion c b fun _ x => BitVec.ofNat 32 (Config.freeNat (tick + x.1 * b.n + x.2))
  { s with tick := tick + b.m * b.n }

/-- R207: a command is discarded. -/
def State.matrixDiscard (s : State) (c : MatrixCmd) (b : MBlock) (cause : Nat) (info : Xword) : State :=
  ((s.undefineRegion c b).matrixFault c cause info).matrixEnd c

/-- What a command's first run comes to. -/
def State.matrixRun (s : State) (c : MatrixCmd) (b : MBlock) : Sent × Eng Unit :=
  let whole := fun (x : Eng Sent) => match x with
    | .go s t => ({ t with s := s }, Eng.go s ())
    | .pause s g => (noPackets s, .pause s g)
    | .fail s cause i va => (noPackets s, .fail s cause i va)
    | .need s va l => (noPackets s, .need s va l)
    | .hole pa => (noPackets s, .hole pa)
  match c.kind with
  | .mma => whole (s.runMma c b)
  | .mzero => let s := s.fillRegion c b fun _ _ => 0; (noPackets s, .go s ())
  | .mload => whole (s.runMload c b)
  | .mdrain => s.runMdrain c b
  | .hist clear t => let s := s.runHist c clear t; (noPackets s, .go s ())

/-- R156: a command that acquires before its first read. -/
def State.matrixAcquire (s : State) (c : MatrixCmd) (b : MBlock) : State :=
  let reads := match c.kind with
    | .mma | .mload => true
    | .mzero | .mdrain | .hist .. => false
  if b.acq && reads && c.fetched.isEmpty && b.scope != 0 then
    s.engineAcquire.acquireCore (issuerCore c.warp)
  else s

/-- R156: a command that releases after its last write: what the core holds goes home. `mload` and `mzero` release nothing
(23 R389, R396). -/
def State.matrixRelease (s : State) (c : MatrixCmd) (b : MBlock) : State :=
  let releases := match c.kind with
    | .mma | .mdrain => true
    | .mzero | .mload | .hist .. => false
  if releases && b.rel && b.scope != 0 then s.releaseCore (issuerCore c.warp) else s

/-- A command that has run ends when its packets have been performed. -/
def State.matrixStep (s : State) (c : MatrixCmd) : Host.Outcome State Fault Refusal :=
  let ck := issuerCore c.warp
  let b := MBlock.of c.block
  if c.ran then .next (s.matrixEnd c)
  else
    let s0 := s.matrixAcquire c b
    let r := s0.matrixRun c b
    match r.2 with
    | .hole pa => .fault (.noMemory pa)
    | .pause s g => .next (s.onFirst ck fun c => { c with paused := some g })
    | .need s va parts =>
      let q := (noPackets s).engineAsk c.ctx 1 c.id va parts
      (match q.2.pay s0 c.ctx 1 with
        | none => .next (s0.onFirst ck fun c => { c with short := true, due := q.2.cost })
        | some s => .next (s.onFirst ck fun c => { c with asked := some q.1 }))
    | .fail _ cause info _ =>
      (match r.1.pay s0 c.ctx 1 with
        | none => .next (s0.onFirst ck fun c => { c with short := true, due := r.1.cost })
        | some s => .next (s.matrixDiscard c b cause info))
    | .go .. =>
      match r.1.pay s0 c.ctx 1 with
      | none => .next (s0.onFirst ck fun c => { c with short := true, due := r.1.cost })
      | some s =>
        let s := s.matrixRelease c b
        if r.1.dsts.isEmpty then .next (s.matrixEnd c)
        else .next (s.onFirst ck fun c => { c with ran := true, packets := r.1.count })

/-- R386, R372: some parts of its output that a command has not written are written: the state with its packets, and their
numbers. -/
def State.someParts (s : State) (c : MatrixCmd) : Sent × List Nat :=
  let b := MBlock.of c.block
  match c.kind with
  | .mdrain =>
    let left := s.partsLeft c b
    let l := ((s.placeParts c.ctx b (b.aty.getD .f32) (left.map Prod.fst)).1.zip (left.map Prod.snd))
    let l' := freeSubset s.tick l
    (({ s with tick := s.tick + l.length } : State).drainWrites c (l'.map Prod.fst), l'.map Prod.snd)
  | .hist _ t =>
    let l := c.wordsLeft (mget HistTensor.zero (s.core (issuerCore c.warp)).hists t)
    let l' := freeSubset s.tick l
    (noPackets (({ s with tick := s.tick + l.length } : State).localWrites c.gang (l'.map fun x => x.2)), l'.map Prod.fst)
  | .mma | .mzero | .mload => (noPackets s, [])

/-- R208, R209: what a command that a switch discards may have written before: any subset of a drain's elements, any subset of
the bytes of a histogram. -/
def State.partlyRun (s : State) (c : MatrixCmd) : State :=
  match c.kind with
  | .mdrain => ((s.someParts c).1.pay s c.ctx 1).getD s
  | .hist _ t =>
    let l := (c.wordsLeft (mget HistTensor.zero (s.core (issuerCore c.warp)).hists t)).flatMap fun x => placed x.2.1 x.2.2
    (freeSubset s.tick l).foldl (fun s e => s.localPoke c.gang e.1 [e.2]) { s with tick := s.tick + l.length }
  | .mma | .mzero | .mload => s

/-- Whether a core's first command can go on. -/
def MatrixCmd.canRun (c : MatrixCmd) : Bool :=
  c.paused.isNone && c.asked.isNone && !c.short && c.packets == 0

/-- The same, and it comes after nothing that is still to be performed (06 R155). -/
def State.canRun (s : State) (c : MatrixCmd) : Bool := c.canRun && s.begins c.die c.asid c.warp c.after

/-- Whether a command writes memory. -/
def MatrixCmd.writesOut (c : MatrixCmd) : Bool :=
  match c.kind with
  | .mdrain | .hist .. => true
  | .mma | .mzero | .mload => false

/-- A core's first command writes some parts of its output before the rest; those that go to other agents it sends
together (log 69). -/
def State.writeSome (s : State) (ck : Nat) : State :=
  match (s.core ck).mq with
  | [] => s
  | c :: _ =>
    let r := s.someParts c
    if s.canRun c && !c.ran && r.1.dsts.isEmpty then r.1.s.onFirst ck fun c => { c with written := c.written ++ r.2 } else s

/-- ENGINE_WAKE: R291, R264. A gated engine has ended its wake ramp: a copy engine by cluster, a matrix engine by core. The energy
of the wake is charged with the `mma` that it is for (17 R276). -/
def execEngineWake (die number : Nat) (isCopy : Bool) (s : State) : Host.Outcome State Fault Refusal :=
  if isCopy then .next (s.setCluster (clusterKey die number) { s.cluster (clusterKey die number) with copyGated := false })
  else
    let k := s.core (coreKey die number)
    let t := s.setCore (coreKey die number) { k with gated := false }
    match k.mq with
    | [] => .next t
    | c :: _ =>
      .next (if k.gated ∧ c.kind = .mma then
        t.chargeEnergy die (number / 8) c.asid (65536 * if isMatrixDie die then 40 else 10) else t)

/-- MATRIX_COMMAND_COMPLETE: R207. The matrix engine of a core carries out its first command, or ends it once its writes
have been performed. -/
def execMatrixCommandComplete (die core : Nat) (s : State) : Host.Outcome State Fault Refusal :=
  match (s.core (coreKey die core)).mq with
  | [] => .next s
  | c :: _ => if s.canRun c then s.matrixStep c else .next s

end Sys2Proof.Machine
end

