-- ==== Sys2Proof/Machine/LaunchOps.lean ====
section
/-!
DEFINITION. The LAUNCH members, major 0x26 (14 R236 to R239; 22 R375, R376; 23 R397; 24 R433).
-/

namespace Sys2Proof.Machine

/-- The address of slot n of a queue's ring (14 R229), and of its overflow ring. -/
def Queue.ringSlot (q : Queue) (n : Nat) : Nat := q.qbase + 128 * (n % 2 ^ q.qsize)
def Queue.ovfSlot (q : Queue) (n : Nat) : Nat := q.ovfbase + 128 * (n % 2 ^ q.ovfsize)

/-- R237: whether a ring is full. -/
def Queue.ringFull (q : Queue) : Bool := (q.tail - q.head).toNat == 2 ^ q.qsize
def Queue.ovfFull (q : Queue) : Bool := (q.ovftail - q.ovfhead).toNat == 2 ^ q.ovfsize

/-- A slot of a ring is written, where the address can be (log 34); none for a replayable miss. -/
def State.slotWrite (s : State) (die asid va : Nat) (l : List Byte) : Option State :=
  match s.translateDie die asid va with
  | (s, .leaf f) =>
    let pa := f.pa + va % pageBytes f.level
    some (if windowOf va = .priv ∧ f.canWrite ∧ f.fmt = 0 ∧ memoryExists pa 128 then s.homeWrite (placed pa l) else s)
  | (_, .replay) => none
  | (s, .absent) | (s, .malformed) | (s, .hole _) => some s

/-- R237: the code for a record that is queued now, and the slot that it takes. -/
def Queue.slotFor (q : Queue) (asid : Nat) : Nat × Option Nat :=
  if q.enable = false ∨ q.asid ≠ asid ∨ q.devq = false then (3, none)
  else if q.ringFull || q.ovftail != q.ovfhead then
    if q.ovfFull then (2, none) else (1, some (q.ovfSlot q.ovftail.toNat))
  else (0, some (q.ringSlot q.tail.toNat))

/-- A queue after a slot has been written for a code. -/
def Queue.took (q : Queue) (code : Nat) : Queue :=
  if code = 1 then { q with ovftail := q.ovftail + 1 } else { q with tail := q.tail + 1 }

/-- R237: a record is queued: the state and the code; or the address of a replayable miss on its slot (log 34). -/
def State.enqueue (s : State) (die asid n : Nat) (l : List Byte) : Except Nat (State × Nat) :=
  let qk := queueKey die n
  match (s.queue qk).slotFor asid with
  | (code, none) => .ok (s, code)
  | (code, some va) =>
    match s.slotWrite die asid va l with
    | none => .error va
    | some s => .ok (s.setQueue qk ((s.queue qk).took code), code)

/-- LAUNCH: R376, R237, R236. -/
def execLaunch (d a b : SReg) (s : State) : Host.Outcome State Fault Refusal :=
  s.run { sup := false, privileged := false, names := [], access := true } fun c w =>
    let va := (w.s a).toNat
    let word := (w.s b).toNat
    if va % 128 ≠ 0 ∨ windowOf va ≠ .priv then .trap s 0x12 1 false
    else if 256 ≤ word then .trap s 0x12 2 false
    else match s.place w .load 128 false [((firstLane c.lanes).getD 0, w.s a)] with
      | .ends x => x
      | .go s ps =>
        let pa := (ps.map fun p => p.pa).headD 0
        let s := s.releaseCore w.coreK
        let s := s.homeRead pa 128 0 false
        match s.enqueue w.die w.asid word (s.bytes pa 128) with
        | .error va => s.missStop w va
        | .ok r => .done (r.1.onWarp c.warp fun w => w.setS d (BitVec.ofNat 64 r.2))

/-- The lanes of a set are triggered. -/
def Warp.trigger (w : Warp) (lanes : LaneSet) : Warp := w.onLanes lanes fun l => { l with triggered := true }

/-- TRIGGER: R433, R238, R161. -/
def execTrigger (s : State) : Host.Outcome State Fault Refusal :=
  s.run (userOnly []) fun c w =>
    let s := (s.releaseCore w.coreK).onWarp c.warp fun w => w.trigger c.lanes
    .done (s.checkGangTriggered w.gang)

/-- Whether the launch of a gang names a schedule table. -/
def State.hasSched (s : State) (g : Nat) : Bool :=
  match mfind s.gangs g with
  | none => false
  | some x => match mfind s.launches x.launch with
    | none => false
    | some l => l.schedVa != 0

/-- NEXT: R397, R239. -/
def execNext (d : SReg) (p : PReg) (s : State) : Host.Outcome State Fault Refusal :=
  s.run (userOnly []) fun c w =>
    if s.hasSched w.gang = false then .trap s 0x12 3 false
    else
      let k := s.core w.coreK
      let entry := k.sched.bind fun t =>
        if t.gang = w.gang ∧ t.member = w.member then (t.entries[t.cursor]?).map fun x => (t, x) else none
      match entry with
      | some (t, x) =>
        let s := s.setCore w.coreK { k with sched := some { t with cursor := t.cursor + 1 } }
        .done (s.setWarp c.warp ((w.setS d (BitVec.ofNat 64 x)).setP p c.lanes 0))
      | none => .done (s.setWarp c.warp ((w.setS d 0xFFFFFFFF).setP p c.lanes c.lanes))

/-- ASYNC_TRAP_ENTRY: R246, 09 R207, 07 R179. The first cause that a warp is owed and that may be taken now is taken before
its next issue, by the group that would issue. In supervisor mode it kills the context (R245). -/
def execAsyncTrapEntry (k : Nat) (s : State) : Host.Outcome State Fault Refusal :=
  match s.warp k with
  | none => .next s
  | some w =>
    match w.asyncDue, w.primary with
    | some a, some (pc, lanes) => .next ((s.setWarp k { w with async := w.async.erase a }).takeTrap k lanes pc a.cause a.info)
    | _, _ => .next s

end Sys2Proof.Machine
end

