-- ==== Sys2Proof/Machine/Header.lean ====
section
/-!
DEFINITION. The header and dependency beats of a packet (07 R168), when a header is malformed (R174), and packets that no
unit of this model forms: H's accesses to memory (19 R292) and malformed ones (log 35).
-/

namespace Sys2Proof.Machine

/-- R167: the TYPE of a packet; mailbox and firmware messages are the accesses to the control aperture with their answers, and
what the firmware writes. -/
def Packet.type (p : Packet) : Nat :=
  match p.body with
  | .write _ => if p.src = 9 then 7 else 0
  | .contribution _ => 0
  | .readReq .. | .waitReq _ | .prefetch .. => 1
  | .readReply .. | .waitReply .. => 2
  | .atomicReq .. | .casReq .. => 3
  | .atomicReply .. => 4
  | .reduction .. => 5
  | .carrier => 6
  | .register .. => 7
  | .floorBeat _ => 8
  | .malformed => 9

/-- R168: OFFSET, the place in the destination's memory; in a reply the request's tag. -/
def Packet.offset (p : Packet) : Nat :=
  match p.body with
  | .write l => (l.map Prod.fst).headD 0 % 2 ^ 48
  | .readReq parts _ _ _ => (parts.map Prod.fst).headD 0 % 2 ^ 48
  | .atomicReq _ lanes _ _ | .reduction _ lanes => (lanes.map Prod.fst).headD 0 % 2 ^ 48
  | .casReq _ lanes _ _ => (lanes.map Prod.fst).headD 0 % 2 ^ 48
  | .waitReq m => m.addr % 2 ^ 48
  | .prefetch a _ _ _ => a % 2 ^ 48
  | .readReply req _ | .atomicReply req _ => req % 2 ^ 16
  | .waitReply m _ => m.id % 2 ^ 16
  | .register o _ _ _ => o
  | .carrier | .contribution _ | .floorBeat _ | .malformed => 0

/-- R168: an entry as 24 bits. -/
def entryBits (e : Nat × Nat × Nat) : Nat := e.1 + 2 ^ 4 * e.2.1 + 2 ^ 8 * e.2.2

/-- R168: the header beat. -/
def Packet.header (p : Packet) : BitVec 128 :=
  let ent := fun n => (p.entries[n]?.map entryBits).getD 0
  BitVec.ofNat 128 (p.type + 2 ^ 4 * p.src + 2 ^ 8 * p.dst + 2 ^ 12 * p.cls + 2 ^ 14 * (if 2 < p.entries.length then 1 else 0) +
    2 ^ 15 * min 2 p.entries.length + 2 ^ 17 * p.body.beats + 2 ^ 21 * p.asid + 2 ^ 32 * p.offset + 2 ^ 80 * ent 0 +
    2 ^ 104 * ent 1)

/-- R168: the dependency beat, with the entries after the first two. -/
def Packet.depBeat (p : Packet) : BitVec 256 :=
  BitVec.ofNat 256 (((List.range 8).map fun n => 2 ^ (24 * n) * (p.entries[n + 2]?.map entryBits).getD 0).sum)

/-- R168: the entry in 24 bits. -/
def entryOf (x : Nat) : Nat × Nat × Nat := (fld x 0 4, fld x 4 4, fld x 8 16)

/-- R168: the entries of a header, and all slots of its dependency beat. -/
def headerOwn (h : BitVec 128) : List (Nat × Nat × Nat) :=
  (List.range (fld h.toNat 15 2)).map fun n => entryOf (fld h.toNat (80 + 24 * n) 24)
def beatSlots (h : BitVec 128) (d : BitVec 256) : List (Nat × Nat × Nat) :=
  if fld h.toNat 14 1 = 1 then (List.range 8).map fun n => entryOf (fld d.toNat (24 * n) 24) else []

/-- R168: whether a slot of a dependency beat is unused. -/
def slotUnused (e : Nat × Nat × Nat) : Bool := e.2.2 == 0 && e.1 == e.2.1

/-- R168: the entries that a header and its dependency beat hold, unused slots apart. -/
def headerEntries (h : BitVec 128) (d : BitVec 256) : List (Nat × Nat × Nat) :=
  headerOwn h ++ (beatSlots h d).filter fun e => !slotUnused e

/-- R174: whether a header is malformed: a reserved TYPE, an index of 10 to 15 in any slot, an entry whose src equals its dst
outside an unused slot, or a reserved bit that is not zero (R168). NENT = 3 and a LEN above 8, which R168 does not define, count
as malformed too (log 75). -/
def headerBad (h : BitVec 128) (d : BitVec 256) : Bool :=
  let x := h.toNat
  let nent := fld x 15 2
  decide (9 ≤ fld x 0 4) || decide (10 ≤ fld x 4 4) || decide (10 ≤ fld x 8 4) || nent == 3 || decide (9 ≤ fld x 17 4) ||
    (nent == 0 && fld x 80 24 != 0) || (decide (nent < 2) && fld x 104 24 != 0) ||
    ((fld x 0 4 == 2 || fld x 0 4 == 4) && fld x 48 32 != 0) || (fld x 14 1 == 1 && fld d.toNat 192 64 != 0) ||
    ((headerOwn h ++ beatSlots h d).any fun e => decide (10 ≤ e.1) || decide (10 ≤ e.2.1)) ||
    (headerEntries h d).any fun e => e.1 == e.2.1

/-- What a packet from outside asks for, by its TYPE, OFFSET and payload. A read's payload is its length in its first
eight bytes; an operation code stands in the first eight and operands in the next, as R167 lists them (log 35). -/
def outsideBody (h : BitVec 128) (l : List Byte) : PacketBody :=
  let x := h.toNat
  let off := fld x 32 48
  let pa := 2 ^ 48 * fld x 8 4 + off
  let tag := off % 2 ^ 16
  let word := fun n => leNat ((l.drop (8 * n)).take 8)
  let within := fun n => memoryExists pa n && decide (off % 128 + n ≤ 128)
  match fld x 0 4 with
  | 0 => if within l.length then .write (placed pa l) else .carrier
  | 1 => if word 0 ≠ 0 ∧ within (word 0) then .readReq [(pa, word 0)] (word 1) false 0 else .carrier
  | 2 | 4 => .readReply tag l
  | 3 =>
    if word 0 = 32 ∧ within 8 then .casReq true [(pa, BitVec.ofNat 64 (word 1), BitVec.ofNat 64 (word 2))] false (word 3)
    else match atomOp (word 0) with
      | some op => if within (atomBytes op) then .atomicReq op [(pa, BitVec.ofNat 64 (word 1))] false (word 3) else .carrier
      | none => .carrier
  | 5 => (match atomOp (word 0) with
    | some op => if within (atomBytes op) then .reduction op [(pa, BitVec.ofNat 64 (word 1))] else .carrier
    | none => .carrier)
  | 8 => .floorBeat (agents.foldl (fun t k => mset 0 t k (leNat ((l.drop (2 * k)).take 2))) [])
  | 7 => .register off 8 (if l.isEmpty then none else some (BitVec.ofNat 64 (word 0))) (word 1)
  | _ => .carrier

/-- A packet from outside on the channel from src to dst: the header tells, the channel is the one it came in on. -/
def outsidePacket (src dst : Nat) (h : BitVec 128) (d : BitVec 256) (l : List Byte) : Packet :=
  let bad := headerBad h d || fld h.toNat 8 4 != dst
  { src := src, dst := dst, cls := fld h.toNat 12 2, asid := fld h.toNat 21 11,
    entries := if bad then [] else headerEntries h d, body := if bad then .malformed else outsideBody h l, warp := none,
    op := none }

end Sys2Proof.Machine
end

