-- ==== Sys2Proof/Machine/Deliver.lean ====
section
/-!
DEFINITION. The causeway at work: arrival and delivery of packets and what each does (07 R167, R171, R173, R174), floor
beats (R172), token buckets (R175), departures (R178, R179, R184, 11 R220), reseals (R180) and link widths (R181, R182,
16 R264).
-/

namespace Sys2Proof.Machine

/-! ### Commands of a die -/

/-- A change to the queued copies, collectives and matrix commands of a die. -/
def State.onCommands (s : State) (die : Nat) (f : CopyCmd → CopyCmd) (g : MatrixCmd → MatrixCmd) : State :=
  let d := s.die die
  let s := if d.colls.isEmpty then s else s.setDie die { d with colls := d.colls.map fun x => (f x.1, x.2) }
  { s with
    clusters := s.clusters.map fun e => if e.1 / 4 = die then (e.1, { e.2 with cq := e.2.cq.map f }) else e,
    cores := s.cores.map fun e => if e.1 / 32 = die then (e.1, { e.2 with mq := e.2.mq.map g }) else e }

/-- A change to the command of a number. -/
def State.onCommand (s : State) (die id : Nat) (f : CopyCmd → CopyCmd) (g : MatrixCmd → MatrixCmd) : State :=
  s.onCommands die (fun c => if c.id = id then f c else c) (fun c => if c.id = id then g c else c)

/-- A packet of an outstanding store is accounted for. -/
def Warp.storePacket (w : Warp) (id : Nat) : Warp :=
  { w with stores := w.stores.map fun o => if o.id = id then { o with packets := o.packets - 1 } else o }

/-- R157: the packet of a store or command has been performed. -/
def State.packetDone (s : State) (p : Packet) : State :=
  match p.op, p.warp with
  | none, _ => s
  | some id, some k => (s.onOwner k p.src p.asid fun w => w.storePacket id).stirCtx p.src p.asid
  | some id, none =>
    (s.onCommand p.src id (fun c => { c with packets := c.packets - 1 })
      (fun c => { c with packets := c.packets - 1 })).stirCtx p.src p.asid

/-! ### What a delivered packet does (R171) -/

/-- A reply reaches an outstanding load: its registers' values are known (22 R378). -/
def LoadOp.arrive (l : LoadOp) (req : Nat) (bytes : List Byte) : LoadOp :=
  match l.waiting.find? fun q => q.req == req with
  | none => l
  | some q =>
    { l with ready := l.ready ++ q.parts.flatMap (fun p => p.regs bytes l.cvtmode),
             waiting := l.waiting.filter fun q => q.req ≠ req }

/-- A sector fetched from another agent is merged into an L1 (05 R125). -/
def State.fillSectorOf (s : State) (ck sector : Nat) (bytes : List Byte) : State :=
  if mhas (s.core ck).uo (sector / 4) then s else s.setSector ck sector ((s.sector ck sector).merge bytes)

/-- The sector that a reply may fill: none once the core has acquired since the request (06 R145, R149). -/
def Warp.fillOf (w : Warp) (req acquires : Nat) : Option Nat :=
  w.loads.findSome? fun l => (l.waiting.find? fun q => q.req == req).bind fun q => q.fill.bind fun f =>
    if f.2 = acquires then some f.1 else none

/-- A read or atomic reply reaches warp k of a context. -/
def State.warpReply (s : State) (k die asid req : Nat) (bytes : List Byte) : State :=
  let arrive := fun (w : Warp) =>
    let loads := w.loads.map fun (l : LoadOp) => l.arrive req bytes
    ({ w with loads := loads } : Warp).stir
  let t := (s.onOwner k die asid arrive).stirCtx die asid
  match s.warp k with
  | none => t
  | some w =>
    if w.ofCtx die asid then
      match w.fillOf req (s.core w.coreK).acquires with
      | some x => t.fillSectorOf w.coreK x bytes
      | none => t
    else t

/-- The bytes of a reply reach a command. -/
def gotBytes (die : Nat) (asked : Option Asked) (fetched : SMap Byte) (req : Nat) (bytes : List Byte) :
    Option Asked × SMap Byte :=
  match asked with
  | some a =>
    if a.req = req then
      let far := a.parts.filter fun p => ownerOf p.1 ≠ die
      (none, (replyBytes far bytes).foldl (fun m e => mput m e.1 e.2) fetched)
    else (asked, fetched)
  | none => (asked, fetched)

/-- A read reply reaches a command of a die. -/
def State.commandReply (s : State) (die id req : Nat) (bytes : List Byte) : State :=
  s.onCommand die id
    (fun c => let r := gotBytes die c.asked c.fetched req bytes; { c with asked := r.1, fetched := r.2 })
    (fun c => let r := gotBytes die c.asked c.fetched req bytes; { c with asked := r.1, fetched := r.2 })

/-- A prefetched sector reaches the core that asked for it (05 R128), or what H read reaches H (19 R292). -/
def State.prefetchReply (s : State) (die req : Nat) (bytes : List Byte) : State :=
  if die = 8 then { s with host := { s.host with replies := mput s.host.replies req bytes } }
  else match s.cores.find? fun e => e.1 / 32 == die && mhas e.2.fills req with
    | none => s
    | some (ck, c) =>
      let sector := mget 0 c.fills req
      let s := s.setCore ck { c with fills := mdel c.fills req }
      if (s.sector ck sector).full then s else s.fillSectorOf ck sector bytes

/-- Whether a monitor's waiter still waits for that arming. -/
def State.wants (s : State) (m : Monitor) : Bool :=
  match m.waiter with
  | .warp k =>
    let saved := mfind (s.ctx (ctxKey m.die m.asid)).savedWarps k
    [s.warp k, saved].any fun o => o.any fun w => m.isArmedAs w.armed || m.isArmedAs w.supArmed
  | .launch lid => (mfind s.launches lid).any fun l => m.isArmedAs l.waiting

/-- A `waitc` from another die reaches the home of its location (24 R438): it is met at once, armed, or answered that no
monitor is free (11 R218). -/
def State.waitAt (s : State) (m : Monitor) : State :=
  if s.wants m then
    let a := ownerOf m.addr
    let r := s.armMonitor m
    if r.2.2 then r.1.latch a m r.2.1
    else if (r.1.die a).monitors.contains m then r.1
    else r.1.send (mkPacket a m.die 0 m.asid (.waitReply m none) none none)
  else s

/-- R218: no monitor was free: the warp polls. -/
def Warp.unarmed (w : Warp) (m : Monitor) : Warp :=
  let polls := fun (w : Warp) => match w.stop with
    | .monitor x _ => { w with stop := .monitor x true }
    | .running | .barrier _ | .waitn .. | .fault .. | .bucket _ | .scoreboard | .engine => w
  if m.isArmedAs w.armed then polls { w with armed := none }
  else if m.isArmedAs w.supArmed then polls { w with supArmed := none }
  else w

/-- The same for a launch's WAITSIG, which the front end asks for again. -/
def Launch.unarmed (l : Launch) (m : Monitor) : Launch := if m.isArmedAs l.waiting then { l with waiting := none } else l

/-- The answer to an arming reaches what waits. -/
def State.waitAnswer (s : State) (m : Monitor) (x : Option Xword) : State :=
  match x with
  | some v => s.onWaiter m (fun w => w.takeLatch m v) (fun l => l.takeLatch m)
  | none => s.onWaiter m (fun w => w.unarmed m) (fun l => l.unarmed m)

/-- A packet performed at its destination, but for accesses to the control aperture (19 R293). -/
def State.perform (s : State) (p : Packet) : State :=
  let reply := fun (s : State) (b : PacketBody) => s.send (mkPacket p.dst p.src p.cls p.asid b p.warp p.op)
  match p.body with
  | .write bytes => (s.homeWrite bytes).packetDone p
  | .readReq parts req acquire rcount =>
    let s := parts.foldl (fun s x => s.homeReadAll x.1 x.2 rcount acquire) s
    reply s (.readReply req (parts.flatMap fun x => s.bytes x.1 x.2))
  | .readReply req bytes =>
    (match p.warp, p.op with
      | some k, _ => s.warpReply k p.dst p.asid req bytes
      | none, some id => s.commandReply p.dst id req bytes
      | none, none => s.prefetchReply p.dst req bytes)
  | .atomicReq op lanes acquire req =>
    let s := if acquire then lanes.foldl (fun s e => s.pullAt e.1 (atomBytes op)) s else s
    let r := s.homeAtomics op lanes
    reply r.1 (.atomicReply req r.2)
  | .casReq wide lanes acquire req =>
    let s := if acquire then lanes.foldl (fun s e => s.pullAt e.1 (if wide then 8 else 4)) s else s
    let r := s.homeCases wide lanes
    reply r.1 (.atomicReply req r.2)
  | .atomicReply req olds =>
    let bytes := olds.flatMap fun x => leBytes 8 x.toNat
    (match p.warp with
      | some k => s.warpReply k p.dst p.asid req bytes
      | none => s.prefetchReply p.dst req bytes)
  | .reduction op lanes => (lanes.foldl (fun s e => (s.homeAtomic op e.1 e.2).1) s).packetDone p
  | .waitReq m => s.waitAt m
  | .waitReply m x => s.waitAnswer m x
  | .prefetch addr gang lanes req =>
    (match gang with
      | some g => s.keepAt (lineOf addr) g (ctxKey p.src p.asid) lanes
      | none =>
        let s := (s.fillLine p.dst (lineOf addr)).recall p.dst (lineOf addr)
        reply s (.readReply req (s.bytes addr 128)))
  | .carrier | .contribution _ => s.packetDone p
  | .register .. | .floorBeat _ | .malformed => s

/-! ### Channels -/

/-- The packets of a channel that are under way, and those that have arrived. -/
def Causeway.fly (c : Causeway) (i j : Nat) : List Packet := mget [] c.flying (channelKey i j)
def Causeway.waitingAt (c : Causeway) (i j : Nat) : List Packet := mget [] c.held (channelKey i j)

def Causeway.setFly (c : Causeway) (i j : Nat) (l : List Packet) : Causeway :=
  { c with flying := mset [] c.flying (channelKey i j) l }
def Causeway.setHeld (c : Causeway) (i j : Nat) (l : List Packet) : Causeway :=
  { c with held := mset [] c.held (channelKey i j) l }

/-- The next packet of a channel arrives, where its holding buffer takes it (R173). -/
def State.arrive (s : State) (src dst : Nat) : State :=
  match (s.cway.fly src dst).find? fun p => !p.isBeat with
  | none => s
  | some p =>
    if s.cway.hasSlot src dst then
      let c := s.cway.setFly src dst (dropFirst (fun p => !p.isBeat) (s.cway.fly src dst))
      { s with cway := c.setHeld src dst (c.waitingAt src dst ++ [p]) }
    else s

/-- PACKET_ARRIVE: R173. The next packet of a channel arrives; or an agent sends one that no unit of this model forms, given
by its beats (log 35): it goes out as every packet of that agent does, with the entries that R170 gives it. -/
def execPacketArrive (src dst : Nat) (outside : Option (BitVec 128 × BitVec 256 × List Byte)) (s : State) :
    Host.Outcome State Fault Refusal :=
  match outside with
  | none => .next (s.arrive src dst)
  | some (h, d, l) =>
    if 9 < src ∨ 9 < dst ∨ src = dst ∨ s.gone src ∨ s.gone dst then .next s
    else
      let p := outsidePacket src dst h d l
      match p.body with
      | .floorBeat counts => .next (if s.cway.reseal = .normal then { s with cway := s.cway.sendBeat src dst counts } else s)
      | _ => .next (s.send { p with entries := [] })

/-- R174: a malformed packet is counted and the context that it names is killed on the die that sent it. -/
def State.malformedAt (s : State) (p : Packet) : State :=
  let s := if p.dst < 8 then s.setDie p.dst { s.die p.dst with badPackets := (s.die p.dst).badPackets + 1 } else s
  if p.src < 8 ∧ (s.ctx (ctxKey p.src p.asid)).bound then s.kill p.src p.asid 4 KillInfo.none else s

/-- Whether a packet is an access by a virtual address, still to be performed. -/
def Packet.isAccess (p : Packet) : Bool :=
  match p.body with
  | .write _ | .readReq .. | .atomicReq .. | .casReq .. | .reduction .. | .waitReq _ | .prefetch .. => true
  | .readReply .. | .atomicReply .. | .waitReply .. | .carrier | .contribution _ | .register .. | .floorBeat _
  | .malformed => false

/-- What a `tlbi` may wait for has been performed, where no counter counts it (24 R431). -/
def State.stirSender (s : State) (p : Packet) : State :=
  if p.op.isNone && p.isAccess && decide (p.src < 8) then s.stirCtx p.src p.asid else s

/-- R171, R174: the packet at the head of what has arrived on a channel is delivered, where it may be, and performed. -/
def State.deliverBy (s : State) (perform : State → Packet → State) (src dst : Nat) : State :=
  match s.cway.waitingAt src dst with
  | [] => s
  | p :: rest =>
    if s.deliverable p then
      let t : State := { s with cway := s.cway.setHeld src dst rest }
      if p.bad then (t.counted { p with entries := [] }).malformedAt p
      else (perform (t.counted p) p).stirSender p
    else s

/-- Whether nothing is under way from i to j, or waits at either end; floor beats apart. -/
def Causeway.clear (c : Causeway) (i j : Nat) : Bool :=
  (c.queuedAt i j).isEmpty && (c.fly i j).all Packet.isBeat && (c.waitingAt i j).isEmpty

/-- The next packet from i to j arrives and is delivered; none where it may not be yet. -/
def State.deliverNext (s : State) (perform : State → Packet → State) (i j : Nat) : Option State :=
  let t := s.arrive i j
  match t.cway.waitingAt i j with
  | [] => none
  | p :: _ => if t.deliverable p then some (t.deliverBy perform i j) else none

/-- What is under way from i to j arrives and is delivered; none where something may not be yet. -/
def State.drainChannel (s : State) (perform : State → Packet → State) (i j : Nat) : Option State :=
  ((s.cway.fly i j).filter fun p => !p.isBeat).foldl (fun o _ => o.bind fun s => s.deliverNext perform i j) (some s)

/-- A packet that is delivered in the step that sends it: where nothing stands before it on its channel, it may be injected, and
it may be delivered. -/
def State.atOnce (s : State) (perform : State → Packet → State) (p : Packet) : Option State :=
  if s.gone p.dst || !s.cway.clear p.src p.dst || !s.cway.mayInject p.src p.dst (s.cway.carriersNow p.src p.dst + 1) then none
  else (s.send p).drainChannel perform p.src p.dst

/-- A read by a unit of agent i of another agent's memory, whose request and reply are both delivered at once; none where the
read has to be tried again (log 54). -/
def State.readAtOnce (s : State) (i a asid pa n : Nat) (acquire : Bool) : Option State :=
  let r := s.fresh
  if !s.cway.clear a i then none
  else (r.2.atOnce State.perform (mkPacket i a 3 asid (.readReq [(pa, n)] r.1 acquire 0) none none)).bind fun t =>
    if (t.cway.queuedAt a i).isEmpty then t.drainChannel State.perform a i else none

/-! ### Floor beats (R172) -/

/-- Whether an agent has something to tell another by a floor beat. -/
def Causeway.beatDue (c : Causeway) (m j : Nat) : Bool :=
  m != j && !(c.fly m j).any (fun p => p.isBeat) &&
    agents.any fun k => c.D m k != mget 0 c.beats (256 * m + 16 * j + k)

/-- FLOOR_BEAT_SEND: R172. A reseal stops it like every injection (R180). -/
def execFloorBeatSend (src dst : Nat) (s : State) : Host.Outcome State Fault Refusal :=
  if s.gone dst ∨ s.gone src ∨ src = dst ∨ s.cway.reseal ≠ .normal then .next s
  else .next { s with cway := s.cway.sendBeat src dst (s.cway.deliveries src) }

/-- R172: a receiver j sets its floors from D of m, and clears the entries (k, m) that are not newer: each stands at the floor
from then on, and is not carried (log 73). -/
def Causeway.takeBeat (c : Causeway) (m j : Nat) (d : SMap Nat) : Causeway :=
  agents.foldl (fun c k =>
    let v := mget 0 d k
    let c := { c with floors := mset 0 c.floors (knowKey j k m) v, beats := mset 0 c.beats (256 * m + 16 * j + k) v }
    if satisfied v (c.K j k m) then
      { c with know := mset 0 c.know (knowKey j k m) v,
               dirty := agents.foldl (fun t x => mset false t (dirtyKey j x k m) false) c.dirty }
    else c) c

/-- FLOOR_BEAT_RECEIVE: R172. -/
def execFloorBeatReceive (src dst : Nat) (s : State) : Host.Outcome State Fault Refusal :=
  match (s.cway.fly src dst).find? fun p => p.isBeat with
  | none => .next s
  | some p =>
    let c := s.cway.setFly src dst (dropFirst (fun p => p.isBeat) (s.cway.fly src dst))
    match p.body with
    | .floorBeat d => .next { s with cway := c.takeBeat src dst d }
    | _ => .next s

/-! ### Token buckets (R175) -/

/-- TOKEN_BUCKET_READY: R175. A warp stopped on its demand bucket is ready again once the bucket covers the cost; its
commands that were short try again. -/
def execTokenBucketReady (k : Nat) (s : State) : Host.Outcome State Fault Refusal :=
  let s := s.onCommands (k / 2 ^ 14) (fun c => if c.warp = k then { c with short := false } else c)
    (fun c => if c.warp = k then { c with short := false } else c)
  match s.warp k with
  | none => .next s
  | some w =>
    match w.stop with
    | .bucket cost =>
      if s.mayCharge w.die w.ctxK 0 cost [] then .next (s.setWarp k w.wake) else .next s
    | .running | .monitor .. | .barrier _ | .waitn .. | .fault .. | .scoreboard | .engine => .next s

/-! ### Departures (R178, R179, R184) -/

/-- A cause is owed by a warp. -/
def Warp.owe (w : Warp) (cause : Nat) (info : Xword) : Warp := { w with async := w.async ++ [{ cause := cause, info := info }] }

/-- A warp is owed PEER; one that has ended has it reported (R179). -/
def State.owePeer (s : State) (k die asid kind agent : Nat) : State :=
  if (s.warpOf k die asid).any fun w => w.live != 0 then s.onOwner k die asid fun w => w.owe 0x0C (peerInfo kind agent)
  else s.ctxEvent die asid 0x25 agent (peerInfo kind agent)

/-- An outstanding load whose request of a number gets no reply. -/
def LoadOp.lose (l : LoadOp) (agent : Nat) (gone : LoadReq → Bool) : LoadOp :=
  if l.waiting.any gone then { l with lost := some agent } else l

/-- R179 kind 2: loads of a warp that wait for requests which a test accepts get no reply; for a warp that has ended they are
reported and gone. -/
def State.loseLoads (s : State) (k die asid agent : Nat) (gone : LoadReq → Bool) : State :=
  match s.warpOf k die asid with
  | none => s
  | some w =>
    let hit := w.loads.filter fun l => l.lost.isNone && l.waiting.any gone
    if hit.isEmpty then s
    else if w.live = 0 then
      let s := hit.foldl (fun s _ => s.ctxEvent die asid 0x25 agent (peerInfo 2 agent)) s
      (s.onOwner k die asid fun w =>
        let loads := w.loads.filter fun l => !hit.any fun x => x.id == l.id
        ({ w with loads := loads } : Warp).stir).stirCtx die asid
    else
      (s.onOwner k die asid fun w =>
        let loads := w.loads.map fun (l : LoadOp) => l.lose agent gone
        ({ w with loads := loads } : Warp).stir).stirCtx die asid

/-- A warp with an arming that will not latch taken off. -/
def Warp.disarmed (w : Warp) (m : Monitor) : Warp :=
  { w with armed := if m.isArmedAs w.armed then none else w.armed,
           supArmed := if m.isArmedAs w.supArmed then none else w.supArmed }

/-- Whether a warp is stopped in the `waitc` of an arming. -/
def Warp.stoppedIn (w : Warp) (m : Monitor) : Bool :=
  m.isArmedAs (if w.priv then w.supArmed else w.armed) && (match w.stop with
    | .monitor .. => true
    | .running | .barrier _ | .waitn .. | .fault .. | .bucket _ | .scoreboard | .engine => false)

/-- R220: a monitor of warp k is removed: the warp traps with PEER kind 2 at its `waitc`; one that is switched out, or does
not stand in it, before its next issue. -/
def State.loseMonitor (s : State) (k : Nat) (m : Monitor) (agent : Nat) : State :=
  let owes := fun (w : Warp) => ((w.disarmed m).owe 0x0C (peerInfo 2 agent)).wake
  match s.warpOf k m.die m.asid, s.warp k with
  | some w, some r =>
    (match w.primary with
      | some (pc, lanes) =>
        if r = w ∧ w.stoppedIn m then (s.setWarp k (w.disarmed m).wake).takeTrap k lanes pc 0x0C (peerInfo 2 agent)
        else s.onOwner k m.die m.asid owes
      | none => s.onOwner k m.die m.asid owes)
  | some _, none => s.onOwner k m.die m.asid owes
  | none, _ => s

/-- R220: the same for a monitor of whatever waits for it. A launch's WAITSIG asks again, and goes unanswered. -/
def State.loseWaiter (s : State) (m : Monitor) (agent : Nat) : State :=
  match m.waiter with
  | .warp k => s.loseMonitor k m agent
  | .launch lid => { s with launches := mupd s.launches lid fun l => l.unarmed m }

/-- R197, R207: traffic of a command was discarded, at an address; `wrote` where it was a write of the command. A matrix
command is reported once, for its first write; one that waits for a reply asks again, and meets the departed owner. -/
def State.loseCommand (s : State) (die id agent va : Nat) (wrote first : Bool) : State :=
  let n := if wrote then 1 else 0
  let hit := s.cores.findSome? fun e => if e.1 / 32 = die then e.2.mq.find? fun c => c.id == id else none
  let s := s.onCommand die id
    (fun c => { c with packets := c.packets - n, asked := none, fault := some (c.fault.getD (0x0C, va)) })
    (fun c => { c with packets := c.packets - n, asked := none })
  match hit with
  | some c => if wrote && first then s.matrixFault c 0x0C (peerInfo 1 agent) else s
  | none => s

/-- Whether PEER kind 1 reports the loss of a packet (R179). -/
def Packet.owesPeer (p : Packet) : Bool :=
  match p.body with
  | .write _ | .reduction .. | .atomicReq .. | .casReq .. => true
  | .readReq .. | .readReply .. | .atomicReply .. | .waitReq _ | .waitReply .. | .prefetch .. | .carrier | .contribution _ | .register ..
  | .floorBeat _ | .malformed => false

/-- Whether two discarded packets have one issuer, which receives one report for them: a warp, or a command (log 28). -/
def Packet.sameIssuer (p q : Packet) : Bool :=
  p.owesPeer && q.owesPeer && p.src == q.src && p.asid == q.asid && p.warp == q.warp && (p.warp.isSome || p.op == q.op)

/-- R178 step 4, R179: what the issuer of a discarded packet receives; `first` for the first packet of the issuer. -/
def State.discarded (s : State) (agent : Nat) (p : Packet) (first : Bool) : State :=
  let lose := fun (s : State) (req : Nat) => match p.warp with
    | some k => s.loseLoads k p.src p.asid agent fun q => q.req == req
    | none => s
  match p.body with
  | .write _ | .reduction .. =>
    (match p.warp, p.op with
      | some k, _ => (if first then s.owePeer k p.src p.asid 1 agent else s).packetDone p
      | none, some id => s.loseCommand p.src id agent p.va true first
      | none, none => s)
  | .readReq _ req _ _ =>
    (match p.warp, p.op with
      | none, some id => s.loseCommand p.src id agent p.va false first
      | _, _ => lose s req)
  | .atomicReq _ _ _ req | .casReq _ _ _ req =>
    (match p.warp with
      | some k => lose (if first then s.owePeer k p.src p.asid 1 agent else s) req
      | none => s)
  | .waitReq m => if s.wants m then s.loseWaiter m agent else s
  | .prefetch _ _ _ req =>
    { s with cores := s.cores.map fun e => if e.1 / 32 = p.src then (e.1, { e.2 with fills := mdel e.2.fills req }) else e }
  | .carrier | .contribution _ => s.packetDone p
  | .readReply .. | .atomicReply .. | .waitReply .. | .register .. | .floorBeat _ | .malformed => s

/-- The packets that have arrived from a die and are still to be delivered. -/
def Causeway.heldFrom (c : Causeway) (die : Nat) : List Packet := agents.flatMap fun j => c.waitingAt die j

/-- The request numbers whose replies are among some packets. -/
def repliesIn (l : List Packet) : List Nat :=
  l.filterMap fun p => match p.body with
    | .readReply req _ | .atomicReply req _ => some req
    | _ => none

/-- R179 kind 2: warps and engines that wait for a departed die's replies lose them, but for those that have arrived. -/
def State.loseReplies (s : State) (die : Nat) : State :=
  let kept := repliesIn (s.cway.heldFrom die)
  let gone := fun (q : LoadReq) => q.agent == die && !kept.contains q.req
  let ws := s.warps ++ s.ctxs.flatMap fun e => e.2.savedWarps
  let s := (ws.filter fun e => e.2.die ≠ die).foldl (fun s e => s.loseLoads e.1 e.2.die e.2.asid die gone) s
  let lost := fun (a : Asked) => (a.parts.any fun x => ownerOf x.1 == die) && !kept.contains a.req
  let hit := fun (d id : Nat) (o : Option Asked) => match o with
    | some a => if d ≠ die ∧ lost a then [(d, id, a.va)] else []
    | none => []
  let copies := s.clusters.flatMap fun e => e.2.cq.flatMap fun c => hit (e.1 / 4) c.id c.asked
  let colls := s.dies.flatMap fun e => e.2.colls.flatMap fun c => hit e.1 c.1.id c.1.asked
  let mats := s.cores.flatMap fun e => e.2.mq.flatMap fun c => hit (e.1 / 32) c.id c.asked
  (copies ++ colls ++ mats).foldl (fun s x => s.loseCommand x.1 x.2.1 die x.2.2 false false) s

/-- R220: what waits for a location of a departed die loses its monitor, unless the value it latched has arrived. -/
def State.loseMonitors (s : State) (die : Nat) : State :=
  let s := s.setDie die { s.die die with monitors := [] }
  let kept := (s.cway.heldFrom die).filterMap fun p => match p.body with
    | .waitReply m _ => some m.id
    | _ => none
  let ws := s.warps ++ s.ctxs.flatMap fun e => e.2.savedWarps
  let ms := (ws.flatMap fun e => [e.2.armed, e.2.supArmed].filterMap id) ++ s.launches.filterMap fun e => e.2.waiting
  (ms.filter fun m => m.die ≠ die && ownerOf m.addr == die && !kept.contains m.id).foldl (fun s m => s.loseWaiter m die) s

/-- The contexts, by key, that import pages of a die, or that export pages which contexts of it import (R178, R184). -/
def State.touchedBy (s : State) (die : Nat) : List Nat :=
  (s.ctxs.filter fun e => e.1 / 2048 ≠ die &&
    (e.2.imports.any (fun i => i.2.any fun r => ownerOf r.pa == die) ||
     s.ctxs.any fun f => f.1 / 2048 == die && f.2.imports.any fun i => i.2.any fun r =>
       e.2.handles.any fun h => h.2.any fun p => p.1 == r.pa)).map Prod.fst

/-- R178 step 4: the packets bound for a departed die are discarded. -/
def State.discardAll (s : State) (die : Nat) (seen l : List Packet) : State :=
  match l with
  | [] => s
  | p :: r => ((s.discarded die p (!seen.any p.sameIssuer)).stirSender p).discardAll die (p :: seen) r

/-- R178 steps 2 and 3: what has arrived at live agents is delivered where its test passes: what came from the departed die,
then everything. -/
def State.releaseHeld (perform : State → Packet → State) (fuel : Nat) (s : State) (from_ : Option Nat) : State :=
  match fuel with
  | 0 => s
  | fuel + 1 =>
    let keys := (mkeys s.cway.held).filter fun k => !s.gone (k % 16) && from_.all fun d => k / 16 == d
    State.releaseHeld perform fuel (keys.foldl (fun s k => s.deliverBy perform (k / 16) (k % 16)) s) from_

/-- R178 step 4: everything bound for a departed die, and what of its own packets had not arrived whole, leaves the
causeway. -/
def Causeway.cutOff (c : Causeway) (die : Nat) : Causeway :=
  let away := fun (k : Nat) => k % 16 == die
  { c with outbox := c.outbox.filter fun e => !(away e.1 || e.1 / 16 == die),
           flying := c.flying.filter fun e => !(away e.1 || e.1 / 16 == die), held := c.held.filter fun e => !away e.1 }

/-- The packets bound for a die, channel by channel: held, in flight, queued. -/
def Causeway.boundFor (c : Causeway) (die : Nat) : List Packet :=
  (agents.flatMap fun i => c.waitingAt i die ++ c.fly i die ++ c.queuedAt i die).filter fun p => !p.isBeat

/-- The contexts of a die that are bound and not killed are killed. -/
def State.killDie (s : State) (die reason : Nat) : State :=
  (mkeys (s.ctxs.filter fun e => e.1 / 2048 == die && e.2.bound && !e.2.killed)).foldl (fun s ck =>
    s.kill die (ck % 2048) reason KillInfo.none) s

/-- R178: F4 declares a die departed; its contexts are killed for a reason (7, or 5 at a reset). Withdrawals no longer wait
for packets to it. -/
def State.depart (perform : State → Packet → State) (s : State) (die reason : Nat) : State :=
  if 8 ≤ die then s
  else if s.gone die then s.killDie die reason
  else
    let s := s.setDie die { s.die die with departed := true }
    let arrived := (s.cway.held.map fun e => e.2.length).sum
    let s := State.releaseHeld perform arrived (State.releaseHeld perform arrived s (some die)) none
    let bound := s.cway.boundFor die
    let s : State := { s with cway := s.cway.cutOff die,
                              withdrawals := s.withdrawals.map fun w => { w with waits := w.waits.filter fun x => x.src ≠ die && x.dst ≠ die } }
    let s := s.discardAll die [] bound
    let s := (s.loseReplies die).loseMonitors die
    let s := (s.touchedBy die).foldl (fun s ck => s.ctxEvent (ck / 2048) (ck % 2048) 0x20 die (BitVec.ofNat 64 die)) s
    let s := s.hostEvent [BitVec.ofNat 64 (0x20 + 2 ^ 8 * die), BitVec.ofNat 64 die]
    s.killDie die reason

/-! ### Reseals (R180) -/

/-- The die that a reseal lets rejoin: one that has departed and been reset. -/
def State.mayRejoin (s : State) (rejoin : Option Nat) : Option Nat :=
  rejoin.filter fun d => s.gone d && (s.die d).renewed

/-- RESEAL_STOP: R180 step 1. -/
def execResealStop (rejoin : Option Nat) (s : State) : Host.Outcome State Fault Refusal :=
  match s.cway.reseal with
  | .normal => .next { s with cway := { s.cway with reseal := .stopped (s.mayRejoin rejoin) } }
  | .stopped _ | .zeroed _ => .next s

/-- R180 step 2: whether every channel between live agents has delivered everything sent on it and every holding buffer of
theirs is empty. -/
def State.quiet (s : State) : Bool :=
  let live := agents.filter fun a => !s.gone a
  live.all fun j => agents.all fun i =>
    (s.cway.waitingAt i j).isEmpty && (s.gone i || (s.cway.fly i j).all fun p => p.isBeat)

/-- The causeway with every counter, dirty bit and beat count zero; beats under way carry none any more. -/
def Causeway.zeroed (c : Causeway) : Causeway :=
  { c with know := [], delivered := [], floors := [], dirty := [], beats := [], flying := [] }

/-- RESEAL_ZERO: R180 steps 2 and 3. What withdrawals wait for on the channels has been delivered. -/
def execResealZero (s : State) : Host.Outcome State Fault Refusal :=
  match s.cway.reseal with
  | .stopped r =>
    if s.quiet then
      .next { s with cway := { s.cway.zeroed with reseal := .zeroed r },
                     withdrawals := s.withdrawals.map fun w => { w with waits := w.waits.map fun x => { x with count := 0 } } }
    else .next s
  | .normal | .zeroed _ => .next s

/-! ### Die resets (19 R300) -/

/-- A die with its stacks after its reset (log 43): nothing resident, its registers and memory as at reset; departed until
it rejoins. Its TIME is the package timebase again, and does not fall (18 R285). -/
def State.reinitDie (s : State) (die : Nat) : State :=
  let s := s.setDie die { Die.atReset with timeFloor := s.timeOf die, departed := true, renewed := true }
  { s with mem := s.mem.filter fun e => ownerOf e.1 ≠ die, clusters := s.clusters.filter fun e => e.1 / 4 ≠ die,
           cores := s.cores.filter fun e => e.1 / 32 ≠ die, queues := s.queues.filter fun e => e.1 / 256 ≠ die,
           ctxs := s.ctxs.filter fun e => e.1 / 2048 ≠ die, launches := s.launches.filter fun e => e.2.die ≠ die,
           l3 := s.l3.filter fun e => ownerOf (512 * e.1) ≠ die }

/-- R300: a die reset, which is held while a reseal runs; F4 reseals before the die rejoins. -/
def State.resetDie (perform : State → Packet → State) (s : State) (die : Nat) : State :=
  match s.cway.reseal with
  | .normal =>
    let s := (s.depart perform die 5).reinitDie die
    { s with cway := { s.cway with reseal := .stopped (some die) } }
  | .stopped _ | .zeroed _ => { s with cway := { s.cway with resetsHeld := distinct (s.cway.resetsHeld ++ [die]) } }

/-- R180 step 4: injection is on again, the die that the reseal was made for is live, and a command that asked for the reseal is
answered (19 R295). -/
def State.reenable (s : State) (rejoin : Option Nat) : State :=
  let s := { s with cway := { s.cway with reseal := .normal } }
  let s := match rejoin with
    | some d => s.setDie d { s.die d with departed := false, renewed := false }
    | none => s
  match s.host.resealFor with
  | some rec => ({ s with host := { s.host with resealFor := none } } : State).answer rec 0 []
  | none => s

end Sys2Proof.Machine
end

