-- ==== Sys2Proof/Machine/Collectives.lean ====
section
/-!
DEFINITION. The collective engine of a die (09 R198, 18 R289, 16 R274): the members' inputs, the operations on them, the
writing of the results, and the ends that write none.
-/

namespace Sys2Proof.Machine

/-! ### The operations (R198) -/

/-- The values of one element combined in f32 in increasing rank, and rounded once to TYPE. -/
def collCombine (f : Fmt) (larger : Bool) (l : List Nat) : Nat :=
  match l.map fun x => Fmt.f32.rne (f.value x) with
  | [] => 0
  | x :: r => f.rne (Fmt.f32.value (r.foldl (fun a y => if larger then fPick .f32 true a y else fAdd .f32 a y) x))

/-- What rank i of n finds in element k of a box of m elements afterwards; none where it is left as it is. `inputs` are
the members' boxes in rank order. -/
def collResult (op root n m i k : Nat) (f : Fmt) (inputs : List (List Nat)) : Option Nat :=
  let column := inputs.map fun l => l.getD k 0
  let owner := k / (m / n)
  match op with
  | 0 => some (collCombine f false column)
  | 1 => some (collCombine f true column)
  | 2 => some (column.getD owner 0)
  | 3 => if owner = i then some (collCombine f false column) else none
  | _ => if i = root then none else some (column.getD root 0)

/-- Whether a box of m elements and a ROOT suit a chain of n (R332). -/
def collFits (op root n m : Nat) : Bool := !((op == 2 || op == 3) && m % n != 0) && !(op == 4 && decide (n ≤ root))

/-! ### Queued collectives -/

/-- The record of a collective, and its word. -/
def CopyCmd.collRec (c : CopyCmd) : List Xword :=
  match c.kind with
  | .collective r _ => r
  | .linear .. | .tensor .. | .multicast .. | .indexed .. => []
def CopyCmd.collTy (c : CopyCmd) : Ty := (recType c.collRec).getD .b8

/-- Nothing holds a collective up. -/
def CopyCmd.idle (c : CopyCmd) : Bool := c.packets == 0 && c.paused.isNone && c.asked.isNone && !c.short

/-- A change to a collective of a die. -/
def State.onColl (s : State) (die id : Nat) (f : CopyCmd → CopyCmd) : State :=
  s.setDie die { s.die die with colls := (s.die die).colls.map fun x => if x.1.id = id then (f x.1, x.2) else x }

/-- R289: the heads of a tag on some dies and on every die that one of them is bound to: the collectives that pair with one
another. None while one of them has not been issued. -/
def State.collClosure (fuel : Nat) (s : State) (tag : Nat) (dies : List Nat) : Option (List (CopyCmd × Option (List Nat))) :=
  match fuel with
  | 0 => none
  | fuel + 1 =>
    let l := dies.map fun d => s.collHead d tag
    if l.all Option.isSome then
      let found := l.filterMap id
      let all := (List.range 8).filter fun d => dies.contains d || found.any fun x => x.1.diesHere.contains d
      if all.length = dies.length then some found else State.collClosure fuel s tag all
    else none

/-- The collectives that pair with one on the dies of this package; none while one has not been issued. -/
def State.collMates (s : State) (c : CopyCmd) : Option (List (CopyCmd × Option (List Nat))) :=
  s.collClosure 9 c.collTag c.diesHere

/-- The virtual addresses of a box's elements; none for an element outside the tensor. -/
def collSpots (c : CopyCmd) : List (Option Nat) :=
  (List.range (recCount c.collRec)).map fun n =>
    (elemSpot c.collRec [] false n).map fun p => p.1 + p.2 * tyBytes c.collTy

/-! ### Ends -/

/-- A collective of this package ends: with a fault, or with the final status of R197. -/
def State.endColl (s : State) (c : CopyCmd) (fault : Option (Nat × Nat)) : State :=
  let s := s.setDie c.die { s.die c.die with colls := (s.die c.die).colls.filter fun x => x.1.id ≠ c.id }
  s.finishCopy { c with fault := fault }

/-- A collective ends with CODE 3. -/
def State.abandonColl (s : State) (c : CopyCmd) : State :=
  let s := s.setDie c.die { s.die c.die with colls := (s.die c.die).colls.filter fun x => x.1.id ≠ c.id }
  let s := s.statusWrite (issuerCore c.warp) c.tokenPa 3
  s.onOwner c.warp c.die c.asid Warp.copyFall

/-- R198, R289: a collective ends with CODE 3 at every member of the package that has issued it; not one whose results are
written, to which every member has contributed. -/
def State.abandonAll (s : State) (c : CopyCmd) : State :=
  if c.slice = 2 then s
  else
  let r := s.lateOutside c
  let mates := s.collIssued c
  mates.foldl State.abandonColl (r.2.earliness mates r.1)

/-- R198: a fault of one member ends its collective with CODE 2, and every other with CODE 3. -/
def State.failColl (s : State) (mates : List CopyCmd) (die cause va : Nat) : State :=
  mates.foldl (fun s c => if c.die = die then s.endColl c (some (cause, va)) else s.abandonColl c) s

/-! ### Inputs -/

/-- The input of a member: its box, element by element, after its own ACQ. -/
def State.collInput (s : State) (c : CopyCmd) : Eng (List Nat) :=
  let e := c.ctx c.fetched
  let s := if c.acq then s.engineAcquire else s
  engList (fun s x => match x with
    | none => .go s 0
    | some va => (s.engineBytes e va (tyBytes c.collTy)).bind fun s l => .go s (leNat l)) s (collSpots c)

/-- One member has contributed: the state with its input kept. -/
def State.keepInput (s : State) (c : CopyCmd) (l : List Nat) : State :=
  s.setDie c.die { s.die c.die with colls := (s.die c.die).colls.map fun x =>
    if x.1.id = c.id then ({ c with fetched := [] }, some l) else x }

/-- The input of a collective, once read. -/
def State.inputOf (s : State) (c : CopyCmd) : List Nat :=
  (((s.die c.die).colls.find? fun x => x.1.id == c.id).bind Prod.snd).getD []

/-- The inputs of the members that have not contributed are read, one after another, until one must wait. `true` once
every member has contributed. -/
def State.collGather (s : State) (mates : List CopyCmd) (l : List (CopyCmd × Option (List Nat))) (late : Nat) :
    Host.Outcome (State × Bool) Fault Refusal :=
  match l with
  | [] => .next (s, true)
  | (_, some _) :: r => s.collGather mates r late
  | (c, none) :: r =>
    match s.collInput c with
    | .go s x => (s.keepInput c x).collGather mates r late
    | .pause s g => .next (s.onColl c.die c.id fun c => { c with paused := some g }, false)
    | .fail s cause _ va => .next ((s.earliness mates late).failColl mates c.die cause va, false)
    | .need s' va parts =>
      let e := c.ctx c.fetched
      let q := ({ s := s', cost := 0, dsts := [] } : Sent).engineAsk e 2 c.id va parts
      (match q.2.pay s e 2 with
        | none => .next (s.onColl c.die c.id fun c => { c with short := true, due := q.2.cost }, false)
        | some s => .next (s.onColl c.die c.id fun c => { c with asked := some q.1 }, false))
    | .hole pa => .fault (.noMemory pa)

/-- The elements of its box that a member contributes (R198): its part to an all-gather, the whole of ROOT's box and nothing of
the others' to a broadcast, and its box to the rest. -/
def CopyCmd.contributed (c : CopyCmd) (l : List Nat) : List Nat :=
  let i := (c.chainMembers.findIdx? fun m => m == memberId c.die).getD 0
  let part := l.length / c.chainMembers.length
  match fld c.collWord 0 3 with
  | 2 => (l.drop (part * i)).take part
  | 4 => if fld c.collWord 8 4 = i then l else []
  | _ => l

/-- Bytes in pieces of 128; one piece, though empty, of none. -/
def pieces (l : List Byte) : List (List Byte) :=
  (List.range (max 1 ((l.length + 127) / 128))).map fun k => (l.drop (128 * k)).take 128

/-- What a member contributed goes to every other member of the package as class 2 traffic, in packets of up to 128 bytes on each
channel (log 36). Answers the members whose token bucket lacked the cost, with it. -/
def State.collSpread (s : State) (mates : List (CopyCmd × List Nat)) : State × List (CopyCmd × Nat) :=
  mates.foldl (fun r x =>
    let c := x.1
    let e := c.ctx []
    let data := pieces ((c.contributed x.2).flatMap fun v => leBytes (tyBytes c.collTy) v)
    let t := (mates.filter fun m => m.1.die ≠ c.die && !r.1.gone m.1.die).foldl (fun t m =>
      data.foldl (fun t l => t.packet (mkPacket c.die m.1.die 2 c.asid (.contribution l) none (some c.id))) t)
      ({ s := r.1, cost := 0, dsts := [] } : Sent)
    match t.pay r.1 e 2 with
    | none => (r.1, r.2 ++ [(c, t.cost)])
    | some s => (s.onColl c.die c.id fun c => { c with slice := 1, packets := t.count }, r.2)) (s, [])

/-! ### Results -/

/-- The events that write a member's results. -/
def State.collEvents (s : State) (c : CopyCmd) (vals : List (Option Nat)) : Eng (List EngEvent) :=
  let e := c.ctx []
  let n := tyBytes c.collTy
  (engList (fun s x => match x with
    | (some va, some v) => (s.engineSpan e .store va n).bind fun s l => .go s (s.spanWrites e l (leBytes n v))
    | _ => .go s []) s ((collSpots c).zip vals)).bind fun s l => .go s l.flatten

/-- What a member finds in its box afterwards, element by element; `inputs` in rank order. -/
def collVals (op root : Nat) (inputs : List (Nat × List Nat)) (c : CopyCmd) : List (Option Nat) :=
  let i := (inputs.findIdx? fun x => x.1 == memberId c.die).getD 0
  let m := recCount c.collRec
  (List.range m).map fun k => collResult op root inputs.length m i k (c.collTy.fmt.getD .f32) (inputs.map Prod.snd)

/-- R198: of a collective that a fault ends, any elements of a member's box may have been written (log 3). -/
def State.someResults (s : State) (op root : Nat) (inputs : List (Nat × List Nat)) (c : CopyCmd) : State :=
  let e := c.ctx []
  let n := tyBytes c.collTy
  let events := ((collSpots c).zip (collVals op root inputs c)).flatMap fun x => match x with
    | (some va, some v) => (match s.engineSpan e .store va n with
      | .go s l => s.spanWrites e l (leBytes n v)
      | .pause .. | .fail .. | .need .. | .hole _ => [])
    | _ => []
  let s' := { s with tick := s.tick + events.length }
  let t := (freeSubset s.tick events).foldl (fun t b => t.engineWrite e 2 c.id false b)
    ({ s := s', cost := 0, dsts := [] } : Sent)
  (t.pay s' e 2).getD s'

/-- Every result is found before any is written: a list of the members with their events. -/
def State.collPlan (s : State) (op root : Nat) (inputs : List (Nat × List Nat)) (l : List CopyCmd) :
    State × Option (CopyCmd × Eng Unit) × List (CopyCmd × List EngEvent) :=
  match l with
  | [] => (s, none, [])
  | c :: r =>
    match s.collEvents c (collVals op root inputs c) with
    | .go s ev =>
      let q := s.collPlan op root inputs r
      (q.1, q.2.1, (c, ev) :: q.2.2)
    | .pause s g => (s, some (c, .pause s g), [])
    | .fail s cause info va => (s, some (c, .fail s cause info va), [])
    | .need s va parts => (s, some (c, .need s va parts), [])
    | .hole pa => (s, some (c, .hole pa), [])

/-- Members whose token bucket lacks the cost of their part wait, with nothing of the part done. -/
def State.collShort (s : State) (r : State × List (CopyCmd × Nat)) : State :=
  match r.2 with
  | [] => r.1
  | l => l.foldl (fun s m => s.onColl m.1.die m.1.id fun c => { c with short := true, due := m.2 }) s

/-- The results of every member are written, in one step (log 69). Answers the members whose token bucket lacked the cost. -/
def State.collWrite (s : State) (l : List (CopyCmd × List EngEvent)) : State × List (CopyCmd × Nat) :=
  l.foldl (fun r x =>
    let e := x.1.ctx []
    let t := x.2.foldl (fun t b => t.engineWrite e 2 x.1.id false b) ({ s := r.1, cost := 0, dsts := [] } : Sent)
    match t.pay r.1 e 2 with
    | none => (r.1, r.2 ++ [(x.1, t.cost)])
    | some s => (s.onColl x.1.die x.1.id fun c => { c with slice := 2, packets := t.count }, r.2)) (s, [])

/-- What a member outside the package contributes: its member id, the membership that its `coll` is bound to, and its box. -/
abbrev OutsideBox := Nat × List Nat × List Nat

/-- The members' boxes by member id in rank order: those of this package as they were read, others as given. -/
def collInputs (c : CopyCmd) (mates : List (CopyCmd × Option (List Nat))) (others : List OutsideBox) :
    Option (List (Nat × List Nat)) :=
  let found := c.chainMembers.map fun m =>
    match mates.find? fun x => memberId x.1.die == m with
    | some x => x.2.map fun l => (m, l)
    | none => (others.find? fun x => x.1 == m).map fun x => (m, x.2.2)
  if found.all Option.isSome then some (found.filterMap id) else none

/-- The counter of a collective whose results have been performed, and its final status (R197). -/
def State.collFinish (s : State) (c : CopyCmd) : Host.Outcome State Fault Refusal :=
  if c.fault.isSome ∨ c.counter = 0 ∨ c.updated then .next (s.endColl c c.fault)
  else
    let e := c.ctx []
    match s.counterTargets e c.counter with
    | .pause s g => .next (s.onColl c.die c.id fun c => { c with paused := some g })
    | .fail s cause _ va => .next (s.endColl c (some (cause, va)))
    | .need s _ _ => .next s
    | .hole pa => .fault (.noMemory pa)
    | .go s' pas =>
      let t := pas.foldl (fun t pa => t.countAt e 2 c.id c.counter c.add pa) ({ s := s', cost := 0, dsts := [] } : Sent)
      match t.pay s e 2 with
      | none => .next (s.onColl c.die c.id fun c => { c with short := true, due := t.cost })
      | some s =>
        if t.dsts.isEmpty then .next (s.endColl c none)
        else .next (s.onColl c.die c.id fun c => { c with updated := true, packets := t.count })

/-- R198: the members' inputs are read, and travel. -/
def State.collStart (s : State) (c : CopyCmd) (mates : List (CopyCmd × Option (List Nat))) (late : Nat) :
    Host.Outcome State Fault Refusal :=
  let cmds := mates.map Prod.fst
  let w := c.collWord
  if cmds.any fun m => m.chainMembers != c.chainMembers then .next (cmds.foldl State.abandonColl (s.earliness cmds late))
  else
    match s.collGather cmds mates late with
    | .refused r => .refused r
    | .fault f => .fault f
    | .next (s, false) => .next s
    | .next (s, true) =>
      if collFits (fld w 0 3) (fld w 8 4) c.chainMembers.length (recCount c.collRec) then
        .next (s.collShort (s.collSpread (cmds.map fun m => (m, s.inputOf m))))
      else
        -- No address is at fault: LINE is a free value (log 37).
        let r := s.freeNat
        .next (cmds.foldl (fun s m => s.endColl m (some (0x0B, 2 ^ 9 * r.1))) (r.2.earliness cmds late))

/-- R198: every input has travelled: the results are written where all of them are known. -/
def State.collEnd (s : State) (c : CopyCmd) (mates : List (CopyCmd × Option (List Nat))) (others : List OutsideBox)
    (late : Nat) : Host.Outcome State Fault Refusal :=
  let cmds := mates.map Prod.fst
  let w := c.collWord
  match collInputs c mates others with
  | none => .next s
  | some inputs =>
    match s.collPlan (fld w 0 3) (fld w 8 4) inputs cmds with
    | (_, none, plan) =>
      let r := s.collWrite plan
      .next (if r.2.isEmpty then r.1.earliness cmds late else s.collShort r)
    | (_, some (m, .pause s g), _) => .next (s.onColl m.die m.id fun c => { c with paused := some g })
    | (_, some (m, .fail s cause _ va), _) =>
      let s := cmds.foldl (fun s c => s.someResults (fld w 0 3) (fld w 8 4) inputs c) s
      .next ((s.earliness cmds late).failColl cmds m.die cause va)
    | (_, some (_, .hole pa), _) => .fault (.noMemory pa)
    | (s, some (_, .go ..), _) | (s, some (_, .need ..), _) => .next s

/-- COLLECTIVE_COMPLETE: R198, R289, R274. A collective takes its next part: its members' inputs, its results, or its end
at one member. `others` are the boxes of the members outside the package, as far as they have contributed, with the
memberships they are bound to, and `late` the time the last of them arrived (log 48). -/
def execCollectiveComplete (die id : Nat) (others : List OutsideBox) (late : Nat) (s : State) :
    Host.Outcome State Fault Refusal :=
  match (s.die die).colls.find? fun x => x.1.id == id && x.1.idle with
  | none => .next s
  | some (c, _) =>
    if c.slice = 2 then s.collFinish c
    else if c.fault.isSome then
      let f := c.fault.getD (0, 0)
      let mates := (s.collIssued c).filter fun m => decide (c.slice ≤ m.slice)
      .next ((s.earliness mates late).failColl mates die f.1 f.2)
    else if (s.collHead die c.collTag).map (fun x => x.1.id) ≠ some id then .next s
    else match s.collMates c with
      | none => .next s
      | some mates =>
        if others.any fun x => c.chainMembers.contains x.1 && x.2.1 != c.chainMembers then
          .next ((mates.map Prod.fst).foldl State.abandonColl (s.earliness (mates.map Prod.fst) late))
        else if mates.any fun x => !x.1.idle || x.1.slice != c.slice || !s.begins x.1.die x.1.asid x.1.warp x.1.after then .next s
        else if c.slice = 0 then s.collStart c mates late
        else s.collEnd c mates others late

/-- COLLECTIVE_ABANDON: R198. A member outside the package left, was removed or faulted: the
collective ends with CODE 3. -/
def execCollectiveAbandon (die id : Nat) (s : State) : Host.Outcome State Fault Refusal :=
  match (s.die die).colls.find? fun x => x.1.id == id with
  | none => .next s
  | some (c, _) => .next (s.abandonAll c)

/-- Whether COLLECTIVE_COMPLETE has a part to take with no member outside the package (see Step.lean). -/
def State.collReady (s : State) (die : Nat) (c : CopyCmd) : Bool :=
  c.idle && (c.slice == 2 || c.fault.isSome ||
    ((s.collHead die c.collTag).map (fun x => x.1.id) == some c.id &&
      match s.collMates c with
      | none => false
      | some mates =>
        (mates.all fun x => x.1.idle && x.1.slice == c.slice && s.begins x.1.die x.1.asid x.1.warp x.1.after) && (c.slice == 0 || (collInputs c mates []).isSome)))

end Sys2Proof.Machine
end

