-- ==== Sys2Proof/Machine/Power.lean ====
section
/-!
DEFINITION. Power and clocks: the rate integrator, floors and budgets (16 R257, R258, R266, R271 to R273), the choosers
that run by time (R260, R261, R264), the current limiter and emergency steps (R267 to R269), samples (18 R281), points and
voltages (R277 to R279, R182), waking and gating (R282) and pins (R283).
-/

namespace Sys2Proof.Machine

/-! ### Points (18 R277 to R279, 07 R182) -/

/-- The trim tightens at once to a lower point's frequency; a higher one's waits for the supply (R279). -/
def Cluster.goTo (c : Cluster) (k : Nat) : Cluster :=
  { c with point := k, changed := true, clampMhz := min c.clampMhz (pointMhz k) }

/-- A new target point. During a width change of the die's link a reduction is held, for 2 µs from its request (R182); so is one
that is requested later in the change, and not together with it (log 82). -/
def State.setPoint (s : State) (die cl k : Nat) : State :=
  let key := clusterKey die cl
  let c := s.cluster key
  let d := s.die die
  let others := d.heldPoints.filter fun h => h.1 ≠ cl
  let since := ((d.heldPoints.find? fun h => h.1 == cl).map fun h => h.2.2).getD s.now
  if d.widening.isSome ∧ k < c.point then s.setDie die { d with heldPoints := others ++ [(cl, k, since)] }
  else
    let s := s.setDie die { d with heldPoints := others }
    if c.point = k then s else s.setCluster key (c.goTo k)

/-- R182: a reduction that has been held for 2 µs proceeds, whether or not the width change has completed. -/
def State.releasePoints (s : State) (die : Nat) : State :=
  let d := s.die die
  let due := d.heldPoints.filter fun h => decide (h.2.2 + 2000 ≤ s.now)
  if due.isEmpty then s
  else
    due.foldl (fun s h => s.setCluster (clusterKey die h.1) ((s.cluster (clusterKey die h.1)).goTo h.2.1))
      (s.setDie die { d with heldPoints := d.heldPoints.filter fun h => decide (s.now < h.2.2 + 2000) })

/-- VOLTAGE_STEP: R277, R279. The supply moves one step of 5 mV toward its target; down once the trim has tightened. -/
def execVoltageStep (die cluster : Nat) (s : State) : Host.Outcome State Fault Refusal :=
  let key := clusterKey die cluster
  let c := s.cluster key
  let v := pointMv c.point
  .next (if c.mv < v then s.setCluster key { c with mv := min v (c.mv + 5) }
    else if v < c.mv ∧ c.clampMhz ≤ pointMhz c.point then s.setCluster key { c with mv := max v (c.mv - 5) }
    else s)

/-- VOLTAGE_REACHED: R279. The supply has reached the point's voltage: the trim relaxes to its frequency. -/
def execVoltageReached (die cluster : Nat) (s : State) : Host.Outcome State Fault Refusal :=
  let key := clusterKey die cluster
  let c := s.cluster key
  .next (if pointMv c.point ≤ c.mv ∧ c.clampMhz ≠ pointMhz c.point then
    s.setCluster key { c with clampMhz := pointMhz c.point, changed := true } else s)

/-- R283, R286: a pinned cluster that is not gated runs at its pin or the highest point below it that CEIL allows. -/
def State.pinHold (s : State) (die cl : Nat) : State :=
  let c := s.cluster (clusterKey die cl)
  if c.gated then s else s.setPoint die cl (pointUnder (s.die die).ceil c.pinPoint)

/-! ### Waking and gating (R282, R260) -/

/-- R282: a cluster that takes a context or wakes goes to the highest point at or below point 4 and CEIL. -/
def State.wakeCluster (s : State) (die cl : Nat) : State :=
  let key := clusterKey die cl
  let s := s.setCluster key { s.cluster key with gated := false, dwell := s.now, sample := none }
  if (s.cluster key).pinned then s.pinHold die cl else s.setPoint die cl (pointUnder (s.die die).ceil 4)

/-- CLUSTER_WAKE: R282. -/
def execClusterWake (die cluster : Nat) (s : State) : Host.Outcome State Fault Refusal := .next (s.wakeCluster die cluster)

/-- CLUSTER_GATE: R282. A cluster that has held no context for 100 µs. -/
def execClusterGate (die cluster : Nat) (s : State) : Host.Outcome State Fault Refusal :=
  let key := clusterKey die cluster
  let c := s.cluster key
  .next (if c.asid.isNone ∧ c.gated = false ∧ c.idleSince + 100000 ≤ s.now then
    (s.setCluster key { c with gated := true }).setPoint die cluster 0 else s)

/-! ### The operating-point chooser (R260, R261) -/

/-- A cost or energy as a fraction. -/
structure Frac where
  num : Int
  den : Nat

def Frac.lt (x y : Frac) : Bool := decide (x.num * y.den < y.num * x.den)

/-- R261: the cost at point k of a sample's work, with its energy: time weight n, rate in 16.16. -/
def pointCost (leak : Nat → Nat) (n rate : Nat) (x : Sample) (k : Nat) : Frac × Frac :=
  let ed : Int := (x.energy : Int) - 10 * leak x.point
  let dt := 65536 * pointMhz k
  let t := 10000 * (x.stall * pointMhz k + (65536 - x.stall) * pointMhz x.point)
  let vp := pointMv x.point ^ 2
  let e : Int := ed * (pointMv k ^ 2 : Nat) * (1000 * dt : Nat) + (leak k * t * vp : Nat)
  let den := 65536 * 1000 * dt * vp
  (⟨(n * t * 65536 * 1000 * vp : Nat) + (rate : Int) * e, den⟩, ⟨e, 1000 * dt * vp⟩)

/-- The cheaper of two options; of equal costs, the one of lower energy. -/
def cheaper (a b : Nat × Frac × Frac) : Nat × Frac × Frac :=
  if b.2.1.lt a.2.1 || (!a.2.1.lt b.2.1 && b.2.2.lt a.2.2) then b else a

/-- R260: the option a chooser takes among those allowed, from its current one. -/
def choose (cost : Nat → Frac × Frac) (allowed : List Nat) (current : Nat) : Nat :=
  match allowed.map fun k => (k, cost k) with
  | [] => current
  | x :: r =>
    let best := r.foldl cheaper x
    if !allowed.contains current then best.1
    else
      let c := (cost current).1
      -- best <= 15/16 of current
      if !(Frac.lt ⟨15 * c.num, c.den * 16⟩ best.2.1) then best.1 else current

/-- The points that a ceiling allows. -/
def pointsUnder (ceil : Nat) : List Nat := (List.range 8).filter fun k => decide (k = 0) || decide (pointMhz k ≤ ceil)

/-- The time weight and rate of a cluster's chooser: its resident warps; the effective rate, or XRATE with no context. -/
def State.clusterWeight (s : State) (die cl : Nat) : Nat × Nat :=
  let c := s.cluster (clusterKey die cl)
  ((s.warps.filter fun e => e.2.die == die && e.2.cluster == cl && e.2.live != 0).length,
   match c.asid with
   | some a => s.rateOf die cl a
   | none => c.xrate.toNat)

/-- The chooser of a cluster moves it: at the end of a sample once its dwell has passed, or at once when CEIL excludes the
present point. -/
def State.choosePoint (s : State) (die cl : Nat) : State :=
  let key := clusterKey die cl
  let c := s.cluster key
  let allowed := pointsUnder (s.die die).ceil
  let out := !allowed.contains c.point
  if c.pinned then s.pinHold die cl
  else if c.gated ∨ (!out ∧ s.now < c.dwell + 10000) then s
  else
    let k := match c.sample with
      | some x =>
        let w := s.clusterWeight die cl
        choose (pointCost (Config.leakage key) w.1 w.2 x) allowed c.point
      | none => if out then pointUnder (s.die die).ceil 7 else c.point
    if k = c.point then s
    else (s.setCluster key { c with dwell := s.now }).setPoint die cl k

/-- R281: whether a stop of a warp counts as stalled: a load, store or atomic in flight; `waitc`; a `waitn` unmet on its load,
store or copy threshold; a replayable fault; an empty token bucket. -/
def Warp.stallCounts (w : Warp) : Bool :=
  match w.stop with
  | .scoreboard | .monitor .. | .fault .. | .bucket _ => true
  | .waitn ld st cp _ => decide (w.loadsHere.length < w.loads.length - ld) || decide (st < w.stores.length) || decide (cp < w.copies)
  | .running | .barrier _ | .engine => false

/-- R281: what a cluster's partitions are while time passes and nothing issues: whether one is occupied, and whether one is
stalled. -/
def State.markSample (s : State) (key : Nat) : State :=
  let c := s.cluster key
  let here := (s.warps.filter fun e => clusterKey e.2.die e.2.cluster == key && e.2.live != 0).map Prod.snd
  if here.isEmpty then s
  else s.setCluster key { c with occSeen := true, stallSeen := c.stallSeen || here.any Warp.stallCounts }

/-- R281: STALLR from the partition-clocks counted. Clocks of a kind that no partition has been in are none. -/
def Cluster.stallRatio (c : Cluster) (occupied stalled : Nat) : Nat :=
  let occ := if c.occSeen then occupied else 0
  let stl := if c.stallSeen then min stalled occ else 0
  if occ = 0 then 0 else min 0xFFFF (65536 * stl / occ)

/-- STALL_SAMPLE_END: R281, R261. A sample has ended: the partition-clocks occupied and stalled as they were counted, and the
cluster's measured energy in nJ, of which its matrix commands have charged a part (17 R276). -/
def execStallSampleEnd (die cluster occupied stalled energy : Nat) (s : State) : Host.Outcome State Fault Refusal :=
  let key := clusterKey die cluster
  let c := s.cluster key
  let t := s.timeOf die
  if t < c.sampleEnd then .next s
  else
    let r := c.stallRatio occupied stalled
    let sample := if c.changed then c.sample else some { stall := r, energy := energy, point := c.point }
    let s := s.setCluster key
      { c with stallr := BitVec.ofNat 16 r, changed := false, sample := sample, lastEnergy := energy, charged := 0,
               sampleEnd := 10000 * (t / 10000 + 1), occSeen := false, stallSeen := false }
    let s := match c.asid with
      | none => s
      | some a =>
        let ck := ctxKey die a
        let x := s.ctx ck
        let total := ((s.clustersOf die a).map fun k => (s.cluster (clusterKey die k)).lastEnergy).sum
        s.setCtx ck { x with energy := x.energy + BitVec.ofNat 64 (energy - c.charged / 65536), power := total / 10 }
    .next (if c.changed then s else s.choosePoint die cluster)

/-! ### Other choosers (R264) -/

/-- PREFETCH_DEPTH_CHOOSER: R264, R260, with its dwell of 50 µs. For each depth the stalled warp-ns, and the bytes that it would have fetched from the
private and from the peer window, which cost 1/40 and 1/16 nJ each (R262). -/
def execPrefetchDepthChooser (die core : Nat) (stalls : List Nat) (bytes : List (Nat × Nat)) (s : State) : Host.Outcome State Fault Refusal :=
  let ck := coreKey die core
  let c := s.core ck
  let cl := core / 8
  let n := (s.warps.filter fun e => e.1 / 2 ^ 9 == ck && e.2.live != 0).length
  let rate := match (s.cluster (clusterKey die cl)).asid with
    | some a => s.rateOf die cl a
    | none => (s.cluster (clusterKey die cl)).xrate.toNat
  let depths := [0, 1, 2, 4, 8]
  let cost := fun depth =>
    let o := (depths.findIdx? fun d => d == depth).getD 0
    let t := stalls.getD o 0
    let e := 2 * (bytes.getD o (0, 0)).1 + 5 * (bytes.getD o (0, 0)).2
    ((⟨(n * t * 65536 * 80 + rate * e : Nat), 65536 * 80⟩, ⟨e, 80⟩) : Frac × Frac)
  let depth := choose cost depths c.prefetch
  .next (if depth = c.prefetch ∨ s.now < c.depthSince + 50000 then s
    else s.setCore ck { c with prefetch := depth, depthSince := s.now })

/-- R181: bytes per ns of a link width. -/
def widthRate (w : Nat) : Nat := 6000 * w / 64

/-- R264: the cost of a width for a sample's packets and bytes of traffic. -/
def widthCost (rate packets traffic w : Nat) : Frac × Frac :=
  let cap := widthRate w
  let full := cap * 100000
  let e := 24 * w / 64 * 100000
  let den := 2 * cap * (full - traffic)
  (⟨(packets * 128 * traffic * 65536 + rate * e * den : Nat), den * 65536⟩, ⟨(e : Nat), 1⟩)

/-- CAUSEWAY_WIDTH_CHOOSER: R264, R260, R181. Its XRATE is that of the die's cluster 0, where a broadcast has not reached all of
them (R259; log 78). -/
def execCausewayWidthChooser (die packets traffic : Nat) (s : State) : Host.Outcome State Fault Refusal :=
  let d := s.die die
  let allowed := [16, 32, 64].filter fun w => decide (100 * traffic < 95 * (widthRate w * 100000))
  let current := d.widening.getD d.width
  let w := choose (widthCost (s.cluster (clusterKey die 0)).xrate.toNat packets traffic) allowed current
  let mayMove := !allowed.contains current || decide (d.widthDwell + 100000 ≤ s.now)
  .next (if w = current ∨ !mayMove then s else s.setDie die { d with widening := some w, widthDwell := s.now })

/-- LINK_WIDTH_CHANGE_DONE: R181, R182. The change completes, and reductions that waited for it proceed. -/
def execLinkWidthChangeDone (die : Nat) (s : State) : Host.Outcome State Fault Refusal :=
  let d := s.die die
  match d.widening with
  | none => .next s
  | some w =>
    let s := s.setDie die { d with width := w, widening := none, heldPoints := [] }
    .next (d.heldPoints.foldl (fun s h => s.setPoint die h.1 h.2.1) s)

/-! ### The limiter and the emergency step (R267 to R269) -/

/-- R267: the rank of a cluster for trimming. -/
def State.trimRank (s : State) (die cl : Nat) : Nat :=
  match (s.cluster (clusterKey die cl)).asid with
  | none => 0
  | some a =>
    let c := s.ctx (ctxKey die a)
    if c.belowFloor then 9 else 1 + min c.pwrcls c.maxcls

/-- The members of a list of clusters whose rank is the extreme of it. -/
def State.ranked (s : State) (die : Nat) (highest : Bool) (l : List Nat) : List Nat :=
  let r := l.map fun c => s.trimRank die c
  let best := if highest then r.foldl max 0 else r.foldl min 9
  l.filter fun c => s.trimRank die c == best

/-- A cluster's trim in hundredths, with the time from which it has stood at the full 25. -/
def Cluster.setTrim (c : Cluster) (t now : Nat) : Cluster :=
  { c with trim := t, fullTrimSince := if t = 25 then some (c.fullTrimSince.getD now) else none }

/-- LIMITER_SAMPLE: R268. The die's power in mW. -/
def execLimiterSample (die power : Nat) (s : State) : Host.Outcome State Fault Refusal :=
  let s := s.setDie die { s.die die with sample := power }
  let budget := (s.die die).budget
  let all := List.range (clusterCount die)
  let trimOf := fun c => (s.cluster (clusterKey die c)).trim
  let put := fun (l : List Nat) (f : Nat → Nat) => l.foldl (fun s c =>
    let key := clusterKey die c
    s.setCluster key ((s.cluster key).setTrim (f (s.cluster key).trim) s.now)) s
  .next (if budget < power then
      put (s.ranked die false (all.filter fun c => decide (trimOf c < 25))) fun t => min 25 (t + 5)
    else if 100 * power < 97 * budget then
      put (s.ranked die true (all.filter fun c => decide (0 < trimOf c))) fun t => t - 1
    else s)

/-- R269: whether a cluster is due an emergency step: at full trim for 100 µs, and 10 µs after its last one. -/
def Cluster.dropDue (c : Cluster) (now : Nat) : Bool :=
  match c.fullTrimSince with
  | some t => decide (t + 100000 ≤ now) && (c.lastDrop == 0 || decide (c.lastDrop + 10000 ≤ now))
  | none => false

/-- EMERGENCY_STEP: R269. While the die's power, as its limiter last sampled it, is above its budget, the clusters of the lowest
rank among those that are due drop one point. -/
def execEmergencyStep (die : Nat) (s : State) : Host.Outcome State Fault Refusal :=
  let long := (List.range (clusterCount die)).filter fun c => (s.cluster (clusterKey die c)).dropDue s.now
  .next (if (s.die die).sample ≤ (s.die die).budget then s
    else (s.ranked die false long).foldl (fun s c =>
      let key := clusterKey die c
      let s := s.setCluster key { s.cluster key with dwell := s.now, lastDrop := s.now }
      s.setPoint die c ((s.cluster key).point - 1)) s)

/-! ### The rate integrator (R257, R258, R266, R271 to R273) -/

/-- Every cluster of the package, by key, in order of die and cluster. -/
def allClusters : List Nat := (List.range 8).flatMap fun d => (List.range (clusterCount d)).map fun c => clusterKey d c

/-- RATE_BROADCAST: R257. The broadcast before has reached every cluster by now; this one has reached some of them, a free
choice. -/
def execRateBroadcast (s : State) : Host.Outcome State Fault Refusal :=
  let x := s.freeNat
  let rate := s.power.rate
  let s := { x.2 with power := { s.power with cast := rate } }
  .next (allClusters.foldl (fun t k =>
    t.setCluster k { t.cluster k with xrate := if x.1.testBit k then rate else x.2.power.cast }) s)

/-- R258: the rate after a step, from P1 in mW and CAP in W. -/
def rateStep (rate p1 cap rmin rmax : Nat) : Nat :=
  let tgt := 980 * cap
  let den := 1024 * tgt
  let num : Int :=
    if 1000 * cap < p1 then den / 64
    else max (-(den / 64 : Nat) : Int) (min (den / 64 : Nat) ((p1 : Int) - tgt))
  let x := ((2 * rate : Int) * (den + num) + den) / (2 * den)
  let x := if num ≠ 0 ∧ x = rate then x + num.sign else x
  max rmin (min rmax x.toNat)

/-- R273: ΣF over every die, and the floors in force. -/
def State.floorSum (s : State) : Nat := ((s.ctxs.filter fun e => e.2.bound).map fun e => e.2.floor).sum

/-- R273: the floor in force of a context. -/
def efloorOf (cap sum floor : Nat) : Nat := if sum + 650 ≤ cap then floor else floor * (cap - 650) / sum

/-- R273: every floor in force is computed again, and each context whose floor changes is told. -/
def State.refloor (s : State) : State :=
  let cap := s.power.cap
  let sum := s.floorSum
  let s := { s with power := { s.power with scaled := decide (cap < sum + 650) } }
  s.ctxs.foldl (fun s e =>
    let c := s.ctx e.1
    let f := if e.2.bound then efloorOf cap sum e.2.floor else 0
    if f = c.efloor then s
    else (s.setCtx e.1 { c with efloor := f }).ctxEvent (e.1 / 2048) (e.1 % 2048) 0x22 (e.1 / 2048) (BitVec.ofNat 64 f)) s

/-- R266: the budget of a die in mW, from its power and the sum over the dies, both with 20 W a die. -/
def budgetOf (cap other power sum : Nat) : Nat := (1000 * cap - other) * (power + 20000) / sum

/-- RATE_INTEGRATOR_STEP: R258, R266, R271, R273. P1, the power of everything but the compute dies over the last
microsecond, and each die's power over the last 10 µs, in mW. -/
def execRateIntegratorStep (p1 other : Nat) (dies : List Nat) (s : State) : Host.Outcome State Fault Refusal :=
  let p := s.power
  let r := rateStep p.rate.toNat p1 p.cap p.rmin.toNat p.rmax.toNat
  let sum := ((List.range 8).map fun d => dies.getD d 0 + 20000).sum
  let table := (List.range 8).foldl (fun m d => mset 0 m d (dies.getD d 0)) []
  let s := { s with power :=
    { p with rate := BitVec.ofNat 32 r, shownRate := BitVec.ofNat 32 r, pmeas := min 0xFFFF (p1 / 1000), diePower := table } }
  let s := (List.range 8).foldl (fun s d =>
    s.setDie d { s.die d with budget := budgetOf p.cap other (dies.getD d 0) sum }) s
  .next s.refloor

/-- SKEW_BIAS_DECAY: R274. -/
def execSkewBiasDecay (s : State) : Host.Outcome State Fault Refusal :=
  .next ((mkeys s.ctxs).foldl (fun s k => s.setCtx k { s.ctx k with bias := (s.ctx k).bias - 1 }) s)

/-! ### The host's requests (R271, R272, 18 R283) -/

/-- A write to PCAP: R272. -/
def State.writePcap (s : State) (v : Xword) : State :=
  let cap := fld v.toNat 0 13
  if cap < 1200 ∨ 5000 < cap then { s with power := { s.power with caprej := true } }
  else { s with power := { s.power with cap := cap } }

/-- A write to PRATE: R272. -/
def State.writePrate (s : State) (v : Xword) : State :=
  let rmin : BitVec 32 := v.setWidth 32
  let rmax : BitVec 32 := (v >>> 32).setWidth 32
  if rmin.toNat < 0x100 ∨ rmax.toNat < rmin.toNat then { s with power := { s.power with raterej := true } }
  else { s with power := { s.power with rmin := rmin, rmax := rmax } }

/-- A write to PSTAT: R271. -/
def State.writePstat (s : State) (v : Xword) : State :=
  let p := s.power
  { s with power := { p with caprej := p.caprej && !v.getLsbD 0, raterej := p.raterej && !v.getLsbD 1 } }

/-- A write to PFLOOR: FLOOR and MAXCLS of a context (R271). -/
def State.writePfloor (s : State) (die asid : Nat) (v : Xword) : State :=
  let ck := ctxKey die asid
  s.setCtx ck { s.ctx ck with floor := fld v.toNat 0 13, maxcls := fld v.toNat 13 3 }

/-- The RESULT of a CLKREQ write, and the point that it pins: R283. -/
def clkreqPoint (present : Nat) (v : Nat) : Nat × Option Nat :=
  let k : Int := if fld v 0 2 = 1 then present + (BitVec.ofNat 4 (fld v 5 4)).toInt else fld v 2 3
  if fld v 0 2 = 3 ∨ fld v 9 55 ≠ 0 then (3, none)
  else if fld v 0 2 = 0 then (0, none)
  else if k < 0 then (1, none)
  else if 7 < k then (2, none)
  else (0, some k.toNat)

/-- A write to CLKREQ: R283. A denied write changes RESULT only. -/
def State.writeClkreq (s : State) (die cl : Nat) (v : Xword) : State :=
  let key := clusterKey die cl
  let c := s.cluster key
  match clkreqPoint c.point v.toNat with
  | (0, some k) => (s.setCluster key { c with clkResult := 0, pinned := true, pinPoint := k }).pinHold die cl
  | (0, none) => s.setCluster key { c with clkResult := 0, pinned := false, pinPoint := 0 }
  | (r, _) => s.setCluster key { c with clkResult := r }

end Sys2Proof.Machine
end

