-- ==== Sys2Proof/Machine/Chain.lean ====
section
/-!
DEFINITION. Chains of dies as F6 keeps them (18 R284 to R290): ceiling entries and messages, joins, leaves and removals,
and the ceiling that a die's clusters use.
-/

namespace Sys2Proof.Machine

/-! ### Ceilings (R286) -/

/-- A die's own ceiling: the lower of DCEIL and its thermal limit. -/
def Die.ownCeil (d : Die) : Nat := min d.dceil d.thermal

/-- A member's entry in force at a time: the latest whose effective time has come. -/
def ChainMember.entryAt (m : ChainMember) (t : Nat) : Option Nat :=
  (m.entries.find? fun e => decide (e.1 ≤ t)).map Prod.snd

/-- The group ceiling at a time; a die that is no member in force has its own ceiling. -/
def State.ceilAt (s : State) (die t : Nat) : Nat :=
  let d := s.die die
  let l := d.chain.filter fun m => m.inForce t
  if l.any fun m => m.id == memberId die then
    match l.filterMap fun m => m.entryAt t with
    | [] => d.ownCeil
    | x :: r => r.foldl min x
  else d.ownCeil

/-- CEIL takes its value of now, and the clusters leave the points above it (R286, R283). -/
def State.applyCeil (s : State) (die : Nat) : State :=
  let s := s.setDie die { s.die die with ceil := s.ceilAt die (s.timeOf die) }
  (List.range (clusterCount die)).foldl (fun s c =>
    let x := s.cluster (clusterKey die c)
    if x.gated then s
    else if x.pinned then s.pinHold die c
    else if (pointsUnder (s.die die).ceil).contains x.point then s
    else s.choosePoint die c) s

/-! ### Messages (R287) -/

/-- The fields of a chain message. -/
structure ChainMsg where
  kind : Nat
  ceil : Nat
  member : Nat
  effect : Nat
  sent : Nat
  sender : Nat
deriving DecidableEq, Repr

/-- A chain message read from its words; none for a reserved KIND, a non-zero reserved bit, a ceiling out of range, or an
effective time less than 50 µs after SENT. -/
def chainMsg (w0 w1 w2 w3 : Xword) : Option ChainMsg :=
  let m : ChainMsg :=
    { kind := fld w0.toNat 0 4, ceil := fld w0.toNat 16 12, member := fld w0.toNat 32 32, effect := w1.toNat,
      sent := w2.toNat, sender := fld w3.toNat 0 32 }
  let named := fun x => decide (x < 2 ^ 28)
  let ceilOk := if m.kind ≤ 2 then decide (600 ≤ m.ceil) && decide (m.ceil ≤ 2300) else m.ceil == 0
  if 4 < m.kind ∨ fld w0.toNat 4 12 ≠ 0 ∨ fld w0.toNat 28 4 ≠ 0 ∨ fld w3.toNat 32 32 ≠ 0 ∨ !ceilOk ∨ !named m.member ∨
      !named m.sender ∨ m.effect < m.sent + 50000 then none
  else some m

/-- The words of a chain message. -/
def ChainMsg.words (m : ChainMsg) : List Xword :=
  [BitVec.ofNat 64 (m.kind + 2 ^ 16 * m.ceil + 2 ^ 32 * m.member), BitVec.ofNat 64 m.effect, BitVec.ofNat 64 m.sent,
   BitVec.ofNat 64 m.sender]

/-- A change to a member that a die knows. -/
def State.onMember (s : State) (die id : Nat) (f : ChainMember → ChainMember) : State :=
  s.setDie die { s.die die with chain := (s.die die).chain.map fun m => if m.id = id then f m else m }

/-- Whether a die knows a member. -/
def State.knows (s : State) (die id : Nat) : Bool := (s.die die).chain.any fun m => m.id == id

/-- An entry takes its place among those of a member by its effective time, before another of the same time. -/
def ChainMember.publish (m : ChainMember) (effect ceil : Nat) : ChainMember :=
  { m with entries := (m.entries.takeWhile fun e => decide (effect < e.1)) ++ (effect, ceil) ::
                      m.entries.dropWhile fun e => decide (effect < e.1) }

/-- R286: an entry takes effect on arrival when its time has passed, and is then counted as late. -/
def State.countLate (s : State) (die effect : Nat) : State :=
  if effect < s.timeOf die then
    (s.setDie die { s.die die with lateEntries := (s.die die).lateEntries + 1 }).applyCeil die
  else s

/-- KIND 0: an entry arrives. -/
def State.takeEntry (s : State) (die : Nat) (m : ChainMsg) : State :=
  (s.onMember die m.member fun x => x.publish m.effect m.ceil).countLate die m.effect

/-- KIND 1: the sender is a member from its effective time, which its first entry has too. -/
def State.takeJoin (s : State) (die : Nat) (m : ChainMsg) : State :=
  let d := s.die die
  let x : ChainMember :=
    { id := m.member, joinAt := m.effect, leaveAt := none, entries := [(m.effect, m.ceil)],
      heard := s.timeOf die, told := false }
  (s.setDie die { d with chain := (d.chain.filter fun y => y.id ≠ m.member) ++ [x],
                         removed := d.removed.filter fun y => y ≠ m.member }).countLate die m.effect

/-- Whether a die has sent its join and is not yet in force. -/
def State.joining (s : State) (die : Nat) : Bool :=
  (s.die die).chain.any fun m => m.id == memberId die && decide (s.timeOf die < m.joinAt)

/-- KIND 2: a die that joins, or has joined before the snapshot arrived, learns of a member and its entries (R288). -/
def State.takeSnapshot (s : State) (die : Nat) (m : ChainMsg) : State :=
  let d := s.die die
  let x : ChainMember :=
    { id := m.member, joinAt := 0, leaveAt := none, entries := [], heard := s.timeOf die, told := false }
  if d.removed.contains m.sender then s
  else
    let s := if s.knows die m.member then s else s.setDie die { d with chain := d.chain ++ [x] }
    (s.onMember die m.member fun x => x.publish m.effect m.ceil).countLate die m.effect

/-- The earlier of two ends. -/
def ChainMember.endAt (m : ChainMember) (t : Nat) : ChainMember :=
  { m with leaveAt := some (match m.leaveAt with
    | none => t
    | some l => min l t) }

/-- R288: a member's removal, when a die first receives it, is told to the host and to every context on the die that has
issued `coll`. -/
def State.tellRemoval (s : State) (die id : Nat) : State :=
  let s := s.hostEvent [BitVec.ofNat 64 (0x21 + 2 ^ 8 * die), BitVec.ofNat 64 id]
  (s.die die).collContexts.foldl (fun s asid => s.ctxEvent die asid 0x27 die (BitVec.ofNat 64 id)) s

/-- KIND 4: a member is dropped at the earliest effective time that is received. -/
def State.takeRemoval (s : State) (die : Nat) (m : ChainMsg) : State :=
  let first := (s.die die).chain.any fun x => x.id == m.member && !x.told
  let s := s.onMember die m.member fun x => { x.endAt m.effect with told := true }
  if first then s.tellRemoval die m.member else s

/-- The die of this package that has a member id. -/
def memberDie (id : Nat) : Option Nat := (List.range 8).find? fun d => memberId d == id

/-- R288: the snapshots with which a member answers a join: its own entry in force, and those for later. An entry in force is
sent with the least effective time that R287 lets a message carry (log 39). -/
def State.snapshots (s : State) (die : Nat) : List ChainMsg :=
  let t := s.timeOf die
  match (s.die die).chain.find? fun m => m.id == memberId die with
  | none => []
  | some m =>
    let later := m.entries.filter fun e => decide (t < e.1)
    let now := (m.entries.find? fun e => decide (e.1 ≤ t)).toList
    (now ++ later.reverse).map fun e =>
      { kind := 2, ceil := e.2, member := memberId die, effect := max e.1 (t + 50000), sent := t, sender := memberId die }

/-- A die receives a message that asks for no answer. One from a die that is not a member is discarded, unless it joins (R288),
or answers this die's own join. -/
def State.chainTake (s : State) (die : Nat) (m : ChainMsg) : State :=
  if !s.knows die (memberId die) ∨ (m.kind ≠ 1 ∧ m.kind ≠ 2 ∧ !s.knows die m.sender) then s
  else
    let s := match m.kind with
      | 0 => s.takeEntry die m
      | 1 => s.takeJoin die m
      | 2 => s.takeSnapshot die m
      | 3 => s.onMember die m.member fun x => x.endAt m.effect
      | _ => s.takeRemoval die m
    s.onMember die m.sender fun x => { x with heard := s.timeOf die }

/-- A message to a member: a die of this package receives it at once, any other over the straits (log 39). -/
def State.post (s : State) (dest : Nat) (m : ChainMsg) : State :=
  match memberDie dest with
  | some d => s.chainTake d m
  | none => { s with straits := s.straits ++ [(.member dest, m.words)] }

/-- A die receives a chain message; a member answers a join. -/
def State.chainReceive (s : State) (die : Nat) (m : ChainMsg) : State :=
  let t := s.chainTake die m
  if m.kind = 1 ∧ s.knows die (memberId die) ∧ !s.joining die then
    (t.snapshots die).foldl (fun s x => s.post m.member x) t
  else t

/-- A message in its words reaches a die; a bad one is counted by F7 (R287). -/
def State.chainWords (s : State) (die : Nat) (w0 w1 w2 w3 : Xword) : State :=
  match chainMsg w0 w1 w2 w3 with
  | none => s.setDie die { s.die die with badMessages := (s.die die).badMessages + 1 }
  | some m => s.chainReceive die m

/-- CHAIN_CEILING_MESSAGE: R286, R287. -/
def execChainCeilingMessage (die : Nat) (w0 w1 w2 w3 : Xword) (s : State) : Host.Outcome State Fault Refusal :=
  .next (s.chainWords die w0 w1 w2 w3)
/-- CHAIN_JOIN: R288. -/
def execChainJoin (die : Nat) (w0 w1 w2 w3 : Xword) (s : State) : Host.Outcome State Fault Refusal :=
  .next (s.chainWords die w0 w1 w2 w3)
/-- CHAIN_SNAPSHOT: R288. -/
def execChainSnapshot (die : Nat) (w0 w1 w2 w3 : Xword) (s : State) : Host.Outcome State Fault Refusal :=
  .next (s.chainWords die w0 w1 w2 w3)
/-- CHAIN_LEAVE: R288. -/
def execChainLeave (die : Nat) (w0 w1 w2 w3 : Xword) (s : State) : Host.Outcome State Fault Refusal :=
  .next (s.chainWords die w0 w1 w2 w3)
/-- CHAIN_REMOVE: R288. -/
def execChainRemove (die : Nat) (w0 w1 w2 w3 : Xword) (s : State) : Host.Outcome State Fault Refusal :=
  .next (s.chainWords die w0 w1 w2 w3)

/-! ### What a die sends (R286, R288) -/

/-- A message of a die to every member that it knows, itself included. -/
def State.chainSend (s : State) (die : Nat) (m : ChainMsg) : State :=
  ((s.die die).chain.map fun x => x.id).foldl (fun s id => s.post id m) s

/-- A message of a die about a member, effective 50 µs from now. -/
def State.chainMsgOf (s : State) (die kind ceil member : Nat) : ChainMsg :=
  { kind := kind, ceil := ceil, member := member, effect := s.timeOf die + 50000, sent := s.timeOf die, sender := memberId die }

/-- The ceiling that a die publishes, within 600 to 2,300. -/
def Die.published (d : Die) : Nat := max 600 (min 2300 d.ownCeil)

/-- A die's own ceiling has changed: a member publishes an entry; another die reads it at once (R286, R290). -/
def State.ceilChanged (s : State) (die : Nat) : State :=
  if s.knows die (memberId die) then
    (s.chainSend die (s.chainMsgOf die 0 (s.die die).published (memberId die))).applyCeil die
  else s.applyCeil die

/-- CEILING_REPUBLISH: R286. -/
def execCeilingRepublish (die : Nat) (s : State) : Host.Outcome State Fault Refusal :=
  .next (if s.knows die (memberId die) then
    s.chainSend die (s.chainMsgOf die 0 (s.die die).published (memberId die)) else s)

/-- CEILING_EFFECTIVE: R286. -/
def execCeilingEffective (die : Nat) (s : State) : Host.Outcome State Fault Refusal := .next (s.applyCeil die)

/-- THERMAL_LIMIT_CHANGE: R290. -/
def execThermalLimitChange (die mhz : Nat) (s : State) : Host.Outcome State Fault Refusal :=
  .next ((s.setDie die { s.die die with thermal := mhz }).ceilChanged die)

/-- A write to CLKDIE, field by field: R283. -/
def State.writeClkdie (s : State) (die : Nat) (v : Xword) : State :=
  let d := s.die die
  let x := fld v.toNat 0 12
  let d := { d with rej := d.rej && !v.getLsbD 12 }
  if x = 0 then s.setDie die d
  else if x < 600 ∨ 2300 < x then s.setDie die { d with rej := true }
  else (s.setDie die { d with dceil := x }).ceilChanged die

/-- CHAIN_SILENCE_TIMEOUT: R288. Nothing has been heard from a member for 400 µs. -/
def execChainSilenceTimeout (die member : Nat) (s : State) : Host.Outcome State Fault Refusal :=
  let silent := (s.die die).chain.any fun m => m.id == member && decide (m.heard + 400000 ≤ s.timeOf die)
  .next (if s.knows die (memberId die) ∧ silent ∧ member ≠ memberId die then
    s.chainSend die (s.chainMsgOf die 4 0 member) else s)

/-- Whether a member that a collective is bound to has contributed: its box has been read, or has come with that of every
member (log 48). -/
def State.contributed (s : State) (c : CopyCmd) (id : Nat) : Bool :=
  c.slice == 2 || (match memberDie id with
    | some d => (match s.collPair c d with
      | some (_, x) => x.isSome
      | none => false)
    | none => false)

/-- R285: a die reads another timebase from now on. It steps forward, or stands still until that one catches up. -/
def State.retime (s : State) (die : Nat) (shift : Int) : State :=
  s.setDie die { s.die die with timeShift := shift, timeFloor := s.timeOf die }

/-- MEMBERSHIP_CHANGE_EFFECTIVE: R288, R198, R285. Members whose leave or removal has come are dropped; collectives bound to one
that had not contributed end with CODE 3; a die that is itself dropped is in no chain, and on the package timebase. -/
def execMembershipChangeEffective (die : Nat) (s : State) : Host.Outcome State Fault Refusal :=
  let d := s.die die
  let gone := d.chain.filter fun m => match m.leaveAt with
    | some t => decide (t ≤ s.timeOf die)
    | none => false
  let ids := gone.map fun m => m.id
  let left := d.chain.filter fun m => !ids.contains m.id
  let ended := (d.colls.map Prod.fst).filter fun c => ids.any fun x => c.chainMembers.contains x && !s.contributed c x
  let out := ids.contains (memberId die)
  let s := s.setDie die { d with chain := if out then [] else left, removed := distinct (d.removed ++ ids),
                                 joinedBy := if out then none else d.joinedBy }
  let s := if out then s.retime die 0 else s
  .next ((ended.foldl State.abandonAll s).applyCeil die)

/-! ### Joining and leaving at the host's command (R288) -/

/-- The dies of this package in the chain of a member, as far as F6 knows: that member itself, those that know it, and those that
joined through it. -/
def State.chainDies (s : State) (via : Nat) : List Nat :=
  (List.range 8).filter fun d => s.knows d (memberId d) && (s.knows d via || (s.die d).joinedBy == some via)

/-- The timebase of the chain that a die joins through a member: that of the chain's dies in this package; where there is none, a
free value (R285; log 53). -/
def State.chainShift (s : State) (die via : Nat) : Int × State :=
  if via = memberId die then ((s.die die).timeShift, s)
  else match (s.chainDies via).head? with
    | some d => ((s.die d).timeShift, s)
    | none =>
      let r := s.freeNat
      let q := r.2.freeNat
      ((r.1 : Int) - q.1, q.2)

/-- The member outside the package through which a chain has been joined, where one has or is now. -/
def State.chainThrough (s : State) (via : Nat) : Option Nat :=
  if (memberDie via).isNone then some via else (s.chainDies via).findSome? fun d => (s.die d).joinedBy

/-- A join is sent to every member of a chain but the joiner: those of this package that F6 knows of, and over the straits to every
one outside. -/
def State.sendJoin (s : State) (via : Nat) (through : Option Nat) (m : ChainMsg) : State :=
  let known := (distinct ((s.chainDies via).flatMap fun d => ((s.die d).chain.map fun x => x.id))).filter fun x => x ≠ m.member
  let s := match through with
    | some x => { s with straits := s.straits ++ [(.chainOf x, m.words)] }
    | none => (known.filter fun x => (memberDie x).isNone).foldl (fun s x => s.post x m) s
  (known.filterMap memberDie).foldl (fun s d => s.chainReceive d m) s

/-- A die sends its join for a time J to every member of the chain that it joins through one of them (R288); a die that names
itself forms a chain (R286). It has first adopted the chain's timebase (R285), on which J lies 50 µs after the message (R287), or it
does not join. -/
def State.joinChain (s : State) (die via j : Nat) : Option State :=
  let id := memberId die
  let through := if via = id then none else s.chainThrough via
  let r := s.chainShift die via
  let t := r.2.retime die r.1
  let d := t.die die
  let now := t.timeOf die
  let me : ChainMember := { id := id, joinAt := j, leaveAt := none, entries := [(j, d.published)], heard := now, told := false }
  let m : ChainMsg := { kind := 1, ceil := d.published, member := id, effect := j, sent := now, sender := id }
  if j < now + 50000 ∨ (via ≠ id ∧ (memberDie via).isSome ∧ s.chainDies via = []) then none
  else
    let t := t.setDie die { d with chain := [me], removed := [], joinedBy := through }
    some (if via = id then t else t.sendJoin via through m)

/-- A die sends its leave for a time L. -/
def State.leaveChain (s : State) (die l : Nat) : State :=
  s.chainSend die { s.chainMsgOf die 3 0 (memberId die) with effect := l }

end Sys2Proof.Machine
end

