-- ==== Sys2Proof/Machine/Sha256.lean ====
section
/-!
DEFINITION. SHA-256, which measurements and reports use (19 R298, R299; log 44). Its constants are computed from what
they are, fractions of roots of primes, and its eight working words are kept as two sequences of four, newest first.
-/

namespace Sys2Proof.Machine

/-- The greatest r below 2^36 whose k-th power is at most x, found bit by bit. -/
def rootBelow (k x : Nat) : Nat :=
  (List.range 36).foldr (fun b r => if (r + 2 ^ b) ^ k ≤ x then r + 2 ^ b else r) 0

/-- The first 32 bits after the point of the k-th root of p. -/
def rootFraction (k p : Nat) : BitVec 32 := BitVec.ofNat 32 (rootBelow k (p * 2 ^ (32 * k)))

/-- The primes up to 311, of which there are 64. -/
def smallPrimes : List Nat :=
  (List.range 312).filter fun p => 2 ≤ p && (List.range p).all fun d => d < 2 || p % d != 0

/-- The exclusive or of rotations of a word to the right. -/
def turned (x : BitVec 32) (ns : List Nat) : BitVec 32 := ns.foldl (fun r n => r ^^^ x.rotateRight n) 0

/-- The two sequences of working words. -/
structure ShaChain where
  upper : List (BitVec 32)
  lower : List (BitVec 32)
deriving DecidableEq, Repr

/-- The t-th word back of a sequence. -/
def back (l : List (BitVec 32)) (t : Nat) : BitVec 32 := l.getD t 0

def ShaChain.initial : ShaChain :=
  let h := (smallPrimes.take 8).map (rootFraction 2)
  ⟨h.take 4, h.drop 4⟩

/-- One round: both sequences move on by one word. `kw` is the round's constant plus its schedule word. -/
def ShaChain.round (x : ShaChain) (kw : BitVec 32) : ShaChain :=
  let pick := back x.lower 2 ^^^ (back x.lower 0 &&& (back x.lower 1 ^^^ back x.lower 2))
  let most := (back x.upper 0 &&& (back x.upper 1 ||| back x.upper 2)) ||| (back x.upper 1 &&& back x.upper 2)
  let carry := kw + pick + turned (back x.lower 0) [6, 11, 25] + back x.lower 3
  ⟨(carry + most + turned (back x.upper 0) [2, 13, 22]) :: x.upper.take 3, (back x.upper 3 + carry) :: x.lower.take 3⟩

/-- A sequence of schedule words, newest first, with n more. -/
def moreSchedule : Nat → List (BitVec 32) → List (BitVec 32)
  | 0, l => l
  | n + 1, l =>
    let near := turned (back l 1) [17, 19] ^^^ (back l 1 >>> 10)
    let far := turned (back l 14) [7, 18] ^^^ (back l 14 >>> 3)
    moreSchedule n ((near + back l 6 + far + back l 15) :: l)

/-- A big-endian word of four bytes. -/
def beWord (l : List Byte) : BitVec 32 := l.foldl (fun x b => (x <<< 8) ||| b.setWidth 32) 0

/-- One block of 64 bytes, added word by word to what came before. -/
def ShaChain.block (x : ShaChain) (l : List Byte) : ShaChain :=
  let first := (List.range 16).foldl (fun w k => beWord ((l.drop (4 * k)).take 4) :: w) []
  let kws := List.zipWith (· + ·) (smallPrimes.map (rootFraction 3)) (moreSchedule 48 first).reverse
  let y := kws.foldl ShaChain.round x
  ⟨List.zipWith (· + ·) x.upper y.upper, List.zipWith (· + ·) x.lower y.lower⟩

/-- The bytes of a number, most significant first. -/
def beBytes (n x : Nat) : List Byte := ((List.range n).map fun k => BitVec.ofNat 8 (x / 256 ^ k)).reverse

/-- A message padded to whole blocks. -/
def shaPadded (l : List Byte) : List Byte :=
  l ++ [0x80] ++ List.replicate ((119 - l.length % 64) % 64) 0 ++ beBytes 8 (8 * l.length)

/-- SHA-256 of a message. -/
def sha256 (l : List Byte) : List Byte :=
  let p := shaPadded l
  let y := (List.range (p.length / 64)).foldl (fun x k => x.block ((p.drop (64 * k)).take 64)) ShaChain.initial
  (y.upper ++ y.lower).flatMap fun w => beBytes 4 w.toNat

end Sys2Proof.Machine
end

