-- ==== Sys2Proof/Machine/PageTables.lean ====
section
/-!
DEFINITION. What F3 does to page tables (05 R129, R443, 07 R165): writing a leaf with the tables above it, and finding the
contexts that map a frame (15 R256).
-/

namespace Sys2Proof.Machine

/-- What the cores of a die have written in a range goes home. -/
def State.flushRange (s : State) (die : Nat) (range : Nat × Nat) : State :=
  (mkeys (s.cores.filter fun e => e.1 / 32 == die)).foldl (fun s ck =>
    let c := s.core ck
    let s := (mkeys (c.l1.filter fun e => e.2.dirty != 0 && meets (128 * e.1, 128) range)).foldl (fun s k => s.writeBackSector ck k) s
    (mkeys (c.uo.filter fun e => meets (512 * e.1, 512) range)).foldl (fun s k => s.pushLine ck k) s) s

/-- The leaf of a page of a die's own memory is written again and the TLBs of the die forget it, as `tlbi` has it (24 R430, R431):
what the cores have written there goes home first; walks under way translate when they end, and accesses of the die to its own
memory are performed as they are issued, so that none that used the old leaf is left. -/
def State.writeLeaf (s : State) (die asid va at_ w0 w1 : Nat) (page : Nat × Nat) : State :=
  let s := s.flushRange die page
  let s := s.homeWrite (placed at_ (leBytes 8 w0 ++ leBytes 8 w1))
  s.tlbRemove die fun l => l.covers asid va

/-- Where the table of a level stands in the area that system software gives F3 for the tables above one leaf (log 52). -/
def tableIn (area level : Nat) : Nat :=
  match level with
  | 1 => area
  | 2 => area + 0x10000
  | 3 => area + 0x11000
  | _ => area + 0x12000

/-- A new table of a level whose entries are all not valid, with a DEMAND bit. -/
def State.newTable (s : State) (at_ level : Nat) (demand : Bool) : State :=
  let size := 16 * levelEntries level
  let old := (s.mem.filter fun e => decide (at_ ≤ e.1) && decide (e.1 < at_ + size)).map fun e => (e.1, (0 : Byte))
  let first := if demand then (List.range (levelEntries level)).map fun k => (at_ + 16 * k, (0x10 : Byte)) else []
  s.homeWrite (old ++ first)

/-- An entry for an address is written at a level, with the tables that are missing above it; none where a valid entry or no
memory stands in the way, so that no translation is removed. -/
def State.mapFrom (s : State) (va target area w0 w1 : Nat) (fuel level table : Nat) : Option State :=
  match fuel with
  | 0 => none
  | fuel + 1 =>
    let at_ := table + 16 * (va / 2 ^ levelShift level % levelEntries level)
    let e := s.num at_ 8
    if !memoryExists at_ 16 then none
    else if level = target then
      if fld e 0 1 = 1 then none else some (s.homeWrite (placed at_ (leBytes 8 w0 ++ leBytes 8 w1)))
    else if fld e 0 1 = 0 then
      let t := tableIn area (level + 1)
      if t % (16 * levelEntries (level + 1)) ≠ 0 ∨ !memoryExists t (16 * levelEntries (level + 1)) ∨ 2 ^ 52 ≤ t then none
      else
        let s := (s.newTable t (level + 1) (fld e 4 1 == 1)).homeWrite (placed at_ (leBytes 8 (t + 1) ++ leBytes 8 0))
        s.mapFrom va target area w0 w1 fuel (level + 1) t
    else if fld e 1 1 = 1 then none
    else s.mapFrom va target area w0 w1 fuel (level + 1) (e / 2 ^ 7 % 2 ^ 45 * 2 ^ 7)

/-- Whether a page of a level reaches into a frame of 64 KiB. -/
def inPage (pa level frame : Nat) : Bool := decide (pa / 2 ^ 16 ≤ frame) && decide (frame * 2 ^ 16 < pa + pageBytes level)

/-- R165 step 4: whether a range lies in pages whose withdrawal is not complete. -/
def State.leavesExport (s : State) (range : Nat × Nat) : Bool :=
  s.withdrawals.any fun w => w.exported && w.pages.any fun p => meets p range

/-- Whether F3 may map a page of a level: none of its frames has been retired (15 R256), or stands in an export whose withdrawal
is not complete (07 R165). -/
def State.mayMap (s : State) (pa level : Nat) : Bool :=
  !(s.host.retired.any fun f => inPage pa level f) && !s.leavesExport (pa, pageBytes level)

/-- F3 writes a leaf for an address of a context on a die. -/
def State.mapLeaf (s : State) (die asid va level area w0 w1 : Nat) : Option State :=
  if badEntry die va level w0 w1 ∨ fld w0 0 2 ≠ 3 ∨ !s.mayMap (w0 / 2 ^ 7 % 2 ^ 45 * 2 ^ 7) level then none
  else
    (s.mapFrom va level area w0 w1 5 0 (s.ctx (ctxKey die asid)).ptbase.toNat).map fun s =>
      s.tlbRemove die fun l => l.covers asid va

/-- The valid leaves under a table, by physical address and level. -/
def State.leavesFrom (s : State) (fuel level table : Nat) : List (Nat × Nat) :=
  match fuel with
  | 0 => []
  | fuel + 1 =>
    let valid := s.mem.filter fun e => decide (table ≤ e.1) && decide (e.1 < table + 16 * levelEntries level) &&
      (e.1 - table) % 16 == 0 && e.2.getLsbD 0
    valid.flatMap fun e =>
      let w0 := s.num e.1 8
      let addr := w0 / 2 ^ 7 % 2 ^ 45 * 2 ^ 7
      if fld w0 1 1 = 1 then [(addr, level)] else s.leavesFrom fuel (level + 1) addr

/-- Whether a context maps a frame. -/
def State.mapsFrame (s : State) (ck frame : Nat) : Bool :=
  (s.leavesFrom 5 0 (s.ctx ck).ptbase.toNat).any fun l => inPage l.1 l.2 frame

end Sys2Proof.Machine
end

