-- ==== Sys2Proof/Machine/Fetch.lean ====
section
/-!
DEFINITION. Fetching an instruction (03 R55, R58 to R60, R80 steps 1 and 2, R81), the target of a `rep` prefix (01 R29,
R30), and the traps that a word that is no instruction raises.
-/

namespace Sys2Proof.Machine

/-- What the fetch of one word answers. -/
inductive Fetched where
  | word (w : Nat)
  | trap (cause : Nat) (info : Xword)
  /-- A replayable miss. -/
  | miss (va : Nat)
  /-- No memory holds the word. -/
  | hole (pa : Nat)
deriving DecidableEq, Repr

/-- The key of a fetched word in a core. -/
def icacheKey (asid va : Nat) : Nat := asid * 2 ^ 57 + va

/-- R81, R82: the word at a virtual address: any value that the core has had of it since a gang was last admitted, or the one
at its home now; where they differ, each fetch chooses (log 3). -/
def State.fetchHome (s : State) (ck asid va pa : Nat) : State × Fetched :=
  if memoryExists pa 4 then
    let c := s.core ck
    let l := distinct (mget [] c.icache (icacheKey asid va) ++ [s.num pa 4])
    let s := s.setCore ck { c with icache := mput c.icache (icacheKey asid va) l }
    match l with
    | [x] => (s, .word x)
    | l =>
      let r := s.freeNat
      (r.2, .word (l.getD (r.1 % l.length) 0))
  else (s, .hole pa)

/-- R55, R119, R132: one word of a context, by virtual address. -/
def State.fetchWord (s : State) (ck asid va : Nat) : State × Fetched :=
  match windowOf va with
  | .unused => (s, .trap 0x05 (faultInfo 2 va))
  | .peer | .multicast | .host => (s, .trap 0x06 (faultInfo 1 va))
  | .priv =>
    match s.translate ck asid va with
    | (s, .replay) => (s, .miss va)
    | (s, .absent) => (s, .trap 0x05 (faultInfo 0 va))
    | (s, .malformed) => (s, .trap 0x05 (faultInfo 1 va))
    | (s, .hole pa) => (s, .hole pa)
    | (s, .leaf l) =>
      if !l.canFetch || l.fmt ≠ 0 then (s, .trap 0x06 (faultInfo 1 va))
      else s.fetchHome ck asid va (l.pa + va % pageBytes l.level)

/-- R81: a core may fetch any word of its context ahead of use, and keep it. -/
def State.fetchAhead (s : State) (ck asid : Nat) : State :=
  let r := s.freeNat
  (r.2.fetchWord ck asid (r.1 % 2 ^ 55 / 4 * 4)).1

/-- The instruction at a PC: its words, or the first check of the fetch that fails (R58, R80 step 1). -/
inductive FetchedInstr where
  | words (w : Nat) (nx : Option Nat)
  | bad (f : Fetched)
deriving DecidableEq, Repr

/-- R58: the word at a PC and, where it is fetched with it, the word after it. -/
def State.fetchInstr (s : State) (ck asid va : Nat) : State × FetchedInstr :=
  match s.fetchWord ck asid va with
  | (s, .word w) =>
    if fetchesNext w then
      match s.fetchWord ck asid ((va + 4) % 2 ^ 64) with
      | (s, .word x) => (s, .words w (some x))
      | (s, f) => (s, .bad f)
    else (s, .words w none)
  | (s, f) => (s, .bad f)

/-- What is executed for fetched words: the instruction, or the step that its failing check takes (R59, R80). -/
def FetchedInstr.instr (f : FetchedInstr) : Instr :=
  match f with
  | .bad _ => .instructionFetchFault
  | .words w nx =>
    match decode w nx with
    | .ok i => i
    | .error .literalWord => .literalWordAtInstructionStart
    | .error _ => .reservedEncoding

/-- The bytes of the words that belong to the instruction. -/
def FetchedInstr.size (f : FetchedInstr) : Nat :=
  match f.instr with
  | .reservedEncoding | .literalWordAtInstructionStart | .instructionFetchFault => 4
  | i => 4 * wordCount i

/-! ### The target of a rep prefix -/

/-- The step that a code stands for (R29). -/
def repStep (x : BitVec 2) : Nat :=
  match x.toNat with
  | 0 => 0
  | 1 => 1
  | 2 => 2
  | _ => 4

/-- Where the d, a and b fields of a word start (R29): F-M in majors 0x1A to 0x1F, F-R3 elsewhere. -/
def repShifts (w : Nat) : Nat × Nat × Nat :=
  if 26 ≤ fld w 26 6 ∧ fld w 26 6 ≤ 31 then (19, 12, 5) else (14, 7, 0)

/-- The word of repeat k: each field grows by k times its step. -/
def steppedWord (w k : Nat) (sd sa sb : BitVec 2) : Nat :=
  let p := repShifts w
  w + k * repStep sd * 2 ^ p.1 + k * repStep sa * 2 ^ p.2.1 + k * repStep sb * 2 ^ p.2.2

/-- R30: majors that a target may have. -/
def repMajor (m : Nat) : Bool :=
  (decide (8 ≤ m) && decide (m ≤ 14)) || (decide (16 ≤ m) && decide (m ≤ 25)) || m == 26 || m == 27 || m == 31

/-- R29: the checks before the first repeat, on the fetched target; the cause and detail of the first that fails, and
whether TRAPPC is the target's address (03 R59). It is the `rep` word's for a target that cannot be fetched (R31; log 72). -/
def repCheck (f : FetchedInstr) (n : Nat) (sd sa sb : BitVec 2) : Option (Nat × Xword × Bool) :=
  match f with
  | .bad (.trap cause info) => some (cause, info, false)
  | .bad _ => none
  | .words w nx =>
    let p := repShifts w
    let last := fun lo (st : BitVec 2) => fld w lo 7 + n * repStep st
    let hasS := decide (8 ≤ fld w 26 6) && decide (fld w 26 6 ≤ 14) && fld w 21 1 == 1
    match decode w nx with
    | .error .literalWord => some (0x02, 0, true)
    | .error _ => some (0x01, 0, false)
    | .ok i =>
      if !repMajor (fld w 26 6) || wordCount i ≠ 1 then some (0x0D, 0, false)
      else if decide (127 < last p.1 sd) || decide (127 < last p.2.1 sa) || decide (127 < last p.2.2 sb) ||
          (hasS && sb != 0 && last 0 sb == 127) then
        some (0x0D, 1, false)
      else none

/-- The trap of a check of R29. -/
def State.repTrap (s : State) (cause : Nat) (info : Xword) (target : Bool) : Effect :=
  if target then .trapPast s cause info else .trap s cause info false

/-- The instruction of repeat k (R29): it is decoded as an ordinary one. -/
def repInstr (f : FetchedInstr) (k : Nat) (sd sa sb : BitVec 2) : Instr :=
  match f with
  | .bad _ => .instructionFetchFault
  | .words w _ => (FetchedInstr.words (steppedWord w k sd sa sb) none).instr

/-! ### Words that are no instruction -/

/-- RESERVED_ENCODING: R62, R67, R80 step 2. -/
def execReservedEncoding (s : State) : Host.Outcome State Fault Refusal :=
  s.run (uses []) fun _ _ => .trap s 0x01 0 false

/-- LITERAL_WORD_AT_INSTRUCTION_START: R59. -/
def execLiteralWordAtInstructionStart (s : State) : Host.Outcome State Fault Refusal :=
  s.run (uses []) fun _ _ => .trap s 0x02 0 false

/-- INSTRUCTION_FETCH_FAULT: R55, R58, R80 step 1. The fetch is made again to find its fault. -/
def execInstructionFetchFault (s : State) : Host.Outcome State Fault Refusal :=
  s.run (uses []) fun c w =>
    match s.fetchInstr w.coreK w.asid c.pc.toNat with
    | (s, .bad (.trap cause info)) => .trap s cause info false
    | (s, .bad (.miss va)) => s.missStop w va
    | (_, .bad (.hole pa)) => .fault (.noMemory pa)
    | (s, .bad (.word _)) | (s, .words _ _) => .moved s

end Sys2Proof.Machine
end

