-- ==== Sys2Proof/Machine/Control.lean ====
section
/-!
DEFINITION. Control flow: the MISC members without special registers, branches, rejoin masks, loops and `rep` (01 R20 to
R31; 21 R319 to R326; 22 R344, R346, R373, R382; 23 R398, R402, R413, R414; 24 R427, R429, R432, R442; 15 R249).
-/

namespace Sys2Proof.Machine

/-- A branch target, from the word offset in a field (03 R57). -/
def branchTarget {n : Nat} (next : Xword) (off : BitVec n) : Xword := next + 4 * off.signExtend 64

/-- NOP: R398. -/
def execNop (s : State) : Host.Outcome State Fault Refusal := s.run (uses []) fun _ _ => .done s

/-- EXIT: R346, R22, R249. -/
def execExit (s : State) : Host.Outcome State Fault Refusal :=
  s.run (uses []) fun c w => .moved (s.endLanes c.warp w c.lanes)

/-- YIELD: R442. -/
def execYield (s : State) : Host.Outcome State Fault Refusal :=
  s.run (userOnly []) fun c w =>
    .done (s.setWarp c.warp (w.onLanes (c.cands &&& ~~~c.lanes) fun l => { l with age := 64 }))

/-- BRK: R321. -/
def execBrk (code : BitVec 7) (s : State) : Host.Outcome State Fault Refusal :=
  s.run (userOnly []) fun _ _ => .trap s 0x0F (code.setWidth 64) false

/-- TRAP: R432. -/
def execTrap (code : BitVec 7) (s : State) : Host.Outcome State Fault Refusal :=
  s.run (userOnly []) fun _ _ => .trap s 0x0E (code.setWidth 64) true

/-- SYSC: R429. -/
def execSysc (code : BitVec 7) (s : State) : Host.Outcome State Fault Refusal :=
  s.run (userOnly []) fun _ _ => .trap s 0x0E (0x100 ||| code.setWidth 64) true

/-- The group goes to a target, as one branch that every lane of it takes. -/
def State.branchAll (s : State) (c : Cur) (w : Warp) (t : Xword) : Effect :=
  .moved (s.setWarp c.warp (w.branchTo c.lanes t true))

/-- The group goes to a target and no loop entry is touched (R27). -/
def State.linkAll (s : State) (c : Cur) (w : Warp) (t : Xword) : Effect :=
  .moved (s.setWarp c.warp (w.onLanes c.lanes fun l => { l with pc := t }))

/-- BRA: R319. -/
def execBra (off : BitVec 26) (s : State) : Host.Outcome State Fault Refusal :=
  s.run (uses []) fun c w => s.branchAll c w (branchTarget c.nextPc off)

/-- BRS: R323. -/
def execBrs (b : BrsCond) (a : SReg) (off : BitVec 15) (s : State) : Host.Outcome State Fault Refusal :=
  s.run (uses []) fun c w =>
    if brsHolds b (w.s a) then s.branchAll c w (branchTarget c.nextPc off) else .done s

/-- BRP: R322. The lanes that stay complete the instruction first, then the others leave. -/
def execBrp (p : PReg) (inv : Bool) (off : BitVec 21) (s : State) : Host.Outcome State Fault Refusal :=
  s.run (userOnly []) fun c w =>
    let taken := groupSet c.lanes fun i => (w.p p).getLsbD i != inv
    if taken = 0 then .done s
    else
      let w := w.finishAt (c.lanes &&& ~~~taken) c.pc c.nextPc
      .moved (s.setWarp c.warp (w.branchTo taken (branchTarget c.nextPc off) true))

/-- CALL: R326. -/
def execCall (off : BitVec 26) (s : State) : Host.Outcome State Fault Refusal :=
  s.run (uses []) fun c w => s.linkAll c (w.setS 63 c.nextPc) (branchTarget c.nextPc off)

/-- JMP: R373. -/
def execJmp (d a : SReg) (s : State) : Host.Outcome State Fault Refusal :=
  s.run (uses []) fun c w =>
    let t := w.s a
    if t.toNat % 4 ≠ 0 then .trap s 0x02 1 false
    else if d = 0 then s.branchAll c w t
    else s.linkAll c (w.setS d c.nextPc) t

/-- RET: R414. -/
def execRet (a : SReg) (s : State) : Host.Outcome State Fault Refusal :=
  s.run (uses []) fun c w =>
    let t := w.s a
    if t.toNat % 4 ≠ 0 then .trap s 0x02 1 false else s.branchAll c w t

/-- ERET: R249. -/
def execEret (s : State) : Host.Outcome State Fault Refusal :=
  s.run { sup := true, privileged := true, names := [] } fun c w =>
    .moved (s.leaveHandler c.warp w)

/-- WBASE: R39. -/
def execWbase (imm : BitVec 7) (s : State) : Host.Outcome State Fault Refusal :=
  s.run (userOnly []) fun c w =>
    let new := imm.toNat * 32
    if new ≠ 0 ∧ w.alloc < new + 128 then .trap s 0x10 (imm.setWidth 64) false
    else .done (s.setWarp c.warp { w with vwb := new })

/-! ### Rejoin masks -/

/-- JOIN's TRAPINFO (R23). -/
def joinInfo (j : JMask) (kind : Nat) : Xword := BitVec.ofNat 64 (j.toNat + 2 ^ 3 * kind)

/-- ENROL: R22, R344. -/
def execEnrol (j : JMask) (off : BitVec 21) (s : State) : Host.Outcome State Fault Refusal :=
  s.run (userOnly []) fun c w =>
    if (w.mask j).enrolled ≠ 0 then .trap s 0x09 (joinInfo j 0) false
    else .done (s.setWarp c.warp
      (w.setMask j { enrolled := c.lanes, arrived := 0, pc := branchTarget c.nextPc off }))

/-- STRIKE: R22, R427. -/
def execStrike (j : JMask) (s : State) : Host.Outcome State Fault Refusal :=
  s.run (userOnly []) fun c w => .done (s.setWarp c.warp ((w.strikeFrom c.lanes j).maskTest j))

/-- PARK: R22, R402. Lanes that are not enrolled go on. -/
def execPark (j : JMask) (s : State) : Host.Outcome State Fault Refusal :=
  s.run (userOnly []) fun c w =>
    let m := w.mask j
    let mine := c.lanes &&& m.enrolled
    if mine ≠ 0 ∧ c.pc ≠ m.pc then .trap s 0x09 (joinInfo j 1) false
    else
      let w := w.finishAt (c.lanes &&& ~~~mine) c.pc c.nextPc
      let w := w.onLanes mine fun l => { l with stat := .parked j }
      .moved (s.setWarp c.warp ((w.setMask j { m with arrived := m.arrived ||| mine }).maskTest j))

/-! ### The loop stack -/

/-- R25: what follows a body's end word: the word after it, or the one after the literal that R58 attaches to it. -/
def FetchedInstr.afterEnd (f : FetchedInstr) (stop : Xword) : Xword :=
  match f with
  | .words x (some y) => if isLiteral y && !isLiteral x then stop + 8 else stop + 4
  | .words _ none | .bad _ => stop + 4

/-- R25: goes on with the address after a body's end, from the words that the instruction fetches there. A replayable miss of
theirs stops the warp (R14, 05 R134); a word that cannot be fetched otherwise is no literal. -/
def State.pastEnd (s : State) (w : Warp) (stop : Xword) (k : State → Xword → Effect) : Effect :=
  match s.fetchInstr w.coreK w.asid stop.toNat with
  | (s, .bad (.miss va)) => s.missStop w va
  | (_, .bad (.hole pa)) => .fault (.noMemory pa)
  | (s, f) => k s (f.afterEnd stop)

/-- The number of iterations that a `loop` counts. -/
def Warp.loopCount (w : Warp) (n : LoopCount) : BitVec 32 :=
  match n with
  | .reg r => (w.s r).setWidth 32
  | .imm k => k.setWidth 32

/-- LOOP: R25, R382. -/
def execLoop (n : LoopCount) (off : BitVec 18) (s : State) : Host.Outcome State Fault Refusal :=
  s.run (userOnly []) fun c w =>
    let stop : Xword := c.nextPc + 4 * off.setWidth 64
    if w.loopCount n = 0 then
      s.pastEnd w stop fun s pc => .moved (s.setWarp c.warp (w.onLanes c.lanes fun l => { l with pc := pc }))
    else if 4 ≤ w.loops.length then .trap s 0x08 0 false
    else
      let others := c.cands &&& ~~~c.lanes
      let e : LoopEntry :=
        { start := c.nextPc, stop := stop, count := w.loopCount n, inBody := c.lanes, held := others }
      let w := (w.onLanes c.lanes fun l => { l with pc := c.nextPc }).hold others
      .moved (s.setWarp c.warp { w with loops := e :: w.loops })

/-- LEXIT: R28. The instruction after the end is found as `loop` finds it (log 15). -/
def execLexit (s : State) : Host.Outcome State Fault Refusal :=
  s.run (userOnly []) fun c w =>
    match w.loops with
    | [] => .trap s 0x08 1 false
    | e :: rest =>
      s.pastEnd w e.stop fun s pc =>
        let w := w.onLanes c.lanes fun l => { l with pc := pc }
        let left := e.inBody &&& ~~~c.lanes
        if left = 0 then .moved (s.setWarp c.warp (({ w with loops := rest } : Warp).release e.held))
        else
          let w := w.hold c.lanes
          .moved (s.setWarp c.warp { w with loops := { e with inBody := left, held := e.held ||| c.lanes } :: rest })

/-! ### The repeat prefix -/

/-- REP: R29 to R31, R413. The checks before the first repeat; then the sequence is in progress, and each step of the
machine at the prefix runs one repeat (log 1). -/
def execRep (n : BitVec 6) (sd sa sb : BitVec 2) (s : State) : Host.Outcome State Fault Refusal :=
  s.run (userOnly []) fun c w =>
    if w.rep.busy then .moved s
    else
      match s.fetchInstr w.coreK w.asid c.nextPc.toNat with
      | (s, .bad (.miss va)) => s.missStop w va
      | (_, .bad (.hole pa)) => .fault (.noMemory pa)
      | (s, f) =>
        match repCheck f n.toNat sd sa sb with
        | some (cause, info, target) => s.repTrap cause info target
        | none => .moved (s.setWarp c.warp { w with rep := { done := 0, busy := true, cnt := n.toNat, lanes := c.lanes } })

end Sys2Proof.Machine
end

