-- ==== Sys2Proof/Machine/ScalarInt.lean ====
section
/-!
DEFINITION. The scalar instructions: majors 0x0C, 0x0D and 0x0E (03 R64; 21 R305, R330).
-/

namespace Sys2Proof.Machine

/-- ADD_S: R307. -/
def execAddS (d a : SReg) (b : SOp) (s : State) : Host.Outcome State Fault Refusal :=
  s.scalBin d a b (fun a b => a + b)

/-- SUB_S: R428. -/
def execSubS (d a : SReg) (b : SOp) (s : State) : Host.Outcome State Fault Refusal :=
  s.scalBin d a b (fun a b => a - b)

/-- MUL_S: R394. -/
def execMulS (d a : SReg) (b : SOp) (s : State) : Host.Outcome State Fault Refusal :=
  s.scalBin d a b (fun a b => a * b)

/-- MULHI_I_S: R395. -/
def execMulhiIS (d a : SReg) (b : SOp) (s : State) : Host.Outcome State Fault Refusal :=
  s.scalBin d a b mulhiSigned

/-- MULHI_N_S: R395. -/
def execMulhiNS (d a : SReg) (b : SOp) (s : State) : Host.Outcome State Fault Refusal :=
  s.scalBin d a b mulhiUnsigned

/-- MAD_S: R383. -/
def execMadS (d a : SReg) (b : SOp) (s : State) : Host.Outcome State Fault Refusal :=
  s.scal d fun w => madd (w.s d) (w.s a) (w.sop b)

/-- MIN_I_S: R388. -/
def execMinIS (d a : SReg) (b : SOp) (s : State) : Host.Outcome State Fault Refusal :=
  s.scalBin d a b minSigned

/-- MIN_N_S: R388. -/
def execMinNS (d a : SReg) (b : SOp) (s : State) : Host.Outcome State Fault Refusal :=
  s.scalBin d a b minUnsigned

/-- MAX_I_S: R385. -/
def execMaxIS (d a : SReg) (b : SOp) (s : State) : Host.Outcome State Fault Refusal :=
  s.scalBin d a b maxSigned

/-- MAX_N_S: R385. -/
def execMaxNS (d a : SReg) (b : SOp) (s : State) : Host.Outcome State Fault Refusal :=
  s.scalBin d a b maxUnsigned

/-- AND_S: R308. -/
def execAndS (d a : SReg) (b : SOp) (s : State) : Host.Outcome State Fault Refusal :=
  s.scalBin d a b (fun a b => a &&& b)

/-- OR_S: R399. -/
def execOrS (d a : SReg) (b : SOp) (s : State) : Host.Outcome State Fault Refusal :=
  s.scalBin d a b (fun a b => a ||| b)

/-- XOR_S: R441. -/
def execXorS (d a : SReg) (b : SOp) (s : State) : Host.Outcome State Fault Refusal :=
  s.scalBin d a b (fun a b => a ^^^ b)

/-- SHL_S: R420. -/
def execShlS (d a : SReg) (b : SOp) (s : State) : Host.Outcome State Fault Refusal :=
  s.scalBin d a b shiftLeft

/-- SHR_S: R421. -/
def execShrS (d a : SReg) (b : SOp) (s : State) : Host.Outcome State Fault Refusal :=
  s.scalBin d a b shiftRight

/-- SRA_S: R424. -/
def execSraS (d a : SReg) (b : SOp) (s : State) : Host.Outcome State Fault Refusal :=
  s.scalBin d a b shiftArith

/-- ANDN_S: R309. -/
def execAndnS (d a : SReg) (b : SOp) (s : State) : Host.Outcome State Fault Refusal :=
  s.scalBin d a b andNot

/-- ROL_S: R415. -/
def execRolS (d a : SReg) (b : SOp) (s : State) : Host.Outcome State Fault Refusal :=
  s.scalBin d a b rotate

/-- ABSD_I_S: R306. -/
def execAbsdIS (d a : SReg) (b : SOp) (s : State) : Host.Outcome State Fault Refusal :=
  s.scalBin d a b distSigned

/-- ABSD_N_S: R306. -/
def execAbsdNS (d a : SReg) (b : SOp) (s : State) : Host.Outcome State Fault Refusal :=
  s.scalBin d a b distUnsigned

/-- CLZ_S: R329. -/
def execClzS (d a : SReg) (s : State) : Host.Outcome State Fault Refusal :=
  s.scal d fun w => leadingZeros (w.s a)

/-- POPC_S: R406. -/
def execPopcS (d a : SReg) (s : State) : Host.Outcome State Fault Refusal :=
  s.scal d fun w => bitCount (w.s a)

/-- BREV_S: R320. -/
def execBrevS (d a : SReg) (s : State) : Host.Outcome State Fault Refusal :=
  s.scal d fun w => bitReverse (w.s a)

/-- BFX_I_S: R318. -/
def execBfxIS (d a : SReg) (b : SOp) (s : State) : Host.Outcome State Fault Refusal :=
  s.scalBin d a b fieldSigned

/-- BFX_N_S: R318. -/
def execBfxNS (d a : SReg) (b : SOp) (s : State) : Host.Outcome State Fault Refusal :=
  s.scalBin d a b fieldUnsigned

/-- BFI_S: R317. -/
def execBfiS (d a : SReg) (b : SOp) (s : State) : Host.Outcome State Fault Refusal :=
  s.scal d fun w => fieldInsert (w.s d) (w.s a) (w.sop b)

/-- DIV_I_S: R342. -/
def execDivIS (d a : SReg) (b : SOp) (s : State) : Host.Outcome State Fault Refusal :=
  s.scalBin d a b divSigned

/-- DIV_N_S: R342. -/
def execDivNS (d a : SReg) (b : SOp) (s : State) : Host.Outcome State Fault Refusal :=
  s.scalBin d a b divUnsigned

/-- REM_I_S: R412. -/
def execRemIS (d a : SReg) (b : SOp) (s : State) : Host.Outcome State Fault Refusal :=
  s.scalBin d a b remSigned

/-- REM_N_S: R412. -/
def execRemNS (d a : SReg) (b : SOp) (s : State) : Host.Outcome State Fault Refusal :=
  s.scalBin d a b remUnsigned

/-- MOV_S: R392. -/
def execMovS (d : SReg) (b : SOp) (s : State) : Host.Outcome State Fault Refusal := s.scal d fun w => w.sop b

/-- CMP_S: R330. -/
def execCmpS (c : CmpCond) (d a : SReg) (b : SOp) (s : State) : Host.Outcome State Fault Refusal :=
  s.scal d fun w => if cmpHolds c (w.s a) (w.sop b) then 1 else 0

end Sys2Proof.Machine
end

