-- ==== Sys2Proof/Machine/FrontEnd.lean ====
section
/-!
DEFINITION. The front end of a die: doorbells (14 R229), taking records and moving overflow records (R230, R237), the
prologue unit (R235), the check of a record with its schedule image (R232, R239), and eligibility (R232, R238).
-/

namespace Sys2Proof.Machine

/-! ### Reads of the front end -/

/-- What a read in a context's address space finds. -/
inductive FrontRead where
  | bytes (s : State) (l : List Byte)
  /-- A replayable miss, recorded, or a read of another agent's memory that cannot be made yet. -/
  | held (s : State)
  /-- Any other fault, or a page with FMT other than 0. -/
  | bad (s : State)

/-- Bytes of one page in a context's address space, read at their home: another agent's by a request and its reply. A die that
has departed gives none (07 R179). -/
def State.frontPage (s : State) (die asid va n : Nat) (acquire : Bool) : FrontRead :=
  if windowOf va = .unused then .bad s
  else match s.translateDie die asid va with
    | (s, .replay) => .held (s.recordFault die asid (faultPage va)).1
    | (s, .absent) | (s, .malformed) | (s, .hole _) => .bad s
    | (s, .leaf l) =>
      let p : Place := { lane := 0, va := va, pa := l.pa + va % pageBytes l.level, window := windowOf va, leaf := l }
      let pa := (s.targets die asid .load p).headD p.pa
      if l.fmt ≠ 0 ∨ !memoryExists pa n ∨ s.gone (ownerOf pa) then .bad s
      else if ownerOf pa = die then
        let s := s.homeReadAll pa n 0 acquire
        .bytes s (s.bytes pa n)
      else match s.readAtOnce die (ownerOf pa) asid pa n acquire with
        | none => .held s
        | some s => .bytes s (s.bytes pa n)

/-- Bytes in a context's address space, in parts within 64 KiB pages; `fuel` is the number of parts. No bytes need no page. -/
def State.frontBytes (fuel : Nat) (s : State) (die asid va n : Nat) : FrontRead :=
  match fuel with
  | 0 => .bytes s []
  | fuel + 1 =>
    let m := min n (2 ^ 16 - va % 2 ^ 16)
    if n = 0 then .bytes s []
    else match s.frontPage die asid va m false with
    | .held s => .held s
    | .bad s => .bad s
    | .bytes s l =>
      if m = n then .bytes s l
      else match s.frontBytes fuel die asid (va + m) (n - m) with
        | .bytes s r => .bytes s (l ++ r)
        | .held s => .held s
        | .bad s => .bad s

/-! ### Queues -/

/-- A write of TAIL: R229. A device queue's, or one past the ring's size, is ignored and sets OVERRUN. -/
def Queue.doorbell (q : Queue) (v : BitVec 32) : Queue :=
  if q.devq ∨ 2 ^ q.qsize < (v - q.head).toNat then { q with overrun := true } else { q with tail := v }

/-- R230: a slot that could not be read stops its queue. -/
def State.stopQueue (s : State) (die n : Nat) : State :=
  let qk := queueKey die n
  let q := s.queue qk
  (s.setQueue qk { q with enable := false, rfault := true }).ctxEvent die q.asid 0x2A die
    (BitVec.ofNat 64 (n % 256 + 2 ^ 8 * q.head.toNat))

/-- Whether the front end takes records of a queue. -/
def State.queueRuns (s : State) (die n : Nat) : Bool :=
  let q := s.queue (queueKey die n)
  let c := s.ctx (ctxKey die q.asid)
  q.enable && c.bound && !c.killed

/-- Words of 8 bytes. -/
def wordsOf (l : List Byte) : List Xword :=
  (List.range (l.length / 8)).map fun k => BitVec.ofNat 64 (leNat ((l.drop (8 * k)).take 8))

/-- Whether a queue has a record to take and no head launch. -/
def State.canTake (s : State) (die n : Nat) : Bool :=
  let q := s.queue (queueKey die n)
  s.queueRuns die n && q.headLaunch.isNone && q.head != q.tail

/-- HEAD_LAUNCH_TAKE: R230. -/
def execHeadLaunchTake (die n : Nat) (s : State) : Host.Outcome State Fault Refusal :=
  if s.canTake die n then
    let q := s.queue (queueKey die n)
    match s.frontPage die q.asid (q.ringSlot q.head.toNat) 128 false with
    | .held s => .next s
    | .bad s => .next (s.stopQueue die n)
    | .bytes s l =>
      let r := s.fresh
      let x : Launch :=
        { die := die, queue := n, asid := q.asid, record := wordsOf l, slotRec := wordsOf l, slot := q.head, stage := .taken,
          since := s.now, nextGang := 0, retired := 0, triggered := false, repeats := false, sched := [], waiting := none, met := false, passes := 0,
          blockedSince := none, window := none, todo := [] }
      .next ((r.2.setLaunch r.1 x).setQueue (queueKey die n) { q with head := q.head + 1, headLaunch := some r.1 })
  else .next s

/-- Whether an overflow record can move into the ring (R237). -/
def State.canMove (s : State) (die n : Nat) : Bool :=
  let q := s.queue (queueKey die n)
  s.queueRuns die n && q.devq && q.ovfhead != q.ovftail && !q.ringFull

/-- OVERFLOW_MOVE: R237, R230. -/
def execOverflowMove (die n : Nat) (s : State) : Host.Outcome State Fault Refusal :=
  if s.canMove die n then
    let q := s.queue (queueKey die n)
    match s.frontPage die q.asid (q.ovfSlot q.ovfhead.toNat) 128 false with
    | .held s => .next s
    | .bad s => .next (s.stopQueue die n)
    | .bytes s l =>
      let va := q.ringSlot q.tail.toNat
      match s.slotWrite die q.asid va l with
      | none => .next (s.recordFault die q.asid (faultPage va)).1
      | some s => .next (s.setQueue (queueKey die n) { q with ovfhead := q.ovfhead + 1, tail := q.tail + 1 })
  else .next s

/-! ### Warps at their start (02 R35, 04 R101, 15 R244) -/

/-- A lane at warp start. -/
def Lane.start (entry : Xword) (i : Nat) : Lane :=
  { pc := entry, age := 0, stat := .candidate, suspended := false, xs := xsSeed 0 i, triggered := false, relFence := none }

/-- Where a warp stands. -/
structure Seat where
  die : Nat
  asid : Nat
  cluster : Nat
  core : Nat
  partition : Nat
  slot : Nat
  gang : Nat
  member : Nat
  index : Nat

/-- A warp's key. -/
def Seat.key (x : Seat) : Nat := ((x.die * 32 + x.core) * 32 + x.partition) * 16 + x.slot

/-- A warp at its start: every register at its start value, every lane at the entry. Its last issue counts as the beginning of
time, so that it goes before every warp that has issued (01 R19; log 66). -/
def Warp.start (x : Seat) (width alloc : Nat) (entry : Xword) : Warp :=
  { die := x.die, asid := x.asid, cluster := x.cluster, core := x.core, partition := x.partition, slot := x.slot,
    gang := x.gang, member := x.member, index := x.index, width := width, alloc := alloc,
    lanes := (List.range width).map (Lane.start entry), vregs := [], sregs := [], pregs := [], masks := [], loops := [],
    rep := RepState.idle, vwb := 0, cvtmode := 0, srseed := 0, restart := 0, priv := false, trappc := 0, trapcause := 0,
    trapinfo := 0, scratch0 := 0, scratch1 := 0, tlanes := 0, entered := none, stop := .running, latch := none, supLatch := none,
    armed := none, supArmed := none,
    pendingRestart := false, loads := [], stores := [], copies := 0, matrix := 0, async := [], bsync := none, lastIssue := 0 }

/-! ### The prologue unit (R235) -/

/-- A scalar or branch instruction that a prologue may execute, as its meaning. -/
def prologueMeaning (i : Instr) : Option (State → Host.Outcome State Fault Refusal) :=
  match i with
  | .addS d a b => some (execAddS d a b)
  | .subS d a b => some (execSubS d a b)
  | .mulS d a b => some (execMulS d a b)
  | .mulhiIS d a b => some (execMulhiIS d a b)
  | .mulhiNS d a b => some (execMulhiNS d a b)
  | .madS d a b => some (execMadS d a b)
  | .minIS d a b => some (execMinIS d a b)
  | .minNS d a b => some (execMinNS d a b)
  | .maxIS d a b => some (execMaxIS d a b)
  | .maxNS d a b => some (execMaxNS d a b)
  | .andS d a b => some (execAndS d a b)
  | .orS d a b => some (execOrS d a b)
  | .xorS d a b => some (execXorS d a b)
  | .shlS d a b => some (execShlS d a b)
  | .shrS d a b => some (execShrS d a b)
  | .sraS d a b => some (execSraS d a b)
  | .andnS d a b => some (execAndnS d a b)
  | .rolS d a b => some (execRolS d a b)
  | .absdIS d a b => some (execAbsdIS d a b)
  | .absdNS d a b => some (execAbsdNS d a b)
  | .clzS d a => some (execClzS d a)
  | .popcS d a => some (execPopcS d a)
  | .brevS d a => some (execBrevS d a)
  | .bfxIS d a b => some (execBfxIS d a b)
  | .bfxNS d a b => some (execBfxNS d a b)
  | .bfiS d a b => some (execBfiS d a b)
  | .divIS d a b => some (execDivIS d a b)
  | .divNS d a b => some (execDivNS d a b)
  | .remIS d a b => some (execRemIS d a b)
  | .remNS d a b => some (execRemNS d a b)
  | .movS d x => some (execMovS d x)
  | .cmpS c d a b => some (execCmpS c d a b)
  | .bra off => some (execBra off)
  | .brs c a off => some (execBrs c a off)
  | .nop => some execNop
  | _ => none

/-- One step of a prologue. -/
inductive ProStep where
  | goes (s : State) (w : Warp)
  | exits
  | fails (s : State)
  /-- A replayable miss: the prologue runs again once F3 has resolved it. -/
  | waits (s : State)

/-- The context that a prologue's instruction runs in: a warp alone, and a trap vector, so that any cause shows. -/
def State.proRun (s : State) (w : Warp) (pc next : Nat) (f : State → Host.Outcome State Fault Refusal) : ProStep :=
  let all := firstLanes w.width
  let c : Cur :=
    { warp := 0, lanes := all, cands := all, pc := BitVec.ofNat 64 pc, trapPc := BitVec.ofNat 64 pc,
      nextPc := BitVec.ofNat 64 next, priv := false, inRep := false }
  let t := { s with warps := [(0, w)], ctxs := [(w.ctxK, { Ctx.unbound with trapvec := 4 })], cur := some c }
  match f t with
  | .next t =>
    (match t.warp 0 with
      | some w => if w.priv then .fails s else .goes s w
      | none => .fails s)
  | .fault _ | .refused _ => .fails s

/-- A `waitc` of a prologue: it reads its location at the home and never waits. -/
def State.proWait (s : State) (w : Warp) (next : Nat) (wide : Bool) (d a : SReg) : ProStep :=
  let va := (w.s a).toNat
  let n := if wide then 8 else 4
  if va % n ≠ 0 then .fails s
  else match s.frontPage w.die w.asid va n true with
    | .held s => .waits s
    | .bad s => .fails s
    | .bytes s l =>
      .goes s ((w.setS d (BitVec.ofNat 64 (leNat l))).onLanes (firstLanes w.width) fun l => { l with pc := BitVec.ofNat 64 next })

/-- One word that the prologue unit fetches. -/
def State.proWord (s : State) (die asid va : Nat) : FrontRead :=
  if windowOf va ≠ .priv ∨ va % 4 ≠ 0 then .bad s
  else match s.translateDie die asid va with
    | (s, .leaf l) => if l.canFetch then s.frontPage die asid va 4 false else .bad s
    | (s, .replay) => .held (s.recordFault die asid (faultPage va)).1
    | (s, .absent) | (s, .malformed) | (s, .hole _) => .bad s

/-- The instruction at a PC of a prologue, with its words' bytes. -/
def State.proFetch (s : State) (die asid pc : Nat) : State × Option FetchedInstr × Bool :=
  match s.proWord die asid pc with
  | .held s => (s, none, true)
  | .bad s => (s, none, false)
  | .bytes s l =>
    let w := leNat l
    if fetchesNext w then
      match s.proWord die asid (pc + 4) with
      | .bytes s x => (s, some (.words w (some (leNat x))), false)
      | .held s => (s, none, true)
      | .bad s => (s, none, false)
    else (s, some (.words w none), false)

/-- One instruction of a prologue. -/
def State.proStep (s : State) (w : Warp) : ProStep :=
  let pc := ((w.lane 0).pc).toNat
  match s.proFetch w.die w.asid pc with
  | (s, none, true) => .waits s
  | (s, none, false) => .fails s
  | (s, some f, _) =>
    let next := (pc + f.size) % 2 ^ 64
    match f.instr with
    | .exit => .exits
    | .waitc _ wide d a _ => s.proWait w next wide d a
    | i => match prologueMeaning i with
      | some g => s.proRun w pc next g
      | none => .fails s

/-- What a prologue comes to: the warp at its `exit`, none where it fails. -/
inductive ProEnd where
  | ended (s : State) (w : Option Warp)
  | waits (s : State)

/-- A prologue of at most `fuel` instructions; the next one would be too many. -/
def State.proLoop (fuel : Nat) (s : State) (w : Warp) : ProEnd :=
  match fuel with
  | 0 => .ended s none
  | fuel + 1 =>
    match s.proStep w with
    | .exits => .ended s (some w)
    | .fails s => .ended s none
    | .waits s => .waits s
    | .goes s w => State.proLoop fuel s w

/-- The warp that a prologue starts as: s48 to s63 hold the record, every other scalar register zero. -/
def Launch.proWarp (l : Launch) : Warp :=
  let seat : Seat :=
    { die := l.die, asid := l.asid, cluster := 0, core := 0, partition := 0, slot := 0, gang := 0, member := 0, index := 0 }
  (List.range 16).foldl (fun w k => w.setS (BitVec.ofNat 6 (48 + k)) (l.record.getD k 0))
    (Warp.start seat 16 32 (BitVec.ofNat 64 l.prologue))

/-- PROLOGUE_RUN: R235. The head launch's prologue runs, and its action is taken. -/
def execPrologueRun (die n : Nat) (s : State) : Host.Outcome State Fault Refusal :=
  match (s.queue (queueKey die n)).headLaunch with
  | none => .next s
  | some lid =>
    match mfind s.launches lid with
    | none => .next s
    | some l =>
      if l.stage ≠ .taken ∨ l.prologue = 0 then .next s
      else match s.proLoop 256 l.proWarp with
        | .waits s => .next s
        | .ended s none => .next (s.endLaunch lid 6 [])
        | .ended s (some w) =>
          let record := (List.range 16).map fun k => w.s (BitVec.ofNat 6 (48 + k))
          let action := (w.s 47).toNat % 4
          let s := s.setLaunch lid { l with record := record, stage := .rewritten, repeats := action == 2 }
          .next (if action = 1 ∨ action = 3 then s.endLaunch lid 2 [] else s)

/-! ### The check of a record (R232, R239) -/

/-- R239: the entries of the image of n entries that workgroup k of gang g takes, T workgroups in all. -/
def schedShare (entries : List Nat) (total w : Nat) : List Nat :=
  (entries.zipIdx.filter fun e => e.2 % total == w).map Prod.fst

/-- What the reading of a schedule image comes to. -/
inductive SchedRead where
  | image (s : State) (l : List Nat)
  | held (s : State)
  | bad (s : State)

/-- R239: the schedule image of a launch; bad where it cannot be read or gives a core more than 4,096 entries. -/
def State.readSched (s : State) (l : Launch) : SchedRead :=
  if l.schedVa = 0 then .image s []
  else match s.frontBytes 2 l.die l.asid l.schedVa 4 with
    | .held s => .held s
    | .bad s => .bad s
    | .bytes s c =>
      let n := leNat c
      if 4096 * (l.gangs * l.members) < n then .bad s
      else match s.frontBytes (4 * n / 2 ^ 16 + 2) l.die l.asid (l.schedVa + 4) (4 * n) with
        | .held s => .held s
        | .bad s => .bad s
        | .bytes s b => .image s ((List.range n).map fun k => leNat ((b.drop (4 * k)).take 4))

/-- R232: a head launch whose prologue, if any, has run is checked. -/
def State.checkLaunch (s : State) (lid : Nat) : State :=
  match mfind s.launches lid with
  | none => s
  | some l =>
    if l.stage = .rewritten ∨ (l.stage = .taken ∧ l.prologue = 0) then
      match l.fault with
      | some off => s.endLaunch lid (5 + 2 ^ 8 * off) []
      | none =>
        match s.readSched l with
        | .held s => s
        | .bad s => s.endLaunch lid (5 + 2 ^ 8 * 32) []
        | .image s x => s.setLaunch lid { l with stage := .checked, sched := x }
    else s

/-- Whether the launch before a queue's head has ended, and whether it counts as triggered (R238); both hold where there
is none. -/
def State.previous (s : State) (q : Queue) : Bool × Bool :=
  match q.prevLaunch.bind fun k => mfind s.launches k with
  | none => (true, true)
  | some p => (!p.isOpen, p.triggered || !p.isOpen)

/-- The DEP condition of a head launch (R232). -/
def State.depHolds (s : State) (l : Launch) : Bool :=
  let p := s.previous (s.queue (queueKey l.die l.queue))
  match l.dep with
  | 0 => true
  | 1 => p.1
  | _ => p.2

/-- The home of a launch's WAITSIG, as a page of FMT 0 of a live agent has it; a replayable miss is recorded, and any other
fault leaves the launch waiting (log 54). -/
def State.waitsigPa (s : State) (l : Launch) : State × Option Nat :=
  if windowOf l.waitsig = .unused then (s, none)
  else match s.translateDie l.die l.asid l.waitsig with
    | (s, .replay) => ((s.recordFault l.die l.asid (faultPage l.waitsig)).1, none)
    | (s, .absent) | (s, .malformed) | (s, .hole _) => (s, none)
    | (s, .leaf f) =>
      let p : Place :=
        { lane := 0, va := l.waitsig, pa := f.pa + l.waitsig % pageBytes f.level, window := windowOf l.waitsig, leaf := f }
      let pa := (s.targets l.die l.asid .wait p).headD p.pa
      (s, if f.fmt = 0 ∧ memoryExists pa 8 ∧ !s.gone (ownerOf pa) then some pa else none)

/-- R232, 06 R160: the front end arms a monitor at the home of a launch's WAITSIG: itself on its own die, by a packet elsewhere.
Where no monitor is free it asks again. -/
def State.armWaitsig (s : State) (lid : Nat) (l : Launch) : State :=
  match s.waitsigPa l with
  | (s, none) => s
  | (s, some pa) =>
    let r := s.fresh
    let m : Monitor :=
      { waiter := .launch lid, id := r.1, die := l.die, asid := l.asid, addr := pa, cond := .geN, wide := true,
        value := BitVec.ofNat 64 (l.word 11) }
    if ownerOf pa = l.die then
      let q := r.2.armMonitor m
      if q.2.2 then q.1.setLaunch lid { l with met := true }
      else if (q.1.die l.die).monitors.contains m then q.1.setLaunch lid { l with waiting := some m }
      else q.1
    else (r.2.setLaunch lid { l with waiting := some m }).send (mkPacket l.die (ownerOf pa) 0 l.asid (.waitReq m) none none)

/-- A checked launch whose DEP holds: its WAITSIG is watched, and it is eligible once that has been met (R232); that is an acquire,
before which the pending sets are pulled (06 R163; log 12). -/
def State.watchHead (s : State) (lid : Nat) : State :=
  match mfind s.launches lid with
  | none => s
  | some l =>
    if l.stage ≠ .checked ∨ s.depHolds l = false then s
    else if l.waitsig = 0 then s.setLaunch lid { l with stage := .eligible }
    else if l.met then s.pullAll.setLaunch lid { l with stage := .eligible }
    else if l.waiting.isSome then s
    else s.armWaitsig lid l

/-- WAITSIG_SATISFIED: R232, 06 R160. -/
def execWaitsigSatisfied (die n : Nat) (s : State) : Host.Outcome State Fault Refusal :=
  match (s.queue (queueKey die n)).headLaunch with
  | none => .next s
  | some lid => .next (s.watchHead lid)

/-- A head launch goes as far as it can without its prologue. -/
def State.advanceHead (s : State) (lid : Nat) : State := (s.checkLaunch lid).watchHead lid

end Sys2Proof.Machine
end

