-- ==== Sys2Proof/Machine/Placer.lean ====
section
/-!
DEFINITION. The gang placer (14 R240 to R242, 01 R8, R9, R11, R12, 05 R121, R124) and the retirement of gangs and launches
(11 R224, R225, 14 R234).
-/

namespace Sys2Proof.Machine

/-! ### Cores (01 R11, R12) -/

/-- Whether a warp holds its partition: it has not ended, or something it issued is still under way. -/
def Warp.holds (w : Warp) : Bool :=
  w.live != 0 || !w.loads.isEmpty || !w.stores.isEmpty || w.copies != 0 || w.matrix != 0

/-- The warps that hold a partition of a core. -/
def State.onPartition (s : State) (ck p : Nat) : List Warp :=
  (s.warps.filter fun e => e.1 / 2 ^ 4 == 32 * ck + p && e.2.holds).map Prod.snd

/-- R11: whether a partition can take one more warp. -/
def State.partitionTakes (s : State) (ck p width alloc : Nat) : Bool :=
  let l := s.onPartition ck p
  decide ((l.map fun w => w.alloc * w.width * 4).sum + alloc * width * 4 ≤ 65536) && decide (l.length < 16)

/-- The partition of warp k of a workgroup admitted to a core (R12). -/
def seatPartition (rotation k : Nat) : Nat := (k + rotation) % 32

/-- R240: whether a core is free for a workgroup of a launch, under R11 and R12; it is busy otherwise. -/
def State.coreFree (s : State) (ck : Nat) (l : Launch) : Bool :=
  (List.range l.warps).all fun k => s.partitionTakes ck (seatPartition (s.core ck).rotation k) l.width l.alloc

/-- R240: whether a core is free for a workgroup of a launch, and its schedule table where the launch names one. -/
def State.coreFits (s : State) (ck : Nat) (l : Launch) : Bool :=
  s.coreFree ck l && (l.schedVa == 0 || (s.core ck).sched.isNone)

/-- The lowest slot of a partition that no warp holds. -/
def State.freeSlot (s : State) (ck p : Nat) : Nat :=
  let used := (s.onPartition ck p).map fun w => w.slot
  ((List.range 16).find? fun k => !used.contains k).getD 0

/-! ### Local memory (05 R121) -/

/-- The units of 16 KiB that n bytes take. -/
def localUnits (n : Nat) : Nat := (n + 16383) / 16384

/-- The runs of units that gangs hold on a cluster: first unit and length. -/
def State.unitsHeld (s : State) (die cl : Nat) : List (Nat × Nat) :=
  (s.gangs.filter fun e => e.2.die == die && e.2.cluster == cl).map fun e => (e.2.base / 16384, localUnits e.2.localBytes)

/-- The lowest run of n free units, beside those held (log 40). -/
def freeRun (held : List (Nat × Nat)) (n : Nat) : Option Nat :=
  let starts := 0 :: held.map fun h => h.1 + h.2
  let fits := starts.filter fun u => decide (u + n ≤ 1024) && held.all fun h =>
    decide (h.1 + h.2 ≤ u) || decide (u + n ≤ h.1) || h.2 == 0
  match fits with
  | [] => none
  | x :: r => some (r.foldl min x)

/-! ### Windows (R240) -/

/-- Whether a cluster has started since the package reset (18 R291). -/
def State.clusterUp (s : State) (die cl : Nat) : Bool := (allClusters.take s.host.clustersUp).contains (clusterKey die cl)

/-- Whether a cluster serves a context or is idle. -/
def State.serves (s : State) (die cl asid : Nat) : Bool :=
  s.clusterUp die cl && match (s.cluster (clusterKey die cl)).asid with
    | some a => a == asid
    | none => true

/-- R242, R243: the reservations that bind on a cluster: launch, record and first core. One that is kept across a switch binds
again once its context is back: not while the cluster serves another context, nor while it stands idle with the context switched
off it (log 83). -/
def State.reserved (s : State) (die cl : Nat) : List (Nat × Launch × Nat) :=
  s.launches.filterMap fun e =>
    match e.2.window with
    | some (c, core) =>
      if e.2.die = die ∧ c = cl ∧ e.2.isOpen ∧ s.serves die cl e.2.asid ∧ !(s.ctx (ctxKey die e.2.asid)).leaving.contains cl
      then some (e.1, e.2, core) else none
    | none => none

/-- R240: whether the window of a cluster from core c (within the die) fits a gang of a launch; the unit its region
starts at. A cluster that the context is being switched off, or has been, takes no gang of it (15 R253). -/
def State.windowFits (s : State) (lid : Nat) (l : Launch) (cl c : Nat) : Option Nat :=
  let others := (s.reserved l.die cl).filter fun r => r.1 ≠ lid
  let mine := (List.range l.members).map fun k => c + k
  let units := localUnits l.localBytes
  if !(s.serves l.die cl l.asid) ∨ (s.ctx (ctxKey l.die l.asid)).leaving.contains cl ∨ !(mine.all fun k => s.coreFits (coreKey l.die k) l) ∨
      (mine.any fun k => others.any fun r => decide (r.2.2 ≤ k) && decide (k < r.2.2 + r.2.1.members)) then none
  else
    let held := s.unitsHeld l.die cl
    match freeRun held units with
    | none => none
    | some u =>
      if others.all fun r => (freeRun ((u, units) :: held) (localUnits r.2.1.localBytes)).isSome then some u else none

/-- The windows of a region for k workgroups, lowest first. -/
def windowsOf (region : List Nat) (k : Nat) : List (Nat × Nat) :=
  (ordered region).flatMap fun cl => (List.range (9 - k)).map fun c => (cl, 8 * cl + c)

/-- The region of a launch's context. -/
def State.regionOf (s : State) (l : Launch) : List Nat :=
  let c := s.ctx (ctxKey l.die l.asid)
  if c.bound ∧ !c.killed then c.region.filter fun cl => decide (cl < clusterCount l.die) else []

/-- The lowest fitting window of a gang, or its reserved window where that fits and lies in the region. -/
def State.findWindow (s : State) (lid : Nat) (l : Launch) : Option (Nat × Nat × Nat) :=
  let l' := match l.window with
    | some w => if (s.regionOf l).contains w.1 then [w] else []
    | none => windowsOf (s.regionOf l) l.members
  l'.findSome? fun w => (s.windowFits lid l w.1 w.2).map fun u => (w.1, w.2, u)

/-! ### Admission (01 R8, R12, 06 R148) -/

/-- R243: the wait of a blocked head has not run while its context held no cluster. -/
def State.shiftWaits (s : State) (die asid : Nat) : State :=
  let out := (s.ctx (ctxKey die asid)).outSince
  { s with launches := s.launches.map fun e =>
      if e.2.die = die ∧ e.2.asid = asid then
        (e.1, { e.2 with blockedSince := e.2.blockedSince.map fun t => t + (s.now - max t out) }) else e }

/-- R282, R124, R260: a cluster takes a context. -/
def State.takeCluster (s : State) (die cl asid : Nat) : State :=
  let key := clusterKey die cl
  if (s.cluster key).asid = some asid then s
  else
    let s := if (s.clustersOf die asid).isEmpty then s.shiftWaits die asid else s
    let s := (coresOfCluster die cl).foldl (fun s ck =>
      s.setCore ck { (s.core ck).cleared with lastAuto := none }) s
    let s := s.setCluster key { s.cluster key with asid := some asid }
    s.wakeCluster die cl

/-- One workgroup of a gang is admitted to a core, which discards the words that it has fetched (03 R81). -/
def State.seatWorkgroup (s : State) (l : Launch) (gid g cl c m : Nat) : State :=
  let ck := coreKey l.die (c + m)
  let rot := (s.core ck).rotation
  let s := (List.range l.warps).foldl (fun s k =>
    let p := seatPartition rot k
    let seat : Seat :=
      { die := l.die, asid := l.asid, cluster := cl, core := c + m, partition := p, slot := s.freeSlot ck p, gang := gid,
        member := m, index := k }
    s.setWarp seat.key (Warp.start seat l.width l.alloc (BitVec.ofNat 64 l.entry))) s
  let sched : Option SchedTable :=
    if l.schedVa = 0 then (s.core ck).sched
    else some { gang := gid, member := m, cursor := 0,
                entries := schedShare l.sched (l.gangs * l.members) (g * l.members + m) }
  (s.setCore ck { s.core ck with rotation := (rot + l.warps) % 32, sched := sched, icache := [] }).acquireCore ck

/-- The next gang of a launch is placed on a window, and admitted. -/
def State.placeGang (s : State) (lid : Nat) (l : Launch) (w : Nat × Nat × Nat) : State :=
  let s := s.takeCluster l.die w.1 l.asid
  let r := s.fresh
  let x : Gang :=
    { launch := lid, index := l.nextGang, die := l.die, asid := l.asid, cluster := w.1, core := w.2.1, members := l.members,
      warps := l.warps, base := 16384 * w.2.2, localBytes := l.localBytes, bars := [], admitted := s.now }
  let s := r.2.setGang r.1 x
  let s := (List.range l.members).foldl (fun s m => s.seatWorkgroup l r.1 l.nextGang w.1 w.2.1 m) s
  s.setLaunch lid { l with nextGang := l.nextGang + 1, blockedSince := none, passes := 0, window := none }

/-- Every gang of a launch placed as far as windows fit: the state, and whether all are placed. -/
def State.placeAll (fuel : Nat) (s : State) (lid : Nat) : State × Bool :=
  match fuel with
  | 0 => (s, true)
  | fuel + 1 =>
    match mfind s.launches lid with
    | none => (s, false)
    | some l =>
      if l.gangs ≤ l.nextGang then (s, true)
      else match s.findWindow lid l with
        | none => (s, false)
        | some w => State.placeAll fuel (s.placeGang lid l w) lid

/-- The machine as if every cluster had started, and no workgroup were resident in the region of a context (R241, R242). -/
def State.emptied (s : State) (die asid : Nat) (region : List Nat) : State :=
  let gone := fun (cl : Nat) => region.contains cl
  let s : State :=
           { s with warps := s.warps.filter fun e => !(e.2.die == die && gone e.2.cluster),
                    gangs := s.gangs.filter fun e => !(e.2.die == die && gone e.2.cluster),
                    launches := s.launches.map fun e => if e.2.die = die then (e.1, { e.2 with window := none }) else e }
  let s := { s with host := { s.host with clustersUp := 24 } }
  let s := s.setCtx (ctxKey die asid) { s.ctx (ctxKey die asid) with leaving := [] }
  region.foldl (fun s cl =>
    let s := s.setCluster (clusterKey die cl) { s.cluster (clusterKey die cl) with asid := none }
    (coresOfCluster die cl).foldl (fun s ck => s.setCore ck { s.core ck with sched := none }) s) s

/-- Whether the gangs of a launch from its next one could all stand at once in its empty region; or only that one. -/
def State.couldFit (s : State) (lid : Nat) (l : Launch) (whole : Bool) : Bool :=
  let t := s.emptied l.die l.asid (s.regionOf l)
  if whole then (t.placeAll (l.gangs + 1) lid).2
  else match mfind t.launches lid with
    | none => false
    | some l => (t.findWindow lid l).isSome

/-- R230: a launch with every gang placed is head launch no longer, unless it repeats (R235). -/
def State.launchPlaced (s : State) (lid : Nat) : State :=
  match mfind s.launches lid with
  | none => s
  | some l =>
    if l.gangs ≤ l.nextGang ∧ l.stage = .eligible then
      let s := s.setLaunch lid { l with stage := .placed }
      let qk := queueKey l.die l.queue
      let s := if l.repeats then s else s.setQueue qk ((s.queue qk).dropHead lid)
      s.checkTriggered lid
    else s

/-! ### Blocked heads (R241, R242) -/

/-- Whether cores c to c + k - 1 of a cluster overlap a reservation of another launch. -/
def State.overlaps (s : State) (lid die cl c k : Nat) : Bool :=
  ((s.reserved die cl).filter fun r => r.1 ≠ lid).any fun r => decide (c < r.2.2 + r.2.1.members) && decide (r.2.2 < c + k)

/-- How a window is judged for a reservation: its busy cores, and when the last gang on those was admitted. -/
def State.windowScore (s : State) (l : Launch) (c : Nat) : Nat × Nat :=
  let busy := ((List.range l.members).map fun k => c + k).filter fun k => !s.coreFree (coreKey l.die k) l
  let gangs := (s.gangs.filter fun e => e.2.die == l.die && busy.any fun k =>
    decide (e.2.core ≤ k) && decide (k < e.2.core + e.2.members)).map fun e => e.2.admitted
  (busy.length, gangs.foldl max 0)

/-- R242: a blocked head reserves a window. -/
def State.reserve (s : State) (lid : Nat) : State :=
  match mfind s.launches lid with
  | none => s
  | some l =>
    if l.window.isSome ∨ l.coResident ∨ l.blockedSince.isNone then s
    else
      let l' := (windowsOf (s.regionOf l) l.members).filter fun w =>
        s.serves l.die w.1 l.asid && !s.overlaps lid l.die w.1 w.2 l.members
      let score := fun (w : Nat × Nat) => s.windowScore l w.2
      let first := fun (a b : Nat × Nat) =>
        let x := score a
        let y := score b
        if y.1 < x.1 ∨ (y.1 = x.1 ∧ y.2 < x.2) then b else a
      match l' with
      | [] => s
      | x :: r => s.setLaunch lid { l with window := some (r.foldl first x) }

/-- R241: a gang was placed: every head that stands blocked earlier in the pass is passed once more, and ages at 8. -/
def State.countPass (s : State) (blocked : List Nat) : State :=
  blocked.foldl (fun s k =>
    match mfind s.launches k with
    | none => s
    | some l =>
      let s := s.setLaunch k { l with passes := l.passes + 1 }
      if 8 ≤ l.passes + 1 then s.reserve k else s) s

/-- R241: the gangs of a launch that is not co-resident are placed until one is blocked. -/
def State.placeEach (fuel : Nat) (s : State) (blocked : List Nat) (lid : Nat) : State × Bool :=
  match fuel with
  | 0 => (s, false)
  | fuel + 1 =>
    match mfind s.launches lid with
    | none => (s, false)
    | some l =>
      if l.stage ≠ .eligible ∨ l.gangs ≤ l.nextGang then (s, false)
      else match s.findWindow lid l with
        | some w => State.placeEach fuel ((s.placeGang lid l w).countPass blocked) blocked lid
        | none =>
          if s.couldFit lid l false then
            (s.setLaunch lid { l with blockedSince := some (l.blockedSince.getD s.now) }, true)
          else (s.endLaunch lid 7 [], false)

/-- R241: one eligible head in a pass; `blocked` are the heads that stand blocked before it. -/
def State.placeHead (s : State) (blocked : List Nat) (lid : Nat) : State × List Nat :=
  match mfind s.launches lid with
  | none => (s, blocked)
  | some l =>
    if l.stage ≠ .eligible then (s, blocked)
    else if l.coResident then
      match s.placeAll (l.gangs + 1) lid with
      | (t, true) => (((List.range l.gangs).foldl (fun t _ => t.countPass blocked) t).launchPlaced lid, blocked)
      | (_, false) => (s.endLaunch lid (if s.couldFit lid l true then 3 else 7) [], blocked)
    else
      let r := s.placeEach (l.gangs + 1) blocked lid
      (r.1.launchPlaced lid, if r.2 then blocked ++ [lid] else blocked)

/-- Pairs in increasing order of the first number, and of the second where the first are equal. -/
def pairsInOrder (l : List (Nat × Nat)) : List (Nat × Nat) :=
  let before := fun (a b : Nat × Nat) => decide (a.1 < b.1) || (a.1 == b.1 && decide (a.2 ≤ b.2))
  l.foldr (fun x acc => (acc.takeWhile fun y => !before x y) ++ x :: acc.dropWhile fun y => !before x y) []

/-- The head launches of a die in the order of a pass (R241): by priority, and in the order in which they became head. Their
numbers tell: those that become head in one step, which only `State.retryWrites` can make, are numbered in order of their
queues. -/
def State.headsOf (s : State) (die : Nat) : List Nat :=
  let l := (s.queues.filter fun e => e.1 / 256 == die).filterMap fun e =>
    e.2.headLaunch.bind fun lid => (mfind s.launches lid).map fun x => (7 - min x.prio e.2.maxprio, lid)
  (pairsInOrder l).map Prod.snd

/-- A pass of the placer. -/
def State.placerPass (s : State) (die : Nat) : State :=
  let s := (s.headsOf die).foldl State.advanceHead s
  ((s.headsOf die).foldl (fun r lid => r.1.placeHead r.2 lid) (s, [])).1

/-- PLACER_PASS: R241. -/
def execPlacerPass (die : Nat) (s : State) : Host.Outcome State Fault Refusal := .next (s.placerPass die)

/-- HEAD_GANG_AGE_TIMEOUT: R242, R243. 20 µs have passed since the head gang first stood blocked, not counting the time in which
its context held no cluster. -/
def execHeadGangAgeTimeout (die n : Nat) (s : State) : Host.Outcome State Fault Refusal :=
  let q := s.queue (queueKey die n)
  match q.headLaunch with
  | none => .next s
  | some lid =>
    match (mfind s.launches lid).bind fun l => l.blockedSince with
    | some t => .next (if t + 20000 ≤ s.now ∧ (s.clustersOf die q.asid).length ≠ 0 then s.reserve lid else s)
    | none => .next s

/-! ### Retirement (R224, R225, R234) -/

/-- Whether every warp of a gang has ended, and everything that they issued has been done. -/
def State.gangDone (s : State) (g : Nat) : Bool :=
  s.warps.all (fun e => e.2.gang != g || !e.2.holds) &&
    s.clusters.all (fun e => e.2.cq.all fun c => c.gang != g) && s.cores.all (fun e => e.2.mq.all fun c => c.gang != g)

/-- R234: a launch whose last gang has retired. -/
def State.retireLaunch (s : State) (lid : Nat) : State :=
  match mfind s.launches lid with
  | none => s
  | some l =>
    if l.stage = .placed ∧ l.retired = l.gangs then
      let signal : List FrontWrite :=
        if l.signal = 0 then []
        else [{ kind := 2, addr := l.signal, op := some .addB64, value := BitVec.ofNat 64 (l.word 8) }]
      s.endLaunch lid 1 signal
    else s

/-- R225: a gang retires: its cores' data goes home, its pins and region are freed, its done bit is set. -/
def State.retireGang (s : State) (g : Nat) (x : Gang) : State :=
  let s := (List.range x.members).foldl (fun s k => s.releaseCore (coreKey x.die (x.core + k))) s
  let s := s.unpin [g]
  let s := { s with warps := s.warps.filter fun e => e.2.gang ≠ g, gangs := mdel s.gangs g,
                    lmem := s.lmem.filter fun e => e.1 / 2 ^ 24 ≠ g }
  match mfind s.launches x.launch with
  | none => s
  | some l =>
    let s := (s.setLaunch x.launch { l with retired := l.retired + 1 }).frontWrites x.launch (l.bitWrite x.index false)
    s.retireLaunch x.launch

/-- GANG_RETIRE: R225, R224. -/
def execGangRetire (g : Nat) (s : State) : Host.Outcome State Fault Refusal :=
  match mfind s.gangs g with
  | none => .next s
  | some x => .next (if s.gangDone g then s.retireGang g x else s)

end Sys2Proof.Machine
end

