-- ==== Sys2Proof/Machine/Time.lean ====
section
/-!
DEFINITION. Time passing: what goes on by itself while TIME does (07 R175, R182; 18 R281, R285).
-/

namespace Sys2Proof.Machine

/-- A bucket after some ns (07 R175). -/
def Bucket.refill (b : Bucket) (dt : Nat) : Bucket := { b with fill := min b.depth (b.fill + b.rate * dt) }

/-- The buckets of a context after some ns. -/
def Ctx.refill (c : Ctx) (dt : Nat) : Ctx :=
  (mkeys c.buckets).foldl (fun c k => c.setBucket k ((c.bucket k).refill dt)) c

/-- Some ns pass: samples see what the partitions are meanwhile, buckets fill, and points that waited long enough for a width
change are taken. -/
def State.advance (s : State) (dt : Nat) : State :=
  let s := (mkeys s.clusters).foldl State.markSample s
  let s := { s with now := s.now + dt }
  let s := (mkeys s.ctxs).foldl (fun s k => s.setCtx k ((s.ctx k).refill dt)) s
  (mkeys s.dies).foldl State.releasePoints s

/-- Time passes: a free number of ns, at least one. -/
def State.timePasses (s : State) : State :=
  let r := s.freeNat
  r.2.advance (r.1 + 1)

/-- 18 R291: whether the next cluster in order may start: at least 1 µs after the one before it. -/
def State.mayStart (s : State) : Bool :=
  decide (s.host.clustersUp < 24) && (s.host.clustersUp == 0 || decide (s.host.lastStart + 1000 ≤ s.now))

/-- The next cluster starts, at point 0. -/
def State.startCluster (s : State) : State :=
  if s.mayStart then { s with host := { s.host with clustersUp := s.host.clustersUp + 1, lastStart := s.now } } else s

end Sys2Proof.Machine
end

