-- ==== Sys2Proof/Machine/SpecialRegs.lean ====
section
/-!
DEFINITION. The special registers, `getsr`, `setsr` (02 R40 to R45, 22 R370, 24 R418, 15 R244) and `tlbi` (24 R430, R431).
-/

namespace Sys2Proof.Machine

/-- LSTK of one entry (R44). -/
def LoopEntry.lstk (e : LoopEntry) : Xword :=
  BitVec.ofNat 64 ((e.stop - e.start).toNat / 4 % 2 ^ 18 + 2 ^ 18 + 2 ^ 32 * e.count.toNat)

/-- LSTK n, the bottom entry first; an entry that does not exist reads as zero. -/
def Warp.lstk (w : Warp) (n : Nat) : Xword :=
  match w.loops.reverse[n]? with
  | some e => e.lstk
  | none => 0

/-- REPSTATE (01 R31). -/
def Warp.repState (w : Warp) : Xword :=
  BitVec.ofNat 64 (w.rep.done % 2 ^ 6 + (if w.rep.busy then 2 ^ 6 else 0) + 2 ^ 7 * (w.rep.cnt % 2 ^ 6))

/-- The gang of a warp: index, workgroups and warps of a workgroup. -/
def State.gangOf (s : State) (w : Warp) : Nat × Nat × Nat :=
  match mfind s.gangs w.gang with
  | some g => (g.index, g.members, g.warps)
  | none => (0, 0, 0)

/-- LARG. -/
def State.larg (s : State) (w : Warp) : Nat :=
  match mfind s.gangs w.gang with
  | none => 0
  | some g => match mfind s.launches g.launch with
    | some l => l.args
    | none => 0

/-- R41: the value of a scalar special register, as it stands; none for LANE and for a reserved number. -/
def State.special (s : State) (c : Cur) (w : Warp) (n : Nat) : Option Xword :=
  let ctx := s.ctx w.ctxK
  let cl := s.cluster w.clusterK
  let nat := fun k : Nat => some (BitVec.ofNat 64 k)
  match n with
  | 1 => nat w.index
  | 2 => nat ((s.gangOf w).1 * (s.gangOf w).2.1 + w.member)
  | 3 => nat (s.gangOf w).1
  | 4 => nat w.member
  | 5 => nat w.core
  | 6 => nat w.cluster
  | 7 => nat w.die
  | 8 => nat w.width
  | 9 => nat (s.gangOf w).2.2
  | 10 => some cl.cycle
  | 11 => nat (s.timeOf w.die)
  | 12 => some (cl.xrate.setWidth 64)
  | 13 => some ctx.lrate
  | 14 => some w.cvtmode
  | 15 => nat w.vwb
  | 16 => some (w.lstk 0)
  | 17 => some (w.lstk 1)
  | 18 => some (w.lstk 2)
  | 19 => some (w.lstk 3)
  | 20 => some w.repState
  | 21 => some w.restart
  | 22 => some ctx.energy
  | 23 => some (cl.stallr.setWidth 64)
  | 24 => nat cl.freq
  | 25 => nat (s.ceilAt w.die (s.timeOf w.die))
  | 26 => nat (mget Bucket.atReset ctx.buckets 0).fill
  | 27 => nat (s.larg w)
  | 28 => some (w.mask 0).enrolled
  | 29 => some (w.mask 1).enrolled
  | 30 => some (w.mask 2).enrolled
  | 31 => some (w.mask 3).enrolled
  | 32 => some (w.mask 4).enrolled
  | 33 => some (w.mask 5).enrolled
  | 34 => some (w.mask 6).enrolled
  | 35 => some (w.mask 7).enrolled
  | 36 => some c.lanes
  | 37 => nat ctx.pwrcls
  | 38 => some w.srseed
  | 64 => some (if w.priv then 1 else 0)
  | 65 => some w.trappc
  | 66 => some w.trapcause
  | 67 => some w.trapinfo
  | 68 => some ctx.trapvec
  | 69 => nat w.asid
  | 70 => some ctx.ptbase
  | 71 => some w.scratch0
  | 72 => some w.scratch1
  | 73 => nat ctx.efloor
  | _ => none

/-- CYCLE and TIME go on by themselves: a free amount before each read of one, and before each of what follows TIME, CEIL and
BUCKET (log 2). -/
def State.passTime (s : State) (w : Warp) (n : Nat) : State :=
  match n with
  | 10 =>
    let r := s.freeNat
    let k := r.2.cluster w.clusterK
    r.2.setCluster w.clusterK { k with cycle := k.cycle + BitVec.ofNat 64 r.1 }
  | 11 | 25 | 26 => let r := s.freeNat; r.2.advance r.1
  | _ => s

/-- GETSR: R370, R40. LANE goes to a vector register. -/
def execGetsr (d : BitVec 7) (n : BitVec 7) (s : State) : Host.Outcome State Fault Refusal :=
  s.run { sup := true, privileged := decide (64 ≤ n.toNat), names := if n = 0 then [d.toNat] else [] } fun c w =>
    if n = 0 then .done (s.setWarp c.warp (w.vecMap c.lanes d fun i => BitVec.ofNat 32 i))
    else
      let t := s.passTime w n.toNat
      match t.special c w n.toNat with
      | none => .trap s 0x01 0 false
      | some x => .done (t.setWarp c.warp (w.setS (d.setWidth 6) x))

/-- R418: the bits that must be 0 in a value written; none for a register that is not written by `setsr`. -/
def setsrZero (n : Nat) : Option Nat :=
  match n with
  | 13 => some 0xFFFFFFFF00000000
  | 14 => some 0xF888888888888888
  | 21 => some 0xFE00000000000002
  | 37 => some 0xFFFFFFFFFFFFFFF8
  | 38 => some 0
  | 65 => some 0xFE00000000000003
  | 66 => some 0xFFFFFFFFFFFFFF00
  | 67 => some 0
  | 68 => some 3
  | 70 => some 0xFFF000000001FFFF
  | 71 => some 0
  | 72 => some 0
  | _ => none

/-- R101: every lane's stochastic state from a seed. -/
def Warp.reseed (w : Warp) (x : Xword) : Warp :=
  { w with srseed := x, lanes := mapLanes (fun i l => { l with xs := xsSeed x i }) 0 w.lanes }

/-- R418: a write that passes its checks. -/
def State.setSpecial (s : State) (k : Nat) (w : Warp) (n : Nat) (x : Xword) : State :=
  let ctx := s.ctx w.ctxK
  match n with
  | 13 => s.setCtx w.ctxK { ctx with lrate := x }
  | 14 => s.setWarp k { w with cvtmode := x }
  | 21 => s.setWarp k { w with restart := x &&& 0x01FFFFFFFFFFFFFC }
  | 37 => s.setCtx w.ctxK { ctx with pwrcls := x.toNat }
  | 38 => s.setWarp k (w.reseed x)
  | 65 => s.setWarp k { w with trappc := x }
  | 66 => s.setWarp k { w with trapcause := x }
  | 67 => s.setWarp k { w with trapinfo := x }
  | 68 => s.setCtx w.ctxK { ctx with trapvec := x }
  | 70 => s.setCtx w.ctxK { ctx with ptbase := x }
  | 71 => s.setWarp k { w with scratch0 := x }
  | 72 => s.setWarp k { w with scratch1 := x }
  | _ => s

/-- SETSR: R418, R40. -/
def execSetsr (n : BitVec 7) (a : SReg) (s : State) : Host.Outcome State Fault Refusal :=
  s.run { sup := true, privileged := decide (64 ≤ n.toNat), names := [] } fun c w =>
    match setsrZero n.toNat with
    | none => .trap s 0x01 0 false
    | some bits =>
      if w.s a &&& BitVec.ofNat 64 bits ≠ 0 then .trap s 0x01 0 false
      else .done (s.setSpecial c.warp w n.toNat (w.s a))

/-- Whether accesses of a context are on their way from a die; those of its front end, which no counter counts, among them. -/
def Causeway.accessesFrom (c : Causeway) (die asid : Nat) : Bool :=
  (c.outbox ++ c.flying ++ c.held).any fun e => e.1 / 16 == die && e.2.any fun p => p.isAccess && p.asid == asid

/-- Whether accesses of a context on a die have been issued and not performed: packets, engine
commands that wait for some, walks. -/
def State.accessesOut (s : State) (die asid : Nat) : Bool :=
  (s.warps.any fun e => e.2.ofCtx die asid && (!e.2.stores.isEmpty || e.2.loads.any fun l => l.lost.isNone && !l.waiting.isEmpty)) ||
    ((List.range (clusterCount die)).any fun c =>
      (s.cluster (clusterKey die c)).cq.any fun q => q.asid == asid && (q.packets != 0 || q.asked.isSome)) ||
    ((List.range (coreCount die)).any fun c =>
      (s.core (coreKey die c)).mq.any fun q => q.asid == asid && (q.packets != 0 || q.asked.isSome)) ||
    ((s.die die).colls.any fun x => x.1.asid == asid && (x.1.packets != 0 || x.1.asked.isSome)) ||
    ((s.die die).walks.any fun k => k.asid == asid) || s.cway.accessesFrom die asid

/-- TLBI: R430, R431. It completes once every access that may use a removed entry has been performed. -/
def execTlbi (a : SReg) (all : Bool) (s : State) : Host.Outcome State Fault Refusal :=
  s.run { sup := true, privileged := true, names := [] } fun _ w =>
    let s := s.releaseCore w.coreK
    let s := s.tlbRemove w.die fun l => if all then l.asid == w.asid else l.covers w.asid (w.s a).toNat
    if s.accessesOut w.die w.asid then .stop s .scoreboard else .done s

end Sys2Proof.Machine
end

