-- ==== Sys2Proof/Machine/SaveArea.lean ====
section
/-!
DEFINITION. The warp save record (15 R251, R252; log 41): a warp as the bytes of its record, and a warp with what a record
in memory holds.
-/

namespace Sys2Proof.Machine

/-- The bytes of a record: 2,048 + 4AW. -/
def Warp.recordBytes (w : Warp) : Nat := 2048 + 4 * w.alloc * w.width

/-- STAT of a lane's status: 0 candidate, 1 parked, 2 held, 3 exited. -/
def LaneStat.code (x : LaneStat) : Nat :=
  match x with
  | .candidate => 0
  | .parked _ => 1
  | .held => 2
  | .exited => 3

/-- The STAT byte of a lane. -/
def Lane.statByte (l : Lane) : Nat := if l.suspended then 4 + 16 * l.stat.code else l.stat.code

/-- The code of STOP [3:0]. -/
def Stop.code (x : Stop) : Nat :=
  match x with
  | .running => 0
  | .monitor .. => 1
  | .barrier _ => 2
  | .waitn .. => 3
  | .fault .. => 4
  | .bucket _ => 5
  | .scoreboard | .engine => 6

/-- Words as bytes, with zero bytes up to a length. -/
def padded (n : Nat) (l : List Byte) : List Byte := l ++ List.replicate (n - l.length) 0

/-- The bytes of a number of words. -/
def words8 (l : List Xword) : List Byte := l.flatMap fun x => leBytes 8 x.toNat

/-- Loop entry n of a record, the bottom one first. -/
def Warp.loopBytes (w : Warp) (n : Nat) : List Byte :=
  match w.loops.reverse[n]? with
  | some e => words8 [e.start, e.stop, e.count.setWidth 64, e.inBody, e.held, 0]
  | none => List.replicate 48 0

/-- A warp's record. -/
def Warp.toRecord (w : Warp) : List Byte :=
  let lanes := w.lanes
  let stopWord := w.stop.code + (if w.pendingRestart then 16 else 0)
  let latch := (if w.priv then w.supLatch else w.latch).getD 0
  padded 0x200 (words8 (lanes.map fun l => l.pc)) ++
  padded 0x40 (lanes.map fun l => BitVec.ofNat 8 l.age) ++
  padded 0x40 (lanes.map fun l => BitVec.ofNat 8 l.statByte) ++
  (allMasks.flatMap fun j => words8 [(w.mask j).enrolled, (w.mask j).arrived, (w.mask j).pc, 0]) ++
  ((List.range 4).flatMap fun n => w.loopBytes n) ++
  words8 [w.repState, BitVec.ofNat 64 w.vwb, w.cvtmode, w.srseed, w.restart, BitVec.ofNat 64 stopWord, latch, w.tlanes] ++
  words8 [if w.priv then 1 else 0, w.trappc, w.trapcause, w.trapinfo, w.scratch0, w.scratch1, 0, 0] ++
  words8 ((List.range 8).map fun n => w.p (BitVec.ofNat 3 n)) ++
  padded 0x100 (lanes.flatMap fun l => leBytes 4 l.xs.toNat) ++
  words8 ((List.range 64).map fun n => w.s (BitVec.ofNat 6 n)) ++
  ((List.range w.alloc).flatMap fun m => (List.range w.width).flatMap fun i =>
    leBytes 4 (mget 0 w.vregs (64 * m + i)).toNat)

/-! ### Restoring -/

/-- A number of n bytes at an offset of a record. -/
def recNum (r : List Byte) (off n : Nat) : Nat := leNat ((r.drop off).take n)
def recX (r : List Byte) (off : Nat) : Xword := BitVec.ofNat 64 (recNum r off 8)

/-- The status that a code stands for, with the mask a parked lane waits at; a code never written leaves the status as it
was. -/
def statOf (masks : SMap RejoinMask) (i code : Nat) (was : LaneStat) : LaneStat :=
  match code with
  | 0 => .candidate
  | 1 =>
    (match (masks.find? fun e => e.2.arrived.getLsbD i) with
      | some e => .parked (BitVec.ofNat 3 e.1)
      | none => was)
  | 2 => .held
  | 3 => .exited
  | _ => was

/-- A lane with what a record holds for it. -/
def Lane.fromRecord (r : List Byte) (masks : SMap RejoinMask) (i : Nat) (l : Lane) : Lane :=
  let b := recNum r (0x240 + i) 1
  let sus := b % 16 == 4
  { l with pc := recX r (8 * i), age := recNum r (0x200 + i) 1, suspended := sus,
           stat := statOf masks i (if sus then b / 16 else b % 16) l.stat,
           xs := BitVec.ofNat 32 (recNum r (0x500 + 4 * i) 4) }

/-- A table of the entries of a list that are not the default. -/
def tableOf {β : Type} [DecidableEq β] (d : β) (l : List (Nat × β)) : SMap β := l.foldl (fun m e => mset d m e.1 e.2) []

/-- R31: with a sequence in progress as a record says, its lanes: those of the sequence that was saved, where they are
candidates, else the group that issues next. -/
def Warp.repLanes (w : Warp) (was : RepState) : LaneSet :=
  let u := { w with rep := RepState.idle }
  let kept := if was.busy then was.lanes &&& u.candidates else 0
  if kept != 0 then kept else (u.primary.map Prod.snd).getD 0

/-- A warp with what its record holds; what a record does not hold stays as it was saved, and a value that its monitor
latched after the save is kept (log 41, 11 R219). -/
def Warp.fromRecord (w : Warp) (r : List Byte) : Warp :=
  let masks := tableOf RejoinMask.free ((List.range 8).map fun n =>
    let o := 0x280 + 32 * n
    (n, ({ enrolled := recX r o, arrived := recX r (o + 8), pc := recX r (o + 16) } : RejoinMask)))
  let loops := (((List.range 4).map fun n =>
    let o := 0x380 + 48 * n
    ({ start := recX r o, stop := recX r (o + 8), count := BitVec.ofNat 32 (recNum r (o + 16) 4), inBody := recX r (o + 24),
       held := recX r (o + 32) } : LoopEntry)).takeWhile fun e => e.start != 0 || e.stop != 0).reverse
  let rs := recNum r 0x440 8
  let latch := recX r 0x470
  let fresh := w.stop == .running && recNum r 0x468 8 % 16 == 1
  let u := { w with
    lanes := mapLanes (fun i l => l.fromRecord r masks i) 0 w.lanes, masks := masks, loops := loops,
    rep := { w.rep with done := rs % 2 ^ 6, busy := rs / 2 ^ 6 % 2 == 1, cnt := rs / 2 ^ 7 % 2 ^ 6 },
    vwb := recNum r 0x448 8, cvtmode := recX r 0x450, srseed := recX r 0x458, restart := recX r 0x460,
    pendingRestart := recNum r 0x468 8 / 16 % 2 == 1, latch := if w.priv || fresh then w.latch else w.latch.map fun _ => latch,
    supLatch := if w.priv && !fresh then w.supLatch.map fun _ => latch else w.supLatch, tlanes := recX r 0x478,
    priv := recNum r 0x480 1 % 2 == 1, trappc := recX r 0x488, trapcause := recX r 0x490, trapinfo := recX r 0x498,
    scratch0 := recX r 0x4A0, scratch1 := recX r 0x4A8,
    pregs := tableOf 0 ((List.range 7).map fun n => (n + 1, recX r (0x4C0 + 8 * (n + 1)))),
    sregs := tableOf 0 ((List.range 63).map fun n => (n + 1, recX r (0x600 + 8 * (n + 1)))),
    vregs := tableOf 0 ((List.range w.alloc).flatMap fun m => (List.range w.width).map fun i =>
      (64 * m + i, BitVec.ofNat 32 (recNum r (0x800 + 4 * (m * w.width + i)) 4))) }
  { u with rep := { u.rep with lanes := if u.rep.busy then u.repLanes w.rep else 0 },
           bsync := if u.lanes.map Lane.pc = w.lanes.map Lane.pc then w.bsync else none }

/-! ### The save area (R250, R253; log 41) -/

/-- A place in a context's save area for something by its key. What is saved later goes behind it. -/
def Ctx.allot (c : Ctx) (key size : Nat) : Ctx :=
  { c with savedAt := mput c.savedAt key c.saveEnd, saveEnd := c.saveEnd + (size + 63) / 64 * 64 }

/-- Where something saved stands in memory; none where F2 has named no area, or no memory stands there. -/
def Ctx.savedPa (c : Ctx) (key size : Nat) : Option Nat :=
  let pa := c.savebase + mget 0 c.savedAt key
  if c.savebase ≠ 0 ∧ memoryExists pa size then some pa else none

/-- The key of a gang in a save area, beside those of warps; and that of the context's registers. -/
def gangSaveKey (g : Nat) : Nat := 2 ^ 40 + g
def regsSaveKey : Nat := 2 ^ 39

/-- LRATE, PWRCLS, TRAPVEC, PTBASE and CTXFLOOR in a save area (R250). -/
def Ctx.regBytes (c : Ctx) : List Byte := words8 [c.lrate, BitVec.ofNat 64 c.pwrcls, c.trapvec, c.ptbase, BitVec.ofNat 64 c.efloor]

/-- A context with the registers that a save area holds. CTXFLOOR is the floor that is in force now (16 R273). -/
def Ctx.fromRegs (c : Ctx) (r : List Byte) : Ctx :=
  { c with lrate := recX r 0, pwrcls := recNum r 8 8, trapvec := recX r 16, ptbase := recX r 24 }

/-- The bytes of a gang in a save area: its region, its sixteen barrier objects, and a table for each workgroup. -/
def Gang.saveBytes (g : Gang) : Nat := g.localBytes + 2048 + 16448 * g.members

/-- A barrier object in 128 bytes. -/
def BarObj.saved (b : BarObj) : List Byte :=
  let flag := fun (p : Bool) => if p then 1 else 0
  padded 128 (leBytes 8 (flag b.ready + 2 * flag (b.stuck == .owed) + 4 * flag (b.stuck == .taken)) ++ leBytes 8 b.expected ++
    leBytes 32 b.members.toNat ++ leBytes 32 b.arrived.toNat ++ leBytes 32 b.waiters.toNat ++ leBytes 8 b.phase.toNat)

/-- A schedule table: its cursor, its count and its entries. -/
def SchedTable.saved (t : SchedTable) : List Byte :=
  leBytes 8 t.cursor ++ leBytes 8 t.entries.length ++ t.entries.flatMap fun x => leBytes 4 x

/-- What is written of a gang into its place: its region, whole, its objects and its tables. -/
def Gang.saved (g : Gang) (pa : Nat) (region : List Byte) (tables : List SchedTable) : List (Nat × Byte) :=
  let obj := pa + g.localBytes
  placed pa region ++
  (g.bars.flatMap fun e => placed (obj + 128 * e.1) e.2.saved) ++
  tables.flatMap fun t => placed (obj + 2048 + 16448 * t.member) t.saved

end Sys2Proof.Machine
end

