-- ==== Sys2Proof/Machine/Switch.lean ====
section
/-!
DEFINITION. Time-slice switches (15 R250 to R253, 09 R208, R209, 12 R226, 14 R243), kills (15 R254), uncorrectable and
corrected errors (15 R256), and what F3 does with a recorded miss (05 R134, R443).
-/

namespace Sys2Proof.Machine

/-! ### The set of clusters (R253, 12 R226) -/

/-- The clusters that gangs of co-resident launches tie to a set. -/
def State.tiedTo (s : State) (die asid : Nat) (set : List Nat) : List Nat :=
  let gs := s.gangsOf die asid
  let launches := (gs.filter fun e => set.contains e.2.cluster &&
    (match mfind s.launches e.2.launch with
      | some l => l.coResident
      | none => false)).map fun e => e.2.launch
  ordered (set ++ (gs.filter fun e => launches.contains e.2.launch).map fun e => e.2.cluster)

/-- The set that a switch takes a context off. -/
def State.switchSet (s : State) (die asid : Nat) (clusters : List Nat) : List Nat :=
  let mine := (ordered clusters).filter fun c => (s.clustersOf die asid).contains c
  (List.range 4).foldl (fun set _ => s.tiedTo die asid set) mine

/-- The warps of a context on a set of clusters. -/
def State.warpsOn (s : State) (die asid : Nat) (set : List Nat) : SMap Warp :=
  s.warps.filter fun e => e.2.ofCtx die asid && set.contains e.2.cluster

/-- A change to those warps. -/
def State.onWarps (s : State) (die asid : Nat) (set : List Nat) (f : Warp → Warp) : State :=
  { s with warps := s.warps.map fun e => if e.2.ofCtx die asid && set.contains e.2.cluster then (e.1, f e.2) else e }

/-- A stage of a switch. -/
def State.setStage (s : State) (die asid : Nat) (x : SwitchStage) : State :=
  s.setCtx (ctxKey die asid) { s.ctx (ctxKey die asid) with stage := x }

/-! ### Stages (R253) -/

/-- SWITCH_STOP: R253 stage 1. -/
def execSwitchStop (die asid : Nat) (clusters : List Nat) (s : State) : Host.Outcome State Fault Refusal :=
  let ck := ctxKey die asid
  let c := s.ctx ck
  let set := s.switchSet die asid clusters
  if set.isEmpty ∨ (c.stage ≠ .running ∧ c.stage ≠ .cleared) then .next s
  else .next (s.setCtx ck { c with stage := .stopped, leaving := ordered (c.leaving ++ set) })

/-- Loads that have come reach their registers. One that will not come stays outstanding, for the first instruction that
waits for it (R246). -/
def State.drainLoads (s : State) (k : Nat) (w : Warp) : State :=
  (w.loads.filter fun l => l.lost.isNone && l.waiting.isEmpty).foldl (fun s l => s.landLoad k l) s

/-- Whether stage 2 has ended: loads are in registers, copies and collectives have run to completion. -/
def State.drained (s : State) (die asid : Nat) (set : List Nat) : Bool :=
  (s.warpsOn die asid set).all fun e => (e.2.loads.all fun l => l.lost.isSome) && e.2.copies == 0

/-- The clusters that a switch in progress takes a context off: those of its set that still serve it. -/
def State.leavingNow (s : State) (die asid : Nat) : List Nat :=
  (s.ctx (ctxKey die asid)).leaving.filter fun cl => (s.clustersOf die asid).contains cl

/-- Matrix commands on a core are discarded; the one that is being carried out may have written a part of its output (R208,
R209). -/
def State.dropCommands (s : State) (ck : Nat) : State :=
  let s := match (s.core ck).mq with
    | c :: _ => if s.canRun c && !c.ran then s.partlyRun c else s
    | [] => s
  match (s.core ck).mq.getLast? with
  | some c => s.emptyMatrix ck c.asid
  | none => s

/-- SWITCH_DRAIN: R253 stage 2. It ends once every load and copy has. -/
def execSwitchDrain (die asid : Nat) (s : State) : Host.Outcome State Fault Refusal :=
  let c := s.ctx (ctxKey die asid)
  if c.stage ≠ .stopped then .next s
  else
    let s := (s.warpsOn die asid c.leaving).foldl (fun s e => s.drainLoads e.1 e.2) s
    let s := ((s.leavingNow die asid).flatMap fun cl => coresOfCluster die cl).foldl State.dropCommands s
    let s := s.onWarps die asid c.leaving fun w => { w with matrix := 0 }
    .next (if s.drained die asid c.leaving then s.setStage die asid .drained else s)

/-- SWITCH_WRITE_BACK: R253 stage 3, 06 R164, 05 R127. -/
def execSwitchWriteBack (die asid : Nat) (s : State) : Host.Outcome State Fault Refusal :=
  let c := s.ctx (ctxKey die asid)
  if c.stage ≠ .drained then .next s
  else
    let s := ((s.leavingNow die asid).flatMap fun cl => coresOfCluster die cl).foldl (fun s ck => s.releaseCore ck) s
    let gs := ((s.gangsOf die asid).filter fun e => c.leaving.contains e.2.cluster).map Prod.fst
    .next ((s.unpin gs).setStage die asid .writtenBack)

/-- R252: a warp with a label that is saved in supervisor mode restarts at its `eret`. -/
def Warp.markRestart (w : Warp) : Warp :=
  if w.priv ∧ w.restart &&& 0x01FFFFFFFFFFFFFC ≠ 0 then { w with pendingRestart := true } else w

/-- The bytes of warps and gangs that a context saves now, and of its registers, go to their places in its save area; what it has
saved before is not written again. `region` is a gang's region. -/
def State.writeSaved (s : State) (ck : Nat) (ws : SMap Warp) (gs : SMap Gang) (region : Nat × Gang → List Byte)
    (tables : SMap SchedTable) : State :=
  let c := s.ctx ck
  let s := match c.savedPa regsSaveKey 40 with
    | some pa => s.homeWrite (placed pa c.regBytes)
    | none => s
  let s := ws.foldl (fun s e => match c.savedPa e.1 e.2.recordBytes with
    | some pa => s.homeWrite (placed pa e.2.toRecord)
    | none => s) s
  gs.foldl (fun s e => match c.savedPa (gangSaveKey e.1) e.2.saveBytes with
    | some pa => s.homeWrite (e.2.saved pa (region e) ((tables.filter fun t => t.2.gang == e.1).map Prod.snd))
    | none => s) s

/-- SWITCH_SAVE: R253 stage 4, R250, R251. -/
def execSwitchSave (die asid : Nat) (s : State) : Host.Outcome State Fault Refusal :=
  let ck := ctxKey die asid
  let c := s.ctx ck
  if c.stage ≠ .writtenBack then .next s
  else
    let s := s.onWarps die asid c.leaving Warp.markRestart
    let ws : SMap Warp := s.warpsOn die asid c.leaving
    let gs := (s.gangsOf die asid).filter fun e => c.leaving.contains e.2.cluster
    let gone := gs.map Prod.fst
    let locals := s.lmem.filter fun e => gone.contains (e.1 / 2 ^ 24)
    let scheds := ((s.leavingNow die asid).flatMap fun cl => coresOfCluster die cl).filterMap fun k =>
      ((s.core k).sched.filter fun t => gone.contains t.gang).map fun t => (k, t)
    let c := ws.foldl (fun c e => c.allot e.1 e.2.recordBytes) c
    let c := gs.foldl (fun c e => c.allot (gangSaveKey e.1) e.2.saveBytes) (c.allot regsSaveKey 40)
    let region := fun (e : Nat × Gang) => s.localBytes e.1 0 e.2.localBytes
    let c := { c with savedWarps := mmerge c.savedWarps ws,
                      savedGangs := mmerge c.savedGangs gs,
                      savedLocal := mmerge c.savedLocal locals,
                      savedScheds := mmerge c.savedScheds scheds, stage := .saved }
    let s := { s with warps := s.warps.filter fun e => !mhas ws e.1, gangs := s.gangs.filter fun e => !gone.contains e.1,
                      lmem := s.lmem.filter fun e => !gone.contains (e.1 / 2 ^ 24) }
    .next ((s.setCtx ck c).writeSaved ck ws gs region scheds)

/-- SWITCH_CLEAR: R253 stage 5, 05 R124, 09 R206. -/
def execSwitchClear (die asid : Nat) (s : State) : Host.Outcome State Fault Refusal :=
  let ck := ctxKey die asid
  let c := s.ctx ck
  if c.stage ≠ .saved then .next s
  else
    let mine := c.leaving.filter fun cl => (s.cluster (clusterKey die cl)).asid == some asid
    let s := mine.foldl (fun s cl =>
      let s := (coresOfCluster die cl).foldl (fun s k => s.setCore k (s.core k).cleared) s
      s.setCluster (clusterKey die cl) { s.cluster (clusterKey die cl) with asid := none, idleSince := s.now }) s
    .next (s.setCtx ck { c with stage := .cleared,
                                outSince := if (s.clustersOf die asid).isEmpty then s.now else c.outSince })

/-! ### Admission of a saved context -/

/-- R208: a gang's barrier objects without a warp among the waiters. -/
def Gang.unwait (g : Gang) (slot : Nat) : Gang :=
  { g with bars := g.bars.map fun e =>
      (e.1, { e.2 with waiters := e.2.waiters &&& ~~~(BitVec.ofNat 256 (2 ^ slot)), order := e.2.order.filter fun x => x ≠ slot }) }

/-- A saved warp comes back: as its record holds it, stopped on nothing (R252), with the monitor that it has armed (11 R219); or
at its label (R208), where an access that F3 found no backing for is not made again. -/
def State.restoreWarp (s : State) (c : Ctx) (k : Nat) (w : Warp) : State :=
  let w := match c.savedPa k w.recordBytes with
    | some pa => w.fromRecord (s.bytes pa w.recordBytes)
    | none => w
  let w := if w.stop.code = 0 then w else w.wake
  if w.restart &&& 0x01FFFFFFFFFFFFFC ≠ 0 ∧ !w.priv then
    let s := s.dropMonitors w
    let s := match mfind s.gangs w.gang with
      | some g => s.setGang w.gang (g.unwait w.gangSlot)
      | none => s
    s.setWarp k { w.restartAt with async := w.async.filter fun a => a.cause ≠ 0x05 || a.ofEngine }
  else s.setWarp k w

/-- The regions of saved gangs, as the save area holds them; the bytes of one that is not saved anywhere in memory, as they were. -/
def State.savedRegions (s : State) (c : Ctx) : SMap Byte :=
  c.savedGangs.foldl (fun m e => match c.savedPa (gangSaveKey e.1) e.2.saveBytes with
    | some pa => (List.range e.2.localBytes).foldl (fun m o => mput m (localKey e.1 o) (s.byte (pa + o))) m
    | none => m) c.savedLocal

/-- R250: the registers that a context which holds no cluster has in its save area apply again. -/
def State.restoreRegs (s : State) (die asid : Nat) : State :=
  let c := s.ctx (ctxKey die asid)
  match c.savedPa regsSaveKey 40 with
  | some pa => if (s.clustersOf die asid).isEmpty then s.setCtx (ctxKey die asid) (c.fromRegs (s.bytes pa 40)) else s
  | none => s

/-- SWITCH_ADMIT: R253 stage 6. What a context has saved comes back to the clusters it left, where those are free. Admission
discards the words that its cores have fetched (03 R81). -/
def execSwitchAdmit (die asid : Nat) (s : State) : Host.Outcome State Fault Refusal :=
  let ck := ctxKey die asid
  let c := s.ctx ck
  let set := ordered (c.savedGangs.map fun e => e.2.cluster)
  if c.stage ≠ .cleared ∨ !(set.all fun cl => s.serves die cl asid) then .next s
  else
    let s := set.foldl (fun s cl => s.takeCluster die cl asid) (s.restoreRegs die asid)
    let s := { s with gangs := mmerge s.gangs c.savedGangs,
                      lmem := mmerge s.lmem (s.savedRegions c) }
    let s := c.savedScheds.foldl (fun s e => s.setCore e.1 { s.core e.1 with sched := some e.2 }) s
    let cores := distinct (c.savedWarps.map fun e => e.2.coreK)
    let s := cores.foldl (fun s ck => (s.setCore ck { s.core ck with icache := [] }).acquireCore ck) s
    let s := c.savedWarps.foldl (fun s e => s.restoreWarp c e.1 e.2) s
    .next (s.setCtx ck { s.ctx ck with savedWarps := [], savedGangs := [], savedLocal := [], savedScheds := [],
                                       savedAt := [], saveEnd := 0, leaving := [], stage := .running })

/-! ### Kills and errors (R254, R256) -/

/-- KILL: R254. -/
def execKill (die asid reason : Nat) (s : State) : Host.Outcome State Fault Refusal :=
  .next (s.kill die asid reason KillInfo.none)

/-- UNCORRECTABLE_ERROR: R256, R255. The contexts that are killed with reason 3: on the die those whose access found the error,
or whose line, entry or register holds it; and where eviction or scrubbing found it, every context that maps the frame. F3
retires the frame of a physical address. -/
def execUncorrectableError (die : Nat) (asids : List Nat) (place : ErrorPlace) (address : Nat) (s : State) :
    Host.Outcome State Fault Refusal :=
  let loc : Xword := BitVec.ofNat 64 (2 ^ 56 * place.kind + address % 2 ^ 52)
  let frame := address / 2 ^ 16
  let inFrame := decide (place.kind ≤ 3)
  let keys := asids.map (fun a => ctxKey die a) ++
    if place.scrubbed && inFrame then (mkeys s.ctxs).filter fun k => s.mapsFrame k frame else []
  let s := (distinct keys).foldl (fun s k =>
    if (s.ctx k).bound then
      s.kill (k / 2048) (k % 2048) 3 { first := 0, second := 0, warp := 0, pc := 0, info := 0, loc := loc }
    else s) s
  .next (if inFrame then { s with host := { s.host with retired := distinct (s.host.retired ++ [frame]) } } else s)

/-- SOFT_ERROR_CORRECTED: R256. -/
def execSoftErrorCorrected (die : Nat) (s : State) : Host.Outcome State Fault Refusal :=
  .next (s.setDie die { s.die die with softErrors := (s.die die).softErrors + 1 })

/-! ### Recorded misses (05 R134, R443) -/

/-- Whether an address lies in a 64 KiB page that is waited for. -/
def pausedOn (p : Option Nat) (page : Nat) : Bool := p.map faultPage == some page

/-- The commands of a die that wait for a page go on; a copy or collective may be changed. -/
def State.unpause (s : State) (die asid page : Nat) (f : CopyCmd → CopyCmd) : State :=
  s.onCommands die
    (fun c => if c.asid = asid ∧ pausedOn c.paused page then { f c with paused := none } else c)
    (fun c => if c.asid = asid ∧ pausedOn c.paused page then { c with paused := none } else c)

/-- The address at which a warp of a context waits for a page. -/
def Warp.waitsAt (w : Warp) (die asid page : Nat) : Option Nat :=
  if w.ofCtx die asid then
    match w.stop with
    | .fault va _ => if faultPage va = page then some va else none
    | .running | .monitor .. | .barrier _ | .waitn .. | .bucket _ | .scoreboard | .engine => none
  else none

/-- The pages that commands of a die wait for, with their contexts. -/
def State.pausedPages (s : State) (die : Nat) : List (Nat × Nat) :=
  let copies := ((s.clusters.filter fun e => e.1 / 4 == die).flatMap fun e => e.2.cq) ++ (s.die die).colls.map Prod.fst
  let ms := (s.cores.filter fun e => e.1 / 32 == die).flatMap fun e => e.2.mq
  copies.filterMap (fun c => c.paused.map fun va => (c.asid, faultPage va)) ++
    ms.filterMap fun c => c.paused.map fun va => (c.asid, faultPage va)

/-- Misses that found no free record are recorded once one is free (R134): those of warps first, by key, then those of engine
commands (log 67). -/
def State.recordWaiting (s : State) (die : Nat) : State :=
  let s := s.warps.foldl (fun s e => match e.2.stop with
    | .fault va false =>
      let r := s.recordFault e.2.die e.2.asid (faultPage va)
      if r.2 then r.1.setWarp e.1 { e.2 with stop := .fault va true } else r.1
    | .fault _ true | .running | .monitor .. | .barrier _ | .waitn .. | .bucket _ | .scoreboard | .engine => s) s
  (s.pausedPages die).foldl (fun s p => (s.recordFault die p.1 p.2).1) s

/-- The record of a page is freed, and misses that waited for a record take it. -/
def State.freeRecord (s : State) (die asid page : Nat) : State :=
  let d := s.die die
  (s.setDie die { d with faults := d.faults.filter fun f => f != (asid, page) }).recordWaiting die

/-- The front end's writes of a die that were held are made, as far as they can be, and a miss that had found no free record
takes one that is free now (14 R444). They go in order of queue number, in which launches that repeat become head (R241). -/
def State.retryWrites (s : State) (die : Nat) : State :=
  let l := (s.launches.filter fun e => e.2.die == die && !e.2.todo.isEmpty).map fun e => (e.2.queue, e.1)
  (pairsInOrder l).foldl (fun s e => match mfind s.launches e.2 with
    | some l => State.drainLaunch (l.todo.length + 1) s e.2
    | none => s) s

/-- The leaf that an import writes at the owner's page size: W = 1, as the model has it (log 52), X = 0, and the owner's format
and side area. -/
def importLeaf (r : Replica) : Nat × Nat :=
  (r.pa + 7, r.fmt + (if 3 ≤ r.fmt then 2 ^ 4 + r.side else 0))

/-- How many replicas an import of a window has at least (07 R166). -/
def leastReplicas (w : Window) : Nat := if w = .multicast then 2 else 1

/-- Whether F3 may map a page of a level at an address of a context, with a leaf's second word: memory of the die, or of H, or an
import, as it was exported (00 R2, 05 R118, 07 R165, R166). -/
def State.maps (s : State) (die asid va pa level w1 : Nat) : Bool :=
  match windowOf va with
  | .priv => ownerOf pa == die
  | .host => ownerOf pa == 8
  | .peer | .multicast =>
    let l := mget [] (s.ctx (ctxKey die asid)).imports va
    decide (leastReplicas (windowOf va) ≤ l.length) && l.head?.any fun r => r.pa == pa && r.level == level && (importLeaf r).2 == w1
  | .unused => false

/-- F3 sees to it that a valid leaf translates a page (05 R443): there may be one already, or it writes one. -/
def State.backPage (s : State) (die asid va level area w0 w1 : Nat) : Option State :=
  match s.walk die asid va with
  | .leaf _ => some s
  | .replay | .absent | .malformed | .hole _ =>
    if s.maps die asid (va / pageBytes level * pageBytes level) (w0 / 2 ^ 7 % 2 ^ 45 * 2 ^ 7) level w1 ∧ ownerOf area = die then
      s.mapLeaf die asid va level area w0 w1
    else none

/-- FAULT_RESOLVED: R443, R134. F3 writes a valid leaf of a level for the page, where there is none yet, and every warp and engine
that waits for it goes on. Tables that are missing above it stand in an area of the die's memory. -/
def execFaultResolved (die asid : Nat) (page : MissEntry) (w0 w1 : Xword) (s : State) : Host.Outcome State Fault Refusal :=
  let level := page.level
  let area := page.area
  let page := page.page
  let va := 2 ^ 16 * page
  match (if (s.die die).hasFault asid page then s.backPage die asid va level area w0.toNat w1.toNat else none) with
  | none => .next s
  | some s =>
    let wakeIt := fun (w : Warp) => if (w.waitsAt die asid page).isSome then w.wake else w
    let s := { s with warps := mmap wakeIt s.warps }
    let s := s.unpause die asid page id
    .next ((s.freeRecord die asid page).retryWrites die)

/-- R443, R133: a miss declared unresolvable is XLATE kind 0 for the instruction that met it. -/
def State.xlateAt (s : State) (k va : Nat) : State :=
  let s := s.onWarp k Warp.wake
  match (s.warp k).bind Warp.primary with
  | some (pc, lanes) => s.takeTrap k lanes pc 0x05 (faultInfo 0 va)
  | none => s

/-- The same for a warp that is switched out: it is owed the cause. -/
def Warp.oweXlate (w : Warp) (die asid page : Nat) : Warp :=
  match w.waitsAt die asid page with
  | some va => ({ w with async := w.async ++ [{ cause := 0x05, info := faultInfo 0 va }] } : Warp).wake
  | none => w

/-- What an event does, where it gives a next state. -/
def State.attempt (s : State) (f : State → Host.Outcome State Fault Refusal) : State :=
  match f s with
  | .next t => t
  | .fault _ | .refused _ => s

/-- Whether an address of a context lies in a page and misses there. -/
def State.missesIn (s : State) (die asid va page : Nat) : Bool := faultPage va == page && (s.translateDie die asid va).2 == .replay

/-- R443: the front end hears that a page has no backing: a slot that it waits for stops its queue (14 R230), a prologue or image
ends its launch (R235, R239), and a write is skipped (R444). -/
def State.frontUnbacked (s : State) (die asid page : Nat) : State :=
  let mine := (mkeys s.queues).filter fun k => k / 256 == die && (s.queue k).asid == asid
  let slot := fun (k : Nat) => let q := s.queue k; s.missesIn die asid (q.ringSlot q.head.toNat) page
  let moved := fun (k : Nat) => let q := s.queue k
    s.missesIn die asid (q.ovfSlot q.ovfhead.toNat) page || s.missesIn die asid (q.ringSlot q.tail.toNat) page
  let slots := mine.filter slot
  let moves := mine.filter moved
  let d := s.die die
  let s := s.setDie die { d with unbacked := [(asid, page)] }
  let s := slots.foldl (fun s k => s.attempt (execHeadLaunchTake die (k % 256))) s
  let s := moves.foldl (fun s k => s.attempt (execOverflowMove die (k % 256))) s
  let s := mine.foldl (fun s k =>
    let s := s.attempt (execPrologueRun die (k % 256))
    match (s.queue k).headLaunch with
    | some lid => s.checkLaunch lid
    | none => s) s
  let s := s.retryWrites die
  s.setDie die { s.die die with unbacked := [] }

/-- FAULT_UNRESOLVABLE: R443, 09 R197, R207. -/
def execFaultUnresolvable (die asid page : Nat) (s : State) : Host.Outcome State Fault Refusal :=
  if (s.die die).hasFault asid page then
    let ck := ctxKey die asid
    let waiting := s.warps.filterMap fun e => (e.2.waitsAt die asid page).map fun va => (e.1, va)
    let mx := (s.cores.filter fun e => e.1 / 32 == die).flatMap fun e =>
      e.2.mq.filter fun c => c.asid == asid && pausedOn c.paused page
    let s := s.unpause die asid page fun c => { c with fault := some (0x05, c.paused.getD 0) }
    let s := mx.foldl (fun s c => s.matrixDiscard c (MBlock.of c.block) 0x05 (faultInfo 0 (c.paused.getD 0))) s
    let s := waiting.foldl (fun s e => s.xlateAt e.1 e.2) s
    let c := s.ctx ck
    let s := s.setCtx ck { c with savedWarps := mmap (fun w => w.oweXlate die asid page) c.savedWarps }
    .next ((s.freeRecord die asid page).frontUnbacked die asid page)
  else .next s

end Sys2Proof.Machine
end

