-- ==== Sys2Proof/Machine/HostLink.lean ====
section
/-!
DEFINITION. The host's side of the machine (19): the control aperture (R293), the mailbox and its commands (R295, R296),
boot and measurements (R298), attestation (R299) and resets (R300).
-/

namespace Sys2Proof.Machine

/-! ### Records of the firmware (R295, R296; log 42) -/

/-- A command that F1 takes: none before boot has ended (R298). CHEAD advances past it; a reserved bit is answered with status 2. -/
def State.takeCommand (s : State) (rec : List Xword) (f : State → State) : Host.Outcome State Fault Refusal :=
  if s.host.accepting = false then .next s
  else
    let s := { s with host := { s.host with chead := s.host.chead + 1 } }
    .next (if fld (recWord rec 0) 27 5 ≠ 0 then s.answer rec 2 [] else f s)

/-- A command that is answered at once, with a status and data. -/
def State.command (s : State) (rec : List Xword) (f : State → State × Nat × List Xword) :
    Host.Outcome State Fault Refusal :=
  s.takeCommand rec fun s => let r := f s; r.1.answer rec r.2.1 r.2.2

/-- A command that is answered at once with a status, or later. -/
def State.commandLater (s : State) (rec : List Xword) (f : State → State × Option Nat) : Host.Outcome State Fault Refusal :=
  s.takeCommand rec fun s =>
    let r := f s
    match r.2 with
    | some status => r.1.answer rec status []
    | none => r.1

/-- A command with a status and no data. -/
def State.commandDone (s : State) (rec : List Xword) (f : State → State × Nat) : Host.Outcome State Fault Refusal :=
  s.command rec fun s => let r := f s; (r.1, r.2, [])

def recDie (rec : List Xword) : Nat := fld (recWord rec 0) 8 8
def recAsid (rec : List Xword) : Nat := fld (recWord rec 0) 16 11
/-- What a command binds or does, in its first operand. -/
def recWhat (rec : List Xword) : Nat := fld (recWord rec 1) 0 8

/-! ### Binding (F2) -/

/-- A queue descriptor from the words of a command (14 R229). -/
def recQueue (rec : List Xword) : Queue :=
  { Queue.unused with
    qbase := fld (recWord rec 2) 0 57, qsize := fld (recWord rec 2) 57 4, enable := fld (recWord rec 2) 61 1 == 1,
    ovfbase := fld (recWord rec 3) 0 57, ovfsize := fld (recWord rec 3) 57 4, maxprio := fld (recWord rec 3) 61 3,
    asid := recAsid rec, devq := fld (recWord rec 4) 11 1 == 1 }

/-- Whether a descriptor keeps the limits of R229. -/
def Queue.sound (q : Queue) : Bool :=
  q.qbase % 128 == 0 && q.ovfbase % 128 == 0 && decide (q.qsize ≤ 12) && decide (q.ovfsize ≤ 12)

/-- A context is bound to a region, or a bound one given another. One that takes new page tables has no event ring until F2 maps
one there (R297). -/
def Ctx.bind (c : Ctx) (rec : List Xword) : Ctx :=
  let region := (List.range 4).filter fun k => (recWord rec 2).testBit k
  if c.bound ∧ !c.killed then { c with region := region }
  else { Ctx.unbound with bound := true, region := region, ptbase := rec.getD 3 0, trapvec := rec.getD 4 0,
                          tokenRing := fld (recWord rec 5) 0 57, floor := c.floor, maxcls := c.maxcls,
                          savebase := c.savebase, hintdrop := c.hintdrop }

/-- 14 R242: a reservation ends where its context's region loses the cluster, or the context is bound anew. -/
def State.endReservations (s : State) (die asid : Nat) : State :=
  let drop := fun (l : Launch) =>
    if l.die = die ∧ l.asid = asid ∧ !(l.window.all fun w => (s.regionOf l).contains w.1) then { l with window := none } else l
  { s with launches := mmap drop s.launches }

/-- The frames of a context's event ring: its header and 4,096 records (R297). -/
def ringFrames (ring : Nat) : List Nat := (List.range ((ring % 2 ^ 16 + 131136 + 65535) / 65536)).map fun k => ring / 2 ^ 16 + k

/-- R297: F2 maps the frames of an event ring in the private window, one after another from an address, each with an area for the
tables that are missing above it. -/
def State.mapRing (s : State) (die asid ring va area : Nat) : Option State :=
  if va % 2 ^ 16 ≠ 0 ∨ ownerOf ring ≠ die ∨ ownerOf area ≠ die then none
  else
    (ringFrames ring).zipIdx.foldl (fun o e => o.bind fun s =>
      let at_ := va + 2 ^ 16 * e.2
      if windowOf at_ = .priv then s.mapLeaf die asid at_ 4 (area + 0x20000 * e.2) (2 ^ 16 * e.1 + 7) 0 else none) (some s)

/-- R229, R230: F2 clears OVERRUN and RFAULT of a queue, and sets or clears its ENABLE; HEAD, TAIL, OVFHEAD and OVFTAIL stay. -/
def Queue.renewed (q : Queue) (bits : Nat) : Queue :=
  { q with overrun := q.overrun && !bits.testBit 0, rfault := q.rfault && !bits.testBit 1,
           enable := (q.enable || bits.testBit 2) && !bits.testBit 3 }

/-- OP 1: a queue, region, floor policy or save area is bound, a token bucket set (07 R175), or a bound queue's bits written
(log 42). -/
def State.bindCommand (s : State) (rec : List Xword) : State × Nat :=
  let die := recDie rec
  let ck := ctxKey die (recAsid rec)
  let c := s.ctx ck
  let qk := queueKey die (fld (recWord rec 1) 8 8)
  if 8 ≤ die ∨ s.gone die then (s, 1)
  else match recWhat rec with
    | 0 =>
      let q := recQueue rec
      if c.bound = false ∨ c.killed ∨ q.sound = false ∨ (s.queue qk).enable ∨ (s.queue qk).headLaunch.isSome then (s, 1)
      else (s.setQueue qk q, 0)
    | 1 =>
      if (rec.getD 3 0) &&& 0xFFF000000001FFFF ≠ 0 then (s, 1)
      else
        let s := if c.bound ∧ !c.killed then s else s.endSharing ck
        ((s.setCtx ck ((s.ctx ck).bind rec)).endReservations die (recAsid rec), 0)
    | 2 => (s.writePfloor die (recAsid rec) (rec.getD 2 0), 0)
    | 3 =>
      let ring := fld (recWord rec 3) 0 52
      let t := s.setCtx ck { c with savebase := fld (recWord rec 2) 0 52, evring := ring }
      if c.bound = false ∨ c.killed then (s, 1)
      else if ring = 0 then (t, 0)
      else match t.mapRing die (recAsid rec) ring (recWord rec 4) (recWord rec 5) with
        | some t => (t, 0)
        | none => (s, 1)
    | 4 =>
      let cls := fld (recWord rec 1) 8 8
      let b : Bucket := { rate := recWord rec 2, depth := recWord rec 3, fill := min (c.bucket cls).fill (recWord rec 3) }
      if 2 < cls then (s, 1) else (s.setCtx ck (c.setBucket cls b), 0)
    | 5 =>
      let q := s.queue qk
      if q.asid ≠ recAsid rec ∨ c.bound = false ∨ c.killed then (s, 1) else (s.setQueue qk (q.renewed (recWord rec 2)), 0)
    | _ => (s, 2)

/-- CMD_BIND: R295. -/
def execCmdBind (rec : List Xword) (s : State) : Host.Outcome State Fault Refusal :=
  s.commandDone rec fun s => s.bindCommand rec

/-- A context leaves its region: nothing of it is resident. -/
def State.unbindRegion (s : State) (die asid : Nat) : State × Nat :=
  let ck := ctxKey die asid
  let c := s.ctx ck
  if c.bound = false ∨ !(s.gangsOf die asid).isEmpty ∨ !c.savedGangs.isEmpty then (s, 1)
  else
    let s := (s.clustersOf die asid).foldl (fun s cl =>
      s.setCluster (clusterKey die cl) { s.cluster (clusterKey die cl) with asid := none, idleSince := s.now }) s
    let drop := fun (l : Launch) => if l.die = die ∧ l.asid = asid then { l with window := none } else l
    let s := ({ s with launches := mmap drop s.launches } : State).endSharing ck
    (s.setCtx ck { Ctx.unbound with floor := c.floor, maxcls := c.maxcls, savebase := c.savebase, hintdrop := c.hintdrop }, 0)

/-- OP 2: the same are unbound. -/
def State.unbindCommand (s : State) (rec : List Xword) : State × Nat :=
  let die := recDie rec
  let ck := ctxKey die (recAsid rec)
  let c := s.ctx ck
  if 8 ≤ die then (s, 1)
  else match recWhat rec with
    | 0 =>
      let qk := queueKey die (fld (recWord rec 1) 8 8)
      if (s.queue qk).headLaunch.isSome ∨ (s.queue qk).asid ≠ recAsid rec then (s, 1) else (s.setQueue qk Queue.unused, 0)
    | 1 => s.unbindRegion die (recAsid rec)
    | 2 => (s.setCtx ck { c with floor := 0, maxcls := 7 }, 0)
    | 3 => (s.setCtx ck { c with savebase := 0, evring := 0 }, 0)
    | _ => (s, 2)

/-- CMD_UNBIND: R295. -/
def execCmdUnbind (rec : List Xword) (s : State) : Host.Outcome State Fault Refusal :=
  s.commandDone rec fun s => s.unbindCommand rec

/-! ### F4 -/

/-- CMD_KILL_CONTEXT: R295, 15 R254. -/
def execCmdKillContext (rec : List Xword) (s : State) : Host.Outcome State Fault Refusal :=
  s.commandDone rec fun s =>
    let c := s.ctx (ctxKey (recDie rec) (recAsid rec))
    if c.bound ∧ !c.killed then (s.kill (recDie rec) (recAsid rec) 5 KillInfo.none, 0) else (s, 1)

/-- CMD_RESEAL: R295, 07 R180. F4 starts the reseal, and the command is answered at its end. -/
def execCmdReseal (rec : List Xword) (s : State) : Host.Outcome State Fault Refusal :=
  s.commandLater rec fun s => match s.cway.reseal with
    | .normal => ({ s with cway := { s.cway with reseal := .stopped none }, host := { s.host with resealFor := some rec } }, none)
    | .stopped _ | .zeroed _ => (s, some 1)

/-! ### F0: measurements, boot, attestation (R298, R299) -/

/-- MEAS n. -/
def HostIf.measure (h : HostIf) (n : Nat) : List Byte := mget (List.replicate 32 0) h.meas n

/-- R298: MEAS n := SHA-256(MEAS n ‖ d). -/
def HostIf.extend (h : HostIf) (n : Nat) (d : List Byte) : HostIf :=
  { h with meas := mset (List.replicate 32 0) h.meas n (sha256 (h.measure n ++ d)) }

/-- BOOT_STAGE: R298. F0 measures a stage (its digests extend the register of its number, log 45) and verifies it: boot goes
on, ends with commands accepted, or stops. After boot, stage 6 is a firmware update: what is applied is measured. -/
def execBootStage (stage : Nat) (digests : List (List Byte)) (good : Bool) (s : State) : Host.Outcome State Fault Refusal :=
  let h := s.host
  if stage = 6 ∧ h.accepting then
    .next (if good then { s with host := digests.foldl (fun h d => h.extend 6 d) h } else s)
  else if h.bootStopped ∨ h.accepting ∨ stage ≠ h.bootStage ∨ 5 < stage then .next s
  else
    let h := digests.foldl (fun h d => h.extend stage d) h
    let record := fun (status : Nat) => [(0x30 : Xword), BitVec.ofNat 64 (stage + 2 ^ 32 * status)]
    if good = false then .next (({ s with host := { h with bootStopped := true } } : State).hostEvent (record 1))
    else if stage < 5 then .next { s with host := { h with bootStage := stage + 1 } }
    else .next (({ s with host := { h with bootStage := 6, accepting := true } } : State).hostEvent (record 0))

/-- The operand words of a command as bytes. -/
def recBytes (rec : List Xword) (first n : Nat) : List Byte := words8 ((List.range n).map fun k => rec.getD (first + k) 0)

/-- CMD_EXTEND_MEAS7: R298. The digest stands in W1 to W4. -/
def execCmdExtendMeas7 (rec : List Xword) (s : State) : Host.Outcome State Fault Refusal :=
  s.commandDone rec fun s => ({ s with host := s.host.extend 7 (recBytes rec 1 4) }, 0)

/-- R299: the bytes of a report that its signature covers. -/
def HostIf.reportBody (h : HostIf) (nonce : List Byte) : List Byte :=
  leBytes 8 1 ++ leBytes 8 h.serial ++ nonce ++ ((List.range 8).flatMap fun n => h.measure n) ++ leBytes 8 h.resets ++
    leBytes 8 0

/-- R299: a report of 704 bytes. -/
def HostIf.report (h : HostIf) (nonce : List Byte) : List Byte :=
  let body := h.reportBody nonce
  body ++ padded 384 ((Config.signature body).take 384)

/-- CMD_ATTESTATION_REPORT: R299. -/
def execCmdAttestationReport (rec : List Xword) (s : State) : Host.Outcome State Fault Refusal :=
  s.commandDone rec fun s =>
    let pa := hostPa (recWord rec 5)
    if memoryExists pa 704 then (s.fwWrite (placed pa (s.host.report (recBytes rec 1 4))), 0) else (s, 1)

/-! ### F3: exports and imports (07 R165, R166) -/

/-- Whether a range of a die's memory is exported, by any of its contexts. -/
def State.isExported (s : State) (die : Nat) (range : Nat × Nat) : Bool :=
  s.ctxs.any fun e => e.1 / 2048 == die && e.2.handles.any fun h => h.2.any fun p => meets p range

/-- R165 step 1: a page of the die's own memory (00 R2) is marked EXP and registered under a handle. One that is exported already,
or whose withdrawal is not complete, is not: it has to be withdrawn first (R165 steps 3 and 4). -/
def State.exportPage (s : State) (die asid handle va : Nat) : State × Nat :=
  let ck := ctxKey die asid
  match s.leafAddrFrom va 5 0 (s.ctx ck).ptbase.toNat, s.walk die asid va with
  | some a, .leaf l =>
    let page := (l.pa, pageBytes l.level)
    if windowOf va ≠ .priv ∨ ownerOf l.pa ≠ die ∨ s.isExported die page ∨ s.leavesExport page then (s, 1)
    else
      let w0 := s.num a 8
      let s := s.writeLeaf die asid va a (if fld w0 5 1 = 1 then w0 else w0 + 2 ^ 5) (s.num (a + 8) 8) page
      let c := s.ctx ck
      (s.setCtx ck { c with handles := mput c.handles handle (mget [] c.handles handle ++ [page]) }, 0)
  | _, _ => (s, 1)

/-- R165 step 2, R166: an exported page is mapped at an address of the importer's peer window; or becomes a replica of one of its
multicast window, whose leaf, naming the first replica, is written with the second. Replicas stand on two to eight dies, one on
each, and have one size and format. -/
def State.importPage (s : State) (die asid handle owner oasid ova va area : Nat) : State × Nat :=
  let ck := ctxKey die asid
  let c := s.ctx ck
  match s.walk owner oasid ova with
  | .leaf l =>
    let r : Replica := { pa := l.pa, side := l.side, level := l.level, fmt := l.fmt }
    let before := mget [] c.imports va
    let multi := windowOf va == .multicast
    let fits := before.all fun x => ownerOf x.pa != owner && x.level == r.level && x.fmt == r.fmt
    if l.exported = false ∨ !(mget [] (s.ctx (ctxKey owner oasid)).handles handle).contains (l.pa, pageBytes l.level) ∨ s.gone owner ∨
        va % pageBytes l.level ≠ 0 ∨ (windowOf va ≠ .peer ∧ !multi) ∨ !fits ∨ 8 ≤ before.length ∨
        (!multi ∧ !before.isEmpty) ∨ ownerOf area ≠ die then (s, 1)
    else
      let t := s.setCtx ck { c with imports := mput c.imports va (before ++ [r]), importHandles := mput c.importHandles va handle }
      let w := importLeaf (before.headD r)
      if before.length + 1 = leastReplicas (windowOf va) then
        match t.mapLeaf die asid va l.level area w.1 w.2 with
        | some t => (t, 0)
        | none => (s, 1)
      else (t, 0)
  | _ => (s, 1)

/-- OP 7: W1 says 0 export, 1 import, 2 withdraw; W2 the handle; W3 the page; for an import W4 names the owner's die and ASID, W5
the address in the importer, and W6 an area for tables that are missing (log 42). A withdrawal is answered once it is done (R165
step 4). -/
def State.pagesCommand (s : State) (rec : List Xword) : State × Option Nat :=
  let die := recDie rec
  let handle := recWord rec 2
  if 8 ≤ die ∨ (s.ctx (ctxKey die (recAsid rec))).bound = false then (s, some 1)
  else match recWhat rec with
    | 0 => let r := s.exportPage die (recAsid rec) handle (recWord rec 3); (r.1, some r.2)
    | 1 =>
      let r := s.importPage die (recAsid rec) handle (fld (recWord rec 4) 0 4) (fld (recWord rec 4) 16 11) (recWord rec 3)
        (recWord rec 5) (recWord rec 6)
      (r.1, some r.2)
    | 2 => ((s.withdraw (ctxKey die (recAsid rec)) handle false (some rec)).withdrawDone, none)
    | _ => (s, some 2)

/-- CMD_EXPORT_IMPORT_WITHDRAW: R295, 07 R165. -/
def execCmdExportImportWithdraw (rec : List Xword) (s : State) : Host.Outcome State Fault Refusal :=
  s.commandLater rec fun s => s.pagesCommand rec

/-! ### F6 and F7 -/

/-- OP 8: W1 says 0 join, 1 leave; W2 the effective time; W3 a member through which the die joins (log 42). -/
def State.chainCommand (s : State) (rec : List Xword) : State × Nat :=
  let die := recDie rec
  let t := recWord rec 2
  let inChain := s.knows die (memberId die)
  if 8 ≤ die then (s, 1)
  else match recWhat rec with
    | 0 => (match (if inChain then none else s.joinChain die (fld (recWord rec 3) 0 32) t) with
      | some s => (s, 0)
      | none => (s, 1))
    | 1 => if inChain ∧ s.timeOf die + 50000 ≤ t then (s.leaveChain die t, 0) else (s, 1)
    | _ => (s, 2)

/-- CMD_CHAIN_JOIN_LEAVE: R295, 18 R288. -/
def execCmdChainJoinLeave (rec : List Xword) (s : State) : Host.Outcome State Fault Refusal :=
  s.commandDone rec fun s => s.chainCommand rec

/-- The words of telemetry that W1 selects (log 46): 0 the counts of a die (15 R256, 18 R286, R287, 07 R174); 1 the leakages of a
cluster, two to a word (16 R261); 2 the skew bias of a context (R274). -/
def State.telemetry (s : State) (rec : List Xword) : Nat × List Xword :=
  let die := recDie rec
  let d := s.die die
  let nats := fun (l : List Nat) => l.map fun x => (BitVec.ofNat 64 x : Xword)
  if 8 ≤ die then (1, [])
  else match recWhat rec with
    | 0 => (0, nats [d.softErrors, d.lateEntries, d.badMessages, d.badPackets])
    | 1 =>
      let key := clusterKey die (fld (recWord rec 1) 8 8 % clusterCount die)
      (0, nats ((List.range 4).map fun k =>
        Config.leakage key (2 * k) % 2 ^ 32 + 2 ^ 32 * (Config.leakage key (2 * k + 1) % 2 ^ 32)))
    | 2 => (0, nats [(s.ctx (ctxKey die (recAsid rec))).bias])
    | _ => (2, [])

/-- CMD_READ_TELEMETRY: R295. -/
def execCmdReadTelemetry (rec : List Xword) (s : State) : Host.Outcome State Fault Refusal :=
  s.command rec fun s => (s, s.telemetry rec)

/-- MAILBOX_RESERVED_OP: R295. -/
def execMailboxReservedOp (rec : List Xword) (s : State) : Host.Outcome State Fault Refusal :=
  s.command rec fun s => (s, 2, [])

/-- The step of a command by its OP. -/
def commandInstr (rec : List Xword) : Instr :=
  match fld (recWord rec 0) 0 8 with
  | 1 => .cmdBind rec
  | 2 => .cmdUnbind rec
  | 3 => .cmdKillContext rec
  | 4 => .cmdReseal rec
  | 5 => .cmdAttestationReport rec
  | 6 => .cmdExtendMeas7 rec
  | 7 => .cmdExportImportWithdraw rec
  | 8 => .cmdChainJoinLeave rec
  | 9 => .cmdReadTelemetry rec
  | _ => .mailboxReservedOp rec

/-- R295: the command that F1 takes next from the command ring, and the state in which it has read it; the read travels as a
request and a reply on the channels between F1 and H (07 R167; log 60). -/
def State.nextCommand (s : State) : Option (State × Instr) :=
  let h := s.host
  if h.accepting && h.chead != h.ctail then
    let at_ := hostPa (h.cbase + 64 * (h.chead.toNat % 2 ^ h.csize))
    (s.readAtOnce 9 8 0 at_ 64 false).map fun t => (t, commandInstr (wordsOf (t.bytes at_ 64)))
  else none

/-! ### Resets (R300) -/

/-- R300: every register at its reset value, boot to run again. H's memory is H's; what a free value has been applied to
stays used (log 43). -/
def State.resetPackage (s : State) : State :=
  { State.reset with
    mem := s.mem.filter fun e => ownerOf e.1 = 8, agenda := s.agenda, tick := s.tick, nextId := s.nextId,
    host := { HostIf.atReset with resets := s.host.resets + 1, serial := s.host.serial, replies := s.host.replies } }

/-- PACKAGE_RESET: R300. -/
def execPackageReset (s : State) : Host.Outcome State Fault Refusal := .next s.resetPackage

/-- HBM_STACK_INIT_DONE: 18 R291. The stacks initialise in order. -/
def execHbmStackInitDone (s : State) : Host.Outcome State Fault Refusal :=
  .next { s with host := { s.host with hbmStacks := min 12 (s.host.hbmStacks + 1) } }

/-- A write to RSTCTL: R300. -/
def State.writeRstctl (perform : State → Packet → State) (s : State) (v : Xword) : State :=
  if v.getLsbD 63 then s.resetPackage
  else ((List.range 8).filter fun d => v.getLsbD d).foldl (State.resetDie perform) s

/-! ### The control aperture (R293) -/

/-- A write to HINTDROP: of 0, it clears. -/
def State.clearHints (s : State) (die asid : Nat) : State :=
  s.setCtx (ctxKey die asid) { s.ctx (ctxKey die asid) with hintdrop := 0 }

/-- A write of 0 to ELOST (R295). -/
def State.clearLost (s : State) : State := { s with host := { s.host with elost := 0 } }

/-- A whole write to the block of a die. -/
def State.writeDieBlock (s : State) (die o : Nat) (v : Xword) : State :=
  if o < 0x100000 then
    if o % 0x1000 = 0 then
      s.setQueue (queueKey die (o / 0x1000)) ((s.queue (queueKey die (o / 0x1000))).doorbell (v.setWidth 32))
    else s
  else if o = 0x100100 then s.writeClkdie die v
  else if o < 0x100000 + 0x10 * clusterCount die then
    if o % 0x10 = 0 then s.writeClkreq die ((o - 0x100000) / 0x10) v else s
  else if 0x110000 ≤ o ∧ o < 0x114000 then (if v = 0 then s.clearHints die ((o - 0x110000) / 8) else s)
  else if 0x120000 ≤ o ∧ o < 0x124000 then s.writePfloor die ((o - 0x120000) / 8) v
  else s

/-- A whole write to the package block. -/
def State.writePackageBlock (perform : State → Packet → State) (s : State) (o : Nat) (v : Xword) : State :=
  let h := s.host
  match o with
  | 0x0 => s.writePcap v
  | 0x8 => s.writePrate v
  | 0x10 => s.writePstat v
  | 0x18 => s.writeRstctl perform v
  | 0x1000 => { s with host := { h with cbase := 2 ^ 12 * fld v.toNat 12 40, csize := fld v.toNat 52 4 } }
  | 0x1008 => { s with host := { h with ebase := 2 ^ 12 * fld v.toNat 12 40, esize := fld v.toNat 52 4 } }
  | 0x1010 => { s with host := { h with ctail := v.setWidth 32 } }
  | 0x1020 => { s with host := { h with ehead := v.setWidth 32 } }
  | 0x1030 => if v = 0 then s.clearLost else s
  | _ => s

/-- A write to the control aperture: R293. A narrower or misaligned access and a reserved offset are ignored. -/
def State.writeAperture (perform : State → Packet → State) (s : State) (offset size : Nat) (v : Xword) : State :=
  if size ≠ 8 ∨ offset % 8 ≠ 0 then s
  else if offset < 0x8000000 then s.writeDieBlock (offset / 0x1000000) (offset % 0x1000000) v
  else s.writePackageBlock perform (offset - 0x8000000) v

/-- CLKSTAT of a cluster (18 R283). -/
def Cluster.clkstat (c : Cluster) : Nat := c.point + (if c.pinned then 2 ^ 3 else 0) + 2 ^ 4 * c.clkResult

/-- PSTAT (16 R271). -/
def Power.pstat (p : Power) : Nat :=
  (if p.caprej then 1 else 0) + (if p.raterej then 2 else 0) + (if p.scaled then 4 else 0) + 2 ^ 16 * p.pmeas +
    2 ^ 32 * p.shownRate.toNat

/-- A whole read of the block of a die. -/
def State.readDieBlock (s : State) (die o : Nat) : Nat :=
  let ctx := fun (base : Nat) => s.ctx (ctxKey die ((o - base) / 8))
  if o < 0x100000 then
    if o % 0x1000 = 0 then
      let q := s.queue (queueKey die (o / 0x1000))
      q.head.toNat + 2 ^ 32 * q.tail.toNat
    else 0
  else if o = 0x100100 then (s.die die).dceil + (if (s.die die).rej then 2 ^ 12 else 0)
  else if o < 0x100000 + 0x10 * clusterCount die then
    if o % 0x10 = 8 then (s.cluster (clusterKey die ((o - 0x100000) / 0x10))).clkstat else 0
  else if 0x110000 ≤ o ∧ o < 0x114000 then (ctx 0x110000).hintdrop.toNat
  else if 0x120000 ≤ o ∧ o < 0x124000 then
    let c := ctx 0x120000
    c.floor + 2 ^ 13 * c.maxcls + 2 ^ 32 * c.efloor
  else if 0x130000 ≤ o ∧ o < 0x134000 then (ctx 0x130000).savebase
  else if 0x140000 ≤ o ∧ o < 0x144000 then (ctx 0x140000).evring
  else 0

/-- A whole read of the package block. -/
def State.readPackageBlock (s : State) (o : Nat) : Nat :=
  let h := s.host
  let p := s.power
  match o with
  | 0x0 => p.cap
  | 0x8 => p.rmin.toNat + 2 ^ 32 * p.rmax.toNat
  | 0x10 => p.pstat
  | 0x1000 => h.cbase + 2 ^ 52 * h.csize
  | 0x1008 => h.ebase + 2 ^ 52 * h.esize
  | 0x1010 => h.ctail.toNat
  | 0x1018 => h.chead.toNat
  | 0x1020 => h.ehead.toNat
  | 0x1028 => h.etail.toNat
  | 0x1030 => h.elost.toNat
  | _ =>
    if 0x2000 ≤ o ∧ o < 0x2100 then leNat (((h.measure ((o - 0x2000) / 32)).drop (o % 32)).take 8) else 0

/-- A read of the control aperture: R293. -/
def State.readAperture (s : State) (offset size : Nat) : Nat :=
  if size ≠ 8 ∨ offset % 8 ≠ 0 then 0
  else if offset < 0x8000000 then s.readDieBlock (offset / 0x1000000) (offset % 0x1000000)
  else s.readPackageBlock (offset - 0x8000000)

/-! ### Accesses of the host (R292, R294) -/

/-- A packet performed at its destination (07 R171). A register's value goes back as a packet of the same type, to H. A write
that resets a die delivers what the departure releases (07 R178), other such writes among it: `fuel` bounds how many stand one in
another, at most one for each die. -/
def State.performWith (fuel : Nat) (s : State) (p : Packet) : State :=
  match p.body with
  | .register offset size v req =>
    if p.dst = 8 then s.prefetchReply 8 req (leBytes 8 (v.getD 0).toNat)
    else match v with
      | none => s.send (mkPacket p.dst p.src p.cls p.asid
          (.register offset size (some (BitVec.ofNat 64 (s.readAperture offset size))) req) p.warp p.op)
      | some v => match fuel with
        | 0 => s
        | fuel + 1 => s.writeAperture (State.performWith fuel) offset size v
  | _ => s.perform p

/-- A packet performed at its destination, whatever it asks for. -/
def State.performAll (s : State) (p : Packet) : State := s.performWith 10 p

/-- PACKET_DELIVER: R171, R174. -/
def execPacketDeliver (src dst : Nat) (s : State) : Host.Outcome State Fault Refusal :=
  .next (s.deliverBy State.performAll src dst)

/-- DEPARTURE: R178, R179, R184. The event is written in the same step (log 65). -/
def execDeparture (die : Nat) (s : State) : Host.Outcome State Fault Refusal := .next (s.depart State.performAll die 7)

/-- DIE_RESET: R300. -/
def execDieReset (die : Nat) (s : State) : Host.Outcome State Fault Refusal :=
  .next (if die < 8 then s.resetDie State.performAll die else s)

/-- RESEAL_REENABLE: R180 step 4. A die reset that was held for the reseal follows (19 R300). -/
def execResealReenable (s : State) : Host.Outcome State Fault Refusal :=
  match s.cway.reseal with
  | .zeroed r =>
    let s := s.reenable r
    .next (match s.cway.resetsHeld with
      | [] => s
      | d :: rest => ({ s with cway := { s.cway with resetsHeld := rest } } : State).resetDie State.performAll d)
  | .normal | .stopped _ => .next s

/-- The agent of an offset of the aperture: a die, or the package. -/
def apertureAgent (offset : Nat) : Nat := if offset < 0x8000000 then offset / 0x1000000 else 9

/-- R292: an access of H to the aperture is a system-class packet, which is delivered in the same step where nothing stands before
it on its channel; a read's reply goes to H the same way. -/
def State.hostAccess (s : State) (offset size : Nat) (v : Option Xword) : State :=
  let a := apertureAgent offset
  let r := s.fresh
  let p := mkPacket 8 a 3 0 (.register offset size v r.1) none none
  match r.2.atOnce State.performAll p with
  | none => r.2.send p
  | some t => if v.isNone && s.cway.clear a 8 then (t.drainChannel State.performAll a 8).getD t else t

/-- A whole write of H to a register, where there is one. -/
def State.hostWrite (s : State) (here : Bool) (offset : Nat) (v : Xword) : Host.Outcome State Fault Refusal :=
  .next (if here then s.hostAccess offset 8 (some v) else s)

/-- REGISTER_WRITE: R292, R293. A write, or a read where no value is given. -/
def execRegisterWrite (offset size : Nat) (v : Option Xword) (s : State) : Host.Outcome State Fault Refusal :=
  .next (if offset < 0x10000000 then s.hostAccess offset size v else s)

/-- DOORBELL_WRITE: R229, R293. -/
def execDoorbellWrite (die q : Nat) (v : BitVec 32) (s : State) : Host.Outcome State Fault Refusal :=
  s.hostWrite (decide (die < 8) && decide (q < 256)) (0x1000000 * die + 0x1000 * q) (v.setWidth 64)

/-- HINTDROP_CLEAR: R293. -/
def execHintdropClear (die asid : Nat) (s : State) : Host.Outcome State Fault Refusal :=
  s.hostWrite (decide (die < 8) && decide (asid < 2048)) (0x1000000 * die + 0x110000 + 8 * asid) 0

/-- PFLOOR_WRITE: R271, R273. EFLOOR follows at the integrator's next step. -/
def execPfloorWrite (die asid : Nat) (v : Xword) (s : State) : Host.Outcome State Fault Refusal :=
  s.hostWrite (decide (die < 8) && decide (asid < 2048)) (0x1000000 * die + 0x120000 + 8 * asid) v

/-- CLKDIE_WRITE: R283. -/
def execClkdieWrite (die : Nat) (v : Xword) (s : State) : Host.Outcome State Fault Refusal :=
  s.hostWrite (decide (die < 8)) (0x1000000 * die + 0x100100) v

/-- A write to CLKREQ of a cluster. -/
def State.clkreq (s : State) (die cluster : Nat) (v : Xword) : Host.Outcome State Fault Refusal :=
  s.hostWrite (decide (die < 8) && decide (cluster < clusterCount die)) (0x1000000 * die + 0x100000 + 0x10 * cluster) v

/-- CLKREQ_RELEASE: R283, MODE 0. -/
def execClkreqRelease (die cluster : Nat) (v : Xword) (s : State) : Host.Outcome State Fault Refusal := s.clkreq die cluster v
/-- CLKREQ_PIN_DELTA: R283, MODE 1. -/
def execClkreqPinDelta (die cluster : Nat) (v : Xword) (s : State) : Host.Outcome State Fault Refusal := s.clkreq die cluster v
/-- CLKREQ_PIN_POINT: R283, MODE 2. -/
def execClkreqPinPoint (die cluster : Nat) (v : Xword) (s : State) : Host.Outcome State Fault Refusal := s.clkreq die cluster v
/-- CLKREQ_RESERVED_MODE: R283, MODE 3 or reserved bits. -/
def execClkreqReservedMode (die cluster : Nat) (v : Xword) (s : State) : Host.Outcome State Fault Refusal := s.clkreq die cluster v

/-- PCAP_WRITE: R272, R271. -/
def execPcapWrite (v : Xword) (s : State) : Host.Outcome State Fault Refusal := s.hostWrite true 0x8000000 v
/-- PRATE_WRITE: R272, R271. -/
def execPrateWrite (v : Xword) (s : State) : Host.Outcome State Fault Refusal := s.hostWrite true 0x8000008 v
/-- PSTAT_WRITE: R271. -/
def execPstatWrite (v : Xword) (s : State) : Host.Outcome State Fault Refusal := s.hostWrite true 0x8000010 v
/-- ELOST_CLEAR: R295. -/
def execElostClear (s : State) : Host.Outcome State Fault Refusal := s.hostWrite true 0x8001030 0

end Sys2Proof.Machine
end

