-- ==== Sys2Proof/Machine/Predicates.lean ====
section
/-!
DEFINITION. The predicate instructions, major 0x19 (23 R403 to R405), and `elect` (22 R343).
-/

namespace Sys2Proof.Machine

/-- The operation of a `plog` member, bit by bit. -/
def plogBits (op : PlogOp) (a b : LaneSet) : LaneSet :=
  match op with
  | .and => a &&& b
  | .or => a ||| b
  | .xor => a ^^^ b
  | .andn => a &&& ~~~b

/-- PLOG: R404. -/
def execPlog (op : PlogOp) (d a b : PReg) (s : State) : Host.Outcome State Fault Refusal :=
  s.run (uses []) fun c w => .done (s.setWarp c.warp (w.setP d c.lanes (plogBits op (w.p a) (w.p b))))

/-- PMOV_P_FROM_S: R405. -/
def execPmovPFromS (d : PReg) (a : SReg) (s : State) : Host.Outcome State Fault Refusal :=
  s.run (uses []) fun c w => .done (s.setWarp c.warp (w.setP d c.lanes (w.s a)))

/-- PMOV_S_FROM_P: R405. -/
def execPmovSFromP (d : SReg) (a : PReg) (s : State) : Host.Outcome State Fault Refusal :=
  s.run (uses []) fun c w => .done (s.setWarp c.warp (w.setS d (w.p a)))

/-- PCNT: R403. -/
def execPcnt (d : SReg) (a : PReg) (s : State) : Host.Outcome State Fault Refusal :=
  s.run (uses []) fun c w => .done (s.setWarp c.warp (w.setS d (BitVec.ofNat 64 (laneCount (w.p a &&& c.lanes)))))

/-- ELECT: R343. -/
def execElect (p : PReg) (s : State) : Host.Outcome State Fault Refusal :=
  s.run (userOnly []) fun c w => .done (s.setWarp c.warp
    (w.setP p c.lanes (match firstLane c.lanes with
      | some i => laneBit i
      | none => 0)))

end Sys2Proof.Machine
end

