-- ==== Sys2Proof/Machine/VectorInt.lean ====
section
/-!
DEFINITION. The vector-integer instructions: majors 0x08, 0x09, 0x0A and 0x0B (03 R63; 21 R305, R330; 24 R417).
-/

namespace Sys2Proof.Machine

/-- ADD: R307. -/
def execAdd (d a : VReg) (b : VOp) (s : State) : Host.Outcome State Fault Refusal :=
  s.vecBin d a b (fun a b => a + b)

/-- SUB: R428. -/
def execSub (d a : VReg) (b : VOp) (s : State) : Host.Outcome State Fault Refusal :=
  s.vecBin d a b (fun a b => a - b)

/-- MUL: R394. -/
def execMul (d a : VReg) (b : VOp) (s : State) : Host.Outcome State Fault Refusal :=
  s.vecBin d a b (fun a b => a * b)

/-- MULHI_I: R395. -/
def execMulhiI (d a : VReg) (b : VOp) (s : State) : Host.Outcome State Fault Refusal :=
  s.vecBin d a b mulhiSigned

/-- MULHI_N: R395. -/
def execMulhiN (d a : VReg) (b : VOp) (s : State) : Host.Outcome State Fault Refusal :=
  s.vecBin d a b mulhiUnsigned

/-- MAD: R383. -/
def execMad (d a : VReg) (b : VOp) (s : State) : Host.Outcome State Fault Refusal :=
  s.vec ([d.toNat, a.toNat] ++ vopNames b) d fun w i => madd (w.v d.toNat i) (w.v a.toNat i) (w.vop i b)

/-- MIN_I: R388. -/
def execMinI (d a : VReg) (b : VOp) (s : State) : Host.Outcome State Fault Refusal :=
  s.vecBin d a b minSigned

/-- MIN_N: R388. -/
def execMinN (d a : VReg) (b : VOp) (s : State) : Host.Outcome State Fault Refusal :=
  s.vecBin d a b minUnsigned

/-- MAX_I: R385. -/
def execMaxI (d a : VReg) (b : VOp) (s : State) : Host.Outcome State Fault Refusal :=
  s.vecBin d a b maxSigned

/-- MAX_N: R385. -/
def execMaxN (d a : VReg) (b : VOp) (s : State) : Host.Outcome State Fault Refusal :=
  s.vecBin d a b maxUnsigned

/-- AND: R308. -/
def execAnd (d a : VReg) (b : VOp) (s : State) : Host.Outcome State Fault Refusal :=
  s.vecBin d a b (fun a b => a &&& b)

/-- OR: R399. -/
def execOr (d a : VReg) (b : VOp) (s : State) : Host.Outcome State Fault Refusal :=
  s.vecBin d a b (fun a b => a ||| b)

/-- XOR: R441. -/
def execXor (d a : VReg) (b : VOp) (s : State) : Host.Outcome State Fault Refusal :=
  s.vecBin d a b (fun a b => a ^^^ b)

/-- SHL: R420. -/
def execShl (d a : VReg) (b : VOp) (s : State) : Host.Outcome State Fault Refusal :=
  s.vecBin d a b shiftLeft

/-- SHR: R421. -/
def execShr (d a : VReg) (b : VOp) (s : State) : Host.Outcome State Fault Refusal :=
  s.vecBin d a b shiftRight

/-- SRA: R424. -/
def execSra (d a : VReg) (b : VOp) (s : State) : Host.Outcome State Fault Refusal :=
  s.vecBin d a b shiftArith

/-- ANDN: R309. -/
def execAndn (d a : VReg) (b : VOp) (s : State) : Host.Outcome State Fault Refusal :=
  s.vecBin d a b andNot

/-- ROL: R415. -/
def execRol (d a : VReg) (b : VOp) (s : State) : Host.Outcome State Fault Refusal :=
  s.vecBin d a b rotate

/-- ABSD_I: R306. -/
def execAbsdI (d a : VReg) (b : VOp) (s : State) : Host.Outcome State Fault Refusal :=
  s.vecBin d a b distSigned

/-- ABSD_N: R306. -/
def execAbsdN (d a : VReg) (b : VOp) (s : State) : Host.Outcome State Fault Refusal :=
  s.vecBin d a b distUnsigned

/-- CLZ: R329. -/
def execClz (d a : VReg) (s : State) : Host.Outcome State Fault Refusal :=
  s.vecUn d a leadingZeros

/-- POPC: R406. -/
def execPopc (d a : VReg) (s : State) : Host.Outcome State Fault Refusal :=
  s.vecUn d a bitCount

/-- BREV: R320. -/
def execBrev (d a : VReg) (s : State) : Host.Outcome State Fault Refusal :=
  s.vecUn d a bitReverse

/-- BFX_I: R318. -/
def execBfxI (d a : VReg) (b : VOp) (s : State) : Host.Outcome State Fault Refusal :=
  s.vecBin d a b fieldSigned

/-- BFX_N: R318. -/
def execBfxN (d a : VReg) (b : VOp) (s : State) : Host.Outcome State Fault Refusal :=
  s.vecBin d a b fieldUnsigned

/-- BFI: R317. -/
def execBfi (d a : VReg) (b : VOp) (s : State) : Host.Outcome State Fault Refusal :=
  s.vec ([d.toNat, a.toNat] ++ vopNames b) d fun w i => fieldInsert (w.v d.toNat i) (w.v a.toNat i) (w.vop i b)

/-- DIV_I: R342. -/
def execDivI (d a : VReg) (b : VOp) (s : State) : Host.Outcome State Fault Refusal :=
  s.vecBin d a b divSigned

/-- DIV_N: R342. -/
def execDivN (d a : VReg) (b : VOp) (s : State) : Host.Outcome State Fault Refusal :=
  s.vecBin d a b divUnsigned

/-- REM_I: R412. -/
def execRemI (d a : VReg) (b : VOp) (s : State) : Host.Outcome State Fault Refusal :=
  s.vecBin d a b remSigned

/-- REM_N: R412. -/
def execRemN (d a : VReg) (b : VOp) (s : State) : Host.Outcome State Fault Refusal :=
  s.vecBin d a b remUnsigned

/-- MOV: R392. -/
def execMov (d : VReg) (b : VOp) (s : State) : Host.Outcome State Fault Refusal :=
  s.vec (d.toNat :: vopNames b) d fun w i => w.vop i b

/-- CMP: R330. -/
def execCmp (c : CmpCond) (p : PReg) (a : VReg) (b : VOp) (s : State) : Host.Outcome State Fault Refusal :=
  s.predMap (uses (a.toNat :: vopNames b)) p fun w i => cmpHolds c (w.v a.toNat i) (w.vop i b)

/-- SEL: R417. -/
def execSel (p : PReg) (inv : Bool) (d a : VReg) (b : VOp) (s : State) : Host.Outcome State Fault Refusal :=
  s.vec ([d.toNat, a.toNat] ++ vopNames b) d fun w i =>
    if (w.p p).getLsbD i != inv then w.v a.toNat i else w.vop i b

end Sys2Proof.Machine
end

