-- ==== Sys2Proof/Machine/Dispatch.lean ====
section
/-!
DEFINITION. The meaning of every instruction and event of the opcode table, one arm each.
-/

namespace Sys2Proof.Machine

def exec (i : Instr) (s : State) : Host.Outcome State Fault Refusal :=
  match i with
  | .add d a b => Sys2Proof.Machine.execAdd d a b s
  | .addS d a b => Sys2Proof.Machine.execAddS d a b s
  | .sub d a b => Sys2Proof.Machine.execSub d a b s
  | .subS d a b => Sys2Proof.Machine.execSubS d a b s
  | .mul d a b => Sys2Proof.Machine.execMul d a b s
  | .mulS d a b => Sys2Proof.Machine.execMulS d a b s
  | .mulhiI d a b => Sys2Proof.Machine.execMulhiI d a b s
  | .mulhiIS d a b => Sys2Proof.Machine.execMulhiIS d a b s
  | .mulhiN d a b => Sys2Proof.Machine.execMulhiN d a b s
  | .mulhiNS d a b => Sys2Proof.Machine.execMulhiNS d a b s
  | .mad d a b => Sys2Proof.Machine.execMad d a b s
  | .madS d a b => Sys2Proof.Machine.execMadS d a b s
  | .minI d a b => Sys2Proof.Machine.execMinI d a b s
  | .minIS d a b => Sys2Proof.Machine.execMinIS d a b s
  | .minN d a b => Sys2Proof.Machine.execMinN d a b s
  | .minNS d a b => Sys2Proof.Machine.execMinNS d a b s
  | .maxI d a b => Sys2Proof.Machine.execMaxI d a b s
  | .maxIS d a b => Sys2Proof.Machine.execMaxIS d a b s
  | .maxN d a b => Sys2Proof.Machine.execMaxN d a b s
  | .maxNS d a b => Sys2Proof.Machine.execMaxNS d a b s
  | .and d a b => Sys2Proof.Machine.execAnd d a b s
  | .andS d a b => Sys2Proof.Machine.execAndS d a b s
  | .or d a b => Sys2Proof.Machine.execOr d a b s
  | .orS d a b => Sys2Proof.Machine.execOrS d a b s
  | .xor d a b => Sys2Proof.Machine.execXor d a b s
  | .xorS d a b => Sys2Proof.Machine.execXorS d a b s
  | .shl d a b => Sys2Proof.Machine.execShl d a b s
  | .shlS d a b => Sys2Proof.Machine.execShlS d a b s
  | .shr d a b => Sys2Proof.Machine.execShr d a b s
  | .shrS d a b => Sys2Proof.Machine.execShrS d a b s
  | .sra d a b => Sys2Proof.Machine.execSra d a b s
  | .sraS d a b => Sys2Proof.Machine.execSraS d a b s
  | .andn d a b => Sys2Proof.Machine.execAndn d a b s
  | .andnS d a b => Sys2Proof.Machine.execAndnS d a b s
  | .rol d a b => Sys2Proof.Machine.execRol d a b s
  | .rolS d a b => Sys2Proof.Machine.execRolS d a b s
  | .absdI d a b => Sys2Proof.Machine.execAbsdI d a b s
  | .absdIS d a b => Sys2Proof.Machine.execAbsdIS d a b s
  | .absdN d a b => Sys2Proof.Machine.execAbsdN d a b s
  | .absdNS d a b => Sys2Proof.Machine.execAbsdNS d a b s
  | .clz d a => Sys2Proof.Machine.execClz d a s
  | .clzS d a => Sys2Proof.Machine.execClzS d a s
  | .popc d a => Sys2Proof.Machine.execPopc d a s
  | .popcS d a => Sys2Proof.Machine.execPopcS d a s
  | .brev d a => Sys2Proof.Machine.execBrev d a s
  | .brevS d a => Sys2Proof.Machine.execBrevS d a s
  | .bfxI d a b => Sys2Proof.Machine.execBfxI d a b s
  | .bfxIS d a b => Sys2Proof.Machine.execBfxIS d a b s
  | .bfxN d a b => Sys2Proof.Machine.execBfxN d a b s
  | .bfxNS d a b => Sys2Proof.Machine.execBfxNS d a b s
  | .bfi d a b => Sys2Proof.Machine.execBfi d a b s
  | .bfiS d a b => Sys2Proof.Machine.execBfiS d a b s
  | .divI d a b => Sys2Proof.Machine.execDivI d a b s
  | .divIS d a b => Sys2Proof.Machine.execDivIS d a b s
  | .divN d a b => Sys2Proof.Machine.execDivN d a b s
  | .divNS d a b => Sys2Proof.Machine.execDivNS d a b s
  | .remI d a b => Sys2Proof.Machine.execRemI d a b s
  | .remIS d a b => Sys2Proof.Machine.execRemIS d a b s
  | .remN d a b => Sys2Proof.Machine.execRemN d a b s
  | .remNS d a b => Sys2Proof.Machine.execRemNS d a b s
  | .mov d b => Sys2Proof.Machine.execMov d b s
  | .movS d b => Sys2Proof.Machine.execMovS d b s
  | .cmp c p a b => Sys2Proof.Machine.execCmp c p a b s
  | .cmpS c d a b => Sys2Proof.Machine.execCmpS c d a b s
  | .sel p inv d a b => Sys2Proof.Machine.execSel p inv d a b s
  | .fadd d a b => Sys2Proof.Machine.execFadd d a b s
  | .faddF16x2 d a b => Sys2Proof.Machine.execFaddF16x2 d a b s
  | .faddBf16x2 d a b => Sys2Proof.Machine.execFaddBf16x2 d a b s
  | .fsub d a b => Sys2Proof.Machine.execFsub d a b s
  | .fsubF16x2 d a b => Sys2Proof.Machine.execFsubF16x2 d a b s
  | .fsubBf16x2 d a b => Sys2Proof.Machine.execFsubBf16x2 d a b s
  | .fmul d a b => Sys2Proof.Machine.execFmul d a b s
  | .fmulF16x2 d a b => Sys2Proof.Machine.execFmulF16x2 d a b s
  | .fmulBf16x2 d a b => Sys2Proof.Machine.execFmulBf16x2 d a b s
  | .fma d a b => Sys2Proof.Machine.execFma d a b s
  | .fmaF16x2 d a b => Sys2Proof.Machine.execFmaF16x2 d a b s
  | .fmaBf16x2 d a b => Sys2Proof.Machine.execFmaBf16x2 d a b s
  | .fmin d a b => Sys2Proof.Machine.execFmin d a b s
  | .fminF16x2 d a b => Sys2Proof.Machine.execFminF16x2 d a b s
  | .fminBf16x2 d a b => Sys2Proof.Machine.execFminBf16x2 d a b s
  | .fmax d a b => Sys2Proof.Machine.execFmax d a b s
  | .fmaxF16x2 d a b => Sys2Proof.Machine.execFmaxF16x2 d a b s
  | .fmaxBf16x2 d a b => Sys2Proof.Machine.execFmaxBf16x2 d a b s
  | .fabs d a => Sys2Proof.Machine.execFabs d a s
  | .fabsF16x2 d a => Sys2Proof.Machine.execFabsF16x2 d a s
  | .fabsBf16x2 d a => Sys2Proof.Machine.execFabsBf16x2 d a s
  | .fneg d a => Sys2Proof.Machine.execFneg d a s
  | .fnegF16x2 d a => Sys2Proof.Machine.execFnegF16x2 d a s
  | .fnegBf16x2 d a => Sys2Proof.Machine.execFnegBf16x2 d a s
  | .frnd dir d a => Sys2Proof.Machine.execFrnd dir d a s
  | .frndF16x2 dir d a => Sys2Proof.Machine.execFrndF16x2 dir d a s
  | .frndBf16x2 dir d a => Sys2Proof.Machine.execFrndBf16x2 dir d a s
  | .fdot2F16 d a b => Sys2Proof.Machine.execFdot2F16 d a b s
  | .fdot2Bf16 d a b => Sys2Proof.Machine.execFdot2Bf16 d a b s
  | .fcmp c p a b => Sys2Proof.Machine.execFcmp c p a b s
  | .frcp d a => Sys2Proof.Machine.execFrcp d a s
  | .frsq d a => Sys2Proof.Machine.execFrsq d a s
  | .fsqrt d a => Sys2Proof.Machine.execFsqrt d a s
  | .fexp2 d a => Sys2Proof.Machine.execFexp2 d a s
  | .flog2 d a => Sys2Proof.Machine.execFlog2 d a s
  | .fsin d a => Sys2Proof.Machine.execFsin d a s
  | .fcos d a => Sys2Proof.Machine.execFcos d a s
  | .ftanh d a => Sys2Proof.Machine.execFtanh d a s
  | .cvt dst src d a => Sys2Proof.Machine.execCvt dst src d a s
  | .pack dst src d a => Sys2Proof.Machine.execPack dst src d a s
  | .unpack dst src d a => Sys2Proof.Machine.execUnpack dst src d a s
  | .shfl d a b => Sys2Proof.Machine.execShfl d a b s
  | .bcast d a lane => Sys2Proof.Machine.execBcast d a lane s
  | .slup d a k => Sys2Proof.Machine.execSlup d a k s
  | .sldn d a k => Sys2Proof.Machine.execSldn d a k s
  | .compress d a p => Sys2Proof.Machine.execCompress d a p s
  | .expand d a p => Sys2Proof.Machine.execExpand d a p s
  | .scanAddI32 d a => Sys2Proof.Machine.execScanAddI32 d a s
  | .scanAddF32 d a => Sys2Proof.Machine.execScanAddF32 d a s
  | .scanMaxI32 d a => Sys2Proof.Machine.execScanMaxI32 d a s
  | .scanMinI32 d a => Sys2Proof.Machine.execScanMinI32 d a s
  | .reduceAddI32 d a => Sys2Proof.Machine.execReduceAddI32 d a s
  | .reduceAddF32 d a => Sys2Proof.Machine.execReduceAddF32 d a s
  | .reduceMinI32 d a => Sys2Proof.Machine.execReduceMinI32 d a s
  | .reduceMaxI32 d a => Sys2Proof.Machine.execReduceMaxI32 d a s
  | .reduceMinF32 d a => Sys2Proof.Machine.execReduceMinF32 d a s
  | .reduceMaxF32 d a => Sys2Proof.Machine.execReduceMaxF32 d a s
  | .matchRank d a => Sys2Proof.Machine.execMatchRank d a s
  | .matchCnt d a => Sys2Proof.Machine.execMatchCnt d a s
  | .matchLead p a => Sys2Proof.Machine.execMatchLead p a s
  | .voteAny d a => Sys2Proof.Machine.execVoteAny d a s
  | .voteAll d a => Sys2Proof.Machine.execVoteAll d a s
  | .voteBallot d a => Sys2Proof.Machine.execVoteBallot d a s
  | .plog op d a b => Sys2Proof.Machine.execPlog op d a b s
  | .pmovPFromS d a => Sys2Proof.Machine.execPmovPFromS d a s
  | .pmovSFromP d a => Sys2Proof.Machine.execPmovSFromP d a s
  | .pcnt d a => Sys2Proof.Machine.execPcnt d a s
  | .ld t d a b ext => Sys2Proof.Machine.execLd t d a b ext s
  | .st t d a b ext => Sys2Proof.Machine.execSt t d a b ext s
  | .atom op d a b ext => Sys2Proof.Machine.execAtom op d a b ext s
  | .red op d a b ext => Sys2Proof.Machine.execRed op d a b ext s
  | .cas wide d a b ext => Sys2Proof.Machine.execCas wide d a b ext s
  | .pref a b ext => Sys2Proof.Machine.execPref a b ext s
  | .keep a b ext => Sys2Proof.Machine.execKeep a b ext s
  | .cinv a b ext => Sys2Proof.Machine.execCinv a b ext s
  | .cwb a b ext => Sys2Proof.Machine.execCwb a b ext s
  | .fence k mask sc => Sys2Proof.Machine.execFence k mask sc s
  | .barinit o d a => Sys2Proof.Machine.execBarinit o d a s
  | .arrive d o => Sys2Proof.Machine.execArrive d o s
  | .bwait d o a => Sys2Proof.Machine.execBwait d o a s
  | .bsync d o => Sys2Proof.Machine.execBsync d o s
  | .bdrop o => Sys2Proof.Machine.execBdrop o s
  | .waitc c wide d a b => Sys2Proof.Machine.execWaitc c wide d a b s
  | .waitn ld st cp mx => Sys2Proof.Machine.execWaitn ld st cp mx s
  | .cpy d a => Sys2Proof.Machine.execCpy d a s
  | .cpyt d a toGlobal => Sys2Proof.Machine.execCpyt d a toGlobal s
  | .cpym d a => Sys2Proof.Machine.execCpym d a s
  | .cpyx d a b => Sys2Proof.Machine.execCpyx d a b s
  | .coll d a b => Sys2Proof.Machine.execColl d a b s
  | .mma a => Sys2Proof.Machine.execMma a s
  | .mrst a => Sys2Proof.Machine.execMrst a s
  | .mzero a => Sys2Proof.Machine.execMzero a s
  | .mload a => Sys2Proof.Machine.execMload a s
  | .mdrain a => Sys2Proof.Machine.execMdrain a s
  | .hist a clear t => Sys2Proof.Machine.execHist a clear t s
  | .quote d a lanes => Sys2Proof.Machine.execQuote d a lanes s
  | .launch d a b => Sys2Proof.Machine.execLaunch d a b s
  | .trigger => Sys2Proof.Machine.execTrigger s
  | .next d p => Sys2Proof.Machine.execNext d p s
  | .rep n sd sa sb => Sys2Proof.Machine.execRep n sd sa sb s
  | .nop => Sys2Proof.Machine.execNop s
  | .exit => Sys2Proof.Machine.execExit s
  | .yield => Sys2Proof.Machine.execYield s
  | .brk code => Sys2Proof.Machine.execBrk code s
  | .trap code => Sys2Proof.Machine.execTrap code s
  | .ret a => Sys2Proof.Machine.execRet a s
  | .eret => Sys2Proof.Machine.execEret s
  | .sysc code => Sys2Proof.Machine.execSysc code s
  | .elect p => Sys2Proof.Machine.execElect p s
  | .wbase imm => Sys2Proof.Machine.execWbase imm s
  | .lexit => Sys2Proof.Machine.execLexit s
  | .strike j => Sys2Proof.Machine.execStrike j s
  | .park j => Sys2Proof.Machine.execPark j s
  | .tlbi a all => Sys2Proof.Machine.execTlbi a all s
  | .getsr d n => Sys2Proof.Machine.execGetsr d n s
  | .setsr n a => Sys2Proof.Machine.execSetsr n a s
  | .bra off => Sys2Proof.Machine.execBra off s
  | .brs c a off => Sys2Proof.Machine.execBrs c a off s
  | .brp p inv off => Sys2Proof.Machine.execBrp p inv off s
  | .call off => Sys2Proof.Machine.execCall off s
  | .jmp d a => Sys2Proof.Machine.execJmp d a s
  | .enrol j off => Sys2Proof.Machine.execEnrol j off s
  | .loop count off => Sys2Proof.Machine.execLoop count off s
  | .asyncTrapEntry w => Sys2Proof.Machine.execAsyncTrapEntry w s
  | .loadReturn w op => Sys2Proof.Machine.execLoadReturn w op s
  | .storePerformed w op => Sys2Proof.Machine.execStorePerformed w op s
  | .cacheWalkDone die => Sys2Proof.Machine.execCacheWalkDone die s
  | .waitcPoll w => Sys2Proof.Machine.execWaitcPoll w s
  | .packetArrive src dst outside => Sys2Proof.Machine.execPacketArrive src dst outside s
  | .packetDeliver src dst => Sys2Proof.Machine.execPacketDeliver src dst s
  | .floorBeatSend src dst => Sys2Proof.Machine.execFloorBeatSend src dst s
  | .floorBeatReceive src dst => Sys2Proof.Machine.execFloorBeatReceive src dst s
  | .tokenBucketReady w => Sys2Proof.Machine.execTokenBucketReady w s
  | .resealZero => Sys2Proof.Machine.execResealZero s
  | .resealReenable => Sys2Proof.Machine.execResealReenable s
  | .linkWidthChangeDone die => Sys2Proof.Machine.execLinkWidthChangeDone die s
  | .copySlice die cluster => Sys2Proof.Machine.execCopySlice die cluster s
  | .copyComplete die cluster id => Sys2Proof.Machine.execCopyComplete die cluster id s
  | .collectiveComplete die id others early => Sys2Proof.Machine.execCollectiveComplete die id others early s
  | .matrixCommandComplete die core => Sys2Proof.Machine.execMatrixCommandComplete die core s
  | .engineWake die number isCopy => Sys2Proof.Machine.execEngineWake die number isCopy s
  | .headLaunchTake die q => Sys2Proof.Machine.execHeadLaunchTake die q s
  | .prologueRun die q => Sys2Proof.Machine.execPrologueRun die q s
  | .waitsigSatisfied die q => Sys2Proof.Machine.execWaitsigSatisfied die q s
  | .placerPass die => Sys2Proof.Machine.execPlacerPass die s
  | .headGangAgeTimeout die q => Sys2Proof.Machine.execHeadGangAgeTimeout die q s
  | .overflowMove die q => Sys2Proof.Machine.execOverflowMove die q s
  | .gangRetire g => Sys2Proof.Machine.execGangRetire g s
  | .switchDrain die asid => Sys2Proof.Machine.execSwitchDrain die asid s
  | .switchWriteBack die asid => Sys2Proof.Machine.execSwitchWriteBack die asid s
  | .switchSave die asid => Sys2Proof.Machine.execSwitchSave die asid s
  | .switchClear die asid => Sys2Proof.Machine.execSwitchClear die asid s
  | .switchAdmit die asid => Sys2Proof.Machine.execSwitchAdmit die asid s
  | .voltageStep die cluster => Sys2Proof.Machine.execVoltageStep die cluster s
  | .voltageReached die cluster => Sys2Proof.Machine.execVoltageReached die cluster s
  | .ceilingEffective die => Sys2Proof.Machine.execCeilingEffective die s
  | .cmdBind rec => Sys2Proof.Machine.execCmdBind rec s
  | .cmdUnbind rec => Sys2Proof.Machine.execCmdUnbind rec s
  | .cmdKillContext rec => Sys2Proof.Machine.execCmdKillContext rec s
  | .cmdReseal rec => Sys2Proof.Machine.execCmdReseal rec s
  | .cmdAttestationReport rec => Sys2Proof.Machine.execCmdAttestationReport rec s
  | .cmdExtendMeas7 rec => Sys2Proof.Machine.execCmdExtendMeas7 rec s
  | .cmdExportImportWithdraw rec => Sys2Proof.Machine.execCmdExportImportWithdraw rec s
  | .cmdChainJoinLeave rec => Sys2Proof.Machine.execCmdChainJoinLeave rec s
  | .cmdReadTelemetry rec => Sys2Proof.Machine.execCmdReadTelemetry rec s
  | .reservedEncoding => Sys2Proof.Machine.execReservedEncoding s
  | .literalWordAtInstructionStart => Sys2Proof.Machine.execLiteralWordAtInstructionStart s
  | .instructionFetchFault => Sys2Proof.Machine.execInstructionFetchFault s
  | .membershipChangeEffective die => Sys2Proof.Machine.execMembershipChangeEffective die s
  | .mailboxReservedOp rec => Sys2Proof.Machine.execMailboxReservedOp rec s
  | .faultResolved die asid page w0 w1 => Sys2Proof.Machine.execFaultResolved die asid page w0 w1 s
  | .faultUnresolvable die asid page => Sys2Proof.Machine.execFaultUnresolvable die asid page s
  | .departure die => Sys2Proof.Machine.execDeparture die s
  | .resealStop rejoin => Sys2Proof.Machine.execResealStop rejoin s
  | .causewayWidthChooser die packets traffic => Sys2Proof.Machine.execCausewayWidthChooser die packets traffic s
  | .collectiveAbandon die id => Sys2Proof.Machine.execCollectiveAbandon die id s
  | .doorbellWrite die q v => Sys2Proof.Machine.execDoorbellWrite die q v s
  | .switchStop die asid clusters => Sys2Proof.Machine.execSwitchStop die asid clusters s
  | .kill die asid reason => Sys2Proof.Machine.execKill die asid reason s
  | .uncorrectableError die asids place address => Sys2Proof.Machine.execUncorrectableError die asids place address s
  | .rateBroadcast => Sys2Proof.Machine.execRateBroadcast s
  | .rateIntegratorStep p1 other dies => Sys2Proof.Machine.execRateIntegratorStep p1 other dies s
  | .limiterSample die power => Sys2Proof.Machine.execLimiterSample die power s
  | .emergencyStep die => Sys2Proof.Machine.execEmergencyStep die s
  | .stallSampleEnd die cluster occupied stalled energy => Sys2Proof.Machine.execStallSampleEnd die cluster occupied stalled energy s
  | .prefetchDepthChooser die core stalls bytes => Sys2Proof.Machine.execPrefetchDepthChooser die core stalls bytes s
  | .skewBiasDecay => Sys2Proof.Machine.execSkewBiasDecay s
  | .clusterWake die cluster => Sys2Proof.Machine.execClusterWake die cluster s
  | .clusterGate die cluster => Sys2Proof.Machine.execClusterGate die cluster s
  | .ceilingRepublish die => Sys2Proof.Machine.execCeilingRepublish die s
  | .chainCeilingMessage die w0 w1 w2 w3 => Sys2Proof.Machine.execChainCeilingMessage die w0 w1 w2 w3 s
  | .chainJoin die w0 w1 w2 w3 => Sys2Proof.Machine.execChainJoin die w0 w1 w2 w3 s
  | .chainSnapshot die w0 w1 w2 w3 => Sys2Proof.Machine.execChainSnapshot die w0 w1 w2 w3 s
  | .chainLeave die w0 w1 w2 w3 => Sys2Proof.Machine.execChainLeave die w0 w1 w2 w3 s
  | .chainRemove die w0 w1 w2 w3 => Sys2Proof.Machine.execChainRemove die w0 w1 w2 w3 s
  | .chainSilenceTimeout die member => Sys2Proof.Machine.execChainSilenceTimeout die member s
  | .pcapWrite v => Sys2Proof.Machine.execPcapWrite v s
  | .prateWrite v => Sys2Proof.Machine.execPrateWrite v s
  | .pstatWrite v => Sys2Proof.Machine.execPstatWrite v s
  | .pfloorWrite die asid v => Sys2Proof.Machine.execPfloorWrite die asid v s
  | .clkreqRelease die cluster v => Sys2Proof.Machine.execClkreqRelease die cluster v s
  | .clkreqPinDelta die cluster v => Sys2Proof.Machine.execClkreqPinDelta die cluster v s
  | .clkreqPinPoint die cluster v => Sys2Proof.Machine.execClkreqPinPoint die cluster v s
  | .clkdieWrite die v => Sys2Proof.Machine.execClkdieWrite die v s
  | .hintdropClear die asid => Sys2Proof.Machine.execHintdropClear die asid s
  | .elostClear => Sys2Proof.Machine.execElostClear s
  | .dieReset die => Sys2Proof.Machine.execDieReset die s
  | .packageReset => Sys2Proof.Machine.execPackageReset s
  | .bootStage stage digests good => Sys2Proof.Machine.execBootStage stage digests good s
  | .registerWrite offset size v => Sys2Proof.Machine.execRegisterWrite offset size v s
  | .thermalLimitChange die mhz => Sys2Proof.Machine.execThermalLimitChange die mhz s
  | .softErrorCorrected die => Sys2Proof.Machine.execSoftErrorCorrected die s
  | .hbmStackInitDone => Sys2Proof.Machine.execHbmStackInitDone s
  | .clkreqReservedMode die cluster v => Sys2Proof.Machine.execClkreqReservedMode die cluster v s

end Sys2Proof.Machine
end

