-- ==== Sys2Proof/Machine/Issue.lean ====
section
/-!
DEFINITION. How a warp issues (01 R14 to R19): the fetched instruction of its primary group, alone or as the first half of a
pair (R15, R16), and the repeats of a rep sequence (R29 to R31).
-/

namespace Sys2Proof.Machine

/-- An instruction executed in the frame that its issue fixes. -/
def State.runIn (s : State) (c : Cur) (i : Instr) : Host.Outcome State Fault Refusal := exec i { s with cur := some c }

/-- The frame of an issue: a group at a PC among the candidates, and the bytes of its instruction. -/
def Warp.frame (w : Warp) (k : Nat) (pc : Xword) (lanes cands : LaneSet) (size : Nat) : Cur :=
  { warp := k, lanes := lanes, cands := cands, pc := pc, trapPc := pc, nextPc := pc + BitVec.ofNat 64 size,
    priv := w.priv, inRep := false }

/-- R29, R31: the `rep` word at `pc` in progress: its checks, then repeat DONE of its target. -/
def State.issueRepeat (s : State) (k : Nat) (w : Warp) (pc : Xword) (lanes cands : LaneSet) (n : BitVec 6)
    (sd sa sb : BitVec 2) : Host.Outcome State Fault Refusal :=
  let s := s.onWarp k fun w => { w with rep := { w.rep with cnt := n.toNat } }
  let c : Cur := { w.frame k (pc + 4) lanes cands 4 with trapPc := pc, inRep := true }
  if n.toNat < w.rep.done then .next (s.complete c false)
  else
    let f := s.fetchInstr w.coreK w.asid (pc + 4).toNat
    match repCheck f.2 n.toNat sd sa sb with
    | some (cause, info, target) => State.settle (w.frame k pc lanes cands 4) (f.1.repTrap cause info target)
    | none => f.1.runIn c (repInstr f.2 w.rep.done sd sa sb)

/-- A group of warp k issues. In user mode a sequence in progress goes on at its `rep` word only (R31). -/
def State.issueGroup (s : State) (k : Nat) (w : Warp) (pc : Xword) (lanes cands : LaneSet) :
    Host.Outcome State Fault Refusal :=
  let f := s.fetchInstr w.coreK w.asid pc.toNat
  if w.rep.busy && !w.priv then
    match f.2.instr with
    | .rep n sd sa sb => f.1.issueRepeat k w pc lanes cands n sd sa sb
    | .instructionFetchFault => f.1.runIn (w.frame k pc lanes cands 4) .instructionFetchFault
    | _ => .next (f.1.onWarp k fun w => { w with rep := RepState.idle })
  else f.1.runIn (w.frame k pc lanes cands f.2.size) f.2.instr

/-! ### Pairs (R15, R16) -/

/-- Majors that a pair may have, and the scalar ones among them. -/
def pairMajor (m : Nat) : Bool :=
  (decide (8 ≤ m) && decide (m ≤ 14)) || (decide (16 ≤ m) && decide (m ≤ 19)) || (decide (21 ≤ m) && decide (m ≤ 23))
def scalarMajor (m : Nat) : Bool := decide (12 ≤ m) && decide (m ≤ 14)

/-- The major of a fetched single-word instruction that a pair may have. -/
def FetchedInstr.pairMajor (f : FetchedInstr) : Option Nat :=
  match f with
  | .bad _ => none
  | .words w _ => if f.size = 4 ∧ Machine.pairMajor (fld w 26 6) then some (fld w 26 6) else none

/-- Whether two fetched instructions may issue as a pair. -/
def pairAllowed (f g : FetchedInstr) : Bool :=
  match f.pairMajor, g.pairMajor with
  | some m, some n => !(scalarMajor m && scalarMajor n)
  | _, _ => false

/-- Whether an issue of warp k has completed its instruction. -/
def State.completed (s : State) (k : Nat) (o : Host.Outcome State Fault Refusal) : Bool :=
  match o with
  | .next t => t.issues == s.issues + 1 && (match t.warp k with
    | some w => w.stop == .running && !w.priv
    | none => false)
  | .fault _ | .refused _ => false

/-- The secondary group beside a primary one, where R16 allows the pair and the secondary passes its checks. -/
def State.pairOf (s : State) (k : Nat) (w : Warp) (pc : Xword) (lanes : LaneSet) : Option LaneSet :=
  if w.priv || w.rep.busy then none
  else match w.secondary lanes with
    | none => none
    | some (q, l) =>
      let f := (s.fetchInstr w.coreK w.asid pc.toNat).2
      let g := (s.fetchInstr w.coreK w.asid q.toNat).2
      if pairAllowed f g && s.completed k (s.issueGroup k w q l l) then some l else none

/-- One issue of warp k: the `waitn` it was stopped in goes on, a cause that it is owed (15 R246), or its primary group, with
a secondary one to follow. -/
def State.issueWarp (s : State) (k : Nat) : Host.Outcome State Fault Refusal :=
  match s.warp k with
  | none => .next s
  | some w =>
    if w.waitnOpen then
      match w.primary with
      | none => .next s
      | some (pc, lanes) => (s.setWarp k w.wake).issueGroup k w.wake pc lanes w.candidates
    else if w.asyncDue.isSome then exec (.asyncTrapEntry k) s
    else match w.primary with
      | none => .next s
      | some (pc, lanes) =>
        let o := s.issueGroup k w pc lanes w.candidates
        match s.pairOf k w pc lanes, o with
        | some l, .next t => .next (if s.completed k o then { t with second := some (k, l) } else t)
        | _, _ => o

/-- A group that stands next in `second` issues. -/
def State.issueSecond (s : State) (k : Nat) (lanes : LaneSet) : Host.Outcome State Fault Refusal :=
  let s := { s with second := none }
  match s.warp k, firstLane lanes with
  | some w, some i => s.issueGroup k w (w.lane i).pc lanes lanes
  | _, _ => .next s

/-! ### Which warps may issue (R14, R19) -/

/-- 15 R253: whether a switch has stopped the warp. -/
def State.frozen (s : State) (w : Warp) : Bool :=
  let c := s.ctx w.ctxK
  (match c.stage with
    | .running | .cleared => false
    | .stopped | .drained | .writtenBack | .saved => true) && c.leaving.contains w.cluster

/-- R14: whether a warp is ready. -/
def State.isReady (s : State) (w : Warp) : Bool := (w.stop == .running || w.waitnOpen) && w.primary.isSome && !s.frozen w

/-- R19: whether a partition issues the one warp before the other. -/
def issuesBefore (a b : Nat × Warp) : Bool :=
  decide (a.2.lastIssue < b.2.lastIssue) || (a.2.lastIssue == b.2.lastIssue && decide (a.1 < b.1))

/-- The warp that each partition would issue. -/
def State.turns (s : State) : List Nat :=
  let l := s.warps.filter fun e => s.isReady e.2
  (l.filter fun e => l.all fun x => x.1 / 16 != e.1 / 16 || !issuesBefore x e).map Prod.fst

end Sys2Proof.Machine
end

