-- ==== Sys2Proof/Machine/Events.lean ====
section
/-!
DEFINITION. What else may happen at a step: the events that the machine itself brings about, by unit (rows of the opcode
table that no word encodes), the passing of time, and the choice of what happens next (log 2).
-/

namespace Sys2Proof.Machine

/-- Whether an event does anything now. -/
def State.changes (s : State) (i : Instr) : Bool :=
  match exec i s with
  | .next t => decide (t ≠ s)
  | .fault _ | .refused _ => true

/-- Events of a warp: loads, stores, polls and token buckets. -/
def State.warpEvents (s : State) (k : Nat) (w : Warp) : List Instr :=
  ((w.loads.filter fun l => l.waiting.isEmpty && l.lost.isNone).map fun l => Instr.loadReturn k l.id) ++
  ((w.stores.filter StoreOp.isDone).map fun o => Instr.storePerformed k o.id) ++
  match w.stop with
  | .monitor _ true => [.waitcPoll k]
  | .bucket cost => if s.mayCharge w.die w.ctxK 0 cost [] then [.tokenBucketReady k] else []
  | .running | .monitor _ false | .barrier _ | .waitn .. | .fault .. | .scoreboard | .engine => []

/-- Whether a bucket of a context covers a cost and injection is on: then a command that was short of it tries again. -/
def State.bucketCovers (s : State) (die asid cls cost : Nat) : Bool := s.mayCharge die (ctxKey die asid) cls cost []

/-- Events of a cluster's copy engine. -/
def State.clusterEvents (s : State) (key : Nat) (c : Cluster) : List Instr :=
  let die := key / 4
  let cl := key % 4
  if c.cq.isEmpty then []
  else if c.copyGated then [.engineWake die cl true]
  else
    (if (s.turn key).isSome then [.copySlice die cl] else []) ++
    ((c.cq.filter CopyCmd.canEnd).map fun q => Instr.copyComplete die cl q.id) ++
    (c.cq.filter fun q => q.short && s.bucketCovers die q.asid 1 q.due).map fun q => Instr.tokenBucketReady q.warp

/-- Events of a cluster's supply. -/
def State.supplyEvents (s : State) (key : Nat) : List Instr :=
  [Instr.voltageStep (key / 4) (key % 4), .voltageReached (key / 4) (key % 4)].filter s.changes

/-- Events of a core's matrix engine. -/
def State.coreEvents (s : State) (key : Nat) (c : Core) : List Instr :=
  let die := key / 32
  match c.mq with
  | [] => []
  | q :: _ =>
    if c.gated && !q.onLanes then [.engineWake die (key % 32) false]
    else if s.canRun q then [.matrixCommandComplete die (key % 32)]
    else if q.short && s.bucketCovers die q.asid 1 q.due then [.tokenBucketReady q.warp]
    else []

/-- Events of a die: collectives, walks of CACHE operations, its chain, ceiling and link. -/
def State.dieEvents (s : State) (die : Nat) (d : Die) : List Instr :=
  ((d.colls.filter fun x => s.collReady die x.1).map fun x => Instr.collectiveComplete die x.1.id [] 0) ++
  ((d.colls.filter fun x => x.1.short && s.bucketCovers die x.1.asid 2 x.1.due).map fun x => Instr.tokenBucketReady x.1.warp) ++
  (if d.walks.isEmpty then [] else [.cacheWalkDone die]) ++
  (if d.widening.isSome then [.linkWidthChangeDone die] else []) ++
  (if s.ceilAt die (s.timeOf die) = d.ceil then [] else [.ceilingEffective die]) ++
  if d.chain.any fun m => (match m.leaveAt with
    | some t => decide (t ≤ s.timeOf die)
    | none => false)
  then [.membershipChangeEffective die] else []

/-- Events of a channel of the causeway. -/
def State.channelEvents (s : State) (i j : Nat) : List Instr :=
  let l := s.cway.fly i j
  (if l.any (fun p => !p.isBeat) && s.cway.hasSlot i j then [.packetArrive i j none] else []) ++
  (if l.any Packet.isBeat then [.floorBeatReceive i j] else []) ++
  match s.cway.waitingAt i j with
  | [] => []
  | p :: _ => if s.deliverable p then [.packetDeliver i j] else []

/-- Floor beats that are due between live agents. -/
def State.beatEvents (s : State) : List Instr :=
  if s.cway.reseal ≠ .normal ∨ (s.cway.delivered.isEmpty && s.cway.beats.isEmpty) then []
  else agents.flatMap fun m => (agents.filter fun j => s.cway.beatDue m j && !s.gone m && !s.gone j).map fun j =>
    Instr.floorBeatSend m j

/-- Events of the causeway and of a reseal. -/
def State.cwayEvents (s : State) : List Instr :=
  ((distinct (mkeys s.cway.flying ++ mkeys s.cway.held)).flatMap fun k => s.channelEvents (k / 16) (k % 16)) ++
  s.beatEvents ++
  match s.cway.reseal with
  | .normal => []
  | .stopped _ => if s.quiet then [.resealZero] else []
  | .zeroed _ => [.resealReenable]

/-- Events of the front end and the placer. -/
def State.launchEvents (s : State) : List Instr :=
  let qs := (mkeys s.queues).map fun k => (k / 256, k % 256)
  (qs.flatMap fun q => [Instr.headLaunchTake q.1 q.2, .overflowMove q.1 q.2, .prologueRun q.1 q.2,
    .waitsigSatisfied q.1 q.2, .headGangAgeTimeout q.1 q.2].filter s.changes) ++
  (((distinct (qs.map Prod.fst)).map Instr.placerPass).filter s.changes) ++
  ((mkeys s.gangs).filter s.gangDone).map Instr.gangRetire

/-- Events of the switches in progress (15 R253). -/
def State.switchEvents (s : State) (key : Nat) (c : Ctx) : List Instr :=
  let die := key / 2048
  let asid := key % 2048
  match c.stage with
  | .running | .cleared => []
  | .stopped => [Instr.switchDrain die asid].filter s.changes
  | .drained => [.switchWriteBack die asid]
  | .writtenBack => [.switchSave die asid]
  | .saved => [.switchClear die asid]

/-- Every event that the machine itself can bring about now. -/
def State.events (s : State) : List Instr :=
  (s.warps.flatMap fun e => s.warpEvents e.1 e.2) ++
  (s.clusters.flatMap fun e => s.clusterEvents e.1 e.2 ++ s.supplyEvents e.1) ++
  (s.cores.flatMap fun e => s.coreEvents e.1 e.2) ++
  (s.dies.flatMap fun e => s.dieEvents e.1 e.2) ++
  s.cwayEvents ++ s.launchEvents ++
  s.ctxs.flatMap fun e => s.switchEvents e.1 e.2

/-! ### Time -/

/-- Whether something waits for time to pass: a bucket, a poll, a walk, a blocked head, a point held for a width change, a cluster
that has not started, or a change of a chain. -/
def State.waitsForTime (s : State) : Bool :=
  (s.warps.any fun e => match e.2.stop with
    | .bucket _ | .monitor _ true => true
    | .running | .monitor _ false | .barrier _ | .waitn .. | .fault .. | .scoreboard | .engine => false) ||
  (s.clusters.any fun e => e.2.cq.any fun c => c.short) ||
  (s.cores.any fun e => e.2.mq.any fun c => c.short) ||
  (s.dies.any fun e => !e.2.walks.isEmpty || (e.2.colls.any fun x => x.1.short) || !e.2.heldPoints.isEmpty ||
    let t := s.timeOf e.1
    e.2.chain.any fun m => m.leaveAt.isSome || decide (t < m.joinAt) || m.entries.any fun x => decide (t < x.1)) ||
  decide (s.host.clustersUp < 24) ||
  s.launches.any fun e => e.2.blockedSince.isSome && e.2.window.isNone

/-! ### The choice of what happens next (log 2) -/

/-- One thing that may happen at a step. -/
inductive Choice where
  /-- A warp issues, by key. -/
  | issue (k : Nat)
  /-- An event of the machine's own. -/
  | event (i : Instr)
  /-- What stands first in the agenda. -/
  | outside
  /-- A packet that waits at its source's port is injected (07 R172, R180). -/
  | inject (i j : Nat)
  /-- Withdrawals whose packets have been delivered end (07 R165). -/
  | withdrawn
  /-- A core fetches a word of its context ahead of use (03 R82). -/
  | fetchAhead (ck asid : Nat)
  /-- A line leaves an L1, an L2 home slice or an L3 (05 R125). -/
  | evictL1 (ck line : Nat)
  | evictL2 (a line : Nat)
  | evictL3 (line : Nat)
  /-- A copy engine takes the next slice of the copy whose turn it is later, or that copy after its warp's others (09 R188). -/
  | passSlice (clk : Nat)
  | passCopy (clk : Nat)
  /-- A matrix engine writes some of a command's output (23 R386, 22 R372). -/
  | writeSome (ck : Nat)
  /-- The next cluster starts (18 R291). -/
  | startCluster
  /-- F1 takes the next command (19 R295). -/
  | command
  | time
deriving DecidableEq, Repr

/-- What may happen to caches and at ports by itself. -/
def State.unitChoices (s : State) : List Choice :=
  (s.cway.outbox.map fun e => Choice.inject (e.1 / 16) (e.1 % 16)) ++
  (if s.withdrawals.isEmpty then [] else [.withdrawn]) ++
  (s.clusters.flatMap fun e => match e.2.asid with
    | some a => (coresOfCluster (e.1 / 4) (e.1 % 4)).map fun ck => Choice.fetchAhead ck a
    | none => []) ++
  (s.cores.flatMap fun e => e.2.l1Lines.map fun l => Choice.evictL1 e.1 l) ++
  (s.dies.flatMap fun e => ((distinct (e.2.l2.map fun x => x.1 / 4)).filter fun l => (e.2.victims (l2Set l)).contains l).map fun l =>
    Choice.evictL2 e.1 l) ++
  (s.l3.map fun e => Choice.evictL3 e.1) ++
  (s.clusters.flatMap fun e => if (s.turn e.1).isSome && !e.2.copyGated then [.passSlice e.1, .passCopy e.1] else []) ++
  (s.cores.flatMap fun e => match e.2.mq with
    | c :: _ => if c.writesOut && (c.onLanes || !e.2.gated) then [.writeSome e.1] else []
    | [] => []) ++
  (if s.mayStart then [.startCluster] else []) ++
  if s.nextCommand.isSome then [.command] else []

/-- Everything that may happen now. -/
def State.choices (s : State) : List Choice :=
  s.turns.map .issue ++ s.events.map .event ++ (if s.agenda.isEmpty then [] else [.outside]) ++ s.unitChoices ++
    if s.waitsForTime then [.time] else []

/-- What a choice does. -/
def State.take (s : State) (c : Choice) : Host.Outcome State Fault Refusal :=
  match c with
  | .issue k => s.issueWarp k
  | .event i => exec i s
  | .outside => match s.agenda with
    | [] => .next s
    | i :: r => exec i { s with agenda := r }
  | .time => .next s.timePasses
  | .inject i j => .next { s with cway := s.cway.inject i j }
  | .withdrawn => .next s.withdrawDone
  | .fetchAhead ck a => .next (s.fetchAhead ck a)
  | .evictL1 ck line => .next (s.evictL1 ck line)
  | .evictL2 a line => .next (s.evictL2 a line)
  | .evictL3 line => .next (s.evictL3 line)
  | .passSlice clk => .next (s.passSlice clk)
  | .passCopy clk => .next (s.passCopy clk)
  | .writeSome ck => .next (s.writeSome ck)
  | .startCluster => .next s.startCluster
  | .command => match s.nextCommand with
    | some (t, i) => exec i t
    | none => .next s

/-- What happens next: the one thing that may, a free choice among several, or time passes. -/
def State.proceed (s : State) : Host.Outcome State Fault Refusal :=
  match s.choices with
  | [] => .next s.timePasses
  | [c] => s.take c
  | c :: d :: r =>
    let x := s.freeNat
    x.2.take ((c :: d :: r).getD (x.1 % (r.length + 2)) c)

/-! ### An instruction placed for the next step -/

/-- Page tables at 0x100000 and 0x200000 of die 0 that map the virtual addresses below 4 GiB to die 0's memory, and the
words of an instruction at 0x1000. -/
def fetchImage (nbits w : Nat) : List (Nat × Byte) :=
  placed 0x1000 (leBytes 8 (w % 2 ^ nbits)) ++ placed 0x100000 (leBytes 8 0x200001) ++ placed 0x200000 (leBytes 8 0xF)

/-- The warp that fetches there: the first of gang g, of 16 lanes, in slot 0 of partition 0 of core 0. -/
def fetchWarp (g : Nat) : Warp :=
  Warp.start { die := 0, asid := 1, cluster := 0, core := 0, partition := 0, slot := 0, gang := g, member := 0, index := 0 }
    16 32 0x1000

/-- The launch of that warp. -/
def fetchLaunch : Launch :=
  { die := 0, queue := 0, asid := 1, record := List.replicate 16 0, slotRec := List.replicate 16 0, slot := 0, stage := .placed,
    since := 0, nextGang := 1, retired := 0, triggered := false, repeats := false, sched := [], waiting := none, met := false, passes := 0,
    blockedSince := none, window := none, todo := [] }

/-- The gang of that warp. -/
def fetchGang (lid : Nat) : Gang :=
  { launch := lid, index := 0, die := 0, asid := 1, cluster := 0, core := 0, members := 1, warps := 1, base := 0,
    localBytes := 0, bars := [], admitted := 0 }

end Sys2Proof.Machine
end

