-- ==== Sys2Proof/Machine/Step.lean ====
section
/-!
DEFINITION. One step of the machine: the second half of a pair that has begun, or else one thing that may happen next.
-/

namespace Sys2Proof.Machine

/-- One step. -/
def step (s : State) : Host.Outcome State Fault Refusal :=
  match s.second with
  | some (k, lanes) => s.issueSecond k lanes
  | none => s.proceed

/-- `s` with an instruction placed so that the next step fetches and runs it: ASID 1 bound on die 0 with page tables, a warp
of a placed launch at 0x1000, and its lanes next to issue (log 47). -/
def State.withFetchWord (s : State) (nbits w : Nat) : State :=
  let g := s.nextId
  let lid := s.nextId + 1
  let s := { s with nextId := s.nextId + 2 }
  let s := s.poke (fetchImage nbits w)
  let s := s.setCtx (ctxKey 0 1) { Ctx.unbound with bound := true, ptbase := 0x100000, region := [0] }
  let s := s.setDie 0 { s.die 0 with tlb := [] }
  let s := s.setCore 0 { s.core 0 with tlb := [], icache := [] }
  let s := s.setCluster 0 { s.cluster 0 with asid := some 1, gated := false }
  let s := (s.setLaunch lid fetchLaunch).setGang g (fetchGang lid)
  { s.setWarp 0 (fetchWarp g) with second := some (0, firstLanes 16) }

end Sys2Proof.Machine
end

