-- ==== Sys2Proof/Safety.lean ====
section
/-!
DEFINITION. The terms in which claims are stated: a warp that issues, registers that are free to use, what it is for an
instruction to complete or to trap, and what counts as a safe run.
-/

namespace Sys2Proof

/-- The number that a finite value is; 0 for the others. -/
def FVal.rat : FVal → ℚ
  | .fin neg m e => (if neg then -1 else 1) * m * 2 ^ e
  | .nan | .inf _ => 0

/-- Whether a value is finite. -/
def FVal.isFin : FVal → Bool
  | .fin .. => true
  | .nan | .inf _ => false

/-- `x` is at most `y`, as IEEE 754 orders values; never for a NaN (04 R89). -/
def FVal.leq (x y : FVal) : Prop :=
  match x, y with
  | .nan, _ => False
  | _, .nan => False
  | .inf true, _ => True
  | _, .inf false => True
  | .inf false, _ => False
  | _, .inf true => False
  | x, y => x.rat ≤ y.rat

end Sys2Proof

namespace Sys2Proof.Machine

/-- Warp `w` issues in the frame `c`: the state that a meaning of an instruction starts from. -/
structure Issues (s : State) (c : Cur) (w : Warp) : Prop where
  cur : s.cur = some c
  warp : s.warp c.warp = some w

/-- The window names of a list lie within the allocation (02 R38), and no outstanding load is to write one (22 R379). -/
def Warp.free (w : Warp) (names : List Nat) : Prop :=
  ∀ n ∈ names, w.allocated n < w.alloc ∧ ∀ l ∈ w.loads, l.dests.contains (w.allocated n) = false

/-- No outstanding load holds back the accesses of a group (06 R149). -/
def Warp.mayAccess (w : Warp) (lanes : LaneSet) : Prop :=
  ∀ l ∈ w.loads, ∀ a, l.acquire = some a → a.1 &&& lanes = 0

/-- Packets of demand traffic of the warp may be injected whatever they cost: no reseal is under way, its context's bucket
is full, nothing waits at its die's ports, and few packets are covered by no floor (07 R172, R175, R180). -/
def State.mayPay (s : State) (w : Warp) : Prop :=
  s.cway.reseal = .normal ∧ ((s.ctx w.ctxK).bucket 0).depth ≤ ((s.ctx w.ctxK).bucket 0).fill ∧
    ∀ j n, n ≤ 2 ^ 11 → s.cway.mayInject w.die j n = true

/-- No core of a die holds a line update-only (11 R223). -/
def State.noUpdates (s : State) (die line : Nat) : Prop := ∀ ck, ck / 32 = die → mfind (s.core ck).uo line = none

/-- Two warps differ in nothing but what a monitor latches (06 R160), which any write that reaches its home may be. -/
def Warp.sameButLatch (w u : Warp) : Prop :=
  u = { w with latch := u.latch, supLatch := u.supLatch, armed := u.armed, supArmed := u.supArmed, stop := u.stop }

/-- No signal of a die has a pending set (06 R162). -/
def State.noPending (s : State) : Prop := ∀ a, a < 8 → (s.die a).pending = []

/-- Of the cores, nothing but operand latches differs (09 R202). -/
def State.onlyLatches (s v : State) : Prop := ∀ k, v.core k = { s.core k with latch := (v.core k).latch }

/-- One lane's access has passed its checks: it reaches `n` aligned bytes of a raw page of the issuing die's own memory,
where no core of the die holds the line update-only. -/
structure Reaches (s : State) (c : Cur) (w : Warp) (want : Want) (n i : Nat) (fmtOk : Bool) (va : Xword) (v : State)
    (p : Place) : Prop where
  lane : i < 64
  lanes : c.lanes = laneBit i
  place : s.place w want n fmtOk [(i, va)] = .go v [p]
  window : p.window = .priv
  raw : p.leaf.fmt = 0
  own : ownerOf p.pa = w.die
  aligned : p.pa % n = 0
  updates : v.noUpdates w.die (lineOf p.pa)

/-- The instruction completes in state `t`, and its lanes go on after it. -/
def Ends (i : Instr) (s : State) (c : Cur) (t : State) : Prop := exec i s = .next (t.complete c false)

/-- The instruction completes in state `t`, in which it has placed its lanes itself. -/
def Moves (i : Instr) (s : State) (c : Cur) (t : State) : Prop := exec i s = .next (t.complete c true)

/-- The instruction completes, and all that it changes is its warp, which becomes `w`. -/
def Lands (i : Instr) (s : State) (c : Cur) (w : Warp) : Prop := Ends i s c (s.setWarp c.warp w)

/-- The allocated vector registers below the window (02 R38), which no name reaches, are those of another state of the warp. -/
def Warp.sameBelow (w u : Warp) : Prop := ∀ k, k < 64 * w.vwb → mget 0 u.vregs k = mget 0 w.vregs k

/-- The instruction completes, and its warp alone changes: window register `d` of each executing lane i becomes `f i`, and
every other register bit, below the window too, stays (20 R304, 02 R38). -/
def WritesV (i : Instr) (s : State) (c : Cur) (w : Warp) (d : VReg) (f : Nat → Word) : Prop :=
  ∃ u : Warp, Lands i s c u ∧ u = { w with vregs := u.vregs } ∧ w.sameBelow u ∧
    ∀ n l, l < 64 → u.v n l = if n = d.toNat ∧ c.lanes.getLsbD l = true then f l else w.v n l

/-- The same for scalar register `d`, where a write to s0 is discarded (02 R36). -/
def WritesS (i : Instr) (s : State) (c : Cur) (w : Warp) (d : SReg) (x : Xword) : Prop :=
  ∃ u : Warp, Lands i s c u ∧ u = { w with sregs := u.sregs } ∧ ∀ n, u.s n = if n = d ∧ d ≠ 0 then x else w.s n

/-- The same for predicate `p` in the executing lanes, where a write to p0 is discarded (02 R37). -/
def WritesP (i : Instr) (s : State) (c : Cur) (w : Warp) (p : PReg) (f : Nat → Prop) : Prop :=
  ∃ u : Warp, Lands i s c u ∧ u = { w with pregs := u.pregs } ∧ ∀ n l, l < 64 →
    ((u.p n).getLsbD l = true ↔
      if n = p ∧ p ≠ 0 ∧ c.lanes.getLsbD l = true then f l else (w.p n).getLsbD l = true)

/-- Half h of a lane's 32 bits: 0 is the low one (04 R88). -/
def half (x : Word) (h : Nat) : Nat := x.toNat / 2 ^ (16 * h) % 2 ^ 16

/-- The instruction writes both halves of `d` in every executing lane. -/
def WritesHalves (i : Instr) (s : State) (c : Cur) (w : Warp) (d : VReg) (f : Nat → Nat → Nat) : Prop :=
  ∃ g : Nat → Word, WritesV i s c w d g ∧ ∀ l h, h < 2 → half (g l) h = f l h

/-- The executing lanes below lane i, of a set. -/
def rankIn (lanes : LaneSet) (i : Nat) : Nat := ((lanesOf lanes).filter fun j => decide (j < i)).length

/-- The state in which the group of the frame has taken a trap (15 R245): the issue counts for the ages (01 R18); with
`next`, TRAPPC is the instruction after it, where lanes at a loop's end wait (15 R247, 01 R26). -/
def State.trapped (s : State) (c : Cur) (next : Bool) (cause : Nat) (info : Xword) : State :=
  s.trapAt c next (if next then c.nextPc else c.trapPc) cause info

/-- The instruction traps. -/
def Traps (i : Instr) (s : State) (c : Cur) (next : Bool) (cause : Nat) (info : Xword) : Prop :=
  exec i s = .next (s.trapped c next cause info)

/-- The instruction stops its warp, and issues again (01 R14). -/
def Waits (i : Instr) (s : State) (c : Cur) (why : Stop) : Prop :=
  exec i s = .next ((({ s with cur := none, issues := s.issues + 1 } : State)).onWarp c.warp fun w =>
    { w with lastIssue := s.issues + 1, stop := why })

/-- The lowest code of the conditions of a list that hold: of PARAM conditions, 256 times the kind plus the offset (09 R186). -/
def LowestOf (conds : List (Prop × Nat)) (x : Nat) : Prop :=
  (∃ e ∈ conds, e.1 ∧ e.2 = x) ∧ ∀ e ∈ conds, e.1 → x ≤ e.2

/-- A command that is judged at issue (09 R186): with no condition it is `ok`; else it traps with PARAM, with the kind and the
offset of the lowest. -/
def Judged (i : Instr) (s : State) (c : Cur) (conds : List (Prop × Nat)) (ok : Prop) : Prop :=
  ((∀ e ∈ conds, ¬e.1) → ok) ∧
    ∀ x, LowestOf conds x → Traps i s c false 0x0B (BitVec.ofNat 64 (x / 256 + 256 * (x % 256)))

/-- The host's power limits lie within the bounds of 16 R272. -/
def Power.bounded (p : Power) : Prop :=
  1200 ≤ p.cap ∧ p.cap ≤ 5000 ∧ 0x100 ≤ p.rmin.toNat ∧ p.rmin.toNat ≤ p.rmax.toNat

/-- The next n packets that i sends to j may be delivered at once: j is live, nothing stands before them on the channel, they may
be injected and carry no entry, and few deliveries have passed the last floor beat (07 R171, R172). -/
def State.channelFree (s : State) (i j n : Nat) : Prop :=
  s.gone j = false ∧ s.cway.clear i j = true ∧ s.cway.entriesFor i j = [] ∧ s.cway.mayInject i j n = true ∧
    s.pastBeat j i + n ≤ 2 ^ 13 + 1

/-- A system-class packet of H to an agent is delivered in the step that sends it (19 R294). -/
def State.hostReaches (s : State) (a : Nat) : Prop := s.channelFree 8 a 1

/-- A record that the firmware writes to H's memory is there in the step that posts it, and no context has an event ring for
others to go to first (19 R295, R297). -/
def State.hostHears (s : State) : Prop := s.channelFree 9 8 64 ∧ ∀ k, (s.ctx k).evring = 0

/-- H's access to the control aperture of an agent reaches it in this step, which leaves the machine as in `u` but for the
causeway's counters and the next number. -/
def HostWrites (i : Instr) (s : State) (a : Nat) (u : State) : Prop :=
  s.hostReaches a → ∃ t : State, exec i s = .next t ∧ t = { u with cway := t.cway, nextId := s.nextId + 1 }

/-- A step is safe when it answers a next state: no access to memory that does not exist, no instruction without an issue. -/
def State.stepsSafely (s : State) : Prop := ∃ t, step s = .next t

/-- A run of n steps is safe when each of its steps is. -/
def State.runsSafely (n : Nat) (s : State) : Prop := ∃ t, Sys2Proof.core.run n s = .next t

end Sys2Proof.Machine
end

