-- ==== Sys2Proof/Certificates/Slice0/Obligations.lean ====
section
/-!
DEFINITION. The statements about the machine, one for each group of rules of the spec. A statement of what an instruction
does has its completion as the conclusion: `Ends`, `Lands`, `Moves` and the `Writes…` of Safety.lean each say that `exec`
answers a next state.
-/

open Sys2Proof Sys2Proof.Machine

/-! ### Integers -/

/-- R308, R309, R399 and `xor`: the bitwise members: the words with registers in all places, the result bit by bit in every
operand form, a scalar constant zero-extended, and encodings that the rules give as examples. -/
def Obligations.BitwiseMembers : Prop :=
  (∀ d a b : VReg,
    encode (.and d a (.reg b)) = [(8#6 ++ 10#4 ++ 0#1 ++ d ++ a ++ b).toNat] ∧
    encode (.or d a (.reg b)) = [(8#6 ++ 11#4 ++ 0#1 ++ d ++ a ++ b).toNat] ∧
    encode (.xor d a (.reg b)) = [(8#6 ++ 12#4 ++ 0#1 ++ d ++ a ++ b).toNat] ∧
    encode (.andn d a (.reg b)) = [(9#6 ++ 0#4 ++ 0#1 ++ d ++ a ++ b).toNat]) ∧
  (∀ d a b : SReg,
    encode (.andS d a (.reg b)) = [(12#6 ++ 10#4 ++ 0#1 ++ 0#1 ++ d ++ 0#1 ++ a ++ 0#1 ++ b).toNat] ∧
    encode (.orS d a (.reg b)) = [(12#6 ++ 11#4 ++ 0#1 ++ 0#1 ++ d ++ 0#1 ++ a ++ 0#1 ++ b).toNat] ∧
    encode (.xorS d a (.reg b)) = [(12#6 ++ 12#4 ++ 0#1 ++ 0#1 ++ d ++ 0#1 ++ a ++ 0#1 ++ b).toNat] ∧
    encode (.andnS d a (.reg b)) = [(13#6 ++ 0#4 ++ 0#1 ++ 0#1 ++ d ++ 0#1 ++ a ++ 0#1 ++ b).toNat]) ∧
  (encode (.and 11 11 (.lit 255)) = [0x22A2C5FF, 0xF80000FF] ∧ encode (.andnS 3 3 (.reg 4)) = [0x3400C184] ∧
    encode (.or 3 1 (.reg 2)) = [0x22C0C082] ∧ encode (.orS 22 22 (.reg 23)) = [0x32C58B17]) ∧
  ∀ (s : State) (c : Cur) (w : Warp), Issues s c w →
    (∀ k : BitVec 7, w.sop (.const k) = k.setWidth 64) ∧
    (∀ (d a : VReg) (b : VOp), w.free ([d.toNat, a.toNat] ++ vopNames b) →
      let writes (i : Instr) (op : Bool → Bool → Bool) := ∃ f : Nat → Word, WritesV i s c w d f ∧
        ∀ l j, (f l).getLsbD j = (decide (j < 32) && op ((w.v a.toNat l).getLsbD j) ((w.vop l b).getLsbD j))
      writes (.and d a b) and ∧ writes (.or d a b) or ∧ writes (.xor d a b) xor ∧
        writes (.andn d a b) (fun x y => x && !y)) ∧
    ∀ (d a : SReg) (b : SOp),
      let writes (i : Instr) (op : Bool → Bool → Bool) := ∃ x : Xword, WritesS i s c w d x ∧
        ∀ j, x.getLsbD j = (decide (j < 64) && op ((w.s a).getLsbD j) ((w.sop b).getLsbD j))
      writes (.andS d a b) and ∧ writes (.orS d a b) or ∧ writes (.xorS d a b) xor ∧
        writes (.andnS d a b) (fun x y => x && !y)

/-- R307, R428, R394, R395, R383: sums and products, exact integers narrowed at the end; `mulhi` takes the high half.
R306, R385, R388: minimum, maximum and distance, of signed and of unsigned values. -/
def Obligations.SumsAndProducts : Prop :=
  (∀ (s : State) (c : Cur) (w : Warp), Issues s c w →
    (∀ (d a : VReg) (b : VOp), w.free ([d.toNat, a.toNat] ++ vopNames b) →
      let writes (i : Instr) (f : Word → Word → Word → Int) := WritesV i s c w d fun l =>
        BitVec.ofInt 32 (f (w.v d.toNat l) (w.v a.toNat l) (w.vop l b))
      writes (.add d a b) (fun _ x y => x.toInt + y.toInt) ∧
      writes (.sub d a b) (fun _ x y => x.toInt - y.toInt) ∧
      writes (.mul d a b) (fun _ x y => x.toInt * y.toInt) ∧
      writes (.mad d a b) (fun z x y => x.toInt * y.toInt + z.toInt) ∧
      writes (.mulhiI d a b) (fun _ x y => x.toInt * y.toInt / 2 ^ 32) ∧
      writes (.mulhiN d a b) (fun _ x y => x.toNat * y.toNat / 2 ^ 32)) ∧
    ∀ (d a : SReg) (b : SOp),
      let writes (i : Instr) (x : Int) := WritesS i s c w d (BitVec.ofInt 64 x)
      let x := w.s a
      let y := w.sop b
      writes (.addS d a b) (x.toInt + y.toInt) ∧
      writes (.subS d a b) (x.toInt - y.toInt) ∧
      writes (.mulS d a b) (x.toInt * y.toInt) ∧
      writes (.madS d a b) (x.toInt * y.toInt + (w.s d).toInt) ∧
      writes (.mulhiIS d a b) (x.toInt * y.toInt / 2 ^ 64) ∧
      writes (.mulhiNS d a b) ((x.toNat * y.toNat / 2 ^ 64 : Nat))) ∧
  (∀ (s : State) (c : Cur) (w : Warp), Issues s c w →
    (∀ (d a : VReg) (b : VOp), w.free ([d.toNat, a.toNat] ++ vopNames b) →
      let writes (i : Instr) (f : Word → Word → Int) := WritesV i s c w d fun l =>
        BitVec.ofInt 32 (f (w.v a.toNat l) (w.vop l b))
      writes (.minI d a b) (fun x y => min x.toInt y.toInt) ∧
      writes (.minN d a b) (fun x y => min x.toNat y.toNat) ∧
      writes (.maxI d a b) (fun x y => max x.toInt y.toInt) ∧
      writes (.maxN d a b) (fun x y => max x.toNat y.toNat) ∧
      writes (.absdI d a b) (fun x y => |x.toInt - y.toInt|) ∧
      writes (.absdN d a b) (fun x y => |(x.toNat : Int) - y.toNat|)) ∧
    ∀ (d a : SReg) (b : SOp),
      let writes (i : Instr) (x : Int) := WritesS i s c w d (BitVec.ofInt 64 x)
      let x := w.s a
      let y := w.sop b
      writes (.minIS d a b) (min x.toInt y.toInt) ∧
      writes (.minNS d a b) (min x.toNat y.toNat : Nat) ∧
      writes (.maxIS d a b) (max x.toInt y.toInt) ∧
      writes (.maxNS d a b) (max x.toNat y.toNat : Nat) ∧
      writes (.absdIS d a b) |x.toInt - y.toInt| ∧
      writes (.absdNS d a b) |(x.toNat : Int) - y.toNat|)

/-- R415, R420, R421, R424: shifts multiply and divide by a power of two, so that a count of the width or more leaves
nothing but the sign; `rol` moves bit k to bit (k + B) mod N. -/
def Obligations.ShiftsAndRotates : Prop :=
  ∀ (s : State) (c : Cur) (w : Warp), Issues s c w →
    (∀ (d a : VReg) (b : VOp), w.free ([d.toNat, a.toNat] ++ vopNames b) →
      let writes (i : Instr) (f : Word → Nat → Int) := WritesV i s c w d fun l =>
        BitVec.ofInt 32 (f (w.v a.toNat l) (w.vop l b).toNat)
      writes (.shl d a b) (fun x n => x.toNat * 2 ^ n) ∧
      writes (.shr d a b) (fun x n => x.toNat / 2 ^ n) ∧
      writes (.sra d a b) (fun x n => x.toInt / 2 ^ n) ∧
      ∃ f : Nat → Word, WritesV (.rol d a b) s c w d f ∧
        ∀ l k, k < 32 → (f l).getLsbD ((k + (w.vop l b).toNat) % 32) = (w.v a.toNat l).getLsbD k) ∧
    ∀ (d a : SReg) (b : SOp),
      let n := (w.sop b).toNat
      WritesS (.shlS d a b) s c w d (BitVec.ofNat 64 ((w.s a).toNat * 2 ^ n)) ∧
      WritesS (.shrS d a b) s c w d (BitVec.ofNat 64 ((w.s a).toNat / 2 ^ n)) ∧
      WritesS (.sraS d a b) s c w d (BitVec.ofInt 64 ((w.s a).toInt / 2 ^ n)) ∧
      ∃ x : Xword, WritesS (.rolS d a b) s c w d x ∧ ∀ k, k < 64 → x.getLsbD ((k + n) % 64) = (w.s a).getLsbD k

/-- R317, R318, R320, R329, R406: bit fields and bit counts. B gives the position of a field in B[5:0] and its length in
B[13:8], at most N. -/
def Obligations.BitFieldsAndCounts : Prop :=
  ∀ (s : State) (c : Cur) (w : Warp), Issues s c w →
    (∀ (d a : VReg) (b : VOp), w.free ([d.toNat, a.toNat] ++ vopNames b) →
      let pos (l : Nat) := (w.vop l b).toNat % 64
      let len (l : Nat) := min ((w.vop l b).toNat / 256 % 64) 32
      let x (l : Nat) := w.v a.toNat l
      (∃ f : Nat → Word, WritesV (.bfi d a b) s c w d f ∧ ∀ l k, k < 32 → (f l).getLsbD k =
        if pos l ≤ k ∧ k < pos l + len l then (x l).getLsbD (k - pos l) else (w.v d.toNat l).getLsbD k) ∧
      (∃ f : Nat → Word, WritesV (.bfxN d a b) s c w d f ∧ ∀ l k, k < 32 → (f l).getLsbD k =
        (decide (k < len l) && (x l).getLsbD (pos l + k))) ∧
      ∃ f : Nat → Word, WritesV (.bfxI d a b) s c w d f ∧ ∀ l k, k < 32 → (f l).getLsbD k =
        (decide (0 < len l) && (x l).getLsbD (min 31 (pos l + min k (len l - 1))))) ∧
    (∀ d a : VReg, w.free [d.toNat, a.toNat] →
      WritesV (.clz d a) s c w d (fun l =>
        let x := (w.v a.toNat l).toNat
        BitVec.ofNat 32 (if x = 0 then 32 else 31 - Nat.log2 x)) ∧
      WritesV (.popc d a) s c w d (fun l =>
        BitVec.ofNat 32 (Finset.univ.filter fun k : Fin 32 => (w.v a.toNat l).getLsbD k = true).card) ∧
      ∃ f : Nat → Word, WritesV (.brev d a) s c w d f ∧ ∀ l k, k < 32 → (f l).getLsbD k = (w.v a.toNat l).getLsbD (31 - k)) ∧
    (∀ (d a : SReg) (b : SOp),
      let pos := (w.sop b).toNat % 64
      let len := min ((w.sop b).toNat / 256 % 64) 64
      (∃ f : Xword, WritesS (.bfiS d a b) s c w d f ∧ ∀ k, k < 64 → f.getLsbD k =
        if pos ≤ k ∧ k < pos + len then (w.s a).getLsbD (k - pos) else (w.s d).getLsbD k) ∧
      (∃ f : Xword, WritesS (.bfxNS d a b) s c w d f ∧ ∀ k, k < 64 → f.getLsbD k =
        (decide (k < len) && (w.s a).getLsbD (pos + k))) ∧
      ∃ f : Xword, WritesS (.bfxIS d a b) s c w d f ∧ ∀ k, k < 64 → f.getLsbD k =
        (decide (0 < len) && (w.s a).getLsbD (min 63 (pos + min k (len - 1))))) ∧
    ∀ d a : SReg,
      let x := w.s a
      WritesS (.clzS d a) s c w d (BitVec.ofNat 64 (if x.toNat = 0 then 64 else 63 - Nat.log2 x.toNat)) ∧
      WritesS (.popcS d a) s c w d (BitVec.ofNat 64 (Finset.univ.filter fun k : Fin 64 => x.getLsbD k = true).card) ∧
      ∃ f : Xword, WritesS (.brevS d a) s c w d f ∧ ∀ k, k < 64 → f.getLsbD k = x.getLsbD (63 - k)

/-- R85, R342, R412: quotient and remainder, truncated toward zero: division by zero gives all ones and the dividend, the
signed overflow gives the dividend and 0, and otherwise A = quotient * B + remainder, the remainder smaller than B in
magnitude and of the dividend's sign. -/
def Obligations.DivisionLaw : Prop :=
  ∀ (s : State) (c : Cur) (w : Warp), Issues s c w →
    (∀ (d a : VReg) (b : VOp), w.free ([d.toNat, a.toNat] ++ vopNames b) → ∃ q r q' r' : Nat → Word,
      WritesV (.divI d a b) s c w d q ∧ WritesV (.remI d a b) s c w d r ∧
      WritesV (.divN d a b) s c w d q' ∧ WritesV (.remN d a b) s c w d r' ∧ ∀ l,
        let x := w.v a.toNat l
        let y := w.vop l b
        (y = 0 → q l = BitVec.allOnes 32 ∧ q' l = BitVec.allOnes 32 ∧ r l = x ∧ r' l = x) ∧
        (x.toInt = -2 ^ 31 → y.toInt = -1 → q l = x ∧ r l = 0) ∧
        (y ≠ 0 → x.toNat = (q' l).toNat * y.toNat + (r' l).toNat ∧ (r' l).toNat < y.toNat) ∧
        (y ≠ 0 → ¬(x.toInt = -2 ^ 31 ∧ y.toInt = -1) → x.toInt = (q l).toInt * y.toInt + (r l).toInt ∧
          |(r l).toInt| < |y.toInt| ∧ 0 ≤ (r l).toInt * x.toInt)) ∧
    ∀ (d a : SReg) (b : SOp), ∃ q r q' r' : Xword,
      WritesS (.divIS d a b) s c w d q ∧ WritesS (.remIS d a b) s c w d r ∧
      WritesS (.divNS d a b) s c w d q' ∧ WritesS (.remNS d a b) s c w d r' ∧
        let x := w.s a
        let y := w.sop b
        (y = 0 → q = BitVec.allOnes 64 ∧ q' = BitVec.allOnes 64 ∧ r = x ∧ r' = x) ∧
        (x.toInt = -2 ^ 63 → y.toInt = -1 → q = x ∧ r = 0) ∧
        (y ≠ 0 → x.toNat = q'.toNat * y.toNat + r'.toNat ∧ r'.toNat < y.toNat) ∧
        (y ≠ 0 → ¬(x.toInt = -2 ^ 63 ∧ y.toInt = -1) → x.toInt = q.toInt * y.toInt + r.toInt ∧
          |r.toInt| < |y.toInt| ∧ 0 ≤ r.toInt * x.toInt)

/-- R330, R392, R417: `cmp` compares signed or unsigned values and writes a predicate's executing lanes or a scalar 1 or
0; `mov` copies B; `sel` takes A where the predicate, inverted or not, holds, else B. -/
def Obligations.CompareMoveSelect : Prop :=
  ∀ (s : State) (c : Cur) (w : Warp), Issues s c w →
    (∀ (p : PReg) (a : VReg) (b : VOp), w.free (a.toNat :: vopNames b) →
      let tests (k : CmpCond) (r : Word → Word → Prop) := WritesP (.cmp k p a b) s c w p fun l => r (w.v a.toNat l) (w.vop l b)
      tests .eq (fun x y => x = y) ∧ tests .ne (fun x y => x ≠ y) ∧
      tests .ltI (fun x y => x.toInt < y.toInt) ∧ tests .leI (fun x y => x.toInt ≤ y.toInt) ∧
      tests .gtI (fun x y => y.toInt < x.toInt) ∧ tests .geI (fun x y => y.toInt ≤ x.toInt) ∧
      tests .ltN (fun x y => x.toNat < y.toNat) ∧ tests .leN (fun x y => x.toNat ≤ y.toNat) ∧
      tests .gtN (fun x y => y.toNat < x.toNat) ∧ tests .geN (fun x y => y.toNat ≤ x.toNat)) ∧
    (∀ (d a : SReg) (b : SOp),
      let x := w.s a
      let y := w.sop b
      let tests (k : CmpCond) (r : Prop) := ∃ v : Xword, WritesS (.cmpS k d a b) s c w d v ∧ (r → v = 1) ∧ (¬r → v = 0)
      tests .eq (x = y) ∧ tests .ne (x ≠ y) ∧
      tests .ltI (x.toInt < y.toInt) ∧ tests .leI (x.toInt ≤ y.toInt) ∧
      tests .gtI (y.toInt < x.toInt) ∧ tests .geI (y.toInt ≤ x.toInt) ∧
      tests .ltN (x.toNat < y.toNat) ∧ tests .leN (x.toNat ≤ y.toNat) ∧
      tests .gtN (y.toNat < x.toNat) ∧ tests .geN (y.toNat ≤ x.toNat)) ∧
    (∀ (d : VReg) (b : VOp), w.free (d.toNat :: vopNames b) → WritesV (.mov d b) s c w d fun l => w.vop l b) ∧
    (∀ (d : SReg) (b : SOp), WritesS (.movS d b) s c w d (w.sop b)) ∧
    ∀ (p : PReg) (inv : Bool) (d a : VReg) (b : VOp), w.free ([d.toNat, a.toNat] ++ vopNames b) →
      WritesV (.sel p inv d a b) s c w d fun l =>
        if (w.p p).getLsbD l = true ↔ inv = false then w.v a.toNat l else w.vop l b

/-! ### Floats -/

/-- R349: `fabs` clears the sign bit and R362: `fneg` flips it, of f32 or of each half, and every other bit stays; with the
encodings that the rules give. -/
def Obligations.SignBitMembers : Prop :=
  (encode (.fabs 2 1) = [0x40C08080] ∧ encode (.fabsF16x2 2 1) = [0x44C08080] ∧ encode (.fneg 2 1) = [0x40E08080] ∧
    ∀ d a : VReg,
      encode (.fabs d a) = [(16#6 ++ 6#5 ++ d ++ a ++ 0#7).toNat] ∧
      encode (.fabsF16x2 d a) = [(17#6 ++ 6#5 ++ d ++ a ++ 0#7).toNat] ∧
      encode (.fabsBf16x2 d a) = [(18#6 ++ 6#5 ++ d ++ a ++ 0#7).toNat] ∧
      encode (.fneg d a) = [(16#6 ++ 7#5 ++ d ++ a ++ 0#7).toNat] ∧
      encode (.fnegF16x2 d a) = [(17#6 ++ 7#5 ++ d ++ a ++ 0#7).toNat] ∧
      encode (.fnegBf16x2 d a) = [(18#6 ++ 7#5 ++ d ++ a ++ 0#7).toNat]) ∧
  ∀ (s : State) (c : Cur) (w : Warp) (d a : VReg), Issues s c w → w.free [d.toNat, a.toNat] →
    WritesV (.fabs d a) s c w d (fun l => w.v a.toNat l &&& 0x7FFFFFFF) ∧
    WritesV (.fneg d a) s c w d (fun l => w.v a.toNat l ^^^ 0x80000000) ∧
    WritesV (.fabsF16x2 d a) s c w d (fun l => w.v a.toNat l &&& 0x7FFF7FFF) ∧
    WritesV (.fabsBf16x2 d a) s c w d (fun l => w.v a.toNat l &&& 0x7FFF7FFF) ∧
    WritesV (.fnegF16x2 d a) s c w d (fun l => w.v a.toNat l ^^^ 0x80008000) ∧
    WritesV (.fnegBf16x2 d a) s c w d (fun l => w.v a.toNat l ^^^ 0x80008000)

/-- R88, R350, R354, R358, R361, R364, R368: f32 arithmetic: the exact value, rounded once. FloatOperationsExact says that the
value is exact, and RoundingNearest what rounding does. -/
def Obligations.F32Arithmetic : Prop :=
  ∀ (s : State) (c : Cur) (w : Warp) (d a b : VReg), Issues s c w → w.free [d.toNat, a.toNat, b.toNat] →
    let z (l : Nat) := Fmt.f32.value (w.v d.toNat l).toNat
    let x (l : Nat) := Fmt.f32.value (w.v a.toNat l).toNat
    let y (l : Nat) := Fmt.f32.value (w.v b.toNat l).toNat
    let part (f : Fmt) (r : VReg) (l h : Nat) := f.value (half (w.v r.toNat l) h)
    let writes (i : Instr) (f : Nat → FVal) := WritesV i s c w d fun l => BitVec.ofNat 32 (Fmt.f32.rne (f l))
    writes (.fadd d a b) (fun l => (x l).add (y l)) ∧
    writes (.fsub d a b) (fun l => (x l).add (y l).neg) ∧
    writes (.fmul d a b) (fun l => (x l).mul (y l)) ∧
    writes (.fma d a b) (fun l => (z l).add ((x l).mul (y l))) ∧
    writes (.fdot2F16 d a b) (fun l => ((z l).add ((part .f16 a l 0).mul (part .f16 b l 0))).add
      ((part .f16 a l 1).mul (part .f16 b l 1))) ∧
    writes (.fdot2Bf16 d a b) (fun l => ((z l).add ((part .bf16 a l 0).mul (part .bf16 b l 0))).add
      ((part .bf16 a l 1).mul (part .bf16 b l 1))) ∧
    ∀ dir, writes (.frnd dir d a) (fun l => (x l).integral dir)

/-- R88: the packed majors compute and round each half on its own, in f16 or in bf16. -/
def Obligations.PackedHalves : Prop :=
  ∀ (s : State) (c : Cur) (w : Warp) (d a b : VReg), Issues s c w → w.free [d.toNat, a.toNat, b.toNat] →
    let at_ (f : Fmt) (r : VReg) (l h : Nat) := f.value (half (w.v r.toNat l) h)
    let sums (f : Fmt) (add sub mul fma : Instr) :=
      WritesHalves add s c w d (fun l h => f.rne ((at_ f a l h).add (at_ f b l h))) ∧
      WritesHalves sub s c w d (fun l h => f.rne ((at_ f a l h).add (at_ f b l h).neg)) ∧
      WritesHalves mul s c w d (fun l h => f.rne ((at_ f a l h).mul (at_ f b l h))) ∧
      WritesHalves fma s c w d (fun l h => f.rne ((at_ f d l h).add ((at_ f a l h).mul (at_ f b l h))))
    sums .f16 (.faddF16x2 d a b) (.fsubF16x2 d a b) (.fmulF16x2 d a b) (.fmaF16x2 d a b) ∧
    sums .bf16 (.faddBf16x2 d a b) (.fsubBf16x2 d a b) (.fmulBf16x2 d a b) (.fmaBf16x2 d a b) ∧
    ∀ dir,
      WritesHalves (.frndF16x2 dir d a) s c w d (fun l h => Fmt.f16.rne ((at_ .f16 a l h).integral dir)) ∧
      WritesHalves (.frndBf16x2 dir d a) s c w d (fun l h => Fmt.bf16.rne ((at_ .bf16 a l h).integral dir))

/-- R89, R359, R360: `fmin` and `fmax` return one operand's bits: the other one when exactly one is NaN, the canonical NaN
when both are, else the smaller or larger, with -0 below +0.
R351, R89: `fcmp`: -0 equals +0, and only `ne` and `unord` hold of a NaN. -/
def Obligations.FloatMinMax : Prop :=
  (∀ (s : State) (c : Cur) (w : Warp) (d a b : VReg), Issues s c w → w.free [d.toNat, a.toNat, b.toNat] →
    let picks (f : Fmt) (x y r : Nat) (first second : FVal → FVal → Prop) :=
      let u := f.value x
      let v := f.value y
      (u = .nan → v = .nan → r = f.nanCode) ∧ (u = .nan → v ≠ .nan → r = y) ∧ (u ≠ .nan → v = .nan → r = x) ∧
        (u ≠ .nan → v ≠ .nan → (first u v → r = x) ∧ (second u v → r = y) ∧ (r = x ∨ r = y))
    let lower (u v : FVal) := ¬v.leq u ∨ (u.leq v ∧ v.leq u ∧ u.isNeg = true ∧ v.isNeg = false)
    let whole (i : Instr) (p q : FVal → FVal → Prop) := ∃ g : Nat → Word, WritesV i s c w d g ∧
      ∀ l, picks .f32 (w.v a.toNat l).toNat (w.v b.toNat l).toNat (g l).toNat p q
    let halves (i : Instr) (f : Fmt) (p q : FVal → FVal → Prop) := ∃ g : Nat → Nat → Nat, WritesHalves i s c w d g ∧
      ∀ l h, h < 2 → picks f (half (w.v a.toNat l) h) (half (w.v b.toNat l) h) (g l h) p q
    whole (.fmin d a b) lower (fun u v => lower v u) ∧ whole (.fmax d a b) (fun u v => lower v u) lower ∧
    halves (.fminF16x2 d a b) .f16 lower (fun u v => lower v u) ∧
    halves (.fmaxF16x2 d a b) .f16 (fun u v => lower v u) lower ∧
    halves (.fminBf16x2 d a b) .bf16 lower (fun u v => lower v u) ∧
    halves (.fmaxBf16x2 d a b) .bf16 (fun u v => lower v u) lower) ∧
  (∀ (s : State) (c : Cur) (w : Warp) (p : PReg) (a b : VReg), Issues s c w → w.free [a.toNat, b.toNat] →
    let tests (k : FCmpCond) (r : FVal → FVal → Prop) := WritesP (.fcmp k p a b) s c w p fun l =>
      r (Fmt.f32.value (w.v a.toNat l).toNat) (Fmt.f32.value (w.v b.toNat l).toNat)
    tests .eq (fun x y => x.leq y ∧ y.leq x) ∧ tests .ne (fun x y => ¬(x.leq y ∧ y.leq x)) ∧
    tests .lt (fun x y => x.leq y ∧ ¬y.leq x) ∧ tests .le (fun x y => x.leq y) ∧
    tests .gt (fun x y => y.leq x ∧ ¬x.leq y) ∧ tests .ge (fun x y => y.leq x) ∧
    tests .ord (fun x y => x ≠ .nan ∧ y ≠ .nan) ∧ tests .unord (fun x y => x = .nan ∨ y = .nan))

/-- R88, R364: sums and products of finite values are the exact numbers; `integral` gives the integer of its direction,
the nearest one with ties to even for `ne`. The sign of a zero: that of both terms of a sum, +0 where they differ; the signs'
product; and kept by `integral`. Infinities and NaNs follow IEEE 754. -/
def Obligations.FloatOperationsExact : Prop :=
  (∀ x y : FVal, x.isFin = true → y.isFin = true →
    (x.add y).isFin = true ∧ (x.add y).rat = x.rat + y.rat ∧
    (x.mul y).isFin = true ∧ (x.mul y).rat = x.rat * y.rat ∧
    x.neg.isFin = true ∧ x.neg.rat = -x.rat ∧
    (x.integral .dn).rat = ⌊x.rat⌋ ∧ (x.integral .up).rat = ⌈x.rat⌉ ∧
    (x.integral .z).rat = (if x.rat < 0 then ⌈x.rat⌉ else ⌊x.rat⌋ : ℤ) ∧
    (∃ k : ℤ, (x.integral .ne).rat = k ∧ |x.rat - k| ≤ 1 / 2 ∧ (|x.rat - k| = 1 / 2 → Even k)) ∧
    ((x.add y).rat = 0 → (x.add y).isNeg = (x.isNeg && y.isNeg)) ∧ (x.mul y).isNeg = (x.isNeg != y.isNeg) ∧
    x.neg.isNeg = !x.isNeg ∧ ∀ dir, (x.integral dir).isFin = true ∧ (x.integral dir).isNeg = x.isNeg) ∧
  (∀ x : FVal, FVal.nan.add x = .nan ∧ x.add .nan = .nan ∧ FVal.nan.mul x = .nan ∧ x.mul .nan = .nan) ∧
  ∀ a : Bool,
    (∀ b, (FVal.inf a).add (.inf b) = (if a = b then .inf a else .nan) ∧ (FVal.inf a).mul (.inf b) = .inf (a != b)) ∧
    (FVal.inf a).neg = .inf (!a) ∧ (∀ dir, (FVal.inf a).integral dir = .inf a ∧ FVal.nan.integral dir = .nan) ∧
    ∀ y : FVal, y.isFin = true → (FVal.inf a).add y = .inf a ∧ y.add (.inf a) = .inf a ∧
      (y.rat = 0 → (FVal.inf a).mul y = .nan ∧ y.mul (.inf a) = .nan) ∧
      (y.rat ≠ 0 → (FVal.inf a).mul y = .inf (a != y.isNeg) ∧ y.mul (.inf a) = .inf (a != y.isNeg))

/-- R83, R88: rounding to nearest gives a code of the number's sign whose value no code of the format is closer to, the even one
of two, as long as the number lies within the largest finite magnitude. Beyond it by half a step or more the result is an
infinity of that sign, or the NaN of e4m3, which has none (R100); the formats without either keep the largest magnitude. The
value of a finite code rounds to that code. -/
def Obligations.RoundingNearest : Prop :=
  ∀ f : Fmt,
    let top := (f.value f.maxCode).rat
    let half := (top - (f.value (f.maxCode - 1)).rat) / 2
    (∀ v : FVal, v.isFin = true →
      let r := f.value (f.rne v)
      (|v.rat| ≤ top → r.isFin = true ∧ r.isNeg = v.isNeg ∧ ∀ code, (f.value code).isFin = true →
        |v.rat - r.rat| ≤ |v.rat - (f.value code).rat| ∧
        ((f.value code).rat ≠ r.rat → |v.rat - (f.value code).rat| = |v.rat - r.rat| → Even (f.rne v))) ∧
      (top < |v.rat| → |v.rat| < top + half ∨ f.hasNan = false → f.rne v = f.signed v.isNeg f.maxCode) ∧
      (f.hasInf = true → top + half ≤ |v.rat| → r = .inf v.isNeg) ∧
      (f = .e4m3 → (|v.rat| = top + half → f.rne v = f.signed v.isNeg f.maxCode) ∧ (top + half < |v.rat| → f.rne v = f.nanCode))) ∧
    f.rne .nan = f.nanCode ∧ (f.hasInf = true → ∀ neg, f.value (f.rne (.inf neg)) = .inf neg) ∧
    ∀ code, code < 2 ^ (f.magBits + 1) → (f.value code).isFin = true → f.rne (f.value code) = code

/-- R352, R115: the SFU members write a function of the operand's bits, with the special values of R115. R114: every other result lies
within its bound of the exact value, as the model computes that to some 250 bits, and `fsqrt` rounds it correctly; within the
bound it is a free value of Config (log 6). The reciprocals and roots are held to their equations, the others to known values. -/
def Obligations.SfuMembers : Prop :=
  (∀ (s : State) (c : Cur) (w : Warp) (d a : VReg), Issues s c w → w.free [d.toNat, a.toNat] →
    let writes (i : Instr) (fn : SfuFn) := WritesV i s c w d fun l => sfu fn (w.v a.toNat l)
    writes (.frcp d a) .rcp ∧ writes (.frsq d a) .rsq ∧ writes (.fsqrt d a) .sqrt ∧ writes (.fexp2 d a) .exp2 ∧
    writes (.flog2 d a) .log2 ∧ writes (.fsin d a) .sin ∧ writes (.fcos d a) .cos ∧ writes (.ftanh d a) .tanh) ∧
  (∀ fn (x : Word), Fmt.f32.value x.toNat = .nan → sfu fn x = 0x7FC00000) ∧
  (∀ (x : Word), x.toInt < 0 → x ≠ 0x80000000 → sfu .rsq x = 0x7FC00000 ∧ sfu .sqrt x = 0x7FC00000 ∧ sfu .log2 x = 0x7FC00000) ∧
  [sfu .rcp 0xFF800000, sfu .rcp 0x80000000, sfu .rcp 0, sfu .rcp 0x7F800000] = [0x80000000, 0xFF800000, 0x7F800000, 0] ∧
  [sfu .rsq 0x80000000, sfu .rsq 0, sfu .rsq 0x7F800000] = [0xFF800000, 0x7F800000, 0] ∧
  [sfu .sqrt 0x80000000, sfu .sqrt 0, sfu .sqrt 0x7F800000] = [0x80000000, 0, 0x7F800000] ∧
  [sfu .exp2 0xFF800000, sfu .exp2 0x80000000, sfu .exp2 0, sfu .exp2 0x7F800000] = [0, 0x3F800000, 0x3F800000, 0x7F800000] ∧
  [sfu .log2 0x80000000, sfu .log2 0, sfu .log2 0x7F800000, sfu .log2 0x3F800000] = [0xFF800000, 0xFF800000, 0x7F800000, 0] ∧
  [sfu .sin 0xFF800000, sfu .sin 0x80000000, sfu .sin 0, sfu .sin 0x7F800000] = [0x7FC00000, 0x80000000, 0, 0x7FC00000] ∧
  [sfu .cos 0xFF800000, sfu .cos 0x80000000, sfu .cos 0, sfu .cos 0x7F800000] = [0x7FC00000, 0x3F800000, 0x3F800000, 0x7FC00000] ∧
  [sfu .tanh 0xFF800000, sfu .tanh 0x80000000, sfu .tanh 0, sfu .tanh 0x7F800000] = [0xBF800000, 0x80000000, 0, 0x3F800000] ∧
  (∀ fn x neg m e, Fmt.f32.value x.toNat = .fin neg m e → sfuSpecial fn (.fin neg m e) = none →
    let a := (FVal.fin neg m e).rat
    let v := sfuExact fn neg m e
    let y := Fmt.f32.value (sfu fn x).toNat
    let off (d : ℚ) := y.isFin = true ∧ |y.rat - v.rat| ≤ d
    let ulp : ℚ := 2 ^ ulpExp v
    let top := (Fmt.f32.value 0x7F7FFFFF).rat
    (|v.rat| ≤ top → match fn with
      | .rcp => off ulp
      | .rsq | .exp2 => off (2 * ulp)
      | .sqrt => (sfu fn x).toNat = Fmt.f32.rne v
      | .log2 => if 1 / 2 ≤ a ∧ a ≤ 2 then off (1 / 2 ^ 22) else off (2 * ulp)
      | .sin | .cos => off (1 / 2 ^ 21)
      | .tanh => off (max (2 * ulp) (1 / 2 ^ 22))) ∧
    (fn = .rcp → |v.rat * a - 1| ≤ 1 / 2 ^ 300 ∧ (top < |v.rat| → y = .inf neg)) ∧
    (fn = .rsq → 0 < v.rat ∧ |v.rat * v.rat * a - 1| ≤ 1 / 2 ^ 300) ∧
    (fn = .sqrt → 0 < v.rat ∧ |v.rat * v.rat - a| ≤ a / 2 ^ 190) ∧
    (fn = .exp2 → ∀ k : ℤ, a = k → v.rat = 2 ^ k) ∧
    (fn = .log2 → ∀ k : ℤ, a = 2 ^ k → v.rat = k)) ∧
  (let near (v : FVal) (n : Nat) : Prop := |v.rat - n / 2 ^ 60| ≤ 1 / 2 ^ 60;
    near (sfuExact .exp2 false 1 (-1)) 0x16A09E667F3BCC91 ∧ near (sfuExact .log2 false 3 0) 0x195C01A39FBD687A ∧
    near (sfuExact .sin false 1 0) 0xD76AA4784867702 ∧ near (sfuExact .cos false 1 0) 0x8A51407DA8345C9 ∧
    near (sfuExact .tanh false 1 0) 0xC2F7D5A8A79CA2B)

/-! ### Conversions, lanes and predicates -/

/-- R339, R340, R400, R401, R434, R435: `cvt` converts one element per lane, `pack` the elements of consecutive registers into
the places of one, `unpack` the reverse, exactly. With a rounding mode that takes draws (R101, R102), element k of a lane
takes the lane's draw k, and its stochastic state goes on by as many; no other state of the warp changes.
R100, R102, R103: what a float result rounds to in each mode, with an overflow, saturation and the special inputs. R104, R105: what
an integer result is. R97, R98, R400: the places of packed elements. R101: the draws. R42: the fields of CVTMODE. -/
def Obligations.Conversions : Prop :=
  (encode (.cvt .i32 .f32 2 1) = [0x5520808D] ∧ encode (.cvt .bf16 .f32 2 1) = [0x55E0808D] ∧
    encode (.pack .e2m1 .f32 10 2) = [0x5A82810D] ∧ encode (.pack .bf16 .f32 3 4) = [0x59E0C20D] ∧
    encode (.unpack .f32 .e2m1 2 10) = [0x5DA08514]) ∧
  (∀ (f : Fmt) (md : CvtField) (x : Nat) (v : FVal), x < 2 ^ 32 →
    let r := f.round md x v
    let mag (k : Nat) : ℚ := (f.value k).rat
    let a := |v.rat|
    let top := mag f.maxCode
    let largest := r = f.signed v.isNeg f.maxCode
    let beyond := (f.hasInf = true → f.value r = .inf v.isNeg) ∧ (f.hasInf = false → r = f.nanCode)
    let part (lo hi : ℚ) : ℤ := ⌊(a - lo) / (hi - lo) * 2 ^ 32⌋
    (v = .nan → r = f.nanCode) ∧
    (v.isFin = false → v ≠ .nan → (md.sat = true ∨ f.hasNan = false → largest) ∧ (md.sat = false → f.hasNan = true → beyond)) ∧
    (v.isFin = true → a ≤ top → ∃ c, c ≤ f.maxCode ∧ r = f.signed v.isNeg c ∧ (∀ k, k ≤ f.maxCode → mag k = a → c = k) ∧
      (md.rnd = .nearest → r = f.rne v) ∧
      (md.rnd = .zero ∨ (md.rnd = .down ∧ v.isNeg = false) → mag c ≤ a ∧ ∀ k, k ≤ f.maxCode → mag k ≤ a → k ≤ c) ∧
      (md.rnd = .down → v.isNeg = true → a ≤ mag c ∧ ∀ k, k ≤ f.maxCode → a ≤ mag k → c ≤ k) ∧
      (md.rnd = .stochastic → ∀ k, k < f.maxCode → mag k ≤ a → a < mag (k + 1) →
        c = if 2 ^ 32 ≤ part (mag k) (mag (k + 1)) + x then k + 1 else k)) ∧
    (v.isFin = true → top < a →
      (md.sat = true ∨ f.hasNan = false ∨ md.rnd = .zero ∨ (md.rnd = .down ∧ v.isNeg = false) → largest) ∧
      (md.sat = false → f.hasNan = true → (md.rnd = .nearest → r = f.rne v) ∧ (md.rnd = .down → v.isNeg = true → beyond) ∧
        (md.rnd = .stochastic → let t := part top (2 * top - mag (f.maxCode - 1))
          (t + x < 2 ^ 32 → largest) ∧ (2 ^ 32 ≤ t + x → beyond))))) ∧
  (∀ (dst src : Ty) (md : CvtField) (x code : Nat), x < 2 ^ 32 →
    let r := convert dst src md x code
    let low (n : Nat) (signed : Bool) (k : ℤ) : ℤ := if signed then (BitVec.ofInt n k).toInt else (BitVec.ofInt n k).toNat
    let narrow (n : Nat) (signed : Bool) (k : ℤ) : Word := BitVec.ofInt 32 (if md.sat = true then
      (if signed then max (-2 ^ (n - 1)) (min (2 ^ (n - 1) - 1) k) else max 0 (min (2 ^ n - 1) k)) else low n signed k)
    let whole (q : ℚ) (k : ℤ) := match md.rnd with
      | .nearest => |q - k| ≤ 1 / 2 ∧ (|q - k| = 1 / 2 → Even k)
      | .zero => k = if q < 0 then ⌈q⌉ else ⌊q⌋
      | .down => k = ⌊q⌋
      | .stochastic => |k| = ⌊|q|⌋ + (if 2 ^ 32 ≤ ⌊(|q| - ⌊|q|⌋) * 2 ^ 32⌋ + (x : ℤ) then 1 else 0) ∧ 0 ≤ k * q
    (∀ f g, dst.fmt = some f → src.fmt = some g → r.toNat = f.round md x (g.value code)) ∧
    (∀ f n signed, dst.fmt = some f → src.int = some (n, signed) → ∃ v : FVal, v.isFin = true ∧ v.rat = low n signed code ∧
      (v.rat = 0 → v.isNeg = false) ∧ r.toNat = f.round md x v) ∧
    (∀ n signed g, dst.int = some (n, signed) → src.fmt = some g → let v := g.value code
      (v = .nan → r = 0) ∧
      (∀ neg, v = .inf neg → (md.sat = true → r = narrow n signed (if neg then -2 ^ n else 2 ^ n)) ∧ (md.sat = false → r = 0)) ∧
      (v.isFin = true → ∃ k, whole v.rat k ∧ r = narrow n signed k)) ∧
    (∀ n signed m t, dst.int = some (n, signed) → src.int = some (m, t) → r = narrow n signed (low m t code)) ∧
    (takesDraw dst src md = true → md.rnd = .stochastic ∧ ¬(dst.int ≠ none ∧ src.int ≠ none)) ∧
    (md.rnd = .stochastic → dst.fmt ≠ none ∨ src.fmt ≠ none → takesDraw dst src md = true)) ∧
  (∀ m : Xword, ∀ e ∈ [(Ty.f32, 0), (.f16, 1), (.bf16, 2), (.e4m3, 3), (.e5m2, 4), (.e3m2, 5), (.e2m3, 6), (.e2m1, 7), (.kf4, 8),
      (.i8, 9), (.n8, 10), (.i16, 11), (.n16, 12), (.i32, 13), (.n32, 14)],
    [Rnd.nearest, .zero, .down, .stochastic][m.toNat / 2 ^ (4 * e.2) % 4]? = some (cvtField m e.1).rnd ∧
      (cvtField m e.1).sat = m.getLsbD (4 * e.2 + 2)) ∧
  (let layouts := [(Ty.f16, 2, 16), (.bf16, 2, 16), (.i16, 2, 16), (.n16, 2, 16), (.e4m3, 4, 8), (.e5m2, 4, 8), (.i8, 4, 8), (.n8, 4, 8),
      (.e3m2, 4, 6), (.e2m3, 4, 6), (.e2m1, 8, 4)]
    ∀ e ∈ layouts, packCount e.1 = e.2.1 ∧ packBits e.1 = e.2.2 ∧
      (∀ k, k < e.2.1 → packPos e.1 k = e.2.2 * (if e.1 = .e2m1 then [0, 4, 1, 5, 2, 6, 3, 7].getD k 0 else k)) ∧
      ∀ l : List Word, l.length = e.2.1 → (packWord e.1 l).toNat < 2 ^ (e.2.1 * e.2.2) ∧
        ∀ k x, l[k]? = some x → (packWord e.1 l).toNat / 2 ^ packPos e.1 k % 2 ^ e.2.2 = x.toNat % 2 ^ e.2.2) ∧
  (∀ x : Word, (xsNext x).toNat =
    let a := x.toNat ^^^ (x.toNat * 2 ^ 13 % 2 ^ 32)
    let b := a ^^^ (a / 2 ^ 17)
    b ^^^ (b * 2 ^ 5 % 2 ^ 32)) ∧
  ∀ (s : State) (c : Cur) (w : Warp) (dst src : Ty) (d a : VReg), Issues s c w →
    let md := cvtField w.cvtmode dst
    let drawn (l k : Nat) := xsNext^[k] (w.lane l).xs
    let converts (i : Instr) (n : Nat) (f : (Nat → Nat) → Nat → Word) :=
      (takesDraw dst src md = false → WritesV i s c w d fun l => f (fun _ => 0) l) ∧
      (takesDraw dst src md = true → ∃ u : Warp, Lands i s c u ∧ u = { w with vregs := u.vregs, lanes := u.lanes } ∧ w.sameBelow u ∧
        ∀ l, l < w.lanes.length → l < 64 →
          (∀ m, u.v m l = if m = d.toNat ∧ c.lanes.getLsbD l = true then f (fun k => (drawn l (k + 1)).toNat) l else w.v m l) ∧
          u.lane l = if c.lanes.getLsbD l = true then { w.lane l with xs := drawn l n } else w.lane l)
    (w.free [d.toNat, a.toNat] → converts (.cvt dst src d a) 1 fun x l => convert dst src md (x 0) (w.v a.toNat l).toNat) ∧
    (w.free (d.toNat :: groupNames a (packCount dst)) → converts (.pack dst src d a) (packCount dst) fun x l =>
      packWord dst ((List.range (packCount dst)).map fun k => convert dst src md (x k) (w.v (a.toNat + k) l).toNat)) ∧
    (w.free (groupNames d (packCount src) ++ [a.toNat]) → ∃ u : Warp, Lands (.unpack dst src d a) s c u ∧
      u = { w with vregs := u.vregs } ∧ w.sameBelow u ∧ ∀ n l, l < 64 → u.v n l =
        if d.toNat ≤ n ∧ n < d.toNat + packCount src ∧ c.lanes.getLsbD l = true then
          convert dst src nearestMode 0 ((w.v a.toNat l).toNat / 2 ^ packPos src (n - d.toNat) % 2 ^ packBits src)
        else w.v n l)

/-- R315, R419, R422: values move between lanes; the source may be any lane of the warp, taken modulo the width, and a
slide past the edge keeps the register.
R333, R347: `compress` gives the k-th participant the value of the k-th selected one; `expand` gives the k-th selected
participant the value of the k-th one; every other register bit stays. -/
def Obligations.LaneMoves : Prop :=
  (∀ (s : State) (c : Cur) (w : Warp) (d a b : VReg) (k : BitVec 6), Issues s c w →
    w.free [d.toNat, a.toNat, b.toNat] →
    WritesV (.shfl d a b) s c w d (fun l => w.v a.toNat ((w.v b.toNat l).toNat % w.width)) ∧
    WritesV (.bcast d a k) s c w d (fun _ => w.v a.toNat (k.toNat % w.width)) ∧
    WritesV (.slup d a k) s c w d (fun l => if k.toNat ≤ l then w.v a.toNat (l - k.toNat) else w.v d.toNat l) ∧
    WritesV (.sldn d a k) s c w d (fun l =>
      if l + k.toNat < w.width then w.v a.toNat (l + k.toNat) else w.v d.toNat l)) ∧
  (∀ (s : State) (c : Cur) (w : Warp) (d a : VReg) (p : PReg), Issues s c w → w.free [d.toNat, a.toNat] →
    let chosen := c.lanes &&& w.p p
    (∃ u : Warp, Lands (.compress d a p) s c u ∧ u = { w with vregs := u.vregs } ∧ w.sameBelow u ∧
      (∀ i j, i < 64 → j < 64 → c.lanes.getLsbD i = true → chosen.getLsbD j = true → rankIn c.lanes i = rankIn chosen j →
        u.v d.toNat i = w.v a.toNat j) ∧
      ∀ n i, i < 64 → (n ≠ d.toNat ∨ c.lanes.getLsbD i = false ∨ laneCount chosen ≤ rankIn c.lanes i) → u.v n i = w.v n i) ∧
    ∃ u : Warp, Lands (.expand d a p) s c u ∧ u = { w with vregs := u.vregs } ∧ w.sameBelow u ∧
      (∀ i j, i < 64 → j < 64 → chosen.getLsbD i = true → c.lanes.getLsbD j = true → rankIn chosen i = rankIn c.lanes j →
        u.v d.toNat i = w.v a.toNat j) ∧
      ∀ n i, i < 64 → (n ≠ d.toNat ∨ chosen.getLsbD i = false) → u.v n i = w.v n i)

/-- R411, R416, R228: reductions give every participant the combination of all participants' values in increasing lane
order, scans the combination up to and including its own; an empty group writes nothing. -/
def Obligations.ReduceAndScan : Prop :=
  ∀ (s : State) (c : Cur) (w : Warp) (d a : VReg), Issues s c w → w.free [d.toNat, a.toNat] →
    let values (p : Nat → Bool) := ((lanesOf c.lanes).filter p).map fun i => w.v a.toNat i
    let fold (f : Word → Word → Word) (l : List Word) := l.tail.foldl f (l.headD 0)
    let reduces (i : Instr) (f : Word → Word → Word) := WritesV i s c w d fun _ => fold f (values fun _ => true)
    let scans (i : Instr) (f : Word → Word → Word) := WritesV i s c w d fun l => fold f (values fun j => decide (j ≤ l))
    let addF (x y : Word) := BitVec.ofNat 32 (Fmt.f32.rne ((Fmt.f32.value x.toNat).add (Fmt.f32.value y.toNat)))
    reduces (.reduceAddI32 d a) (fun x y => x + y) ∧ reduces (.reduceAddF32 d a) addF ∧
    reduces (.reduceMinI32 d a) (fun x y => BitVec.ofInt 32 (min x.toInt y.toInt)) ∧
    reduces (.reduceMaxI32 d a) (fun x y => BitVec.ofInt 32 (max x.toInt y.toInt)) ∧
    reduces (.reduceMinF32 d a) (fun x y => BitVec.ofNat 32 (fPick .f32 false x.toNat y.toNat)) ∧
    reduces (.reduceMaxF32 d a) (fun x y => BitVec.ofNat 32 (fPick .f32 true x.toNat y.toNat)) ∧
    scans (.scanAddI32 d a) (fun x y => x + y) ∧ scans (.scanAddF32 d a) addF ∧
    scans (.scanMinI32 d a) (fun x y => BitVec.ofInt 32 (min x.toInt y.toInt)) ∧
    scans (.scanMaxI32 d a) (fun x y => BitVec.ofInt 32 (max x.toInt y.toInt))

/-- R228, R384, R436: `match` compares a participant's value with those of the participants, `vote` combines their
predicate bits; lanes that take no part count for nothing. -/
def Obligations.MatchAndVote : Prop :=
  ∀ (s : State) (c : Cur) (w : Warp), Issues s c w →
    (∀ d a : VReg, w.free [d.toNat, a.toNat] →
      let same (l : Nat) := (lanesOf c.lanes).filter fun j => w.v a.toNat j == w.v a.toNat l
      WritesV (.matchRank d a) s c w d (fun l => BitVec.ofNat 32 ((same l).filter fun j => decide (j < l)).length) ∧
      WritesV (.matchCnt d a) s c w d (fun l => BitVec.ofNat 32 (same l).length)) ∧
    (∀ (p : PReg) (a : VReg), w.free [a.toNat] → WritesP (.matchLead p a) s c w p fun l =>
      ∀ j, j < l → c.lanes.getLsbD j = true → w.v a.toNat j ≠ w.v a.toNat l) ∧
    ∀ p a : PReg,
      WritesP (.voteAny p a) s c w p (fun _ => ∃ j, c.lanes.getLsbD j = true ∧ (w.p a).getLsbD j = true) ∧
      WritesP (.voteAll p a) s c w p (fun _ => ∀ j, c.lanes.getLsbD j = true → (w.p a).getLsbD j = true) ∧
      ∀ d : SReg, WritesS (.voteBallot d a) s c w d (w.p a &&& c.lanes)

/-- R403, R404, R405, R343: the predicate members and `elect`, which user mode alone may execute. -/
def Obligations.PredicateMembers : Prop :=
  ∀ (s : State) (c : Cur) (w : Warp) (d a b : PReg) (r : SReg), Issues s c w →
    let bit (q : PReg) (l : Nat) := (w.p q).getLsbD l = true
    WritesP (.plog .and d a b) s c w d (fun l => bit a l ∧ bit b l) ∧
    WritesP (.plog .or d a b) s c w d (fun l => bit a l ∨ bit b l) ∧
    WritesP (.plog .xor d a b) s c w d (fun l => ¬(bit a l ↔ bit b l)) ∧
    WritesP (.plog .andn d a b) s c w d (fun l => bit a l ∧ ¬bit b l) ∧
    WritesP (.pmovPFromS d r) s c w d (fun l => (w.s r).getLsbD l = true) ∧
    WritesS (.pmovSFromP r a) s c w r (w.p a) ∧
    WritesS (.pcnt r a) s c w r (BitVec.ofNat 64
      (Finset.univ.filter fun k : Fin 64 => c.lanes.getLsbD k = true ∧ bit a k).card) ∧
    (w.priv = false → WritesP (.elect d) s c w d fun l => ∀ j, j < l → c.lanes.getLsbD j = false)

/-! ### Memory -/

/-- R121, R378, R425: `ld` and `st` of the gang's local memory. The bytes are little-endian; a load's registers take their
values when it lands, a store's bytes stand there at once, the highest lane's where lanes overlap; every other byte of
local memory, and all of global memory, stays. A write may empty operand latches (09 R202). R72, R378: the bytes of each type, and
the registers that they give: i8 and i16 sign-extended, every narrower type else zero-extended, wider ones word by word. -/
def Obligations.LocalLoadStore : Prop :=
  (∀ e ∈ [(Ty.b8, 1), (.i8, 1), (.n8, 1), (.b16, 2), (.i16, 2), (.n16, 2), (.f16, 2), (.bf16, 2), (.b32, 4), (.i32, 4), (.n32, 4),
      (.f32, 4), (.f16x2, 4), (.bf16x2, 4), (.b64, 8), (.i64, 8), (.n64, 8), (.b128, 16)],
    tyBytes e.1 = e.2 ∧ e.1.isRegType = true ∧ e.1.regs = (e.2 + 3) / 4 ∧ ∀ l : List Byte, l.length = e.2 →
      let x := leNat l
      (loadWords e.1 l).length = e.1.regs ∧ ∀ k y, (loadWords e.1 l)[k]? = some y → (y.toNat : ℤ) =
        if (e.1 = .i8 ∨ e.1 = .i16) ∧ 2 ^ (8 * e.2 - 1) ≤ x then (x : ℤ) - 2 ^ (8 * e.2) + 2 ^ 32 else ((x / 2 ^ (32 * k) % 2 ^ 32 : ℕ) : ℤ)) ∧
  ∀ (s : State) (c : Cur) (w : Warp) (t : Ty) (d : VReg) (a : SReg) (b : VReg) (e : MemExt), Issues s c w →
    w.free (groupNames d t.regs ++ offsetNames b) → w.mayAccess c.lanes → e.inLocal = true → t.isRegType = true →
    let n := tyBytes t
    let at_ (i : Nat) := (w.addr a b e n i).toNat
    s.localFault w n (w.addrs c.lanes a b e n) = none →
    (w.loads.length < 31 → ∃ (v : State) (u : Warp) (l : LoadOp), Ends (.ld t d a b (some e)) s c v ∧
      v = { s with warps := v.warps, nextId := s.nextId + 1 } ∧ v.warp c.warp = some u ∧
      u = { w with loads := w.loads ++ [l] } ∧ l.waiting = [] ∧
      l.dests = (List.range t.regs).map (fun k => w.allocated (d.toNat + k)) ∧
      w.sameBelow (u.land l) ∧ ∀ m i, i < 64 → (u.land l).v m i =
        if d.toNat ≤ m ∧ m < d.toNat + t.regs ∧ c.lanes.getLsbD i = true then
          (loadWords t (s.localBytes w.gang (at_ i) n)).getD (m - d.toNat) 0
        else w.v m i) ∧
    (w.storesFull = false → ∃ v : State, Ends (.st t d a b (some e)) s c v ∧ v = { s with lmem := v.lmem, cores := v.cores } ∧ s.onlyLatches v ∧
      (∀ i k, i < 64 → k < n → c.lanes.getLsbD i = true →
        (∀ j, i < j → c.lanes.getLsbD j = true → at_ i + k < at_ j ∨ at_ j + n ≤ at_ i + k) →
        v.localByte w.gang (at_ i + k) = BitVec.ofNat 8 ((w.v (d.toNat + k / 4) i).toNat / 256 ^ (k % 4))) ∧
      ∀ g o, (∀ i, c.lanes.getLsbD i = true → localKey g o < localKey w.gang (at_ i) ∨
        localKey w.gang (at_ i + n) ≤ localKey g o) → v.localByte g o = s.localByte g o)

/-- R121, R312, R327, R409: atomics of local memory in lanes that name different words: each word takes its lane's operation
and, but for `red`, the lane's registers take the old value when the operation lands; every other byte stays.
R222: the operations of `atom` and `red`, in the operand's width; the word's upper bits read as zero at 32 bits. -/
def Obligations.LocalAtomics : Prop :=
  (∀ (s : State) (c : Cur) (w : Warp) (d : VReg) (a : SReg) (b : VReg) (e : MemExt), Issues s c w →
    w.mayAccess c.lanes → e.inLocal = true →
    let does (i : Instr) (names : Nat) (wide back : Bool) (f : Nat → Xword → Xword) :=
      let n := if wide then 8 else 4
      let at_ (l : Nat) := (w.addr a b e n l).toNat
      let old (l : Nat) : Xword := BitVec.ofNat 64 (leNat (s.localBytes w.gang (at_ l) n))
      w.free (groupNames d names ++ offsetNames b) → s.localFault w n (w.addrs c.lanes a b e n) = none →
      w.loads.length < 31 → w.storesFull = false →
      (∀ l m, c.lanes.getLsbD l = true → c.lanes.getLsbD m = true → l ≠ m → at_ l ≠ at_ m) →
      ∃ v u, Ends i s c v ∧ v = { s with warps := v.warps, nextId := v.nextId, lmem := v.lmem, cores := v.cores } ∧
        s.onlyLatches v ∧ v.warp c.warp = some u ∧
        (∀ l k, l < 64 → k < n → c.lanes.getLsbD l = true →
          v.localByte w.gang (at_ l + k) = BitVec.ofNat 8 ((f l (old l)).toNat / 256 ^ k)) ∧
        (∀ g o, (∀ l, c.lanes.getLsbD l = true → localKey g o < localKey w.gang (at_ l) ∨
          localKey w.gang (at_ l + n) ≤ localKey g o) → v.localByte g o = s.localByte g o) ∧
        if back then ∃ r : LoadOp, u = { w with loads := w.loads ++ [r] } ∧ r.waiting = [] ∧ w.sameBelow (u.land r) ∧
          ∀ m l, l < 64 → (u.land r).v m l =
            if m = d.toNat ∧ c.lanes.getLsbD l = true then (old l).setWidth 32
            else if wide = true ∧ m = d.toNat + 1 ∧ c.lanes.getLsbD l = true then (old l >>> 32).setWidth 32
            else w.v m l
        else u = w
    let value (wide : Bool) (r l : Nat) : Xword := if wide then w.v (r + 1) l ++ w.v r l else (w.v r l).setWidth 64
    (∀ op : AtomOp, does (.atom op d a b (some e)) op.regs op.wide true fun l x => atomApply op x (value op.wide d.toNat l)) ∧
    (∀ op : AtomOp, does (.red op d a b (some e)) op.regs op.wide false fun l x => atomApply op x (value op.wide d.toNat l)) ∧
    ∀ wide, does (.cas wide d a b (some e)) (if wide then 4 else 2) wide true fun l x =>
      if x = value wide d.toNat l then value wide (d.toNat + if wide then 2 else 1) l else x) ∧
  (∀ (x y : Xword),
    let p : Word := x.setWidth 32
    let q : Word := y.setWidth 32
    let narrow (op : AtomOp) (v : Int) := atomApply op x y = BitVec.ofNat 64 (v.emod (2 ^ 32)).toNat
    narrow .addB32 (p.toNat + q.toNat) ∧ narrow .minI32 (min p.toInt q.toInt) ∧ narrow .minN32 (min p.toNat q.toNat : Nat) ∧
    narrow .maxI32 (max p.toInt q.toInt) ∧ narrow .maxN32 (max p.toNat q.toNat : Nat) ∧
    narrow .andB32 (p &&& q).toNat ∧ narrow .orB32 (p ||| q).toNat ∧ narrow .xorB32 (p ^^^ q).toNat ∧
    narrow .exchB32 q.toNat ∧ narrow .incN32 (if q.toNat ≤ p.toNat then 0 else p.toNat + 1) ∧
    narrow .addF32 (Fmt.f32.rne ((Fmt.f32.value p.toNat).add (Fmt.f32.value q.toNat))) ∧
    narrow .minF32 (fPick .f32 false p.toNat q.toNat) ∧ narrow .maxF32 (fPick .f32 true p.toNat q.toNat) ∧
    narrow .addBf16x2
      (Fmt.bf16.rne ((Fmt.bf16.value (half p 0)).add (Fmt.bf16.value (half q 0))) +
        2 ^ 16 * Fmt.bf16.rne ((Fmt.bf16.value (half p 1)).add (Fmt.bf16.value (half q 1))) : Nat) ∧
    atomApply .addB64 x y = x + y ∧ atomApply .exchB64 x y = y ∧
    atomApply .minI64 x y = BitVec.ofInt 64 (min x.toInt y.toInt) ∧ atomApply .maxN64 x y = BitVec.ofNat 64 (max x.toNat y.toNat))

/-- R125, R378, R425, R150: one lane's `ld` and `st` in its die's own memory. A load takes the bytes of the L1, or, where the L1
lacks one, of the home with the core's own written bytes over them. A plain store puts its bytes into the core's view alone.
Neither changes a byte of memory, but for lines that a full L1 has evicted. A release of a core with nothing written back puts
exactly its bytes there. -/
def Obligations.GlobalLoadStore : Prop :=
  ∀ (s : State) (c : Cur) (w : Warp) (t : Ty) (d : VReg) (a : SReg) (b : VReg) (ext : Option MemExt) (i : Nat) (v : State)
    (p : Place), Issues s c w → w.free (groupNames d t.regs ++ offsetNames b) → w.mayAccess c.lanes →
    t.isRegType = true → (extOf ext).inLocal = false →
    let n := tyBytes t
    let va := w.addr a b (extOf ext) n i
    let ck := w.coreK
    let stored (k : Nat) : Byte := BitVec.ofNat 8 ((w.v (d.toNat + k / 4) i).toNat / 256 ^ (k % 4))
    let lines := (v.core ck).l1Lines
    let stays (x : Nat) : Prop := lineOf x ∉ lines ∨ lineOf x = lineOf p.pa ∨ lineOf p.pa ∈ lines ∨ lines.length < 1024
    (Reaches s c w .load n i (tyFormatted t) va v p → w.loads.length < 31 → acquireOf (extOf ext) = none →
      ∃ (r : State) (u : Warp) (l : LoadOp), Ends (.ld t d a b ext) s c r ∧ (∀ x, stays x → r.byte x = s.byte x) ∧
        r.warp c.warp = some u ∧ ({ w with loads := w.loads ++ [l] } : Warp).sameButLatch u ∧ l.waiting = [] ∧
        w.sameBelow (u.land l) ∧ ∀ m j, j < 64 → (u.land l).v m j =
          if d.toNat ≤ m ∧ m < d.toNat + t.regs ∧ j = i then
            (loadWords t (if v.l1Has ck p.pa n then v.l1Bytes ck p.pa n else v.view ck p.pa n)).getD (m - d.toNat) 0
          else w.v m j) ∧
    (Reaches s c w .store n i (tyFormatted t) va v p → w.storesFull = false → w.releaseScope c.lanes (releaseOf (extOf ext)) = 0 →
      ∃ (r : State) (u : Warp), Ends (.st t d a b ext) s c r ∧ r.warp c.warp = some u ∧ w.sameButLatch u ∧
        (∀ x, stays x → r.byte x = s.byte x) ∧ ∀ x, stays x → r.viewByte ck x =
        if p.pa ≤ x ∧ x < p.pa + n then stored (x - p.pa) else v.viewByte ck x) ∧
    (Reaches s c w .store n i (tyFormatted t) va v p → w.storesFull = false → w.releaseScope c.lanes (releaseOf (extOf ext)) ≠ 0 →
      (v.core ck).holdsDirty = false → ∃ (r : State) (u : Warp), Ends (.st t d a b ext) s c r ∧ r.warp c.warp = some u ∧
        w.sameButLatch u ∧ ∀ x, r.byte x =
        if p.pa ≤ x ∧ x < p.pa + n then stored (x - p.pa) else s.byte x)

/-- R154, R312, R327, R409: one lane's atomic in its die's own memory, from a core that holds nothing written back and with no
pending signal: the word takes the operation's value, `atom` and `cas` bring the old value to their registers, and no
other byte of memory changes; a `red` that the core may hold changes no byte of memory. -/
def Obligations.GlobalAtomics : Prop :=
  ∀ (s : State) (c : Cur) (w : Warp) (d : VReg) (a : SReg) (b : VReg) (ext : Option MemExt) (i : Nat) (v : State) (p : Place),
    Issues s c w → w.mayAccess c.lanes → (extOf ext).inLocal = false →
    w.loads.length < 31 → w.storesFull = false → (v.core w.coreK).holdsDirty = false → (v.die w.die).pending = [] →
    let value (wide : Bool) (r : Nat) : Xword := if wide then w.v (r + 1) i ++ w.v r i else (w.v r i).setWidth 64
    let does (j : Instr) (names : Nat) (wide back : Bool) (want : Want) (f : Xword → Xword) :=
      let n := if wide then 8 else 4
      let old : Xword := BitVec.ofNat 64 (s.num p.pa n)
      w.free (groupNames d names ++ offsetNames b) → Reaches s c w want n i false (w.addr a b (extOf ext) n i) v p →
      ∃ (r : State) (u : Warp), Ends j s c r ∧ r.warp c.warp = some u ∧
        (∀ x, r.byte x = if p.pa ≤ x ∧ x < p.pa + n then BitVec.ofNat 8 ((f old).toNat / 256 ^ (x - p.pa)) else s.byte x) ∧
        if back then ∃ l : LoadOp, ({ w with loads := w.loads ++ [l] } : Warp).sameButLatch u ∧ l.waiting = [] ∧ w.sameBelow (u.land l) ∧
          ∀ m k, k < 64 → (u.land l).v m k =
          if m = d.toNat ∧ k = i then old.setWidth 32
          else if wide = true ∧ m = d.toNat + 1 ∧ k = i then (old >>> 32).setWidth 32
          else w.v m k
        else w.sameButLatch u
    (∀ op : AtomOp, does (.atom op d a b ext) op.regs op.wide true .atomic fun x => atomApply op x (value op.wide d.toNat)) ∧
    (∀ wide, does (.cas wide d a b ext) (if wide then 4 else 2) wide true .atomic fun x =>
      if x = value wide d.toNat then value wide (d.toNat + if wide then 2 else 1) else x) ∧
    ∀ op : AtomOp,
      let released := decide (w.releaseScope c.lanes (releaseOf (extOf ext)) ≠ 0)
      (v.redHeld op released p = false →
        does (.red op d a b ext) op.regs op.wide false .reduce fun x => atomApply op x (value op.wide d.toNat)) ∧
      (v.redHeld op released p = true → w.free (groupNames d op.regs ++ offsetNames b) →
        Reaches s c w .reduce (atomBytes op) i false (w.addr a b (extOf ext) (atomBytes op) i) v p →
        ∃ (r : State) (u : Warp), Ends (.red op d a b ext) s c r ∧ r.warp c.warp = some u ∧ w.sameButLatch u ∧
          ∀ x, r.byte x = s.byte x)

/-- R379, R409, R425, R312, R327, R128: in every window, page format, order and scope, an access of a whole group completes
once its checks have passed, its counters have room and its packets may be injected; the cache operations need no
check. -/
def Obligations.GlobalAccessesComplete : Prop :=
  ∀ (s : State) (c : Cur) (w : Warp) (d : VReg) (a : SReg) (b : VReg) (ext : Option MemExt), Issues s c w →
    w.mayAccess c.lanes → w.loads.length < 31 → w.storesFull = false → s.mayPay w → w.free (offsetNames b) →
    let ends (i : Instr) := ∃ v, Ends i s c v
    let placed (want : Want) (n : Nat) (fmtOk : Bool) (k : List Place → Prop) := (extOf ext).inLocal = false ∧
      ∃ v ps, s.place w want n fmtOk (w.addrs c.lanes a b (extOf ext) n) = .go v ps ∧ k ps
    (∀ t : Ty, w.free (groupNames d t.regs) →
      (placed .load (tyBytes t) (tyFormatted t) (fun _ => True) → ends (.ld t d a b ext)) ∧
      (placed .store (tyBytes t) (tyFormatted t) (fun _ => True) → ends (.st t d a b ext))) ∧
    (∀ op : AtomOp, w.free (groupNames d op.regs) →
      (placed .atomic (if op.wide then 8 else 4) false (fun _ => True) → ends (.atom op d a b ext)) ∧
      (placed .reduce (atomBytes op) false (fun _ => True) → ends (.red op d a b ext))) ∧
    (∀ wide, w.free (groupNames d (if wide then 4 else 2)) → placed .atomic (if wide then 8 else 4) false (fun _ => True) →
      ends (.cas wide d a b ext)) ∧
    ends (.pref a b ext) ∧ ends (.keep a b ext) ∧ ends (.cinv a b ext) ∧ ends (.cwb a b ext)

/-- R121, R132, R133: an access of local memory performs nothing and traps for its lowest failing lane: PROT kind 2 outside
the region, then ALIGN with the address; a global access traps with XLATE: kind 2 in the unused range, 0 for an absent
entry, 1 for a malformed one. -/
def Obligations.MemoryFaults : Prop :=
  ∀ (s : State) (c : Cur) (w : Warp) (d : VReg) (a : SReg) (b : VReg) (ext : Option MemExt), Issues s c w →
    w.mayAccess c.lanes → w.loads.length < 31 → w.storesFull = false → w.free (offsetNames b) →
    let traps (i : Instr) (names n : Nat) (want : Want) := w.free (groupNames d names) →
      let at_ (l : Nat) := w.addr a b (extOf ext) n l
      ((extOf ext).inLocal = true → ∀ l, l < 64 → c.lanes.getLsbD l = true →
        (∀ j, j < l → c.lanes.getLsbD j = true → (at_ j).toNat < s.regionBytes w.gang ∧ (at_ j).toNat % n = 0) →
        (s.regionBytes w.gang ≤ (at_ l).toNat →
          Traps i s c false 0x06 (BitVec.ofNat 64 (2 * 2 ^ 60 + (at_ l).toNat % 2 ^ 57))) ∧
        ((at_ l).toNat < s.regionBytes w.gang → (at_ l).toNat % n ≠ 0 → Traps i s c false 0x04 (at_ l))) ∧
      ((extOf ext).inLocal = false → ∀ l, l < 64 → c.lanes = laneBit l →
        let va := (at_ l).toNat
        (2 ^ 56 + 2 ^ 55 ≤ va → Traps i s c false 0x05 (BitVec.ofNat 64 (2 * 2 ^ 60 + va % 2 ^ 57))) ∧
        ((va < 2 ^ 55 ∨ (want ≠ .atomic ∧ va < 2 ^ 56 + 2 ^ 55)) →
          (s.translate w.coreK w.asid va = (s, .absent) → Traps i s c false 0x05 (BitVec.ofNat 64 va)) ∧
          (s.translate w.coreK w.asid va = (s, .malformed) → Traps i s c false 0x05 (BitVec.ofNat 64 (2 ^ 60 + va)))))
    (∀ t : Ty, t.isRegType = true → traps (.ld t d a b ext) t.regs (tyBytes t) .load ∧
      traps (.st t d a b ext) t.regs (tyBytes t) .store) ∧
    (∀ op : AtomOp, traps (.atom op d a b ext) op.regs (atomBytes op) .atomic ∧
      traps (.red op d a b ext) op.regs (atomBytes op) .reduce) ∧
    ∀ wide, traps (.cas wide d a b ext) (if wide then 4 else 2) (if wide then 8 else 4) .atomic

/-- R131: a translation that a core's TLB holds is that entry's and changes nothing; one that it lacks is taken from the die's TLB,
and the core's keeps it, else from a walk that finds a leaf, and both TLBs keep it; a walk that finds none changes nothing.
Translating changes no byte of memory. R129, R130, R118: a walk goes from the context's PTBASE through at most five tables, by these bits of
the address; what an entry of each level answers. -/
def Obligations.Translation : Prop :=
  (∀ (s : State) (die asid va fuel table : Nat),
    s.walk die asid va = s.walkFrom die asid va 5 0 (s.ctx (ctxKey die asid)).ptbase.toNat ∧
    ∀ e ∈ [(0, 44, 13), (1, 32, 12), (2, 29, 3), (3, 21, 8), (4, 16, 5)],
      let level := e.1
      let page := 2 ^ e.2.1
      let at_ := table + 16 * (va / page % 2 ^ e.2.2)
      let answer := s.walkFrom die asid va (fuel + 1) level table
      let w0 := s.num at_ 8
      let w1 := s.num (at_ + 8) 8
      let addr := w0 / 2 ^ 7 % 2 ^ 45 * 2 ^ 7
      let leaf := w0.testBit 1 = true
      let fmt := w1 % 2 ^ 4
      let geom := w1 / 2 ^ 4 % 2 ^ 2
      let side := w1 / 2 ^ 8 % 2 ^ 44 * 2 ^ 8
      let owner := addr / 2 ^ 48
      let owned := (va < 2 ^ 55 ∧ owner = die) ∨ (2 ^ 55 ≤ va ∧ va < 2 ^ 55 + 2 ^ 54 ∧ owner < 8 ∧ owner ≠ die) ∨
        (2 ^ 55 + 2 ^ 54 ≤ va ∧ va < 2 ^ 56 ∧ owner < 8) ∨ (2 ^ 56 ≤ va ∧ va < 2 ^ 56 + 2 ^ 55 ∧ owner = 8)
      let next := 16 * 2 ^ ([12, 3, 8, 5].getD level 0)
      let bad := w0.testBit 6 = true ∨ w0 / 2 ^ 52 % 2 ^ 12 ≠ 0 ∨
        (leaf ∧ (level = 0 ∨ addr % page ≠ 0 ∨ ¬owned ∨ w1 / 2 ^ 6 % 2 ^ 2 ≠ 0 ∨ w1 / 2 ^ 52 % 2 ^ 12 ≠ 0 ∨
          ¬((fmt ≤ 2 ∧ geom = 0) ∨ (3 ≤ fmt ∧ fmt ≤ 8 ∧ geom = 1)) ∨
          (geom = 1 ∧ (side = 0 ∨ side / 2 ^ 48 ≠ owner ∨ memoryExists side (sideBytes fmt level) = false)))) ∨
        (¬leaf ∧ (level = 4 ∨ w1 ≠ 0 ∨ addr % next ≠ 0))
      (memoryExists at_ 16 = false → answer = .hole at_) ∧
      (memoryExists at_ 16 = true →
        (w0 % 2 = 0 → answer = if w0.testBit 4 = true then .replay else .absent) ∧
        (w0 % 2 = 1 → bad → answer = .malformed) ∧
        (w0 % 2 = 1 → ¬bad → ¬leaf → answer = s.walkFrom die asid va fuel (level + 1) addr) ∧
        (w0 % 2 = 1 → ¬bad → leaf → answer = .leaf
          { asid := asid, va := va / page * page, level := level, pa := addr, canWrite := w0.testBit 2, canFetch := w0.testBit 3,
            exported := w0.testBit 5, fmt := fmt, side := side }))) ∧
  ∀ (s : State) (ck asid va : Nat),
    (∀ x, (s.translate ck asid va).1.byte x = s.byte x) ∧
    (∀ l, (s.core ck).tlb.find? (fun l => l.covers asid va) = some l → s.translate ck asid va = (s, .leaf l)) ∧
    (∀ l, (s.core ck).tlb.find? (fun l => l.covers asid va) = none →
      (s.die (ck / 32)).tlb.find? (fun l => l.covers asid va) = some l → ∃ t : State, s.translate ck asid va = (t, .leaf l) ∧
        t = { s with cores := t.cores } ∧ l ∈ (t.core ck).tlb ∧ ∀ k, k ≠ ck → t.core k = s.core k) ∧
    ((s.core ck).tlb.find? (fun l => l.covers asid va) = none →
      (s.die (ck / 32)).tlb.find? (fun l => l.covers asid va) = none →
      (∀ l, s.walk (ck / 32) asid va = .leaf l → (s.translate ck asid va).2 = .leaf l ∧
        l ∈ ((s.translate ck asid va).1.core ck).tlb ∧ l ∈ ((s.translate ck asid va).1.die (ck / 32)).tlb) ∧
      ((∀ l, s.walk (ck / 32) asid va ≠ .leaf l) → s.translate ck asid va = (s, s.walk (ck / 32) asid va)))

/-- R378, R379, R149, R157, R218: when the data of a load have come, its registers are written and it leaves the load
counter; an acquire at gang scope or wider then drops what the core has not written, and pulls what pending sets hold.
A performed store leaves its counter, and
a polling `waitc` looks again. -/
def Obligations.CompletionsOfAccesses : Prop :=
  (∀ (s : State) (k : Nat) (w : Warp) (l : LoadOp), s.warp k = some w → l ∈ w.loads → l.waiting = [] → l.lost = none →
    (∀ m ∈ w.loads, m.id = l.id → m = l) → ∃ (t : State) (u : Warp), exec (.loadReturn k l.id) s = .next t ∧ t.warp k = some u ∧
      u.loads = w.loads.filter (fun m => m.id ≠ l.id) ∧
      (∀ key, mget 0 u.vregs key =
        ((l.ready.reverse.find? fun r => 64 * r.reg + r.lane == key).map LoadReg.value).getD (mget 0 w.vregs key)) ∧
      (∀ sc, l.acquire.map Prod.snd = some sc → sc ≠ .wg → ∀ e ∈ (t.core w.coreK).l1, e.2.valid = e.2.dirty) ∧
      (((∀ sc, l.acquire.map Prod.snd = some sc → sc = .wg) ∨ s.noPending) → ∀ x, t.byte x = s.byte x)) ∧
  (∀ (s : State) (k : Nat) (w : Warp) (o : StoreOp), s.warp k = some w → o ∈ w.stores → o.isDone = true →
    ∃ (t : State) (u : Warp), exec (.storePerformed k o.id) s = .next t ∧ t.warp k = some u ∧
      u.stores = w.stores.filter (fun q => q.id ≠ o.id) ∧ ∀ x, t.byte x = s.byte x) ∧
  ∀ (s : State) (k : Nat) (w : Warp) (pa : Nat), s.warp k = some w → w.stop = .monitor pa true →
    ∃ t, exec (.waitcPoll k) s = .next t ∧ t.warp k = some { w with stop := .running }

/-! ### Ordering and waiting -/

/-- R151, R355: `fence`: with a release it waits for the commands of the masked kinds, then marks its lanes; with an acquire
and no outstanding load, an acquire at gang scope or wider takes hold in the core at once.
R439, R157: `waitn` completes when each counter is at or below its threshold, where loads whose data have come may land
first; thresholds of 31 never wait; else the warp stops and issues again. That the launch path has nothing under way (log 54), and that an
acquire pulls every pending set (log 12), are the model's choices. -/
def Obligations.Fence : Prop :=
  (∀ (s : State) (c : Cur) (w : Warp) (mask : BitVec 4) (sc : Scope), Issues s c w →
    (s.enginesBusy c.warp w mask = true → Waits (.fence .rel mask sc) s c .engine ∧ Waits (.fence .acqrel mask sc) s c .engine) ∧
    (s.enginesBusy c.warp w mask = false → ∃ u : Warp, Lands (.fence .rel mask sc) s c u ∧ u = { w with lanes := u.lanes } ∧
      ∀ l, l < w.lanes.length → l < 64 → u.lane l = if c.lanes.getLsbD l = true then
        { w.lane l with relFence := some (match (w.lane l).relFence with
          | none => sc
          | some x => if scopeCode x < scopeCode sc then sc else x) }
        else w.lane l) ∧
    (w.loads = [] → s.noPending → ∃ t, Ends (.fence .acq mask sc) s c t ∧ (∀ x, t.byte x = s.byte x) ∧
      (sc ≠ .wg → ∀ e ∈ (t.core w.coreK).l1, e.2.valid = e.2.dirty) ∧ (sc = .wg → t = s)) ∧
    (∃ t, Ends (.fence .acq mask sc) s c t) ∧
    (s.enginesBusy c.warp w mask = false → ∃ t, Ends (.fence .acqrel mask sc) s c t)) ∧
  (∀ (s : State) (c : Cur) (w : Warp) (ld st cp mx : BitVec 5), Issues s c w → w.priv = false →
    (∀ l ∈ w.loads, l.lost = none) →
    let others := w.stores.length ≤ st.toNat ∧ w.copies ≤ cp.toNat ∧ w.matrix ≤ mx.toNat
    let here := (w.loads.filter fun l => l.waiting.isEmpty).length
    (w.loads.length ≤ ld.toNat → others → Ends (.waitn ld st cp mx) s c s) ∧
    (w.loads.length ≤ ld.toNat + here → others → ∃ t, Ends (.waitn ld st cp mx) s c t ∧
      (((∀ l ∈ w.loads, l.acquire = none) ∨ s.noPending) → ∀ x, t.byte x = s.byte x)) ∧
    (¬(w.loads.length ≤ ld.toNat + here ∧ others) →
      Waits (.waitn ld st cp mx) s c (.waitn ld.toNat st.toNat cp.toNat mx.toNat)))

/-- R437, R160, R141: `waitc` completes at once when its condition holds at the location's home, with the observed value; with
a latched value it completes with that; else its warp stops on a monitor. What the core has written to the line goes home
first, and no other byte of memory changes. -/
def Obligations.WaitCondition : Prop :=
  ∀ (s : State) (c : Cur) (w : Warp) (k : WaitCond) (wide : Bool) (d a b : SReg), Issues s c w → w.mayAccess c.lanes →
    let n := if wide then 8 else 4
    let holds (x : Nat) : Prop :=
      let y : Xword := BitVec.ofNat 64 x
      let low (v : Xword) : Word := v.setWidth 32
      match k with
      | .eq => if wide then y = w.s b else low y = low (w.s b)
      | .ne => if wide then y ≠ w.s b else low y ≠ low (w.s b)
      | .geN => if wide then (w.s b).toNat ≤ x else (low (w.s b)).toNat ≤ (low y).toNat
      | .gtN => if wide then (w.s b).toNat < x else (low (w.s b)).toNat < (low y).toNat
      | .geI => if wide then (w.s b).toInt ≤ y.toInt else (low (w.s b)).toInt ≤ (low y).toInt
      | .gtI => if wide then (w.s b).toInt < y.toInt else (low (w.s b)).toInt < (low y).toInt
    (∀ x, (if w.priv then w.supLatch else w.latch) = some x → ∃ (t : State) (u : Warp), Ends (.waitc k wide d a b) s c t ∧
      t.warp c.warp = some u ∧ u.sregs = (w.setS d x).sregs ∧ (if w.priv then u.supLatch else u.latch) = none) ∧
    ∀ (l : Nat) (v : State) (p : Place), (if w.priv then w.supLatch else w.latch) = none → c.lanes = laneBit l →
      Reaches s c w .wait n l false (w.s a) v p → v.noPending → (∀ e ∈ s.dies, e.2.monitors = []) → w.arming = none →
      let seen := leNat (v.view w.coreK p.pa n)
      let kept (t : State) : Prop := ∀ x, t.byte x = if lineOf x = lineOf p.pa then v.viewByte w.coreK x else s.byte x
      (holds seen → ∃ (t : State) (u : Warp), Ends (.waitc k wide d a b) s c t ∧ t.warp c.warp = some u ∧
        u.sregs = (w.setS d (BitVec.ofNat 64 seen)).sregs ∧ kept t) ∧
      (¬holds seen → ∃ (t : State) (u : Warp), exec (.waitc k wide d a b) s = .next t ∧ t.warp c.warp = some u ∧
        u.stop = .monitor p.pa false ∧ (∃ m ∈ (t.die w.die).monitors, m.waiter = .warp c.warp ∧ m.addr = p.pa) ∧ kept t)

/-! ### Barriers -/

/-- R210, R211, R314, R325: `barinit` makes an object of the live warps of the workgroups that a mask names; an arrival that
is not the last leaves its warp among the arrived, with the phase in d; the last one advances the phase; `bwait s0` reads the phase,
and a wait on a past phase completes. -/
def Obligations.BarrierPhases : Prop :=
  ∀ (s : State) (c : Cur) (w : Warp) (g : Gang) (o : BitVec 4), Issues s c w → w.priv = false →
    mfind s.gangs w.gang = some g →
    let b := s.barObj w.gang o.toNat
    (∀ d a : SReg, (w.s d).toNat ≠ 0 → (w.s d).toNat < 2 ^ g.members → (w.s d).toNat < 2 ^ 8 → b.arrived = 0 →
      let live := s.liveSlots w.gang (w.s d).toNat
      (w.s a = 0 ∨ (slotCount live ≤ (w.s a).toNat ∧ (w.s a).toNat ≤ 256)) →
      ∃ t : State, Ends (.barinit o d a) s c t ∧ t = { s with gangs := t.gangs } ∧ t.barObj w.gang o.toNat =
        { b with members := live, expected := if w.s a = 0 then slotCount live else (w.s a).toNat, ready := true, stuck := .no }) ∧
    (∀ d a : SReg, a = 0 → Lands (.bwait d o a) s c (w.setS d (b.phase.setWidth 64))) ∧
    (∀ d a : SReg, a ≠ 0 → (w.s a).toNat / 2 ^ 32 % 2 ^ 31 = 0 → b.past (w.s a) = true →
      ∃ (t : State) (u : Warp), Ends (.bwait d o a) s c t ∧ t.warp c.warp = some u ∧ u = w.setS d (b.phase.setWidth 64) ∧
        ∀ x, t.byte x = s.byte x) ∧
    (b.ready = true → b.members.getLsbD w.gangSlot = true → b.arrived.getLsbD w.gangSlot = false →
      (s.core w.coreK).holdsDirty = false → w.gangSlot < 256 → s.warpsAt w.gang w.gangSlot = [c.warp] → ∀ d : SReg,
      let arrived := b.arrived ||| BitVec.ofNat 256 (2 ^ w.gangSlot)
      (slotCount arrived < slotCount b.members → slotCount arrived < b.expected →
        ∃ t : State, Ends (.arrive d o) s c t ∧ (t.barObj w.gang o.toNat).arrived = arrived ∧
          (t.barObj w.gang o.toNat).phase = b.phase ∧ t.warp c.warp = some (w.setS d (b.phase.setWidth 64))) ∧
      (slotCount arrived = b.expected → b.expected ≠ 0 → ∃ t : State, Ends (.arrive d o) s c t ∧
        (t.barObj w.gang o.toNat).phase = b.phase + 1 ∧ (t.barObj w.gang o.toNat).arrived = 0 ∧
        (w.stop = .running → t.warp c.warp = some (w.setS d (b.phase.setWidth 64))))) ∧
    (b.ready = true → b.members.getLsbD w.gangSlot = true → b.arrived.getLsbD w.gangSlot = false →
      w.gangSlot < 256 → w.bsync = none → w.stop = .running → ∀ d : SReg,
      slotCount (b.arrived ||| BitVec.ofNat 256 (2 ^ w.gangSlot)) = b.expected → b.expected ≠ 0 →
        ∃ t : State, Ends (.bsync d o) s c t ∧ (t.barObj w.gang o.toNat).phase = b.phase + 1 ∧
          ∃ u, t.warp c.warp = some u ∧ u.s d = if d = 0 then 0 else b.phase.setWidth 64) ∧
    (b.ready = true → ∃ t, Ends (.bdrop o) s c t ∧
      (b.members.getLsbD w.gangSlot = true → b.expected ≤ slotCount b.members →
        (t.barObj w.gang o.toNat).members = b.members &&& ~~~(BitVec.ofNat 256 (2 ^ w.gangSlot))))

/-- R212, R215: a BAR instruction that fails a check has no effect and traps with BARUNR, whose detail holds the object, the
kind, the expected count and the number of members. -/
def Obligations.BarrierTraps : Prop :=
  ∀ (s : State) (c : Cur) (w : Warp) (o : BitVec 4) (d a : SReg), Issues s c w → w.priv = false →
    let b := s.barObj w.gang o.toNat
    let traps (i : Instr) (kind : Nat) := Traps i s c false 0x0A
      (BitVec.ofNat 64 (o.toNat + 2 ^ 4 * kind + 2 ^ 8 * b.expected + 2 ^ 17 * slotCount b.members))
    let mask := (w.s d).toNat
    let live := slotCount (s.liveSlots w.gang mask)
    (b.ready = false → traps (.arrive d o) 3 ∧ traps (.bdrop o) 3 ∧ (w.bsync = none → traps (.bsync d o) 3)) ∧
    (b.ready = true → b.members.getLsbD w.gangSlot = false → traps (.arrive d o) 2 ∧ (w.bsync = none → traps (.bsync d o) 2)) ∧
    (a ≠ 0 → (w.s a).toNat / 2 ^ 32 % 2 ^ 31 ≠ 0 → traps (.bwait d o a) 4) ∧
    ((mask = 0 ∨ 2 ^ 8 ≤ mask ∨ (∃ g, mfind s.gangs w.gang = some g ∧ 2 ^ g.members ≤ mask) ∨
      (w.s a ≠ 0 ∧ ((w.s a).toNat < live ∨ 256 < (w.s a).toNat))) → traps (.barinit o d a) 4) ∧
    (∀ g, mfind s.gangs w.gang = some g → mask ≠ 0 → mask < 2 ^ 8 → mask < 2 ^ g.members →
      (w.s a = 0 ∨ (live ≤ (w.s a).toNat ∧ (w.s a).toNat ≤ 256)) → b.arrived ≠ 0 → traps (.barinit o d a) 1)

/-! ### Control flow -/

/-- R57, R319, R322, R323, R326, R373, R414: the targets of branches, relative to the next instruction or in a register,
for the executing lanes; `call` and `jmp` with d link first, and touch no loop entry; `brp` takes the lanes whose
predicate bit, inverted or not, is set, while the others complete the instruction.
R27: what a branch does to the lanes and the loop stack: the taken lanes stand at the target; in user mode, entries whose
bodies do not contain it are popped when all lanes of the top body take it, else they lose those lanes; a branch changes no
register. -/
def Obligations.Branches : Prop :=
  (∀ (s : State) (c : Cur) (w : Warp), Issues s c w →
    let goes (i : Instr) (u : Warp) (t : Xword) := Moves i s c (s.setWarp c.warp (u.branchTo c.lanes t true))
    let links (i : Instr) (u : Warp) (t : Xword) :=
      Moves i s c (s.setWarp c.warp (u.onLanes c.lanes fun l => { l with pc := t }))
    (∀ off : BitVec 26, goes (.bra off) w (c.nextPc + BitVec.ofInt 64 (4 * off.toInt))) ∧
    (∀ (a : SReg) (off : BitVec 15),
      let x := (w.s a).toInt
      let tests (k : BrsCond) (r : Prop) :=
        (r → goes (.brs k a off) w (c.nextPc + BitVec.ofInt 64 (4 * off.toInt))) ∧ (¬r → Ends (.brs k a off) s c s)
      tests .z (x = 0) ∧ tests .nz (x ≠ 0) ∧ tests .lt (x < 0) ∧ tests .ge (0 ≤ x) ∧ tests .gt (0 < x) ∧ tests .le (x ≤ 0)) ∧
    (∀ off : BitVec 26, links (.call off) (w.setS 63 c.nextPc) (c.nextPc + BitVec.ofInt 64 (4 * off.toInt))) ∧
    (∀ d a : SReg,
      let t := w.s a
      (t.toNat % 4 ≠ 0 → Traps (.jmp d a) s c false 0x02 1 ∧ Traps (.ret a) s c false 0x02 1) ∧
      (t.toNat % 4 = 0 → goes (.ret a) w t ∧ (d = 0 → goes (.jmp d a) w t) ∧ (d ≠ 0 → links (.jmp d a) (w.setS d c.nextPc) t))) ∧
    ∀ (p : PReg) (inv : Bool) (off : BitVec 21), w.priv = false → ∃ taken : LaneSet,
      (∀ l, l < 64 → (taken.getLsbD l = true ↔ c.lanes.getLsbD l = true ∧ ((w.p p).getLsbD l = true ↔ inv = false))) ∧
      (taken = 0 → Ends (.brp p inv off) s c s) ∧
      (taken ≠ 0 → Moves (.brp p inv off) s c (s.setWarp c.warp
        ((w.finishAt (c.lanes &&& ~~~taken) c.pc c.nextPc).branchTo taken (c.nextPc + BitVec.ofInt 64 (4 * off.toInt)) true)))) ∧
  (∀ (w : Warp) (taken : LaneSet) (t : Xword),
    let u := w.branchTo taken t true
    u.vregs = w.vregs ∧ u.sregs = w.sregs ∧ u.pregs = w.pregs ∧ u.masks = w.masks ∧
    (∀ l, l < w.lanes.length → l < 64 → (u.lane l).pc = if taken.getLsbD l = true then t else (w.lane l).pc) ∧
    (w.priv = true → u.loops = w.loops) ∧ (w.loops = [] → u.loops = []) ∧
    (w.priv = false → ∀ e r, w.loops = e :: r →
      (e.inBody &&& ~~~taken = 0 → u.loops = w.loops.filter fun x => decide (x.start.toNat ≤ t.toNat) && decide (t.toNat ≤ x.stop.toNat)) ∧
      (e.inBody &&& ~~~taken ≠ 0 → e.start.toNat ≤ t.toNat → t.toNat ≤ e.stop.toNat → u.loops = w.loops) ∧
      (e.inBody &&& ~~~taken ≠ 0 → ¬(e.start.toNat ≤ t.toNat ∧ t.toNat ≤ e.stop.toNat) → ∃ f q, u.loops = f :: q ∧
        f.inBody = e.inBody &&& ~~~taken ∧ f.start = e.start ∧ f.stop = e.stop ∧ f.count = e.count)))

/-- R22, R23, R344, R402, R427: rejoin masks. `enrol` enrols the executing lanes at the target, or traps with JOIN kind 0 on a mask in
use; `park` stops enrolled lanes at the enrolled address, or traps with kind 1 elsewhere; when the last enrolled lane
arrives the mask is free and every waiting lane goes on; `strike` withdraws lanes. -/
def Obligations.RejoinMasks : Prop :=
  ∀ (s : State) (c : Cur) (w : Warp) (j : JMask), Issues s c w → w.priv = false →
    let m := w.mask j
    let mine := c.lanes &&& m.enrolled
    (∀ off : BitVec 21,
      (m.enrolled ≠ 0 → Traps (.enrol j off) s c false 0x09 (BitVec.ofNat 64 j.toNat)) ∧
      (m.enrolled = 0 → ∃ u : Warp, Lands (.enrol j off) s c u ∧ u = { w with masks := u.masks } ∧
        ∀ k, u.mask k = if k = j then
          { enrolled := c.lanes, arrived := 0, pc := c.nextPc + BitVec.ofInt 64 (4 * off.toInt) } else w.mask k)) ∧
    (mine ≠ 0 → c.pc ≠ m.pc → Traps (.park j) s c false 0x09 (BitVec.ofNat 64 (j.toNat + 2 ^ 3))) ∧
    ((mine = 0 ∨ c.pc = m.pc) → ∃ u : Warp, Moves (.park j) s c (s.setWarp c.warp u) ∧
      (m.enrolled ≠ 0 → m.arrived ||| mine ≠ m.enrolled →
        u.mask j = { m with arrived := m.arrived ||| mine } ∧
        ∀ l, l < w.lanes.length → l < 64 → mine.getLsbD l = true → (u.lane l).stat = .parked j) ∧
      (m.enrolled ≠ 0 → m.arrived ||| mine = m.enrolled → (u.mask j).enrolled = 0 ∧
        (w.loops = [] → ∀ l, l < w.lanes.length → l < 64 → m.enrolled.getLsbD l = true →
          (u.lane l).stat = .candidate ∧ (u.lane l).pc = m.pc + 4))) ∧
    ∃ u : Warp, Lands (.strike j) s c u ∧
      (m.enrolled &&& ~~~c.lanes ≠ 0 → m.arrived &&& ~~~c.lanes ≠ m.enrolled &&& ~~~c.lanes →
        u.mask j = { m with enrolled := m.enrolled &&& ~~~c.lanes, arrived := m.arrived &&& ~~~c.lanes }) ∧
      (m.enrolled &&& ~~~c.lanes = 0 ∨ m.arrived &&& ~~~c.lanes = m.enrolled &&& ~~~c.lanes → (u.mask j).enrolled = 0)

/-- R25, R28, R382: the loop stack. `loop` pushes an entry with the executing lanes in its body and holds the other
candidates; of a count of 0 its lanes go on after the body's final instruction, with nothing pushed; a fifth entry traps with
LSTK kind 0; `lexit` without an entry traps with kind 1. Else its lanes go to that same place; of all in-body lanes it pops the
entry and releases what that held, and of some of them they are held. The place is after the end word, or after the literal word that
belongs to it, as the words fetched there say; a replayable miss there stops the warp; a word that cannot be fetched otherwise is no
literal (log 15). -/
def Obligations.Loops : Prop :=
  ∀ (s : State) (c : Cur) (w : Warp), Issues s c w → w.priv = false →
    let goes (i : Instr) (stop : Xword) (lands : Xword → Warp → Prop) := ∀ v f, s.fetchInstr w.coreK w.asid stop.toNat = (v, f) →
      let at_ (pc : Xword) := ∃ u : Warp, Moves i s c (v.setWarp c.warp u) ∧ lands pc u
      (∀ x, f = .words x none → at_ (stop + 4)) ∧
      (∀ x y, f = .words x (some y) → at_ (if isLiteral y = true ∧ isLiteral x = false then stop + 8 else stop + 4)) ∧
      (∀ cause info, f = .bad (.trap cause info) → at_ (stop + 4)) ∧
      ∀ va, f = .bad (.miss va) → ∃ (t : State) (recorded : Bool), exec i s = .next t ∧
        t.warp c.warp = some { w with lastIssue := v.issues + 1, stop := .fault va recorded }
    (∀ (n : LoopCount) (off : BitVec 18),
      let count : BitVec 32 := match n with
        | .reg r => (w.s r).setWidth 32
        | .imm k => k.setWidth 32
      (count = 0 → goes (.loop n off) (c.nextPc + 4 * off.setWidth 64) fun pc u => u = { w with lanes := u.lanes } ∧
        ∀ l, l < w.lanes.length → l < 64 → u.lane l = if c.lanes.getLsbD l = true then { w.lane l with pc := pc } else w.lane l) ∧
      (count ≠ 0 → 4 ≤ w.loops.length → Traps (.loop n off) s c false 0x08 0) ∧
      (count ≠ 0 → w.loops.length < 4 → ∃ u : Warp, Moves (.loop n off) s c (s.setWarp c.warp u) ∧
        u.loops = { start := c.nextPc, stop := c.nextPc + 4 * off.setWidth 64, count := count, inBody := c.lanes,
                    held := c.cands &&& ~~~c.lanes } :: w.loops ∧
        ∀ l, l < w.lanes.length → l < 64 → (u.lane l).pc = if c.lanes.getLsbD l = true then c.nextPc else (w.lane l).pc)) ∧
    (w.loops = [] → Traps .lexit s c false 0x08 1) ∧
    ∀ e r, w.loops = e :: r → goes .lexit e.stop fun pc u =>
      let left := e.inBody &&& ~~~c.lanes
      u = { w with lanes := u.lanes, loops := if left = 0 then r else { e with inBody := left, held := e.held ||| c.lanes } :: r } ∧
      ∀ l, l < w.lanes.length → l < 64 →
        let x := w.lane l
        let gone := c.lanes.getLsbD l = true
        u.lane l = { x with pc := if gone then pc else x.pc, stat :=
          if left = 0 ∧ e.held.getLsbD l = true ∧ x.stat = .held then .candidate
          else if left ≠ 0 ∧ gone ∧ x.stat = .candidate then .held else x.stat }

/-- R29 to R31, R413: `rep` checks its target; then a sequence is in progress for its lanes, and no instruction has run yet
(log 1). A target that cannot be fetched reports the `rep` word (log 72), and one that is a literal word itself (R59). Each issue of
the word after that runs one repeat: the instruction whose register fields have grown by DONE steps, in a frame in which a trap
reports the `rep` word. -/
def Obligations.RepeatPrefix : Prop :=
  ∀ (n : BitVec 6) (sd sa sb : BitVec 2),
    (∀ (s : State) (c : Cur) (w : Warp), Issues s c w → w.priv = false → w.rep.busy = false →
      ∀ v f, s.fetchInstr w.coreK w.asid c.nextPc.toNat = (v, f) →
        (∀ cause info next, repCheck f n.toNat sd sa sb = some (cause, info, next) →
          exec (.rep n sd sa sb) s = .next (v.trapAt c false (if next then c.nextPc else c.trapPc) cause info)) ∧
        ∀ x y, f = .words x y → repCheck f n.toNat sd sa sb = none →
          Moves (.rep n sd sa sb) s c (v.setWarp c.warp
            { w with rep := { done := 0, busy := true, cnt := n.toNat, lanes := c.lanes } })) ∧
    ∀ (s : State) (k : Nat) (w : Warp) (pc : Xword) (lanes cands : LaneSet) (v r : State) (f : FetchedInstr) (x : Nat),
      w.priv = false → w.rep.busy = true → w.rep.done ≤ n.toNat →
      s.fetchInstr w.coreK w.asid pc.toNat = (v, f) → f.instr = .rep n sd sa sb →
      (v.onWarp k fun w => { w with rep := { w.rep with cnt := n.toNat } }).fetchInstr w.coreK w.asid (pc + 4).toNat =
        (r, .words x none) →
      repCheck (.words x none) n.toNat sd sa sb = none →
      s.issueGroup k w pc lanes cands =
        exec (FetchedInstr.words (x + w.rep.done * (repStep sd * 2 ^ (repShifts x).1 + repStep sa * 2 ^ (repShifts x).2.1 +
            repStep sb * 2 ^ (repShifts x).2.2)) none).instr
          { r with cur := some { warp := k, lanes := lanes, cands := cands, pc := pc + 4, trapPc := pc, nextPc := pc + 8,
                                 priv := false, inRep := true } }

/-- R398: `nop` does nothing but complete. R442: `yield` makes every candidate outside the group due at once. R39: `wbase`
moves the register window, or traps with WBASE when the window would pass the allocation. -/
def Obligations.NopYieldWbase : Prop :=
  ∀ (s : State) (c : Cur) (w : Warp), Issues s c w →
    Ends .nop s c s ∧
    (w.priv = false → (∃ u : Warp, Lands .yield s c u ∧ u = { w with lanes := u.lanes } ∧
        ∀ l, l < w.lanes.length → l < 64 → u.lane l =
          if c.cands.getLsbD l = true ∧ c.lanes.getLsbD l = false then { w.lane l with age := 64 } else w.lane l) ∧
      ∀ imm : BitVec 7,
        (imm ≠ 0 → w.alloc < 32 * imm.toNat + 128 → Traps (.wbase imm) s c false 0x10 (BitVec.ofNat 64 imm.toNat)) ∧
        ((imm = 0 ∨ 32 * imm.toNat + 128 ≤ w.alloc) → Lands (.wbase imm) s c { w with vwb := 32 * imm.toNat }))

/-- R22, R346: `exit` ends the executing lanes: they leave every mask and every loop body, and no register changes. While
another lane lives that no `trigger` has marked (R238), no byte of memory changes. -/
def Obligations.ExitLanes : Prop :=
  ∀ (s : State) (c : Cur) (w : Warp), Issues s c w → ∃ t, Moves .exit s c t ∧
    ((∃ i, i < w.lanes.length ∧ i < 64 ∧ c.lanes.getLsbD i = false ∧ (w.lane i).stat ≠ .exited ∧ (w.lane i).triggered = false) →
      w.priv = false → ∃ u, t.warp c.warp = some u ∧
      u.vregs = w.vregs ∧ u.sregs = w.sregs ∧ u.pregs = w.pregs ∧ (∀ x, t.byte x = s.byte x) ∧
      (∀ l, l < w.lanes.length → l < 64 → c.lanes.getLsbD l = true → (u.lane l).stat = .exited) ∧
      (∀ j, (u.mask j).enrolled &&& c.lanes = 0 ∧ (u.mask j).arrived &&& c.lanes = 0) ∧
      ∀ e ∈ u.loops, ∃ f ∈ w.loops, e.start = f.start ∧ e.stop = f.stop ∧ e.inBody = f.inBody &&& ~~~c.lanes ∧
        e.held = f.held &&& ~~~c.lanes)

/-! ### Exceptions -/

/-- R245, R254, R255: an instruction that raises a cause in user mode: its group enters the handler, every other lane that has
not exited is suspended where it stands, the issue counts for the ages (R18; log 15), and nothing else of the machine changes.
Without a trap vector the context is killed with reason 1; in supervisor mode with reason 2, and the record holds the cause
that the handler was entered with. -/
def Obligations.ExceptionEntry : Prop :=
  ∀ (s : State) (c : Cur) (w : Warp) (next : Bool) (cause : Nat) (info : Xword), Issues s c w → c.priv = w.priv →
    let t := s.trapped c next cause info
    let pc := if next then c.nextPc else c.trapPc
    let vec := (s.ctx w.ctxK).trapvec
    let b : State := { s with cur := none, issues := s.issues + 1 }
    let v := b.setWarp c.warp (w.trapped c next (s.issues + 1))
    (w.priv = false → vec ≠ 0 → ∃ u : Warp, t = b.setWarp c.warp u ∧ t.warp c.warp = some u ∧
      u = { w with lanes := u.lanes, lastIssue := s.issues + 1, trappc := pc, trapcause := BitVec.ofNat 64 cause, trapinfo := info,
                   priv := true, tlanes := c.lanes, stop := .running, entered := some { cause := cause, pc := pc, info := info } } ∧
      ∀ l, l < w.lanes.length → l < 64 → next = false ∨ w.loops = [] →
        let x := w.lane l
        let aged := { x with age := if c.inRep = false ∧ c.cands.getLsbD l = true then min 64 (x.age + 1) else x.age }
        u.lane l =
          if c.lanes.getLsbD l = true then
            { x with suspended := false, pc := vec, age := if c.inRep = true then x.age else 0,
                     stat := if next then .candidate else x.stat }
          else if x.stat = .exited then aged else { aged with suspended := true }) ∧
    (w.priv = false → vec = 0 →
      t = v.kill w.die w.asid 1 { first := cause, second := 0, warp := w.killField, pc := pc, info := info, loc := 0 }) ∧
    (w.priv = true → ∀ e, w.entered = some e → t = v.kill w.die w.asid 2
      { first := e.cause, second := cause, warp := w.killField, pc := e.pc, info := e.info, loc := 0 })

/-- R432, with R321 and R429: `trap n` traps with SWTRAP, TRAPPC after it and TRAPINFO n; `sysc n` the same with bit 8 set; `brk n`
traps with BREAK at itself. A word with a non-zero d or a is no such instruction and traps with ILLOP; in supervisor mode
each kills the context with reason 2. R59, R62: words that are no instruction trap with ILLOP, or with BADTGT for a
literal word. -/
def Obligations.SoftwareTraps : Prop :=
  (encode (.trap 0) = [0x00800000] ∧ encode (.trap 9) = [0x00800009] ∧ encode (.sysc 5) = [0x00E00005] ∧
    encode (.brk 2) = [0x00600002]) ∧
  (∀ n : BitVec 7, encode (.trap n) = [(0#6 ++ 4#5 ++ 0#7 ++ 0#7 ++ n).toNat] ∧
    encode (.sysc n) = [(0#6 ++ 7#5 ++ 0#7 ++ 0#7 ++ n).toNat] ∧ encode (.brk n) = [(0#6 ++ 3#5 ++ 0#7 ++ 0#7 ++ n).toNat]) ∧
  (∀ (d a n : BitVec 7) (x : Option Nat), d ≠ 0 ∨ a ≠ 0 →
    (FetchedInstr.words (0#6 ++ 4#5 ++ d ++ a ++ n).toNat x).instr = .reservedEncoding ∧
    (FetchedInstr.words (0#6 ++ 7#5 ++ d ++ a ++ n).toNat x).instr = .reservedEncoding ∧
    (FetchedInstr.words (0#6 ++ 3#5 ++ d ++ a ++ n).toNat x).instr = .reservedEncoding) ∧
  ∀ (s : State) (c : Cur) (w : Warp), Issues s c w →
    Traps .reservedEncoding s c false 0x01 0 ∧
    Traps .literalWordAtInstructionStart s c false 0x02 0 ∧
    (∀ v cause info, s.fetchInstr w.coreK w.asid c.pc.toNat = (v, .bad (.trap cause info)) →
      exec .instructionFetchFault s = .next (v.trapped c false cause info)) ∧
    ∀ n : BitVec 7,
      (w.priv = false → Traps (.trap n) s c true 0x0E (n.setWidth 64) ∧
        Traps (.sysc n) s c true 0x0E (BitVec.ofNat 64 (256 + n.toNat)) ∧
        Traps (.brk n) s c false 0x0F (n.setWidth 64)) ∧
      (w.priv = true → ∀ i ∈ [Instr.trap n, .sysc n, .brk n], ∃ k, exec i s =
        .next ((({ s with cur := none, issues := s.issues + 1 } : State).setWarp c.warp
          { w with lastIssue := s.issues + 1 }).kill w.die w.asid 2 k) ∧ k.second = 0x01)

/-- R249, R208: `eret` leaves supervisor mode: the handler's lanes go on at TRAPPC and every suspended lane returns to its
status, or, with a restart pending and a label, every lane goes on at the label with nothing enrolled, looping or
repeating. No other register changes. R246: a cause that a warp is owed is taken before its next issue in user mode. -/
def Obligations.ReturnAndOwedCauses : Prop :=
  (∀ (s : State) (c : Cur) (w : Warp), Issues s c w → w.priv = true →
    let label := w.restart &&& 0x01FFFFFFFFFFFFFC
    (label = 0 ∨ w.pendingRestart = false → ∃ u : Warp, Moves .eret s c (s.setWarp c.warp u) ∧ u.priv = false ∧
      u.tlanes = 0 ∧ u.vregs = w.vregs ∧ u.sregs = w.sregs ∧ u.pregs = w.pregs ∧ u.trappc = w.trappc ∧ u.restart = w.restart ∧
      (w.masks = [] → w.loops = [] → ∀ l, l < w.lanes.length → l < 64 → u.lane l =
        if w.tlanes.getLsbD l = true ∧ (w.lane l).stat ≠ .exited then { w.lane l with suspended := false, pc := w.trappc }
        else { w.lane l with suspended := false })) ∧
    (label ≠ 0 → w.pendingRestart = true → ∃ (t : State) (u : Warp), Moves .eret s c t ∧ t.warp c.warp = some u ∧
      u = { w with lanes := u.lanes, restart := label ||| 1, loops := [], masks := [], rep := RepState.idle, matrix := 0,
                   stop := .running, latch := none, supLatch := none, bsync := none, pendingRestart := false, priv := false,
                   tlanes := 0, entered := none, armed := none, supArmed := none } ∧
      (∀ l, l < w.lanes.length → l < 64 → u.lane l = if (w.lane l).stat = .exited then w.lane l
        else { w.lane l with pc := label, stat := .candidate, suspended := false, age := 0 }) ∧
      ∀ x, t.byte x = s.byte x)) ∧
  ∀ (s : State) (k : Nat) (w : Warp) (a : AsyncCause) (r : List AsyncCause) (pc : Xword) (lanes : LaneSet),
    s.warp k = some w → w.priv = false → w.async = a :: r → w.primary = some (pc, lanes) →
    (s.ctx w.ctxK).trapvec ≠ 0 → ∃ (t : State) (u : Warp), exec (.asyncTrapEntry k) s = .next t ∧ t = { s with warps := t.warps } ∧
      t.warp k = some u ∧ u.async = r ∧ u.priv = true ∧ u.tlanes = lanes ∧ u.trappc = pc ∧
      u.trapcause = BitVec.ofNat 64 a.cause ∧ u.trapinfo = a.info ∧ u.vregs = w.vregs ∧ u.sregs = w.sregs

/-- R248, R80, R40, R38: the checks of step 3 and 5 come before everything else. In supervisor mode the instructions that a handler may
not execute trap with ILLOP; in user mode the privileged ones trap with PRIV; a register outside the allocation traps
with WBASE, which names one register (R38): that it is the first in the order d, a, b is the model's choice (log 16). -/
def Obligations.ModeChecks : Prop :=
  ∀ (s : State) (c : Cur) (w : Warp), Issues s c w →
    let illop (i : Instr) := Traps i s c false 0x01 0
    let priv (i : Instr) := Traps i s c false 0x03 0
    (w.priv = true →
      (∀ (o : BitVec 4) (d a b : SReg), illop (.barinit o d a) ∧ illop (.arrive d o) ∧ illop (.bwait d o a) ∧
        illop (.bsync d o) ∧ illop (.bdrop o) ∧ illop (.cpy d a) ∧ illop (.cpyt d a true) ∧ illop (.cpyt d a false) ∧
        illop (.cpym d a) ∧ illop (.cpyx d a b) ∧ illop (.coll d a b) ∧ illop (.mma a) ∧ illop (.mrst a) ∧ illop (.mzero a) ∧
        illop (.mload a) ∧ illop (.mdrain a) ∧ illop (.quote d a true) ∧ illop (.quote d a false) ∧ illop (.launch d a b)) ∧
      (∀ (a : SReg) (clear : Bool) (t : BitVec 3), illop (.hist a clear t)) ∧
      (∀ (d : SReg) (p : PReg), illop (.next d p) ∧ illop (.elect p)) ∧
      (∀ l s' k m : BitVec 5, illop (.waitn l s' k m)) ∧
      (∀ (n : BitVec 6) (x y z : BitVec 2), illop (.rep n x y z)) ∧
      (∀ n : BitVec 7, illop (.brk n) ∧ illop (.trap n) ∧ illop (.sysc n) ∧ illop (.wbase n)) ∧
      (∀ (j : JMask) (off : BitVec 21), illop (.enrol j off) ∧ illop (.park j) ∧ illop (.strike j)) ∧
      (∀ (p : PReg) (inv : Bool) (off : BitVec 21), illop (.brp p inv off)) ∧
      (∀ (n : LoopCount) (off : BitVec 18), illop (.loop n off)) ∧
      illop .lexit ∧ illop .yield ∧ illop .trigger) ∧
    (w.priv = false →
      priv .eret ∧ (∀ (a : SReg) (all : Bool), priv (.tlbi a all)) ∧
      ∀ (n : BitVec 7), 64 ≤ n.toNat → (∀ d, priv (.getsr d n)) ∧ ∀ a, priv (.setsr n a)) ∧
    ∀ (d a b : VReg),
      let names := [d.toNat, a.toNat, b.toNat]
      ∀ n ∈ names, w.alloc ≤ w.allocated n → (∀ k, k < names.idxOf n → w.allocated (names.getD k 0) < w.alloc) →
        ∀ i ∈ [Instr.add d a (.reg b), .mad d a (.reg b), .fadd d a b, .fma d a b, .shfl d a b],
          Traps i s c false 0x10 (BitVec.ofNat 64 n)

/-- R41, R370, R418, R101: `getsr` reads each special register as it stands; CYCLE and TIME go on by themselves (log 2), and CEIL
and BUCKET with TIME; LANE
gives every executing lane its index. `setsr` writes its register alone, unless a bit is set that must be 0. R430, R431:
`tlbi` removes its entries from every TLB of the die, and completes when no access of the context is out. -/
def Obligations.SpecialRegisters : Prop :=
  ∀ (s : State) (c : Cur) (w : Warp), Issues s c w →
    let ctx := s.ctx w.ctxK
    let cl := s.cluster w.clusterK
    let reads (n : Nat) (x : Xword) := ∀ d : BitVec 7, w.priv = true ∨ n < 64 →
      WritesS (.getsr d (BitVec.ofNat 7 n)) s c w (d.setWidth 6) x
    let illop (i : Instr) := Traps i s c false 0x01 0
    let writes (n bits : Nat) (f : Xword → State) := ∀ a : SReg, w.priv = true ∨ n < 64 →
      (w.s a &&& BitVec.ofNat 64 bits = 0 → Ends (.setsr (BitVec.ofNat 7 n) a) s c (f (w.s a))) ∧
      (w.s a &&& BitVec.ofNat 64 bits ≠ 0 → illop (.setsr (BitVec.ofNat 7 n) a))
    ((∀ d : BitVec 7, w.free [d.toNat] → WritesV (.getsr d 0) s c w d fun l => BitVec.ofNat 32 l) ∧
      reads 1 (BitVec.ofNat 64 w.index) ∧ reads 4 (BitVec.ofNat 64 w.member) ∧ reads 5 (BitVec.ofNat 64 w.core) ∧
      reads 6 (BitVec.ofNat 64 w.cluster) ∧ reads 7 (BitVec.ofNat 64 w.die) ∧ reads 8 (BitVec.ofNat 64 w.width) ∧
      (∀ g, mfind s.gangs w.gang = some g → reads 2 (BitVec.ofNat 64 (g.index * g.members + w.member)) ∧
        reads 3 (BitVec.ofNat 64 g.index) ∧ reads 9 (BitVec.ofNat 64 g.warps)) ∧
      reads 12 (cl.xrate.setWidth 64) ∧ reads 13 ctx.lrate ∧ reads 14 w.cvtmode ∧ reads 15 (BitVec.ofNat 64 w.vwb) ∧
      (∀ n e, n < 4 → w.loops.reverse[n]? = some e → reads (16 + n) (BitVec.ofNat 64
        ((e.stop - e.start).toNat / 4 % 2 ^ 18 + 2 ^ 18 + 2 ^ 32 * e.count.toNat))) ∧
      (∀ n, n < 4 → w.loops.length ≤ n → reads (16 + n) 0) ∧
      (w.rep.done < 64 → w.rep.cnt < 64 →
        reads 20 (BitVec.ofNat 64 (w.rep.done + (if w.rep.busy then 64 else 0) + 128 * w.rep.cnt))) ∧
      reads 21 w.restart ∧ reads 22 ctx.energy ∧ reads 23 (cl.stallr.setWidth 64) ∧ reads 24 (BitVec.ofNat 64 cl.freq) ∧
      reads 27 (BitVec.ofNat 64 (s.larg w)) ∧
      (∀ j : JMask, reads (28 + j.toNat) (w.mask j).enrolled) ∧ reads 36 c.lanes ∧ reads 37 (BitVec.ofNat 64 ctx.pwrcls) ∧
      reads 38 w.srseed ∧ reads 64 (if w.priv then 1 else 0) ∧ reads 65 w.trappc ∧ reads 66 w.trapcause ∧
      reads 67 w.trapinfo ∧ reads 68 ctx.trapvec ∧ reads 69 (BitVec.ofNat 64 w.asid) ∧ reads 70 ctx.ptbase ∧
      reads 71 w.scratch0 ∧ reads 72 w.scratch1 ∧ reads 73 (BitVec.ofNat 64 ctx.efloor) ∧
      (∀ (d : BitVec 7) (n : Nat) (f : State → Nat),
        (n, f) ∈ [(11, fun t : State => t.timeOf w.die), (25, fun t => t.ceilAt w.die (t.timeOf w.die)),
          (26, fun t => ((t.ctx w.ctxK).bucket 0).fill)] → ∃ t : State, ∃ k : Nat,
          Ends (.getsr d (BitVec.ofNat 7 n)) s c t ∧ t.now = s.now + k ∧
          t.warp c.warp = some (w.setS (d.setWidth 6) (BitVec.ofNat 64 (f t)))) ∧
      ∀ d : BitVec 7, ∃ t : State, Ends (.getsr d 10) s c t ∧
        t.warp c.warp = some (w.setS (d.setWidth 6) (t.cluster w.clusterK).cycle)) ∧
    (writes 13 (0xFFFFFFFF * 2 ^ 32) (fun x => s.setCtx w.ctxK { ctx with lrate := x }) ∧
      writes 14 0xF888888888888888 (fun x => s.setWarp c.warp { w with cvtmode := x }) ∧
      writes 21 (2 + 127 * 2 ^ 57) (fun x => s.setWarp c.warp { w with restart := x &&& BitVec.ofNat 64 (2 ^ 57 - 4) }) ∧
      writes 37 (2 ^ 64 - 8) (fun x => s.setCtx w.ctxK { ctx with pwrcls := x.toNat }) ∧
      writes 65 (3 + 127 * 2 ^ 57) (fun x => s.setWarp c.warp { w with trappc := x }) ∧
      writes 66 (2 ^ 64 - 256) (fun x => s.setWarp c.warp { w with trapcause := x }) ∧
      writes 67 0 (fun x => s.setWarp c.warp { w with trapinfo := x }) ∧
      writes 68 3 (fun x => s.setCtx w.ctxK { ctx with trapvec := x }) ∧
      writes 70 (2 ^ 17 - 1 + 2 ^ 64 - 2 ^ 52) (fun x => s.setCtx w.ctxK { ctx with ptbase := x }) ∧
      writes 71 0 (fun x => s.setWarp c.warp { w with scratch0 := x }) ∧
      writes 72 0 (fun x => s.setWarp c.warp { w with scratch1 := x }) ∧
      (∀ a : SReg, ∃ u : Warp, Lands (.setsr 38 a) s c u ∧ u = { w with srseed := w.s a, lanes := u.lanes } ∧
        ∀ l, l < w.lanes.length → (u.lane l).xs =
          let x : Word := (w.s a).setWidth 32 ^^^ BitVec.ofNat 32 (0x9E3779B9 * (l + 1))
          if x = 0 then 0x9E3779B9 else x) ∧
      ∀ (n : BitVec 7) (a : SReg), w.priv = true ∨ n.toNat < 64 →
        n.toNat ∉ [13, 14, 21, 37, 38, 65, 66, 67, 68, 70, 71, 72] → illop (.setsr n a)) ∧
    (w.priv = true → ∀ (a : SReg) (all : Bool), ∃ t : State,
      (t.accessesOut w.die w.asid = false → Ends (.tlbi a all) s c t) ∧
      (t.accessesOut w.die w.asid = true → exec (.tlbi a all) s =
        .next (({ t with cur := none, issues := t.issues + 1 } : State).onWarp c.warp fun u =>
          { u with lastIssue := t.issues + 1, stop := .scoreboard })) ∧
      (∀ l ∈ (t.die w.die).tlb, l.asid = w.asid → all = false ∧ l.covers w.asid (w.s a).toNat = false) ∧
      (∀ k, k / 32 = w.die → ∀ l ∈ (t.core k).tlb, l.asid = w.asid → all = false ∧ l.covers w.asid (w.s a).toNat = false) ∧
      ((s.core w.coreK).holdsDirty = false → s.accessesOut w.die w.asid = false →
        Ends (.tlbi a all) s c t ∧ ∀ x, t.byte x = s.byte x))

/-! ### Commands -/

/-- R185, R187, R196, R331, R334 to R338, R332, R186, R190: a COPY instruction queues a command with its operands as they stand, counts
it, and gives the token of its status word, which reads 0; every other register stays, and, with nothing to write back,
every other byte of memory. It waits while its counter or the queue is full, or while an acquire of its lanes that names its kind
is out (R149, R151), and traps with the lowest PARAM kind, and its lowest offset, of the conditions that hold. -/
def Obligations.CopyMembers : Prop :=
  ∀ (s : State) (c : Cur) (w : Warp), Issues s c w → w.priv = false →
    let token := s.nextToken w.die w.asid
    let queues (i : Instr) (d : SReg) (coll : Bool) (kind : CopyKind) := ∃ (t : State) (u : Warp) (q : CopyCmd), Ends i s c t ∧
      t.warp c.warp = some u ∧ u.copies = w.copies + 1 ∧ (∀ r, u.s r = if r = d ∧ d ≠ 0 then BitVec.ofNat 64 token.1 else w.s r) ∧
      u.vregs = w.vregs ∧ u.pregs = w.pregs ∧ (t.ctx w.ctxK).tokens = (s.ctx w.ctxK).tokens + 1 ∧
      q.kind = kind ∧ q.warp = c.warp ∧ q.gang = w.gang ∧ q.asid = w.asid ∧ q.token = token.1 ∧ q.slice = 0 ∧ q.cvtmode = w.cvtmode ∧
      (if coll then (t.die w.die).colls = (s.die w.die).colls ++ [(q, none)]
        else (t.cluster w.clusterK).cq = (s.cluster w.clusterK).cq ++ [q]) ∧
      ((s.core w.coreK).holdsDirty = false → (∀ x, x < token.2 ∨ token.2 + 8 ≤ x → t.byte x = s.byte x) ∧
        (memoryExists token.2 8 = true → t.num token.2 8 = 0))
    let engines (d a b : SReg) (g : Bool) := [Instr.cpy d a, .cpyt d a g, .cpym d a, .cpyx d a b]
    let room := (s.cluster w.clusterK).cq.length < 256
    (∀ l ∈ w.loads, l.waiting ≠ [] → (∃ x, l.acquire = some x ∧ x.1 &&& c.lanes ≠ 0) → (∀ m ∈ w.loads, m.lost = none) →
      ∀ d a b g, (l.kinds.getLsbD 0 = true → ∀ i ∈ engines d a b g, Waits i s c .scoreboard) ∧
        (l.kinds.getLsbD 2 = true → Waits (.coll d a b) s c .scoreboard)) ∧
    (w.mayAccess c.lanes → ∀ d a b g, (31 ≤ w.copies ∨ ¬room → ∀ i ∈ engines d a b g, Waits i s c .engine) ∧
      (31 ≤ w.copies → Waits (.coll d a b) s c .engine)) ∧
    (w.mayAccess c.lanes → w.copies < 31 → ∀ d a b : SReg,
      let region := s.regionBytes w.gang
      let src := (w.s a).toNat
      let dst := (w.s (a + 1)).toNat
      let ctl := (w.s (a + 2)).toNat
      let n := ctl % 2 ^ 32
      let srcIn := ctl / 2 ^ 32 % 2
      let dstIn := ctl / 2 ^ 33 % 2
      (room → Judged (.cpy d a) s c [(ctl / 2 ^ 39 ≠ 0, 0x2FF), (n = 0, 0x4FF), (srcIn = 1 ∧ region < src + n, 0x6FF),
          (dstIn = 1 ∧ region < dst + n, 0x6FF), (4 < ctl / 2 ^ 36 % 8, 0x7FF)]
        (queues (.cpy d a) d false (.linear src dst n (srcIn == 1) (dstIn == 1)))) ∧
      (s.paramBlock w a 8 = none → ∀ i ∈ [Instr.cpyt d a true, .cpyt d a false, .cpym d a, .cpyx d a b, .coll d a b],
        room ∨ i = .coll d a b → Traps i s c false 0x0B 0xFF01) ∧
      ∀ l, s.paramBlock w a 8 = some l →
        let r : List Xword := l.map fun x => BitVec.ofNat 64 x
        let f (n lo k : Nat) := (r.getD n 0).toNat / 2 ^ lo % 2 ^ k
        let word := (w.s b).toNat
        let off := word % 2 ^ 24
        let ty := (tyOf (f 0 57 5)).getD .b8
        let unit := if ty = .e4m3 ∨ ty = .e5m2 then 32 else if ty = .e3m2 ∨ ty = .e2m3 then 24 else if ty = .e2m1 ∨ ty = .kf4 then 16 else 0
        let count := f 3 48 16 * f 4 48 16 * f 5 32 16 * f 5 48 16
        let bytes := if unit = 0 then count * tyBytes ty else count / 32 * unit + 2 * (count / 32)
        let mcast := f 2 56 8
        let record (bases : Nat → Prop) (win : Window → Prop) (many inLocal : Prop) : List (Prop × Nat) :=
          [(f 0 62 2 ≠ 0, 0x207), (¬many ∧ mcast ≠ 0, 0x217), (f 0 57 5 = 22 ∨ 24 < f 0 57 5, 0x307),
            (unit ≠ 0 ∧ (f 3 48 16 % 32 ≠ 0 ∨ f 7 0 16 % 32 ≠ 0), 0x407), (f 3 0 24 = 0, 0x418), (f 3 24 24 = 0, 0x41B),
            (f 3 48 16 = 0, 0x41E), (f 4 0 24 = 0, 0x420), (f 4 24 24 = 0, 0x423), (f 4 48 16 = 0, 0x426), (f 5 32 16 = 0, 0x42C),
            (f 5 48 16 = 0, 0x42E), (inLocal ∧ ∃ k, bases k ∧ region < f 2 32 24 + k + bytes, 0x607),
            (inLocal ∧ f 2 32 24 % 16 ≠ 0, 0x614), (¬win (windowOf (f 0 0 57)), 0x700), (4 < f 1 61 3, 0x70F),
            (f 1 0 57 % 4 ≠ 0, 0x808), (many ∧ mcast = 0, 0xA17)]
        let alone (k : Nat) := k = 0
        let global (x : Window) := x ≠ .unused
        (room → Judged (.cpyt d a true) s c (record alone (fun x => x ≠ .unused ∧ x ≠ .multicast) False True)
            (queues (.cpyt d a true) d false (.tensor r true)) ∧
          Judged (.cpyt d a false) s c (record alone global False True) (queues (.cpyt d a false) d false (.tensor r false)) ∧
          (∀ g, mfind s.gangs w.gang = some g →
            Judged (.cpym d a) s c (record (fun k => ∃ m, m < 8 ∧ mcast.testBit m = true ∧ k = m * (g.localBytes / g.members / 64 * 64))
                global True True)
              ((mcast < 2 ^ g.members → queues (.cpym d a) d false (.multicast r)) ∧
                (2 ^ g.members ≤ mcast → Traps (.cpym d a) s c false 0x11 (BitVec.ofNat 64 (2 + 256 * mcast))))) ∧
          Judged (.cpyx d a b) s c (record alone global False True ++ [(word / 2 ^ 24 % 2 ^ 40 ≠ 0, 0x2FF),
              (off % 4 ≠ 0 ∨ region < off + 4 * f 4 48 16, 0x6FF)])
            (queues (.cpyx d a b) d false (.indexed r ((List.range (f 4 48 16)).map fun k =>
              leNat (s.localBytes w.gang (off + 4 * k) 4))))) ∧
        let op := word % 8
        Judged (.coll d a b) s c (record alone (fun x => x = .priv) False False ++
            [(4 < op ∨ word / 8 % 2 ^ 5 ≠ 0 ∨ word / 2 ^ 12 % 2 ^ 4 ≠ 0 ∨ word / 2 ^ 32 ≠ 0, 0x2FF), (f 2 32 24 ≠ 0, 0x214),
              (unit ≠ 0 ∨ (op ∈ [0, 1, 3] ∧ ty ≠ .f32 ∧ ty ≠ .bf16), 0x307)])
          (queues (.coll d a b) d true (.collective r (w.s b))))

/-- R185, R187, R199, R371, R386 to R393, R396, R372: a MATRIX command is queued on its core with its parameter block as it stands, and
counted; nothing else changes. It waits while its counter or the queue is full, or for an acquire of its lanes that names the
engine (R149, R151). It traps with the lowest PARAM kind, and its lowest offset, of the conditions that hold (R186, R200). `mrst` writes
LABEL; `quote` writes the time and the energy of R262, where the latch (R202) holds B or not. -/
def Obligations.MatrixMembers : Prop :=
  ∀ (s : State) (c : Cur) (w : Warp), Issues s c w → w.priv = false → ∀ (d a : SReg) (clear : Bool) (n : BitVec 3) (lanes : Bool),
    let queues (i : Instr) (kind : MatrixKind) (block : List Word) (out : Nat) := ∃ (t : State) (u : Warp) (q : MatrixCmd),
      Ends i s c t ∧ t = { s with warps := t.warps, cores := t.cores, nextId := s.nextId + 1 } ∧ t.warp c.warp = some u ∧
      u = { w with matrix := w.matrix + 1, lanes := u.lanes } ∧ (kind ≠ .mdrain → u.lanes = w.lanes) ∧
      (t.core w.coreK).mq = (s.core w.coreK).mq ++ [q] ∧ (t.core w.coreK).acc = (s.core w.coreK).acc ∧
      q.kind = kind ∧ q.block = block ∧ q.out = out ∧ q.warp = c.warp ∧ q.gang = w.gang ∧ q.asid = w.asid ∧ q.cvtmode = w.cvtmode ∧ q.ran = false
    let commands := [Instr.mma a, .mzero a, .mload a, .mdrain a, .hist a clear n]
    let room := w.mayAccess c.lanes ∧ w.matrix < 31 ∧ (s.core w.coreK).mq.length < 64
    let region := s.regionBytes w.gang
    (∀ l ∈ w.loads, l.waiting ≠ [] → (∃ x, l.acquire = some x ∧ x.1 &&& c.lanes ≠ 0) → (∀ m ∈ w.loads, m.lost = none) →
      l.kinds.getLsbD 1 = true → ∀ i ∈ commands, Waits i s c .scoreboard) ∧
    (w.mayAccess c.lanes → 31 ≤ w.matrix ∨ 64 ≤ (s.core w.coreK).mq.length → ∀ i ∈ commands, Waits i s c .engine) ∧
    (∃ x : Xword, Lands (.mrst a) s c { w with restart := x } ∧
      ∀ j, x.getLsbD j = (decide (2 ≤ j) && decide (j ≤ 56) && (w.s a).getLsbD j)) ∧
    (room → let off := (w.s a).toNat
      Judged (.hist a clear n) s c [(off % 64 ≠ 0 ∨ region < off + 264, 0x6FF)] (queues (.hist a clear n) (.hist clear n.toNat) [] off)) ∧
    (s.paramBlock w a 4 = none → Traps (.quote d a lanes) s c false 0x0B 0xFF01 ∧
      (room → ∀ i ∈ [Instr.mma a, .mzero a, .mload a, .mdrain a], Traps i s c false 0x0B 0xFF01)) ∧
    ∀ l, s.paramBlock w a 4 = some l →
      let b : List Word := l.map fun x => BitVec.ofNat 32 x
      let f (n lo k : Nat) := (b.getD n 0).toNat / 2 ^ lo % 2 ^ k
      let pair (n : Nat) := f n 0 32 + 2 ^ 32 * f (n + 1) 0 32
      let unit (t : Ty) := if t = .e4m3 ∨ t = .e5m2 then 32 else if t = .e3m2 ∨ t = .e2m3 then 24 else if t = .e2m1 ∨ t = .kf4 then 16 else 0
      let row (t : Ty) (n : Nat) := if unit t = 0 then n * tyBytes t else (n + 31) / 32 * unit t
      let isLocal (x : Nat) := x.testBit 63 = true
      let near (x : Nat) := windowOf x = .priv ∨ windowOf x = .peer
      let formatted (x : Nat) := !x.testBit 63 && match s.walk w.die w.asid x with
        | .leaf leaf => leaf.fmt != 0
        | _ => false
      let m := f 1 0 16
      let n := f 1 16 16
      let k := f 2 0 32
      let acc := f 0 24 8
      let idx := f 10 0 24
      let gather := f 0 0 1 == 1
      let transB := f 0 1 1 == 1
      let aty := (tyOf (f 0 8 8)).getD .b8
      let bty := (tyOf (f 0 16 8)).getD .b8
      let gathered (i : Nat) := leNat (s.localBytes w.gang (idx + 4 * i) 4)
      let narrow (t : Ty) := t ∈ [Ty.e4m3, .e5m2, .e3m2, .e2m3]
      let four (t : Ty) := t ∈ [Ty.e2m1, .kf4]
      let byte (t : Ty) := t ∈ [Ty.i8, .n8]
      let isPair (g x : Nat) := ∃ p q, tyOf (f 0 8 8) = some p ∧ tyOf (f 0 16 8) = some q ∧
        ((g = 16 ∧ x = 13 ∧ p = q ∧ (p = .f16 ∨ p = .bf16)) ∨ (g = 64 ∧ x = 13 ∧ four p ∧ four q) ∨ (g = 32 ∧ x = 9 ∧ byte p ∧ byte q) ∨
          (g = 32 ∧ x = 13 ∧ (narrow p ∨ four p) ∧ (narrow q ∨ four q) ∧ (narrow p ∨ narrow q)))
      let store : List (Prop × Nat) := [(m = 0, 0x404), (n = 0, 0x406), ((if w.die < 4 then 1024 else 256) < f 3 0 16 + m, 0x504),
        (512 < f 3 16 16 + n, 0x506)]
      let reserved : List (Prop × Nat) := [(f 0 7 1 ≠ 0, 0x200), (f 14 3 13 ≠ 0, 0x238), (f 14 19 13 ≠ 0, 0x23A), (f 15 0 32 ≠ 0, 0x23C)]
      let scope : Prop × Nat := (4 < f 14 16 3, 0x73A)
      let operand (x stride side atX atTy : Nat) (t : Ty) (last : Nat → Prop) (n : Nat) : List (Prop × Nat) :=
        let off := x % 2 ^ 24
        let size := if unit t = 0 then tyBytes t else 1
        [(isLocal x ∧ x / 2 ^ 24 % 2 ^ 39 ≠ 0, 0x200 + atX), (isLocal x ∧ ∃ r, last r ∧ region < off + (r * stride + row t n), 0x600),
          (isLocal x ∧ (off % size ≠ 0 ∨ stride % size ≠ 0), 0x600 + atTy), (¬isLocal x ∧ ¬near x, 0x700 + atX),
          (¬isLocal x ∧ side ≠ 0 ∧ formatted x = true, 0x200 + atX), (unit t ≠ 0 ∧ formatted x = false ∧ stride % unit t ≠ 0, 0x400 + atTy),
          (unit t ≠ 0 ∧ formatted x = false ∧ side ≠ 0 ∧ ∃ r, last r ∧ region < side + 2 * ((r * stride + row t n - 1) / unit t) + 2, 0x600)]
      let rowsA (r : Nat) := if gather = true then idx + 4 * m ≤ region ∧ r ≠ 0xFFFFFFFF ∧ ∃ i, i < m ∧ gathered i = r else r = m - 1
      let rowsB (r : Nat) := r = (if transB = true then n else k) - 1
      let mma := reserved ++ [(f 10 24 8 ≠ 0, 0x22B), (¬(∃ g x, isPair g x), 0x301), ((∃ g x, isPair g x ∧ x ≠ acc), 0x301), (k = 0, 0x408),
          ((∃ g x, isPair g x ∧ k % g ≠ 0), 0x401)] ++ store ++ [scope, (unit bty ≠ 0 ∧ transB = false, 0xB00), (gather = true ∧ f 11 0 32 ≠ m, 0x900),
          (gather = true ∧ (idx % 4 ≠ 0 ∨ region < idx + 4 * f 11 0 32), 0x600)] ++
        operand (pair 4) (f 8 0 32) (f 12 0 32) 16 1 aty rowsA k ++
        operand (pair 6) (f 9 0 32) (f 13 0 32) 24 2 bty rowsB (if transB = true then k else n)
      let x := pair 4
      let off := x % 2 ^ 24
      let stride := f 8 0 32
      let ends (bytes : Nat) := region < off + ((m - 1) * stride + bytes)
      (room → Judged (.mma a) s c mma (queues (.mma a) .mma b 0) ∧
        Judged (.mzero a) s c ((f 0 7 1 ≠ 0, 0x200) :: store) (queues (.mzero a) .mzero b 0) ∧
        Judged (.mload a) s c ([(f 0 8 8 ≠ acc, 0x301), (acc ≠ 13 ∧ acc ≠ 9, 0x303)] ++ store ++ [scope,
            (isLocal x ∧ x / 2 ^ 24 % 2 ^ 39 ≠ 0, 0x210), (isLocal x ∧ ends (4 * n), 0x604),
            (isLocal x ∧ (off % 4 ≠ 0 ∨ stride % 4 ≠ 0), 0x610), (¬isLocal x ∧ ¬near x, 0x710)]) (queues (.mload a) .mload b 0) ∧
        Judged (.mdrain a) s c (reserved ++ [(f 12 0 32 ≠ 0 ∧ ¬isLocal x, 0x210),
            (¬∃ t, tyOf (f 0 8 8) = some t ∧ ((acc = 13 ∧ (t ∈ [Ty.f32, .f16, .bf16] ∨ unit t ≠ 0)) ∨
              (acc = 9 ∧ t ∈ [Ty.i32, .n32, .i16, .n16, .i8, .n8])), 0x301), (f 0 6 1 = 1 ∧ acc = 9, 0x300)] ++ store ++
          [(isLocal x ∧ x / 2 ^ 24 % 2 ^ 39 ≠ 0, 0x210), (isLocal x ∧ ends (if unit aty = 0 then n * tyBytes aty else n / 32 * unit aty), 0x601),
            (isLocal x ∧ unit aty ≠ 0 ∧ (f 12 0 32 = 0 ∨ region < f 12 0 32 + 2 * (m * n / 32)), 0x601), (¬isLocal x ∧ ¬near x, 0x710),
            scope, (unit aty ≠ 0 ∧ n % 32 ≠ 0, 0xB01)]) (queues (.mdrain a) .mdrain b 0)) ∧
      Judged (.quote d a lanes) s c mma (0 < (s.cluster w.clusterK).freq → ∃ x y : Xword, Lands (.quote d a lanes) s c ((w.setS d x).setS (d + 1) y) ∧
        ∀ g z, isPair g z →
          let full := decide (w.die < 4)
          let held := !lanes && s.latched w (MBlock.of b)
          let up (p q : Nat) := (p + q - 1) / q
          let away (x : Nat) := if x.testBit 63 = true then 0 else if windowOf x = .peer then 2 else 1
          let each (x : Nat) : ℚ := [1 / 320, 1 / 40, 1 / 16].getD (away x) 0
          let rows := if gather = true then ((List.range m).filter fun i => gathered i ≠ 0xFFFFFFFF).length else m
          let sides (x side : Nat) (t : Ty) (p : Nat) := if unit t ≠ 0 ∧ (side ≠ 0 ∨ formatted x = true) then 2 * p * ((k + 31) / 32) else 0
          let cost (x side : Nat) (t : Ty) (p : Nat) : ℚ := p * row t k * each x + sides x side t p * (if formatted x = true then each x else 1 / 320)
          let bytes (x side : Nat) (t : Ty) (p : Nat) := p * row t k + sides x side t p
          let q := up m (if full = true then 64 else 32) * up n (if full = true then 64 else 32) * up k g
          let v : ℚ := (550 + 50 * min 7 (s.cluster w.clusterK).point : ℕ) / 750
          let f1 : ℚ := (s.cluster w.clusterK).freq / 1000
          let asleep := (s.core w.coreK).gated
          let nb : ℕ := bytes (pair 4) (f 12 0 32) aty rows + if held = true then 0 else bytes (pair 6) (f 13 0 32) bty n
          let eb : ℚ := cost (pair 4) (f 12 0 32) aty rows + if held = true then 0 else cost (pair 6) (f 13 0 32) bty n
          let clocks : ℕ := if lanes = true then 5 + 16 * up (m * n * k) 16
            else 52 + up nb 512 + q + (if asleep = true then 64 else 0) + if gather = true then 4 * up m 64 else 0
          let time : ℚ := (if lanes = true then 5 else 8) + [0, 240, 880].getD (max (away (pair 4)) (away (pair 6))) 0 + clocks / f1
          let energy : ℚ := if lanes = true then (144 / 1000 + m * n * k / 1000) * v ^ 2 + eb
            else (24 / 10 + (if full = true then 64 / 10 else 16 / 10) * q) * v ^ 2 + eb + if asleep = true then (if full = true then 40 else 10) else 0
          (x.toNat : ℤ) = min 0xFFFFFFFF ⌊2 ^ 16 * time + 1 / 2⌋ ∧ (y.toNat : ℤ) = min 0xFFFFFFFF ⌊2 ^ 16 * energy + 1 / 2⌋)

/-- R236, R237, R375, R376: `launch` queues a record or answers why not: 0 on the ring, 1 on the overflow ring, 2 when neither
takes it, 3 for a queue that the context may not use; the record stands in the slot; it traps with LAUNCH on a bad address or queue
number. That TAIL moves though the slot cannot be written, and that a full overflow ring gives 2 while the ring itself may not be
used, are the model's choices (log 34). R238, R433: `trigger` marks its lanes, whatever they wait for. R239, R397: `next` takes the
next entry of the workgroup's schedule table. -/
def Obligations.LaunchMembers : Prop :=
  ∀ (s : State) (c : Cur) (w : Warp), Issues s c w → w.priv = false →
    (w.mayAccess c.lanes → ∀ d a b : SReg,
      let va := (w.s a).toNat
      let n := (w.s b).toNat
      let q := s.queue (queueKey w.die n)
      (va % 128 ≠ 0 ∨ 2 ^ 55 ≤ va → Traps (.launch d a b) s c false 0x12 1) ∧
      (va % 128 = 0 → va < 2 ^ 55 → 256 ≤ n → Traps (.launch d a b) s c false 0x12 2) ∧
      ∀ v ps, va % 128 = 0 → va < 2 ^ 55 → n < 256 → s.place w .load 128 false [((firstLane c.lanes).getD 0, w.s a)] = .go v ps →
        let pa := (ps.map Place.pa).headD 0
        let r := (v.releaseCore w.coreK).homeRead pa 128 0 false
        let slot := q.ringSlot q.tail.toNat
        (∀ x ∈ [slot, q.ovfSlot q.ovftail.toNat], (r.translateDie w.die w.asid x).2 ≠ .replay) →
        ∃ (t : State) (u : Warp) (code : Nat), Ends (.launch d a b) s c t ∧ t.warp c.warp = some u ∧
          (u.s d = if d = 0 then 0 else BitVec.ofNat 64 code) ∧ u.vregs = w.vregs ∧ u.pregs = w.pregs ∧
          let q' := t.queue (queueKey w.die n)
          (q.enable = false ∨ q.asid ≠ w.asid ∨ q.devq = false → code = 3 ∧ q' = q) ∧
          (q.enable = true → q.asid = w.asid → q.devq = true →
            ((q.tail - q.head).toNat ≠ 2 ^ q.qsize → q.ovftail = q.ovfhead → code = 0 ∧ q' = { q with tail := q.tail + 1 } ∧
              ∀ f, (r.translateDie w.die w.asid slot).2 = .leaf f → slot < 2 ^ 55 → f.canWrite = true → f.fmt = 0 →
                let at_ := f.pa + slot % pageBytes f.level
                memoryExists at_ 128 = true → t.bytes at_ 128 = r.bytes pa 128) ∧
            ((q.tail - q.head).toNat = 2 ^ q.qsize ∨ q.ovftail ≠ q.ovfhead →
              ((q.ovftail - q.ovfhead).toNat ≠ 2 ^ q.ovfsize → code = 1 ∧ q' = { q with ovftail := q.ovftail + 1 }) ∧
              ((q.ovftail - q.ovfhead).toNat = 2 ^ q.ovfsize → code = 2 ∧ q' = q)))) ∧
    (∃ t, Ends .trigger s c t ∧
      ((∃ i, i < w.lanes.length ∧ i < 64 ∧ c.lanes.getLsbD i = false ∧ (w.lane i).stat ≠ .exited ∧ (w.lane i).triggered = false) →
        ∃ u, t.warp c.warp = some u ∧ ({ w with lanes := u.lanes } : Warp).sameButLatch u ∧ ∀ l, l < w.lanes.length → l < 64 →
          u.lane l = if c.lanes.getLsbD l = true then { w.lane l with triggered := true } else w.lane l)) ∧
    ∀ (d : SReg) (p : PReg),
      (s.hasSched w.gang = false → Traps (.next d p) s c false 0x12 3) ∧
      (s.hasSched w.gang = true → ∀ t, (s.core w.coreK).sched = some t → t.gang = w.gang → t.member = w.member →
        (∀ x, t.entries[t.cursor]? = some x → ∃ v, Ends (.next d p) s c v ∧
          v = (s.setCore w.coreK { s.core w.coreK with sched := some { t with cursor := t.cursor + 1 } }).setWarp c.warp
            ((w.setS d (BitVec.ofNat 64 x)).setP p c.lanes 0)) ∧
        (t.entries.length ≤ t.cursor → Lands (.next d p) s c ((w.setS d 0xFFFFFFFF).setP p c.lanes c.lanes)))

/-! ### The causeway -/

/-- R171 to R173, R167: a packet arrives into its channel's place in the holding buffer while that has room; the head of a channel
is delivered when no entry for its receiver asks for more deliveries than D counts, and then D counts it and its write or
read is performed. R170, R292: a packet that an agent sends goes out with the entries that are dirty for its receiver, and leaves
none. R172: a floor beat carries D; its receiver's floors become that, and an entry that is not newer stands at the floor and is
carried to no destination (log 73). R175, R128: what waited for a bucket or a walk goes on.
R180: a reseal stops injection, zeroes every counter and dirty bit once every channel is quiet, and turns injection on with the die
that rejoins live, one that had departed and has been reset. R178: a die departs once; its contexts are then killed. -/
def Obligations.CausewayPackets : Prop :=
  (∀ (s : State) (i j : Nat),
    (∀ p r, s.cway.fly i j = p :: r → p.isBeat = false → s.cway.hasSlot i j = true →
      ∃ t : State, exec (.packetArrive i j none) s = .next t ∧ t = { s with cway := t.cway } ∧ t.cway.fly i j = r ∧
        t.cway.waitingAt i j = s.cway.waitingAt i j ++ [p] ∧ t.cway.know = s.cway.know ∧ t.cway.delivered = s.cway.delivered) ∧
    (∀ p r, s.cway.fly i j = p :: r → p.isBeat = false → s.cway.hasSlot i j = false → exec (.packetArrive i j none) s = .next s) ∧
    (∀ p r, s.cway.waitingAt i j = p :: r → p.src = i → p.dst = j → p.bad = false → j < 10 → i < 10 →
      (s.deliverable p = false → exec (.packetDeliver i j) s = .next s) ∧
      (s.deliverable p = true → p.op = none → ∃ t : State, exec (.packetDeliver i j) s = .next t ∧
        (∀ l, p.body = .write l → t.cway.D j i = (s.cway.D j i + 1) % 2 ^ 16 ∧
          ∀ x, t.byte x = ((l.reverse.find? fun e => e.1 == x).map Prod.snd).getD (s.byte x)) ∧
        (∀ parts req, p.body = .readReq parts req false 0 → s.gone i = false → s.gone j = false → (∀ e ∈ s.cores, e.2.uo = []) →
          (let c := s.cway.count p; c.mayInject j i (c.carriersNow j i + 1) = true) →
          (∀ x, t.byte x = s.byte x) ∧ ((t.cway.fly j i).getLast?.map fun q => (q.src, q.dst, q.body)) =
            some (j, i, .readReply req (parts.flatMap fun x => s.bytes x.1 x.2)))) ∧
      (s.deliverable p = true ↔ (∀ e ∈ p.entries, e.2.1 = j → s.gone e.1 = false →
        let d := (e.2.2 + 2 ^ 16 - s.cway.D j e.1) % 2 ^ 16
        d = 0 ∨ 2 ^ 15 ≤ d) ∧ s.pastBeat j i ≤ 2 ^ 13)) ∧
    (∀ h d l, i < 10 → j < 10 → i ≠ j → s.gone i = false → s.gone j = false → headerBad h d = false → h.toNat / 2 ^ 8 % 2 ^ 4 = j →
      h.toNat % 2 ^ 4 < 8 → s.cway.mayInject i j 1 = true → (s.cway.entriesFor i j).length ≤ 10 →
      ∃ (t : State) (q : Packet), exec (.packetArrive i j (some (h, d, l))) s = .next t ∧ t = { s with cway := t.cway } ∧
        t.cway.fly i j = s.cway.fly i j ++ [q] ∧ q.src = i ∧ q.dst = j ∧ q.body = outsideBody h l ∧
        q.entries = s.cway.entriesFor i j ∧ t.cway.entriesFor i j = [] ∧ t.cway.K i i j = (s.cway.K i i j + 1) % 2 ^ 16) ∧
    (s.cway.reseal ≠ .normal → exec (.floorBeatSend i j) s = .next s) ∧
    (i ≠ j → s.gone i = false → s.gone j = false → s.cway.reseal = .normal → ∃ t : State, exec (.floorBeatSend i j) s = .next t ∧
      t = { s with cway := t.cway } ∧ t.cway.know = s.cway.know ∧ ∃ p d, t.cway.fly i j = s.cway.fly i j ++ [p] ∧
        p.body = .floorBeat d ∧ ∀ k, k < 10 → mget 0 d k = s.cway.D i k) ∧
    (∀ p r d, i < 10 → j < 10 → s.cway.fly i j = p :: r → p.body = .floorBeat d →
      ∃ t : State, exec (.floorBeatReceive i j) s = .next t ∧ t = { s with cway := t.cway } ∧ t.cway.fly i j = r ∧
        t.cway.delivered = s.cway.delivered ∧
        (∀ a k m, a < 10 → k < 10 → m < 10 → a ≠ j ∨ m ≠ i → t.cway.K a k m = s.cway.K a k m ∧ t.cway.F a k m = s.cway.F a k m) ∧
        ∀ k, k < 10 →
          let floor := mget 0 d k
          let ahead := (s.cway.K j k i + 2 ^ 16 - floor) % 2 ^ 16
          t.cway.F j k i = floor ∧ (1 ≤ ahead → ahead < 2 ^ 15 → t.cway.K j k i = s.cway.K j k i) ∧
          (ahead = 0 ∨ 2 ^ 15 ≤ ahead → t.cway.K j k i = floor ∧ ∀ a, a < 10 → ∀ v, (k, i, v) ∉ t.cway.entriesFor j a)) ∧
    (∀ k w cost, s.warp k = some w → w.stop = .bucket cost → s.mayCharge w.die w.ctxK 0 cost [] = true →
      ∃ t, exec (.tokenBucketReady k) s = .next t ∧ t.warp k = some { w with stop := .running }) ∧
    (∀ die w r, (s.die die).walks = w :: r → (s.ctx (ctxKey die w.asid)).hintdrop = 0 →
      (s.setDie die { s.die die with walks := r }).translate w.core w.asid w.va =
        (s.setDie die { s.die die with walks := r }, .absent) →
      ∃ t, exec (.cacheWalkDone die) s = .next t ∧ (t.die die).walks = r ∧
        (t.ctx (ctxKey die w.asid)).hintdrop = BitVec.ofNat 64 (min (2 ^ 64 - 1) w.lanes) ∧ ∀ x, t.byte x = s.byte x)) ∧
  (∀ s : State,
    (∀ r, s.cway.reseal = .normal → ∃ t : State, exec (.resealStop r) s = .next t ∧
      t = { s with cway := { s.cway with reseal := .stopped (r.filter fun d => s.gone d && (s.die d).renewed) } } ∧
      ∀ d k cl n l, t.mayCharge d k cl n l = false) ∧
    (∀ r, s.cway.reseal = .stopped r →
      (s.quiet = true → ∃ t : State, exec .resealZero s = .next t ∧ t = { s with cway := t.cway, withdrawals := t.withdrawals } ∧ t.cway.reseal = .zeroed r ∧
        ∀ i k m, t.cway.K i k m = 0 ∧ t.cway.D i k = 0 ∧ t.cway.F i k m = 0 ∧ t.cway.entriesFor i k = []) ∧
      (s.quiet = false → exec .resealZero s = .next s)) ∧
    (∀ r, s.cway.reseal = .zeroed r → s.cway.resetsHeld = [] → ∃ t : State, exec .resealReenable s = .next t ∧
      t.cway.reseal = .normal ∧ (s.host.resealFor = none → t.cway = { s.cway with reseal := .normal }) ∧ ∀ d, d < 8 → t.gone d = (s.gone d && decide (r ≠ some d))) ∧
    ∀ die, (8 ≤ die → exec (.departure die) s = .next s) ∧
      (die < 8 → ∃ t, exec (.departure die) s = .next t ∧ t.gone die = true ∧
        ∀ asid, asid < 2048 → (t.ctx (ctxKey die asid)).bound = true → (t.ctx (ctxKey die asid)).killed = true))

/-! ### Power and clocks -/

/-- R272, with R271, R257, R258 and R273: a cap or rate bound out of range is rejected: the old one stays and its bit is set; a write of 1
clears the bit. A broadcast reaches every cluster before the next one, and some at once: which of them is the model's free choice (log 3), and
so is it that a broadcast is a step of its own, with the measured power an operand of the integrator's (log 49). The integrator's step rounds RATE times 1 + step to the nearest 16.16 value and holds it within the
bounds; floors in force are scaled when their sum passes CAP - 650 W. -/
def Obligations.PowerLimits : Prop :=
  ∀ s : State,
    (∀ v : Xword,
      let p := s.power
      let cap := v.toNat % 2 ^ 13
      let lo := v.toNat % 2 ^ 32
      let hi := v.toNat / 2 ^ 32
      (cap < 1200 ∨ 5000 < cap → HostWrites (.pcapWrite v) s 9 { s with power := { p with caprej := true } }) ∧
      (1200 ≤ cap → cap ≤ 5000 → HostWrites (.pcapWrite v) s 9 { s with power := { p with cap := cap } }) ∧
      (lo < 0x100 ∨ hi < lo → HostWrites (.prateWrite v) s 9 { s with power := { p with raterej := true } }) ∧
      (0x100 ≤ lo → lo ≤ hi → HostWrites (.prateWrite v) s 9
        { s with power := { p with rmin := BitVec.ofNat 32 lo, rmax := BitVec.ofNat 32 hi } }) ∧
      HostWrites (.pstatWrite v) s 9 { s with power :=
        { p with caprej := p.caprej && !v.getLsbD 0, raterej := p.raterej && !v.getLsbD 1 } } ∧
      ∀ die asid, die < 8 → asid < 2048 → HostWrites (.pfloorWrite die asid v) s die (s.setCtx (ctxKey die asid)
        { s.ctx (ctxKey die asid) with floor := cap, maxcls := v.toNat / 2 ^ 13 % 8 })) ∧
    (∃ t : State, exec .rateBroadcast s = .next t ∧
      t = { s with clusters := t.clusters, power := { s.power with cast := s.power.rate }, tick := s.tick + 1 } ∧
      ∀ d c, d < 8 → c < clusterCount d → ∃ x ∈ [s.power.cast, s.power.rate],
        t.cluster (clusterKey d c) = { s.cluster (clusterKey d c) with xrate := x }) ∧
    ∀ (p1 other : Nat) (dies : List Nat), s.power.bounded →
      let p := s.power
      let tgt : ℚ := 980 * p.cap
      let move : ℚ := if 1000 * p.cap < p1 then 1 / 64 else max (-1 / 64) (min (1 / 64) ((p1 - tgt) / (1024 * tgt)))
      let x : ℤ := ⌊(p.rate.toNat : ℚ) * (1 + move) + 1 / 2⌋
      let x : ℤ := if move ≠ 0 ∧ x = p.rate.toNat then (if 0 < move then x + 1 else x - 1) else x
      let sum := s.floorSum
      ∃ t : State, exec (.rateIntegratorStep p1 other dies) s = .next t ∧
        (t.power.rate.toNat : ℤ) = max (p.rmin.toNat : ℤ) (min (p.rmax.toNat : ℤ) x) ∧ t.power.shownRate = t.power.rate ∧
        t.power.pmeas = min 0xFFFF (p1 / 1000) ∧ t.power.cap = p.cap ∧ (t.power.scaled = true ↔ p.cap < sum + 650) ∧
        (rising s.ctxs = true → ∀ k c, mfind s.ctxs k = some c → c.bound = true →
          (t.ctx k).efloor = if sum + 650 ≤ p.cap then c.floor else c.floor * (p.cap - 650) / sum)

/-- R277, R279, R281 to R283, R286, R290, R291, R260, R264, R267 to R269, R274, R181, R182: what moves a cluster's point, supply, trim and
samples, a link's width, an engine's gate and a die's ceiling. What a sample counts comes as operands (log 49); clocks of a kind that
no partition has been in count as none, by the model's choice (log 23). R262, R276: a wake for an `mma` charges its energy. -/
def Obligations.Clocks : Prop :=
  ∀ (s : State) (die cl : Nat),
    let key := clusterKey die cl
    let c := s.cluster key
    let d := s.die die
    let mv (k : Nat) := 550 + 50 * min 7 k
    let under (t : State) (k : Nat) := k = 0 ∨ pointMhz k ≤ (t.die die).ceil
    let pins (i : Instr) (k : Nat) := s.hostReaches die → ∃ t : State, exec i s = .next t ∧ (t.cluster key).clkResult = 0 ∧ (t.cluster key).pinned = true ∧
      (t.cluster key).pinPoint = k ∧ (c.gated = false → d.widening = none → under t (t.cluster key).point ∧ (t.cluster key).point ≤ k)
    let denies (i : Instr) (r : Nat) := HostWrites i s die (s.setCluster key { c with clkResult := r })
    (c.mv < mv c.point → exec (.voltageStep die cl) s = .next (s.setCluster key { c with mv := min (mv c.point) (c.mv + 5) })) ∧
    (mv c.point < c.mv → c.clampMhz ≤ pointMhz c.point →
      exec (.voltageStep die cl) s = .next (s.setCluster key { c with mv := max (mv c.point) (c.mv - 5) })) ∧
    (mv c.point ≤ c.mv → ∃ t, exec (.voltageReached die cl) s = .next t ∧ (t.cluster key).clampMhz = pointMhz c.point) ∧
    (∃ t, exec (.clusterWake die cl) s = .next t ∧ (t.cluster key).gated = false ∧
      (c.pinned = false → d.widening = none → under t (t.cluster key).point ∧ (t.cluster key).point ≤ 4)) ∧
    (c.asid = none → c.gated = false → c.idleSince + 100000 ≤ s.now → d.widening = none →
      ∃ t, exec (.clusterGate die cl) s = .next t ∧ (t.cluster key).gated = true ∧ (t.cluster key).point = 0) ∧
    (∀ occupied stalled energy, let i := Instr.stallSampleEnd die cl occupied stalled energy
      (s.timeOf die < c.sampleEnd → exec i s = .next s) ∧
      (c.sampleEnd ≤ s.timeOf die → ∃ t, exec i s = .next t ∧
        let occ := if c.occSeen = true then occupied else 0
        let stl := if c.stallSeen = true then min stalled occ else 0
        (t.cluster key).stallr = BitVec.ofNat 16 (if occ = 0 then 0 else min 0xFFFF (65536 * stl / occ)) ∧
        (t.cluster key).sampleEnd = 10000 * (s.timeOf die / 10000 + 1) ∧
        ∀ a, c.asid = some a → (t.ctx (ctxKey die a)).energy =
          (s.ctx (ctxKey die a)).energy + BitVec.ofNat 64 (energy - c.charged / 65536))) ∧
    (∀ power, (∀ k, (s.ctx k).maxcls ≤ 7) → ∃ t : State, exec (.limiterSample die power) s = .next t ∧
      t = { s.setDie die { d with sample := power } with clusters := t.clusters } ∧ ∀ x, x < clusterCount die →
        let old (y : Nat) := (s.cluster (clusterKey die y)).trim
        let new := (t.cluster (clusterKey die x)).trim
        new = if d.budget < power ∧ old x < 25 ∧ (∀ y, y < clusterCount die → old y < 25 → s.trimRank die x ≤ s.trimRank die y)
            then min 25 (old x + 5)
          else if power ≤ d.budget ∧ 100 * power < 97 * d.budget ∧ 0 < old x ∧
              (∀ y, y < clusterCount die → 0 < old y → s.trimRank die y ≤ s.trimRank die x) then old x - 1
          else old x) ∧
    ((d.sample ≤ d.budget → exec (.emergencyStep die) s = .next s) ∧
      (d.budget < d.sample → ∃ t, exec (.emergencyStep die) s = .next t ∧
        let due (x : Cluster) := (∃ t0, x.fullTrimSince = some t0 ∧ t0 + 100000 ≤ s.now) ∧ (x.lastDrop = 0 ∨ x.lastDrop + 10000 ≤ s.now)
        (∀ x, x < clusterCount die → ¬due (s.cluster (clusterKey die x)) →
          t.cluster (clusterKey die x) = s.cluster (clusterKey die x)) ∧
        (c.asid = none → cl < clusterCount die → due c → d.widening = none →
          (t.cluster key).point = c.point - 1 ∧ (t.cluster key).lastDrop = s.now))) ∧
    (rising s.ctxs = true → ∃ t : State, exec .skewBiasDecay s = .next t ∧ t = { s with ctxs := t.ctxs } ∧
      ∀ k, (t.ctx k).bias = (s.ctx k).bias - 1) ∧
    (∀ core stalls bytes, let k := s.core (coreKey die core)
      k.prefetch ∈ [0, 1, 2, 4, 8] → exec (.prefetchDepthChooser die core stalls bytes) s = .next s ∨
        (k.depthSince + 50000 ≤ s.now ∧ ∃ n ∈ [0, 1, 2, 4, 8], exec (.prefetchDepthChooser die core stalls bytes) s =
          .next (s.setCore (coreKey die core) { k with prefetch := n, depthSince := s.now }))) ∧
    (∀ packets traffic, exec (.causewayWidthChooser die packets traffic) s = .next s ∨ ∃ w ∈ [16, 32, 64],
      100 * traffic < 95 * (6000 * w / 64 * 100000) ∧ exec (.causewayWidthChooser die packets traffic) s =
        .next (s.setDie die { d with widening := some w, widthDwell := s.now })) ∧
    (∀ w, d.widening = some w → ∃ t, exec (.linkWidthChangeDone die) s = .next t ∧ (t.die die).width = w ∧
      (t.die die).widening = none ∧ (t.die die).heldPoints = []) ∧
    exec (.engineWake die cl true) s = .next (s.setCluster key { c with copyGated := false }) ∧
    (∀ n, let k := s.core (coreKey die n)
      let awake := s.setCore (coreKey die n) { k with gated := false }
      (k.gated = false ∨ k.mq = [] ∨ (∃ q r, k.mq = q :: r ∧ q.kind ≠ .mma) → exec (.engineWake die n false) s = .next awake) ∧
      (k.gated = true → ∀ q r, k.mq = q :: r → q.kind = .mma → ∃ t : State, exec (.engineWake die n false) s = .next t ∧
        t = { awake with clusters := t.clusters, ctxs := t.ctxs } ∧
        let nj := if die < 4 then 40 else 10
        (t.ctx (ctxKey die q.asid)).energy = (s.ctx (ctxKey die q.asid)).energy + BitVec.ofNat 64 nj ∧
        (t.cluster (clusterKey die (n / 8))).charged = (s.cluster (clusterKey die (n / 8))).charged + 65536 * nj)) ∧
    (∃ t, exec (.ceilingEffective die) s = .next t ∧ (t.die die).ceil = s.ceilAt die (s.timeOf die) ∧
      (d.widening = none → ∀ x, x < clusterCount die → (t.cluster (clusterKey die x)).gated = false →
        under t (t.cluster (clusterKey die x)).point)) ∧
    (s.knows die (memberId die) = false →
      exec (.ceilingRepublish die) s = .next s ∧
      (∀ mhz, ∃ t, exec (.thermalLimitChange die mhz) s = .next t ∧ (t.die die).thermal = mhz ∧
        (t.die die).ceil = min d.dceil mhz) ∧
      ∀ v : Xword, die < 8 →
        let x := v.toNat % 2 ^ 12
        (x = 0 → HostWrites (.clkdieWrite die v) s die (s.setDie die { d with rej := d.rej && !v.getLsbD 12 })) ∧
        (x ≠ 0 → x < 600 ∨ 2300 < x → HostWrites (.clkdieWrite die v) s die (s.setDie die { d with rej := true })) ∧
        (600 ≤ x → x ≤ 2300 → s.hostReaches die → ∃ t, exec (.clkdieWrite die v) s = .next t ∧ (t.die die).dceil = x ∧
          (t.die die).ceil = min x d.thermal)) ∧
    ∀ v : Xword, die < 8 → cl < clusterCount die →
      let n := v.toNat
      let k := n / 2 ^ 2 % 8
      let delta : Int := c.point + (BitVec.ofNat 4 (n / 2 ^ 5)).toInt
      (n / 2 ^ 9 ≠ 0 ∨ n % 4 = 3 → denies (.clkreqReservedMode die cl v) 3) ∧
      (n / 2 ^ 9 = 0 → n % 4 = 0 → HostWrites (.clkreqRelease die cl v) s die
        (s.setCluster key { c with clkResult := 0, pinned := false, pinPoint := 0 })) ∧
      (n / 2 ^ 9 = 0 → n % 4 = 2 → pins (.clkreqPinPoint die cl v) k) ∧
      (n / 2 ^ 9 = 0 → n % 4 = 1 →
        (delta < 0 → denies (.clkreqPinDelta die cl v) 1) ∧ (7 < delta → denies (.clkreqPinDelta die cl v) 2) ∧
        (0 ≤ delta → delta ≤ 7 → pins (.clkreqPinDelta die cl v) delta.toNat))

/-- R286 to R288, R198: what a member does with each chain message: entries are kept in order of their effective times, the latest
first, a late one counted; of two with one time the one received last counts, by the model's choice (log 39). A joining member is
known from its time, and a member learns of others from snapshots; a leave or removal names the earliest end. A malformed message is only counted, and one from a die that is no member changes nothing. A member silent for 400
microseconds is removed, and a change of membership drops those whose time has come. -/
def Obligations.Chains : Prop :=
  ∀ (s : State) (die : Nat),
    let d := s.die die
    let me := memberId die
    let now := s.timeOf die
    let five (w0 w1 w2 w3 : Xword) := [Instr.chainCeilingMessage die w0 w1 w2 w3, .chainJoin die w0 w1 w2 w3,
      .chainSnapshot die w0 w1 w2 w3, .chainLeave die w0 w1 w2 w3, .chainRemove die w0 w1 w2 w3]
    (∀ (ceil member effect sent sender : Nat), member < 2 ^ 28 → sender < 2 ^ 28 → sent + 50000 ≤ effect → effect < 2 ^ 64 →
      let w0 (kind ceil : Nat) : Xword := BitVec.ofNat 64 (kind + 2 ^ 16 * ceil + 2 ^ 32 * member)
      let w (n : Nat) : Xword := BitVec.ofNat 64 n
      let ceiling := Instr.chainCeilingMessage die (w0 0 ceil) (w effect) (w sent) (w sender)
      let join := Instr.chainJoin die (w0 1 ceil) (w effect) (w sent) (w sender)
      let snapshot := Instr.chainSnapshot die (w0 2 ceil) (w effect) (w sent) (w sender)
      let leave := Instr.chainLeave die (w0 3 0) (w effect) (w sent) (w sender)
      let remove := Instr.chainRemove die (w0 4 0) (w effect) (w sent) (w sender)
      let heard (m : ChainMember) : ChainMember := if m.id = sender then { m with heard := now } else m
      let onMember (f : ChainMember → ChainMember) := (d.chain.map fun m => if m.id = member then f m else m).map heard
      let gives (i : Instr) (late : Nat) (l : List ChainMember) := ∃ t, exec i s = .next t ∧ (t.die die).chain = l ∧
        (t.die die).lateEntries = d.lateEntries + late
      let fresh (at_ : Nat) : ChainMember :=
        { id := member, joinAt := at_, leaveAt := none, entries := [(effect, ceil)], heard := now, told := false }
      let later (e : Nat × Nat) := decide (effect < e.1)
      let publish (m : ChainMember) : ChainMember :=
        { m with entries := m.entries.takeWhile later ++ (effect, ceil) :: m.entries.dropWhile later }
      let endsAt (m : ChainMember) : ChainMember := { m with leaveAt := some (match m.leaveAt with
        | none => effect
        | some l => min l effect) }
      let late := if effect < now then 1 else 0
      (s.knows die me = false → 600 ≤ ceil → ceil ≤ 2300 → ∀ i ∈ [ceiling, join, snapshot, leave, remove], exec i s = .next s) ∧
      (s.knows die sender = false → 600 ≤ ceil → ceil ≤ 2300 → ∀ i ∈ [ceiling, leave, remove], exec i s = .next s) ∧
      (s.knows die me = true →
        (600 ≤ ceil → ceil ≤ 2300 →
          (s.knows die sender = true → gives ceiling late (onMember publish)) ∧
          (member ≠ me → gives join late (((d.chain.filter fun m => m.id ≠ member) ++ [fresh effect]).map heard)) ∧
          (sender ∉ d.removed →
            (s.knows die member = true → gives snapshot late (onMember publish)) ∧
            (s.knows die member = false → gives snapshot late ((d.chain ++ [fresh 0]).map heard))) ∧
          (sender ∈ d.removed → gives snapshot 0 (d.chain.map heard))) ∧
        (s.knows die sender = true →
          gives leave 0 (onMember endsAt) ∧ gives remove 0 (onMember fun m => { endsAt m with told := true })))) ∧
    (∀ w0 w1 w2 w3 : Xword,
      let kind := w0.toNat % 16
      let ceil := w0.toNat / 2 ^ 16 % 2 ^ 12
      4 < kind ∨ w0.toNat / 16 % 2 ^ 12 ≠ 0 ∨ w0.toNat / 2 ^ 28 % 16 ≠ 0 ∨ w3.toNat / 2 ^ 32 ≠ 0 ∨ (kind ≤ 2 ∧ (ceil < 600 ∨ 2300 < ceil)) ∨
        w1.toNat < w2.toNat + 50000 →
      ∀ i ∈ five w0 w1 w2 w3, exec i s = .next (s.setDie die { d with badMessages := d.badMessages + 1 })) ∧
    (die < 8 → s.knows die me = true →
      (∃ t, exec (.ceilingRepublish die) s = .next t ∧ ∀ m ∈ (t.die die).chain, m.id = me →
        m.entries.find? (fun e => decide (e.1 ≤ now + 50000)) = some (now + 50000, max 600 (min 2300 (min d.dceil d.thermal)))) ∧
      ∀ x, x ≠ me → (∃ m ∈ d.chain, m.id = x ∧ m.heard + 400000 ≤ now) →
        ∃ t, exec (.chainSilenceTimeout die x) s = .next t ∧ ∀ m ∈ (t.die die).chain, m.id = x →
          ∃ l, m.leaveAt = some l ∧ l ≤ now + 50000) ∧
    ∃ t, exec (.membershipChangeEffective die) s = .next t ∧
      (∀ m ∈ (t.die die).chain, m ∈ d.chain ∧ ∀ l, m.leaveAt = some l → now < l) ∧
      ((∀ m ∈ d.chain, ∀ l, m.leaveAt = some l → now < l) → (t.die die).chain = d.chain)

/-! ### Engines, launches and switches -/

/-- R188, R189, R196, R197, R198, R203, R207, R396: a slice of a local `cpy` moves bytes within one sector of its destination, and
the copy goes on behind it, or with a slice that it had passed over (log 69); a copy, a collective or an abandoned collective that ends
leaves its engine, its status word is written with 1, its fault or 3, and the copy counter of its warp falls; a collective whose
results are written is not abandoned. `mzero` zeroes its region, and a matrix command that has run leaves its queue. -/
def Obligations.EngineEvents : Prop :=
  ∀ (s : State) (die cl core id : Nat),
    let clk := clusterKey die cl
    let colls (t : State) := (t.die die).colls
    let ends (i : Instr) (k d a pa word : Nat) (gone : State → Prop) := ∃ t, exec i s = .next t ∧ gone t ∧
      (memoryExists pa 8 = true → t.num pa 8 = word) ∧
      ((s.core (k / 2 ^ 9)).uo = [] → ∀ x, x < pa ∨ pa + 8 ≤ x → t.byte x = s.byte x) ∧
      ∀ w, s.warp k = some w → w.ofCtx d a = true → ∃ u, t.warp k = some u ∧ u.copies = w.copies - 1
    (s.turn clk = none → exec (.copySlice die cl) s = .next s) ∧
    (∀ c src dst n, s.turn clk = some c → c.kind = .linear src dst n true true → c.acq = false →
      let a := src + c.slice
      let b := dst + c.slice
      let m := min (n - c.slice) (128 - b % 128)
      ∃ t, exec (.copySlice die cl) s = .next t ∧ t.mem = s.mem ∧ t.warps = s.warps ∧
        (∀ k, k < m → t.localByte c.gang (b + k) = s.localByte c.gang (a + k)) ∧
        (∀ g x, (∀ k, k < m → localKey g x ≠ localKey c.gang (b + k)) → t.localByte g x = s.localByte g x) ∧
        (t.cluster clk).lastTurn = c.warp ∧ (t.cluster clk).cq = (s.cluster clk).cq.map fun q =>
          if q.id = c.id then ({ q with slice := q.slice + m, draw := c.draw, owes := c.owes, fetched := [] } : CopyCmd).settled else q) ∧
    (∀ c, ((s.cluster clk).cq.find? fun c => c.id == id && c.canEnd) = some c →
      let gone (t : State) := (t.cluster clk).cq = (s.cluster clk).cq.filter fun q => q.id ≠ id
      (c.fault = none → c.counter = 0 → ends (.copyComplete die cl id) c.warp c.die c.asid c.tokenPa 1 gone) ∧
      ∀ cause va, c.fault = some (cause, va) → (s.ctx (ctxKey c.die c.asid)).evring = 0 →
        ends (.copyComplete die cl id) c.warp c.die c.asid c.tokenPa ((2 + 2 ^ 8 * cause + 2 ^ 16 * (va / 2 ^ 9 % 2 ^ 48)) % 2 ^ 64) gone) ∧
    (∀ c i others late, ((colls s).find? fun x => x.1.id == id && x.1.idle) = some (c, i) → c.die = die → c.slice = 2 →
      c.fault = none → c.counter = 0 → ends (.collectiveComplete die id others late) c.warp die c.asid c.tokenPa 1
        fun t => colls t = (colls s).filter fun x => x.1.id ≠ id) ∧
    (∀ c i, ((colls s).find? fun x => x.1.id == id) = some (c, i) → c.die = die →
      (c.slice = 2 → exec (.collectiveAbandon die id) s = .next s) ∧
      (c.slice ≠ 2 → ∃ t, exec (.collectiveAbandon die id) s = .next t ∧ ∀ m ∈ s.collIssued c, ∀ x ∈ (t.die m.die).colls, x.1.id ≠ m.id) ∧
      (c.slice ≠ 2 → s.collIssued c = [c] → ends (.collectiveAbandon die id) c.warp die c.asid c.tokenPa 3 fun t =>
        colls t = (colls s).filter fun x => x.1.id ≠ id)) ∧
    ∀ c r, (s.core (coreKey die core)).mq = c :: r → s.canRun c = true → c.warp / 2 ^ 9 = coreKey die core →
      let b := MBlock.of c.block
      c.ran = true ∨ c.kind = .mzero → ∃ t, exec (.matrixCommandComplete die core) s = .next t ∧ t.mem = s.mem ∧
        (t.core (coreKey die core)).mq = r ∧
        (c.ran = false → ∀ m n, m < b.m → n < b.n → (t.core (coreKey die core)).accAt (512 * (b.row0 + m) + b.col0 + n) = 0) ∧
        ∀ w, s.warp c.warp = some w → w.ofCtx c.die c.asid = true → ∃ u, t.warp c.warp = some u ∧ u.matrix = w.matrix - 1

/-- R229, R230, R232 to R235, R237, R238, R240 to R242, R12, R225: a doorbell moves TAIL unless it passes the ring or the queue is a
device queue's; a head launch is taken and HEAD moves; overflow records move into the ring; a prologue rewrites its record or ends its
launch; a signal makes the head eligible; the placer seats a gang's warps at the entry; a head that has stood blocked for 20
microseconds, while its context holds a cluster, reserves a window; a gang whose warps have ended retires. The model's choices: a
prologue runs in one step (log 50), a gang retires once what its warps issued is done (log 51), an overflow record moves though its
slot cannot be written (log 34), and a WAITSIG is read when its turn comes (log 54). -/
def Obligations.LaunchEvents : Prop :=
  ∀ (s : State) (die n : Nat),
    let key := queueKey die n
    let q := s.queue key
    let gives (i : Instr) (f : State → Prop) := ∃ t, exec i s = .next t ∧ f t
    let ended (t : State) (lid status : Nat) := ∃ x, mfind t.launches lid = some x ∧ (x.stage = .ending status ∨ x.stage = .ended status)
    (∀ v : BitVec 32, die < 8 → n < 256 → HostWrites (.doorbellWrite die n v) s die (s.setQueue key
      (if q.devq = true ∨ 2 ^ q.qsize < (v - q.head).toNat then { q with overrun := true } else { q with tail := v }))) ∧
    (s.canTake die n = false → exec (.headLaunchTake die n) s = .next s) ∧
    (s.canMove die n = false → exec (.overflowMove die n) s = .next s) ∧
    (s.canTake die n = true → ∀ v,
      (∀ l, s.frontPage die q.asid (q.qbase + 128 * (q.head.toNat % 2 ^ q.qsize)) 128 false = .bytes v l →
        gives (.headLaunchTake die n) fun t => ∃ lid x, t.queue key = { q with head := q.head + 1, headLaunch := some lid } ∧
          mfind t.launches lid = some x ∧ x.stage = .taken ∧ x.record = wordsOf l ∧ x.slot = q.head ∧ x.asid = q.asid) ∧
      (s.frontPage die q.asid (q.qbase + 128 * (q.head.toNat % 2 ^ q.qsize)) 128 false = .bad v →
        gives (.headLaunchTake die n) fun t => t.queue key = { q with enable := false, rfault := true })) ∧
    (s.canMove die n = true → ∀ v l, s.frontPage die q.asid (q.ovfbase + 128 * (q.ovfhead.toNat % 2 ^ q.ovfsize)) 128 false = .bytes v l →
      let slot := v.slotWrite die q.asid (q.qbase + 128 * (q.tail.toNat % 2 ^ q.qsize)) l
      gives (.overflowMove die n) fun t =>
        t.queue key = if slot.isSome = true then { q with ovfhead := q.ovfhead + 1, tail := q.tail + 1 } else q) ∧
    (∀ lid l, q.headLaunch = some lid → mfind s.launches lid = some l →
      (l.stage = .taken → l.prologue ≠ 0 → ∀ v,
        (s.proLoop 256 l.proWarp = .ended v none → gives (.prologueRun die n) fun t => ended t lid 6) ∧
        ∀ w, s.proLoop 256 l.proWarp = .ended v (some w) → gives (.prologueRun die n) fun t =>
          let action := (w.s 47).toNat % 4
          (action % 2 = 1 → ended t lid 2) ∧
          (action % 2 = 0 → mfind t.launches lid = some { l with
            record := (List.range 16).map fun k => w.s (BitVec.ofNat 6 (48 + k)), stage := .rewritten, repeats := action == 2 })) ∧
      (l.stage = .checked → s.depHolds l = true →
        (l.waitsig = 0 ∨ l.met = true →
          gives (.waitsigSatisfied die n) fun t => mfind t.launches lid = some { l with stage := .eligible }) ∧
        (l.waitsig ≠ 0 → l.met = false → l.waiting ≠ none → exec (.waitsigSatisfied die n) s = .next s) ∧
        (l.waitsig ≠ 0 → l.met = false → l.waiting = none → ∀ v pa, s.waitsigPa l = (v, some pa) → pa / 2 ^ 48 = l.die →
          let u := v.fresh.2.homeRead pa 8 0 true
          (l.word 11 ≤ u.num pa 8 → gives (.waitsigSatisfied die n) fun t => mfind t.launches lid = some { l with met := true }) ∧
          (u.num pa 8 < l.word 11 → ((u.die l.die).monitors.filter fun m => sliceOf m.addr == sliceOf pa).length < 512 →
            gives (.waitsigSatisfied die n) fun t => ∃ m, mfind t.launches lid = some { l with waiting := some m } ∧
              m ∈ (t.die l.die).monitors ∧ m.addr = pa ∧ m.wide = true ∧ m.value.toNat = l.word 11))) ∧
      ∀ t0, l.blockedSince = some t0 →
        (s.now < t0 + 20000 → exec (.headGangAgeTimeout die n) s = .next s) ∧
        (s.clustersOf die q.asid = [] → exec (.headGangAgeTimeout die n) s = .next s) ∧
        (t0 + 20000 ≤ s.now → s.clustersOf die q.asid ≠ [] → l.window = none → l.coResident = false →
          (∃ w ∈ windowsOf (s.regionOf l) l.members, s.serves l.die w.1 l.asid = true ∧ s.overlaps lid l.die w.1 w.2 l.members = false) →
          ∃ w ∈ windowsOf (s.regionOf l) l.members, s.serves l.die w.1 l.asid = true ∧ s.overlaps lid l.die w.1 w.2 l.members = false ∧
            exec (.headGangAgeTimeout die n) s = .next (s.setLaunch lid { l with window := some w }))) ∧
    (s.headsOf die = [] → exec (.placerPass die) s = .next s) ∧
    (∀ lid l w c u, s.headsOf die = [lid] → mfind s.launches lid = some l → l.stage = .eligible → l.coResident = false →
      l.gangs = l.nextGang + 1 → s.findWindow lid l = some (w, c, u) → gives (.placerPass die) fun t =>
        (∃ x, mfind t.launches lid = some x ∧ x.stage = .placed ∧ x.nextGang = l.gangs ∧ x.window = none) ∧
        ∃ g x, mfind t.gangs g = some x ∧ x.launch = lid ∧ x.index = l.nextGang ∧ x.cluster = w ∧ x.core = c ∧ x.members = l.members ∧
          x.warps = l.warps ∧ x.base = 16384 * u ∧ x.localBytes = l.localBytes ∧
          ∀ m k, m < l.members → k < l.warps →
            let ck := coreKey l.die (c + m)
            let p := (k + (s.core ck).rotation) % 32
            ∃ y, t.warp (16 * (32 * ck + p) + s.freeSlot ck p) = some y ∧ y.gang = g ∧ y.member = m ∧ y.index = k ∧
              y.alloc = l.alloc ∧ y.sregs = [] ∧ y.vregs = [] ∧ y.lanes.length = l.width ∧
              ∀ j, j < l.width → (y.lane j).pc = BitVec.ofNat 64 l.entry ∧ (y.lane j).stat = .candidate) ∧
    ∀ g x, mfind s.gangs g = some x →
      (s.gangDone g = false → exec (.gangRetire g) s = .next s) ∧
      (s.gangDone g = true → gives (.gangRetire g) fun t => mfind t.gangs g = none ∧ (∀ e ∈ t.warps, e.2.gang ≠ g) ∧
        (∀ e ∈ t.lmem, e.1 / 2 ^ 24 ≠ g) ∧
        ∀ l, mfind s.launches x.launch = some l → l.stage = .placed → x.launch < s.nextId →
          (l.retired + 1 = l.gangs → ended t x.launch 1) ∧
          (l.retired + 1 ≠ l.gangs → ∃ y, mfind t.launches x.launch = some y ∧ y.stage = .placed ∧ y.retired = l.retired + 1))

/-- R253, R250 to R252, R208, R243: the stages of a switch, each from the one before: the context's warps on the clusters stop issuing; loads
and copies drain and matrix commands are discarded; what its cores hold goes home; its warps go to the save area; its clusters are
cleared; and on admission every warp comes back, at its label where it has one. In what order a save area holds the records and the
context's registers is the model's choice (log 41). -/
def Obligations.Switches : Prop :=
  ∀ (s : State) (die asid : Nat),
    let ck := ctxKey die asid
    let c := s.ctx ck
    let gives (i : Instr) (f : State → Prop) := ∃ t, exec i s = .next t ∧ f t
    let leaves (w : Warp) := w.ofCtx die asid = true ∧ w.cluster ∈ c.leaving
    (∀ clusters, (c.stage ≠ .running ∧ c.stage ≠ .cleared → exec (.switchStop die asid clusters) s = .next s) ∧
      (c.stage = .running ∨ c.stage = .cleared → (∃ x ∈ clusters, x < clusterCount die ∧ (s.cluster (clusterKey die x)).asid = some asid) →
        gives (.switchStop die asid clusters) fun t => t = { s with ctxs := t.ctxs } ∧ (t.ctx ck).stage = .stopped ∧
          (∀ x ∈ c.leaving, x ∈ (t.ctx ck).leaving) ∧
          (∀ x ∈ clusters, x < clusterCount die → (s.cluster (clusterKey die x)).asid = some asid → x ∈ (t.ctx ck).leaving) ∧
          ∀ w : Warp, w.die = die → w.asid = asid → w.cluster ∈ (t.ctx ck).leaving → t.isReady w = false)) ∧
    (c.stage = .stopped → gives (.switchDrain die asid) fun t =>
      (s.noPending → (∀ e ∈ s.cores, e.2.mq = []) → t.mem = s.mem) ∧
      (∀ cl ∈ s.leavingNow die asid, ∀ k, k < 8 → (t.core (coreKey die (8 * cl + k))).mq = []) ∧
      (∀ e ∈ t.warps, leaves e.2 → e.2.matrix = 0) ∧
      ((∀ e ∈ t.warps, leaves e.2 → (∀ l ∈ e.2.loads, l.lost ≠ none) ∧ e.2.copies = 0) → (t.ctx ck).stage = .drained) ∧
      ((∃ e ∈ t.warps, leaves e.2 ∧ ¬((∀ l ∈ e.2.loads, l.lost ≠ none) ∧ e.2.copies = 0)) → (t.ctx ck).stage = .stopped)) ∧
    (c.stage = .drained → gives (.switchWriteBack die asid) fun t => (t.ctx ck).stage = .writtenBack ∧
      ∀ cl ∈ s.leavingNow die asid, ∀ k, k < 8 → ∀ x, (t.sector (coreKey die (8 * cl + k)) x).dirty = 0 ∧
        mfind (t.core (coreKey die (8 * cl + k))).uo x = none) ∧
    (c.stage = .writtenBack → rising s.warps = true →
      (c.savebase = 0 → gives (.switchSave die asid) fun t => t.mem = s.mem ∧ (t.ctx ck).stage = .saved ∧
        ∀ k w, s.warp k = some w → (leaves w → t.warp k = none ∧ mfind (t.ctx ck).savedWarps k = some w.markRestart) ∧
          (¬leaves w → t.warp k = some w)) ∧
      ∀ k w, s.warps = [(k, w)] → leaves w → k < 2 ^ 39 → w.lanes.length ≤ 64 → c.savebase ≠ 0 →
        let pa := c.savebase + c.saveEnd
        let regs := pa + (w.recordBytes + 63) / 64 * 64
        memoryExists pa w.recordBytes = true → memoryExists regs 40 = true → gives (.switchSave die asid) fun t => t.warp k = none ∧
          w.markRestart.toRecord.length = w.recordBytes ∧
          (∀ j, j < w.recordBytes → t.byte (pa + j) = w.markRestart.toRecord.getD j 0) ∧
          t.num regs 8 = c.lrate.toNat ∧ t.num (regs + 8) 8 = c.pwrcls % 2 ^ 64 ∧ t.num (regs + 16) 8 = c.trapvec.toNat ∧
          t.num (regs + 24) 8 = c.ptbase.toNat ∧ t.num (regs + 32) 8 = c.efloor % 2 ^ 64) ∧
    (c.stage = .saved → gives (.switchClear die asid) fun t => t.mem = s.mem ∧ (t.ctx ck).stage = .cleared ∧
      ∀ cl ∈ c.leaving, (s.cluster (clusterKey die cl)).asid = some asid → (t.cluster (clusterKey die cl)).asid = none ∧
        ∀ k, k < 8 → let x := t.core (coreKey die (8 * cl + k))
          x.acc = [] ∧ x.hists = [] ∧ x.l1 = [] ∧ x.uo = [] ∧ x.mq = [] ∧ x.sched = none) ∧
    (∀ i ∈ [Instr.switchDrain die asid, .switchWriteBack die asid, .switchSave die asid, .switchClear die asid, .switchAdmit die asid],
      c.stage = .running → exec i s = .next s) ∧
    (c.stage = .cleared → c.savebase = 0 → rising c.savedWarps = true → rising c.savedGangs = true →
      (∀ e ∈ c.savedGangs, s.serves die e.2.cluster asid = true) → gives (.switchAdmit die asid) fun t =>
        (t.ctx ck).stage = .running ∧ (t.ctx ck).leaving = [] ∧ (t.ctx ck).savedWarps = [] ∧
        (∀ g x, mfind c.savedGangs g = some x → (t.cluster (clusterKey die x.cluster)).asid = some asid ∧
          ∃ y, mfind t.gangs g = some y ∧ y.cluster = x.cluster ∧ y.base = x.base) ∧
        ∀ k w, mfind c.savedWarps k = some w → ∃ u, t.warp k = some u ∧ u.sregs = w.sregs ∧ u.vregs = w.vregs ∧ u.pregs = w.pregs ∧
          u.stop = .running ∧
          (w.restart &&& 0x01FFFFFFFFFFFFFC = 0 ∨ w.priv = true → u = { w with stop := .running }) ∧
          (w.restart &&& 0x01FFFFFFFFFFFFFC ≠ 0 → w.priv = false → u.restart = (w.restart &&& 0x01FFFFFFFFFFFFFC) ||| 1 ∧
            u.loops = [] ∧ u.masks = [] ∧ ∀ l, l < w.lanes.length → l < 64 → (w.lane l).stat ≠ .exited →
              (u.lane l).pc = w.restart &&& 0x01FFFFFFFFFFFFFC ∧ (u.lane l).stat = .candidate))

/-- R254 to R256, R134, R443: a kill ends the warps of its context, stops its queues, frees its clusters and posts its record; an
uncorrectable error kills the contexts it touches; F3 resolves a recorded miss by writing the entry, and its warps go on, or they trap
with XLATE kind 0. That the record stands in H's memory in the same step is the model's choice where the channel allows it (log 60),
and so is the place of the tables that F3 adds (log 52). -/
def Obligations.KillsAndMisses : Prop :=
  ∀ (s : State) (die asid : Nat),
    let ck := ctxKey die asid
    let gives (i : Instr) (f : State → Prop) := ∃ t, exec i s = .next t ∧ f t
    (∀ reason, ((s.ctx ck).killed = true → exec (.kill die asid reason) s = .next s) ∧
      ((s.ctx ck).killed = false → gives (.kill die asid reason) fun t => (t.ctx ck).killed = true ∧
        (∀ e ∈ t.warps, e.2.ofCtx die asid = false) ∧
        (∀ q, q / 256 = die → (s.queue q).asid = asid → (t.queue q).enable = false) ∧
        (∀ cl, cl < clusterCount die → (t.cluster (clusterKey die cl)).asid ≠ some asid) ∧
        let h := s.host
        (h.etail - h.ehead).toNat < 2 ^ h.esize → t.host.etail = h.etail + 1 ∧
          (reason < 256 → die < 16 → asid < 2048 → s.hostHears → t.num (hostPa (h.ebase + 64 * (h.etail.toNat % 2 ^ h.esize))) 8 = 0x13 + 2 ^ 8 * reason + 2 ^ 32 * die + 2 ^ 36 * asid))) ∧
    (∀ asids place scrubbed address, gives (.uncorrectableError die asids { kind := place, scrubbed := scrubbed } address) fun t =>
      (∀ a ∈ asids, (s.ctx (ctxKey die a)).bound = true → (t.ctx (ctxKey die a)).killed = true) ∧
      (place ≤ 3 → address / 2 ^ 16 ∈ t.host.retired ∧ (scrubbed = true → ∀ k c, mfind s.ctxs k = some c → c.bound = true →
        s.mapsFrame k (address / 2 ^ 16) = true → (t.ctx k).killed = true))) ∧
    exec (.softErrorCorrected die) s = .next (s.setDie die { s.die die with softErrors := (s.die die).softErrors + 1 }) ∧
    ∀ page,
      ((s.die die).hasFault asid page = false → (∀ level area w0 w1, exec (.faultResolved die asid ⟨page, level, area⟩ w0 w1) s = .next s) ∧
        exec (.faultUnresolvable die asid page) s = .next s) ∧
      ((s.die die).hasFault asid page = true → rising s.warps = true →
        (∀ level area w0 w1,
          let va := 2 ^ 16 * page
          let pa := w0.toNat / 2 ^ 7 % 2 ^ 45 * 2 ^ 7
          let i := Instr.faultResolved die asid ⟨page, level, area⟩ w0 w1
          let mayMap := s.maps die asid (va / pageBytes level * pageBytes level) pa level w1.toNat
          let goesOn (v : State) := s.launches = [] → gives i fun t => (t.die die).hasFault asid page = false ∧
              (∀ k w va, s.warp k = some w → w.waitsAt die asid page = some va → ∃ u, t.warp k = some u ∧ u.stop = .running) ∧
              ∀ x, t.byte x = v.byte x
          ((∃ l, s.walk die asid va = .leaf l) → goesOn s) ∧
          ((∀ l, s.walk die asid va ≠ .leaf l) →
            (mayMap = false ∨ area / 2 ^ 48 ≠ die ∨ s.mapLeaf die asid va level area w0.toNat w1.toNat = none → exec i s = .next s) ∧
            ∀ v, mayMap = true → area / 2 ^ 48 = die → s.mapLeaf die asid va level area w0.toNat w1.toNat = some v → goesOn v)) ∧
        ((s.ctx ck).trapvec ≠ 0 → (∀ e ∈ s.cores, e.2.mq = []) → (∀ e ∈ s.warps, e.2.priv = false) → s.queues = [] → s.launches = [] →
          gives (.faultUnresolvable die asid page) fun t => ∀ k w va pc lanes, s.warp k = some w → w.waitsAt die asid page = some va →
            w.primary = some (pc, lanes) → ∃ u, t.warp k = some u ∧ u.trapcause = 0x05 ∧ u.trapinfo.toNat = va % 2 ^ 57 ∧
              u.trappc = pc ∧ u.priv = true))

/-! ### The host -/

/-- R295, R298, R299, R165, R254, R180, R288, R229: a command is not taken before boot has ended; it is answered with its tag and a status, 2
where a reserved bit is set or its OP or operand is reserved; and what each command does when it is accepted. Where the operands of
a command stand in its record is the model's choice (log 42), and so is that a record may be in H's memory in the step that posts
it (log 60). -/
def Obligations.HostCommands : Prop :=
  ∀ (s : State) (rec : List Xword),
    let h := s.host
    let word (n : Nat) := (rec.getD n 0).toNat
    let die := word 0 / 2 ^ 8 % 2 ^ 8
    let asid := word 0 / 2 ^ 16 % 2 ^ 11
    let ck := ctxKey die asid
    let c := s.ctx ck
    let what := word 1 % 2 ^ 8
    let qk := queueKey die (word 1 / 2 ^ 8 % 2 ^ 8)
    let q := s.queue qk
    let all := [Instr.cmdBind rec, .cmdUnbind rec, .cmdKillContext rec, .cmdReseal rec, .cmdAttestationReport rec, .cmdExtendMeas7 rec,
      .cmdExportImportWithdraw rec, .cmdChainJoinLeave rec, .cmdReadTelemetry rec, .mailboxReservedOp rec]
    let slot (n : Nat) := hostPa (h.ebase + 64 * ((h.etail + BitVec.ofNat 32 n).toNat % 2 ^ h.esize))
    let room (n : Nat) := (h.etail - h.ehead).toNat + n < 2 ^ h.esize
    let answers (i : Instr) (status events : Nat) (f : State → Prop) := ∃ t, exec i s = .next t ∧ t.host.chead = h.chead + 1 ∧
      (room events → t.host.etail = h.etail + BitVec.ofNat 32 (events + 1) ∧
        (s.hostHears → t.num (slot events) 8 = 0x40 + 2 ^ 8 * status + 2 ^ 32 * (word 0 / 2 ^ 32))) ∧ f t
    let same (t : State) := t.queues = s.queues ∧ ∀ k, (t.ctx k).bound = (s.ctx k).bound ∧ (t.ctx k).killed = (s.ctx k).killed
    (h.accepting = false → ∀ i ∈ all, exec i s = .next s) ∧
    (h.accepting = true → word 0 / 2 ^ 27 % 2 ^ 5 ≠ 0 → ∀ i ∈ all, answers i 2 0 same) ∧
    (h.accepting = true → word 0 / 2 ^ 27 % 2 ^ 5 = 0 →
      answers (.mailboxReservedOp rec) 2 0 same ∧
      answers (.cmdReadTelemetry rec) (if 8 ≤ die then 1 else if what ≤ 2 then 0 else 2) 0 (fun t => same t ∧
        (die < 8 → room 0 → s.hostHears →
          (what = 0 → t.num (slot 0 + 8) 8 = (s.die die).softErrors % 2 ^ 64 ∧ t.num (slot 0 + 16) 8 = (s.die die).lateEntries % 2 ^ 64 ∧
            t.num (slot 0 + 24) 8 = (s.die die).badMessages % 2 ^ 64 ∧ t.num (slot 0 + 32) 8 = (s.die die).badPackets % 2 ^ 64) ∧
          (what = 2 → t.num (slot 0 + 8) 8 = c.bias % 2 ^ 64))) ∧
      answers (.cmdExtendMeas7 rec) 0 0 (fun t => t.host.measure 7 = sha256 (h.measure 7 ++ wordsBytes ((List.range 4).map fun k =>
        rec.getD (1 + k) 0)) ∧ ∀ n, n ≠ 7 → t.host.measure n = h.measure n) ∧
      (8 ≤ die → ∀ i ∈ [Instr.cmdBind rec, .cmdUnbind rec, .cmdExportImportWithdraw rec, .cmdChainJoinLeave rec], answers i 1 0 same) ∧
      (die < 8 →
        (s.gone die = true → answers (.cmdBind rec) 1 0 same) ∧
        (4 ≤ what → answers (.cmdUnbind rec) 2 0 same) ∧
        (s.gone die = false →
          (6 ≤ what → answers (.cmdBind rec) 2 0 same) ∧
          (what = 0 → c.bound = true → c.killed = false → (recQueue rec).sound = true → q.enable = false →
            q.headLaunch = none → answers (.cmdBind rec) 0 0 fun t => t.queue qk = recQueue rec) ∧
          (what = 1 → rec.getD 3 0 &&& 0xFFF000000001FFFF ≠ 0 → answers (.cmdBind rec) 1 0 same) ∧
          (what = 1 → rec.getD 3 0 &&& 0xFFF000000001FFFF = 0 → c.bound = false → answers (.cmdBind rec) 0 0 fun t => let x := t.ctx ck
            x.bound = true ∧ x.killed = false ∧ x.ptbase = rec.getD 3 0 ∧ x.trapvec = rec.getD 4 0 ∧ x.hintdrop = c.hintdrop ∧
            (∀ k, k ∈ x.region ↔ k < 4 ∧ (word 2).testBit k = true)) ∧
          (what = 2 → answers (.cmdBind rec) 0 0 fun t => (t.ctx ck).floor = word 2 % 2 ^ 13 ∧ (t.ctx ck).maxcls = word 2 / 2 ^ 13 % 8) ∧
          (what = 3 → c.bound = false ∨ c.killed = true → answers (.cmdBind rec) 1 0 same) ∧
          (what = 3 → c.bound = true → c.killed = false → word 3 % 2 ^ 52 = 0 → answers (.cmdBind rec) 0 0 fun t =>
            (t.ctx ck).savebase = word 2 % 2 ^ 52 ∧ (t.ctx ck).evring = 0) ∧
          (what = 3 → c.bound = true → c.killed = false → word 3 % 2 ^ 52 ≠ 0 → answers (.cmdBind rec) 1 0 same ∨ answers (.cmdBind rec) 0 0 fun t =>
            (t.ctx ck).savebase = word 2 % 2 ^ 52 ∧ (t.ctx ck).evring = word 3 % 2 ^ 52) ∧
          (what = 4 → let cls := word 1 / 2 ^ 8 % 2 ^ 8
            (2 < cls → answers (.cmdBind rec) 1 0 same) ∧
            (cls ≤ 2 → answers (.cmdBind rec) 0 0 fun t =>
              ((t.ctx ck).bucket cls).rate = word 2 ∧ ((t.ctx ck).bucket cls).depth = word 3)) ∧
          (what = 5 → q.asid = asid → c.bound = true → c.killed = false → answers (.cmdBind rec) 0 0 fun t => t.queue qk =
            { q with overrun := q.overrun && !(word 2).testBit 0, rfault := q.rfault && !(word 2).testBit 1,
                     enable := (q.enable || (word 2).testBit 2) && !(word 2).testBit 3 })) ∧
        (what = 0 → q.headLaunch = none → q.asid = asid → answers (.cmdUnbind rec) 0 0 fun t => t.queue qk = Queue.unused) ∧
        (what = 1 → c.bound = true → s.gangsOf die asid = [] → c.savedGangs = [] →
          answers (.cmdUnbind rec) 0 0 fun t => (t.ctx ck).bound = false ∧ (t.ctx ck).hintdrop = c.hintdrop) ∧
        (what = 2 → answers (.cmdUnbind rec) 0 0 fun t => (t.ctx ck).floor = 0) ∧
        (what = 3 → answers (.cmdUnbind rec) 0 0 fun t => (t.ctx ck).savebase = 0) ∧
        (c.bound = false → answers (.cmdExportImportWithdraw rec) 1 0 same) ∧
        (what = 0 → c.bound = true → ∀ l a, s.walk die asid (word 3) = .leaf l →
          s.leafAddrFrom (word 3) 5 0 c.ptbase.toNat = some a →
            let page := (l.pa, pageBytes l.level)
            let free := word 3 < 2 ^ 55 ∧ l.pa / 2 ^ 48 = die ∧ s.isExported die page = false ∧ s.leavesExport page = false
            (free → answers (.cmdExportImportWithdraw rec) 0 0 fun t => page ∈ mget [] (t.ctx ck).handles (word 2)) ∧
            (¬free → answers (.cmdExportImportWithdraw rec) 1 0 same)) ∧
        (3 ≤ what → c.bound = true → answers (.cmdExportImportWithdraw rec) 2 0 same) ∧
        (what = 2 → c.bound = true → ∃ t, exec (.cmdExportImportWithdraw rec) s = .next t ∧ t.host.chead = h.chead + 1 ∧
          mget [] (t.ctx ck).handles (word 2) = []) ∧
        (what = 2 → c.bound = true → s.withdrawals = [] → (∀ e ∈ s.ctxs, e.2.imports = []) →
          answers (.cmdExportImportWithdraw rec) 0 0 fun t => mget [] (t.ctx ck).handles (word 2) = []) ∧
        (let i := Instr.cmdChainJoinLeave rec
          let me := memberId die
          let soon := word 2 < s.timeOf die + 50000
          (2 ≤ what → answers i 2 0 same) ∧
          (what = 0 → s.knows die me = true → answers i 1 0 same) ∧
          (what = 1 → s.knows die me = false ∨ soon → answers i 1 0 same) ∧
          (what = 1 → s.knows die me = true → ¬soon → answers i 0 0 fun t => ∀ m ∈ (t.die die).chain, m.id = me →
            ∃ l, m.leaveAt = some l ∧ l ≤ word 2) ∧
          (what = 0 → s.knows die me = false → word 3 % 2 ^ 32 = me → (soon → answers i 1 0 same) ∧
            (¬soon → answers i 0 0 fun t => (t.die die).chain.map (fun m => (m.id, m.joinAt)) = [(me, word 2)])) ∧
          (what = 0 → s.knows die me = false → ∀ d, d < 8 → d ≠ die → word 3 % 2 ^ 32 = memberId d → s.chainDies (memberId d) = [] →
            answers i 1 0 same))) ∧
      (c.bound = true → c.killed = false → answers (.cmdKillContext rec) 0 1 fun t => (t.ctx ck).killed = true) ∧
      (c.bound = false ∨ c.killed = true → answers (.cmdKillContext rec) 1 0 same) ∧
      (s.cway.reseal = .normal → ∃ t : State, exec (.cmdReseal rec) s = .next t ∧ t = { s with cway := t.cway, host := t.host } ∧
        t.cway = { s.cway with reseal := .stopped none } ∧ t.host = { h with chead := h.chead + 1, resealFor := some rec }) ∧
      (s.cway.reseal ≠ .normal → answers (.cmdReseal rec) 1 0 same) ∧
      let pa := hostPa (word 5)
      (memoryExists pa 704 = false → answers (.cmdAttestationReport rec) 1 0 same) ∧
      (memoryExists pa 704 = true → (∀ n, n < 8 → (h.measure n).length = 32) → pa + 704 ≤ slot 0 ∨ slot 0 + 64 ≤ pa →
        answers (.cmdAttestationReport rec) 0 0 fun t => s.hostHears → t.num pa 8 = 1 ∧ t.num (pa + 8) 8 = h.serial % 2 ^ 64 ∧
          (∀ k, k < 4 → t.num (pa + 16 + 8 * k) 8 = word (1 + k)) ∧ (∀ n, n < 8 → t.bytes (pa + 48 + 32 * n) 32 = h.measure n) ∧
          t.num (pa + 304) 8 = h.resets % 2 ^ 64))

/-- R292, R293, R294, R295, R298, R300, R291: a write to the control aperture is the write to the register at its offset, and a read
answers H with its value; a narrower or misaligned access is ignored and reads as zero. Behind another packet of its channel an
access waits. A package reset leaves H's memory and counts itself; a die reset makes the die depart and starts a reseal; boot
measures its stages in order and takes commands after the last; the stacks initialise one after another. What a reset does to memory
(log 43), and which register a stage extends (log 45), are the model's choices. -/
def Obligations.HostRegistersAndResets : Prop :=
  ∀ s : State,
    (∀ (offset size : Nat) (v : Option Xword), let i := Instr.registerWrite offset size v
      let a := if offset < 0x8000000 then offset / 0x1000000 else 9
      (0x10000000 ≤ offset → exec i s = .next s) ∧
      (offset < 0x10000000 → s.cway.clear 8 a = false → ∃ t : State, exec i s = .next t ∧
        t = { s with cway := t.cway, nextId := s.nextId + 1 }) ∧
      (offset < 0x10000000 → size ≠ 8 ∨ offset % 8 ≠ 0 → v ≠ none → HostWrites i s a s)) ∧
    (∀ offset size, let a := if offset < 0x8000000 then offset / 0x1000000 else 9
      let reads (value : Nat) := s.hostReaches a → s.channelFree a 8 1 → ∃ t, exec (.registerWrite offset size none) s = .next t ∧
        mget [] t.host.replies s.nextId = leBytes 8 value
      (offset < 0x10000000 → size ≠ 8 ∨ offset % 8 ≠ 0 → reads 0) ∧
      (size = 8 →
        (offset = 0x8000000 → reads s.power.cap) ∧
        (offset = 0x8000010 → reads ((if s.power.caprej then 1 else 0) + (if s.power.raterej then 2 else 0) +
          (if s.power.scaled then 4 else 0) + 2 ^ 16 * s.power.pmeas + 2 ^ 32 * s.power.shownRate.toNat)) ∧
        (offset = 0x8001018 → reads s.host.chead.toNat) ∧ (offset = 0x8001030 → reads s.host.elost.toNat) ∧
        (∀ n k, n < 8 → k < 4 → offset = 0x8002000 + 32 * n + 8 * k → reads (leNat (((s.host.measure n).drop (8 * k)).take 8))) ∧
        ∀ die, die < 8 →
          (∀ q, q < 256 → offset = 2 ^ 24 * die + 0x1000 * q →
            reads ((s.queue (queueKey die q)).head.toNat + 2 ^ 32 * (s.queue (queueKey die q)).tail.toNat)) ∧
          (∀ cl, cl < clusterCount die → offset = 2 ^ 24 * die + 0x100008 + 0x10 * cl → let c := s.cluster (clusterKey die cl)
            reads (c.point + (if c.pinned then 2 ^ 3 else 0) + 2 ^ 4 * c.clkResult)) ∧
          (offset = 2 ^ 24 * die + 0x100100 → reads ((s.die die).dceil + (if (s.die die).rej then 2 ^ 12 else 0))) ∧
          ∀ asid, asid < 2048 → let c := s.ctx (ctxKey die asid)
            (offset = 2 ^ 24 * die + 0x110000 + 8 * asid → reads c.hintdrop.toNat) ∧
            (offset = 2 ^ 24 * die + 0x120000 + 8 * asid → reads (c.floor + 2 ^ 13 * c.maxcls + 2 ^ 32 * c.efloor)) ∧
            (offset = 2 ^ 24 * die + 0x130000 + 8 * asid → reads c.savebase) ∧
            (offset = 2 ^ 24 * die + 0x140000 + 8 * asid → reads c.evring))) ∧
    (∀ v : Xword,
      let h := s.host
      let at_ (offset : Nat) := Instr.registerWrite offset 8 (some v)
      let write (offset : Nat) := exec (at_ offset) s
      write 0x8000000 = exec (.pcapWrite v) s ∧ write 0x8000008 = exec (.prateWrite v) s ∧ write 0x8000010 = exec (.pstatWrite v) s ∧
      (v.getLsbD 63 = true → s.hostReaches 9 → ∃ u : State, exec .packageReset s = .next u ∧
        write 0x8000018 = .next { u with nextId := s.nextId + 1 }) ∧
      (∀ d, d < 8 → v.toNat = 2 ^ d → s.hostReaches 9 → ∃ t, write 0x8000018 = .next t ∧ t.gone d = true ∧
        t.cway.reseal = .stopped (some d) ∧ ∀ x, x / 2 ^ 48 = d → t.byte x = 0) ∧
      HostWrites (at_ 0x8001000) s 9
        { s with host := { h with cbase := 2 ^ 12 * (v.toNat / 2 ^ 12 % 2 ^ 40), csize := v.toNat / 2 ^ 52 % 2 ^ 4 } } ∧
      HostWrites (at_ 0x8001008) s 9
        { s with host := { h with ebase := 2 ^ 12 * (v.toNat / 2 ^ 12 % 2 ^ 40), esize := v.toNat / 2 ^ 52 % 2 ^ 4 } } ∧
      HostWrites (at_ 0x8001010) s 9 { s with host := { h with ctail := BitVec.ofNat 32 v.toNat } } ∧
      HostWrites (at_ 0x8001020) s 9 { s with host := { h with ehead := BitVec.ofNat 32 v.toNat } } ∧
      (v = 0 → write 0x8001030 = exec .elostClear s) ∧
      ∀ die, die < 8 →
        let o := 2 ^ 24 * die
        (∀ q, q < 256 → v.toNat < 2 ^ 32 → write (o + 0x1000 * q) = exec (.doorbellWrite die q (BitVec.ofNat 32 v.toNat)) s) ∧
        (∀ cl, cl < clusterCount die → write (o + 0x100000 + 0x10 * cl) = exec (.clkreqRelease die cl v) s) ∧
        write (o + 0x100100) = exec (.clkdieWrite die v) s ∧
        ∀ asid, asid < 2048 → (v = 0 → write (o + 0x110000 + 8 * asid) = exec (.hintdropClear die asid) s) ∧
          (v ≠ 0 → HostWrites (at_ (o + 0x110000 + 8 * asid)) s die s) ∧
          write (o + 0x120000 + 8 * asid) = exec (.pfloorWrite die asid v) s) ∧
    (∀ die asid, die < 8 → asid < 2048 → HostWrites (.hintdropClear die asid) s die
      (s.setCtx (ctxKey die asid) { s.ctx (ctxKey die asid) with hintdrop := 0 })) ∧
    HostWrites .elostClear s 9 { s with host := { s.host with elost := 0 } } ∧
    exec .hbmStackInitDone s = .next { s with host := { s.host with hbmStacks := min 12 (s.host.hbmStacks + 1) } } ∧
    (∃ t : State, exec .packageReset s = .next t ∧ (∀ x, t.byte x = if x / 2 ^ 48 = 8 then s.byte x else 0) ∧
      t = { State.reset with mem := t.mem, agenda := s.agenda, tick := s.tick, nextId := s.nextId, host := t.host } ∧
      t.host = { HostIf.atReset with resets := s.host.resets + 1, serial := s.host.serial, replies := s.host.replies }) ∧
    (∀ die, (8 ≤ die → exec (.dieReset die) s = .next s) ∧
      (die < 8 →
        (s.cway.reseal = .normal → ∃ t, exec (.dieReset die) s = .next t ∧ t.gone die = true ∧ t.cway.reseal = .stopped (some die) ∧
          (∀ x, x / 2 ^ 48 = die → t.byte x = 0) ∧ ∀ a, t.ctx (ctxKey die (a % 2048)) = Ctx.unbound) ∧
        (s.cway.reseal ≠ .normal → ∃ t : State, exec (.dieReset die) s = .next t ∧ t = { s with cway := t.cway } ∧
          t.cway = { s.cway with resetsHeld := t.cway.resetsHeld } ∧ die ∈ t.cway.resetsHeld))) ∧
    ∀ stage d good,
      let h := s.host
      let i := Instr.bootStage stage [d] good
      (h.accepting = true → stage = 6 → ∃ t, exec i s = .next t ∧ t = { s with host := t.host } ∧
        t.host.measure 6 = (if good = true then sha256 (h.measure 6 ++ d) else h.measure 6) ∧
        ∀ n, n ≠ 6 → t.host.measure n = h.measure n) ∧
      (h.accepting = false ∨ stage ≠ 6 → h.bootStopped = true ∨ h.accepting = true ∨ stage ≠ h.bootStage ∨ 5 < stage → exec i s = .next s) ∧
      (h.bootStopped = false → h.accepting = false → stage = h.bootStage → stage ≤ 5 → ∃ t, exec i s = .next t ∧
        t.host.measure stage = sha256 (h.measure stage ++ d) ∧ (∀ n, n ≠ stage → t.host.measure n = h.measure n) ∧
        (good = false → t.host.bootStopped = true ∧ t.host.accepting = false) ∧
        (good = true → stage < 5 → t.host.bootStage = stage + 1 ∧ t.host.accepting = false) ∧
        (good = true → stage = 5 → t.host.accepting = true))

/-! ### The machine as a whole -/

/-- What the completion of an instruction changes beyond its own effect (R14, R18, R22 to R31, R245): where its lanes stand, and nothing
else of its warp or of the machine, unless the warp can never move again and traps with JOIN. The executing lanes stand at the next
instruction, or wait at the end of the top loop's body; when all of it waits there, it goes on at the start, or pops with its last
iteration. Their ages become 0, and the other candidates' ages rise by one. -/
def Obligations.CompletionFrame : Prop :=
  ∀ (s : State) (c : Cur) (w : Warp) (moved : Bool), s.warp c.warp = some w → (s.ctx w.ctxK).trapvec ≠ 0 →
    let t := s.complete c moved
    t = { s with cur := none, issues := s.issues + 1, warps := t.warps } ∧ (∀ k, k ≠ c.warp → t.warp k = s.warp k) ∧
    ∃ u, t.warp c.warp = some u ∧
      u = { w with lanes := u.lanes, masks := u.masks, loops := u.loops, rep := u.rep, bsync := u.bsync, lastIssue := s.issues + 1,
                   stop := u.stop, priv := u.priv, trappc := u.trappc, trapcause := u.trapcause, trapinfo := u.trapinfo,
                   tlanes := u.tlanes, entered := u.entered } ∧
      ((u.stop = w.stop ∧ u.masks = w.masks ∧ u.priv = w.priv ∧ u.trappc = w.trappc ∧ u.trapcause = w.trapcause ∧
          u.trapinfo = w.trapinfo ∧ u.tlanes = w.tlanes ∧ u.entered = w.entered) ∨
        (w.priv = false ∧ u.priv = true ∧ u.trapcause = 0x09 ∧ u.trapinfo.toNat / 8 = 2)) ∧
      (c.inRep = false → u.rep = w.rep) ∧
      (c.inRep = true → moved = false →
        u.rep = if w.rep.done < w.rep.cnt then { w.rep with done := w.rep.done + 1 } else RepState.idle) ∧
      u.bsync = (if c.priv = true then w.bsync else none) ∧
      (∀ l, l < w.lanes.length → l < 64 → (u.lane l).age =
        let old := (w.lane l).age
        if c.priv = true ∨ c.inRep = true then old else if c.lanes.getLsbD l = true then 0
        else if c.cands.getLsbD l = true then min 64 (old + 1) else old) ∧
      (c.priv = w.priv → u.priv = w.priv → moved = false → c.inRep = false →
        let ran (l : Nat) := c.lanes.getLsbD l = true
        let every (p : Nat → Xword × LaneStat) := ∀ l, l < w.lanes.length → l < 64 → ((u.lane l).pc, (u.lane l).stat) = p l
        let pc (l : Nat) := if ran l then c.nextPc else (w.lane l).pc
        let after (l : Nat) := (pc l, if ran l then .candidate else (w.lane l).stat)
        (w.priv = true → u.loops = w.loops ∧ every fun l => (pc l, (w.lane l).stat)) ∧
        (w.priv = false → w.loops = [] → u.loops = [] ∧ every after) ∧
        ∀ e r, w.priv = false → w.loops = e :: r →
          let inside (l : Nat) := e.inBody.getLsbD l = true
          let ends := c.pc.toNat ≤ e.stop.toNat ∧ e.stop.toNat < c.nextPc.toNat
          let all := e.inBody ≠ 0 ∧ ∀ j, j < 64 → inside j → j < w.lanes.length ∧ (ran j ∨ (w.lane j).stat = .held)
          (¬ends → c.lanes &&& e.inBody ≠ 0 → u.loops = w.loops ∧ every after) ∧
          (ends → (∃ j, j < 64 ∧ inside j ∧ ¬ran j ∧ (w.lane j).stat ≠ .held) → u.loops = w.loops ∧
            every fun l => if ran l ∧ inside l then (c.nextPc, .held) else after l) ∧
          (ends → all → e.count ≠ 1 → u.loops = { e with count := e.count - 1 } :: r ∧
            every fun l => if inside l then (e.start, .candidate) else after l) ∧
          (ends → all → e.count = 1 → r = [] ∨ (∃ f q, r = f :: q ∧ f.stop ≠ e.stop ∧ f.inBody &&& e.inBody ≠ 0) → u.loops = r ∧
            every fun l => if inside l then (pc l, .candidate)
              else if e.held.getLsbD l = true ∧ (w.lane l).stat = .held then (pc l, .candidate) else after l))

/-- Words written out from the encodings of 03 and the examples of 20 to 24 decode to the instructions they stand for. -/
def Obligations.DecodedWords : Prop :=
  decode 0x2020C085 none = .ok (.add 3 1 (.sreg 5)) ∧
  decode 0x3400C184 none = .ok (.andnS 3 3 (.reg 4)) ∧
  decode 0x22A2C5FF (some 0xF80000FF) = .ok (.and 11 11 (.lit 255)) ∧
  decode 0x4000C082 none = .ok (.fadd 3 1 2) ∧
  decode 0xF4350000 none = .ok (.rep 3 1 1 0) ∧
  decode 0x90060A00 none = .ok (.cpy 24 20) ∧
  decode 0x94000280 none = .ok (.mma 5) ∧
  decode 0x80200003 none = .ok (.fence .rel 0 .die) ∧
  decode 0x01C04042 none = .ok (.getsr 1 66) ∧
  decode 0x00C00000 none = .ok .eret ∧
  decode 0xF80000FF none = .error .literalWord

/-- R14 to R16, R58: what a step does: the fetched instruction of the group that issues is executed in the frame that the issue fixes, alone or
with a second group to follow; of several things that may happen, one does. Which one, and which word of a fetch, is a free choice of
the model (logs 2, 3); that a pair takes two steps, the primary's first, is the model's choice (log 14). -/
def Obligations.StepRunsDecoded : Prop :=
  ∀ s : State,
    let frame (k : Nat) (w : Warp) (pc : Xword) (lanes cands : LaneSet) (i : Instr) : Cur :=
      { warp := k, lanes := lanes, cands := cands, pc := pc, trapPc := pc, nextPc := pc + BitVec.ofNat 64 (4 * wordCount i),
        priv := w.priv, inRep := false }
    (∀ k lanes w l v x nx i, s.second = some (k, lanes) → s.warp k = some w → firstLane lanes = some l →
      w.priv = true ∨ w.rep.busy = false →
      ({ s with second := none } : State).fetchInstr w.coreK w.asid (w.lane l).pc.toNat = (v, .words x nx) → decode x nx = .ok i →
      encode i ≠ [] → step s = exec i { v with cur := some (frame k w (w.lane l).pc lanes lanes i) }) ∧
    (∀ k w pc lanes v x nx i, s.warp k = some w → w.waitnOpen = false → w.asyncDue = none →
      w.primary = some (pc, lanes) → w.priv = true ∨ w.rep.busy = false →
      s.fetchInstr w.coreK w.asid pc.toNat = (v, .words x nx) → decode x nx = .ok i → encode i ≠ [] →
      let o := exec i { v with cur := some (frame k w pc lanes w.candidates i) }
      (s.pairOf k w pc lanes = none → s.take (.issue k) = o) ∧
      ∀ l, s.pairOf k w pc lanes = some l → s.completed k o = true → ∃ t, o = .next t ∧ s.take (.issue k) = .next { t with second := some (k, l) }) ∧
    (s.second = none → s.choices = [] → ∃ n, step s = .next n ∧ s.now < n.now ∧ n.warps = s.warps ∧ n.mem = s.mem) ∧
    (s.second = none → ∀ c, s.choices = [c] → step s = s.take c) ∧
    (s.second = none → ∀ c d r, s.choices = c :: d :: r → ∃ x ∈ s.choices, step s = ({ s with tick := s.tick + 1 } : State).take x) ∧
    ∀ ck asid va v l, va < 2 ^ 55 → s.translate ck asid va = (v, .leaf l) → l.canFetch = true → l.fmt = 0 →
      let pa := l.pa + va % pageBytes l.level
      let kept := mget [] (s.core ck).icache (icacheKey asid va)
      memoryExists pa 4 = true → ∃ w, (s.fetchWord ck asid va).2 = .word w ∧ (w = s.num pa 4 ∨ w ∈ kept) ∧ (kept = [] → w = s.num pa 4)

/-- R55, R56, R60 to R79: the decoder reads back every well-formed instruction from its own words, whatever word follows a single one. -/
def Obligations.DecodeEncode : Prop :=
  ∀ i : Instr, i.wf = true →
    (∀ w, encode i = [w] → fetchesNext w = false → ∀ nx, decode w nx = .ok i) ∧
    (∀ w, encode i = [w] → fetchesNext w = true → ∀ x, isLiteral x = false → decode w (some x) = .ok i) ∧
    (∀ w x, encode i = [w, x] → fetchesNext w = true ∧ decode w (some x) = .ok i) ∧ wordCount i ≤ 2

/-- Every step keeps the canonical form of memory: addresses strictly rising, no byte listed that reads as an unlisted one does. -/
def Obligations.StepKeepsMemory : Prop := ∀ s t : State, Memory.wf s.mem = true → step s = .next t → Memory.wf t.mem = true

/-- R257, R271, R258, R277, R283, R170, R293, R298: what reset leaves: the rate, cap and bounds of the package, every die and cluster at its reset
values, no measurement, no command accepted, nothing resident and every counter of the causeway zero; memory in its canonical form. -/
def Obligations.ResetState : Prop :=
  let s := State.reset
  s.power.rate = 0x00040000 ∧ s.power.cap = 5000 ∧ s.power.rmin = 0x00001000 ∧ s.power.rmax = 0x04000000 ∧ s.power.bounded ∧
  (∀ die, (s.die die).dceil = 2300 ∧ (s.die die).rej = false ∧ (s.die die).width = 64 ∧ s.gone die = false) ∧
  (∀ k, (s.cluster k).asid = none ∧ (s.cluster k).xrate = 0x00040000 ∧ (s.cluster k).point = 0 ∧ (s.cluster k).gated = true) ∧
  (∀ k, (s.ctx k).bound = false ∧ (s.ctx k).trapvec = 0 ∧ (s.ctx k).energy = 0) ∧
  (∀ i k m, s.cway.K i k m = 0 ∧ s.cway.D i k = 0 ∧ s.cway.F i k m = 0 ∧ ∀ n, n ≤ 2 ^ 14 → s.cway.mayInject i m n = true) ∧
  (∀ n, s.host.measure n = List.replicate 32 0) ∧ s.host.accepting = false ∧ s.host.bootStage = 0 ∧
  (∀ k, s.warp k = none) ∧ Memory.wf s.mem = true
end

