-- ==== Sys2Proof/Laws/Tables.lean ====
section
/-!
SUPPORT. The laws of sparse tables and memory: what a read finds after a write, and that every operation keeps the canonical
form.
-/

namespace Sys2Proof.Machine

variable {β : Type}

@[simp] theorem mfind_nil (k : Nat) : mfind ([] : SMap β) k = none := rfl

theorem mfind_cons (e : Nat × β) (r : SMap β) (k : Nat) :
    mfind (e :: r) k = if e.1 = k then some e.2 else mfind r k := rfl

theorem mem_of_mfind {m : SMap β} {k : Nat} {v : β} (h : mfind m k = some v) : (k, v) ∈ m := by
  induction m with
  | nil => simp at h
  | cons e r ih =>
    rw [mfind_cons] at h
    split at h
    · rename_i hk
      obtain rfl : e.2 = v := by simpa using h
      exact hk ▸ List.mem_cons_self
    · exact List.mem_cons_of_mem _ (ih h)

/-- A key below every listed key is not listed. -/
theorem mfind_below (m : SMap β) (k : Nat) (h : ∀ e ∈ m, k < e.1) : mfind m k = none := by
  induction m with
  | nil => rfl
  | cons e r ih =>
    have := h e (by simp)
    rw [mfind_cons, if_neg (by omega), ih fun x hx => h x (by simp [hx])]

theorem mem_mput {m : SMap β} {k : Nat} {v : β} {e : Nat × β} (h : e ∈ mput m k v) : e = (k, v) ∨ e ∈ m := by
  induction m with
  | nil => exact Or.inl (by simpa [mput] using h)
  | cons x r ih =>
    unfold mput at h
    split at h
    · rcases List.mem_cons.1 h with h | h
      · exact Or.inr (by simp [h])
      · rcases ih h with h | h
        · exact Or.inl h
        · exact Or.inr (by simp [h])
    · split at h <;> rcases List.mem_cons.1 h with h | h
      · exact Or.inl h
      · exact Or.inr (by simp [h])
      · exact Or.inl h
      · exact Or.inr h

theorem mem_mdel {m : SMap β} {k : Nat} {e : Nat × β} (h : e ∈ mdel m k) : e ∈ m := by
  induction m with
  | nil => simp [mdel] at h
  | cons x r ih =>
    unfold mdel at h
    split at h
    · exact List.mem_cons_of_mem _ (ih h)
    · rcases List.mem_cons.1 h with h | h
      · simp [h]
      · exact List.mem_cons_of_mem _ (ih h)

theorem rising_cons (e : Nat × β) (r : SMap β) :
    rising (e :: r) = true ↔ (∀ x ∈ r, e.1 < x.1) ∧ rising r = true := by
  simp [rising]

/-- Inserting keeps the keys rising. -/
theorem rising_mput {m : SMap β} (k : Nat) (v : β) (h : rising m = true) : rising (mput m k v) = true := by
  induction m with
  | nil => simp [mput, rising]
  | cons e r ih =>
    rw [rising_cons] at h
    unfold mput
    split
    · rw [rising_cons]
      refine ⟨fun x hx => ?_, ih h.2⟩
      rcases mem_mput hx with rfl | hx
      · assumption
      · exact h.1 x hx
    · split
      · rw [rising_cons]
        exact ⟨fun x hx => by have := h.1 x hx; simp; omega, h.2⟩
      · rw [rising_cons, rising_cons]
        refine ⟨fun x hx => ?_, h⟩
        rcases List.mem_cons.1 hx with rfl | hx
        · simp; omega
        · have := h.1 x hx
          simp; omega

/-- Removing keeps the keys rising. -/
theorem rising_mdel {m : SMap β} (k : Nat) (h : rising m = true) : rising (mdel m k) = true := by
  induction m with
  | nil => rfl
  | cons e r ih =>
    rw [rising_cons] at h
    unfold mdel
    split
    · exact ih h.2
    · rw [rising_cons]
      exact ⟨fun x hx => h.1 x (mem_mdel hx), ih h.2⟩

/-- A read after an insertion at the same key. -/
@[simp] theorem mfind_mput_same (m : SMap β) (k : Nat) (v : β) : mfind (mput m k v) k = some v := by
  induction m with
  | nil => simp [mput, mfind]
  | cons e r ih =>
    unfold mput
    split
    · rw [mfind_cons, if_neg (by omega), ih]
    · split <;> simp [mfind_cons]

/-- A read after an insertion at another key. -/
theorem mfind_mput_ne (m : SMap β) {k k' : Nat} (v : β) (h : k' ≠ k) : mfind (mput m k v) k' = mfind m k' := by
  induction m with
  | nil => simp [mput, mfind, Ne.symm h]
  | cons e r ih =>
    unfold mput
    split
    · rw [mfind_cons, mfind_cons, ih]
    · split
      · rw [mfind_cons, mfind_cons, if_neg (Ne.symm h), if_neg (by omega)]
      · rw [mfind_cons, if_neg (Ne.symm h)]

/-- A read after a removal. -/
theorem mfind_mdel (m : SMap β) (k k' : Nat) : mfind (mdel m k) k' = if k' = k then none else mfind m k' := by
  induction m with
  | nil => simp [mdel]
  | cons e r ih =>
    unfold mdel
    split
    · rw [ih, mfind_cons]
      split
      · rfl
      · rw [if_neg (by omega)]
    · rw [mfind_cons, ih, mfind_cons]
      split
      · rw [if_neg (by omega)]
      · rfl

section Default

variable [DecidableEq β]

/-- A read after a write at the same key. -/
@[simp] theorem mget_mset_same (d : β) (m : SMap β) (k : Nat) (v : β) : mget d (mset d m k v) k = v := by
  unfold mset mget
  split
  · rw [mfind_mdel, if_pos rfl]
    simp_all
  · simp

/-- A read after a write at another key. -/
theorem mget_mset_ne (d : β) (m : SMap β) {k k' : Nat} (v : β) (h : k' ≠ k) :
    mget d (mset d m k v) k' = mget d m k' := by
  unfold mset mget
  split
  · rw [mfind_mdel, if_neg h]
  · rw [mfind_mput_ne _ _ h]

/-- A read after a write. -/
theorem mget_mset (d : β) (m : SMap β) (k k' : Nat) (v : β) :
    mget d (mset d m k v) k' = if k' = k then v else mget d m k' := by
  split
  · subst_vars
    simp
  · exact mget_mset_ne d m v ‹_›

theorem canonical_iff (d : β) (m : SMap β) : canonical d m = true ↔ rising m = true ∧ ∀ e ∈ m, e.2 ≠ d := by
  simp [canonical]

/-- A write keeps the canonical form. -/
theorem canonical_mset (d : β) {m : SMap β} (k : Nat) (v : β) (h : canonical d m = true) :
    canonical d (mset d m k v) = true := by
  rw [canonical_iff] at *
  unfold mset
  split
  · exact ⟨rising_mdel k h.1, fun e he => h.2 e (mem_mdel he)⟩
  · refine ⟨rising_mput k v h.1, fun e he => ?_⟩
    rcases mem_mput he with rfl | he
    · assumption
    · exact h.2 e he

/-- Dropping entries keeps the canonical form. -/
theorem canonical_filter (d : β) {m : SMap β} (p : Nat × β → Bool) (h : canonical d m = true) :
    canonical d (m.filter p) = true := by
  induction m with
  | nil => rfl
  | cons e r ih =>
    rw [canonical_iff, rising_cons] at h
    have hr := ih ((canonical_iff d r).2 ⟨h.1.2, fun x hx => h.2 x (by simp [hx])⟩)
    rw [List.filter_cons]
    split
    · rw [canonical_iff] at *
      refine ⟨(rising_cons _ _).2 ⟨fun x hx => h.1.1 x (List.mem_of_mem_filter hx), hr.1⟩, fun x hx => ?_⟩
      rcases List.mem_cons.1 hx with rfl | hx
      · exact h.2 x (by simp)
      · exact hr.2 x hx
    · exact hr

end Default

/-! ### Memory -/

@[simp] theorem State.dropLatches_mem (s : State) (p : Latch → Bool) : (s.dropLatches p).mem = s.mem := by
  unfold State.dropLatches; split <;> rfl

@[simp] theorem State.poke_mem (s : State) (l : List (Nat × Byte)) :
    (s.poke l).mem = l.foldl (fun m e => mset 0 m e.1 e.2) s.mem := State.dropLatches_mem _ _

/-- Writing bytes keeps memory's canonical form (log 4). -/
theorem poke_wf (s : State) (l : List (Nat × Byte)) (h : Memory.wf s.mem = true) : Memory.wf (s.poke l).mem = true := by
  rw [State.poke_mem]
  generalize s.mem = m at h
  induction l generalizing m with
  | nil => exact h
  | cons e r ih => exact ih _ (canonical_mset 0 _ _ h)

/-- Dropping bytes (19 R300) keeps it. -/
theorem memory_filter_wf (m : SMap Byte) (p : Nat × Byte → Bool) (h : Memory.wf m = true) : Memory.wf (m.filter p) = true :=
  canonical_filter 0 p h

/-- A byte where a list of writes does not go is as before. -/
theorem byte_poke_of_not_mem (s : State) (l : List (Nat × Byte)) (pa : Nat) (h : ∀ e ∈ l, e.1 ≠ pa) :
    (s.poke l).byte pa = s.byte pa := by
  simp only [State.byte, State.poke_mem]
  generalize s.mem = m
  induction l generalizing m with
  | nil => rfl
  | cons e r ih =>
    exact (ih (fun x hx => h x (by simp [hx])) _).trans (mget_mset_ne 0 m e.2 (Ne.symm (h e (by simp))))

/-- A byte where a write goes, when no later one does. -/
theorem byte_poke_last (s : State) (l : List (Nat × Byte)) (pa : Nat) (b : Byte) :
    (s.poke (l ++ [(pa, b)])).byte pa = b := by
  simp [State.byte, List.foldl_append]

end Sys2Proof.Machine
end

