-- ==== Sys2Proof/Laws/State.lean ====
section
/-!
SUPPORT. What each update of the state leaves: one lemma for every field of every update, and what a read finds after it.
-/

namespace Sys2Proof.Machine

@[simp] theorem State.setCore_mem (s : State) (k : Nat) (x : Core) : (s.setCore k x).mem = s.mem := rfl
@[simp] theorem State.setCore_lmem (s : State) (k : Nat) (x : Core) : (s.setCore k x).lmem = s.lmem := rfl
@[simp] theorem State.setCore_warps (s : State) (k : Nat) (x : Core) : (s.setCore k x).warps = s.warps := rfl
@[simp] theorem State.setCore_gangs (s : State) (k : Nat) (x : Core) : (s.setCore k x).gangs = s.gangs := rfl
@[simp] theorem State.setCore_launches (s : State) (k : Nat) (x : Core) : (s.setCore k x).launches = s.launches := rfl
@[simp] theorem State.setCore_queues (s : State) (k : Nat) (x : Core) : (s.setCore k x).queues = s.queues := rfl
@[simp] theorem State.setCore_ctxs (s : State) (k : Nat) (x : Core) : (s.setCore k x).ctxs = s.ctxs := rfl
@[simp] theorem State.setCore_clusters (s : State) (k : Nat) (x : Core) : (s.setCore k x).clusters = s.clusters := rfl
@[simp] theorem State.setCore_dies (s : State) (k : Nat) (x : Core) : (s.setCore k x).dies = s.dies := rfl
@[simp] theorem State.setCore_cway (s : State) (k : Nat) (x : Core) : (s.setCore k x).cway = s.cway := rfl
@[simp] theorem State.setCore_l3 (s : State) (k : Nat) (x : Core) : (s.setCore k x).l3 = s.l3 := rfl
@[simp] theorem State.setCore_withdrawals (s : State) (k : Nat) (x : Core) : (s.setCore k x).withdrawals = s.withdrawals := rfl
@[simp] theorem State.setCore_straits (s : State) (k : Nat) (x : Core) : (s.setCore k x).straits = s.straits := rfl
@[simp] theorem State.setCore_power (s : State) (k : Nat) (x : Core) : (s.setCore k x).power = s.power := rfl
@[simp] theorem State.setCore_host (s : State) (k : Nat) (x : Core) : (s.setCore k x).host = s.host := rfl
@[simp] theorem State.setCore_cur (s : State) (k : Nat) (x : Core) : (s.setCore k x).cur = s.cur := rfl
@[simp] theorem State.setCore_second (s : State) (k : Nat) (x : Core) : (s.setCore k x).second = s.second := rfl
@[simp] theorem State.setCore_agenda (s : State) (k : Nat) (x : Core) : (s.setCore k x).agenda = s.agenda := rfl
@[simp] theorem State.setCore_issues (s : State) (k : Nat) (x : Core) : (s.setCore k x).issues = s.issues := rfl
@[simp] theorem State.setCore_tick (s : State) (k : Nat) (x : Core) : (s.setCore k x).tick = s.tick := rfl
@[simp] theorem State.setCore_now (s : State) (k : Nat) (x : Core) : (s.setCore k x).now = s.now := rfl
@[simp] theorem State.setCore_nextId (s : State) (k : Nat) (x : Core) : (s.setCore k x).nextId = s.nextId := rfl

@[simp] theorem State.setCluster_mem (s : State) (k : Nat) (x : Cluster) : (s.setCluster k x).mem = s.mem := rfl
@[simp] theorem State.setCluster_lmem (s : State) (k : Nat) (x : Cluster) : (s.setCluster k x).lmem = s.lmem := rfl
@[simp] theorem State.setCluster_warps (s : State) (k : Nat) (x : Cluster) : (s.setCluster k x).warps = s.warps := rfl
@[simp] theorem State.setCluster_gangs (s : State) (k : Nat) (x : Cluster) : (s.setCluster k x).gangs = s.gangs := rfl
@[simp] theorem State.setCluster_launches (s : State) (k : Nat) (x : Cluster) : (s.setCluster k x).launches = s.launches := rfl
@[simp] theorem State.setCluster_queues (s : State) (k : Nat) (x : Cluster) : (s.setCluster k x).queues = s.queues := rfl
@[simp] theorem State.setCluster_ctxs (s : State) (k : Nat) (x : Cluster) : (s.setCluster k x).ctxs = s.ctxs := rfl
@[simp] theorem State.setCluster_cores (s : State) (k : Nat) (x : Cluster) : (s.setCluster k x).cores = s.cores := rfl
@[simp] theorem State.setCluster_dies (s : State) (k : Nat) (x : Cluster) : (s.setCluster k x).dies = s.dies := rfl
@[simp] theorem State.setCluster_cway (s : State) (k : Nat) (x : Cluster) : (s.setCluster k x).cway = s.cway := rfl
@[simp] theorem State.setCluster_l3 (s : State) (k : Nat) (x : Cluster) : (s.setCluster k x).l3 = s.l3 := rfl
@[simp] theorem State.setCluster_withdrawals (s : State) (k : Nat) (x : Cluster) : (s.setCluster k x).withdrawals = s.withdrawals := rfl
@[simp] theorem State.setCluster_straits (s : State) (k : Nat) (x : Cluster) : (s.setCluster k x).straits = s.straits := rfl
@[simp] theorem State.setCluster_power (s : State) (k : Nat) (x : Cluster) : (s.setCluster k x).power = s.power := rfl
@[simp] theorem State.setCluster_host (s : State) (k : Nat) (x : Cluster) : (s.setCluster k x).host = s.host := rfl
@[simp] theorem State.setCluster_cur (s : State) (k : Nat) (x : Cluster) : (s.setCluster k x).cur = s.cur := rfl
@[simp] theorem State.setCluster_second (s : State) (k : Nat) (x : Cluster) : (s.setCluster k x).second = s.second := rfl
@[simp] theorem State.setCluster_agenda (s : State) (k : Nat) (x : Cluster) : (s.setCluster k x).agenda = s.agenda := rfl
@[simp] theorem State.setCluster_issues (s : State) (k : Nat) (x : Cluster) : (s.setCluster k x).issues = s.issues := rfl
@[simp] theorem State.setCluster_tick (s : State) (k : Nat) (x : Cluster) : (s.setCluster k x).tick = s.tick := rfl
@[simp] theorem State.setCluster_now (s : State) (k : Nat) (x : Cluster) : (s.setCluster k x).now = s.now := rfl
@[simp] theorem State.setCluster_nextId (s : State) (k : Nat) (x : Cluster) : (s.setCluster k x).nextId = s.nextId := rfl

@[simp] theorem State.setDie_mem (s : State) (k : Nat) (x : Die) : (s.setDie k x).mem = s.mem := rfl
@[simp] theorem State.setDie_lmem (s : State) (k : Nat) (x : Die) : (s.setDie k x).lmem = s.lmem := rfl
@[simp] theorem State.setDie_warps (s : State) (k : Nat) (x : Die) : (s.setDie k x).warps = s.warps := rfl
@[simp] theorem State.setDie_gangs (s : State) (k : Nat) (x : Die) : (s.setDie k x).gangs = s.gangs := rfl
@[simp] theorem State.setDie_launches (s : State) (k : Nat) (x : Die) : (s.setDie k x).launches = s.launches := rfl
@[simp] theorem State.setDie_queues (s : State) (k : Nat) (x : Die) : (s.setDie k x).queues = s.queues := rfl
@[simp] theorem State.setDie_ctxs (s : State) (k : Nat) (x : Die) : (s.setDie k x).ctxs = s.ctxs := rfl
@[simp] theorem State.setDie_cores (s : State) (k : Nat) (x : Die) : (s.setDie k x).cores = s.cores := rfl
@[simp] theorem State.setDie_clusters (s : State) (k : Nat) (x : Die) : (s.setDie k x).clusters = s.clusters := rfl
@[simp] theorem State.setDie_cway (s : State) (k : Nat) (x : Die) : (s.setDie k x).cway = s.cway := rfl
@[simp] theorem State.setDie_l3 (s : State) (k : Nat) (x : Die) : (s.setDie k x).l3 = s.l3 := rfl
@[simp] theorem State.setDie_withdrawals (s : State) (k : Nat) (x : Die) : (s.setDie k x).withdrawals = s.withdrawals := rfl
@[simp] theorem State.setDie_straits (s : State) (k : Nat) (x : Die) : (s.setDie k x).straits = s.straits := rfl
@[simp] theorem State.setDie_power (s : State) (k : Nat) (x : Die) : (s.setDie k x).power = s.power := rfl
@[simp] theorem State.setDie_host (s : State) (k : Nat) (x : Die) : (s.setDie k x).host = s.host := rfl
@[simp] theorem State.setDie_cur (s : State) (k : Nat) (x : Die) : (s.setDie k x).cur = s.cur := rfl
@[simp] theorem State.setDie_second (s : State) (k : Nat) (x : Die) : (s.setDie k x).second = s.second := rfl
@[simp] theorem State.setDie_agenda (s : State) (k : Nat) (x : Die) : (s.setDie k x).agenda = s.agenda := rfl
@[simp] theorem State.setDie_issues (s : State) (k : Nat) (x : Die) : (s.setDie k x).issues = s.issues := rfl
@[simp] theorem State.setDie_tick (s : State) (k : Nat) (x : Die) : (s.setDie k x).tick = s.tick := rfl
@[simp] theorem State.setDie_now (s : State) (k : Nat) (x : Die) : (s.setDie k x).now = s.now := rfl
@[simp] theorem State.setDie_nextId (s : State) (k : Nat) (x : Die) : (s.setDie k x).nextId = s.nextId := rfl

@[simp] theorem State.setCtx_mem (s : State) (k : Nat) (x : Ctx) : (s.setCtx k x).mem = s.mem := rfl
@[simp] theorem State.setCtx_lmem (s : State) (k : Nat) (x : Ctx) : (s.setCtx k x).lmem = s.lmem := rfl
@[simp] theorem State.setCtx_warps (s : State) (k : Nat) (x : Ctx) : (s.setCtx k x).warps = s.warps := rfl
@[simp] theorem State.setCtx_gangs (s : State) (k : Nat) (x : Ctx) : (s.setCtx k x).gangs = s.gangs := rfl
@[simp] theorem State.setCtx_launches (s : State) (k : Nat) (x : Ctx) : (s.setCtx k x).launches = s.launches := rfl
@[simp] theorem State.setCtx_queues (s : State) (k : Nat) (x : Ctx) : (s.setCtx k x).queues = s.queues := rfl
@[simp] theorem State.setCtx_cores (s : State) (k : Nat) (x : Ctx) : (s.setCtx k x).cores = s.cores := rfl
@[simp] theorem State.setCtx_clusters (s : State) (k : Nat) (x : Ctx) : (s.setCtx k x).clusters = s.clusters := rfl
@[simp] theorem State.setCtx_dies (s : State) (k : Nat) (x : Ctx) : (s.setCtx k x).dies = s.dies := rfl
@[simp] theorem State.setCtx_cway (s : State) (k : Nat) (x : Ctx) : (s.setCtx k x).cway = s.cway := rfl
@[simp] theorem State.setCtx_l3 (s : State) (k : Nat) (x : Ctx) : (s.setCtx k x).l3 = s.l3 := rfl
@[simp] theorem State.setCtx_withdrawals (s : State) (k : Nat) (x : Ctx) : (s.setCtx k x).withdrawals = s.withdrawals := rfl
@[simp] theorem State.setCtx_straits (s : State) (k : Nat) (x : Ctx) : (s.setCtx k x).straits = s.straits := rfl
@[simp] theorem State.setCtx_power (s : State) (k : Nat) (x : Ctx) : (s.setCtx k x).power = s.power := rfl
@[simp] theorem State.setCtx_host (s : State) (k : Nat) (x : Ctx) : (s.setCtx k x).host = s.host := rfl
@[simp] theorem State.setCtx_cur (s : State) (k : Nat) (x : Ctx) : (s.setCtx k x).cur = s.cur := rfl
@[simp] theorem State.setCtx_second (s : State) (k : Nat) (x : Ctx) : (s.setCtx k x).second = s.second := rfl
@[simp] theorem State.setCtx_agenda (s : State) (k : Nat) (x : Ctx) : (s.setCtx k x).agenda = s.agenda := rfl
@[simp] theorem State.setCtx_issues (s : State) (k : Nat) (x : Ctx) : (s.setCtx k x).issues = s.issues := rfl
@[simp] theorem State.setCtx_tick (s : State) (k : Nat) (x : Ctx) : (s.setCtx k x).tick = s.tick := rfl
@[simp] theorem State.setCtx_now (s : State) (k : Nat) (x : Ctx) : (s.setCtx k x).now = s.now := rfl
@[simp] theorem State.setCtx_nextId (s : State) (k : Nat) (x : Ctx) : (s.setCtx k x).nextId = s.nextId := rfl

@[simp] theorem State.setQueue_mem (s : State) (k : Nat) (x : Queue) : (s.setQueue k x).mem = s.mem := rfl
@[simp] theorem State.setQueue_lmem (s : State) (k : Nat) (x : Queue) : (s.setQueue k x).lmem = s.lmem := rfl
@[simp] theorem State.setQueue_warps (s : State) (k : Nat) (x : Queue) : (s.setQueue k x).warps = s.warps := rfl
@[simp] theorem State.setQueue_gangs (s : State) (k : Nat) (x : Queue) : (s.setQueue k x).gangs = s.gangs := rfl
@[simp] theorem State.setQueue_launches (s : State) (k : Nat) (x : Queue) : (s.setQueue k x).launches = s.launches := rfl
@[simp] theorem State.setQueue_ctxs (s : State) (k : Nat) (x : Queue) : (s.setQueue k x).ctxs = s.ctxs := rfl
@[simp] theorem State.setQueue_cores (s : State) (k : Nat) (x : Queue) : (s.setQueue k x).cores = s.cores := rfl
@[simp] theorem State.setQueue_clusters (s : State) (k : Nat) (x : Queue) : (s.setQueue k x).clusters = s.clusters := rfl
@[simp] theorem State.setQueue_dies (s : State) (k : Nat) (x : Queue) : (s.setQueue k x).dies = s.dies := rfl
@[simp] theorem State.setQueue_cway (s : State) (k : Nat) (x : Queue) : (s.setQueue k x).cway = s.cway := rfl
@[simp] theorem State.setQueue_l3 (s : State) (k : Nat) (x : Queue) : (s.setQueue k x).l3 = s.l3 := rfl
@[simp] theorem State.setQueue_withdrawals (s : State) (k : Nat) (x : Queue) : (s.setQueue k x).withdrawals = s.withdrawals := rfl
@[simp] theorem State.setQueue_straits (s : State) (k : Nat) (x : Queue) : (s.setQueue k x).straits = s.straits := rfl
@[simp] theorem State.setQueue_power (s : State) (k : Nat) (x : Queue) : (s.setQueue k x).power = s.power := rfl
@[simp] theorem State.setQueue_host (s : State) (k : Nat) (x : Queue) : (s.setQueue k x).host = s.host := rfl
@[simp] theorem State.setQueue_cur (s : State) (k : Nat) (x : Queue) : (s.setQueue k x).cur = s.cur := rfl
@[simp] theorem State.setQueue_second (s : State) (k : Nat) (x : Queue) : (s.setQueue k x).second = s.second := rfl
@[simp] theorem State.setQueue_agenda (s : State) (k : Nat) (x : Queue) : (s.setQueue k x).agenda = s.agenda := rfl
@[simp] theorem State.setQueue_issues (s : State) (k : Nat) (x : Queue) : (s.setQueue k x).issues = s.issues := rfl
@[simp] theorem State.setQueue_tick (s : State) (k : Nat) (x : Queue) : (s.setQueue k x).tick = s.tick := rfl
@[simp] theorem State.setQueue_now (s : State) (k : Nat) (x : Queue) : (s.setQueue k x).now = s.now := rfl
@[simp] theorem State.setQueue_nextId (s : State) (k : Nat) (x : Queue) : (s.setQueue k x).nextId = s.nextId := rfl

@[simp] theorem State.setWarp_mem (s : State) (k : Nat) (x : Warp) : (s.setWarp k x).mem = s.mem := rfl
@[simp] theorem State.setWarp_lmem (s : State) (k : Nat) (x : Warp) : (s.setWarp k x).lmem = s.lmem := rfl
@[simp] theorem State.setWarp_gangs (s : State) (k : Nat) (x : Warp) : (s.setWarp k x).gangs = s.gangs := rfl
@[simp] theorem State.setWarp_launches (s : State) (k : Nat) (x : Warp) : (s.setWarp k x).launches = s.launches := rfl
@[simp] theorem State.setWarp_queues (s : State) (k : Nat) (x : Warp) : (s.setWarp k x).queues = s.queues := rfl
@[simp] theorem State.setWarp_ctxs (s : State) (k : Nat) (x : Warp) : (s.setWarp k x).ctxs = s.ctxs := rfl
@[simp] theorem State.setWarp_cores (s : State) (k : Nat) (x : Warp) : (s.setWarp k x).cores = s.cores := rfl
@[simp] theorem State.setWarp_clusters (s : State) (k : Nat) (x : Warp) : (s.setWarp k x).clusters = s.clusters := rfl
@[simp] theorem State.setWarp_dies (s : State) (k : Nat) (x : Warp) : (s.setWarp k x).dies = s.dies := rfl
@[simp] theorem State.setWarp_cway (s : State) (k : Nat) (x : Warp) : (s.setWarp k x).cway = s.cway := rfl
@[simp] theorem State.setWarp_l3 (s : State) (k : Nat) (x : Warp) : (s.setWarp k x).l3 = s.l3 := rfl
@[simp] theorem State.setWarp_withdrawals (s : State) (k : Nat) (x : Warp) : (s.setWarp k x).withdrawals = s.withdrawals := rfl
@[simp] theorem State.setWarp_straits (s : State) (k : Nat) (x : Warp) : (s.setWarp k x).straits = s.straits := rfl
@[simp] theorem State.setWarp_power (s : State) (k : Nat) (x : Warp) : (s.setWarp k x).power = s.power := rfl
@[simp] theorem State.setWarp_host (s : State) (k : Nat) (x : Warp) : (s.setWarp k x).host = s.host := rfl
@[simp] theorem State.setWarp_cur (s : State) (k : Nat) (x : Warp) : (s.setWarp k x).cur = s.cur := rfl
@[simp] theorem State.setWarp_second (s : State) (k : Nat) (x : Warp) : (s.setWarp k x).second = s.second := rfl
@[simp] theorem State.setWarp_agenda (s : State) (k : Nat) (x : Warp) : (s.setWarp k x).agenda = s.agenda := rfl
@[simp] theorem State.setWarp_issues (s : State) (k : Nat) (x : Warp) : (s.setWarp k x).issues = s.issues := rfl
@[simp] theorem State.setWarp_tick (s : State) (k : Nat) (x : Warp) : (s.setWarp k x).tick = s.tick := rfl
@[simp] theorem State.setWarp_now (s : State) (k : Nat) (x : Warp) : (s.setWarp k x).now = s.now := rfl
@[simp] theorem State.setWarp_nextId (s : State) (k : Nat) (x : Warp) : (s.setWarp k x).nextId = s.nextId := rfl

@[simp] theorem State.onWarp_mem (s : State) (k : Nat) (x : Warp → Warp) : (s.onWarp k x).mem = s.mem := rfl
@[simp] theorem State.onWarp_lmem (s : State) (k : Nat) (x : Warp → Warp) : (s.onWarp k x).lmem = s.lmem := rfl
@[simp] theorem State.onWarp_gangs (s : State) (k : Nat) (x : Warp → Warp) : (s.onWarp k x).gangs = s.gangs := rfl
@[simp] theorem State.onWarp_launches (s : State) (k : Nat) (x : Warp → Warp) : (s.onWarp k x).launches = s.launches := rfl
@[simp] theorem State.onWarp_queues (s : State) (k : Nat) (x : Warp → Warp) : (s.onWarp k x).queues = s.queues := rfl
@[simp] theorem State.onWarp_ctxs (s : State) (k : Nat) (x : Warp → Warp) : (s.onWarp k x).ctxs = s.ctxs := rfl
@[simp] theorem State.onWarp_cores (s : State) (k : Nat) (x : Warp → Warp) : (s.onWarp k x).cores = s.cores := rfl
@[simp] theorem State.onWarp_clusters (s : State) (k : Nat) (x : Warp → Warp) : (s.onWarp k x).clusters = s.clusters := rfl
@[simp] theorem State.onWarp_dies (s : State) (k : Nat) (x : Warp → Warp) : (s.onWarp k x).dies = s.dies := rfl
@[simp] theorem State.onWarp_cway (s : State) (k : Nat) (x : Warp → Warp) : (s.onWarp k x).cway = s.cway := rfl
@[simp] theorem State.onWarp_l3 (s : State) (k : Nat) (x : Warp → Warp) : (s.onWarp k x).l3 = s.l3 := rfl
@[simp] theorem State.onWarp_withdrawals (s : State) (k : Nat) (x : Warp → Warp) : (s.onWarp k x).withdrawals = s.withdrawals := rfl
@[simp] theorem State.onWarp_straits (s : State) (k : Nat) (x : Warp → Warp) : (s.onWarp k x).straits = s.straits := rfl
@[simp] theorem State.onWarp_power (s : State) (k : Nat) (x : Warp → Warp) : (s.onWarp k x).power = s.power := rfl
@[simp] theorem State.onWarp_host (s : State) (k : Nat) (x : Warp → Warp) : (s.onWarp k x).host = s.host := rfl
@[simp] theorem State.onWarp_cur (s : State) (k : Nat) (x : Warp → Warp) : (s.onWarp k x).cur = s.cur := rfl
@[simp] theorem State.onWarp_second (s : State) (k : Nat) (x : Warp → Warp) : (s.onWarp k x).second = s.second := rfl
@[simp] theorem State.onWarp_agenda (s : State) (k : Nat) (x : Warp → Warp) : (s.onWarp k x).agenda = s.agenda := rfl
@[simp] theorem State.onWarp_issues (s : State) (k : Nat) (x : Warp → Warp) : (s.onWarp k x).issues = s.issues := rfl
@[simp] theorem State.onWarp_tick (s : State) (k : Nat) (x : Warp → Warp) : (s.onWarp k x).tick = s.tick := rfl
@[simp] theorem State.onWarp_now (s : State) (k : Nat) (x : Warp → Warp) : (s.onWarp k x).now = s.now := rfl
@[simp] theorem State.onWarp_nextId (s : State) (k : Nat) (x : Warp → Warp) : (s.onWarp k x).nextId = s.nextId := rfl

@[simp] theorem State.setGang_mem (s : State) (k : Nat) (x : Gang) : (s.setGang k x).mem = s.mem := rfl
@[simp] theorem State.setGang_lmem (s : State) (k : Nat) (x : Gang) : (s.setGang k x).lmem = s.lmem := rfl
@[simp] theorem State.setGang_warps (s : State) (k : Nat) (x : Gang) : (s.setGang k x).warps = s.warps := rfl
@[simp] theorem State.setGang_launches (s : State) (k : Nat) (x : Gang) : (s.setGang k x).launches = s.launches := rfl
@[simp] theorem State.setGang_queues (s : State) (k : Nat) (x : Gang) : (s.setGang k x).queues = s.queues := rfl
@[simp] theorem State.setGang_ctxs (s : State) (k : Nat) (x : Gang) : (s.setGang k x).ctxs = s.ctxs := rfl
@[simp] theorem State.setGang_cores (s : State) (k : Nat) (x : Gang) : (s.setGang k x).cores = s.cores := rfl
@[simp] theorem State.setGang_clusters (s : State) (k : Nat) (x : Gang) : (s.setGang k x).clusters = s.clusters := rfl
@[simp] theorem State.setGang_dies (s : State) (k : Nat) (x : Gang) : (s.setGang k x).dies = s.dies := rfl
@[simp] theorem State.setGang_cway (s : State) (k : Nat) (x : Gang) : (s.setGang k x).cway = s.cway := rfl
@[simp] theorem State.setGang_l3 (s : State) (k : Nat) (x : Gang) : (s.setGang k x).l3 = s.l3 := rfl
@[simp] theorem State.setGang_withdrawals (s : State) (k : Nat) (x : Gang) : (s.setGang k x).withdrawals = s.withdrawals := rfl
@[simp] theorem State.setGang_straits (s : State) (k : Nat) (x : Gang) : (s.setGang k x).straits = s.straits := rfl
@[simp] theorem State.setGang_power (s : State) (k : Nat) (x : Gang) : (s.setGang k x).power = s.power := rfl
@[simp] theorem State.setGang_host (s : State) (k : Nat) (x : Gang) : (s.setGang k x).host = s.host := rfl
@[simp] theorem State.setGang_cur (s : State) (k : Nat) (x : Gang) : (s.setGang k x).cur = s.cur := rfl
@[simp] theorem State.setGang_second (s : State) (k : Nat) (x : Gang) : (s.setGang k x).second = s.second := rfl
@[simp] theorem State.setGang_agenda (s : State) (k : Nat) (x : Gang) : (s.setGang k x).agenda = s.agenda := rfl
@[simp] theorem State.setGang_issues (s : State) (k : Nat) (x : Gang) : (s.setGang k x).issues = s.issues := rfl
@[simp] theorem State.setGang_tick (s : State) (k : Nat) (x : Gang) : (s.setGang k x).tick = s.tick := rfl
@[simp] theorem State.setGang_now (s : State) (k : Nat) (x : Gang) : (s.setGang k x).now = s.now := rfl
@[simp] theorem State.setGang_nextId (s : State) (k : Nat) (x : Gang) : (s.setGang k x).nextId = s.nextId := rfl

@[simp] theorem State.setLaunch_mem (s : State) (k : Nat) (x : Launch) : (s.setLaunch k x).mem = s.mem := rfl
@[simp] theorem State.setLaunch_lmem (s : State) (k : Nat) (x : Launch) : (s.setLaunch k x).lmem = s.lmem := rfl
@[simp] theorem State.setLaunch_warps (s : State) (k : Nat) (x : Launch) : (s.setLaunch k x).warps = s.warps := rfl
@[simp] theorem State.setLaunch_gangs (s : State) (k : Nat) (x : Launch) : (s.setLaunch k x).gangs = s.gangs := rfl
@[simp] theorem State.setLaunch_queues (s : State) (k : Nat) (x : Launch) : (s.setLaunch k x).queues = s.queues := rfl
@[simp] theorem State.setLaunch_ctxs (s : State) (k : Nat) (x : Launch) : (s.setLaunch k x).ctxs = s.ctxs := rfl
@[simp] theorem State.setLaunch_cores (s : State) (k : Nat) (x : Launch) : (s.setLaunch k x).cores = s.cores := rfl
@[simp] theorem State.setLaunch_clusters (s : State) (k : Nat) (x : Launch) : (s.setLaunch k x).clusters = s.clusters := rfl
@[simp] theorem State.setLaunch_dies (s : State) (k : Nat) (x : Launch) : (s.setLaunch k x).dies = s.dies := rfl
@[simp] theorem State.setLaunch_cway (s : State) (k : Nat) (x : Launch) : (s.setLaunch k x).cway = s.cway := rfl
@[simp] theorem State.setLaunch_l3 (s : State) (k : Nat) (x : Launch) : (s.setLaunch k x).l3 = s.l3 := rfl
@[simp] theorem State.setLaunch_withdrawals (s : State) (k : Nat) (x : Launch) : (s.setLaunch k x).withdrawals = s.withdrawals := rfl
@[simp] theorem State.setLaunch_straits (s : State) (k : Nat) (x : Launch) : (s.setLaunch k x).straits = s.straits := rfl
@[simp] theorem State.setLaunch_power (s : State) (k : Nat) (x : Launch) : (s.setLaunch k x).power = s.power := rfl
@[simp] theorem State.setLaunch_host (s : State) (k : Nat) (x : Launch) : (s.setLaunch k x).host = s.host := rfl
@[simp] theorem State.setLaunch_cur (s : State) (k : Nat) (x : Launch) : (s.setLaunch k x).cur = s.cur := rfl
@[simp] theorem State.setLaunch_second (s : State) (k : Nat) (x : Launch) : (s.setLaunch k x).second = s.second := rfl
@[simp] theorem State.setLaunch_agenda (s : State) (k : Nat) (x : Launch) : (s.setLaunch k x).agenda = s.agenda := rfl
@[simp] theorem State.setLaunch_issues (s : State) (k : Nat) (x : Launch) : (s.setLaunch k x).issues = s.issues := rfl
@[simp] theorem State.setLaunch_tick (s : State) (k : Nat) (x : Launch) : (s.setLaunch k x).tick = s.tick := rfl
@[simp] theorem State.setLaunch_now (s : State) (k : Nat) (x : Launch) : (s.setLaunch k x).now = s.now := rfl
@[simp] theorem State.setLaunch_nextId (s : State) (k : Nat) (x : Launch) : (s.setLaunch k x).nextId = s.nextId := rfl

@[simp] theorem State.poke_lmem (s : State) (l : List (Nat × Byte)) : (s.poke l).lmem = s.lmem := by
  simp only [State.poke, State.dropLatches]; split <;> rfl
@[simp] theorem State.poke_warps (s : State) (l : List (Nat × Byte)) : (s.poke l).warps = s.warps := by
  simp only [State.poke, State.dropLatches]; split <;> rfl
@[simp] theorem State.poke_gangs (s : State) (l : List (Nat × Byte)) : (s.poke l).gangs = s.gangs := by
  simp only [State.poke, State.dropLatches]; split <;> rfl
@[simp] theorem State.poke_launches (s : State) (l : List (Nat × Byte)) : (s.poke l).launches = s.launches := by
  simp only [State.poke, State.dropLatches]; split <;> rfl
@[simp] theorem State.poke_queues (s : State) (l : List (Nat × Byte)) : (s.poke l).queues = s.queues := by
  simp only [State.poke, State.dropLatches]; split <;> rfl
@[simp] theorem State.poke_ctxs (s : State) (l : List (Nat × Byte)) : (s.poke l).ctxs = s.ctxs := by
  simp only [State.poke, State.dropLatches]; split <;> rfl
@[simp] theorem State.poke_clusters (s : State) (l : List (Nat × Byte)) : (s.poke l).clusters = s.clusters := by
  simp only [State.poke, State.dropLatches]; split <;> rfl
@[simp] theorem State.poke_dies (s : State) (l : List (Nat × Byte)) : (s.poke l).dies = s.dies := by
  simp only [State.poke, State.dropLatches]; split <;> rfl
@[simp] theorem State.poke_cway (s : State) (l : List (Nat × Byte)) : (s.poke l).cway = s.cway := by
  simp only [State.poke, State.dropLatches]; split <;> rfl
@[simp] theorem State.poke_l3 (s : State) (l : List (Nat × Byte)) : (s.poke l).l3 = s.l3 := by
  simp only [State.poke, State.dropLatches]; split <;> rfl
@[simp] theorem State.poke_withdrawals (s : State) (l : List (Nat × Byte)) : (s.poke l).withdrawals = s.withdrawals := by
  simp only [State.poke, State.dropLatches]; split <;> rfl
@[simp] theorem State.poke_straits (s : State) (l : List (Nat × Byte)) : (s.poke l).straits = s.straits := by
  simp only [State.poke, State.dropLatches]; split <;> rfl
@[simp] theorem State.poke_power (s : State) (l : List (Nat × Byte)) : (s.poke l).power = s.power := by
  simp only [State.poke, State.dropLatches]; split <;> rfl
@[simp] theorem State.poke_host (s : State) (l : List (Nat × Byte)) : (s.poke l).host = s.host := by
  simp only [State.poke, State.dropLatches]; split <;> rfl
@[simp] theorem State.poke_cur (s : State) (l : List (Nat × Byte)) : (s.poke l).cur = s.cur := by
  simp only [State.poke, State.dropLatches]; split <;> rfl
@[simp] theorem State.poke_second (s : State) (l : List (Nat × Byte)) : (s.poke l).second = s.second := by
  simp only [State.poke, State.dropLatches]; split <;> rfl
@[simp] theorem State.poke_agenda (s : State) (l : List (Nat × Byte)) : (s.poke l).agenda = s.agenda := by
  simp only [State.poke, State.dropLatches]; split <;> rfl
@[simp] theorem State.poke_issues (s : State) (l : List (Nat × Byte)) : (s.poke l).issues = s.issues := by
  simp only [State.poke, State.dropLatches]; split <;> rfl
@[simp] theorem State.poke_tick (s : State) (l : List (Nat × Byte)) : (s.poke l).tick = s.tick := by
  simp only [State.poke, State.dropLatches]; split <;> rfl
@[simp] theorem State.poke_now (s : State) (l : List (Nat × Byte)) : (s.poke l).now = s.now := by
  simp only [State.poke, State.dropLatches]; split <;> rfl
@[simp] theorem State.poke_nextId (s : State) (l : List (Nat × Byte)) : (s.poke l).nextId = s.nextId := by
  simp only [State.poke, State.dropLatches]; split <;> rfl

@[simp] theorem State.localPoke_mem (s : State) (g o : Nat) (l : List Byte) : (s.localPoke g o l).mem = s.mem := by
  simp only [State.localPoke, State.dropLatches]; split <;> rfl
@[simp] theorem State.localPoke_warps (s : State) (g o : Nat) (l : List Byte) : (s.localPoke g o l).warps = s.warps := by
  simp only [State.localPoke, State.dropLatches]; split <;> rfl
@[simp] theorem State.localPoke_gangs (s : State) (g o : Nat) (l : List Byte) : (s.localPoke g o l).gangs = s.gangs := by
  simp only [State.localPoke, State.dropLatches]; split <;> rfl
@[simp] theorem State.localPoke_launches (s : State) (g o : Nat) (l : List Byte) : (s.localPoke g o l).launches = s.launches := by
  simp only [State.localPoke, State.dropLatches]; split <;> rfl
@[simp] theorem State.localPoke_queues (s : State) (g o : Nat) (l : List Byte) : (s.localPoke g o l).queues = s.queues := by
  simp only [State.localPoke, State.dropLatches]; split <;> rfl
@[simp] theorem State.localPoke_ctxs (s : State) (g o : Nat) (l : List Byte) : (s.localPoke g o l).ctxs = s.ctxs := by
  simp only [State.localPoke, State.dropLatches]; split <;> rfl
@[simp] theorem State.localPoke_clusters (s : State) (g o : Nat) (l : List Byte) : (s.localPoke g o l).clusters = s.clusters := by
  simp only [State.localPoke, State.dropLatches]; split <;> rfl
@[simp] theorem State.localPoke_dies (s : State) (g o : Nat) (l : List Byte) : (s.localPoke g o l).dies = s.dies := by
  simp only [State.localPoke, State.dropLatches]; split <;> rfl
@[simp] theorem State.localPoke_cway (s : State) (g o : Nat) (l : List Byte) : (s.localPoke g o l).cway = s.cway := by
  simp only [State.localPoke, State.dropLatches]; split <;> rfl
@[simp] theorem State.localPoke_l3 (s : State) (g o : Nat) (l : List Byte) : (s.localPoke g o l).l3 = s.l3 := by
  simp only [State.localPoke, State.dropLatches]; split <;> rfl
@[simp] theorem State.localPoke_withdrawals (s : State) (g o : Nat) (l : List Byte) : (s.localPoke g o l).withdrawals = s.withdrawals := by
  simp only [State.localPoke, State.dropLatches]; split <;> rfl
@[simp] theorem State.localPoke_straits (s : State) (g o : Nat) (l : List Byte) : (s.localPoke g o l).straits = s.straits := by
  simp only [State.localPoke, State.dropLatches]; split <;> rfl
@[simp] theorem State.localPoke_power (s : State) (g o : Nat) (l : List Byte) : (s.localPoke g o l).power = s.power := by
  simp only [State.localPoke, State.dropLatches]; split <;> rfl
@[simp] theorem State.localPoke_host (s : State) (g o : Nat) (l : List Byte) : (s.localPoke g o l).host = s.host := by
  simp only [State.localPoke, State.dropLatches]; split <;> rfl
@[simp] theorem State.localPoke_cur (s : State) (g o : Nat) (l : List Byte) : (s.localPoke g o l).cur = s.cur := by
  simp only [State.localPoke, State.dropLatches]; split <;> rfl
@[simp] theorem State.localPoke_second (s : State) (g o : Nat) (l : List Byte) : (s.localPoke g o l).second = s.second := by
  simp only [State.localPoke, State.dropLatches]; split <;> rfl
@[simp] theorem State.localPoke_agenda (s : State) (g o : Nat) (l : List Byte) : (s.localPoke g o l).agenda = s.agenda := by
  simp only [State.localPoke, State.dropLatches]; split <;> rfl
@[simp] theorem State.localPoke_issues (s : State) (g o : Nat) (l : List Byte) : (s.localPoke g o l).issues = s.issues := by
  simp only [State.localPoke, State.dropLatches]; split <;> rfl
@[simp] theorem State.localPoke_tick (s : State) (g o : Nat) (l : List Byte) : (s.localPoke g o l).tick = s.tick := by
  simp only [State.localPoke, State.dropLatches]; split <;> rfl
@[simp] theorem State.localPoke_now (s : State) (g o : Nat) (l : List Byte) : (s.localPoke g o l).now = s.now := by
  simp only [State.localPoke, State.dropLatches]; split <;> rfl
@[simp] theorem State.localPoke_nextId (s : State) (g o : Nat) (l : List Byte) : (s.localPoke g o l).nextId = s.nextId := by
  simp only [State.localPoke, State.dropLatches]; split <;> rfl

@[simp] theorem State.freeNat_mem (s : State) : s.freeNat.2.mem = s.mem := rfl
@[simp] theorem State.freeNat_lmem (s : State) : s.freeNat.2.lmem = s.lmem := rfl
@[simp] theorem State.freeNat_warps (s : State) : s.freeNat.2.warps = s.warps := rfl
@[simp] theorem State.freeNat_gangs (s : State) : s.freeNat.2.gangs = s.gangs := rfl
@[simp] theorem State.freeNat_launches (s : State) : s.freeNat.2.launches = s.launches := rfl
@[simp] theorem State.freeNat_queues (s : State) : s.freeNat.2.queues = s.queues := rfl
@[simp] theorem State.freeNat_ctxs (s : State) : s.freeNat.2.ctxs = s.ctxs := rfl
@[simp] theorem State.freeNat_cores (s : State) : s.freeNat.2.cores = s.cores := rfl
@[simp] theorem State.freeNat_clusters (s : State) : s.freeNat.2.clusters = s.clusters := rfl
@[simp] theorem State.freeNat_dies (s : State) : s.freeNat.2.dies = s.dies := rfl
@[simp] theorem State.freeNat_cway (s : State) : s.freeNat.2.cway = s.cway := rfl
@[simp] theorem State.freeNat_l3 (s : State) : s.freeNat.2.l3 = s.l3 := rfl
@[simp] theorem State.freeNat_withdrawals (s : State) : s.freeNat.2.withdrawals = s.withdrawals := rfl
@[simp] theorem State.freeNat_straits (s : State) : s.freeNat.2.straits = s.straits := rfl
@[simp] theorem State.freeNat_power (s : State) : s.freeNat.2.power = s.power := rfl
@[simp] theorem State.freeNat_host (s : State) : s.freeNat.2.host = s.host := rfl
@[simp] theorem State.freeNat_cur (s : State) : s.freeNat.2.cur = s.cur := rfl
@[simp] theorem State.freeNat_second (s : State) : s.freeNat.2.second = s.second := rfl
@[simp] theorem State.freeNat_agenda (s : State) : s.freeNat.2.agenda = s.agenda := rfl
@[simp] theorem State.freeNat_issues (s : State) : s.freeNat.2.issues = s.issues := rfl
@[simp] theorem State.freeNat_now (s : State) : s.freeNat.2.now = s.now := rfl
@[simp] theorem State.freeNat_nextId (s : State) : s.freeNat.2.nextId = s.nextId := rfl
@[simp] theorem State.freeNat_tick (s : State) : s.freeNat.2.tick = s.tick + 1 := rfl
@[simp] theorem State.fresh_mem (s : State) : s.fresh.2.mem = s.mem := rfl
@[simp] theorem State.fresh_lmem (s : State) : s.fresh.2.lmem = s.lmem := rfl
@[simp] theorem State.fresh_warps (s : State) : s.fresh.2.warps = s.warps := rfl
@[simp] theorem State.fresh_gangs (s : State) : s.fresh.2.gangs = s.gangs := rfl
@[simp] theorem State.fresh_launches (s : State) : s.fresh.2.launches = s.launches := rfl
@[simp] theorem State.fresh_queues (s : State) : s.fresh.2.queues = s.queues := rfl
@[simp] theorem State.fresh_ctxs (s : State) : s.fresh.2.ctxs = s.ctxs := rfl
@[simp] theorem State.fresh_cores (s : State) : s.fresh.2.cores = s.cores := rfl
@[simp] theorem State.fresh_clusters (s : State) : s.fresh.2.clusters = s.clusters := rfl
@[simp] theorem State.fresh_dies (s : State) : s.fresh.2.dies = s.dies := rfl
@[simp] theorem State.fresh_cway (s : State) : s.fresh.2.cway = s.cway := rfl
@[simp] theorem State.fresh_l3 (s : State) : s.fresh.2.l3 = s.l3 := rfl
@[simp] theorem State.fresh_withdrawals (s : State) : s.fresh.2.withdrawals = s.withdrawals := rfl
@[simp] theorem State.fresh_straits (s : State) : s.fresh.2.straits = s.straits := rfl
@[simp] theorem State.fresh_power (s : State) : s.fresh.2.power = s.power := rfl
@[simp] theorem State.fresh_host (s : State) : s.fresh.2.host = s.host := rfl
@[simp] theorem State.fresh_cur (s : State) : s.fresh.2.cur = s.cur := rfl
@[simp] theorem State.fresh_second (s : State) : s.fresh.2.second = s.second := rfl
@[simp] theorem State.fresh_agenda (s : State) : s.fresh.2.agenda = s.agenda := rfl
@[simp] theorem State.fresh_issues (s : State) : s.fresh.2.issues = s.issues := rfl
@[simp] theorem State.fresh_tick (s : State) : s.fresh.2.tick = s.tick := rfl
@[simp] theorem State.fresh_now (s : State) : s.fresh.2.now = s.now := rfl

@[simp] theorem State.core_setCore (s : State) (k k' : Nat) (x : Core) :
    (s.setCore k x).core k' = if k' = k then x else s.core k' := mget_mset _ _ k k' x
@[simp] theorem State.cluster_setCluster (s : State) (k k' : Nat) (x : Cluster) :
    (s.setCluster k x).cluster k' = if k' = k then x else s.cluster k' := mget_mset _ _ k k' x
@[simp] theorem State.die_setDie (s : State) (k k' : Nat) (x : Die) :
    (s.setDie k x).die k' = if k' = k then x else s.die k' := mget_mset _ _ k k' x
@[simp] theorem State.ctx_setCtx (s : State) (k k' : Nat) (x : Ctx) :
    (s.setCtx k x).ctx k' = if k' = k then x else s.ctx k' := mget_mset _ _ k k' x
@[simp] theorem State.queue_setQueue (s : State) (k k' : Nat) (x : Queue) :
    (s.setQueue k x).queue k' = if k' = k then x else s.queue k' := mget_mset _ _ k k' x
@[simp] theorem State.core_of_setCluster (s : State) (k : Nat) (x : Cluster) (k' : Nat) : (s.setCluster k x).core k' = s.core k' := rfl
@[simp] theorem State.core_of_setDie (s : State) (k : Nat) (x : Die) (k' : Nat) : (s.setDie k x).core k' = s.core k' := rfl
@[simp] theorem State.core_of_setCtx (s : State) (k : Nat) (x : Ctx) (k' : Nat) : (s.setCtx k x).core k' = s.core k' := rfl
@[simp] theorem State.core_of_setQueue (s : State) (k : Nat) (x : Queue) (k' : Nat) : (s.setQueue k x).core k' = s.core k' := rfl
@[simp] theorem State.core_of_setWarp (s : State) (k : Nat) (x : Warp) (k' : Nat) : (s.setWarp k x).core k' = s.core k' := rfl
@[simp] theorem State.core_of_onWarp (s : State) (k : Nat) (x : Warp → Warp) (k' : Nat) : (s.onWarp k x).core k' = s.core k' := rfl
@[simp] theorem State.core_of_setGang (s : State) (k : Nat) (x : Gang) (k' : Nat) : (s.setGang k x).core k' = s.core k' := rfl
@[simp] theorem State.core_of_setLaunch (s : State) (k : Nat) (x : Launch) (k' : Nat) : (s.setLaunch k x).core k' = s.core k' := rfl
@[simp] theorem State.cluster_of_setCore (s : State) (k : Nat) (x : Core) (k' : Nat) : (s.setCore k x).cluster k' = s.cluster k' := rfl
@[simp] theorem State.cluster_of_setDie (s : State) (k : Nat) (x : Die) (k' : Nat) : (s.setDie k x).cluster k' = s.cluster k' := rfl
@[simp] theorem State.cluster_of_setCtx (s : State) (k : Nat) (x : Ctx) (k' : Nat) : (s.setCtx k x).cluster k' = s.cluster k' := rfl
@[simp] theorem State.cluster_of_setQueue (s : State) (k : Nat) (x : Queue) (k' : Nat) : (s.setQueue k x).cluster k' = s.cluster k' := rfl
@[simp] theorem State.cluster_of_setWarp (s : State) (k : Nat) (x : Warp) (k' : Nat) : (s.setWarp k x).cluster k' = s.cluster k' := rfl
@[simp] theorem State.cluster_of_onWarp (s : State) (k : Nat) (x : Warp → Warp) (k' : Nat) : (s.onWarp k x).cluster k' = s.cluster k' := rfl
@[simp] theorem State.cluster_of_setGang (s : State) (k : Nat) (x : Gang) (k' : Nat) : (s.setGang k x).cluster k' = s.cluster k' := rfl
@[simp] theorem State.cluster_of_setLaunch (s : State) (k : Nat) (x : Launch) (k' : Nat) : (s.setLaunch k x).cluster k' = s.cluster k' := rfl
@[simp] theorem State.cluster_of_poke (s : State) (l : List (Nat × Byte)) (k' : Nat) : (s.poke l).cluster k' = s.cluster k' := by
  simp [State.cluster]
@[simp] theorem State.cluster_of_localPoke (s : State) (g o : Nat) (l : List Byte) (k' : Nat) : (s.localPoke g o l).cluster k' = s.cluster k' := by
  simp [State.cluster]
@[simp] theorem State.die_of_setCore (s : State) (k : Nat) (x : Core) (k' : Nat) : (s.setCore k x).die k' = s.die k' := rfl
@[simp] theorem State.die_of_setCluster (s : State) (k : Nat) (x : Cluster) (k' : Nat) : (s.setCluster k x).die k' = s.die k' := rfl
@[simp] theorem State.die_of_setCtx (s : State) (k : Nat) (x : Ctx) (k' : Nat) : (s.setCtx k x).die k' = s.die k' := rfl
@[simp] theorem State.die_of_setQueue (s : State) (k : Nat) (x : Queue) (k' : Nat) : (s.setQueue k x).die k' = s.die k' := rfl
@[simp] theorem State.die_of_setWarp (s : State) (k : Nat) (x : Warp) (k' : Nat) : (s.setWarp k x).die k' = s.die k' := rfl
@[simp] theorem State.die_of_onWarp (s : State) (k : Nat) (x : Warp → Warp) (k' : Nat) : (s.onWarp k x).die k' = s.die k' := rfl
@[simp] theorem State.die_of_setGang (s : State) (k : Nat) (x : Gang) (k' : Nat) : (s.setGang k x).die k' = s.die k' := rfl
@[simp] theorem State.die_of_setLaunch (s : State) (k : Nat) (x : Launch) (k' : Nat) : (s.setLaunch k x).die k' = s.die k' := rfl
@[simp] theorem State.die_of_poke (s : State) (l : List (Nat × Byte)) (k' : Nat) : (s.poke l).die k' = s.die k' := by
  simp [State.die]
@[simp] theorem State.die_of_localPoke (s : State) (g o : Nat) (l : List Byte) (k' : Nat) : (s.localPoke g o l).die k' = s.die k' := by
  simp [State.die]
@[simp] theorem State.ctx_of_setCore (s : State) (k : Nat) (x : Core) (k' : Nat) : (s.setCore k x).ctx k' = s.ctx k' := rfl
@[simp] theorem State.ctx_of_setCluster (s : State) (k : Nat) (x : Cluster) (k' : Nat) : (s.setCluster k x).ctx k' = s.ctx k' := rfl
@[simp] theorem State.ctx_of_setDie (s : State) (k : Nat) (x : Die) (k' : Nat) : (s.setDie k x).ctx k' = s.ctx k' := rfl
@[simp] theorem State.ctx_of_setQueue (s : State) (k : Nat) (x : Queue) (k' : Nat) : (s.setQueue k x).ctx k' = s.ctx k' := rfl
@[simp] theorem State.ctx_of_setWarp (s : State) (k : Nat) (x : Warp) (k' : Nat) : (s.setWarp k x).ctx k' = s.ctx k' := rfl
@[simp] theorem State.ctx_of_onWarp (s : State) (k : Nat) (x : Warp → Warp) (k' : Nat) : (s.onWarp k x).ctx k' = s.ctx k' := rfl
@[simp] theorem State.ctx_of_setGang (s : State) (k : Nat) (x : Gang) (k' : Nat) : (s.setGang k x).ctx k' = s.ctx k' := rfl
@[simp] theorem State.ctx_of_setLaunch (s : State) (k : Nat) (x : Launch) (k' : Nat) : (s.setLaunch k x).ctx k' = s.ctx k' := rfl
@[simp] theorem State.ctx_of_poke (s : State) (l : List (Nat × Byte)) (k' : Nat) : (s.poke l).ctx k' = s.ctx k' := by
  simp [State.ctx]
@[simp] theorem State.ctx_of_localPoke (s : State) (g o : Nat) (l : List Byte) (k' : Nat) : (s.localPoke g o l).ctx k' = s.ctx k' := by
  simp [State.ctx]
@[simp] theorem State.queue_of_setCore (s : State) (k : Nat) (x : Core) (k' : Nat) : (s.setCore k x).queue k' = s.queue k' := rfl
@[simp] theorem State.queue_of_setCluster (s : State) (k : Nat) (x : Cluster) (k' : Nat) : (s.setCluster k x).queue k' = s.queue k' := rfl
@[simp] theorem State.queue_of_setDie (s : State) (k : Nat) (x : Die) (k' : Nat) : (s.setDie k x).queue k' = s.queue k' := rfl
@[simp] theorem State.queue_of_setCtx (s : State) (k : Nat) (x : Ctx) (k' : Nat) : (s.setCtx k x).queue k' = s.queue k' := rfl
@[simp] theorem State.queue_of_setWarp (s : State) (k : Nat) (x : Warp) (k' : Nat) : (s.setWarp k x).queue k' = s.queue k' := rfl
@[simp] theorem State.queue_of_onWarp (s : State) (k : Nat) (x : Warp → Warp) (k' : Nat) : (s.onWarp k x).queue k' = s.queue k' := rfl
@[simp] theorem State.queue_of_setGang (s : State) (k : Nat) (x : Gang) (k' : Nat) : (s.setGang k x).queue k' = s.queue k' := rfl
@[simp] theorem State.queue_of_setLaunch (s : State) (k : Nat) (x : Launch) (k' : Nat) : (s.setLaunch k x).queue k' = s.queue k' := rfl
@[simp] theorem State.queue_of_poke (s : State) (l : List (Nat × Byte)) (k' : Nat) : (s.poke l).queue k' = s.queue k' := by
  simp [State.queue]
@[simp] theorem State.queue_of_localPoke (s : State) (g o : Nat) (l : List Byte) (k' : Nat) : (s.localPoke g o l).queue k' = s.queue k' := by
  simp [State.queue]
@[simp] theorem State.warp_of_setCore (s : State) (k : Nat) (x : Core) (k' : Nat) : (s.setCore k x).warp k' = s.warp k' := rfl
@[simp] theorem State.byte_of_setCore (s : State) (k : Nat) (x : Core) (pa : Nat) : (s.setCore k x).byte pa = s.byte pa := rfl
@[simp] theorem State.warp_of_setCluster (s : State) (k : Nat) (x : Cluster) (k' : Nat) : (s.setCluster k x).warp k' = s.warp k' := rfl
@[simp] theorem State.byte_of_setCluster (s : State) (k : Nat) (x : Cluster) (pa : Nat) : (s.setCluster k x).byte pa = s.byte pa := rfl
@[simp] theorem State.warp_of_setDie (s : State) (k : Nat) (x : Die) (k' : Nat) : (s.setDie k x).warp k' = s.warp k' := rfl
@[simp] theorem State.byte_of_setDie (s : State) (k : Nat) (x : Die) (pa : Nat) : (s.setDie k x).byte pa = s.byte pa := rfl
@[simp] theorem State.warp_of_setCtx (s : State) (k : Nat) (x : Ctx) (k' : Nat) : (s.setCtx k x).warp k' = s.warp k' := rfl
@[simp] theorem State.byte_of_setCtx (s : State) (k : Nat) (x : Ctx) (pa : Nat) : (s.setCtx k x).byte pa = s.byte pa := rfl
@[simp] theorem State.warp_of_setQueue (s : State) (k : Nat) (x : Queue) (k' : Nat) : (s.setQueue k x).warp k' = s.warp k' := rfl
@[simp] theorem State.byte_of_setQueue (s : State) (k : Nat) (x : Queue) (pa : Nat) : (s.setQueue k x).byte pa = s.byte pa := rfl
@[simp] theorem State.byte_of_setWarp (s : State) (k : Nat) (x : Warp) (pa : Nat) : (s.setWarp k x).byte pa = s.byte pa := rfl
@[simp] theorem State.byte_of_onWarp (s : State) (k : Nat) (x : Warp → Warp) (pa : Nat) : (s.onWarp k x).byte pa = s.byte pa := rfl
@[simp] theorem State.warp_of_setGang (s : State) (k : Nat) (x : Gang) (k' : Nat) : (s.setGang k x).warp k' = s.warp k' := rfl
@[simp] theorem State.byte_of_setGang (s : State) (k : Nat) (x : Gang) (pa : Nat) : (s.setGang k x).byte pa = s.byte pa := rfl
@[simp] theorem State.warp_of_setLaunch (s : State) (k : Nat) (x : Launch) (k' : Nat) : (s.setLaunch k x).warp k' = s.warp k' := rfl
@[simp] theorem State.byte_of_setLaunch (s : State) (k : Nat) (x : Launch) (pa : Nat) : (s.setLaunch k x).byte pa = s.byte pa := rfl
@[simp] theorem State.warp_of_poke (s : State) (l : List (Nat × Byte)) (k' : Nat) : (s.poke l).warp k' = s.warp k' := by
  simp [State.warp]
@[simp] theorem State.warp_of_localPoke (s : State) (g o : Nat) (l : List Byte) (k' : Nat) : (s.localPoke g o l).warp k' = s.warp k' := by
  simp [State.warp]
@[simp] theorem State.byte_of_localPoke (s : State) (g o : Nat) (l : List Byte) (pa : Nat) : (s.localPoke g o l).byte pa = s.byte pa := by
  simp [State.byte]

@[simp] theorem State.warp_setWarp_same (s : State) (k : Nat) (w : Warp) : (s.setWarp k w).warp k = some w :=
  mfind_mput_same _ _ _

theorem State.warp_setWarp_ne (s : State) {k k' : Nat} (w : Warp) (h : k' ≠ k) : (s.setWarp k w).warp k' = s.warp k' :=
  mfind_mput_ne _ _ h

/-- A change to a resident warp. -/
theorem State.onWarp_some {s : State} {k : Nat} {w : Warp} (f : Warp → Warp) (h : s.warp k = some w) :
    s.onWarp k f = s.setWarp k (f w) := by
  unfold State.warp at h
  unfold State.onWarp State.setWarp mupd
  rw [h]

/-- A change to a warp that is not resident. -/
theorem State.onWarp_none {s : State} {k : Nat} (f : Warp → Warp) (h : s.warp k = none) : s.onWarp k f = s := by
  unfold State.warp at h
  unfold State.onWarp mupd
  rw [h]

/-- A read of a warp after a change. -/
theorem State.warp_onWarp (s : State) (k k' : Nat) (f : Warp → Warp) :
    (s.onWarp k f).warp k' = if k' = k then (s.warp k).map f else s.warp k' := by
  cases h : s.warp k with
  | none =>
    rw [State.onWarp_none f h]
    split
    · subst_vars
      simpa using h
    · rfl
  | some w =>
    rw [State.onWarp_some f h]
    split
    · subst_vars
      simp
    · exact State.warp_setWarp_ne s (f w) ‹_›

end Sys2Proof.Machine
end

