-- ==== Sys2Proof/Laws/Memory.lean ====
section
/-!
SUPPORT. The memory operations keep the canonical form: writes and atomics at home, monitors, recalls, write-backs and
releases.
-/

namespace Sys2Proof.Machine

/-- A fold of operations that keep the form keeps it. -/
theorem foldl_wf {α : Type} {f : State → α → State} (hf : ∀ s x, Memory.wf s.mem = true → Memory.wf (f s x).mem = true)
    (l : List α) (s : State) (h : Memory.wf s.mem = true) : Memory.wf (l.foldl f s).mem = true := by
  induction l generalizing s with
  | nil => exact h
  | cons x r ih => exact ih _ (hf s x h)

/-- A fold of operations that leave memory alone leaves it alone. -/
theorem foldl_mem {α : Type} {f : State → α → State} (hf : ∀ s x, (f s x).mem = s.mem) (l : List α) (s : State) :
    (l.foldl f s).mem = s.mem := by
  induction l generalizing s with
  | nil => rfl
  | cons x r ih => exact (ih _).trans (hf s x)

/-! ### Monitors -/

@[simp] theorem State.send_mem (s : State) (p : Packet) : (s.send p).mem = s.mem := by
  unfold State.send; split <;> rfl

@[simp] theorem State.onSaved_mem (s : State) (k ctx : Nat) (f : Warp → Warp) : (s.onSaved k ctx f).mem = s.mem := rfl

@[simp] theorem State.onOwner_mem (s : State) (k die asid : Nat) (f : Warp → Warp) : (s.onOwner k die asid f).mem = s.mem := by
  unfold State.onOwner; split
  · split <;> rfl
  · rfl

@[simp] theorem State.onWaiter_mem (s : State) (m : Monitor) (f : Warp → Warp) (g : Launch → Launch) :
    (s.onWaiter m f g).mem = s.mem := by
  unfold State.onWaiter; split <;> simp

@[simp] theorem State.latch_mem (s : State) (a : Nat) (m : Monitor) (x : Xword) : (s.latch a m x).mem = s.mem := by
  unfold State.latch; split <;> simp

@[simp] theorem State.testMonitors_mem (s : State) (a : Nat) : (s.testMonitors a).mem = s.mem := by
  unfold State.testMonitors
  simp only
  split
  · rw [foldl_mem (fun s m => State.latch_mem s a m _)]; rfl
  · rfl

/-! ### The L2 and the L3: what they hold is no memory -/

@[simp] theorem State.setL3_mem (s : State) (line : Nat) (x : L3Line) : (s.setL3 line x).mem = s.mem := rfl

@[simp] theorem State.victim_mem (s : State) (l : List Nat) : (s.victim l).2.mem = s.mem := rfl

@[simp] theorem State.l3Room_mem (s : State) (line : Nat) : (s.l3Room line).mem = s.mem := by
  unfold State.l3Room; split <;> rfl

@[simp] theorem State.evictL2_mem (s : State) (a line : Nat) : (s.evictL2 a line).mem = s.mem := by
  unfold State.evictL2; simp only; split <;> simp

@[simp] theorem State.l2Room_mem (s : State) (a line : Nat) : (s.l2Room a line).mem = s.mem := by
  unfold State.l2Room; simp only; split <;> simp

@[simp] theorem State.setL2_mem (s : State) (a sector : Nat) (x : L2Sector) : (s.setL2 a sector x).mem = s.mem := by
  simp [State.setL2]

@[simp] theorem State.takeL3_mem (s : State) (sector : Nat) : (s.takeL3 sector).1.mem = s.mem := rfl

@[simp] theorem State.l2Fill_mem (s : State) (a sector : Nat) : (s.l2Fill a sector).mem = s.mem := by
  unfold State.l2Fill; split <;> simp

@[simp] theorem State.fillLine_mem (s : State) (a line : Nat) : (s.fillLine a line).mem = s.mem := by
  unfold State.fillLine; split
  · exact foldl_mem (fun s _ => by simp) _ _
  · rfl

@[simp] theorem State.touch_mem (s : State) (a : Nat) (bypass : Bool) (l : List (Nat × Byte)) :
    (s.touch a bypass l).mem = s.mem := by
  unfold State.touch; split
  · exact foldl_mem (fun s _ => by simp) _ _
  · rfl

@[simp] theorem State.reread_mem (s : State) (sector : Nat) : (s.reread sector).mem = s.mem := by
  unfold State.reread; split
  · rfl
  · split <;> rfl

@[simp] theorem State.uncount_mem (s : State) (a sector : Nat) : (s.uncount a sector).mem = s.mem := by
  unfold State.uncount; split <;> rfl

@[simp] theorem State.setCount_mem (s : State) (a sector n : Nat) : (s.setCount a sector n).mem = s.mem := by
  unfold State.setCount; split <;> simp

@[simp] theorem State.countRead_mem (s : State) (a sector rcount : Nat) : (s.countRead a sector rcount).mem = s.mem := by
  unfold State.countRead; split
  · simp only; split <;> simp
  · split
    · rfl
    · split
      · simp
      · split <;> simp

/-! ### Writes at home -/

/-- A write at home writes its bytes and nothing else of memory. -/
@[simp] theorem State.homeWriteBy_mem (s : State) (y : Bool) (l : List (Nat × Byte)) :
    (s.homeWriteBy y l).mem = l.foldl (fun m e => mset 0 m e.1 e.2) s.mem := by
  cases l with
  | nil => rfl
  | cons e r => simp [State.homeWriteBy]

theorem State.homeWrite_mem (s : State) (l : List (Nat × Byte)) : (s.homeWrite l).mem = (s.poke l).mem := by
  simp [State.homeWrite]

theorem homeWriteBy_wf (s : State) (y : Bool) (l : List (Nat × Byte)) (h : Memory.wf s.mem = true) :
    Memory.wf (s.homeWriteBy y l).mem = true := by
  have h1 := poke_wf s l h
  rw [State.poke_mem] at h1
  rw [State.homeWriteBy_mem]; exact h1

theorem homeWrite_wf (s : State) (l : List (Nat × Byte)) (h : Memory.wf s.mem = true) :
    Memory.wf (s.homeWrite l).mem = true := by
  rw [State.homeWrite_mem]; exact poke_wf s l h

theorem pushLine_wf (s : State) (ck line : Nat) (h : Memory.wf s.mem = true) : Memory.wf (s.pushLine ck line).mem = true := by
  unfold State.pushLine
  simp only
  split
  · exact h
  · exact homeWrite_wf _ _ h

theorem recall_wf (s : State) (a line : Nat) (h : Memory.wf s.mem = true) : Memory.wf (s.recall a line).mem = true :=
  foldl_wf (fun s ck => pushLine_wf s ck line) _ s h

theorem homeAtomic_wf (s : State) (op : AtomOp) (pa : Nat) (x : Xword) (h : Memory.wf s.mem = true) :
    Memory.wf (s.homeAtomic op pa x).1.mem = true := homeWrite_wf _ _ (recall_wf s _ _ h)

theorem homeCas_wf (s : State) (wide : Bool) (pa : Nat) (cmp new : Xword) (h : Memory.wf s.mem = true) :
    Memory.wf (s.homeCas wide pa cmp new).1.mem = true := by
  have h1 := recall_wf s (ownerOf pa) (lineOf pa) h
  unfold State.homeCas
  generalize s.recall (ownerOf pa) (lineOf pa) = v at h1 ⊢
  generalize (if wide then 8 else 4 : Nat) = n
  simp only
  split
  · exact homeWrite_wf v _ h1
  · simpa using h1

/-! ### Write-backs, releases and reads -/

theorem writeBackSector_wf (s : State) (ck k : Nat) (h : Memory.wf s.mem = true) :
    Memory.wf (s.writeBackSector ck k).mem = true := by
  unfold State.writeBackSector
  simp only
  split
  · exact h
  · split
    · exact h
    · exact homeWrite_wf _ _ h

theorem flushCore_wf (s : State) (ck : Nat) (h : Memory.wf s.mem = true) : Memory.wf (s.flushCore ck).mem = true :=
  foldl_wf (fun s k => pushLine_wf s ck k) _ _ (foldl_wf (fun s k => writeBackSector_wf s ck k) _ s h)

theorem flushExported_wf (s : State) (ck : Nat) (h : Memory.wf s.mem = true) :
    Memory.wf (s.flushExported ck).mem = true :=
  foldl_wf (fun s k => pushLine_wf s ck k) _ _ (foldl_wf (fun s k => writeBackSector_wf s ck k) _ s h)

theorem releaseCore_wf (s : State) (ck : Nat) (h : Memory.wf s.mem = true) : Memory.wf (s.releaseCore ck).mem = true :=
  flushCore_wf s ck h

theorem pull_wf (s : State) (a sig : Nat) (h : Memory.wf s.mem = true) : Memory.wf (s.pull a sig).mem = true := by
  unfold State.pull
  split
  · exact h
  · rename_i cores _
    exact foldl_wf (fun s ck => flushCore_wf s ck) cores s h

theorem pullAt_wf (s : State) (pa n : Nat) (h : Memory.wf s.mem = true) : Memory.wf (s.pullAt pa n).mem = true :=
  foldl_wf (fun s _ => pull_wf s _ _) _ s h

theorem homeRead_wf (s : State) (pa n rcount : Nat) (acquire : Bool) (h : Memory.wf s.mem = true) :
    Memory.wf (s.homeRead pa n rcount acquire).mem = true := by
  have h1 : Memory.wf (if acquire then s.pullAt pa n else s).mem = true := by
    split
    · exact pullAt_wf s pa n h
    · exact h
  unfold State.homeRead
  simp only
  split
  · rw [State.countRead_mem]; exact recall_wf _ _ _ h1
  · exact recall_wf _ _ _ h1

theorem homeReadAll_wf (s : State) (pa n rcount : Nat) (acquire : Bool) (h : Memory.wf s.mem = true) :
    Memory.wf (s.homeReadAll pa n rcount acquire).mem = true :=
  foldl_wf (fun s _ => homeRead_wf s _ _ _ _) _ s h

/-! ### A core's own view -/

theorem evictL1_wf (s : State) (ck line : Nat) (h : Memory.wf s.mem = true) : Memory.wf (s.evictL1 ck line).mem = true :=
  foldl_wf (fun s k => writeBackSector_wf s ck k) _ _ (pushLine_wf s ck line h)

theorem l1Room_wf (s : State) (ck line : Nat) (h : Memory.wf s.mem = true) : Memory.wf (s.l1Room ck line).mem = true := by
  unfold State.l1Room; simp only; split
  · exact h
  · exact evictL1_wf _ _ _ h

theorem setSector_wf (s : State) (ck k : Nat) (x : Sector) (h : Memory.wf s.mem = true) :
    Memory.wf (s.setSector ck k x).mem = true := by
  unfold State.setSector; split
  · exact h
  · exact l1Room_wf _ _ _ h

@[simp] theorem State.dropLatch_mem (s : State) (ck pa : Nat) (l : List Byte) : (s.dropLatch ck pa l).mem = s.mem := by
  unfold State.dropLatch; split <;> rfl

theorem l1Follow_wf (s : State) (ck pa : Nat) (l : List Byte) (h : Memory.wf s.mem = true) :
    Memory.wf (s.l1Follow ck pa l).mem = true := by
  unfold State.l1Follow; simp only; split
  · exact h
  · exact setSector_wf _ _ _ _ (by simpa using h)

theorem storePlain_wf (s : State) (ck : Nat) (l : List (Nat × Byte)) (x : Bool) (h : Memory.wf s.mem = true) :
    Memory.wf (s.storePlain ck l x).mem = true := by
  unfold State.storePlain
  split
  · exact h
  · refine setSector_wf _ _ _ _ ?_
    split <;> exact pushLine_wf s ck _ h

theorem loadPlain_wf (s : State) (ck pa n rcount : Nat) (h : Memory.wf s.mem = true) :
    Memory.wf (s.loadPlain ck pa n rcount).1.mem = true := by
  have h1 := pushLine_wf s ck (lineOf pa) h
  unfold State.loadPlain; simp only; split
  · exact h1
  · exact setSector_wf _ _ _ _ (homeRead_wf _ _ _ _ _ h1)

theorem writeHomeBy_wf (s : State) (ck : Nat) (y : Bool) (l : List (Nat × Byte)) (h : Memory.wf s.mem = true) :
    Memory.wf (s.writeHomeBy ck y l).mem = true := by
  have h1 := foldl_wf (fun s k => pushLine_wf s ck k) (distinct (l.map fun e => lineOf e.1)) s h
  exact foldl_wf (fun s _ h => l1Follow_wf s ck _ _ h) l _ (homeWriteBy_wf _ y l h1)

theorem writeHome_wf (s : State) (ck : Nat) (l : List (Nat × Byte)) (h : Memory.wf s.mem = true) :
    Memory.wf (s.writeHome ck l).mem = true := writeHomeBy_wf s ck false l h

end Sys2Proof.Machine
end

