-- ==== Sys2Proof/Laws/Warp.lean ====
section
/-!
SUPPORT. A warp's registers and lanes: what each update leaves, and what a read finds after it.
-/

namespace Sys2Proof.Machine

/-! ### What updates leave -/

@[simp] theorem Warp.setV_die (w : Warp) (n i : Nat) (x : Word) : (w.setV n i x).die = w.die := rfl
@[simp] theorem Warp.setV_asid (w : Warp) (n i : Nat) (x : Word) : (w.setV n i x).asid = w.asid := rfl
@[simp] theorem Warp.setV_cluster (w : Warp) (n i : Nat) (x : Word) : (w.setV n i x).cluster = w.cluster := rfl
@[simp] theorem Warp.setV_core (w : Warp) (n i : Nat) (x : Word) : (w.setV n i x).core = w.core := rfl
@[simp] theorem Warp.setV_partition (w : Warp) (n i : Nat) (x : Word) : (w.setV n i x).partition = w.partition := rfl
@[simp] theorem Warp.setV_slot (w : Warp) (n i : Nat) (x : Word) : (w.setV n i x).slot = w.slot := rfl
@[simp] theorem Warp.setV_gang (w : Warp) (n i : Nat) (x : Word) : (w.setV n i x).gang = w.gang := rfl
@[simp] theorem Warp.setV_member (w : Warp) (n i : Nat) (x : Word) : (w.setV n i x).member = w.member := rfl
@[simp] theorem Warp.setV_index (w : Warp) (n i : Nat) (x : Word) : (w.setV n i x).index = w.index := rfl
@[simp] theorem Warp.setV_width (w : Warp) (n i : Nat) (x : Word) : (w.setV n i x).width = w.width := rfl
@[simp] theorem Warp.setV_alloc (w : Warp) (n i : Nat) (x : Word) : (w.setV n i x).alloc = w.alloc := rfl
@[simp] theorem Warp.setV_lanes (w : Warp) (n i : Nat) (x : Word) : (w.setV n i x).lanes = w.lanes := rfl
@[simp] theorem Warp.setV_sregs (w : Warp) (n i : Nat) (x : Word) : (w.setV n i x).sregs = w.sregs := rfl
@[simp] theorem Warp.setV_pregs (w : Warp) (n i : Nat) (x : Word) : (w.setV n i x).pregs = w.pregs := rfl
@[simp] theorem Warp.setV_masks (w : Warp) (n i : Nat) (x : Word) : (w.setV n i x).masks = w.masks := rfl
@[simp] theorem Warp.setV_loops (w : Warp) (n i : Nat) (x : Word) : (w.setV n i x).loops = w.loops := rfl
@[simp] theorem Warp.setV_rep (w : Warp) (n i : Nat) (x : Word) : (w.setV n i x).rep = w.rep := rfl
@[simp] theorem Warp.setV_vwb (w : Warp) (n i : Nat) (x : Word) : (w.setV n i x).vwb = w.vwb := rfl
@[simp] theorem Warp.setV_cvtmode (w : Warp) (n i : Nat) (x : Word) : (w.setV n i x).cvtmode = w.cvtmode := rfl
@[simp] theorem Warp.setV_srseed (w : Warp) (n i : Nat) (x : Word) : (w.setV n i x).srseed = w.srseed := rfl
@[simp] theorem Warp.setV_restart (w : Warp) (n i : Nat) (x : Word) : (w.setV n i x).restart = w.restart := rfl
@[simp] theorem Warp.setV_priv (w : Warp) (n i : Nat) (x : Word) : (w.setV n i x).priv = w.priv := rfl
@[simp] theorem Warp.setV_trappc (w : Warp) (n i : Nat) (x : Word) : (w.setV n i x).trappc = w.trappc := rfl
@[simp] theorem Warp.setV_trapcause (w : Warp) (n i : Nat) (x : Word) : (w.setV n i x).trapcause = w.trapcause := rfl
@[simp] theorem Warp.setV_trapinfo (w : Warp) (n i : Nat) (x : Word) : (w.setV n i x).trapinfo = w.trapinfo := rfl
@[simp] theorem Warp.setV_scratch0 (w : Warp) (n i : Nat) (x : Word) : (w.setV n i x).scratch0 = w.scratch0 := rfl
@[simp] theorem Warp.setV_scratch1 (w : Warp) (n i : Nat) (x : Word) : (w.setV n i x).scratch1 = w.scratch1 := rfl
@[simp] theorem Warp.setV_tlanes (w : Warp) (n i : Nat) (x : Word) : (w.setV n i x).tlanes = w.tlanes := rfl
@[simp] theorem Warp.setV_stop (w : Warp) (n i : Nat) (x : Word) : (w.setV n i x).stop = w.stop := rfl
@[simp] theorem Warp.setV_latch (w : Warp) (n i : Nat) (x : Word) : (w.setV n i x).latch = w.latch := rfl
@[simp] theorem Warp.setV_supLatch (w : Warp) (n i : Nat) (x : Word) : (w.setV n i x).supLatch = w.supLatch := rfl
@[simp] theorem Warp.setV_pendingRestart (w : Warp) (n i : Nat) (x : Word) : (w.setV n i x).pendingRestart = w.pendingRestart := rfl
@[simp] theorem Warp.setV_loads (w : Warp) (n i : Nat) (x : Word) : (w.setV n i x).loads = w.loads := rfl
@[simp] theorem Warp.setV_stores (w : Warp) (n i : Nat) (x : Word) : (w.setV n i x).stores = w.stores := rfl
@[simp] theorem Warp.setV_copies (w : Warp) (n i : Nat) (x : Word) : (w.setV n i x).copies = w.copies := rfl
@[simp] theorem Warp.setV_matrix (w : Warp) (n i : Nat) (x : Word) : (w.setV n i x).matrix = w.matrix := rfl
@[simp] theorem Warp.setV_async (w : Warp) (n i : Nat) (x : Word) : (w.setV n i x).async = w.async := rfl
@[simp] theorem Warp.setV_bsync (w : Warp) (n i : Nat) (x : Word) : (w.setV n i x).bsync = w.bsync := rfl
@[simp] theorem Warp.setV_lastIssue (w : Warp) (n i : Nat) (x : Word) : (w.setV n i x).lastIssue = w.lastIssue := rfl
@[simp] theorem Warp.setS_die (w : Warp) (n : SReg) (x : Xword) : (w.setS n x).die = w.die := by
  unfold Warp.setS; split <;> rfl
@[simp] theorem Warp.setS_asid (w : Warp) (n : SReg) (x : Xword) : (w.setS n x).asid = w.asid := by
  unfold Warp.setS; split <;> rfl
@[simp] theorem Warp.setS_cluster (w : Warp) (n : SReg) (x : Xword) : (w.setS n x).cluster = w.cluster := by
  unfold Warp.setS; split <;> rfl
@[simp] theorem Warp.setS_core (w : Warp) (n : SReg) (x : Xword) : (w.setS n x).core = w.core := by
  unfold Warp.setS; split <;> rfl
@[simp] theorem Warp.setS_partition (w : Warp) (n : SReg) (x : Xword) : (w.setS n x).partition = w.partition := by
  unfold Warp.setS; split <;> rfl
@[simp] theorem Warp.setS_slot (w : Warp) (n : SReg) (x : Xword) : (w.setS n x).slot = w.slot := by
  unfold Warp.setS; split <;> rfl
@[simp] theorem Warp.setS_gang (w : Warp) (n : SReg) (x : Xword) : (w.setS n x).gang = w.gang := by
  unfold Warp.setS; split <;> rfl
@[simp] theorem Warp.setS_member (w : Warp) (n : SReg) (x : Xword) : (w.setS n x).member = w.member := by
  unfold Warp.setS; split <;> rfl
@[simp] theorem Warp.setS_index (w : Warp) (n : SReg) (x : Xword) : (w.setS n x).index = w.index := by
  unfold Warp.setS; split <;> rfl
@[simp] theorem Warp.setS_width (w : Warp) (n : SReg) (x : Xword) : (w.setS n x).width = w.width := by
  unfold Warp.setS; split <;> rfl
@[simp] theorem Warp.setS_alloc (w : Warp) (n : SReg) (x : Xword) : (w.setS n x).alloc = w.alloc := by
  unfold Warp.setS; split <;> rfl
@[simp] theorem Warp.setS_lanes (w : Warp) (n : SReg) (x : Xword) : (w.setS n x).lanes = w.lanes := by
  unfold Warp.setS; split <;> rfl
@[simp] theorem Warp.setS_vregs (w : Warp) (n : SReg) (x : Xword) : (w.setS n x).vregs = w.vregs := by
  unfold Warp.setS; split <;> rfl
@[simp] theorem Warp.setS_pregs (w : Warp) (n : SReg) (x : Xword) : (w.setS n x).pregs = w.pregs := by
  unfold Warp.setS; split <;> rfl
@[simp] theorem Warp.setS_masks (w : Warp) (n : SReg) (x : Xword) : (w.setS n x).masks = w.masks := by
  unfold Warp.setS; split <;> rfl
@[simp] theorem Warp.setS_loops (w : Warp) (n : SReg) (x : Xword) : (w.setS n x).loops = w.loops := by
  unfold Warp.setS; split <;> rfl
@[simp] theorem Warp.setS_rep (w : Warp) (n : SReg) (x : Xword) : (w.setS n x).rep = w.rep := by
  unfold Warp.setS; split <;> rfl
@[simp] theorem Warp.setS_vwb (w : Warp) (n : SReg) (x : Xword) : (w.setS n x).vwb = w.vwb := by
  unfold Warp.setS; split <;> rfl
@[simp] theorem Warp.setS_cvtmode (w : Warp) (n : SReg) (x : Xword) : (w.setS n x).cvtmode = w.cvtmode := by
  unfold Warp.setS; split <;> rfl
@[simp] theorem Warp.setS_srseed (w : Warp) (n : SReg) (x : Xword) : (w.setS n x).srseed = w.srseed := by
  unfold Warp.setS; split <;> rfl
@[simp] theorem Warp.setS_restart (w : Warp) (n : SReg) (x : Xword) : (w.setS n x).restart = w.restart := by
  unfold Warp.setS; split <;> rfl
@[simp] theorem Warp.setS_priv (w : Warp) (n : SReg) (x : Xword) : (w.setS n x).priv = w.priv := by
  unfold Warp.setS; split <;> rfl
@[simp] theorem Warp.setS_trappc (w : Warp) (n : SReg) (x : Xword) : (w.setS n x).trappc = w.trappc := by
  unfold Warp.setS; split <;> rfl
@[simp] theorem Warp.setS_trapcause (w : Warp) (n : SReg) (x : Xword) : (w.setS n x).trapcause = w.trapcause := by
  unfold Warp.setS; split <;> rfl
@[simp] theorem Warp.setS_trapinfo (w : Warp) (n : SReg) (x : Xword) : (w.setS n x).trapinfo = w.trapinfo := by
  unfold Warp.setS; split <;> rfl
@[simp] theorem Warp.setS_scratch0 (w : Warp) (n : SReg) (x : Xword) : (w.setS n x).scratch0 = w.scratch0 := by
  unfold Warp.setS; split <;> rfl
@[simp] theorem Warp.setS_scratch1 (w : Warp) (n : SReg) (x : Xword) : (w.setS n x).scratch1 = w.scratch1 := by
  unfold Warp.setS; split <;> rfl
@[simp] theorem Warp.setS_tlanes (w : Warp) (n : SReg) (x : Xword) : (w.setS n x).tlanes = w.tlanes := by
  unfold Warp.setS; split <;> rfl
@[simp] theorem Warp.setS_stop (w : Warp) (n : SReg) (x : Xword) : (w.setS n x).stop = w.stop := by
  unfold Warp.setS; split <;> rfl
@[simp] theorem Warp.setS_latch (w : Warp) (n : SReg) (x : Xword) : (w.setS n x).latch = w.latch := by
  unfold Warp.setS; split <;> rfl
@[simp] theorem Warp.setS_supLatch (w : Warp) (n : SReg) (x : Xword) : (w.setS n x).supLatch = w.supLatch := by
  unfold Warp.setS; split <;> rfl
@[simp] theorem Warp.setS_pendingRestart (w : Warp) (n : SReg) (x : Xword) : (w.setS n x).pendingRestart = w.pendingRestart := by
  unfold Warp.setS; split <;> rfl
@[simp] theorem Warp.setS_loads (w : Warp) (n : SReg) (x : Xword) : (w.setS n x).loads = w.loads := by
  unfold Warp.setS; split <;> rfl
@[simp] theorem Warp.setS_stores (w : Warp) (n : SReg) (x : Xword) : (w.setS n x).stores = w.stores := by
  unfold Warp.setS; split <;> rfl
@[simp] theorem Warp.setS_copies (w : Warp) (n : SReg) (x : Xword) : (w.setS n x).copies = w.copies := by
  unfold Warp.setS; split <;> rfl
@[simp] theorem Warp.setS_matrix (w : Warp) (n : SReg) (x : Xword) : (w.setS n x).matrix = w.matrix := by
  unfold Warp.setS; split <;> rfl
@[simp] theorem Warp.setS_async (w : Warp) (n : SReg) (x : Xword) : (w.setS n x).async = w.async := by
  unfold Warp.setS; split <;> rfl
@[simp] theorem Warp.setS_bsync (w : Warp) (n : SReg) (x : Xword) : (w.setS n x).bsync = w.bsync := by
  unfold Warp.setS; split <;> rfl
@[simp] theorem Warp.setS_lastIssue (w : Warp) (n : SReg) (x : Xword) : (w.setS n x).lastIssue = w.lastIssue := by
  unfold Warp.setS; split <;> rfl
@[simp] theorem Warp.setP_die (w : Warp) (n : PReg) (l b : LaneSet) : (w.setP n l b).die = w.die := by
  unfold Warp.setP; split <;> rfl
@[simp] theorem Warp.setP_asid (w : Warp) (n : PReg) (l b : LaneSet) : (w.setP n l b).asid = w.asid := by
  unfold Warp.setP; split <;> rfl
@[simp] theorem Warp.setP_cluster (w : Warp) (n : PReg) (l b : LaneSet) : (w.setP n l b).cluster = w.cluster := by
  unfold Warp.setP; split <;> rfl
@[simp] theorem Warp.setP_core (w : Warp) (n : PReg) (l b : LaneSet) : (w.setP n l b).core = w.core := by
  unfold Warp.setP; split <;> rfl
@[simp] theorem Warp.setP_partition (w : Warp) (n : PReg) (l b : LaneSet) : (w.setP n l b).partition = w.partition := by
  unfold Warp.setP; split <;> rfl
@[simp] theorem Warp.setP_slot (w : Warp) (n : PReg) (l b : LaneSet) : (w.setP n l b).slot = w.slot := by
  unfold Warp.setP; split <;> rfl
@[simp] theorem Warp.setP_gang (w : Warp) (n : PReg) (l b : LaneSet) : (w.setP n l b).gang = w.gang := by
  unfold Warp.setP; split <;> rfl
@[simp] theorem Warp.setP_member (w : Warp) (n : PReg) (l b : LaneSet) : (w.setP n l b).member = w.member := by
  unfold Warp.setP; split <;> rfl
@[simp] theorem Warp.setP_index (w : Warp) (n : PReg) (l b : LaneSet) : (w.setP n l b).index = w.index := by
  unfold Warp.setP; split <;> rfl
@[simp] theorem Warp.setP_width (w : Warp) (n : PReg) (l b : LaneSet) : (w.setP n l b).width = w.width := by
  unfold Warp.setP; split <;> rfl
@[simp] theorem Warp.setP_alloc (w : Warp) (n : PReg) (l b : LaneSet) : (w.setP n l b).alloc = w.alloc := by
  unfold Warp.setP; split <;> rfl
@[simp] theorem Warp.setP_lanes (w : Warp) (n : PReg) (l b : LaneSet) : (w.setP n l b).lanes = w.lanes := by
  unfold Warp.setP; split <;> rfl
@[simp] theorem Warp.setP_vregs (w : Warp) (n : PReg) (l b : LaneSet) : (w.setP n l b).vregs = w.vregs := by
  unfold Warp.setP; split <;> rfl
@[simp] theorem Warp.setP_sregs (w : Warp) (n : PReg) (l b : LaneSet) : (w.setP n l b).sregs = w.sregs := by
  unfold Warp.setP; split <;> rfl
@[simp] theorem Warp.setP_masks (w : Warp) (n : PReg) (l b : LaneSet) : (w.setP n l b).masks = w.masks := by
  unfold Warp.setP; split <;> rfl
@[simp] theorem Warp.setP_loops (w : Warp) (n : PReg) (l b : LaneSet) : (w.setP n l b).loops = w.loops := by
  unfold Warp.setP; split <;> rfl
@[simp] theorem Warp.setP_rep (w : Warp) (n : PReg) (l b : LaneSet) : (w.setP n l b).rep = w.rep := by
  unfold Warp.setP; split <;> rfl
@[simp] theorem Warp.setP_vwb (w : Warp) (n : PReg) (l b : LaneSet) : (w.setP n l b).vwb = w.vwb := by
  unfold Warp.setP; split <;> rfl
@[simp] theorem Warp.setP_cvtmode (w : Warp) (n : PReg) (l b : LaneSet) : (w.setP n l b).cvtmode = w.cvtmode := by
  unfold Warp.setP; split <;> rfl
@[simp] theorem Warp.setP_srseed (w : Warp) (n : PReg) (l b : LaneSet) : (w.setP n l b).srseed = w.srseed := by
  unfold Warp.setP; split <;> rfl
@[simp] theorem Warp.setP_restart (w : Warp) (n : PReg) (l b : LaneSet) : (w.setP n l b).restart = w.restart := by
  unfold Warp.setP; split <;> rfl
@[simp] theorem Warp.setP_priv (w : Warp) (n : PReg) (l b : LaneSet) : (w.setP n l b).priv = w.priv := by
  unfold Warp.setP; split <;> rfl
@[simp] theorem Warp.setP_trappc (w : Warp) (n : PReg) (l b : LaneSet) : (w.setP n l b).trappc = w.trappc := by
  unfold Warp.setP; split <;> rfl
@[simp] theorem Warp.setP_trapcause (w : Warp) (n : PReg) (l b : LaneSet) : (w.setP n l b).trapcause = w.trapcause := by
  unfold Warp.setP; split <;> rfl
@[simp] theorem Warp.setP_trapinfo (w : Warp) (n : PReg) (l b : LaneSet) : (w.setP n l b).trapinfo = w.trapinfo := by
  unfold Warp.setP; split <;> rfl
@[simp] theorem Warp.setP_scratch0 (w : Warp) (n : PReg) (l b : LaneSet) : (w.setP n l b).scratch0 = w.scratch0 := by
  unfold Warp.setP; split <;> rfl
@[simp] theorem Warp.setP_scratch1 (w : Warp) (n : PReg) (l b : LaneSet) : (w.setP n l b).scratch1 = w.scratch1 := by
  unfold Warp.setP; split <;> rfl
@[simp] theorem Warp.setP_tlanes (w : Warp) (n : PReg) (l b : LaneSet) : (w.setP n l b).tlanes = w.tlanes := by
  unfold Warp.setP; split <;> rfl
@[simp] theorem Warp.setP_stop (w : Warp) (n : PReg) (l b : LaneSet) : (w.setP n l b).stop = w.stop := by
  unfold Warp.setP; split <;> rfl
@[simp] theorem Warp.setP_latch (w : Warp) (n : PReg) (l b : LaneSet) : (w.setP n l b).latch = w.latch := by
  unfold Warp.setP; split <;> rfl
@[simp] theorem Warp.setP_supLatch (w : Warp) (n : PReg) (l b : LaneSet) : (w.setP n l b).supLatch = w.supLatch := by
  unfold Warp.setP; split <;> rfl
@[simp] theorem Warp.setP_pendingRestart (w : Warp) (n : PReg) (l b : LaneSet) : (w.setP n l b).pendingRestart = w.pendingRestart := by
  unfold Warp.setP; split <;> rfl
@[simp] theorem Warp.setP_loads (w : Warp) (n : PReg) (l b : LaneSet) : (w.setP n l b).loads = w.loads := by
  unfold Warp.setP; split <;> rfl
@[simp] theorem Warp.setP_stores (w : Warp) (n : PReg) (l b : LaneSet) : (w.setP n l b).stores = w.stores := by
  unfold Warp.setP; split <;> rfl
@[simp] theorem Warp.setP_copies (w : Warp) (n : PReg) (l b : LaneSet) : (w.setP n l b).copies = w.copies := by
  unfold Warp.setP; split <;> rfl
@[simp] theorem Warp.setP_matrix (w : Warp) (n : PReg) (l b : LaneSet) : (w.setP n l b).matrix = w.matrix := by
  unfold Warp.setP; split <;> rfl
@[simp] theorem Warp.setP_async (w : Warp) (n : PReg) (l b : LaneSet) : (w.setP n l b).async = w.async := by
  unfold Warp.setP; split <;> rfl
@[simp] theorem Warp.setP_bsync (w : Warp) (n : PReg) (l b : LaneSet) : (w.setP n l b).bsync = w.bsync := by
  unfold Warp.setP; split <;> rfl
@[simp] theorem Warp.setP_lastIssue (w : Warp) (n : PReg) (l b : LaneSet) : (w.setP n l b).lastIssue = w.lastIssue := by
  unfold Warp.setP; split <;> rfl
@[simp] theorem Warp.onLanes_die (w : Warp) (l : LaneSet) (g : Lane → Lane) : (w.onLanes l g).die = w.die := rfl
@[simp] theorem Warp.onLanes_asid (w : Warp) (l : LaneSet) (g : Lane → Lane) : (w.onLanes l g).asid = w.asid := rfl
@[simp] theorem Warp.onLanes_cluster (w : Warp) (l : LaneSet) (g : Lane → Lane) : (w.onLanes l g).cluster = w.cluster := rfl
@[simp] theorem Warp.onLanes_core (w : Warp) (l : LaneSet) (g : Lane → Lane) : (w.onLanes l g).core = w.core := rfl
@[simp] theorem Warp.onLanes_partition (w : Warp) (l : LaneSet) (g : Lane → Lane) : (w.onLanes l g).partition = w.partition := rfl
@[simp] theorem Warp.onLanes_slot (w : Warp) (l : LaneSet) (g : Lane → Lane) : (w.onLanes l g).slot = w.slot := rfl
@[simp] theorem Warp.onLanes_gang (w : Warp) (l : LaneSet) (g : Lane → Lane) : (w.onLanes l g).gang = w.gang := rfl
@[simp] theorem Warp.onLanes_member (w : Warp) (l : LaneSet) (g : Lane → Lane) : (w.onLanes l g).member = w.member := rfl
@[simp] theorem Warp.onLanes_index (w : Warp) (l : LaneSet) (g : Lane → Lane) : (w.onLanes l g).index = w.index := rfl
@[simp] theorem Warp.onLanes_width (w : Warp) (l : LaneSet) (g : Lane → Lane) : (w.onLanes l g).width = w.width := rfl
@[simp] theorem Warp.onLanes_alloc (w : Warp) (l : LaneSet) (g : Lane → Lane) : (w.onLanes l g).alloc = w.alloc := rfl
@[simp] theorem Warp.onLanes_vregs (w : Warp) (l : LaneSet) (g : Lane → Lane) : (w.onLanes l g).vregs = w.vregs := rfl
@[simp] theorem Warp.onLanes_sregs (w : Warp) (l : LaneSet) (g : Lane → Lane) : (w.onLanes l g).sregs = w.sregs := rfl
@[simp] theorem Warp.onLanes_pregs (w : Warp) (l : LaneSet) (g : Lane → Lane) : (w.onLanes l g).pregs = w.pregs := rfl
@[simp] theorem Warp.onLanes_masks (w : Warp) (l : LaneSet) (g : Lane → Lane) : (w.onLanes l g).masks = w.masks := rfl
@[simp] theorem Warp.onLanes_loops (w : Warp) (l : LaneSet) (g : Lane → Lane) : (w.onLanes l g).loops = w.loops := rfl
@[simp] theorem Warp.onLanes_rep (w : Warp) (l : LaneSet) (g : Lane → Lane) : (w.onLanes l g).rep = w.rep := rfl
@[simp] theorem Warp.onLanes_vwb (w : Warp) (l : LaneSet) (g : Lane → Lane) : (w.onLanes l g).vwb = w.vwb := rfl
@[simp] theorem Warp.onLanes_cvtmode (w : Warp) (l : LaneSet) (g : Lane → Lane) : (w.onLanes l g).cvtmode = w.cvtmode := rfl
@[simp] theorem Warp.onLanes_srseed (w : Warp) (l : LaneSet) (g : Lane → Lane) : (w.onLanes l g).srseed = w.srseed := rfl
@[simp] theorem Warp.onLanes_restart (w : Warp) (l : LaneSet) (g : Lane → Lane) : (w.onLanes l g).restart = w.restart := rfl
@[simp] theorem Warp.onLanes_priv (w : Warp) (l : LaneSet) (g : Lane → Lane) : (w.onLanes l g).priv = w.priv := rfl
@[simp] theorem Warp.onLanes_trappc (w : Warp) (l : LaneSet) (g : Lane → Lane) : (w.onLanes l g).trappc = w.trappc := rfl
@[simp] theorem Warp.onLanes_trapcause (w : Warp) (l : LaneSet) (g : Lane → Lane) : (w.onLanes l g).trapcause = w.trapcause := rfl
@[simp] theorem Warp.onLanes_trapinfo (w : Warp) (l : LaneSet) (g : Lane → Lane) : (w.onLanes l g).trapinfo = w.trapinfo := rfl
@[simp] theorem Warp.onLanes_scratch0 (w : Warp) (l : LaneSet) (g : Lane → Lane) : (w.onLanes l g).scratch0 = w.scratch0 := rfl
@[simp] theorem Warp.onLanes_scratch1 (w : Warp) (l : LaneSet) (g : Lane → Lane) : (w.onLanes l g).scratch1 = w.scratch1 := rfl
@[simp] theorem Warp.onLanes_tlanes (w : Warp) (l : LaneSet) (g : Lane → Lane) : (w.onLanes l g).tlanes = w.tlanes := rfl
@[simp] theorem Warp.onLanes_stop (w : Warp) (l : LaneSet) (g : Lane → Lane) : (w.onLanes l g).stop = w.stop := rfl
@[simp] theorem Warp.onLanes_latch (w : Warp) (l : LaneSet) (g : Lane → Lane) : (w.onLanes l g).latch = w.latch := rfl
@[simp] theorem Warp.onLanes_supLatch (w : Warp) (l : LaneSet) (g : Lane → Lane) : (w.onLanes l g).supLatch = w.supLatch := rfl
@[simp] theorem Warp.onLanes_pendingRestart (w : Warp) (l : LaneSet) (g : Lane → Lane) : (w.onLanes l g).pendingRestart = w.pendingRestart := rfl
@[simp] theorem Warp.onLanes_loads (w : Warp) (l : LaneSet) (g : Lane → Lane) : (w.onLanes l g).loads = w.loads := rfl
@[simp] theorem Warp.onLanes_stores (w : Warp) (l : LaneSet) (g : Lane → Lane) : (w.onLanes l g).stores = w.stores := rfl
@[simp] theorem Warp.onLanes_copies (w : Warp) (l : LaneSet) (g : Lane → Lane) : (w.onLanes l g).copies = w.copies := rfl
@[simp] theorem Warp.onLanes_matrix (w : Warp) (l : LaneSet) (g : Lane → Lane) : (w.onLanes l g).matrix = w.matrix := rfl
@[simp] theorem Warp.onLanes_async (w : Warp) (l : LaneSet) (g : Lane → Lane) : (w.onLanes l g).async = w.async := rfl
@[simp] theorem Warp.onLanes_bsync (w : Warp) (l : LaneSet) (g : Lane → Lane) : (w.onLanes l g).bsync = w.bsync := rfl
@[simp] theorem Warp.onLanes_lastIssue (w : Warp) (l : LaneSet) (g : Lane → Lane) : (w.onLanes l g).lastIssue = w.lastIssue := rfl
@[simp] theorem Warp.setVs_die (w : Warp) (n : Nat) (l : List (Nat × Word)) : (w.setVs n l).die = w.die := by
  unfold Warp.setVs; induction l generalizing w with
  | nil => rfl
  | cons e r ih => rw [List.foldl_cons, ih]; rfl
@[simp] theorem Warp.setVs_asid (w : Warp) (n : Nat) (l : List (Nat × Word)) : (w.setVs n l).asid = w.asid := by
  unfold Warp.setVs; induction l generalizing w with
  | nil => rfl
  | cons e r ih => rw [List.foldl_cons, ih]; rfl
@[simp] theorem Warp.setVs_cluster (w : Warp) (n : Nat) (l : List (Nat × Word)) : (w.setVs n l).cluster = w.cluster := by
  unfold Warp.setVs; induction l generalizing w with
  | nil => rfl
  | cons e r ih => rw [List.foldl_cons, ih]; rfl
@[simp] theorem Warp.setVs_core (w : Warp) (n : Nat) (l : List (Nat × Word)) : (w.setVs n l).core = w.core := by
  unfold Warp.setVs; induction l generalizing w with
  | nil => rfl
  | cons e r ih => rw [List.foldl_cons, ih]; rfl
@[simp] theorem Warp.setVs_partition (w : Warp) (n : Nat) (l : List (Nat × Word)) : (w.setVs n l).partition = w.partition := by
  unfold Warp.setVs; induction l generalizing w with
  | nil => rfl
  | cons e r ih => rw [List.foldl_cons, ih]; rfl
@[simp] theorem Warp.setVs_slot (w : Warp) (n : Nat) (l : List (Nat × Word)) : (w.setVs n l).slot = w.slot := by
  unfold Warp.setVs; induction l generalizing w with
  | nil => rfl
  | cons e r ih => rw [List.foldl_cons, ih]; rfl
@[simp] theorem Warp.setVs_gang (w : Warp) (n : Nat) (l : List (Nat × Word)) : (w.setVs n l).gang = w.gang := by
  unfold Warp.setVs; induction l generalizing w with
  | nil => rfl
  | cons e r ih => rw [List.foldl_cons, ih]; rfl
@[simp] theorem Warp.setVs_member (w : Warp) (n : Nat) (l : List (Nat × Word)) : (w.setVs n l).member = w.member := by
  unfold Warp.setVs; induction l generalizing w with
  | nil => rfl
  | cons e r ih => rw [List.foldl_cons, ih]; rfl
@[simp] theorem Warp.setVs_index (w : Warp) (n : Nat) (l : List (Nat × Word)) : (w.setVs n l).index = w.index := by
  unfold Warp.setVs; induction l generalizing w with
  | nil => rfl
  | cons e r ih => rw [List.foldl_cons, ih]; rfl
@[simp] theorem Warp.setVs_width (w : Warp) (n : Nat) (l : List (Nat × Word)) : (w.setVs n l).width = w.width := by
  unfold Warp.setVs; induction l generalizing w with
  | nil => rfl
  | cons e r ih => rw [List.foldl_cons, ih]; rfl
@[simp] theorem Warp.setVs_alloc (w : Warp) (n : Nat) (l : List (Nat × Word)) : (w.setVs n l).alloc = w.alloc := by
  unfold Warp.setVs; induction l generalizing w with
  | nil => rfl
  | cons e r ih => rw [List.foldl_cons, ih]; rfl
@[simp] theorem Warp.setVs_lanes (w : Warp) (n : Nat) (l : List (Nat × Word)) : (w.setVs n l).lanes = w.lanes := by
  unfold Warp.setVs; induction l generalizing w with
  | nil => rfl
  | cons e r ih => rw [List.foldl_cons, ih]; rfl
@[simp] theorem Warp.setVs_sregs (w : Warp) (n : Nat) (l : List (Nat × Word)) : (w.setVs n l).sregs = w.sregs := by
  unfold Warp.setVs; induction l generalizing w with
  | nil => rfl
  | cons e r ih => rw [List.foldl_cons, ih]; rfl
@[simp] theorem Warp.setVs_pregs (w : Warp) (n : Nat) (l : List (Nat × Word)) : (w.setVs n l).pregs = w.pregs := by
  unfold Warp.setVs; induction l generalizing w with
  | nil => rfl
  | cons e r ih => rw [List.foldl_cons, ih]; rfl
@[simp] theorem Warp.setVs_masks (w : Warp) (n : Nat) (l : List (Nat × Word)) : (w.setVs n l).masks = w.masks := by
  unfold Warp.setVs; induction l generalizing w with
  | nil => rfl
  | cons e r ih => rw [List.foldl_cons, ih]; rfl
@[simp] theorem Warp.setVs_loops (w : Warp) (n : Nat) (l : List (Nat × Word)) : (w.setVs n l).loops = w.loops := by
  unfold Warp.setVs; induction l generalizing w with
  | nil => rfl
  | cons e r ih => rw [List.foldl_cons, ih]; rfl
@[simp] theorem Warp.setVs_rep (w : Warp) (n : Nat) (l : List (Nat × Word)) : (w.setVs n l).rep = w.rep := by
  unfold Warp.setVs; induction l generalizing w with
  | nil => rfl
  | cons e r ih => rw [List.foldl_cons, ih]; rfl
@[simp] theorem Warp.setVs_vwb (w : Warp) (n : Nat) (l : List (Nat × Word)) : (w.setVs n l).vwb = w.vwb := by
  unfold Warp.setVs; induction l generalizing w with
  | nil => rfl
  | cons e r ih => rw [List.foldl_cons, ih]; rfl
@[simp] theorem Warp.setVs_cvtmode (w : Warp) (n : Nat) (l : List (Nat × Word)) : (w.setVs n l).cvtmode = w.cvtmode := by
  unfold Warp.setVs; induction l generalizing w with
  | nil => rfl
  | cons e r ih => rw [List.foldl_cons, ih]; rfl
@[simp] theorem Warp.setVs_srseed (w : Warp) (n : Nat) (l : List (Nat × Word)) : (w.setVs n l).srseed = w.srseed := by
  unfold Warp.setVs; induction l generalizing w with
  | nil => rfl
  | cons e r ih => rw [List.foldl_cons, ih]; rfl
@[simp] theorem Warp.setVs_restart (w : Warp) (n : Nat) (l : List (Nat × Word)) : (w.setVs n l).restart = w.restart := by
  unfold Warp.setVs; induction l generalizing w with
  | nil => rfl
  | cons e r ih => rw [List.foldl_cons, ih]; rfl
@[simp] theorem Warp.setVs_priv (w : Warp) (n : Nat) (l : List (Nat × Word)) : (w.setVs n l).priv = w.priv := by
  unfold Warp.setVs; induction l generalizing w with
  | nil => rfl
  | cons e r ih => rw [List.foldl_cons, ih]; rfl
@[simp] theorem Warp.setVs_trappc (w : Warp) (n : Nat) (l : List (Nat × Word)) : (w.setVs n l).trappc = w.trappc := by
  unfold Warp.setVs; induction l generalizing w with
  | nil => rfl
  | cons e r ih => rw [List.foldl_cons, ih]; rfl
@[simp] theorem Warp.setVs_trapcause (w : Warp) (n : Nat) (l : List (Nat × Word)) : (w.setVs n l).trapcause = w.trapcause := by
  unfold Warp.setVs; induction l generalizing w with
  | nil => rfl
  | cons e r ih => rw [List.foldl_cons, ih]; rfl
@[simp] theorem Warp.setVs_trapinfo (w : Warp) (n : Nat) (l : List (Nat × Word)) : (w.setVs n l).trapinfo = w.trapinfo := by
  unfold Warp.setVs; induction l generalizing w with
  | nil => rfl
  | cons e r ih => rw [List.foldl_cons, ih]; rfl
@[simp] theorem Warp.setVs_scratch0 (w : Warp) (n : Nat) (l : List (Nat × Word)) : (w.setVs n l).scratch0 = w.scratch0 := by
  unfold Warp.setVs; induction l generalizing w with
  | nil => rfl
  | cons e r ih => rw [List.foldl_cons, ih]; rfl
@[simp] theorem Warp.setVs_scratch1 (w : Warp) (n : Nat) (l : List (Nat × Word)) : (w.setVs n l).scratch1 = w.scratch1 := by
  unfold Warp.setVs; induction l generalizing w with
  | nil => rfl
  | cons e r ih => rw [List.foldl_cons, ih]; rfl
@[simp] theorem Warp.setVs_tlanes (w : Warp) (n : Nat) (l : List (Nat × Word)) : (w.setVs n l).tlanes = w.tlanes := by
  unfold Warp.setVs; induction l generalizing w with
  | nil => rfl
  | cons e r ih => rw [List.foldl_cons, ih]; rfl
@[simp] theorem Warp.setVs_stop (w : Warp) (n : Nat) (l : List (Nat × Word)) : (w.setVs n l).stop = w.stop := by
  unfold Warp.setVs; induction l generalizing w with
  | nil => rfl
  | cons e r ih => rw [List.foldl_cons, ih]; rfl
@[simp] theorem Warp.setVs_latch (w : Warp) (n : Nat) (l : List (Nat × Word)) : (w.setVs n l).latch = w.latch := by
  unfold Warp.setVs; induction l generalizing w with
  | nil => rfl
  | cons e r ih => rw [List.foldl_cons, ih]; rfl
@[simp] theorem Warp.setVs_supLatch (w : Warp) (n : Nat) (l : List (Nat × Word)) : (w.setVs n l).supLatch = w.supLatch := by
  unfold Warp.setVs; induction l generalizing w with
  | nil => rfl
  | cons e r ih => rw [List.foldl_cons, ih]; rfl
@[simp] theorem Warp.setVs_pendingRestart (w : Warp) (n : Nat) (l : List (Nat × Word)) : (w.setVs n l).pendingRestart = w.pendingRestart := by
  unfold Warp.setVs; induction l generalizing w with
  | nil => rfl
  | cons e r ih => rw [List.foldl_cons, ih]; rfl
@[simp] theorem Warp.setVs_loads (w : Warp) (n : Nat) (l : List (Nat × Word)) : (w.setVs n l).loads = w.loads := by
  unfold Warp.setVs; induction l generalizing w with
  | nil => rfl
  | cons e r ih => rw [List.foldl_cons, ih]; rfl
@[simp] theorem Warp.setVs_stores (w : Warp) (n : Nat) (l : List (Nat × Word)) : (w.setVs n l).stores = w.stores := by
  unfold Warp.setVs; induction l generalizing w with
  | nil => rfl
  | cons e r ih => rw [List.foldl_cons, ih]; rfl
@[simp] theorem Warp.setVs_copies (w : Warp) (n : Nat) (l : List (Nat × Word)) : (w.setVs n l).copies = w.copies := by
  unfold Warp.setVs; induction l generalizing w with
  | nil => rfl
  | cons e r ih => rw [List.foldl_cons, ih]; rfl
@[simp] theorem Warp.setVs_matrix (w : Warp) (n : Nat) (l : List (Nat × Word)) : (w.setVs n l).matrix = w.matrix := by
  unfold Warp.setVs; induction l generalizing w with
  | nil => rfl
  | cons e r ih => rw [List.foldl_cons, ih]; rfl
@[simp] theorem Warp.setVs_async (w : Warp) (n : Nat) (l : List (Nat × Word)) : (w.setVs n l).async = w.async := by
  unfold Warp.setVs; induction l generalizing w with
  | nil => rfl
  | cons e r ih => rw [List.foldl_cons, ih]; rfl
@[simp] theorem Warp.setVs_bsync (w : Warp) (n : Nat) (l : List (Nat × Word)) : (w.setVs n l).bsync = w.bsync := by
  unfold Warp.setVs; induction l generalizing w with
  | nil => rfl
  | cons e r ih => rw [List.foldl_cons, ih]; rfl
@[simp] theorem Warp.setVs_lastIssue (w : Warp) (n : Nat) (l : List (Nat × Word)) : (w.setVs n l).lastIssue = w.lastIssue := by
  unfold Warp.setVs; induction l generalizing w with
  | nil => rfl
  | cons e r ih => rw [List.foldl_cons, ih]; rfl
@[simp] theorem Warp.vecMap_die (w : Warp) (l : LaneSet) (d : VReg) (g : Nat → Word) : (w.vecMap l d g).die = w.die :=
  Warp.setVs_die w _ _
@[simp] theorem Warp.vecMap_asid (w : Warp) (l : LaneSet) (d : VReg) (g : Nat → Word) : (w.vecMap l d g).asid = w.asid :=
  Warp.setVs_asid w _ _
@[simp] theorem Warp.vecMap_cluster (w : Warp) (l : LaneSet) (d : VReg) (g : Nat → Word) : (w.vecMap l d g).cluster = w.cluster :=
  Warp.setVs_cluster w _ _
@[simp] theorem Warp.vecMap_core (w : Warp) (l : LaneSet) (d : VReg) (g : Nat → Word) : (w.vecMap l d g).core = w.core :=
  Warp.setVs_core w _ _
@[simp] theorem Warp.vecMap_partition (w : Warp) (l : LaneSet) (d : VReg) (g : Nat → Word) : (w.vecMap l d g).partition = w.partition :=
  Warp.setVs_partition w _ _
@[simp] theorem Warp.vecMap_slot (w : Warp) (l : LaneSet) (d : VReg) (g : Nat → Word) : (w.vecMap l d g).slot = w.slot :=
  Warp.setVs_slot w _ _
@[simp] theorem Warp.vecMap_gang (w : Warp) (l : LaneSet) (d : VReg) (g : Nat → Word) : (w.vecMap l d g).gang = w.gang :=
  Warp.setVs_gang w _ _
@[simp] theorem Warp.vecMap_member (w : Warp) (l : LaneSet) (d : VReg) (g : Nat → Word) : (w.vecMap l d g).member = w.member :=
  Warp.setVs_member w _ _
@[simp] theorem Warp.vecMap_index (w : Warp) (l : LaneSet) (d : VReg) (g : Nat → Word) : (w.vecMap l d g).index = w.index :=
  Warp.setVs_index w _ _
@[simp] theorem Warp.vecMap_width (w : Warp) (l : LaneSet) (d : VReg) (g : Nat → Word) : (w.vecMap l d g).width = w.width :=
  Warp.setVs_width w _ _
@[simp] theorem Warp.vecMap_alloc (w : Warp) (l : LaneSet) (d : VReg) (g : Nat → Word) : (w.vecMap l d g).alloc = w.alloc :=
  Warp.setVs_alloc w _ _
@[simp] theorem Warp.vecMap_lanes (w : Warp) (l : LaneSet) (d : VReg) (g : Nat → Word) : (w.vecMap l d g).lanes = w.lanes :=
  Warp.setVs_lanes w _ _
@[simp] theorem Warp.vecMap_sregs (w : Warp) (l : LaneSet) (d : VReg) (g : Nat → Word) : (w.vecMap l d g).sregs = w.sregs :=
  Warp.setVs_sregs w _ _
@[simp] theorem Warp.vecMap_pregs (w : Warp) (l : LaneSet) (d : VReg) (g : Nat → Word) : (w.vecMap l d g).pregs = w.pregs :=
  Warp.setVs_pregs w _ _
@[simp] theorem Warp.vecMap_masks (w : Warp) (l : LaneSet) (d : VReg) (g : Nat → Word) : (w.vecMap l d g).masks = w.masks :=
  Warp.setVs_masks w _ _
@[simp] theorem Warp.vecMap_loops (w : Warp) (l : LaneSet) (d : VReg) (g : Nat → Word) : (w.vecMap l d g).loops = w.loops :=
  Warp.setVs_loops w _ _
@[simp] theorem Warp.vecMap_rep (w : Warp) (l : LaneSet) (d : VReg) (g : Nat → Word) : (w.vecMap l d g).rep = w.rep :=
  Warp.setVs_rep w _ _
@[simp] theorem Warp.vecMap_vwb (w : Warp) (l : LaneSet) (d : VReg) (g : Nat → Word) : (w.vecMap l d g).vwb = w.vwb :=
  Warp.setVs_vwb w _ _
@[simp] theorem Warp.vecMap_cvtmode (w : Warp) (l : LaneSet) (d : VReg) (g : Nat → Word) : (w.vecMap l d g).cvtmode = w.cvtmode :=
  Warp.setVs_cvtmode w _ _
@[simp] theorem Warp.vecMap_srseed (w : Warp) (l : LaneSet) (d : VReg) (g : Nat → Word) : (w.vecMap l d g).srseed = w.srseed :=
  Warp.setVs_srseed w _ _
@[simp] theorem Warp.vecMap_restart (w : Warp) (l : LaneSet) (d : VReg) (g : Nat → Word) : (w.vecMap l d g).restart = w.restart :=
  Warp.setVs_restart w _ _
@[simp] theorem Warp.vecMap_priv (w : Warp) (l : LaneSet) (d : VReg) (g : Nat → Word) : (w.vecMap l d g).priv = w.priv :=
  Warp.setVs_priv w _ _
@[simp] theorem Warp.vecMap_trappc (w : Warp) (l : LaneSet) (d : VReg) (g : Nat → Word) : (w.vecMap l d g).trappc = w.trappc :=
  Warp.setVs_trappc w _ _
@[simp] theorem Warp.vecMap_trapcause (w : Warp) (l : LaneSet) (d : VReg) (g : Nat → Word) : (w.vecMap l d g).trapcause = w.trapcause :=
  Warp.setVs_trapcause w _ _
@[simp] theorem Warp.vecMap_trapinfo (w : Warp) (l : LaneSet) (d : VReg) (g : Nat → Word) : (w.vecMap l d g).trapinfo = w.trapinfo :=
  Warp.setVs_trapinfo w _ _
@[simp] theorem Warp.vecMap_scratch0 (w : Warp) (l : LaneSet) (d : VReg) (g : Nat → Word) : (w.vecMap l d g).scratch0 = w.scratch0 :=
  Warp.setVs_scratch0 w _ _
@[simp] theorem Warp.vecMap_scratch1 (w : Warp) (l : LaneSet) (d : VReg) (g : Nat → Word) : (w.vecMap l d g).scratch1 = w.scratch1 :=
  Warp.setVs_scratch1 w _ _
@[simp] theorem Warp.vecMap_tlanes (w : Warp) (l : LaneSet) (d : VReg) (g : Nat → Word) : (w.vecMap l d g).tlanes = w.tlanes :=
  Warp.setVs_tlanes w _ _
@[simp] theorem Warp.vecMap_stop (w : Warp) (l : LaneSet) (d : VReg) (g : Nat → Word) : (w.vecMap l d g).stop = w.stop :=
  Warp.setVs_stop w _ _
@[simp] theorem Warp.vecMap_latch (w : Warp) (l : LaneSet) (d : VReg) (g : Nat → Word) : (w.vecMap l d g).latch = w.latch :=
  Warp.setVs_latch w _ _
@[simp] theorem Warp.vecMap_supLatch (w : Warp) (l : LaneSet) (d : VReg) (g : Nat → Word) : (w.vecMap l d g).supLatch = w.supLatch :=
  Warp.setVs_supLatch w _ _
@[simp] theorem Warp.vecMap_pendingRestart (w : Warp) (l : LaneSet) (d : VReg) (g : Nat → Word) : (w.vecMap l d g).pendingRestart = w.pendingRestart :=
  Warp.setVs_pendingRestart w _ _
@[simp] theorem Warp.vecMap_loads (w : Warp) (l : LaneSet) (d : VReg) (g : Nat → Word) : (w.vecMap l d g).loads = w.loads :=
  Warp.setVs_loads w _ _
@[simp] theorem Warp.vecMap_stores (w : Warp) (l : LaneSet) (d : VReg) (g : Nat → Word) : (w.vecMap l d g).stores = w.stores :=
  Warp.setVs_stores w _ _
@[simp] theorem Warp.vecMap_copies (w : Warp) (l : LaneSet) (d : VReg) (g : Nat → Word) : (w.vecMap l d g).copies = w.copies :=
  Warp.setVs_copies w _ _
@[simp] theorem Warp.vecMap_matrix (w : Warp) (l : LaneSet) (d : VReg) (g : Nat → Word) : (w.vecMap l d g).matrix = w.matrix :=
  Warp.setVs_matrix w _ _
@[simp] theorem Warp.vecMap_async (w : Warp) (l : LaneSet) (d : VReg) (g : Nat → Word) : (w.vecMap l d g).async = w.async :=
  Warp.setVs_async w _ _
@[simp] theorem Warp.vecMap_bsync (w : Warp) (l : LaneSet) (d : VReg) (g : Nat → Word) : (w.vecMap l d g).bsync = w.bsync :=
  Warp.setVs_bsync w _ _
@[simp] theorem Warp.vecMap_lastIssue (w : Warp) (l : LaneSet) (d : VReg) (g : Nat → Word) : (w.vecMap l d g).lastIssue = w.lastIssue :=
  Warp.setVs_lastIssue w _ _

/-! ### Scalar registers and predicates -/

/-- A scalar register after a write: s0 reads 0 whatever is written (02 R36). -/
theorem Warp.s_setS (w : Warp) (d n : SReg) (x : Xword) :
    (w.setS d x).s n = if n = 0 then 0 else if n = d then x else w.s n := by
  by_cases hd : d = 0
  · unfold Warp.setS
    rw [if_pos hd]
    split
    · unfold Warp.s
      rw [if_pos ‹_›]
    · rw [if_neg (by rw [hd]; assumption)]
  · unfold Warp.setS Warp.s
    rw [if_neg hd]
    split
    · rfl
    · simp only [mget_mset, BitVec.toNat_inj]

/-- A predicate after a write: bits outside the lanes written are kept, p0 is all ones (02 R37). -/
theorem Warp.p_setP (w : Warp) (d n : PReg) (l b : LaneSet) :
    (w.setP d l b).p n = if n = 0 then firstLanes w.width else if n = d then (w.p d &&& ~~~l) ||| (b &&& l) else w.p n := by
  by_cases hd : d = 0
  · unfold Warp.setP
    rw [if_pos hd]
    split
    · unfold Warp.p
      rw [if_pos ‹_›]
    · rw [if_neg (by rw [hd]; assumption)]
  · unfold Warp.setP
    rw [if_neg hd]
    by_cases hn : n = 0
    · unfold Warp.p
      rw [if_pos hn, if_pos hn]
    · rw [if_neg hn]
      show (if n = 0 then _ else mget 0 (mset 0 w.pregs d.toNat _) n.toNat) = _
      rw [if_neg hn, mget_mset]
      simp only [BitVec.toNat_inj]
      split
      · rfl
      · unfold Warp.p
        rw [if_neg hn]

/-- A write of one register class leaves reads of the others. -/
@[simp] theorem Warp.v_setS (w : Warp) (d : SReg) (x : Xword) (n i : Nat) : (w.setS d x).v n i = w.v n i := by
  unfold Warp.v Warp.allocated; simp
@[simp] theorem Warp.v_setP (w : Warp) (d : PReg) (l b : LaneSet) (n i : Nat) : (w.setP d l b).v n i = w.v n i := by
  unfold Warp.v Warp.allocated; simp
@[simp] theorem Warp.p_setS (w : Warp) (d : SReg) (x : Xword) (n : PReg) : (w.setS d x).p n = w.p n := by
  unfold Warp.p; simp
@[simp] theorem Warp.s_setP (w : Warp) (d : PReg) (l b : LaneSet) (n : SReg) : (w.setP d l b).s n = w.s n := by
  unfold Warp.s; simp
@[simp] theorem Warp.s_vecMap (w : Warp) (l : LaneSet) (d : VReg) (g : Nat → Word) (n : SReg) :
    (w.vecMap l d g).s n = w.s n := by
  unfold Warp.s; simp
@[simp] theorem Warp.p_vecMap (w : Warp) (l : LaneSet) (d : VReg) (g : Nat → Word) (n : PReg) :
    (w.vecMap l d g).p n = w.p n := by
  unfold Warp.p; simp

/-! ### Vector registers -/

/-- One lane of a vector register after a write to one lane. -/
theorem Warp.v_setV (w : Warp) (d n i j : Nat) (x : Word) (hi : i < 64) (hj : j < 64) :
    (w.setV d i x).v n j = if n = d ∧ j = i then x else w.v n j := by
  unfold Warp.v
  show mget 0 (mset 0 w.vregs (64 * w.allocated d + i) x) (64 * w.allocated n + j) = _
  rw [mget_mset]
  unfold Warp.allocated
  by_cases h : n = d ∧ j = i
  · rw [if_pos h, if_pos (by omega)]
  · rw [if_neg h, if_neg (by omega)]

/-- A register after writes to a list of lanes: the last write to the lane, or its old value. -/
theorem Warp.v_setVs (w : Warp) (d n j : Nat) (l : List (Nat × Word)) (hl : ∀ e ∈ l, e.1 < 64) (hj : j < 64) :
    (w.setVs d l).v n j =
      if n = d then ((l.reverse.find? fun e => e.1 == j).map Prod.snd).getD (w.v n j) else w.v n j := by
  unfold Warp.setVs
  induction l generalizing w with
  | nil => simp
  | cons e r ih =>
    rw [List.foldl_cons, ih _ fun x hx => hl x (by simp [hx])]
    rw [Warp.v_setV _ _ _ _ _ _ (hl e (by simp)) hj]
    by_cases hn : n = d
    · simp only [hn, true_and, if_true, List.reverse_cons, List.find?_append]
      cases hf : r.reverse.find? fun e => e.1 == j with
      | some y => simp
      | none =>
        by_cases he : e.1 = j
        · simp [he]
        · simp [he, Ne.symm he]
    · simp [hn]

/-- The lanes of a set, and its members. -/
theorem mem_lanesOf (l : LaneSet) (i : Nat) : i ∈ lanesOf l ↔ i < 64 ∧ l.getLsbD i = true := by
  simp [lanesOf]

theorem find_map_same (l : List Nat) (f : Nat → Word) (j : Nat) :
    ((l.map fun i => (i, f i)).find? fun e => e.1 == j).map Prod.snd = if j ∈ l then some (f j) else none := by
  induction l with
  | nil => simp
  | cons x r ih =>
    rw [List.map_cons, List.find?_cons]
    by_cases h : x = j
    · simp [h]
    · have h' : ¬ j = x := fun e => h e.symm
      have hb : (x == j) = false := by simp [h]
      simp only [hb, List.mem_cons, h', false_or]
      exact ih

/-- A vector instruction writes its register in the executing lanes, and nothing else of any vector register. -/
theorem Warp.v_vecMap (w : Warp) (l : LaneSet) (d : VReg) (f : Nat → Word) (n i : Nat) (hi : i < 64) :
    (w.vecMap l d f).v n i = if n = d.toNat ∧ l.getLsbD i = true then f i else w.v n i := by
  unfold Warp.vecMap
  rw [Warp.v_setVs _ _ _ _ _ (fun e he => by
    obtain ⟨x, hx, rfl⟩ := List.mem_map.1 he
    exact ((mem_lanesOf l x).1 hx).1) hi]
  by_cases hn : n = d.toNat
  · rw [if_pos hn, ← List.map_reverse, find_map_same]
    by_cases hl : l.getLsbD i = true
    · rw [if_pos (by simp [mem_lanesOf, hi, hl]), if_pos ⟨hn, hl⟩]
      rfl
    · rw [if_neg (by simp [mem_lanesOf, hl]), if_neg (by simp [hl])]
      rfl
  · rw [if_neg hn, if_neg (by simp [hn])]

/-! ### Lanes -/

theorem mapLanes_length (f : Nat → Lane → Lane) (k : Nat) (l : List Lane) : (mapLanes f k l).length = l.length := by
  induction l generalizing k with
  | nil => rfl
  | cons x r ih => simp [mapLanes, ih]

theorem mapLanes_get (f : Nat → Lane → Lane) (k i : Nat) (l : List Lane) :
    (mapLanes f k l)[i]? = (l[i]?).map (f (k + i)) := by
  induction l generalizing k i with
  | nil => simp [mapLanes]
  | cons x r ih =>
    cases i with
    | zero => simp [mapLanes]
    | succ i => simp [mapLanes, ih, Nat.add_comm 1 i, Nat.add_assoc]

@[simp] theorem Warp.onLanes_length (w : Warp) (l : LaneSet) (g : Lane → Lane) :
    (w.onLanes l g).lanes.length = w.lanes.length := mapLanes_length _ _ _

/-- A lane of a warp after a change to a set of lanes. -/
theorem Warp.lane_onLanes (w : Warp) (l : LaneSet) (g : Lane → Lane) (i : Nat) (hi : i < w.lanes.length) :
    (w.onLanes l g).lane i = if l.getLsbD i = true then g (w.lane i) else w.lane i := by
  unfold Warp.lane Warp.onLanes
  simp only [List.getD_eq_getElem?_getD, mapLanes_get, Nat.zero_add]
  rw [List.getElem?_eq_getElem hi]
  simp

end Sys2Proof.Machine
end

