-- ==== Sys2Proof/Laws/Ops.lean ====
section
/-!
SUPPORT. What the shared operations can do, said once: the checks and waits before a meaning (R80, R379), taking a trap
(R245), and completing an instruction (R18, R24).
-/

namespace Sys2Proof.Machine

/-! ### Before a meaning -/

/-- Free names pass the WBASE check of either mode. -/
theorem uses_check {w : Warp} {names : List Nat} (h : w.free names) : (uses names).check w = none := by
  have : (names.find? fun k => decide (w.alloc ≤ w.allocated k)) = none := by
    rw [List.find?_eq_none]
    intro n hn
    have := (h n hn).1
    simp; omega
  simp [Needs.check, uses, this]

/-- Free names pass the checks of an instruction that only user mode allows. -/
theorem userOnly_check {w : Warp} {names : List Nat} (hu : w.priv = false) (h : w.free names) :
    (userOnly names).check w = none := by
  have : (names.find? fun k => decide (w.alloc ≤ w.allocated k)) = none := by
    rw [List.find?_eq_none]
    intro n hn
    have := (h n hn).1
    simp; omega
  simp [Needs.check, userOnly, hu, this]

/-- An instruction that names only free registers, makes no access and issues no engine command waits for nothing. -/
theorem awaits_free {n : Needs} {w : Warp} {lanes : LaneSet} (h : w.free n.names) (ha : n.access = false)
    (he : n.engine = 0) (hc : n.counted = false) : n.awaits w lanes = [] := by
  unfold Needs.awaits
  rw [ha, hc, he]
  simp only [Bool.false_and, Bool.false_eq_true, if_false, List.append_nil, List.filter_eq_nil_iff]
  intro l hl
  have hn : (n.names.any fun k => l.dests.contains (w.allocated k)) = false := by
    rw [List.any_eq_false]
    exact fun x hx => by rw [(h x hx).2 l hl]; exact Bool.false_ne_true
  rw [hn]
  simp

/-- An access waits for nothing when no acquire holds its lanes back and the load counter has room. -/
theorem awaits_access {n : Needs} {w : Warp} {lanes : LaneSet} (h : w.free n.names) (ha : w.mayAccess lanes)
    (hc : w.loads.length < 31) : n.awaits w lanes = [] := by
  unfold Needs.awaits
  have hn : decide (31 ≤ w.loads.length) = false := by simp; omega
  rw [hn]
  simp only [Bool.and_false, Bool.false_eq_true, if_false, List.append_nil, List.filter_eq_nil_iff]
  intro l hl
  simp only [Bool.or_eq_true, List.any_eq_true, Bool.and_eq_true, not_or, not_exists, not_and]
  refine ⟨fun x hx => ?_, fun _ => ?_⟩
  · rw [(h x hx).2 l hl]
    exact Bool.false_ne_true
  · cases hq : l.acquire with
    | none => simp
    | some a => simp [ha l hl a hq]

/-- A meaning whose checks pass and that waits for nothing is its body. -/
theorem run_of {s : State} {c : Cur} {w : Warp} {n : Needs} (h : Issues s c w) (hc : n.check w = none)
    (ha : n.awaits w c.lanes = []) (body : Cur → Warp → Effect) : s.run n body = State.settle c (body c w) := by
  unfold State.run
  rw [h.cur]
  simp only [h.warp, hc, ha]

/-- A meaning of an instruction of either mode over free registers is its body. -/
theorem run_uses {s : State} {c : Cur} {w : Warp} {names : List Nat} (h : Issues s c w) (hf : w.free names)
    (body : Cur → Warp → Effect) : s.run (uses names) body = State.settle c (body c w) :=
  run_of h (uses_check hf) (awaits_free hf rfl rfl rfl) body

/-- The same for an instruction of user mode only. -/
theorem run_userOnly {s : State} {c : Cur} {w : Warp} {names : List Nat} (h : Issues s c w) (hu : w.priv = false)
    (hf : w.free names) (body : Cur → Warp → Effect) : s.run (userOnly names) body = State.settle c (body c w) :=
  run_of h (userOnly_check hu hf) (awaits_free hf rfl rfl rfl) body

/-- A check that fails traps, with nothing done. -/
theorem run_trap {s : State} {c : Cur} {w : Warp} {n : Needs} {cause : Nat} {info : Xword} (h : Issues s c w)
    (hc : n.check w = some (cause, info)) (body : Cur → Warp → Effect) :
    s.run n body = .next (s.trapped c false cause info) := by
  unfold State.run
  rw [h.cur]
  simp only [h.warp, hc]
  rfl

theorem free_nil (w : Warp) : w.free [] := fun _ h => absurd h (by simp)

theorem free_append {w : Warp} {a b : List Nat} : w.free (a ++ b) ↔ w.free a ∧ w.free b := by
  constructor
  · exact fun h => ⟨fun n hn => h n (by simp [hn]), fun n hn => h n (by simp [hn])⟩
  · intro h n hn
    rcases List.mem_append.1 hn with hn | hn
    · exact h.1 n hn
    · exact h.2 n hn

/-! ### The shapes of register instructions -/

/-- A vector instruction over free registers writes its register in the executing lanes. -/
theorem vec_ends {s : State} {c : Cur} {w : Warp} {names : List Nat} {d : VReg} (h : Issues s c w) (hf : w.free names)
    (f : Warp → Nat → Word) : s.vec names d f = .next ((s.setWarp c.warp (w.vecMap c.lanes d (f w))).complete c false) :=
  run_uses h hf _

/-- A scalar instruction writes its register. -/
theorem scal_ends {s : State} {c : Cur} {w : Warp} {d : SReg} (h : Issues s c w) (f : Warp → Xword) :
    s.scal d f = .next ((s.setWarp c.warp (w.setS d (f w))).complete c false) :=
  run_uses h (free_nil w) _

/-- Writing registers of one class changes nothing else of a warp. -/
theorem Warp.setVs_shape (w : Warp) (n : Nat) (l : List (Nat × Word)) : w.setVs n l = { w with vregs := (w.setVs n l).vregs } := by
  unfold Warp.setVs
  induction l generalizing w with
  | nil => rfl
  | cons e r ih => rw [List.foldl_cons, ih]; rfl

theorem Warp.setS_shape (w : Warp) (d : SReg) (x : Xword) : w.setS d x = { w with sregs := (w.setS d x).sregs } := by
  unfold Warp.setS; split <;> rfl

theorem Warp.setP_shape (w : Warp) (p : PReg) (l b : LaneSet) : w.setP p l b = { w with pregs := (w.setP p l b).pregs } := by
  unfold Warp.setP; split <;> rfl

/-- Nothing below the window is written (02 R38). -/
theorem Warp.sameBelow_setVs (w : Warp) (n : Nat) (l : List (Nat × Word)) : w.sameBelow (w.setVs n l) := by
  unfold Warp.setVs
  induction l generalizing w with
  | nil => exact fun _ _ => rfl
  | cons e r ih =>
    intro k hk
    rw [List.foldl_cons, ih (w.setV n e.1 e.2) k hk]
    exact mget_mset_ne _ _ _ (by simp only [Warp.allocated]; omega)

/-- What a vector instruction writes, in the words of Safety.lean. -/
theorem writesV_of {i : Instr} {s : State} {c : Cur} {w : Warp} {d : VReg} {f g : Nat → Word}
    (he : Lands i s c (w.vecMap c.lanes d f)) (hg : ∀ l, f l = g l) : WritesV i s c w d g :=
  ⟨_, he, w.setVs_shape _ _, w.sameBelow_setVs _ _, fun n l hl => by rw [Warp.v_vecMap _ _ _ _ _ _ hl, hg]⟩

theorem writesV_vec {i : Instr} {s : State} {c : Cur} {w : Warp} {names : List Nat} {d : VReg} (h : Issues s c w)
    (hf : w.free names) (f : Warp → Nat → Word) {g : Nat → Word} (he : exec i s = s.vec names d f)
    (hg : ∀ l, f w l = g l) : WritesV i s c w d g :=
  writesV_of (by rw [Lands, Ends, he, vec_ends h hf]) hg

/-- What a scalar instruction writes. -/
theorem writesS_of {i : Instr} {s : State} {c : Cur} {w : Warp} {d : SReg} {x : Xword}
    (he : Lands i s c (w.setS d x)) : WritesS i s c w d x := by
  refine ⟨_, he, w.setS_shape d x, fun n => ?_⟩
  rw [Warp.s_setS]
  by_cases hn : n = 0
  · rw [if_pos hn]
    split
    · exact absurd (by simp_all) (‹n = d ∧ d ≠ 0›.2)
    · rw [hn]; rfl
  · rw [if_neg hn]
    by_cases hd : n = d
    · rw [if_pos hd, if_pos ⟨hd, fun h => hn (hd.trans h)⟩]
    · rw [if_neg hd, if_neg fun h => hd h.1]

theorem writesS_scal {i : Instr} {s : State} {c : Cur} {w : Warp} {d : SReg} (h : Issues s c w) (f : Warp → Xword)
    {x : Xword} (he : exec i s = s.scal d f) (hx : f w = x) : WritesS i s c w d x :=
  writesS_of (by rw [Lands, Ends, he, scal_ends h, hx])

/-- What a predicate instruction writes. -/
theorem writesP_of {i : Instr} {s : State} {c : Cur} {w : Warp} {p : PReg} {b : LaneSet} {f : Nat → Prop}
    (he : Lands i s c (w.setP p c.lanes b)) (hf : ∀ l, l < 64 → c.lanes.getLsbD l = true → (b.getLsbD l = true ↔ f l)) :
    WritesP i s c w p f := by
  refine ⟨_, he, w.setP_shape p _ _, fun n l hl => ?_⟩
  rw [Warp.p_setP]
  by_cases hn : n = 0
  · rw [if_pos hn]
    have hw : w.p n = firstLanes w.width := by unfold Warp.p; rw [if_pos hn]
    rw [if_neg fun h => h.2.1 (h.1.symm.trans hn), hw]
  · rw [if_neg hn]
    by_cases hp : n = p
    · have hp0 : p ≠ 0 := fun h => hn (hp.trans h)
      rw [if_pos hp]
      by_cases hl' : c.lanes.getLsbD l = true
      · rw [if_pos ⟨hp, hp0, hl'⟩, ← hf l hl hl']
        simp [hl', hl]
      · rw [if_neg fun h => hl' h.2.2, hp]
        rw [Bool.not_eq_true] at hl'
        rw [BitVec.getLsbD_or, BitVec.getLsbD_and, BitVec.getLsbD_and, BitVec.getLsbD_not, hl']
        simp [hl]
    · rw [if_neg hp, if_neg fun h => hp h.1]

/-- Bits of a lane set taken from a test. -/
theorem getLsbD_laneSet (p : Nat → Bool) (l : Nat) (h : l < 64) : (laneSet p).getLsbD l = p l := by
  have key : ∀ (xs : List Nat) (acc : LaneSet), xs.Nodup → (∀ x ∈ xs, x < 64) →
      (xs.foldl (fun acc i => if p i then acc ||| laneBit i else acc) acc).getLsbD l =
        (acc.getLsbD l || (decide (l ∈ xs) && p l)) := by
    intro xs
    induction xs with
    | nil => simp
    | cons x r ih =>
      intro acc hn hx
      rw [List.foldl_cons, ih _ (List.nodup_cons.1 hn).2 fun y hy => hx y (by simp [hy])]
      have hb : (laneBit x).getLsbD l = decide (l = x) := by
        unfold laneBit
        rw [BitVec.getLsbD_ofNat, Nat.testBit_two_pow]
        simp [h, eq_comm]
      by_cases hp : p x
      · rw [if_pos hp, BitVec.getLsbD_or, hb]
        by_cases hlx : l = x
        · subst hlx; simp [hp]
        · simp [hlx]
      · rw [if_neg hp]
        by_cases hlx : l = x
        · subst hlx; simp [hp]
        · simp [hlx]
  unfold laneSet
  rw [key _ _ List.nodup_range fun x hx => List.mem_range.1 hx]
  simp [h]

theorem getLsbD_groupSet (lanes : LaneSet) (f : Nat → Bool) (l : Nat) (h : l < 64) :
    (groupSet lanes f).getLsbD l = (lanes.getLsbD l && f l) := getLsbD_laneSet _ l h

theorem writesP_predMap {i : Instr} {s : State} {c : Cur} {w : Warp} {names : List Nat} {p : PReg} {f : Warp → Nat → Bool}
    {g : Nat → Prop} (h : Issues s c w) (hf : w.free names) (he : exec i s = s.predMap (uses names) p f)
    (hg : ∀ l, f w l = true ↔ g l) : WritesP i s c w p g := by
  refine writesP_of (b := groupSet c.lanes (f w)) ?_ fun l hl hc => ?_
  · rw [Lands, Ends, he]
    exact run_uses h hf _
  · rw [getLsbD_groupSet _ _ _ hl, hc, Bool.true_and, hg]

/-! ### Taking a trap -/

/-- In user mode, with a trap vector, the warp enters its handler and nothing else changes. -/
theorem takeTrap_enters {s : State} {k : Nat} {w : Warp} {lanes : LaneSet} {pc : Xword} {cause : Nat} {info : Xword}
    (h : s.warp k = some w) (hu : w.priv = false) (hv : (s.ctx w.ctxK).trapvec ≠ 0) :
    s.takeTrap k lanes pc cause info = s.setWarp k (w.enter lanes (s.ctx w.ctxK).trapvec pc cause info) := by
  unfold State.takeTrap
  rw [h]
  simp only [hu, Bool.false_eq_true, if_false, if_neg hv]

/-- In supervisor mode the context is killed with reason 2; the record gives the cause that the handler was entered with. -/
theorem takeTrap_kills {s : State} {k : Nat} {w : Warp} {lanes : LaneSet} {pc : Xword} {cause : Nat} {info : Xword}
    (h : s.warp k = some w) (hu : w.priv = true) :
    s.takeTrap k lanes pc cause info = s.kill w.die w.asid 2
      (let e := w.entered.getD { cause := 0, pc := 0, info := 0 }
       { first := e.cause, second := cause, warp := w.killField, pc := e.pc, info := e.info, loc := 0 }) := by
  unfold State.takeTrap
  rw [h]
  simp only [hu, if_true]

/-- Entering a handler keeps every register of the warp. -/
@[simp] theorem Warp.enter_vregs (w : Warp) (l : LaneSet) (v p : Xword) (n : Nat) (x : Xword) :
    (w.enter l v p n x).vregs = w.vregs := rfl
@[simp] theorem Warp.enter_sregs (w : Warp) (l : LaneSet) (v p : Xword) (n : Nat) (x : Xword) :
    (w.enter l v p n x).sregs = w.sregs := rfl
@[simp] theorem Warp.enter_pregs (w : Warp) (l : LaneSet) (v p : Xword) (n : Nat) (x : Xword) :
    (w.enter l v p n x).pregs = w.pregs := rfl
@[simp] theorem Warp.enter_loops (w : Warp) (l : LaneSet) (v p : Xword) (n : Nat) (x : Xword) :
    (w.enter l v p n x).loops = w.loops := rfl
@[simp] theorem Warp.enter_masks (w : Warp) (l : LaneSet) (v p : Xword) (n : Nat) (x : Xword) :
    (w.enter l v p n x).masks = w.masks := rfl

/-! ### Completing an instruction -/

/-- The deadlock test leaves a warp in supervisor mode as it is (15 R248). -/
theorem checkDeadlock_priv {s : State} {k : Nat} {w : Warp} (h : s.warp k = some w) (hp : w.priv = true) :
    s.checkDeadlock k = s := by
  unfold State.checkDeadlock
  simp [h, Warp.deadlock, hp]

/-- It leaves a warp with a candidate as it is. -/
theorem checkDeadlock_of_candidate {s : State} {k : Nat} {w : Warp} (h : s.warp k = some w) (hc : w.candidates ≠ 0) :
    s.checkDeadlock k = s := by
  unfold State.checkDeadlock
  have hd : w.deadlock = none := by
    unfold Warp.deadlock
    rw [if_neg fun x => hc x.2.1]
  simp only [h, hd]

/-! ### Engines -/

/-- A copy that has passed over nothing goes on where it stands. -/
@[simp] theorem settled_of_behind {c : CopyCmd} (h : c.behind = []) : c.settled = c := by simp [CopyCmd.settled, h]

/-- A part of a matrix command's output is written only by a drain or a histogram (R386, R372). -/
theorem someParts_of_not_writesOut {s : State} {c : MatrixCmd} (h : c.writesOut = false) :
    s.someParts c = (noPackets s, []) := by
  cases hk : c.kind <;> simp [MatrixCmd.writesOut, hk] at h <;> simp [State.someParts, hk]

end Sys2Proof.Machine
end

