-- ==== Sys2Proof/Laws/PerInstr.lean ====
section
/-!
SUPPORT. The words of every instruction: at most two, each of 32 bits; one lemma for each constructor.
-/

namespace Sys2Proof.Laws.Words

/-- The words of an instruction are at most two, of 32 bits each. -/
def Statement (i : Instr) : Prop := (encode i).length ≤ 2 ∧ ∀ w ∈ encode i, w < 2 ^ 32

/-- The same of a list of words. -/
def Fit (l : List Nat) : Prop := l.length ≤ 2 ∧ ∀ w ∈ l, w < 2 ^ 32

theorem fit_nil : Fit [] := ⟨by simp, by simp⟩
theorem fit_one {w : Nat} (h : w < 2 ^ 32) : Fit [w] := ⟨by simp, by simpa using h⟩
theorem fit_two {w x : Nat} (h : w < 2 ^ 32) (h' : x < 2 ^ 32) : Fit [w, x] := ⟨by simp, by simpa using ⟨h, h'⟩⟩

theorem wR3_lt {major fn d a b : Nat} (hm : major < 64) (hf : fn < 32) (hd : d < 128) (ha : a < 128) (hb : b < 128) :
    wR3 major fn d a b < 2 ^ 32 := by
  unfold wR3; omega

theorem wLit_lt (x : BitVec 27) : wLit x < 2 ^ 32 := by
  have := x.isLt
  unfold wLit; omega

theorem cmpCode_lt (x : CmpCond) : cmpCode x < 10 := by cases x <;> decide
theorem fcmpCode_lt (x : FCmpCond) : fcmpCode x < 8 := by cases x <;> decide
theorem brsCode_lt (x : BrsCond) : brsCode x < 6 := by cases x <;> decide
theorem waitCode_lt (x : WaitCond) : waitCode x < 6 := by cases x <;> decide
theorem rndCode_lt (x : RndDir) : rndCode x < 4 := by cases x <;> decide
theorem plogCode_lt (x : PlogOp) : plogCode x < 4 := by cases x <;> decide
theorem fenceCode_lt (x : FenceKind) : fenceCode x < 3 := by cases x <;> decide
theorem tyCode_lt (x : Ty) : tyCode x < 25 := by cases x <;> decide
theorem atomCode_lt (x : AtomOp) : atomCode x < 18 := by cases x <;> decide
theorem scopeCode_lt (x : Scope) : scopeCode x < 5 := by cases x <;> decide
theorem orderCode_lt (x : MemOrder) : orderCode x < 4 := by cases x <;> decide
theorem bit_lt (b : Bool) : bit b < 2 := by cases b <;> decide
theorem loopCode_lt (c : LoopCount) : loopCode c < 256 := by
  cases c with
  | reg r => have := r.isLt; simp only [loopCode]; omega
  | imm k => have := k.isLt; simp only [loopCode]; omega

theorem fit_encVFn {major f d : Nat} (a : VReg) (b : VOp) (hm : major < 64) (hf : f < 31) (hd : d < 128) :
    Fit (encVFn major f d a b) := by
  have ha := a.isLt
  cases b with
  | reg n => exact fit_one (wR3_lt hm (by omega) hd (by omega) n.isLt)
  | sreg n => exact fit_one (wR3_lt hm (by omega) hd (by omega) (by have := n.isLt; omega))
  | const k => exact fit_one (wR3_lt hm (by omega) hd (by omega) (by have := k.isLt; omega))
  | lit x => exact fit_two (wR3_lt hm (by omega) hd (by omega) (by omega)) (wLit_lt x)

theorem fit_encV {major op d : Nat} (a : VReg) (b : VOp) (hm : major < 64) (ho : op < 16) (hd : d < 128) :
    Fit (encV major op d a b) := fit_encVFn a b hm (by omega) hd

theorem fit_encS {major op : Nat} (d a : SReg) (b : SOp) (hm : major < 64) (ho : op < 16) : Fit (encS major op d a b) := by
  have hd := d.isLt
  have ha := a.isLt
  cases b with
  | reg n => exact fit_one (wR3_lt hm (by omega) (by omega) (by omega) (by have := n.isLt; omega))
  | const k => exact fit_one (wR3_lt hm (by omega) (by omega) (by omega) k.isLt)
  | lit x => exact fit_two (wR3_lt hm (by omega) (by omega) (by omega) (by omega)) (wLit_lt x)

theorem encExt_lt (e : MemExt) : encExt e < 2 ^ 32 := by
  have h1 := orderCode_lt e.order
  have h2 := scopeCode_lt e.scope
  have h3 := bit_lt e.inLocal
  have h4 := e.rcount.isLt
  have h5 := e.scale.isLt
  have h6 := e.offset.isLt
  unfold encExt; omega

theorem fit_encM {major d : Nat} (a : SReg) (b : VReg) {t : Nat} (ext : Option MemExt) (hm : major < 64) (hd : d < 128)
    (ht : t < 32) : Fit (encM major d a b t ext) := by
  have ha := a.isLt
  have hb := b.isLt
  cases ext with
  | none => exact fit_one (by omega)
  | some e => exact fit_two (by omega) (encExt_lt e)

theorem add (d : VReg) (a : VReg) (b : VOp) : Statement (.add d a b) := by
  have := d.isLt
  have := a.isLt
  exact fit_encV a b (by omega) (by omega) (by omega)
theorem addS (d : SReg) (a : SReg) (b : SOp) : Statement (.addS d a b) := by
  have := d.isLt
  have := a.isLt
  exact fit_encS d a b (by omega) (by omega)
theorem sub (d : VReg) (a : VReg) (b : VOp) : Statement (.sub d a b) := by
  have := d.isLt
  have := a.isLt
  exact fit_encV a b (by omega) (by omega) (by omega)
theorem subS (d : SReg) (a : SReg) (b : SOp) : Statement (.subS d a b) := by
  have := d.isLt
  have := a.isLt
  exact fit_encS d a b (by omega) (by omega)
theorem mul (d : VReg) (a : VReg) (b : VOp) : Statement (.mul d a b) := by
  have := d.isLt
  have := a.isLt
  exact fit_encV a b (by omega) (by omega) (by omega)
theorem mulS (d : SReg) (a : SReg) (b : SOp) : Statement (.mulS d a b) := by
  have := d.isLt
  have := a.isLt
  exact fit_encS d a b (by omega) (by omega)
theorem mulhiI (d : VReg) (a : VReg) (b : VOp) : Statement (.mulhiI d a b) := by
  have := d.isLt
  have := a.isLt
  exact fit_encV a b (by omega) (by omega) (by omega)
theorem mulhiIS (d : SReg) (a : SReg) (b : SOp) : Statement (.mulhiIS d a b) := by
  have := d.isLt
  have := a.isLt
  exact fit_encS d a b (by omega) (by omega)
theorem mulhiN (d : VReg) (a : VReg) (b : VOp) : Statement (.mulhiN d a b) := by
  have := d.isLt
  have := a.isLt
  exact fit_encV a b (by omega) (by omega) (by omega)
theorem mulhiNS (d : SReg) (a : SReg) (b : SOp) : Statement (.mulhiNS d a b) := by
  have := d.isLt
  have := a.isLt
  exact fit_encS d a b (by omega) (by omega)
theorem mad (d : VReg) (a : VReg) (b : VOp) : Statement (.mad d a b) := by
  have := d.isLt
  have := a.isLt
  exact fit_encV a b (by omega) (by omega) (by omega)
theorem madS (d : SReg) (a : SReg) (b : SOp) : Statement (.madS d a b) := by
  have := d.isLt
  have := a.isLt
  exact fit_encS d a b (by omega) (by omega)
theorem minI (d : VReg) (a : VReg) (b : VOp) : Statement (.minI d a b) := by
  have := d.isLt
  have := a.isLt
  exact fit_encV a b (by omega) (by omega) (by omega)
theorem minIS (d : SReg) (a : SReg) (b : SOp) : Statement (.minIS d a b) := by
  have := d.isLt
  have := a.isLt
  exact fit_encS d a b (by omega) (by omega)
theorem minN (d : VReg) (a : VReg) (b : VOp) : Statement (.minN d a b) := by
  have := d.isLt
  have := a.isLt
  exact fit_encV a b (by omega) (by omega) (by omega)
theorem minNS (d : SReg) (a : SReg) (b : SOp) : Statement (.minNS d a b) := by
  have := d.isLt
  have := a.isLt
  exact fit_encS d a b (by omega) (by omega)
theorem maxI (d : VReg) (a : VReg) (b : VOp) : Statement (.maxI d a b) := by
  have := d.isLt
  have := a.isLt
  exact fit_encV a b (by omega) (by omega) (by omega)
theorem maxIS (d : SReg) (a : SReg) (b : SOp) : Statement (.maxIS d a b) := by
  have := d.isLt
  have := a.isLt
  exact fit_encS d a b (by omega) (by omega)
theorem maxN (d : VReg) (a : VReg) (b : VOp) : Statement (.maxN d a b) := by
  have := d.isLt
  have := a.isLt
  exact fit_encV a b (by omega) (by omega) (by omega)
theorem maxNS (d : SReg) (a : SReg) (b : SOp) : Statement (.maxNS d a b) := by
  have := d.isLt
  have := a.isLt
  exact fit_encS d a b (by omega) (by omega)
theorem and (d : VReg) (a : VReg) (b : VOp) : Statement (.and d a b) := by
  have := d.isLt
  have := a.isLt
  exact fit_encV a b (by omega) (by omega) (by omega)
theorem andS (d : SReg) (a : SReg) (b : SOp) : Statement (.andS d a b) := by
  have := d.isLt
  have := a.isLt
  exact fit_encS d a b (by omega) (by omega)
theorem or (d : VReg) (a : VReg) (b : VOp) : Statement (.or d a b) := by
  have := d.isLt
  have := a.isLt
  exact fit_encV a b (by omega) (by omega) (by omega)
theorem orS (d : SReg) (a : SReg) (b : SOp) : Statement (.orS d a b) := by
  have := d.isLt
  have := a.isLt
  exact fit_encS d a b (by omega) (by omega)
theorem xor (d : VReg) (a : VReg) (b : VOp) : Statement (.xor d a b) := by
  have := d.isLt
  have := a.isLt
  exact fit_encV a b (by omega) (by omega) (by omega)
theorem xorS (d : SReg) (a : SReg) (b : SOp) : Statement (.xorS d a b) := by
  have := d.isLt
  have := a.isLt
  exact fit_encS d a b (by omega) (by omega)
theorem shl (d : VReg) (a : VReg) (b : VOp) : Statement (.shl d a b) := by
  have := d.isLt
  have := a.isLt
  exact fit_encV a b (by omega) (by omega) (by omega)
theorem shlS (d : SReg) (a : SReg) (b : SOp) : Statement (.shlS d a b) := by
  have := d.isLt
  have := a.isLt
  exact fit_encS d a b (by omega) (by omega)
theorem shr (d : VReg) (a : VReg) (b : VOp) : Statement (.shr d a b) := by
  have := d.isLt
  have := a.isLt
  exact fit_encV a b (by omega) (by omega) (by omega)
theorem shrS (d : SReg) (a : SReg) (b : SOp) : Statement (.shrS d a b) := by
  have := d.isLt
  have := a.isLt
  exact fit_encS d a b (by omega) (by omega)
theorem sra (d : VReg) (a : VReg) (b : VOp) : Statement (.sra d a b) := by
  have := d.isLt
  have := a.isLt
  exact fit_encV a b (by omega) (by omega) (by omega)
theorem sraS (d : SReg) (a : SReg) (b : SOp) : Statement (.sraS d a b) := by
  have := d.isLt
  have := a.isLt
  exact fit_encS d a b (by omega) (by omega)
theorem andn (d : VReg) (a : VReg) (b : VOp) : Statement (.andn d a b) := by
  have := d.isLt
  have := a.isLt
  exact fit_encV a b (by omega) (by omega) (by omega)
theorem andnS (d : SReg) (a : SReg) (b : SOp) : Statement (.andnS d a b) := by
  have := d.isLt
  have := a.isLt
  exact fit_encS d a b (by omega) (by omega)
theorem rol (d : VReg) (a : VReg) (b : VOp) : Statement (.rol d a b) := by
  have := d.isLt
  have := a.isLt
  exact fit_encV a b (by omega) (by omega) (by omega)
theorem rolS (d : SReg) (a : SReg) (b : SOp) : Statement (.rolS d a b) := by
  have := d.isLt
  have := a.isLt
  exact fit_encS d a b (by omega) (by omega)
theorem absdI (d : VReg) (a : VReg) (b : VOp) : Statement (.absdI d a b) := by
  have := d.isLt
  have := a.isLt
  exact fit_encV a b (by omega) (by omega) (by omega)
theorem absdIS (d : SReg) (a : SReg) (b : SOp) : Statement (.absdIS d a b) := by
  have := d.isLt
  have := a.isLt
  exact fit_encS d a b (by omega) (by omega)
theorem absdN (d : VReg) (a : VReg) (b : VOp) : Statement (.absdN d a b) := by
  have := d.isLt
  have := a.isLt
  exact fit_encV a b (by omega) (by omega) (by omega)
theorem absdNS (d : SReg) (a : SReg) (b : SOp) : Statement (.absdNS d a b) := by
  have := d.isLt
  have := a.isLt
  exact fit_encS d a b (by omega) (by omega)
theorem clz (d : VReg) (a : VReg) : Statement (.clz d a) := by
  have := d.isLt
  have := a.isLt
  exact fit_one (wR3_lt (by omega) (by omega) (by omega) (by omega) (by omega))
theorem clzS (d : SReg) (a : SReg) : Statement (.clzS d a) := by
  have := d.isLt
  have := a.isLt
  exact fit_one (wR3_lt (by omega) (by omega) (by omega) (by omega) (by omega))
theorem popc (d : VReg) (a : VReg) : Statement (.popc d a) := by
  have := d.isLt
  have := a.isLt
  exact fit_one (wR3_lt (by omega) (by omega) (by omega) (by omega) (by omega))
theorem popcS (d : SReg) (a : SReg) : Statement (.popcS d a) := by
  have := d.isLt
  have := a.isLt
  exact fit_one (wR3_lt (by omega) (by omega) (by omega) (by omega) (by omega))
theorem brev (d : VReg) (a : VReg) : Statement (.brev d a) := by
  have := d.isLt
  have := a.isLt
  exact fit_one (wR3_lt (by omega) (by omega) (by omega) (by omega) (by omega))
theorem brevS (d : SReg) (a : SReg) : Statement (.brevS d a) := by
  have := d.isLt
  have := a.isLt
  exact fit_one (wR3_lt (by omega) (by omega) (by omega) (by omega) (by omega))
theorem bfxI (d : VReg) (a : VReg) (b : VOp) : Statement (.bfxI d a b) := by
  have := d.isLt
  have := a.isLt
  exact fit_encV a b (by omega) (by omega) (by omega)
theorem bfxIS (d : SReg) (a : SReg) (b : SOp) : Statement (.bfxIS d a b) := by
  have := d.isLt
  have := a.isLt
  exact fit_encS d a b (by omega) (by omega)
theorem bfxN (d : VReg) (a : VReg) (b : VOp) : Statement (.bfxN d a b) := by
  have := d.isLt
  have := a.isLt
  exact fit_encV a b (by omega) (by omega) (by omega)
theorem bfxNS (d : SReg) (a : SReg) (b : SOp) : Statement (.bfxNS d a b) := by
  have := d.isLt
  have := a.isLt
  exact fit_encS d a b (by omega) (by omega)
theorem bfi (d : VReg) (a : VReg) (b : VOp) : Statement (.bfi d a b) := by
  have := d.isLt
  have := a.isLt
  exact fit_encV a b (by omega) (by omega) (by omega)
theorem bfiS (d : SReg) (a : SReg) (b : SOp) : Statement (.bfiS d a b) := by
  have := d.isLt
  have := a.isLt
  exact fit_encS d a b (by omega) (by omega)
theorem divI (d : VReg) (a : VReg) (b : VOp) : Statement (.divI d a b) := by
  have := d.isLt
  have := a.isLt
  exact fit_encV a b (by omega) (by omega) (by omega)
theorem divIS (d : SReg) (a : SReg) (b : SOp) : Statement (.divIS d a b) := by
  have := d.isLt
  have := a.isLt
  exact fit_encS d a b (by omega) (by omega)
theorem divN (d : VReg) (a : VReg) (b : VOp) : Statement (.divN d a b) := by
  have := d.isLt
  have := a.isLt
  exact fit_encV a b (by omega) (by omega) (by omega)
theorem divNS (d : SReg) (a : SReg) (b : SOp) : Statement (.divNS d a b) := by
  have := d.isLt
  have := a.isLt
  exact fit_encS d a b (by omega) (by omega)
theorem remI (d : VReg) (a : VReg) (b : VOp) : Statement (.remI d a b) := by
  have := d.isLt
  have := a.isLt
  exact fit_encV a b (by omega) (by omega) (by omega)
theorem remIS (d : SReg) (a : SReg) (b : SOp) : Statement (.remIS d a b) := by
  have := d.isLt
  have := a.isLt
  exact fit_encS d a b (by omega) (by omega)
theorem remN (d : VReg) (a : VReg) (b : VOp) : Statement (.remN d a b) := by
  have := d.isLt
  have := a.isLt
  exact fit_encV a b (by omega) (by omega) (by omega)
theorem remNS (d : SReg) (a : SReg) (b : SOp) : Statement (.remNS d a b) := by
  have := d.isLt
  have := a.isLt
  exact fit_encS d a b (by omega) (by omega)
theorem mov (d : VReg) (b : VOp) : Statement (.mov d b) := by
  have := d.isLt
  exact fit_encV 0 b (by omega) (by omega) (by omega)
theorem movS (d : SReg) (b : SOp) : Statement (.movS d b) := by
  have := d.isLt
  exact fit_encS d 0 b (by omega) (by omega)
theorem cmp (c : CmpCond) (p : PReg) (a : VReg) (b : VOp) : Statement (.cmp c p a b) := by
  have := p.isLt
  have := a.isLt
  have := cmpCode_lt c
  exact fit_encV a b (by omega) (by omega) (by omega)
theorem cmpS (c : CmpCond) (d : SReg) (a : SReg) (b : SOp) : Statement (.cmpS c d a b) := by
  have := d.isLt
  have := a.isLt
  have := cmpCode_lt c
  exact fit_encS d a b (by omega) (by omega)
theorem sel (p : PReg) (inv : Bool) (d : VReg) (a : VReg) (b : VOp) : Statement (.sel p inv d a b) := by
  have := p.isLt
  have := d.isLt
  have := a.isLt
  have := bit_lt inv
  exact fit_encVFn a b (by omega) (by omega) (by omega)
theorem fadd (d : VReg) (a : VReg) (b : VReg) : Statement (.fadd d a b) := by
  have := d.isLt
  have := a.isLt
  have := b.isLt
  exact fit_one (wR3_lt (by omega) (by omega) (by omega) (by omega) (by omega))
theorem faddF16x2 (d : VReg) (a : VReg) (b : VReg) : Statement (.faddF16x2 d a b) := by
  have := d.isLt
  have := a.isLt
  have := b.isLt
  exact fit_one (wR3_lt (by omega) (by omega) (by omega) (by omega) (by omega))
theorem faddBf16x2 (d : VReg) (a : VReg) (b : VReg) : Statement (.faddBf16x2 d a b) := by
  have := d.isLt
  have := a.isLt
  have := b.isLt
  exact fit_one (wR3_lt (by omega) (by omega) (by omega) (by omega) (by omega))
theorem fsub (d : VReg) (a : VReg) (b : VReg) : Statement (.fsub d a b) := by
  have := d.isLt
  have := a.isLt
  have := b.isLt
  exact fit_one (wR3_lt (by omega) (by omega) (by omega) (by omega) (by omega))
theorem fsubF16x2 (d : VReg) (a : VReg) (b : VReg) : Statement (.fsubF16x2 d a b) := by
  have := d.isLt
  have := a.isLt
  have := b.isLt
  exact fit_one (wR3_lt (by omega) (by omega) (by omega) (by omega) (by omega))
theorem fsubBf16x2 (d : VReg) (a : VReg) (b : VReg) : Statement (.fsubBf16x2 d a b) := by
  have := d.isLt
  have := a.isLt
  have := b.isLt
  exact fit_one (wR3_lt (by omega) (by omega) (by omega) (by omega) (by omega))
theorem fmul (d : VReg) (a : VReg) (b : VReg) : Statement (.fmul d a b) := by
  have := d.isLt
  have := a.isLt
  have := b.isLt
  exact fit_one (wR3_lt (by omega) (by omega) (by omega) (by omega) (by omega))
theorem fmulF16x2 (d : VReg) (a : VReg) (b : VReg) : Statement (.fmulF16x2 d a b) := by
  have := d.isLt
  have := a.isLt
  have := b.isLt
  exact fit_one (wR3_lt (by omega) (by omega) (by omega) (by omega) (by omega))
theorem fmulBf16x2 (d : VReg) (a : VReg) (b : VReg) : Statement (.fmulBf16x2 d a b) := by
  have := d.isLt
  have := a.isLt
  have := b.isLt
  exact fit_one (wR3_lt (by omega) (by omega) (by omega) (by omega) (by omega))
theorem fma (d : VReg) (a : VReg) (b : VReg) : Statement (.fma d a b) := by
  have := d.isLt
  have := a.isLt
  have := b.isLt
  exact fit_one (wR3_lt (by omega) (by omega) (by omega) (by omega) (by omega))
theorem fmaF16x2 (d : VReg) (a : VReg) (b : VReg) : Statement (.fmaF16x2 d a b) := by
  have := d.isLt
  have := a.isLt
  have := b.isLt
  exact fit_one (wR3_lt (by omega) (by omega) (by omega) (by omega) (by omega))
theorem fmaBf16x2 (d : VReg) (a : VReg) (b : VReg) : Statement (.fmaBf16x2 d a b) := by
  have := d.isLt
  have := a.isLt
  have := b.isLt
  exact fit_one (wR3_lt (by omega) (by omega) (by omega) (by omega) (by omega))
theorem fmin (d : VReg) (a : VReg) (b : VReg) : Statement (.fmin d a b) := by
  have := d.isLt
  have := a.isLt
  have := b.isLt
  exact fit_one (wR3_lt (by omega) (by omega) (by omega) (by omega) (by omega))
theorem fminF16x2 (d : VReg) (a : VReg) (b : VReg) : Statement (.fminF16x2 d a b) := by
  have := d.isLt
  have := a.isLt
  have := b.isLt
  exact fit_one (wR3_lt (by omega) (by omega) (by omega) (by omega) (by omega))
theorem fminBf16x2 (d : VReg) (a : VReg) (b : VReg) : Statement (.fminBf16x2 d a b) := by
  have := d.isLt
  have := a.isLt
  have := b.isLt
  exact fit_one (wR3_lt (by omega) (by omega) (by omega) (by omega) (by omega))
theorem fmax (d : VReg) (a : VReg) (b : VReg) : Statement (.fmax d a b) := by
  have := d.isLt
  have := a.isLt
  have := b.isLt
  exact fit_one (wR3_lt (by omega) (by omega) (by omega) (by omega) (by omega))
theorem fmaxF16x2 (d : VReg) (a : VReg) (b : VReg) : Statement (.fmaxF16x2 d a b) := by
  have := d.isLt
  have := a.isLt
  have := b.isLt
  exact fit_one (wR3_lt (by omega) (by omega) (by omega) (by omega) (by omega))
theorem fmaxBf16x2 (d : VReg) (a : VReg) (b : VReg) : Statement (.fmaxBf16x2 d a b) := by
  have := d.isLt
  have := a.isLt
  have := b.isLt
  exact fit_one (wR3_lt (by omega) (by omega) (by omega) (by omega) (by omega))
theorem fabs (d : VReg) (a : VReg) : Statement (.fabs d a) := by
  have := d.isLt
  have := a.isLt
  exact fit_one (wR3_lt (by omega) (by omega) (by omega) (by omega) (by omega))
theorem fabsF16x2 (d : VReg) (a : VReg) : Statement (.fabsF16x2 d a) := by
  have := d.isLt
  have := a.isLt
  exact fit_one (wR3_lt (by omega) (by omega) (by omega) (by omega) (by omega))
theorem fabsBf16x2 (d : VReg) (a : VReg) : Statement (.fabsBf16x2 d a) := by
  have := d.isLt
  have := a.isLt
  exact fit_one (wR3_lt (by omega) (by omega) (by omega) (by omega) (by omega))
theorem fneg (d : VReg) (a : VReg) : Statement (.fneg d a) := by
  have := d.isLt
  have := a.isLt
  exact fit_one (wR3_lt (by omega) (by omega) (by omega) (by omega) (by omega))
theorem fnegF16x2 (d : VReg) (a : VReg) : Statement (.fnegF16x2 d a) := by
  have := d.isLt
  have := a.isLt
  exact fit_one (wR3_lt (by omega) (by omega) (by omega) (by omega) (by omega))
theorem fnegBf16x2 (d : VReg) (a : VReg) : Statement (.fnegBf16x2 d a) := by
  have := d.isLt
  have := a.isLt
  exact fit_one (wR3_lt (by omega) (by omega) (by omega) (by omega) (by omega))
theorem frnd (dir : RndDir) (d : VReg) (a : VReg) : Statement (.frnd dir d a) := by
  have := d.isLt
  have := a.isLt
  have := rndCode_lt dir
  exact fit_one (wR3_lt (by omega) (by omega) (by omega) (by omega) (by omega))
theorem frndF16x2 (dir : RndDir) (d : VReg) (a : VReg) : Statement (.frndF16x2 dir d a) := by
  have := d.isLt
  have := a.isLt
  have := rndCode_lt dir
  exact fit_one (wR3_lt (by omega) (by omega) (by omega) (by omega) (by omega))
theorem frndBf16x2 (dir : RndDir) (d : VReg) (a : VReg) : Statement (.frndBf16x2 dir d a) := by
  have := d.isLt
  have := a.isLt
  have := rndCode_lt dir
  exact fit_one (wR3_lt (by omega) (by omega) (by omega) (by omega) (by omega))
theorem fdot2F16 (d : VReg) (a : VReg) (b : VReg) : Statement (.fdot2F16 d a b) := by
  have := d.isLt
  have := a.isLt
  have := b.isLt
  exact fit_one (wR3_lt (by omega) (by omega) (by omega) (by omega) (by omega))
theorem fdot2Bf16 (d : VReg) (a : VReg) (b : VReg) : Statement (.fdot2Bf16 d a b) := by
  have := d.isLt
  have := a.isLt
  have := b.isLt
  exact fit_one (wR3_lt (by omega) (by omega) (by omega) (by omega) (by omega))
theorem fcmp (c : FCmpCond) (p : PReg) (a : VReg) (b : VReg) : Statement (.fcmp c p a b) := by
  have := p.isLt
  have := a.isLt
  have := b.isLt
  have := fcmpCode_lt c
  exact fit_one (wR3_lt (by omega) (by omega) (by omega) (by omega) (by omega))
theorem frcp (d : VReg) (a : VReg) : Statement (.frcp d a) := by
  have := d.isLt
  have := a.isLt
  exact fit_one (wR3_lt (by omega) (by omega) (by omega) (by omega) (by omega))
theorem frsq (d : VReg) (a : VReg) : Statement (.frsq d a) := by
  have := d.isLt
  have := a.isLt
  exact fit_one (wR3_lt (by omega) (by omega) (by omega) (by omega) (by omega))
theorem fsqrt (d : VReg) (a : VReg) : Statement (.fsqrt d a) := by
  have := d.isLt
  have := a.isLt
  exact fit_one (wR3_lt (by omega) (by omega) (by omega) (by omega) (by omega))
theorem fexp2 (d : VReg) (a : VReg) : Statement (.fexp2 d a) := by
  have := d.isLt
  have := a.isLt
  exact fit_one (wR3_lt (by omega) (by omega) (by omega) (by omega) (by omega))
theorem flog2 (d : VReg) (a : VReg) : Statement (.flog2 d a) := by
  have := d.isLt
  have := a.isLt
  exact fit_one (wR3_lt (by omega) (by omega) (by omega) (by omega) (by omega))
theorem fsin (d : VReg) (a : VReg) : Statement (.fsin d a) := by
  have := d.isLt
  have := a.isLt
  exact fit_one (wR3_lt (by omega) (by omega) (by omega) (by omega) (by omega))
theorem fcos (d : VReg) (a : VReg) : Statement (.fcos d a) := by
  have := d.isLt
  have := a.isLt
  exact fit_one (wR3_lt (by omega) (by omega) (by omega) (by omega) (by omega))
theorem ftanh (d : VReg) (a : VReg) : Statement (.ftanh d a) := by
  have := d.isLt
  have := a.isLt
  exact fit_one (wR3_lt (by omega) (by omega) (by omega) (by omega) (by omega))
theorem cvt (dst : Ty) (src : Ty) (d : VReg) (a : VReg) : Statement (.cvt dst src d a) := by
  have := d.isLt
  have := a.isLt
  have := tyCode_lt dst
  have := tyCode_lt src
  exact fit_one (wR3_lt (by omega) (by omega) (by omega) (by omega) (by omega))
theorem pack (dst : Ty) (src : Ty) (d : VReg) (a : VReg) : Statement (.pack dst src d a) := by
  have := d.isLt
  have := a.isLt
  have := tyCode_lt dst
  have := tyCode_lt src
  exact fit_one (wR3_lt (by omega) (by omega) (by omega) (by omega) (by omega))
theorem unpack (dst : Ty) (src : Ty) (d : VReg) (a : VReg) : Statement (.unpack dst src d a) := by
  have := d.isLt
  have := a.isLt
  have := tyCode_lt dst
  have := tyCode_lt src
  exact fit_one (wR3_lt (by omega) (by omega) (by omega) (by omega) (by omega))
theorem shfl (d : VReg) (a : VReg) (b : VReg) : Statement (.shfl d a b) := by
  have := d.isLt
  have := a.isLt
  have := b.isLt
  exact fit_one (wR3_lt (by omega) (by omega) (by omega) (by omega) (by omega))
theorem bcast (d : VReg) (a : VReg) (l : BitVec 6) : Statement (.bcast d a l) := by
  have := d.isLt
  have := a.isLt
  have := l.isLt
  exact fit_one (wR3_lt (by omega) (by omega) (by omega) (by omega) (by omega))
theorem slup (d : VReg) (a : VReg) (k : BitVec 6) : Statement (.slup d a k) := by
  have := d.isLt
  have := a.isLt
  have := k.isLt
  exact fit_one (wR3_lt (by omega) (by omega) (by omega) (by omega) (by omega))
theorem sldn (d : VReg) (a : VReg) (k : BitVec 6) : Statement (.sldn d a k) := by
  have := d.isLt
  have := a.isLt
  have := k.isLt
  exact fit_one (wR3_lt (by omega) (by omega) (by omega) (by omega) (by omega))
theorem compress (d : VReg) (a : VReg) (p : PReg) : Statement (.compress d a p) := by
  have := d.isLt
  have := a.isLt
  have := p.isLt
  exact fit_one (wR3_lt (by omega) (by omega) (by omega) (by omega) (by omega))
theorem expand (d : VReg) (a : VReg) (p : PReg) : Statement (.expand d a p) := by
  have := d.isLt
  have := a.isLt
  have := p.isLt
  exact fit_one (wR3_lt (by omega) (by omega) (by omega) (by omega) (by omega))
theorem scanAddI32 (d : VReg) (a : VReg) : Statement (.scanAddI32 d a) := by
  have := d.isLt
  have := a.isLt
  exact fit_one (wR3_lt (by omega) (by omega) (by omega) (by omega) (by omega))
theorem scanAddF32 (d : VReg) (a : VReg) : Statement (.scanAddF32 d a) := by
  have := d.isLt
  have := a.isLt
  exact fit_one (wR3_lt (by omega) (by omega) (by omega) (by omega) (by omega))
theorem scanMaxI32 (d : VReg) (a : VReg) : Statement (.scanMaxI32 d a) := by
  have := d.isLt
  have := a.isLt
  exact fit_one (wR3_lt (by omega) (by omega) (by omega) (by omega) (by omega))
theorem scanMinI32 (d : VReg) (a : VReg) : Statement (.scanMinI32 d a) := by
  have := d.isLt
  have := a.isLt
  exact fit_one (wR3_lt (by omega) (by omega) (by omega) (by omega) (by omega))
theorem reduceAddI32 (d : VReg) (a : VReg) : Statement (.reduceAddI32 d a) := by
  have := d.isLt
  have := a.isLt
  exact fit_one (wR3_lt (by omega) (by omega) (by omega) (by omega) (by omega))
theorem reduceAddF32 (d : VReg) (a : VReg) : Statement (.reduceAddF32 d a) := by
  have := d.isLt
  have := a.isLt
  exact fit_one (wR3_lt (by omega) (by omega) (by omega) (by omega) (by omega))
theorem reduceMinI32 (d : VReg) (a : VReg) : Statement (.reduceMinI32 d a) := by
  have := d.isLt
  have := a.isLt
  exact fit_one (wR3_lt (by omega) (by omega) (by omega) (by omega) (by omega))
theorem reduceMaxI32 (d : VReg) (a : VReg) : Statement (.reduceMaxI32 d a) := by
  have := d.isLt
  have := a.isLt
  exact fit_one (wR3_lt (by omega) (by omega) (by omega) (by omega) (by omega))
theorem reduceMinF32 (d : VReg) (a : VReg) : Statement (.reduceMinF32 d a) := by
  have := d.isLt
  have := a.isLt
  exact fit_one (wR3_lt (by omega) (by omega) (by omega) (by omega) (by omega))
theorem reduceMaxF32 (d : VReg) (a : VReg) : Statement (.reduceMaxF32 d a) := by
  have := d.isLt
  have := a.isLt
  exact fit_one (wR3_lt (by omega) (by omega) (by omega) (by omega) (by omega))
theorem matchRank (d : VReg) (a : VReg) : Statement (.matchRank d a) := by
  have := d.isLt
  have := a.isLt
  exact fit_one (wR3_lt (by omega) (by omega) (by omega) (by omega) (by omega))
theorem matchCnt (d : VReg) (a : VReg) : Statement (.matchCnt d a) := by
  have := d.isLt
  have := a.isLt
  exact fit_one (wR3_lt (by omega) (by omega) (by omega) (by omega) (by omega))
theorem matchLead (p : PReg) (a : VReg) : Statement (.matchLead p a) := by
  have := p.isLt
  have := a.isLt
  exact fit_one (wR3_lt (by omega) (by omega) (by omega) (by omega) (by omega))
theorem voteAny (d : PReg) (a : PReg) : Statement (.voteAny d a) := by
  have := d.isLt
  have := a.isLt
  exact fit_one (wR3_lt (by omega) (by omega) (by omega) (by omega) (by omega))
theorem voteAll (d : PReg) (a : PReg) : Statement (.voteAll d a) := by
  have := d.isLt
  have := a.isLt
  exact fit_one (wR3_lt (by omega) (by omega) (by omega) (by omega) (by omega))
theorem voteBallot (d : SReg) (a : PReg) : Statement (.voteBallot d a) := by
  have := d.isLt
  have := a.isLt
  exact fit_one (wR3_lt (by omega) (by omega) (by omega) (by omega) (by omega))
theorem plog (op : PlogOp) (d : PReg) (a : PReg) (b : PReg) : Statement (.plog op d a b) := by
  have := d.isLt
  have := a.isLt
  have := b.isLt
  have := plogCode_lt op
  exact fit_one (wR3_lt (by omega) (by omega) (by omega) (by omega) (by omega))
theorem pmovPFromS (d : PReg) (a : SReg) : Statement (.pmovPFromS d a) := by
  have := d.isLt
  have := a.isLt
  exact fit_one (wR3_lt (by omega) (by omega) (by omega) (by omega) (by omega))
theorem pmovSFromP (d : SReg) (a : PReg) : Statement (.pmovSFromP d a) := by
  have := d.isLt
  have := a.isLt
  exact fit_one (wR3_lt (by omega) (by omega) (by omega) (by omega) (by omega))
theorem pcnt (d : SReg) (a : PReg) : Statement (.pcnt d a) := by
  have := d.isLt
  have := a.isLt
  exact fit_one (wR3_lt (by omega) (by omega) (by omega) (by omega) (by omega))
theorem ld (t : Ty) (d : VReg) (a : SReg) (b : VReg) (ext : Option MemExt) : Statement (.ld t d a b ext) := by
  have := d.isLt
  have := a.isLt
  have := b.isLt
  have := tyCode_lt t
  exact fit_encM a b ext (by omega) (by omega) (by omega)
theorem st (t : Ty) (d : VReg) (a : SReg) (b : VReg) (ext : Option MemExt) : Statement (.st t d a b ext) := by
  have := d.isLt
  have := a.isLt
  have := b.isLt
  have := tyCode_lt t
  exact fit_encM a b ext (by omega) (by omega) (by omega)
theorem atom (op : AtomOp) (d : VReg) (a : SReg) (b : VReg) (ext : Option MemExt) :
    Statement (.atom op d a b ext) := by
  have := d.isLt
  have := a.isLt
  have := b.isLt
  have := atomCode_lt op
  exact fit_encM a b ext (by omega) (by omega) (by omega)
theorem red (op : AtomOp) (d : VReg) (a : SReg) (b : VReg) (ext : Option MemExt) : Statement (.red op d a b ext) := by
  have := d.isLt
  have := a.isLt
  have := b.isLt
  have := atomCode_lt op
  exact fit_encM a b ext (by omega) (by omega) (by omega)
theorem cas (wide : Bool) (d : VReg) (a : SReg) (b : VReg) (ext : Option MemExt) :
    Statement (.cas wide d a b ext) := by
  have := d.isLt
  have := a.isLt
  have := b.isLt
  have := bit_lt wide
  exact fit_encM a b ext (by omega) (by omega) (by omega)
theorem pref (a : SReg) (b : VReg) (ext : Option MemExt) : Statement (.pref a b ext) := by
  have := a.isLt
  have := b.isLt
  exact fit_encM a b ext (by omega) (by omega) (by omega)
theorem keep (a : SReg) (b : VReg) (ext : Option MemExt) : Statement (.keep a b ext) := by
  have := a.isLt
  have := b.isLt
  exact fit_encM a b ext (by omega) (by omega) (by omega)
theorem cinv (a : SReg) (b : VReg) (ext : Option MemExt) : Statement (.cinv a b ext) := by
  have := a.isLt
  have := b.isLt
  exact fit_encM a b ext (by omega) (by omega) (by omega)
theorem cwb (a : SReg) (b : VReg) (ext : Option MemExt) : Statement (.cwb a b ext) := by
  have := a.isLt
  have := b.isLt
  exact fit_encM a b ext (by omega) (by omega) (by omega)
theorem fence (k : FenceKind) (mask : BitVec 4) (sc : Scope) : Statement (.fence k mask sc) := by
  have := mask.isLt
  have := fenceCode_lt k
  have := scopeCode_lt sc
  exact fit_one (wR3_lt (by omega) (by omega) (by omega) (by omega) (by omega))
theorem barinit (o : BitVec 4) (d : SReg) (a : SReg) : Statement (.barinit o d a) := by
  have := o.isLt
  have := d.isLt
  have := a.isLt
  exact fit_one (wR3_lt (by omega) (by omega) (by omega) (by omega) (by omega))
theorem arrive (d : SReg) (o : BitVec 4) : Statement (.arrive d o) := by
  have := d.isLt
  have := o.isLt
  exact fit_one (wR3_lt (by omega) (by omega) (by omega) (by omega) (by omega))
theorem bwait (d : SReg) (o : BitVec 4) (a : SReg) : Statement (.bwait d o a) := by
  have := d.isLt
  have := o.isLt
  have := a.isLt
  exact fit_one (wR3_lt (by omega) (by omega) (by omega) (by omega) (by omega))
theorem bsync (d : SReg) (o : BitVec 4) : Statement (.bsync d o) := by
  have := d.isLt
  have := o.isLt
  exact fit_one (wR3_lt (by omega) (by omega) (by omega) (by omega) (by omega))
theorem bdrop (o : BitVec 4) : Statement (.bdrop o) := by
  have := o.isLt
  exact fit_one (wR3_lt (by omega) (by omega) (by omega) (by omega) (by omega))
theorem waitc (c : WaitCond) (wide : Bool) (d : SReg) (a : SReg) (b : SReg) : Statement (.waitc c wide d a b) := by
  have := d.isLt
  have := a.isLt
  have := b.isLt
  have := waitCode_lt c
  have := bit_lt wide
  exact fit_one (wR3_lt (by omega) (by omega) (by omega) (by omega) (by omega))
theorem waitn (l : BitVec 5) (s : BitVec 5) (c : BitVec 5) (m : BitVec 5) : Statement (.waitn l s c m) := by
  have := l.isLt
  have := s.isLt
  have := c.isLt
  have := m.isLt
  exact fit_one (by omega)
theorem cpy (d : SReg) (a : SReg) : Statement (.cpy d a) := by
  have := d.isLt
  have := a.isLt
  exact fit_one (wR3_lt (by omega) (by omega) (by omega) (by omega) (by omega))
theorem cpyt (d : SReg) (a : SReg) (t : Bool) : Statement (.cpyt d a t) := by
  have := d.isLt
  have := a.isLt
  have := bit_lt t
  exact fit_one (wR3_lt (by omega) (by omega) (by omega) (by omega) (by omega))
theorem cpym (d : SReg) (a : SReg) : Statement (.cpym d a) := by
  have := d.isLt
  have := a.isLt
  exact fit_one (wR3_lt (by omega) (by omega) (by omega) (by omega) (by omega))
theorem cpyx (d : SReg) (a : SReg) (b : SReg) : Statement (.cpyx d a b) := by
  have := d.isLt
  have := a.isLt
  have := b.isLt
  exact fit_one (wR3_lt (by omega) (by omega) (by omega) (by omega) (by omega))
theorem coll (d : SReg) (a : SReg) (b : SReg) : Statement (.coll d a b) := by
  have := d.isLt
  have := a.isLt
  have := b.isLt
  exact fit_one (wR3_lt (by omega) (by omega) (by omega) (by omega) (by omega))
theorem mma (a : SReg) : Statement (.mma a) := by
  have := a.isLt
  exact fit_one (wR3_lt (by omega) (by omega) (by omega) (by omega) (by omega))
theorem mrst (a : SReg) : Statement (.mrst a) := by
  have := a.isLt
  exact fit_one (wR3_lt (by omega) (by omega) (by omega) (by omega) (by omega))
theorem mzero (a : SReg) : Statement (.mzero a) := by
  have := a.isLt
  exact fit_one (wR3_lt (by omega) (by omega) (by omega) (by omega) (by omega))
theorem mload (a : SReg) : Statement (.mload a) := by
  have := a.isLt
  exact fit_one (wR3_lt (by omega) (by omega) (by omega) (by omega) (by omega))
theorem mdrain (a : SReg) : Statement (.mdrain a) := by
  have := a.isLt
  exact fit_one (wR3_lt (by omega) (by omega) (by omega) (by omega) (by omega))
theorem hist (a : SReg) (cl : Bool) (t : BitVec 3) : Statement (.hist a cl t) := by
  have := a.isLt
  have := t.isLt
  have := bit_lt cl
  exact fit_one (wR3_lt (by omega) (by omega) (by omega) (by omega) (by omega))
theorem quote (d : SReg) (a : SReg) (l : Bool) : Statement (.quote d a l) := by
  have := d.isLt
  have := a.isLt
  have := bit_lt l
  exact fit_one (wR3_lt (by omega) (by omega) (by omega) (by omega) (by omega))
theorem launch (d : SReg) (a : SReg) (b : SReg) : Statement (.launch d a b) := by
  have := d.isLt
  have := a.isLt
  have := b.isLt
  exact fit_one (wR3_lt (by omega) (by omega) (by omega) (by omega) (by omega))
theorem trigger : Statement .trigger := fit_one (wR3_lt (by omega) (by omega) (by omega) (by omega) (by omega))
theorem next (d : SReg) (p : PReg) : Statement (.next d p) := by
  have := d.isLt
  have := p.isLt
  exact fit_one (wR3_lt (by omega) (by omega) (by omega) (by omega) (by omega))
theorem rep (n : BitVec 6) (sd : BitVec 2) (sa : BitVec 2) (sb : BitVec 2) : Statement (.rep n sd sa sb) := by
  have := n.isLt
  have := sd.isLt
  have := sa.isLt
  have := sb.isLt
  exact fit_one (by omega)
theorem nop : Statement .nop := fit_one (wR3_lt (by omega) (by omega) (by omega) (by omega) (by omega))
theorem exit : Statement .exit := fit_one (wR3_lt (by omega) (by omega) (by omega) (by omega) (by omega))
theorem yield : Statement .yield := fit_one (wR3_lt (by omega) (by omega) (by omega) (by omega) (by omega))
theorem brk (c : BitVec 7) : Statement (.brk c) := by
  have := c.isLt
  exact fit_one (wR3_lt (by omega) (by omega) (by omega) (by omega) (by omega))
theorem trap (c : BitVec 7) : Statement (.trap c) := by
  have := c.isLt
  exact fit_one (wR3_lt (by omega) (by omega) (by omega) (by omega) (by omega))
theorem ret (a : SReg) : Statement (.ret a) := by
  have := a.isLt
  exact fit_one (wR3_lt (by omega) (by omega) (by omega) (by omega) (by omega))
theorem eret : Statement .eret := fit_one (wR3_lt (by omega) (by omega) (by omega) (by omega) (by omega))
theorem sysc (c : BitVec 7) : Statement (.sysc c) := by
  have := c.isLt
  exact fit_one (wR3_lt (by omega) (by omega) (by omega) (by omega) (by omega))
theorem elect (p : PReg) : Statement (.elect p) := by
  have := p.isLt
  exact fit_one (wR3_lt (by omega) (by omega) (by omega) (by omega) (by omega))
theorem wbase (i : BitVec 7) : Statement (.wbase i) := by
  have := i.isLt
  exact fit_one (wR3_lt (by omega) (by omega) (by omega) (by omega) (by omega))
theorem lexit : Statement .lexit := fit_one (wR3_lt (by omega) (by omega) (by omega) (by omega) (by omega))
theorem strike (j : JMask) : Statement (.strike j) := by
  have := j.isLt
  exact fit_one (wR3_lt (by omega) (by omega) (by omega) (by omega) (by omega))
theorem park (j : JMask) : Statement (.park j) := by
  have := j.isLt
  exact fit_one (wR3_lt (by omega) (by omega) (by omega) (by omega) (by omega))
theorem tlbi (a : SReg) (all : Bool) : Statement (.tlbi a all) := by
  have := a.isLt
  have := bit_lt all
  exact fit_one (wR3_lt (by omega) (by omega) (by omega) (by omega) (by omega))
theorem getsr (d : BitVec 7) (n : BitVec 7) : Statement (.getsr d n) := by
  have := d.isLt
  have := n.isLt
  exact fit_one (wR3_lt (by omega) (by omega) (by omega) (by omega) (by omega))
theorem setsr (n : BitVec 7) (a : SReg) : Statement (.setsr n a) := by
  have := n.isLt
  have := a.isLt
  exact fit_one (wR3_lt (by omega) (by omega) (by omega) (by omega) (by omega))
theorem bra (off : BitVec 26) : Statement (.bra off) := by
  have := off.isLt
  exact fit_one (by omega)
theorem brs (c : BrsCond) (a : SReg) (off : BitVec 15) : Statement (.brs c a off) := by
  have := a.isLt
  have := off.isLt
  have := brsCode_lt c
  exact fit_one (by omega)
theorem brp (p : PReg) (inv : Bool) (off : BitVec 21) : Statement (.brp p inv off) := by
  have := p.isLt
  have := off.isLt
  have := bit_lt inv
  exact fit_one (by omega)
theorem call (off : BitVec 26) : Statement (.call off) := by
  have := off.isLt
  exact fit_one (by omega)
theorem jmp (d : SReg) (a : SReg) : Statement (.jmp d a) := by
  have := d.isLt
  have := a.isLt
  exact fit_one (wR3_lt (by omega) (by omega) (by omega) (by omega) (by omega))
theorem enrol (j : JMask) (off : BitVec 21) : Statement (.enrol j off) := by
  have := j.isLt
  have := off.isLt
  exact fit_one (by omega)
theorem loop (c : LoopCount) (off : BitVec 18) : Statement (.loop c off) := by
  have := off.isLt
  have := loopCode_lt c
  exact fit_one (by omega)
theorem asyncTrapEntry (x0 : Nat) : Statement (.asyncTrapEntry x0) := fit_nil
theorem loadReturn (x0 : Nat) (x1 : Nat) : Statement (.loadReturn x0 x1) := fit_nil
theorem storePerformed (x0 : Nat) (x1 : Nat) : Statement (.storePerformed x0 x1) := fit_nil
theorem cacheWalkDone (x0 : Nat) : Statement (.cacheWalkDone x0) := fit_nil
theorem waitcPoll (x0 : Nat) : Statement (.waitcPoll x0) := fit_nil
theorem packetArrive (x0 : Nat) (x1 : Nat) (x2 : Option (BitVec 128 × BitVec 256 × List Byte)) :
    Statement (.packetArrive x0 x1 x2) := fit_nil
theorem packetDeliver (x0 : Nat) (x1 : Nat) : Statement (.packetDeliver x0 x1) := fit_nil
theorem floorBeatSend (x0 : Nat) (x1 : Nat) : Statement (.floorBeatSend x0 x1) := fit_nil
theorem floorBeatReceive (x0 : Nat) (x1 : Nat) : Statement (.floorBeatReceive x0 x1) := fit_nil
theorem tokenBucketReady (x0 : Nat) : Statement (.tokenBucketReady x0) := fit_nil
theorem resealZero : Statement .resealZero := fit_nil
theorem resealReenable : Statement .resealReenable := fit_nil
theorem linkWidthChangeDone (x0 : Nat) : Statement (.linkWidthChangeDone x0) := fit_nil
theorem copySlice (x0 : Nat) (x1 : Nat) : Statement (.copySlice x0 x1) := fit_nil
theorem copyComplete (x0 : Nat) (x1 : Nat) (x2 : Nat) : Statement (.copyComplete x0 x1 x2) := fit_nil
theorem collectiveComplete (x0 : Nat) (x1 : Nat) (x2 : List (Nat × List Nat × List Nat)) (x3 : Nat) :
    Statement (.collectiveComplete x0 x1 x2 x3) := fit_nil
theorem matrixCommandComplete (x0 : Nat) (x1 : Nat) : Statement (.matrixCommandComplete x0 x1) := fit_nil
theorem engineWake (x0 : Nat) (x1 : Nat) (x2 : Bool) : Statement (.engineWake x0 x1 x2) := fit_nil
theorem headLaunchTake (x0 : Nat) (x1 : Nat) : Statement (.headLaunchTake x0 x1) := fit_nil
theorem prologueRun (x0 : Nat) (x1 : Nat) : Statement (.prologueRun x0 x1) := fit_nil
theorem waitsigSatisfied (x0 : Nat) (x1 : Nat) : Statement (.waitsigSatisfied x0 x1) := fit_nil
theorem placerPass (x0 : Nat) : Statement (.placerPass x0) := fit_nil
theorem headGangAgeTimeout (x0 : Nat) (x1 : Nat) : Statement (.headGangAgeTimeout x0 x1) := fit_nil
theorem overflowMove (x0 : Nat) (x1 : Nat) : Statement (.overflowMove x0 x1) := fit_nil
theorem gangRetire (x0 : Nat) : Statement (.gangRetire x0) := fit_nil
theorem switchDrain (x0 : Nat) (x1 : Nat) : Statement (.switchDrain x0 x1) := fit_nil
theorem switchWriteBack (x0 : Nat) (x1 : Nat) : Statement (.switchWriteBack x0 x1) := fit_nil
theorem switchSave (x0 : Nat) (x1 : Nat) : Statement (.switchSave x0 x1) := fit_nil
theorem switchClear (x0 : Nat) (x1 : Nat) : Statement (.switchClear x0 x1) := fit_nil
theorem switchAdmit (x0 : Nat) (x1 : Nat) : Statement (.switchAdmit x0 x1) := fit_nil
theorem voltageStep (x0 : Nat) (x1 : Nat) : Statement (.voltageStep x0 x1) := fit_nil
theorem voltageReached (x0 : Nat) (x1 : Nat) : Statement (.voltageReached x0 x1) := fit_nil
theorem ceilingEffective (x0 : Nat) : Statement (.ceilingEffective x0) := fit_nil
theorem cmdBind (x0 : List Xword) : Statement (.cmdBind x0) := fit_nil
theorem cmdUnbind (x0 : List Xword) : Statement (.cmdUnbind x0) := fit_nil
theorem cmdKillContext (x0 : List Xword) : Statement (.cmdKillContext x0) := fit_nil
theorem cmdReseal (x0 : List Xword) : Statement (.cmdReseal x0) := fit_nil
theorem cmdAttestationReport (x0 : List Xword) : Statement (.cmdAttestationReport x0) := fit_nil
theorem cmdExtendMeas7 (x0 : List Xword) : Statement (.cmdExtendMeas7 x0) := fit_nil
theorem cmdExportImportWithdraw (x0 : List Xword) : Statement (.cmdExportImportWithdraw x0) := fit_nil
theorem cmdChainJoinLeave (x0 : List Xword) : Statement (.cmdChainJoinLeave x0) := fit_nil
theorem cmdReadTelemetry (x0 : List Xword) : Statement (.cmdReadTelemetry x0) := fit_nil
theorem reservedEncoding : Statement .reservedEncoding := fit_nil
theorem literalWordAtInstructionStart : Statement .literalWordAtInstructionStart := fit_nil
theorem instructionFetchFault : Statement .instructionFetchFault := fit_nil
theorem membershipChangeEffective (x0 : Nat) : Statement (.membershipChangeEffective x0) := fit_nil
theorem mailboxReservedOp (x0 : List Xword) : Statement (.mailboxReservedOp x0) := fit_nil
theorem faultResolved (x0 : Nat) (x1 : Nat) (x2 : MissEntry) (x3 : Xword) (x4 : Xword) :
    Statement (.faultResolved x0 x1 x2 x3 x4) := fit_nil
theorem faultUnresolvable (x0 : Nat) (x1 : Nat) (x2 : Nat) : Statement (.faultUnresolvable x0 x1 x2) := fit_nil
theorem departure (x0 : Nat) : Statement (.departure x0) := fit_nil
theorem resealStop (x0 : Option Nat) : Statement (.resealStop x0) := fit_nil
theorem causewayWidthChooser (x0 : Nat) (x1 : Nat) (x2 : Nat) : Statement (.causewayWidthChooser x0 x1 x2) := fit_nil
theorem collectiveAbandon (x0 : Nat) (x1 : Nat) : Statement (.collectiveAbandon x0 x1) := fit_nil
theorem doorbellWrite (x0 : Nat) (x1 : Nat) (x2 : BitVec 32) : Statement (.doorbellWrite x0 x1 x2) := fit_nil
theorem switchStop (x0 : Nat) (x1 : Nat) (x2 : List Nat) : Statement (.switchStop x0 x1 x2) := fit_nil
theorem kill (x0 : Nat) (x1 : Nat) (x2 : Nat) : Statement (.kill x0 x1 x2) := fit_nil
theorem uncorrectableError (x0 : Nat) (x1 : List Nat) (x2 : ErrorPlace) (x3 : Nat) :
    Statement (.uncorrectableError x0 x1 x2 x3) := fit_nil
theorem rateBroadcast : Statement .rateBroadcast := fit_nil
theorem rateIntegratorStep (x0 : Nat) (x1 : Nat) (x2 : List Nat) : Statement (.rateIntegratorStep x0 x1 x2) := fit_nil
theorem limiterSample (x0 : Nat) (x1 : Nat) : Statement (.limiterSample x0 x1) := fit_nil
theorem emergencyStep (x0 : Nat) : Statement (.emergencyStep x0) := fit_nil
theorem stallSampleEnd (x0 : Nat) (x1 : Nat) (x2 : Nat) (x3 : Nat) (x4 : Nat) :
    Statement (.stallSampleEnd x0 x1 x2 x3 x4) := fit_nil
theorem prefetchDepthChooser (x0 : Nat) (x1 : Nat) (x2 : List Nat) (x3 : List (Nat × Nat)) :
    Statement (.prefetchDepthChooser x0 x1 x2 x3) := fit_nil
theorem skewBiasDecay : Statement .skewBiasDecay := fit_nil
theorem clusterWake (x0 : Nat) (x1 : Nat) : Statement (.clusterWake x0 x1) := fit_nil
theorem clusterGate (x0 : Nat) (x1 : Nat) : Statement (.clusterGate x0 x1) := fit_nil
theorem ceilingRepublish (x0 : Nat) : Statement (.ceilingRepublish x0) := fit_nil
theorem chainCeilingMessage (x0 : Nat) (x1 : Xword) (x2 : Xword) (x3 : Xword) (x4 : Xword) :
    Statement (.chainCeilingMessage x0 x1 x2 x3 x4) := fit_nil
theorem chainJoin (x0 : Nat) (x1 : Xword) (x2 : Xword) (x3 : Xword) (x4 : Xword) :
    Statement (.chainJoin x0 x1 x2 x3 x4) := fit_nil
theorem chainSnapshot (x0 : Nat) (x1 : Xword) (x2 : Xword) (x3 : Xword) (x4 : Xword) :
    Statement (.chainSnapshot x0 x1 x2 x3 x4) := fit_nil
theorem chainLeave (x0 : Nat) (x1 : Xword) (x2 : Xword) (x3 : Xword) (x4 : Xword) :
    Statement (.chainLeave x0 x1 x2 x3 x4) := fit_nil
theorem chainRemove (x0 : Nat) (x1 : Xword) (x2 : Xword) (x3 : Xword) (x4 : Xword) :
    Statement (.chainRemove x0 x1 x2 x3 x4) := fit_nil
theorem chainSilenceTimeout (x0 : Nat) (x1 : Nat) : Statement (.chainSilenceTimeout x0 x1) := fit_nil
theorem pcapWrite (x0 : Xword) : Statement (.pcapWrite x0) := fit_nil
theorem prateWrite (x0 : Xword) : Statement (.prateWrite x0) := fit_nil
theorem pstatWrite (x0 : Xword) : Statement (.pstatWrite x0) := fit_nil
theorem pfloorWrite (x0 : Nat) (x1 : Nat) (x2 : Xword) : Statement (.pfloorWrite x0 x1 x2) := fit_nil
theorem clkreqRelease (x0 : Nat) (x1 : Nat) (x2 : Xword) : Statement (.clkreqRelease x0 x1 x2) := fit_nil
theorem clkreqPinDelta (x0 : Nat) (x1 : Nat) (x2 : Xword) : Statement (.clkreqPinDelta x0 x1 x2) := fit_nil
theorem clkreqPinPoint (x0 : Nat) (x1 : Nat) (x2 : Xword) : Statement (.clkreqPinPoint x0 x1 x2) := fit_nil
theorem clkdieWrite (x0 : Nat) (x1 : Xword) : Statement (.clkdieWrite x0 x1) := fit_nil
theorem hintdropClear (x0 : Nat) (x1 : Nat) : Statement (.hintdropClear x0 x1) := fit_nil
theorem elostClear : Statement .elostClear := fit_nil
theorem dieReset (x0 : Nat) : Statement (.dieReset x0) := fit_nil
theorem packageReset : Statement .packageReset := fit_nil
theorem bootStage (x0 : Nat) (x1 : List (List Byte)) (x2 : Bool) : Statement (.bootStage x0 x1 x2) := fit_nil
theorem registerWrite (x0 : Nat) (x1 : Nat) (x2 : Option Xword) : Statement (.registerWrite x0 x1 x2) := fit_nil
theorem thermalLimitChange (x0 : Nat) (x1 : Nat) : Statement (.thermalLimitChange x0 x1) := fit_nil
theorem softErrorCorrected (x0 : Nat) : Statement (.softErrorCorrected x0) := fit_nil
theorem hbmStackInitDone : Statement .hbmStackInitDone := fit_nil
theorem clkreqReservedMode (x0 : Nat) (x1 : Nat) (x2 : Xword) : Statement (.clkreqReservedMode x0 x1 x2) := fit_nil

end Sys2Proof.Laws.Words
end

