-- ==== Sys2Proof/Tests/Slice0.lean ====
section
/-!
SUPPORT. Tests: ill-formed terms that WellFormed refuses, words written out from the encodings of the spec, one step of
instructions on small states with results worked out from the rules, and for each statement with hypotheses a state and
operands that meet them.
-/

namespace Sys2Proof.Tests

open Sys2Proof.Machine

/-! ### Well-formedness: an ill-formed term for each check -/

def plainExt : MemExt := { order := .plain, scope := .wg, inLocal := false, rcount := 0, scale := 0, offset := 0 }

theorem test_wf_vector_constant : (Instr.add 1 2 (.const 63)).wf = false := by decide
theorem test_wf_scalar_constant : (Instr.addS 1 2 (.const 127)).wf = false := by decide
theorem test_wf_group : (Instr.ld .b64 127 1 2 none).wf = false := by decide
theorem test_wf_cas_group : (Instr.cas true 125 1 2 none).wf = false := by decide
theorem test_wf_memory_type : (Instr.ld .e4m3 1 1 2 none).wf = false := by decide
theorem test_wf_local_scope : (Instr.ld .b32 1 1 2 (some { plainExt with inLocal := true, scope := .die })).wf = false := by decide
theorem test_wf_load_order : (Instr.ld .b32 1 1 2 (some { plainExt with order := .rel })).wf = false := by decide
theorem test_wf_load_count : (Instr.ld .b32 1 1 2 (some { plainExt with inLocal := true, rcount := 1 })).wf = false := by decide
theorem test_wf_store_order : (Instr.st .b32 1 1 2 (some { plainExt with order := .acq })).wf = false := by decide
theorem test_wf_atom_count : (Instr.atom .addB32 1 1 2 (some { plainExt with rcount := 2 })).wf = false := by decide
theorem test_wf_cache_local : (Instr.pref 1 2 (some { plainExt with inLocal := true })).wf = false := by decide
theorem test_wf_cvt_pair : (Instr.cvt .f32 .f32 1 2).wf = false := by decide
theorem test_wf_pack_pair : (Instr.pack .f16 .i32 1 2).wf = false := by decide
theorem test_wf_unpack_pair : (Instr.unpack .n32 .i8 1 2).wf = false := by decide
theorem test_wf_pack_group : (Instr.pack .e2m1 .f32 1 121).wf = false := by decide
theorem test_wf_unpack_group : (Instr.unpack .f32 .e2m1 121 1).wf = false := by decide
theorem test_wf_cpy_triple : (Instr.cpy 1 62).wf = false := by decide
theorem test_wf_quote_pair : (Instr.quote 63 1 true).wf = false := by decide
theorem test_wf_getsr_name : (Instr.getsr 64 1).wf = false := by decide

/-! ### Decoding: words written out from 03 and the examples of 20 to 24 -/

theorem test_decode_via : decode 0x2020C085 none = .ok (.add 3 1 (.sreg 5)) := by decide
theorem test_decode_via_literal : decode 0x22A2C5FF (some 0xF80000FF) = .ok (.and 11 11 (.lit 255)) := by decide
theorem test_decode_vib : decode 0x24608048 none = .ok (.rol 2 0 (.const 8)) := by decide
theorem test_decode_sia : decode 0x32C58B17 none = .ok (.orS 22 22 (.reg 23)) := by decide
theorem test_decode_sib : decode 0x3400C184 none = .ok (.andnS 3 3 (.reg 4)) := by decide
theorem test_decode_float : decode 0x4000C082 none = .ok (.fadd 3 1 2) := by decide
theorem test_decode_float_halves : decode 0x44C08080 none = .ok (.fabsF16x2 2 1) := by decide
theorem test_decode_load : decode 0x68304003 (some 0) = .ok (.ld .b64 6 4 0 none) := by decide
theorem test_decode_load_ext : decode 0x68184002 (some 0xF8040000) =
    .ok (.ld .b32 3 4 0 (some { plainExt with rcount := 2 })) := by decide
theorem test_decode_atom : decode 0x70294FE0 (some 0xFEC00000) =
    .ok (.atom .addB32 5 20 127 (some { plainExt with order := .acqrel, scope := .die })) := by decide
theorem test_decode_fence : decode 0x80400019 none = .ok (.fence .acqrel 3 .gang) := by decide
theorem test_decode_bar : decode 0x84014302 none = .ok (.barinit 2 5 6) := by decide
theorem test_decode_wait : decode 0x88028309 none = .ok (.waitc .eq false 10 6 9) := by decide
theorem test_decode_waitn : decode 0x8C00FFC0 none = .ok (.waitn 0 0 31 31) := by decide
theorem test_decode_copy : decode 0x90060A00 none = .ok (.cpy 24 20) := by decide
theorem test_decode_matrix : decode 0x94000280 none = .ok (.mma 5) := by decide
theorem test_decode_launch : decode 0x98010286 none = .ok (.launch 4 5 6) := by decide
theorem test_decode_rep : decode 0xF4350000 none = .ok (.rep 3 1 1 0) := by decide
theorem test_decode_misc : decode 0x00800009 none = .ok (.trap 9) := by decide
theorem test_decode_elect : decode 0x01004000 none = .ok (.elect 1) := by decide
theorem test_decode_park : decode 0x01808000 none = .ok (.park 2) := by decide
theorem test_decode_getsr : decode 0x01C04042 none = .ok (.getsr 1 66) := by decide
theorem test_decode_setsr : decode 0x01E000C7 none = .ok (.setsr 71 1) := by decide
theorem test_decode_tlbi : decode 0x01A00200 none = .ok (.tlbi 4 false) := by decide
theorem test_decode_wbase : decode 0x01200002 none = .ok (.wbase 2) := by decide
theorem test_decode_brs : decode 0x08408005 none = .ok (.brs .nz 1 5) := by decide
theorem test_decode_loop : decode 0x1C1C0005 none = .ok (.loop (.reg 7) 5) ∧ decode 0x1E100001 none = .ok (.loop (.imm 4) 1) := by
  decide
theorem test_decode_literal_word : decode 0xF8000000 none = .error .literalWord := by decide
/-- R61: misc words with a field that must be 0. -/
theorem test_decode_reserved_field : (decode 0x00C00080 none).isOk = false := by decide

/-- The second word in memory follows the first (R55). -/
theorem test_table_word : decodeTableWord 64 (0x22A2C5FF + 0xF80000FF * 2 ^ 32) = some (.and 11 11 (.lit 255)) := by decide

/-! ### A machine to step: one warp of 16 lanes on core 0 of die 0, with 1024 bytes of local memory and page tables that map
addresses below 4 GiB to die 0's memory -/

def warp0 : Warp :=
  Warp.start { die := 0, asid := 1, cluster := 0, core := 0, partition := 0, slot := 0, gang := 1, member := 0, index := 0 } 16 64
    0x1000

def frame0 : Cur :=
  { warp := 0, lanes := 0xFFFF, cands := 0xFFFF, pc := 0x1000, trapPc := 0x1000, nextPc := 0x1004, priv := false, inRep := false }

/-- The same with one lane. -/
def frame1 : Cur := { frame0 with lanes := 1 }

def ctx1 : Ctx := { Ctx.unbound with bound := true, region := [0], trapvec := 0x4000, ptbase := 0x100000 }

def gang1 : Gang := { fetchGang 7 with localBytes := 1024 }

def stateOf (c : Cur) (w : Warp) : State :=
  { State.reset with mem := [(0x100000, 1), (0x100002, 0x20), (0x200000, 0xF)], warps := [(0, w)], gangs := [(1, gang1)],
                     clusters := [(0, { Cluster.idle with asid := some 1, gated := false })], ctxs := [(1, ctx1)],
                     host := { HostIf.atReset with clustersUp := 24 }, cur := some c, nextId := 10 }

/-- The state after. -/
def next (o : Host.Outcome State Fault Refusal) : State :=
  match o with
  | .next s => s
  | .fault _ | .refused _ => State.reset

/-- The warp after. -/
def after (o : Host.Outcome State Fault Refusal) : Warp := ((next o).warp 0).getD warp0

/-- The warp after one instruction of `warp0` with registers set in lane 0. -/
def stepV (i : Instr) (l : List (Nat × Word)) : Warp :=
  after (exec i (stateOf frame0 { warp0 with vregs := l.map fun e => (64 * e.1, e.2) }))

/-- The same with scalar registers set. -/
def stepS (i : Instr) (l : List (Nat × Xword)) : Warp := after (exec i (stateOf frame0 { warp0 with sregs := l }))

def supWarp : Warp := { warp0 with priv := true, tlanes := 0xFFFF, trappc := 0x2000 }

def supFrame : Cur := { frame0 with priv := true }

/-! ### Integers (21 to 24) -/

theorem test_add_wraps : (stepV (.add 3 1 (.const 5)) [(1, 0xFFFFFFFE)]).v 3 0 = 3 := by decide
theorem test_sub_borrows : (stepS (.subS 3 0 (.const 1)) []).s 3 = 0xFFFFFFFFFFFFFFFF := by decide
theorem test_mul_low : (stepV (.mul 3 1 (.reg 2)) [(1, 0x10001), (2, 0x10000)]).v 3 0 = 0x10000 := by decide
theorem test_mulhi_signed : (stepV (.mulhiI 3 1 (.reg 2)) [(1, 0xFFFFFFFF), (2, 0xFFFFFFFF)]).v 3 0 = 0 := by decide
theorem test_mulhi_unsigned : (stepV (.mulhiN 3 1 (.reg 2)) [(1, 0xFFFFFFFF), (2, 0xFFFFFFFF)]).v 3 0 = 0xFFFFFFFE := by decide
theorem test_mad_adds_d : (stepV (.mad 3 3 (.reg 3)) [(3, 5)]).v 3 0 = 30 := by decide
theorem test_min_signed : (stepV (.minI 3 1 (.const 1)) [(1, 0x80000000)]).v 3 0 = 0x80000000 := by decide
theorem test_max_unsigned : (stepV (.maxN 3 1 (.const 1)) [(1, 0x80000000)]).v 3 0 = 0x80000000 := by decide
theorem test_absd_signed : (stepV (.absdI 3 1 (.const 1)) [(1, 0xFFFFFFFF)]).v 3 0 = 2 := by decide
theorem test_xor_flips : (stepS (.xorS 11 11 (.const 1)) [(11, 3)]).s 11 = 2 := by decide
theorem test_shl_width : (stepV (.shl 3 1 (.const 32)) [(1, 1)]).v 3 0 = 0 := by decide
theorem test_shr_example : (stepV (.shr 3 1 (.const 4)) [(1, 0x80000010)]).v 3 0 = 0x08000001 := by decide
theorem test_sra_sign : (stepS (.sraS 3 3 (.const 100)) [(3, 0x8000000000000000)]).s 3 = 0xFFFFFFFFFFFFFFFF := by decide
theorem test_rol_wraps : (stepV (.rol 3 1 (.const 33)) [(1, 0x80000000)]).v 3 0 = 1 := by decide
theorem test_bfi_keeps : (stepV (.bfi 3 1 (.lit 0x404)) [(1, 0x12), (3, 0xFFF)]).v 3 0 = 0xF2F := by decide
theorem test_bfx_sign : (stepV (.bfxI 3 1 (.lit 0x404)) [(1, 0x80)]).v 3 0 = 0xFFFFFFF8 := by decide
theorem test_clz_zero : (stepS (.clzS 3 0) []).s 3 = 64 := by decide
theorem test_brev_ends : (stepV (.brev 3 1) [(1, 0x80000000)]).v 3 0 = 1 := by decide +kernel
theorem test_popc : (stepV (.popc 3 1) [(1, 0xF0000001)]).v 3 0 = 5 := by decide
theorem test_div_overflow : (stepV (.divI 3 1 (.reg 2)) [(1, 0x80000000), (2, 0xFFFFFFFF)]).v 3 0 = 0x80000000 := by decide
theorem test_div_toward_zero : (stepV (.divI 3 1 (.const 2)) [(1, 0xFFFFFFFD)]).v 3 0 = 0xFFFFFFFF := by decide
theorem test_rem_by_zero : (stepV (.remN 3 1 (.const 0)) [(1, 7)]).v 3 0 = 7 := by decide
theorem test_cmp_signed : ((stepV (.cmp .ltI 1 1 (.const 0)) [(1, 0xFFFFFFFF)]).p 1).getLsbD 0 = true := by decide
theorem test_cmp_unsigned : ((stepV (.cmp .ltN 1 1 (.const 1)) [(1, 0xFFFFFFFF)]).p 1) = 0xFFFE := by decide
theorem test_sel_inverted : (stepV (.sel 0 true 3 1 (.const 9)) [(1, 7)]).v 3 0 = 9 := by decide
theorem test_mov_s0_discarded : (stepS (.movS 0 (.const 9)) []).s 0 = 0 := by decide

/-! ### Floats (04, 22) -/

theorem test_fadd_tie_even : (stepV (.fadd 3 1 2) [(1, 0x3F800000), (2, 0x33800000)]).v 3 0 = 0x3F800000 := by decide
theorem test_fsub_zero_sign : (stepV (.fsub 3 1 1) [(1, 0x3F800000)]).v 3 0 = 0 := by decide
theorem test_fmul_subnormal : (stepV (.fmul 3 1 2) [(1, 0x00800000), (2, 0x3F000000)]).v 3 0 = 0x00400000 := by decide
/-- (1 + 2^-23)^2 - (1 + 2^-22) is 2^-46, which a rounded product would lose. -/
theorem test_fma_once : (stepV (.fma 3 1 1) [(1, 0x3F800001), (3, 0xBF800002)]).v 3 0 = 0x28800000 := by decide
theorem test_fadd_halves : (stepV (.faddF16x2 3 1 1) [(1, 0x3C004000)]).v 3 0 = 0x40004400 := by decide
theorem test_fmin_zeros : (stepV (.fmin 3 1 2) [(1, 0), (2, 0x80000000)]).v 3 0 = 0x80000000 := by decide
theorem test_fmax_nan : (stepV (.fmax 3 1 2) [(1, 0x7FC00001), (2, 0x3F800000)]).v 3 0 = 0x3F800000 := by decide
theorem test_fneg_nan : (stepV (.fneg 3 1) [(1, 0x7F800001)]).v 3 0 = 0xFF800001 := by decide
theorem test_frnd_tie : (stepV (.frnd .ne 3 1) [(1, 0x40200000)]).v 3 0 = 0x40000000 := by decide
theorem test_fdot2 : (stepV (.fdot2F16 3 1 1) [(1, 0x40003C00), (3, 0x3F800000)]).v 3 0 = 0x40C00000 := by decide
theorem test_fcmp_unord : ((stepV (.fcmp .unord 1 1 1) [(1, 0x7FC00000)]).p 1) = 1 := by decide
theorem test_frcp_zero : (stepV (.frcp 3 1) [(1, 0x80000000)]).v 3 0 = 0xFF800000 := by decide
theorem test_cvt_f16 : (stepV (.cvt .f16 .f32 3 1) [(1, 0x3F800000)]).v 3 0 = 0x3C00 := by decide +kernel
theorem test_pack_order : (stepV (.pack .i8 .i32 3 4) [(4, 1), (5, 2), (6, 3), (7, 4)]).v 3 0 = 0x04030201 := by decide +kernel
theorem test_unpack_sign : (stepV (.unpack .i32 .i8 4 1) [(1, 0x8000)]).v 5 0 = 0xFFFFFF80 := by decide

/-! ### Lanes and predicates (23, 24) -/

/-- v1 of lane i is 10 + i in lanes 0 to 2. -/
def stepL (i : Instr) : Warp :=
  after (exec i (stateOf { frame0 with lanes := 7 } { warp0 with vregs := [(64, 10), (65, 11), (66, 12), (128, 18)], pregs := [(1, 6)] }))

theorem test_shfl_width : (stepL (.shfl 3 1 2)).v 3 0 = 12 := by decide
theorem test_bcast : (stepL (.bcast 3 1 1)).v 3 2 = 11 := by decide
theorem test_slup : [(stepL (.slup 3 1 1)).v 3 0, (stepL (.slup 3 1 1)).v 3 1] = [0, 10] := by decide
theorem test_sldn : (stepL (.sldn 3 1 1)).v 3 1 = 12 := by decide
theorem test_compress : [(stepL (.compress 3 1 1)).v 3 0, (stepL (.compress 3 1 1)).v 3 1] = [11, 12] := by decide
theorem test_expand : [(stepL (.expand 3 1 1)).v 3 0, (stepL (.expand 3 1 1)).v 3 1] = [0, 10] := by decide
theorem test_scan : (stepL (.scanAddI32 3 1)).v 3 1 = 21 := by decide
theorem test_reduce : (stepL (.reduceMaxI32 3 1)).v 3 0 = 12 := by decide
theorem test_match_rank : (stepL (.matchRank 3 2)).v 3 2 = 1 := by decide
theorem test_vote_ballot : (stepL (.voteBallot 3 1)).s 3 = 6 := by decide
theorem test_plog_andn : (stepL (.plog .andn 2 0 1)).p 2 = 1 := by decide
theorem test_pcnt : (stepL (.pcnt 3 1)).s 3 = 2 := by decide
theorem test_pmov : (stepL (.pmovSFromP 3 1)).s 3 = 6 := by decide
theorem test_elect : (stepL (.elect 2)).p 2 = 1 := by decide

/-! ### Memory and ordering (05, 06) -/

def localExt : MemExt := { plainExt with inLocal := true }

/-- A store to local offset 16 by lane 0. -/
def stored : State := next (exec (.st .b64 1 2 127 (some localExt)) (stateOf frame1
  { warp0 with sregs := [(2, 16)], vregs := [(64, 0x04030201), (128, 0x08070605)] }))

theorem test_st_local : stored.localBytes 1 16 8 = [1, 2, 3, 4, 5, 6, 7, 8] := by decide
theorem test_ld_local : (((next (exec (.ld .i8 3 2 127 (some localExt)) { (stateOf frame1 { warp0 with sregs := [(2, 7)] }) with
    lmem := [(2 ^ 24 + 7, 0x80)] })).warp 0).getD warp0).loads.flatMap LoadOp.ready =
    [{ reg := 3, lane := 0, value := 0xFFFFFF80 }] := by decide
theorem test_atom_local : (next (exec (.atom .incN32 3 2 127 (some localExt)) { (stateOf frame1
    { warp0 with vregs := [(192, 5)] }) with lmem := [(2 ^ 24, 5), (2 ^ 24 + 1, 0), (2 ^ 24 + 2, 0), (2 ^ 24 + 3, 0)] })).localByte 1 0 = 0 := by
  decide
theorem test_st_released : (next (exec (.st .b32 1 2 127 (some { plainExt with order := .rel, scope := .die })) (stateOf frame1
    { warp0 with sregs := [(2, 0x8000)], vregs := [(64, 0x04030201)] }))).bytes 0x8000 4 = [1, 2, 3, 4] := by decide
theorem test_atom_global : (next (exec (.atom .addB32 1 2 127 none) (stateOf frame1
    { warp0 with sregs := [(2, 0x100000)], vregs := [(64, 5)] }))).byte 0x100000 = 6 := by decide
theorem test_ld_misaligned : (after (exec (.ld .b32 1 2 127 none) (stateOf frame1 { warp0 with sregs := [(2, 0x8002)] }))).trapcause = 4 := by
  decide
theorem test_ld_unmapped : let w := after (exec (.ld .b32 1 2 127 none) (stateOf frame1 { warp0 with sregs := [(2, 2 ^ 33)] }))
    (w.trapcause, w.trapinfo, w.trappc) = (5, 2 ^ 33, 0x1000) := by decide
theorem test_fence_rel : ((after (exec (.fence .rel 0 .die) (stateOf frame1 warp0))).lane 0).relFence = some .die := by decide
theorem test_waitn_stops : (after (exec (.waitn 31 31 0 31) (stateOf frame0 { warp0 with copies := 1 }))).stop = .waitn 31 31 0 31 := by
  decide
theorem test_waitc_holds : (after (exec (.waitc .gtN true 3 2 0) (stateOf frame1 { warp0 with sregs := [(2, 0x100000)] }))).s 3 = 0x200001 := by
  decide
theorem test_waitc_arms : (after (exec (.waitc .eq false 3 2 0) (stateOf frame1 { warp0 with sregs := [(2, 0x100000)] }))).stop =
    .monitor 0x100000 false := by decide

/-! ### Barriers, control flow, exceptions (01, 11, 15) -/

theorem test_barinit_mask : (after (exec (.barinit 2 5 0) (stateOf frame0 { warp0 with sregs := [(5, 2)] }))).trapinfo = 2 + 4 * 16 := by
  decide
theorem test_arrive_unready : (after (exec (.arrive 3 2) (stateOf frame0 warp0))).trapcause = 0x0A := by decide

theorem test_bra_target : ((after (exec (.bra 0x3FFFFFF) (stateOf frame0 warp0))).lane 0).pc = 0x1000 := by decide
theorem test_brs_falls : ((stepS (.brs .nz 1 5) []).lane 0).pc = 0x1004 := by decide
theorem test_brp_splits : let w := after (exec (.brp 1 false 4) (stateOf frame0 { warp0 with pregs := [(1, 2)] }))
    ((w.lane 0).pc, (w.lane 1).pc) = (0x1004, 0x1014) := by decide
theorem test_call_links : (stepS (.call 1) []).s 63 = 0x1004 := by decide
theorem test_jmp_misaligned : (stepS (.jmp 0 1) [(1, 0x2002)]).trapcause = 2 := by decide
theorem test_enrol : ((stepS (.enrol 2 3) []).mask 2) = { enrolled := 0xFFFF, arrived := 0, pc := 0x1010 } := by decide
theorem test_park_waits : ((after (exec (.park 2) (stateOf frame1
    { warp0 with masks := [(2, { enrolled := 3, arrived := 0, pc := 0x1000 })] }))).lane 0).stat = .parked 2 := by decide
theorem test_loop_pushes : (stepS (.loop (.imm 4) 1) []).loops.map (fun e => (e.start, e.stop, e.count)) = [(0x1004, 0x1008, 4)] := by
  decide
theorem test_lexit_empty : (stepS .lexit []).trapinfo = 1 := by decide
theorem test_wbase_refuses : (stepS (.wbase 2) []).trapcause = 0x10 := by decide
theorem test_exit : ((stepS .exit []).lane 0).stat = .exited ∨ (next (exec .exit (stateOf frame0 warp0))).warp 0 = none := by decide +kernel
theorem test_trap : let w := stepS (.trap 9) []
    (w.trapcause, w.trapinfo, w.trappc, w.priv, (w.lane 0).pc) = (0x0E, 9, 0x1004, true, 0x4000) := by decide
theorem test_brk_at_itself : (stepS (.brk 2) []).trappc = 0x1000 := by decide
theorem test_eret : let w := after (exec .eret (stateOf supFrame supWarp))
    (w.priv, w.tlanes, (w.lane 0).pc) = (false, 0, 0x2000) := by decide
theorem test_eret_user : (stepS .eret []).trapcause = 3 := by decide
theorem test_getsr_lane : (stepS (.getsr 3 0) []).v 3 5 = 5 := by decide
theorem test_setsr_reserved : (stepS (.setsr 14 1) [(1, 8)]).trapcause = 1 := by decide
theorem test_yield : 64 ≤ ((after (exec .yield (stateOf frame1 warp0))).lane 1).age := by decide

/-! ### Commands, power and the host (09, 14, 16, 19) -/

theorem test_cpy_queues : let s := next (exec (.cpy 24 20) (stateOf frame0 { warp0 with sregs := [(20, 0x8000), (21, 0x9000), (22, 64)] }))
    ((s.cluster 0).cq.map CopyCmd.kind, (s.warp 0).map Warp.copies) = ([.linear 0x8000 0x9000 64 false false], some 1) := by decide
theorem test_cpy_zero : (stepS (.cpy 24 20) [(20, 0x8000)]).trapcause = 0x0B := by decide
theorem test_mma_param : (stepS (.mma 5) [(5, 1020)]).trapinfo = 1 + 256 * 0xFF := by decide
theorem test_launch_no_queue : (after (exec (.launch 4 5 6) (stateOf frame1 { warp0 with sregs := [(5, 0x8000)] }))).s 4 = 3 := by decide
theorem test_next_no_table : (stepS (.next 7 2) []).trapinfo = 3 := by decide
theorem test_pcap_low : (next (exec (.pcapWrite 1199) State.reset)).power.caprej = true := by decide
theorem test_prate_swapped : (next (exec (.prateWrite (0xFF + 0x100 * 2 ^ 32)) State.reset)).power.rmin = 0x1000 := by decide
theorem test_reserved_op : (next (exec (.mailboxReservedOp [0x7F]) State.reset)) = State.reset := by decide
theorem test_departure : ((next (exec (.departure 3) State.reset)).gone 3, (next (exec (.departure 3) State.reset)).gone 2) = (true, false) := by
  decide +kernel

/-! ### Witnesses: states and operands that meet the hypotheses of the statements -/

theorem issues_stateOf (c : Cur) (w : Warp) (h : c.warp = 0) : Issues (stateOf c w) c w :=
  ⟨rfl, by simp [stateOf, State.warp, h, mfind]⟩

theorem issues0 : Issues (stateOf frame0 warp0) frame0 warp0 := issues_stateOf frame0 warp0 rfl

/-- A warp of user mode issues, and may use the registers named. -/
def Usable (names : List Nat) : Prop := ∃ s c w, Issues s c w ∧ w.free names ∧ w.priv = false

theorem usable0 : Usable [3, 1, 2] := ⟨_, _, _, issues0, by unfold Warp.free; decide, rfl⟩

theorem witness_BitwiseMembers : Usable ([(3 : VReg).toNat, (1 : VReg).toNat] ++ vopNames (.reg 2)) := usable0
theorem witness_SumsAndProducts : Usable ([(3 : VReg).toNat, (1 : VReg).toNat] ++ vopNames (.reg 2)) := usable0
theorem witness_ShiftsAndRotates : Usable ([(3 : VReg).toNat, (1 : VReg).toNat] ++ vopNames (.reg 2)) := usable0
theorem witness_BitFieldsAndCounts : Usable ([(3 : VReg).toNat, (1 : VReg).toNat] ++ vopNames (.reg 2)) := usable0
/-- The last register of the allocation is usable. -/
theorem witness_CompareMoveSelect : Usable ([(63 : VReg).toNat, (1 : VReg).toNat] ++ vopNames (.const 2)) :=
  ⟨_, _, _, issues0, by unfold Warp.free; decide, rfl⟩
theorem witness_SignBitMembers : Usable [(3 : VReg).toNat, (1 : VReg).toNat] := ⟨_, _, _, issues0, by unfold Warp.free; decide, rfl⟩
theorem witness_F32Arithmetic : Usable [(3 : VReg).toNat, (1 : VReg).toNat, (2 : VReg).toNat] := usable0
theorem witness_PackedHalves : Usable [(3 : VReg).toNat, (1 : VReg).toNat, (2 : VReg).toNat] := usable0
theorem witness_LaneMoves : Usable [(3 : VReg).toNat, (1 : VReg).toNat, (2 : VReg).toNat] := usable0
theorem witness_ReduceAndScan : Usable [(3 : VReg).toNat, (1 : VReg).toNat] := witness_SignBitMembers
theorem witness_MatchAndVote : Usable [(3 : VReg).toNat, (1 : VReg).toNat] := witness_SignBitMembers
theorem witness_PredicateMembers : Usable [] := ⟨_, _, _, issues0, by unfold Warp.free; decide, rfl⟩

/-- Division: by zero, the signed overflow, and the ordinary case. -/
theorem witness_DivisionLaw : Usable [3, 1, 2] ∧ (0x80000000 : Word).toInt = -2 ^ 31 ∧ (0xFFFFFFFF : Word).toInt = -1 ∧
    (2 : Word) ≠ 0 ∧ ¬((5 : Word).toInt = -2 ^ 31 ∧ (2 : Word).toInt = -1) := ⟨usable0, by decide⟩

/-- fmin: one NaN, two NaNs, and zeros of two signs, where -0 goes first. -/
theorem witness_FloatMinMax : Usable [3, 1, 2] ∧ Fmt.f32.value 0x7FC00000 = .nan ∧ Fmt.f32.value 0x80000000 ≠ .nan ∧
    (Fmt.f32.value 0x80000000).isNeg = true ∧ (Fmt.f32.value 0).isNeg = false := ⟨usable0, by decide⟩

/-- A finite number, a zero, and a half, which lies between two integers. -/
theorem witness_FloatOperationsExact : (FVal.fin true 5 (-1)).isFin = true ∧ (FVal.fin false 0 0).isFin = true ∧
    (FVal.fin true 5 (-1)).rat = -5 / 2 ∧ (FVal.fin false 0 0).rat = 0 ∧ ((FVal.fin false 1 0).add (.fin true 1 0)).rat = 0 := by
  refine ⟨by decide, by decide, by norm_num [FVal.rat], by norm_num [FVal.rat], ?_⟩
  have h : (FVal.fin false 1 0).add (.fin true 1 0) = .fin false 0 0 := by decide
  rw [h]
  norm_num [FVal.rat]

/-- The largest finite number of f32 is within the bound; of e4m3, 450 lies beyond it by less than half a step, 464 by exactly half a
step, and 480 by more; f16 has infinities, and 65520 lies beyond its largest number by half a step; a format without NaN. -/
theorem witness_RoundingNearest : (Fmt.f32.value Fmt.f32.maxCode).isFin = true ∧ Fmt.f32.maxCode < 2 ^ (Fmt.f32.magBits + 1) ∧
    |(Fmt.f32.value Fmt.f32.maxCode).rat| ≤ (Fmt.f32.value Fmt.f32.maxCode).rat ∧
    (let top := (Fmt.e4m3.value Fmt.e4m3.maxCode).rat
     let half := (top - (Fmt.e4m3.value (Fmt.e4m3.maxCode - 1)).rat) / 2
     (top < |(FVal.fin false 225 1).rat| ∧ |(FVal.fin false 225 1).rat| < top + half) ∧ |(FVal.fin true 29 4).rat| = top + half ∧
       top + half < |(FVal.fin false 15 5).rat|) ∧
    (let top := (Fmt.f16.value Fmt.f16.maxCode).rat
     Fmt.f16.hasInf = true ∧ top + (top - (Fmt.f16.value (Fmt.f16.maxCode - 1)).rat) / 2 ≤ |(FVal.fin false 4095 4).rat|) ∧
    Fmt.e2m1.hasNan = false := by
  have h : Fmt.f32.value Fmt.f32.maxCode = .fin false 16777215 104 := by decide
  have a : Fmt.e4m3.value Fmt.e4m3.maxCode = .fin false 14 5 := by decide
  have b : Fmt.e4m3.value (Fmt.e4m3.maxCode - 1) = .fin false 13 5 := by decide
  have p : Fmt.f16.value Fmt.f16.maxCode = .fin false 2047 5 := by decide
  have q : Fmt.f16.value (Fmt.f16.maxCode - 1) = .fin false 2046 5 := by decide
  rw [h, a, b, p, q]
  norm_num [FVal.rat, FVal.isFin, Fmt.hasInf, Fmt.hasNan]
  decide

/-- A NaN, a negative number, a number without a special value, and the smallest subnormal, whose reciprocal passes the largest number. -/
theorem witness_SfuMembers : Usable [(3 : VReg).toNat, (1 : VReg).toNat] ∧ Fmt.f32.value (0xFFC00000 : Word).toNat = .nan ∧
    (0xBF800000 : Word).toInt < 0 ∧ (0xBF800000 : Word) ≠ 0x80000000 ∧
    Fmt.f32.value (0x40400000 : Word).toNat = .fin false 12582912 (-22) ∧
    (∀ fn ∈ [SfuFn.rcp, .rsq, .sqrt, .exp2, .log2, .sin, .cos, .tanh], sfuSpecial fn (.fin false 12582912 (-22)) = none) ∧
    (FVal.fin false 12582912 (-22)).rat ≤ (FVal.fin false 16777215 104).rat ∧
    Fmt.f32.value (1 : Word).toNat = .fin false 1 (-149) ∧ (FVal.fin false 16777215 104).rat * (FVal.fin false 1 (-149)).rat < 1 :=
  ⟨witness_SignBitMembers, by decide, by decide, by decide, by decide, by decide, by norm_num [FVal.rat], by decide, by norm_num [FVal.rat]⟩

/-- CVTMODE 0 takes no draw; a stochastic mode does; eight registers up to v63 are packed and unpacked. A NaN, an infinity, a number within
f16's range and one beyond; one that lies between two codes; the two kinds of type. -/
theorem witness_Conversions : Usable [(3 : VReg).toNat, (1 : VReg).toNat] ∧ Usable ((3 : VReg).toNat :: groupNames 56 (packCount .e2m1)) ∧
    Usable (groupNames 56 (packCount .e2m1) ++ [(3 : VReg).toNat]) ∧ takesDraw .bf16 .f32 (cvtField 0 .bf16) = false ∧
    (FVal.inf true).isFin = false ∧ FVal.inf true ≠ .nan ∧ (FVal.fin false 1 15).rat ≤ (FVal.fin false 2047 5).rat ∧
    (FVal.fin false 2047 5).rat < (FVal.fin false 1 16).rat ∧ Fmt.f16.value Fmt.f16.maxCode = .fin false 2047 5 ∧
    (Fmt.f16.value 0x3C00 = .fin false 1024 (-10) ∧ Fmt.f16.value 0x3C01 = .fin false 1025 (-10) ∧ 0x3C00 < Fmt.f16.maxCode ∧
      (FVal.fin false 1024 (-10)).rat ≤ (FVal.fin false 2049 (-11)).rat ∧ (FVal.fin false 2049 (-11)).rat < (FVal.fin false 1025 (-10)).rat) ∧
    (Ty.f16.fmt = some .f16 ∧ Ty.i8.int = some (8, true) ∧ Ty.n32.int = some (32, false)) ∧
    ∃ x : Xword, takesDraw .bf16 .f32 (cvtField x .bf16) = true := by
  refine ⟨witness_SignBitMembers, ⟨_, _, _, issues0, ?_, rfl⟩, ⟨_, _, _, issues0, ?_, rfl⟩, by decide, by decide, by decide, by norm_num [FVal.rat],
    by norm_num [FVal.rat], by decide, ⟨by decide, by decide, by decide, by norm_num [FVal.rat], by norm_num [FVal.rat]⟩, by decide,
    0x0777777777777777, ?_⟩
  · unfold Warp.free; decide
  · unfold Warp.free; decide
  · decide

/-- Addresses of local memory: the frame of lane 0 at offset 1016, the last 8 bytes of the region. -/
def localWarp : Warp := { warp0 with sregs := [(2, 1016)] }

theorem witness_LocalLoadStore : ∃ s c w, Issues s c w ∧ w.free (groupNames 3 (Ty.b64).regs ++ offsetNames 127) ∧ w.mayAccess c.lanes ∧
    localExt.inLocal = true ∧ (Ty.b64).isRegType = true ∧ s.localFault w 8 (w.addrs c.lanes 2 127 localExt 8) = none ∧
    w.loads.length < 31 ∧ w.storesFull = false :=
  ⟨_, _, _, issues_stateOf frame1 localWarp rfl, by unfold Warp.free; decide, by unfold Warp.mayAccess; decide, rfl, rfl,
    by decide, by decide, by decide⟩

/-- The same for two lanes that name different words, at offsets 8 and 16. -/
theorem witness_LocalAtomics : ∃ s c w, Issues s c w ∧ w.free (groupNames 3 4 ++ offsetNames 1) ∧ w.mayAccess c.lanes ∧
    s.localFault w 8 (w.addrs c.lanes 2 1 localExt 8) = none ∧ w.loads.length < 31 ∧ w.storesFull = false ∧
    ∀ l m, c.lanes.getLsbD l = true → c.lanes.getLsbD m = true → l ≠ m →
      (w.addr 2 1 localExt 8 l).toNat ≠ (w.addr 2 1 localExt 8 m).toNat := by
  refine ⟨_, _, _, issues_stateOf { frame0 with lanes := 3 } { warp0 with sregs := [(2, 8)], vregs := [(65, 8)] } rfl, ?_, ?_, ?_,
    ?_, ?_, ?_⟩
  · unfold Warp.free; decide
  · unfold Warp.mayAccess; decide
  · decide
  · decide
  · decide
  · have two : ∀ l, (3 : LaneSet).getLsbD l = true → l = 0 ∨ l = 1 := by
      intro l h
      by_contra hc
      have hl : 2 ≤ l := by omega
      have : (3 : LaneSet).getLsbD l = false := by
        rw [BitVec.getLsbD]
        show Nat.testBit 3 l = false
        exact Nat.testBit_lt_two_pow (lt_of_lt_of_le (by decide : 3 < 2 ^ 2) (Nat.pow_le_pow_right (by decide) hl))
      rw [this] at h
      exact Bool.noConfusion h
    intro l m hl hm hne
    rcases two l hl with rfl | rfl <;> rcases two m hm with rfl | rfl
    · exact absurd rfl hne
    · decide
    · decide
    · exact absurd rfl hne

/-- What the checks answered. -/
def goState (x : Checks (List Place)) : State :=
  match x with
  | .go s _ => s
  | .ends _ => State.reset

def noLeaf : Leaf :=
  { asid := 0, va := 0, level := 0, pa := 0, canWrite := false, canFetch := false, exported := false, fmt := 0, side := 0 }

def goPlace (x : Checks (List Place)) : Place :=
  match x with
  | .go _ [p] => p
  | .go _ _ | .ends _ => { lane := 0, va := 0, pa := 0, window := .unused, leaf := noLeaf }

/-- Lane 0 accesses address 0x8000. -/
def farWarp : Warp := { warp0 with sregs := [(2, 0x8000)] }

theorem noUpdates_of (s : State) (h : ∀ e ∈ s.cores, e.2.uo = []) (die line : Nat) : s.noUpdates die line := by
  intro ck _
  have : (s.core ck).uo = [] := by
    unfold State.core mget
    cases hf : mfind s.cores ck with
    | none => rfl
    | some c => exact h _ (mem_of_mfind hf)
  rw [this]; rfl

theorem reaches0 (want : Want) (n : Nat) (h : (want, n) ∈ [(Want.load, 8), (.store, 8), (.atomic, 8), (.reduce, 4), (.wait, 4)]) :
    let x := (stateOf frame1 farWarp).place farWarp want n false [(0, 0x8000)]
    Reaches (stateOf frame1 farWarp) frame1 farWarp want n 0 false 0x8000 (goState x) (goPlace x) := by
  simp only [List.mem_cons, List.not_mem_nil, or_false, Prod.mk.injEq] at h
  rcases h with ⟨rfl, rfl⟩ | ⟨rfl, rfl⟩ | ⟨rfl, rfl⟩ | ⟨rfl, rfl⟩ | ⟨rfl, rfl⟩ <;>
    exact ⟨by decide, by decide, rfl, by decide, by decide, by decide, by decide, noUpdates_of _ (by decide) _ _⟩

theorem issuesFar : Issues (stateOf frame1 farWarp) frame1 farWarp := issues_stateOf _ _ rfl

theorem farFree : farWarp.free (groupNames 3 4 ++ offsetNames 127) := by unfold Warp.free; decide

theorem farAccess : farWarp.mayAccess frame1.lanes := by unfold Warp.mayAccess; decide

/-- A plain load, a plain store, and a releasing store, from a core that holds nothing. -/
theorem witness_GlobalLoadStore : Issues (stateOf frame1 farWarp) frame1 farWarp ∧
    farWarp.free (groupNames 3 (Ty.b64).regs ++ offsetNames 127) ∧ farWarp.mayAccess frame1.lanes ∧ (Ty.b64).isRegType = true ∧
    farWarp.addr 2 127 (extOf none) 8 0 = 0x8000 ∧
    (∃ v p, Reaches (stateOf frame1 farWarp) frame1 farWarp .load 8 0 (tyFormatted .b64) 0x8000 v p) ∧
    (∃ v p, Reaches (stateOf frame1 farWarp) frame1 farWarp .store 8 0 (tyFormatted .b64) 0x8000 v p ∧
      (v.core farWarp.coreK).holdsDirty = false) ∧
    farWarp.loads.length < 31 ∧ acquireOf (extOf none) = none ∧ farWarp.storesFull = false ∧
    farWarp.releaseScope frame1.lanes (releaseOf (extOf none)) = 0 ∧
    farWarp.releaseScope frame1.lanes (releaseOf (extOf (some { plainExt with order := .rel, scope := .die }))) ≠ 0 :=
  ⟨issuesFar, by unfold Warp.free; decide, farAccess, rfl, by decide, ⟨_, _, reaches0 .load 8 (by decide)⟩,
    ⟨_, _, reaches0 .store 8 (by decide), by decide⟩, by decide, by decide, by decide, by decide, by decide⟩

/-- An atomic, a `red` that the core may hold, and one that goes home at once. -/
theorem witness_GlobalAtomics : Issues (stateOf frame1 farWarp) frame1 farWarp ∧ farWarp.mayAccess frame1.lanes ∧
    farWarp.free (groupNames 3 4 ++ offsetNames 127) ∧ farWarp.loads.length < 31 ∧ farWarp.storesFull = false ∧
    (∃ v p, Reaches (stateOf frame1 farWarp) frame1 farWarp .atomic 8 0 false 0x8000 v p ∧
      (v.core farWarp.coreK).holdsDirty = false ∧ (v.die farWarp.die).pending = []) ∧
    ∃ v p, Reaches (stateOf frame1 farWarp) frame1 farWarp .reduce 4 0 false 0x8000 v p ∧
      (v.core farWarp.coreK).holdsDirty = false ∧ (v.die farWarp.die).pending = [] ∧
      v.redHeld .addB32 false p = true ∧ v.redHeld .incN32 false p = false :=
  ⟨issuesFar, farAccess, farFree, by decide, by decide, ⟨_, _, reaches0 .atomic 8 (by decide), by decide, by decide⟩,
    ⟨_, _, reaches0 .reduce 4 (by decide), by decide, by decide, by decide, by decide⟩⟩

theorem mayInject0 (i m n : Nat) (h : n ≤ 2 ^ 14) : Causeway.atReset.mayInject i m n = true := by
  have k : Causeway.atReset.K i i m = 0 := rfl
  have f : Causeway.atReset.F i i m = 0 := rfl
  simp only [Causeway.mayInject, k, f]
  simpa [Causeway.atReset, Causeway.queuedAt, mget, mfind] using h

theorem witness_GlobalAccessesComplete : Issues (stateOf frame1 farWarp) frame1 farWarp ∧ farWarp.mayAccess frame1.lanes ∧
    farWarp.loads.length < 31 ∧ farWarp.storesFull = false ∧ (stateOf frame1 farWarp).mayPay farWarp ∧
    farWarp.free (offsetNames 127) ∧ farWarp.free (groupNames 3 4) ∧
    ∃ v ps, (stateOf frame1 farWarp).place farWarp .store 8 false (farWarp.addrs frame1.lanes 2 127 (extOf none) 8) = .go v ps ∧
      brokenBlock ps = none :=
  ⟨issuesFar, farAccess, by decide, by decide, ⟨rfl, by decide, fun j n h => mayInject0 _ j n (by omega)⟩, by unfold Warp.free; decide,
    by unfold Warp.free; decide, _, _, (reaches0 .store 8 (by decide)).place, by decide⟩

def addrWarp (x : Xword) : Warp := { warp0 with sregs := [(2, x)] }

/-- The end of the local region, a misaligned local offset, the first unused address, an absent page, and a malformed entry. -/
theorem witness_MemoryFaults : Issues (stateOf frame1 warp0) frame1 warp0 ∧ warp0.free (groupNames 3 4 ++ offsetNames 127) ∧
    (stateOf frame1 warp0).regionBytes warp0.gang = 1024 ∧
    ((addrWarp 1024).addr 2 127 localExt 4 0).toNat = 1024 ∧ ((addrWarp 1022).addr 2 127 localExt 4 0).toNat % 4 ≠ 0 ∧
    frame1.lanes = laneBit 0 ∧ 2 ^ 56 + 2 ^ 55 ≤ ((addrWarp (2 ^ 56 + 2 ^ 55)).addr 2 127 plainExt 4 0).toNat ∧
    (stateOf frame1 warp0).translate warp0.coreK warp0.asid (2 ^ 32) = (stateOf frame1 warp0, .absent) ∧
    let s := { stateOf frame1 warp0 with mem := [(0x100000, 0x41)] }
    s.translate warp0.coreK warp0.asid 0 = (s, .malformed) :=
  ⟨issues_stateOf _ _ rfl, by unfold Warp.free; decide, rfl, by decide⟩

/-- A page that a TLB holds. -/
def someLeaf : Leaf := { noLeaf with asid := 1, level := 1 }

/-- A core's TLB that holds a page; a die's that does, and the core's not; a walk that finds a leaf and one that finds none. Entries: a
table, a leaf, an absent one, one that may be replayed, one with a reserved bit, and one where no memory is. -/
theorem witness_Translation :
    (({ stateOf frame1 warp0 with cores := [(0, { Core.idle with tlb := [someLeaf] })] } : State).core 0).tlb.find?
      (fun l => l.covers 1 0x8000) = some someLeaf ∧
    (let s := (stateOf frame1 warp0).setDie 0 { Die.atReset with tlb := [someLeaf] }
     (s.core 0).tlb.find? (fun l => l.covers 1 0x8000) = none ∧ (s.die (0 / 32)).tlb.find? (fun l => l.covers 1 0x8000) = some someLeaf) ∧
    ((stateOf frame1 warp0).core 0).tlb = [] ∧ ((stateOf frame1 warp0).die 0).tlb = [] ∧
    (∃ l, (stateOf frame1 warp0).walk 0 1 0x8000 = .leaf l) ∧ (∀ l, (stateOf frame1 warp0).walk 0 1 (2 ^ 32) ≠ .leaf l) ∧
    (let s := stateOf frame1 warp0
     memoryExists 0x100000 16 = true ∧ s.num 0x100000 8 % 2 = 1 ∧ (s.num 0x100000 8).testBit 1 = false ∧ (s.num 0x100000 8).testBit 6 = false ∧
       s.num 0x100000 8 / 2 ^ 52 = 0 ∧ s.num 0x100008 8 = 0 ∧ s.num 0x100000 8 / 2 ^ 7 % 2 ^ 45 * 2 ^ 7 % (16 * 2 ^ 12) = 0 ∧
       s.num 0x200000 8 % 2 = 1 ∧ (s.num 0x200000 8).testBit 1 = true ∧ s.num 0x200010 8 % 2 = 0 ∧ (s.num 0x200010 8).testBit 4 = false ∧
       (0x10 : Nat) % 2 = 0 ∧ (0x10 : Nat).testBit 4 = true ∧ (0x41 : Nat) % 2 = 1 ∧ (0x41 : Nat).testBit 6 = true) ∧
    memoryExists (2 ^ 48 - 8) 16 = false :=
  ⟨by decide, ⟨by decide, by decide⟩, rfl, rfl, ⟨_, rfl⟩, by
    have h : (stateOf frame1 warp0).walk 0 1 (2 ^ 32) = .absent := rfl
    intro l; rw [h]; exact Xlat.noConfusion, by decide, by decide⟩

def oneLoad : LoadOp :=
  { id := 4, dests := [3], ready := [{ reg := 3, lane := 0, value := 7 }], waiting := [], cvtmode := 0, acquire := some (1, .die), kinds := 0xF,
    lost := none }

theorem noPending0 (c : Cur) (w : Warp) : (stateOf c w).noPending := fun _ _ => rfl

theorem witness_CompletionsOfAccesses : (stateOf frame0 { warp0 with loads := [oneLoad] }).noPending ∧
    (let w := { warp0 with loads := [oneLoad] }
     (stateOf frame0 w).warp 0 = some w ∧ oneLoad ∈ w.loads ∧ oneLoad.waiting = [] ∧ oneLoad.lost = none ∧
       (∀ m ∈ w.loads, m.id = oneLoad.id → m = oneLoad) ∧ (∀ r ∈ oneLoad.ready, r.lane < 64) ∧
       oneLoad.acquire.map Prod.snd = some .die) ∧
    (let o : StoreOp := { id := 5, packets := 0, walks := 0 }
     let w := { warp0 with stores := [o] }
     (stateOf frame0 w).warp 0 = some w ∧ o ∈ w.stores ∧ o.isDone = true) ∧
    let w := { warp0 with stop := .monitor 0x8000 true }
    (stateOf frame0 w).warp 0 = some w ∧ w.stop = .monitor 0x8000 true := by
  refine ⟨noPending0 _ _, ?_⟩
  decide

def someCopy : CopyCmd :=
  { id := 3, warp := 0, gang := 1, asid := 1, die := 0, kind := .linear 0 64 64 true true, acq := false, rel := false, scope := .wg, cvtmode := 0,
    draw := 0, token := 0, tokenPa := 0, counter := 0, add := 0, slice := 0, packets := 0, asked := none, fetched := [], alloc := true, short := false,
    updated := false, fault := none, paused := none, chainMembers := [], arrived := 0 }

/-- A fence that waits for a copy and one that does not; `waitn` with nothing outstanding, with a load that has come, and with a
copy above its threshold. -/
theorem witness_Fence : Issues (stateOf frame0 warp0) frame0 warp0 ∧ (stateOf frame0 warp0).enginesBusy 0 warp0 15 = false ∧
    ({ stateOf frame0 warp0 with clusters := [(0, { Cluster.idle with cq := [someCopy] })] } : State).enginesBusy 0 warp0 1 = true ∧
    warp0.loads = [] ∧ (stateOf frame0 warp0).noPending ∧ warp0.priv = false ∧
    (let w := { warp0 with loads := [oneLoad] }
     Issues (stateOf frame0 w) frame0 w ∧ (∀ l ∈ w.loads, l.lost = none) ∧ ¬w.loads.length ≤ 0 ∧
       w.loads.length ≤ 0 + (w.loads.filter fun l => l.waiting.isEmpty).length) ∧
    let w := { warp0 with copies := 1 }
    Issues (stateOf frame0 w) frame0 w ∧ ¬w.copies ≤ 0 :=
  ⟨issues0, by decide, by decide, rfl, noPending0 _ _, rfl, ⟨issues_stateOf _ _ rfl, by decide⟩, issues_stateOf _ _ rfl, by decide⟩

/-- A latched value; and a location that holds 0 with the conditions `eq` 0, which holds, and `ne` 0, which does not. -/
theorem witness_WaitCondition : (let w := { warp0 with latch := some 5 }
     Issues (stateOf frame1 w) frame1 w ∧ w.mayAccess frame1.lanes ∧ (if w.priv then w.supLatch else w.latch) = some 5) ∧
    Issues (stateOf frame1 farWarp) frame1 farWarp ∧ (if farWarp.priv then farWarp.supLatch else farWarp.latch) = none ∧
    frame1.lanes = laneBit 0 ∧ ∃ v p, Reaches (stateOf frame1 farWarp) frame1 farWarp .wait 4 0 false (farWarp.s 2) v p ∧
      v.noPending ∧ (∀ e ∈ (stateOf frame1 farWarp).dies, e.2.monitors = []) ∧ farWarp.arming = none ∧
      (stateOf frame1 farWarp).num p.pa 4 = 0 :=
  ⟨⟨issues_stateOf _ _ rfl, by unfold Warp.mayAccess; decide, rfl⟩, issuesFar, rfl, by decide, _, _, reaches0 .wait 4 (by decide),
    by unfold State.noPending; decide, by decide, by decide, by decide⟩

/-- Barrier object 2 of gang 1, with the two warps of slots 0 and 1 as members. -/
def barrier2 (arrived : BitVec 256) : BarObj :=
  { ready := true, members := 3, expected := 2, arrived := arrived, phase := 4, waiters := 0, order := [], stuck := .no }

def barState (w : Warp) (b : BarObj) : State := { stateOf frame0 w with gangs := [(1, { gang1 with bars := [(2, b)] })] }

theorem barIssues (w : Warp) (b : BarObj) : Issues (barState w b) frame0 w := ⟨rfl, rfl⟩

/-- An initialisation with the count given and by default, a past and the present phase, an arrival that is not the last, and
one that is. -/
theorem witness_BarrierPhases : (∀ b, Issues (barState warp0 b) frame0 warp0) ∧ warp0.priv = false ∧
    (∃ g, mfind (stateOf frame0 warp0).gangs warp0.gang = some g ∧ 1 < 2 ^ g.members) ∧ (1 : Xword).toNat < 2 ^ 8 ∧
    ((stateOf frame0 warp0).barObj 1 2).arrived = 0 ∧ slotCount ((stateOf frame0 warp0).liveSlots 1 1) ≤ (256 : Xword).toNat ∧
    (3 : Xword).toNat / 2 ^ 32 % 2 ^ 31 = 0 ∧ (barrier2 0).past 3 = true ∧ (barrier2 0).past 4 = false ∧
    (barrier2 0).members.getLsbD warp0.gangSlot = true ∧ (barrier2 0).arrived.getLsbD warp0.gangSlot = false ∧
    ((barState warp0 (barrier2 0)).core warp0.coreK).holdsDirty = false ∧ warp0.gangSlot < 256 ∧
    (barState warp0 (barrier2 0)).warpsAt warp0.gang warp0.gangSlot = [0] ∧
    (let n := slotCount ((0 : BitVec 256) ||| BitVec.ofNat 256 (2 ^ warp0.gangSlot))
     n < slotCount (barrier2 0).members ∧ n < (barrier2 0).expected) ∧
    slotCount ((2 : BitVec 256) ||| BitVec.ofNat 256 (2 ^ warp0.gangSlot)) = (barrier2 2).expected ∧ (barrier2 2).expected ≠ 0 ∧
    (barrier2 2).arrived.getLsbD warp0.gangSlot = false ∧ warp0.bsync = none ∧ warp0.stop = .running ∧
    (barrier2 2).expected ≤ slotCount (barrier2 2).members := by
  refine ⟨barIssues warp0, rfl, ⟨_, rfl, by decide⟩, ?_⟩
  decide

/-- An object never initialised, a warp that is no member, and each way an initialisation fails: masks 0, 2^8 and beyond the
gang's members, counts of 257, and an object with an arrival. -/
theorem witness_BarrierTraps : Issues (stateOf frame0 warp0) frame0 warp0 ∧ ((stateOf frame0 warp0).barObj 1 2).ready = false ∧
    warp0.bsync = none ∧ ({ barrier2 0 with members := 2 } : BarObj).members.getLsbD warp0.gangSlot = false ∧
    (2 ^ 32 : Xword).toNat / 2 ^ 32 % 2 ^ 31 ≠ 0 ∧ 2 ^ 8 ≤ (256 : Xword).toNat ∧
    (∃ g, mfind (stateOf frame0 warp0).gangs warp0.gang = some g ∧ 2 ^ g.members ≤ 2 ∧ (1 : Xword).toNat < 2 ^ g.members) ∧
    256 < (257 : Xword).toNat ∧ ((barState warp0 (barrier2 2)).barObj 1 2).arrived ≠ 0 :=
  ⟨issues0, by decide, rfl, by decide, by decide, by decide, ⟨_, rfl, by decide⟩, by decide⟩

def loopAt (start stop : Xword) (n : BitVec 32) : LoopEntry := { start := start, stop := stop, count := n, inBody := 0xFFFF, held := 0 }

/-- Each sign of a scalar that `brs` tests, an aligned and a misaligned target, a loop whose body holds the target at its last
instruction, and one whose body does not. -/
theorem witness_Branches : Issues (stateOf frame0 warp0) frame0 warp0 ∧ warp0.priv = false ∧ (0 : Xword).toInt = 0 ∧
    (0x8000000000000000 : Xword).toInt < 0 ∧ 0 < (1 : Xword).toInt ∧ (0x2001 : Xword).toNat % 4 ≠ 0 ∧ (0x2000 : Xword).toNat % 4 = 0 ∧
    (let e := loopAt 0x1000 0x1010 3
     let w := { warp0 with loops := [e] }
     w.loops = e :: [] ∧ e.inBody &&& ~~~(0xFFFF : LaneSet) = 0 ∧ e.inBody &&& ~~~(1 : LaneSet) ≠ 0 ∧
       e.start.toNat ≤ (0x1010 : Xword).toNat ∧ (0x1010 : Xword).toNat ≤ e.stop.toNat ∧
       ¬(e.start.toNat ≤ (0x1014 : Xword).toNat ∧ (0x1014 : Xword).toNat ≤ e.stop.toNat)) ∧
    ∃ taken : LaneSet, taken ≠ 0 ∧ taken &&& frame0.lanes = taken := by
  refine ⟨issues0, rfl, ?_⟩
  exact ⟨by decide, by decide, by decide, by decide, by decide, by decide, 1, by decide⟩

/-- A mask in use and one free; a group at the enrolled address, elsewhere, and the last to arrive. -/
theorem witness_RejoinMasks : Issues (stateOf frame0 warp0) frame0 warp0 ∧ warp0.priv = false ∧ (warp0.mask 2).enrolled = 0 ∧
    let m : RejoinMask := { enrolled := 3, arrived := 0, pc := 0x1000 }
    let w := { warp0 with masks := [(2, m)] }
    Issues (stateOf frame1 w) frame1 w ∧ (w.mask 2).enrolled ≠ 0 ∧ frame1.lanes &&& m.enrolled ≠ 0 ∧ frame1.pc = m.pc ∧
      ({ frame1 with pc := 0x1004 } : Cur).pc ≠ m.pc ∧ m.arrived ||| (frame1.lanes &&& m.enrolled) ≠ m.enrolled ∧
      (2 : LaneSet) ||| (frame1.lanes &&& m.enrolled) = m.enrolled ∧ m.enrolled &&& ~~~frame1.lanes ≠ 0 ∧
      m.arrived &&& ~~~frame1.lanes ≠ m.enrolled &&& ~~~frame1.lanes ∧ m.enrolled &&& ~~~frame0.lanes = 0 :=
  ⟨issues0, rfl, by decide, issues_stateOf _ _ rfl, by decide⟩

/-- Words placed at 0x1000. -/
def withCode (s : State) (w x : Nat) : State := s.poke (placed 0x1000 (leBytes 4 w ++ leBytes 4 x))

/-- A loop of a count 0 and of 1; four entries and three; `lexit` with no entry, of some and of all lanes of the body. End words: of one
word, of a literal word after it, of a following word that is none, of a page that is not there, and of one that is not there yet. -/
theorem witness_Loops : (let at_ (s : State) := (s.fetchInstr warp0.coreK warp0.asid 0x1000).2
     at_ (withCode (stateOf frame0 warp0) 0x2020C085 0) = .words 0x2020C085 none ∧
     at_ (withCode (stateOf frame0 warp0) 0x22A2C5FF 0xF80000FF) = .words 0x22A2C5FF (some 0xF80000FF) ∧
     isLiteral 0xF80000FF = true ∧ isLiteral 0x22A2C5FF = false ∧
     at_ (withCode (stateOf frame0 warp0) 0x68304003 0) = .words 0x68304003 (some 0) ∧ isLiteral 0 = false ∧
     at_ { stateOf frame0 warp0 with mem := [] } = .bad (.trap 5 0x1000) ∧
     at_ { stateOf frame0 warp0 with mem := [(0x100000, 0x10)] } = .bad (.miss 0x1000)) ∧
    (loopAt 0x1000 0x1000 3).stop = 0x1000 ∧ Issues (stateOf frame0 warp0) frame0 warp0 ∧ warp0.priv = false ∧ warp0.loops = [] ∧
    ((1 : BitVec 7).setWidth 32 : BitVec 32) ≠ 0 ∧
    (let w := { warp0 with loops := List.replicate 4 (loopAt 0x1000 0x1010 3) }
     Issues (stateOf frame0 w) frame0 w ∧ 4 ≤ w.loops.length) ∧
    let w := { warp0 with loops := List.replicate 3 (loopAt 0x1000 0x1010 3) }
    Issues (stateOf frame1 w) frame1 w ∧ w.loops.length < 4 ∧ (loopAt 0x1000 0x1010 3).inBody &&& ~~~frame1.lanes ≠ 0 ∧
      (loopAt 0x1000 0x1010 3).inBody &&& ~~~frame0.lanes = 0 :=
  ⟨by decide +kernel, rfl, issues0, rfl, rfl, by decide, ⟨issues_stateOf _ _ rfl, by decide⟩, issues_stateOf _ _ rfl, by decide⟩

/-- `rep` with d and a growing by 1, and its target: an `add`, or a branch, which is none. -/
def repState (x : Nat) (w : Warp) : State := withCode (stateOf frame0 w) 0xF4350000 x

def repWarp : Warp := { warp0 with rep := { done := 3, busy := true, cnt := 3, lanes := 0xFFFF } }

/-- A target that passes the checks and one that does not; the last repeat of a sequence. -/
theorem witness_RepeatPrefix : Issues (repState 0x2020C085 warp0) frame0 warp0 ∧ warp0.priv = false ∧ warp0.rep.busy = false ∧
    ((repState 0x2020C085 warp0).fetchInstr 0 1 0x1004).2 = .words 0x2020C085 none ∧
    repCheck (.words 0x2020C085 none) 3 1 1 0 = none ∧ (repCheck (.words 0x08408005 none) 3 1 1 0).isSome = true ∧
    repWarp.priv = false ∧ repWarp.rep.busy = true ∧ repWarp.rep.done ≤ (3 : BitVec 6).toNat ∧
    let a := (repState 0x2020C085 repWarp).fetchInstr repWarp.coreK repWarp.asid 0x1000
    a.2.instr = .rep 3 1 1 0 ∧
      ((a.1.onWarp 0 fun w => { w with rep := { w.rep with cnt := 3 } }).fetchInstr repWarp.coreK repWarp.asid 0x1004).2 =
        .words 0x2020C085 none := by
  refine ⟨⟨rfl, rfl⟩, ?_⟩
  decide +kernel

/-- A window that ends at the allocation, and one that would pass it. -/
theorem witness_NopYieldWbase : Issues (stateOf frame0 warp0) frame0 warp0 ∧ warp0.priv = false ∧
    (let w := { warp0 with alloc := 160 }
     Issues (stateOf frame0 w) frame0 w ∧ 32 * (1 : BitVec 7).toNat + 128 ≤ w.alloc ∧ w.alloc < 32 * (2 : BitVec 7).toNat + 128) :=
  ⟨issues0, rfl, issues_stateOf _ _ rfl, by decide, by decide⟩

/-- A warp within a loop and with a mask in use, of which one lane leaves. -/
theorem witness_ExitLanes :
    let w := { warp0 with loops := [loopAt 0x1000 0x1010 3], masks := [(2, { enrolled := 3, arrived := 0, pc := 0x1000 })] }
    Issues (stateOf frame1 w) frame1 w ∧ w.priv = false ∧
    ∃ i, i < w.lanes.length ∧ i < 64 ∧ frame1.lanes.getLsbD i = false ∧ (w.lane i).stat ≠ .exited ∧ (w.lane i).triggered = false :=
  ⟨issues_stateOf _ _ rfl, rfl, 1, by decide⟩

theorem supIssues : Issues (stateOf supFrame supWarp) supFrame supWarp := issues_stateOf _ _ rfl

/-- User mode with and without a trap vector, and supervisor mode; the frame of an issue has its warp's mode. -/
theorem witness_ExceptionEntry : Issues (stateOf frame0 warp0) frame0 warp0 ∧ warp0.priv = false ∧ frame0.priv = warp0.priv ∧
    supFrame.priv = supWarp.priv ∧ warp0.loops = [] ∧
    ((stateOf frame0 warp0).ctx warp0.ctxK).trapvec ≠ 0 ∧
    (let s := { stateOf frame0 warp0 with ctxs := [] }
     Issues s frame0 warp0 ∧ (s.ctx warp0.ctxK).trapvec = 0) ∧
    let w := { supWarp with entered := some { cause := 4, pc := 0x1000, info := 0 } }
    Issues (stateOf supFrame w) supFrame w ∧ w.priv = true ∧ w.entered ≠ none :=
  ⟨issues0, rfl, rfl, rfl, rfl, by decide, ⟨⟨rfl, rfl⟩, by decide⟩, issues_stateOf _ _ rfl, rfl, by decide⟩

/-- A fetch that fails; user and supervisor mode; a word with a field that must be 0. -/
theorem witness_SoftwareTraps : Issues (stateOf frame0 warp0) frame0 warp0 ∧ warp0.priv = false ∧
    Issues (stateOf supFrame supWarp) supFrame supWarp ∧ supWarp.priv = true ∧ (1 : BitVec 7) ≠ 0 ∧
    let s := { stateOf frame0 warp0 with mem := [] }
    Issues s frame0 warp0 ∧ (s.fetchInstr warp0.coreK warp0.asid frame0.pc.toNat).2 = .bad (.trap 5 0x1000) :=
  ⟨issues0, rfl, supIssues, rfl, by decide, ⟨rfl, rfl⟩, by decide⟩

/-- A return without a label, and with one and a pending restart; a warp that is owed a cause. -/
theorem witness_ReturnAndOwedCauses : Issues (stateOf supFrame supWarp) supFrame supWarp ∧ supWarp.priv = true ∧
    supWarp.restart &&& 0x01FFFFFFFFFFFFFC = 0 ∧ supWarp.masks = [] ∧ supWarp.loops = [] ∧
    (let w := { supWarp with restart := 4, pendingRestart := true }
     Issues (stateOf supFrame w) supFrame w ∧ w.priv = true ∧ w.restart &&& 0x01FFFFFFFFFFFFFC ≠ 0 ∧ w.pendingRestart = true) ∧
    let w := { warp0 with async := [{ cause := 0x0C, info := 0 }] }
    let s := { stateOf frame0 w with cur := none }
    s.warp 0 = some w ∧ w.priv = false ∧ w.async ≠ [] ∧ w.primary = some (0x1000, 0xFFFF) ∧ (s.ctx w.ctxK).trapvec ≠ 0 :=
  ⟨supIssues, rfl, by decide, rfl, rfl, ⟨issues_stateOf _ _ rfl, by decide⟩, by decide⟩

/-- Both modes; a register name that is the first past the allocation. -/
theorem witness_ModeChecks : Issues (stateOf frame0 warp0) frame0 warp0 ∧ warp0.priv = false ∧
    Issues (stateOf supFrame supWarp) supFrame supWarp ∧ supWarp.priv = true ∧ 64 ≤ (64 : BitVec 7).toNat ∧
    (let names := [(64 : VReg).toNat, (1 : VReg).toNat, (2 : VReg).toNat]
     64 ∈ names ∧ warp0.alloc ≤ warp0.allocated 64 ∧ ∀ k, k < names.idxOf 64 → warp0.allocated (names.getD k 0) < warp0.alloc) :=
  ⟨issues0, rfl, supIssues, rfl, by decide, by decide⟩

/-- A register of user mode and one of supervisor mode, a value with a reserved bit, a loop entry, and `tlbi` of a core that holds
nothing, with no access out. -/
theorem witness_SpecialRegisters : Issues (stateOf supFrame supWarp) supFrame supWarp ∧ supWarp.priv = true ∧
    supWarp.free [(3 : BitVec 7).toNat] ∧ (∃ g, mfind (stateOf supFrame supWarp).gangs supWarp.gang = some g) ∧
    (8 : Xword) &&& BitVec.ofNat 64 0xF888888888888888 ≠ 0 ∧ (7 : Xword) &&& BitVec.ofNat 64 0xF888888888888888 = 0 ∧
    ([loopAt 0x1000 0x1010 3].reverse[0]? = some (loopAt 0x1000 0x1010 3)) ∧ supWarp.rep.done < 64 ∧ supWarp.rep.cnt < 64 ∧
    ((stateOf supFrame supWarp).core supWarp.coreK).holdsDirty = false ∧
    (stateOf supFrame supWarp).accessesOut supWarp.die supWarp.asid = false ∧ Issues (stateOf frame0 warp0) frame0 warp0 ∧
    warp0.priv = false ∧ 63 < 64 :=
  ⟨supIssues, rfl, by unfold Warp.free; decide, ⟨_, rfl⟩, by decide, by decide, rfl, by decide, by decide, by decide, by decide, issues0, by decide⟩

/-- A layout record of 16 f32 elements at 0x8000, into local offset 0 (09 R190); for a multicast, to the first member. -/
def boxRecord (mcast : Nat) : List Nat :=
  [0x8000 + 13 * 2 ^ 57, 0, mcast * 2 ^ 56, 16 + 2 ^ 24 + 16 * 2 ^ 48, 1 + 2 ^ 24 + 2 ^ 48, 2 ^ 32 + 2 ^ 48, 0, 0]

/-- A field of a record's 64-bit word, or of a block's 32-bit word. -/
def fieldOf (l : List Nat) (n lo k : Nat) : Nat := l.getD n 0 / 2 ^ lo % 2 ^ k

/-- Every field of a record of f32 elements is one that no condition of R186 names, its box of 64 bytes at a base in local memory. -/
abbrev RecordGood (l : List Nat) (region base : Nat) : Prop :=
  let f := fieldOf l
  l.length = 8 ∧ f 0 57 5 = 13 ∧ f 0 62 2 = 0 ∧ (f 3 0 24 ≠ 0 ∧ f 3 24 24 ≠ 0 ∧ f 3 48 16 = 16 ∧ f 4 0 24 ≠ 0 ∧ f 4 24 24 ≠ 0 ∧ f 4 48 16 = 1 ∧
    f 5 32 16 = 1 ∧ f 5 48 16 = 1) ∧ f 2 32 24 + base + 64 ≤ region ∧ f 2 32 24 % 16 = 0 ∧ windowOf (f 0 0 57) = .priv ∧ f 1 61 3 ≤ 4 ∧
    f 1 0 57 % 4 = 0

/-- An acquire of lane 0 that is out. -/
def outLoad : LoadOp := { oneLoad with waiting := [{ req := 1, agent := 1, fill := none, parts := [] }] }

/-- A warp whose s5 names words of n bytes at local offset 0. -/
def withBlock (n : Nat) (l : List Nat) : State := (stateOf frame0 warp0).localPoke 1 0 (l.flatMap (leBytes n))

theorem blockIssues (n : Nat) (l : List Nat) : Issues (withBlock n l) frame0 warp0 := ⟨rfl, rfl⟩

/-- A full counter; a full queue; an acquire out; a `cpy` that goes, and one with a reserved bit and no bytes, whose lowest kind is 2; a block
outside the region; records that no condition names, for one member, and for three where the highest bit is a member or is not; `cpyx` with
its offset at the region's last word, and `coll` with the highest operation. -/
theorem witness_CopyMembers : Issues (stateOf frame0 warp0) frame0 warp0 ∧ warp0.priv = false ∧ warp0.copies < 31 ∧
    ((stateOf frame0 warp0).cluster warp0.clusterK).cq.length < 256 ∧
    (let w := { warp0 with copies := 31 }
     Issues (stateOf frame0 w) frame0 w ∧ 31 ≤ w.copies) ∧
    (let s := { stateOf frame0 warp0 with clusters := [(0, { Cluster.idle with cq := List.replicate 256 someCopy })] }
     Issues s frame0 warp0 ∧ ¬(s.cluster warp0.clusterK).cq.length < 256) ∧
    (let w := { warp0 with loads := [outLoad] }
     Issues (stateOf frame0 w) frame0 w ∧ (∀ l ∈ w.loads, l.waiting ≠ [] ∧ l.lost = none ∧ l.kinds.getLsbD 0 = true ∧ l.kinds.getLsbD 2 = true) ∧
       ∃ x, outLoad.acquire = some x ∧ x.1 &&& frame0.lanes ≠ 0) ∧
    (let ctl : Nat := 1024 + 2 ^ 32
     ctl / 2 ^ 39 = 0 ∧ ctl % 2 ^ 32 ≠ 0 ∧ 0 + ctl % 2 ^ 32 ≤ (stateOf frame0 warp0).regionBytes 1 ∧ ctl / 2 ^ 36 % 8 ≤ 4) ∧
    (let ctl : Nat := 2 ^ 39
     LowestOf [(ctl / 2 ^ 39 ≠ 0, 0x2FF), (ctl % 2 ^ 32 = 0, 0x4FF), (ctl / 2 ^ 32 % 2 = 1 ∧ False, 0x6FF)] 0x2FF) ∧
    (stateOf frame0 { warp0 with sregs := [(5, 1024)] }).paramBlock { warp0 with sregs := [(5, 1024)] } 5 8 = none ∧
    (withBlock 8 (boxRecord 0)).paramBlock warp0 0 8 = some (boxRecord 0) ∧ RecordGood (boxRecord 0) 1024 0 ∧
    fieldOf (boxRecord 0) 2 56 8 = 0 ∧ fieldOf (boxRecord 0) 2 32 24 = 0 ∧ tyOf 13 = some .f32 ∧
    (let s := { withBlock 8 (boxRecord 4) with gangs := [(1, { gang1 with members := 3 })] }
     Issues s frame0 warp0 ∧ (∃ g, mfind s.gangs 1 = some g ∧ g.localBytes / g.members / 64 * 64 = 320 ∧ 4 < 2 ^ g.members ∧ 2 ^ g.members ≤ 8) ∧
       RecordGood (boxRecord 4) 1024 (2 * 320) ∧ RecordGood (boxRecord 8) 1024 (3 * 320) ∧ (4 : Nat).testBit 2 = true ∧
       fieldOf (boxRecord 8) 2 56 8 = 8) ∧
    (1020 : Nat) % 4 = 0 ∧ 1020 + 4 * fieldOf (boxRecord 0) 4 48 16 ≤ 1024 ∧ (4 : Nat) % 8 ≤ 4 := by
  refine ⟨issues0, rfl, by decide, by decide, ⟨issues_stateOf _ _ rfl, by decide⟩, ⟨⟨rfl, rfl⟩, by decide +kernel⟩,
    ⟨issues_stateOf _ _ rfl, by decide, _, rfl, by decide⟩, by decide, by simp [LowestOf], by decide, by decide +kernel, by decide, by decide,
    by decide, rfl, ⟨⟨rfl, rfl⟩, ⟨_, rfl, by decide⟩, by decide⟩, by decide⟩

/-- An f16 product of one row, one column and depth 16, and an f32 tile of one element (09 R199). -/
def mmaBlock : List Nat := [0x0D0E0E00, 0x10001, 16, 0, 0x8000, 0, 0x9000, 0, 32, 32, 0, 0, 0, 0, 0, 0]
def tileBlock : List Nat := [0x0D0D0D00, 0x10001, 16, 0, 0x8000, 0, 0x9000, 0, 32, 32, 0, 0, 0, 0, 0, 0]

def someMatrix : MatrixCmd :=
  { id := 3, warp := 0, gang := 1, asid := 1, die := 0, kind := .mzero, block := [], out := 0, idx := [], cvtmode := 0, draw := 0,
    onLanes := false, paused := none, asked := none, fetched := [], short := false, ran := false, packets := 0 }

/-- What no condition of R186 names in a block of one row, one column and depth 16, raw, its operands in the die's own memory. -/
abbrev BlockGood (l : List Nat) (ty : Nat) : Prop :=
  let f := fieldOf l
  l.length = 16 ∧ f 0 0 1 = 0 ∧ f 0 1 1 = 0 ∧ f 0 6 1 = 0 ∧ f 0 7 1 = 0 ∧ f 0 8 8 = ty ∧ f 0 16 8 = ty ∧ f 0 24 8 = 13 ∧ f 1 0 16 = 1 ∧ f 1 16 16 = 1 ∧
    f 2 0 32 = 16 ∧ f 3 0 16 + 1 ≤ 1024 ∧ f 3 16 16 + 1 ≤ 512 ∧ f 5 0 32 = 0 ∧ f 7 0 32 = 0 ∧ windowOf (f 4 0 32) = .priv ∧
    windowOf (f 6 0 32) = .priv ∧ f 10 24 8 = 0 ∧ f 12 0 32 = 0 ∧ f 13 0 32 = 0 ∧ f 14 3 13 = 0 ∧ f 14 16 3 ≤ 4 ∧ f 14 19 13 = 0 ∧ f 15 0 32 = 0

/-- A full counter, a full queue, an acquire out, a block outside the region, blocks that no condition of a command names, one whose lowest
kind is 4 and its lowest offset M's, `hist` at the last offset and beyond, and a cluster that runs, which `quote` needs. -/
theorem witness_MatrixMembers : Issues (stateOf frame0 warp0) frame0 warp0 ∧ warp0.priv = false ∧ warp0.matrix < 31 ∧
    ((stateOf frame0 warp0).core warp0.coreK).mq.length < 64 ∧
    (let w := { warp0 with matrix := 31 }
     Issues (stateOf frame0 w) frame0 w ∧ 31 ≤ w.matrix) ∧
    (let s := { stateOf frame0 warp0 with cores := [(0, { Core.idle with mq := List.replicate 64 someMatrix })] }
     Issues s frame0 warp0 ∧ 64 ≤ (s.core warp0.coreK).mq.length) ∧
    (let w := { warp0 with loads := [outLoad] }
     Issues (stateOf frame0 w) frame0 w ∧ (∀ l ∈ w.loads, l.waiting ≠ [] ∧ l.lost = none ∧ l.kinds.getLsbD 1 = true) ∧
       ∃ x, outLoad.acquire = some x ∧ x.1 &&& frame0.lanes ≠ 0) ∧
    (stateOf frame0 { warp0 with sregs := [(5, 1024)] }).paramBlock { warp0 with sregs := [(5, 1024)] } 5 4 = none ∧
    ((withBlock 4 mmaBlock).paramBlock warp0 0 4 = some mmaBlock ∧ BlockGood mmaBlock 14 ∧ tyOf 14 = some .f16) ∧
    ((withBlock 4 tileBlock).paramBlock warp0 0 4 = some tileBlock ∧ BlockGood tileBlock 13 ∧ tyOf 13 = some .f32) ∧
    (let f := fieldOf (List.replicate 16 0)
     LowestOf [(f 0 7 1 ≠ 0, 0x200), (f 2 0 32 = 0, 0x408), (f 1 0 16 = 0, 0x404), (f 1 16 16 = 0, 0x406)] 0x404) ∧
    (704 : Xword).toNat % 64 = 0 ∧ (704 : Xword).toNat + 264 ≤ (stateOf frame0 warp0).regionBytes 1 ∧
    (stateOf frame0 warp0).regionBytes 1 < (768 : Xword).toNat + 264 ∧ 0 < ((stateOf frame0 warp0).cluster 0).freq := by
  refine ⟨issues0, rfl, by decide, by decide, ⟨issues_stateOf _ _ rfl, by decide⟩, ⟨⟨rfl, rfl⟩, by decide +kernel⟩,
    ⟨issues_stateOf _ _ rfl, by decide, _, rfl, by decide⟩, by decide +kernel, by decide +kernel, by decide +kernel, ?_, by decide +kernel⟩
  simp [LowestOf, fieldOf]

/-- Whether a translation is a leaf of a raw page that may be written, in memory that exists. -/
def reachesMemory (x : Xlat) (va : Nat) : Bool :=
  match x with
  | .leaf l => l.canWrite && l.fmt == 0 && memoryExists (l.pa + va % pageBytes l.level) 128
  | .replay | .absent | .malformed | .hole _ => false

/-- A queue that the context may use, of one slot, its ring full or not. -/
def devQueue (tail ovf : BitVec 32) : Queue := { Queue.unused with enable := true, asid := 1, devq := true, tail := tail, ovftail := ovf }

/-- A bad address, a bad queue, a good one; a lane that no trigger marks; with and without a schedule table. -/
theorem witness_LaunchMembers : Issues (stateOf frame1 farWarp) frame1 farWarp ∧ farWarp.priv = false ∧ farWarp.mayAccess frame1.lanes ∧
    (0x8001 : Xword).toNat % 128 ≠ 0 ∧ (farWarp.s 2).toNat % 128 = 0 ∧ (farWarp.s 2).toNat < 2 ^ 55 ∧ 256 ≤ (256 : Xword).toNat ∧
    (255 : Xword).toNat < 256 ∧
    (∃ v ps, (stateOf frame1 farWarp).place farWarp .load 128 false [((firstLane frame1.lanes).getD 0, farWarp.s 2)] = .go v ps ∧
      let r := (v.releaseCore farWarp.coreK).homeRead ((ps.map Place.pa).headD 0) 128 0 false
      ((devQueue 0 0).ringSlot 0 = 0 ∧ (devQueue 0 0).ovfSlot 0 = 0) ∧ reachesMemory (r.translateDie 0 1 0).2 0 = true) ∧
    ((devQueue 0 0).tail - (devQueue 0 0).head).toNat ≠ 2 ^ (devQueue 0 0).qsize ∧
    ((devQueue 1 0).tail - (devQueue 1 0).head).toNat = 2 ^ (devQueue 1 0).qsize ∧
    ((devQueue 1 1).ovftail - (devQueue 1 1).ovfhead).toNat = 2 ^ (devQueue 1 1).ovfsize ∧
    (stateOf frame1 farWarp).hasSched farWarp.gang = false ∧
    let t : SchedTable := { gang := 1, member := 0, entries := [7], cursor := 0 }
    let s := { stateOf frame1 farWarp with cores := [(0, { Core.idle with sched := some t })],
                                           launches := [(7, { fetchLaunch with record := List.replicate 16 0x8000 })] }
    Issues s frame1 farWarp ∧ s.hasSched farWarp.gang = true ∧ (s.core farWarp.coreK).sched = some t ∧ t.gang = farWarp.gang ∧
      t.member = farWarp.member ∧ t.entries[t.cursor]? = some 7 ∧ t.entries.length ≤ ({ t with cursor := 1 } : SchedTable).cursor := by
  refine ⟨issuesFar, rfl, farAccess, by decide, by decide, by decide, by decide, by decide, ⟨_, _, rfl, by decide⟩, by decide, by decide, by decide,
    by decide, ⟨rfl, rfl⟩, by decide⟩

/-! Events -/

def somePacket (body : PacketBody) : Packet :=
  { src := 0, dst := 1, cls := 0, asid := 1, entries := [(2, 1, 0)], body := body, warp := none, op := none }

def flying (body : PacketBody) : State :=
  { State.reset with cway := { Causeway.atReset with flying := [(1, [somePacket body])] } }

def holding (body : PacketBody) (count : Nat) : State :=
  { State.reset with cway := { Causeway.atReset with held := [(1, [{ somePacket body with entries := [(2, 1, count)] }])] } }

/-- A packet that arrives and a beat; a full buffer; a head whose entry D counts and one whose entry asks for one delivery more;
a request whose reply may be injected; a header of an access of H's; a beat's floor that an entry does not pass, passes by 1, and by 2^15,
which is not newer; injection on and off; a warp at a bucket; a walk that finds no page; each stage of a reseal, quiet or not; a die that
has departed, and been reset. -/
theorem witness_CausewayPackets :
    ((flying .carrier).cway.fly 0 1 = [somePacket .carrier] ∧ (somePacket .carrier).isBeat = false ∧
      (flying .carrier).cway.hasSlot 0 1 = true ∧ (flying (.floorBeat [])).cway.fly 0 1 = [somePacket (.floorBeat [])] ∧
      (∀ b, (holding b 0).cway.waitingAt 0 1 = { somePacket b with entries := [(2, 1, 0)] } :: [])) ∧
    ({ Causeway.atReset with held := [(1, List.replicate 2048 (somePacket .carrier))] } : Causeway).hasSlot 0 1 = false ∧
    ((somePacket (.write [(2 ^ 48, 1)])).bad = false ∧ (somePacket (.readReq [(2 ^ 48, 8)] 3 false 0)).bad = false ∧
      (holding .carrier 0).deliverable (somePacket .carrier) = true ∧
      (holding .carrier 1).deliverable { somePacket .carrier with entries := [(2, 1, 1)] } = false) ∧
    (let p := somePacket (.readReq [(2 ^ 48, 8)] 3 false 0)
     let c := (holding p.body 0).cway.count p
     State.reset.gone 0 = false ∧ State.reset.gone 1 = false ∧ (holding p.body 0).cores = [] ∧
       c.mayInject 1 0 (c.carriersNow 1 0 + 1) = true) ∧
    (let h : BitVec 128 := 256
     headerBad h 0 = false ∧ h.toNat / 2 ^ 8 % 2 ^ 4 = 1 ∧ h.toNat % 2 ^ 4 < 8 ∧ State.reset.cway.mayInject 0 1 1 = true ∧
       (State.reset.cway.entriesFor 0 1).length ≤ 10) ∧
    (let floor := mget 0 ([] : SMap Nat) 2
     (Causeway.atReset.K 1 2 0 + 2 ^ 16 - floor) % 2 ^ 16 = 0 ∧
       ((Causeway.atReset.setK 1 2 0 1 fun _ => true).K 1 2 0 + 2 ^ 16 - floor) % 2 ^ 16 = 1 ∧
       ((Causeway.atReset.setK 1 2 0 (2 ^ 15) fun _ => true).K 1 2 0 + 2 ^ 16 - floor) % 2 ^ 16 = 2 ^ 15) ∧
    ({ Causeway.atReset with reseal := .stopped none } : Causeway).reseal ≠ .normal ∧
    (let w := { warp0 with stop := .bucket 48 }
     (stateOf frame0 w).warp 0 = some w ∧ (stateOf frame0 w).mayCharge w.die w.ctxK 0 48 [] = true) ∧
    (let x : CacheWalk := { warp := 0, core := 0, gang := 1, asid := 1, va := 2 ^ 32, op := 0, storeOp := 5, lanes := 1 }
     let s := (stateOf frame0 warp0).setDie 0 { Die.atReset with walks := [x] }
     (s.die 0).walks = x :: [] ∧ (s.ctx 1).hintdrop = 0 ∧ (s.setDie 0 { s.die 0 with walks := [] }).translate 0 1 (2 ^ 32) =
       (s.setDie 0 { s.die 0 with walks := [] }, .absent)) ∧
    (State.reset.cway.reseal = .normal ∧ State.reset.quiet = true ∧ (flying .carrier).quiet = false ∧
      State.reset.cway.resetsHeld = [] ∧ State.reset.host.resealFor = none) ∧
    let s := State.reset.setDie 3 { Die.atReset with departed := true, renewed := true }
    s.gone 3 = true ∧ (s.die 3).renewed = true := by
  refine ⟨⟨rfl, by decide, by decide, rfl, fun b => rfl⟩, by decide +kernel, by decide, by decide, by decide +kernel, by decide, by decide, by decide,
    by decide, by decide, by decide⟩

/-- H's accesses reach every agent of a machine just reset, and its firmware's records reach H. -/
theorem hostReaches0 (h : HostIf) : (∀ a, a < 10 → ({ State.reset with host := h } : State).hostReaches a) ∧
    ({ State.reset with host := h } : State).hostHears := by
  have ones (n : Nat) : (List.replicate n 1).foldl max 0 ≤ 1 := by
    cases n with
    | zero => decide
    | succ n => induction n with
      | zero => decide
      | succ n ih => simpa [List.replicate_succ] using ih
  have past (a i : Nat) : ({ State.reset with host := h } : State).pastBeat a i ≤ 1 := by
    simpa [State.pastBeat, Causeway.D, State.reset, Causeway.atReset, mget, mfind] using ones _
  refine ⟨fun a _ => ⟨?_, rfl, rfl, mayInject0 8 a 1 (by decide), ?_⟩, ⟨rfl, rfl, rfl, mayInject0 9 8 64 (by decide), ?_⟩, fun k => rfl⟩
  · simp [State.gone, State.reset, State.die, mget, Die.atReset]
  · exact le_trans (Nat.add_le_add_right (past a 8) 1) (by decide)
  · exact le_trans (Nat.add_le_add_right (past 8 9) 64) (by decide)

/-- Caps and bounds at the ends of their ranges, and just outside; a cluster that a broadcast reaches. -/
theorem witness_PowerLimits : (∀ a, a < 10 → State.reset.hostReaches a) ∧ (1199 : Xword).toNat % 2 ^ 13 < 1200 ∧
    5000 < (5001 : Xword).toNat % 2 ^ 13 ∧ 1200 ≤ (1200 : Xword).toNat % 2 ^ 13 ∧ (5000 : Xword).toNat % 2 ^ 13 ≤ 5000 ∧
    (0xFF : Xword).toNat % 2 ^ 32 < 0x100 ∧ 0x100 ≤ (0x10000000100 : Xword).toNat % 2 ^ 32 ∧
    (0x10000000100 : Xword).toNat % 2 ^ 32 ≤ (0x10000000100 : Xword).toNat / 2 ^ 32 ∧ 1 < clusterCount 7 ∧
    State.reset.power.bounded ∧ rising State.reset.ctxs = true ∧ mfind [(1, ctx1)] 1 = some ctx1 ∧ ctx1.bound = true := by
  refine ⟨(hostReaches0 HostIf.atReset).1, ?_⟩
  unfold Power.bounded
  decide

/-- A supply below its point's and above it, an idle cluster past its time, a sample that has ended and one that has not, a cluster
that is to drop its point and one that has just done so, a depth that has stood for exactly 50 microseconds, an engine that runs, one
that sleeps, with an `mma` at its head or nothing, and each field of a clock request and of a ceiling. -/
theorem witness_Clocks : (∀ k, (State.reset.ctx k).maxcls ≤ 7) ∧ (∀ a, a < 10 → State.reset.hostReaches a) ∧
    (550 : Nat) < 550 + 50 * min 7 1 ∧ 550 + 50 * min 7 1 < 605 ∧ (600 : Nat) ≤ pointMhz 1 ∧
    Cluster.idle.asid = none ∧ Die.atReset.widening = none ∧
    (let s := { State.reset with now := 100000, clusters := [(0, { Cluster.idle with gated := false })] }
     (s.cluster 0).gated = false ∧ (s.cluster 0).idleSince + 100000 ≤ s.now ∧ (s.cluster 0).sampleEnd ≤ s.timeOf 0) ∧
    State.reset.timeOf 0 < (State.reset.cluster 0).sampleEnd ∧
    (let c := { Cluster.idle with fullTrimSince := some 10000, point := 3 }
     let s := { State.reset with now := 110000, dies := [(0, { Die.atReset with sample := 1 })], clusters := [(0, c)] }
     (s.die 0).budget < (s.die 0).sample ∧ Die.atReset.sample ≤ Die.atReset.budget ∧
       (s.cluster 0).fullTrimSince = some 10000 ∧ 10000 + 100000 ≤ s.now ∧ (s.cluster 0).lastDrop = 0 ∧ (s.cluster 0).asid = none ∧ ¬(s.now + 10000 ≤ s.now)) ∧
    (Core.idle.prefetch ∈ [0, 1, 2, 4, 8]) ∧ (let s := { State.reset with now := 50000 }
      (s.core 0).depthSince + 50000 ≤ s.now) ∧
    (State.reset.core 0).gated = false ∧ (State.reset.core 0).mq = [] ∧ someMatrix.kind ≠ .mma ∧
    (let q := { someMatrix with kind := .mma }
     let s := State.reset.setCore 0 { Core.idle with gated := true, mq := [q] }
     (s.core 0).gated = true ∧ (s.core 0).mq = q :: [] ∧ q.kind = .mma) ∧ State.reset.knows 0 (memberId 0) = false ∧
    (3 : Xword).toNat % 4 = 3 ∧ (0x1FF : Xword).toNat / 2 ^ 9 = 0 ∧ (Cluster.idle.point : Int) + (BitVec.ofNat 4 15).toInt < 0 ∧
    (7 : Int) < 1 + (BitVec.ofNat 4 7).toInt ∧ (600 : Xword).toNat % 2 ^ 12 = 600 ∧ (2300 : Xword).toNat % 2 ^ 12 ≤ 2300 := by
  refine ⟨fun k => ?_, (hostReaches0 HostIf.atReset).1, by decide⟩
  show Ctx.unbound.maxcls ≤ 7
  decide

def member0 : ChainMember := { id := memberId 0, joinAt := 0, leaveAt := none, entries := [], heard := 0, told := false }

/-- A die that is a member and knows another, silent for exactly 400 microseconds; one that is to join, which knows one member and not
another, a sender it has not been told to remove, and one it has; a message that is early enough and late at once; and malformed ones. -/
theorem witness_Chains :
    (let d := { Die.atReset with chain := [member0, { member0 with id := memberId 0 + 1 }] }
     let s := { State.reset.setDie 0 d with now := 400000 }
     s.knows 0 (memberId 0) = true ∧ s.knows 0 (memberId 0 + 1) = true ∧ memberId 0 + 1 ≠ memberId 0 ∧
       (s.die 0).chain = d.chain ∧ 0 + 400000 ≤ s.timeOf 0 ∧ 50007 < s.timeOf 0 ∧ s.timeOf 0 ≤ 400000) ∧
    (let d := { Die.atReset with chain := [{ member0 with joinAt := 5 }], removed := [8] }
     let s := State.reset.setDie 0 d
     7 ∉ d.removed ∧ 8 ∈ d.removed ∧ s.knows 0 (memberId 0 + 1) = false ∧ s.knows 0 (memberId 0) = true ∧ memberId 0 + 1 ≠ memberId 0) ∧
    5 < 2 ^ 28 ∧ 7 + 50000 ≤ 50007 ∧ 50007 < 2 ^ 64 ∧ State.reset.timeOf 0 ≤ 50007 ∧ State.reset.knows 0 5 = false ∧
    4 < (5 : Xword).toNat % 16 ∧ (16 : Xword).toNat / 16 % 2 ^ 12 ≠ 0 ∧ (2 ^ 28 : Xword).toNat / 2 ^ 28 % 16 ≠ 0 ∧
    (2 ^ 32 : Xword).toNat / 2 ^ 32 ≠ 0 := by
  refine ⟨⟨?_, ?_, by omega, rfl, by decide⟩, ⟨by decide, by decide, ?_, ?_, by omega⟩, by decide⟩ <;>
    simp [State.knows, State.die, State.setDie, member0, mget, mset, mput, mfind, State.reset, Die.atReset]

/-- A copy whose turn it is, one that has ended well, one that has ended with a fault, a collective whose results are written and one
whose results are not, and a matrix command that has run or is to zero its region. -/
theorem witness_EngineEvents :
    (let s := { stateOf frame0 warp0 with clusters := [(0, { Cluster.idle with cq := [someCopy] })] }
     s.turn 0 = some someCopy ∧ someCopy.kind = .linear 0 64 64 true true ∧ someCopy.acq = false) ∧
    (stateOf frame0 warp0).turn 0 = none ∧
    (let c := { someCopy with slice := 64 }
     [c].find? (fun c => c.id == 3 && c.canEnd) = some c ∧ c.fault = none ∧ c.counter = 0) ∧
    (let c := { someCopy with fault := some (5, 0x8000) }
     [c].find? (fun c => c.id == 3 && c.canEnd) = some c ∧ c.fault = some (5, 0x8000)) ∧
    ((stateOf frame0 warp0).ctx 1).evring = 0 ∧
    (let c := { someCopy with kind := .collective [] 0, slice := 2 }
     ([(c, (none : Option (List Nat)))].find? fun x => x.1.id == 3 && x.1.idle) = some (c, none) ∧ c.die = 0 ∧ c.slice = 2) ∧
    (let c := { someCopy with kind := .collective [] 0 }
     let s := (stateOf frame0 warp0).setDie 0 { Die.atReset with colls := [(c, none)] }
     ((s.die 0).colls.find? fun x => x.1.id == 3) = some (c, none) ∧ c.die = 0 ∧ c.slice ≠ 2 ∧ s.collIssued c = [c]) ∧
    let c := someMatrix
    let s := { stateOf frame0 warp0 with cores := [(0, { Core.idle with mq := [c] })] }
    (s.core 0).mq = c :: [] ∧ s.canRun c = true ∧ c.warp / 2 ^ 9 = 0 ∧ c.kind = .mzero ∧ ({ c with ran := true } : MatrixCmd).ran = true := by
  decide

/-- Queue 0 of die 0: one record in its ring, a launch at its head, and what it may do. -/
def queueOf (q : Queue) (l : Launch) : State := { stateOf frame0 warp0 with queues := [(0, q)], launches := [(7, l)] }

def someQueue : Queue := { Queue.unused with enable := true, asid := 1, qbase := 0x8000, tail := 1 }

/-- A launch of one gang of one warp, its prologue at 0x1000 and its signal at 0x8000. -/
def someLaunch : Launch :=
  { fetchLaunch with record := [0x2000, 2 ^ 32, 0, 0, 0, 0, 0x1000, 0, 0, 0, 0x8000, 1, 0, 0, 0, 0], stage := .taken, nextGang := 0 }

def frontGood (x : FrontRead) : Bool :=
  match x with
  | .bytes _ _ => true
  | .bad _ | .held _ => false

def frontBad (x : FrontRead) : Bool :=
  match x with
  | .bad _ => true
  | .bytes _ _ | .held _ => false

/-- Whether a prologue ends at its `exit`, and whether it fails. -/
def proExits (x : ProEnd) : Bool :=
  match x with
  | .ended _ (some _) => true
  | .ended _ none | .waits _ => false

def proFails (x : ProEnd) : Bool :=
  match x with
  | .ended _ none => true
  | .ended _ (some _) | .waits _ => false

/-- A queue that may take a record, readable or not; one with nothing; an overflow ring that may move; a prologue that reaches its
`exit` and one that does not; a signal that stands at the value awaited and below it; a head blocked for exactly 20
microseconds with a window to reserve, its context with a cluster, and one whose context has none; a head that fits; a gang whose warps run, and one whose warps have ended. -/
theorem witness_LaunchEvents : (∀ a, a < 10 → State.reset.hostReaches a) ∧
    (queueOf someQueue someLaunch).canTake 0 0 = true ∧ (queueOf { someQueue with tail := 0 } someLaunch).canTake 0 0 = false ∧
    frontGood ((queueOf someQueue someLaunch).frontPage 0 1 0x8000 128 false) = true ∧
    frontBad ((queueOf someQueue someLaunch).frontPage 0 1 (2 ^ 32) 128 false) = true ∧
    frontGood ((queueOf someQueue someLaunch).frontPage 0 1 0 128 false) = true ∧
    (queueOf { someQueue with devq := true, tail := 0, ovftail := 1 } someLaunch).canMove 0 0 = true ∧
    (queueOf someQueue someLaunch).canMove 0 0 = false ∧
    ({ someQueue with headLaunch := some 7 } : Queue).headLaunch = some 7 ∧ mfind (queueOf someQueue someLaunch).launches 7 = some someLaunch ∧
    someLaunch.stage = .taken ∧ someLaunch.prologue ≠ 0 ∧
    proExits ((withCode (queueOf someQueue someLaunch) 0x00200000 0).proLoop 256 someLaunch.proWarp) = true ∧
    proFails ((withCode (queueOf someQueue someLaunch) 0xF8000000 0).proLoop 256 someLaunch.proWarp) = true ∧
    (let l := { someLaunch with stage := .checked }
     l.waitsig ≠ 0 ∧ (queueOf { someQueue with headLaunch := some 7 } l).depHolds l = true ∧
       l.met = false ∧ l.waiting = none ∧ ({ l with met := true } : Launch).met = true ∧
       ((queueOf someQueue l).waitsigPa l).2 = some 0x8000 ∧ 0x8000 / 2 ^ 48 = l.die ∧
       let u := ((queueOf someQueue l).waitsigPa l).1.fresh.2.homeRead 0x8000 8 0 true
       u.num 0x8000 8 < l.word 11 ∧ ((u.die 0).monitors.filter fun m => sliceOf m.addr == sliceOf 0x8000).length < 512 ∧
         ((u.poke [(0x8000, 1)]).num 0x8000 8 = l.word 11)) ∧
    (let m : Monitor := { waiter := .launch 7, id := 3, die := 0, asid := 1, addr := 0x8000, cond := .geN, wide := true, value := 1 }
     let l := { someLaunch with stage := .checked, waiting := some m }
     l.waitsig ≠ 0 ∧ l.met = false ∧ l.waiting ≠ none) ∧
    (let l := { someLaunch with blockedSince := some 0 }
     let s := { queueOf { someQueue with headLaunch := some 7 } l with now := 20000 }
     s.clustersOf 0 someQueue.asid ≠ [] ∧ ({ s with clusters := [] } : State).clustersOf 0 someQueue.asid = [] ∧
     (0 + 20000 ≤ s.now ∧ s.now - 1 < 0 + 20000) ∧ l.window = none ∧ l.coResident = false ∧
       ∃ w ∈ windowsOf (s.regionOf l) l.members, s.serves l.die w.1 l.asid = true ∧ s.overlaps 7 l.die w.1 w.2 l.members = false) ∧
    (let l := { someLaunch with stage := .eligible }
     let s := queueOf { someQueue with headLaunch := some 7 } l
     s.headsOf 0 = [7] ∧ l.gangs = l.nextGang + 1 ∧ (s.findWindow 7 l).isSome = true) ∧
    (stateOf frame0 warp0).headsOf 0 = [] ∧ (stateOf frame0 warp0).gangDone 1 = false ∧
    let s := { queueOf someQueue { someLaunch with stage := .placed } with warps := [] }
    s.gangDone 1 = true ∧ mfind s.gangs 1 = some gang1 ∧ gang1.launch = 7 ∧ 7 < s.nextId ∧ someLaunch.retired + 1 = someLaunch.gangs := by
  refine ⟨(hostReaches0 HostIf.atReset).1, ?_⟩
  decide +kernel

/-- A context at a stage of a switch that takes it off cluster 0. -/
def leaving (stage : SwitchStage) : State :=
  { stateOf frame0 warp0 with ctxs := [(1, { ctx1 with stage := stage, leaving := [0] })] }

/-- Each stage, with a warp that leaves and has nothing outstanding, a save area that exists, and a context that is off. -/
theorem witness_Switches :
    (∀ stage, ((leaving stage).ctx (ctxKey 0 1)).stage = stage ∧ warp0.cluster ∈ ((leaving stage).ctx (ctxKey 0 1)).leaving) ∧
    warp0.ofCtx 0 1 = true ∧ 0 < clusterCount 0 ∧ ((leaving .running).cluster (clusterKey 0 0)).asid = some 1 ∧
    (leaving .stopped).noPending ∧ (leaving .stopped).cores = [] ∧
    (∀ e ∈ (leaving .stopped).warps, (∀ l ∈ e.2.loads, l.lost ≠ none) ∧ e.2.copies = 0) ∧
    (∃ e ∈ (stateOf frame0 { warp0 with copies := 1 }).warps, e.2.ofCtx 0 1 = true ∧ ¬((∀ l ∈ e.2.loads, l.lost ≠ none) ∧ e.2.copies = 0)) ∧
    0 ∈ (leaving .drained).leavingNow 0 1 ∧
    rising (leaving .writtenBack).warps = true ∧ (leaving .writtenBack).warps = [(0, warp0)] ∧
    ctx1.savebase = 0 ∧ (0 : Nat) < 2 ^ 39 ∧
    (let c := { ctx1 with savebase := 8 * 2 ^ 48 + 64 }
     c.savebase ≠ 0 ∧ warp0.lanes.length ≤ 64 ∧ memoryExists (c.savebase + c.saveEnd) warp0.recordBytes = true ∧
       memoryExists (c.savebase + c.saveEnd + (warp0.recordBytes + 63) / 64 * 64) 40 = true) ∧
    (let c : Ctx := { ctx1 with stage := .cleared, leaving := [0], savedWarps := [(0, warp0)], savedGangs := [(1, gang1)] }
     let s := { State.reset with ctxs := [(1, c)], host := { HostIf.atReset with clustersUp := 24 } }
     (s.ctx 1).stage = .cleared ∧ c.savebase = 0 ∧ rising c.savedWarps = true ∧ rising c.savedGangs = true ∧
       (∀ e ∈ c.savedGangs, s.serves 0 e.2.cluster 1 = true) ∧ mfind c.savedWarps 0 = some warp0) ∧
    warp0.restart &&& 0x01FFFFFFFFFFFFFC = 0 ∧ ({ warp0 with restart := 4 } : Warp).restart &&& 0x01FFFFFFFFFFFFFC ≠ 0 := by
  refine ⟨fun stage => ⟨by cases stage <;> decide, by cases stage <;> decide⟩, ?_⟩
  unfold State.noPending
  decide

/-- A warp that waits at a recorded miss of an unmapped page, and a recorded miss of a page that is mapped by now. -/
def missWarp : Warp := { warp0 with stop := .fault (2 ^ 32) true }

def missState : State := (stateOf frame0 missWarp).setDie 0 { Die.atReset with faults := [(1, 2 ^ 16), (1, 0)] }

/-- A live context and a killed one; a frame that a context maps; a recorded miss that a warp waits at, which F3 resolves or not, and
one at a page that is mapped by then. -/
theorem witness_KillsAndMisses : State.reset.hostHears ∧ (∀ l, missState.walk 0 1 (2 ^ 32) ≠ .leaf l) ∧ (∃ l, missState.walk 0 1 0 = .leaf l) ∧ ((stateOf frame0 warp0).ctx (ctxKey 0 1)).killed = false ∧
    ({ ctx1 with killed := true } : Ctx).killed = true ∧ ctx1.bound = true ∧
    (let h := { HostIf.atReset with esize := 1 }
     (h.etail - h.ehead).toNat < 2 ^ h.esize) ∧
    rising (stateOf frame0 warp0).ctxs = true ∧ mfind (stateOf frame0 warp0).ctxs 1 = some ctx1 ∧
    (stateOf frame0 warp0).mapsFrame 1 0 = true ∧ ((stateOf frame0 warp0).die 0).hasFault 1 (2 ^ 16) = false ∧
    let w := missWarp
    let s := missState
    (s.die 0).hasFault 1 (2 ^ 16) = true ∧ (s.die 0).hasFault 1 0 = true ∧ rising s.warps = true ∧ s.launches = [] ∧ s.warp 0 = some w ∧
      w.waitsAt 0 1 (2 ^ 16) = some (2 ^ 32) ∧ w.primary = some (0x1000, 0xFFFF) ∧
      s.maps 0 1 (2 ^ 32 / pageBytes 1 * pageBytes 1) 0 1 0 = true ∧ s.maps 0 1 (2 ^ 32 / pageBytes 1 * pageBytes 1) (2 ^ 48) 1 0 = false ∧
      (s.mapLeaf 0 1 (2 ^ 32) 1 0x300000 0xF 0).isSome = true ∧ 0x300000 / 2 ^ 48 = 0 ∧
      (s.ctx 1).trapvec ≠ 0 ∧ (∀ e ∈ s.cores, e.2.mq = []) ∧ (∀ e ∈ s.warps, e.2.priv = false) ∧ s.queues = [] := by
  have h : missState.walk 0 1 (2 ^ 32) = .absent := rfl
  refine ⟨(hostReaches0 HostIf.atReset).2, fun l => by rw [h]; exact Xlat.noConfusion, ⟨_, rfl⟩, ?_⟩
  decide

def hostOn : State := { stateOf frame0 warp0 with host := { HostIf.atReset with accepting := true, esize := 4, clustersUp := 24 } }

/-- A host that takes no command, and one that does; words with a reserved bit and without; each operand a command tests: a page that may
be exported and one that is already, a die that is in no chain and one that is a member, a join through itself and through another that
is in no chain either. -/
theorem witness_HostCommands : ({ State.reset with host := hostOn.host } : State).hostHears ∧
    (hostOn.setDie 0 { Die.atReset with chain := [member0] }).knows 0 (memberId 0) = true ∧
    memberId 0 % 2 ^ 32 = memberId 0 ∧ memberId 1 % 2 ^ 32 = memberId 1 ∧
    State.reset.host.accepting = false ∧ hostOn.host.accepting = true ∧
    (2 ^ 27 : Xword).toNat / 2 ^ 27 % 2 ^ 5 ≠ 0 ∧ (2 ^ 16 : Xword).toNat / 2 ^ 27 % 2 ^ 5 = 0 ∧
    (hostOn.host.etail - hostOn.host.ehead).toNat + 1 < 2 ^ hostOn.host.esize ∧ 8 ≤ (0x800 : Nat) / 2 ^ 8 ∧
    (hostOn.ctx (ctxKey 0 1)).bound = true ∧ (hostOn.ctx (ctxKey 0 1)).killed = false ∧ (hostOn.ctx (ctxKey 0 2)).bound = false ∧
    (recQueue [2 ^ 16, 0, 0x8000, 0, 0]).sound = true ∧ (hostOn.queue (queueKey 0 0)).enable = false ∧
    (hostOn.queue (queueKey 0 0)).headLaunch = none ∧ (hostOn.queue (queueKey 0 0)).asid = 0 ∧
    hostOn.gangsOf 0 2 = [] ∧ ctx1.savedGangs = [] ∧ hostOn.knows 0 5 = false ∧ hostOn.timeOf 0 + 50000 ≤ (50000 : Xword).toNat ∧
    (49999 : Xword).toNat < hostOn.timeOf 0 + 50000 ∧ hostOn.gone 0 = false ∧ hostOn.withdrawals = [] ∧
    (∀ e ∈ hostOn.ctxs, e.2.imports = []) ∧ (0x100000 : Xword) &&& 0xFFF000000001FFFF = 0 ∧ (1 : Xword) &&& 0xFFF000000001FFFF ≠ 0 ∧
    hostOn.walk 0 1 0x8000 ≠ .absent ∧ (0x8000 : Nat) < 2 ^ 55 ∧
    hostOn.isExported 0 (0, pageBytes 1) = false ∧ hostOn.leavesExport (0, pageBytes 1) = false ∧
    ({ hostOn with ctxs := [(1, { ctx1 with handles := [(7, [(0, pageBytes 1)])] })] } : State).isExported 0 (0, pageBytes 1) = true ∧
    hostOn.knows 0 (memberId 0) = false ∧
    hostOn.chainDies (memberId 1) = [] ∧
    (({ hostOn with queues := [(0, someQueue)] } : State).queue (queueKey 0 0)).asid = 1 ∧ (hostOn.leafAddrFrom 0x8000 5 0 ctx1.ptbase.toNat).isSome = true ∧
    ({ hostOn with ctxs := [(1, { ctx1 with killed := true })] } : State).gone 0 = false ∧ hostOn.cway.reseal = .normal ∧ memoryExists (hostPa 0) 704 = true ∧
    memoryExists (hostPa (2 ^ 48 - 64)) 704 = false ∧ (∀ n, n < 8 → (hostOn.host.measure n).length = 32) ∧ hostPa 0x1000 + 704 ≤ hostPa 0x2000 := by
  have small := Config.packageNumber.isLt
  refine ⟨(hostReaches0 _).2, by simp [State.knows, State.die, State.setDie, member0, mget, mset, mput, mfind, hostOn, stateOf, State.reset, Die.atReset],
    by unfold memberId; omega, by unfold memberId; omega, ?_⟩
  decide +kernel

/-- A narrow and a misaligned write, each aperture at its last number, and each stage of boot. -/
theorem witness_HostRegistersAndResets : (∀ a, a < 10 → State.reset.hostReaches a) ∧ State.reset.channelFree 0 8 1 ∧
    (flying .carrier).cway.clear 0 1 = false ∧ (0x10000000 : Nat) ≤ 0x10000000 ∧ (4 : Nat) ≠ 8 ∧ (4 : Nat) % 8 ≠ 0 ∧ (2 ^ 63 : Xword).getLsbD 63 = true ∧
    (2 ^ 7 : Xword).toNat = 2 ^ 7 ∧ (7 : Nat) < 8 ∧ (255 : Nat) < 256 ∧ (2047 : Nat) < 2048 ∧ (0 : Nat) < clusterCount 7 ∧
    State.reset.cway.reseal = .normal ∧ ({ Causeway.atReset with reseal := .stopped none } : Causeway).reseal ≠ .normal ∧
    State.reset.host.bootStopped = false ∧ State.reset.host.bootStage = 0 ∧
    ({ HostIf.atReset with bootStage := 5 } : HostIf).accepting = false := by
  refine ⟨(hostReaches0 HostIf.atReset).1, ⟨rfl, rfl, rfl, mayInject0 0 8 1 (by decide), ?_⟩, ?_⟩
  · decide
  · decide +kernel

/-- A warp that issues, its context with a trap vector: outside a loop, before a body's end and at it, with all of the body there or not, of a
count of 3 and of 1, alone and above another entry, in supervisor mode, and within a `rep`; none of them traps with JOIN. -/
theorem witness_CompletionFrame :
    (let ok (c : Cur) (w : Warp) := (stateOf c w).warp c.warp = some w ∧ ((stateOf c w).ctx w.ctxK).trapvec ≠ 0 ∧ c.priv = w.priv ∧
       ((((stateOf c w).complete c false).warp 0).getD warp0).priv = w.priv
     let inLoop (l : List LoopEntry) : Warp := { warp0 with loops := l }
     ok frame0 warp0 ∧ ok supFrame supWarp ∧ ok frame0 (inLoop [loopAt 0x1000 0x1010 3]) ∧ ok frame1 (inLoop [loopAt 0x1000 0x1000 3]) ∧
       ok frame0 (inLoop [loopAt 0x1000 0x1000 3]) ∧ ok frame0 (inLoop [loopAt 0x1000 0x1000 1]) ∧
       ok frame0 (inLoop [loopAt 0x1000 0x1000 1, loopAt 0x1000 0x1010 3])) ∧
    (let ends (c : Cur) (e : LoopEntry) := c.pc.toNat ≤ e.stop.toNat ∧ e.stop.toNat < c.nextPc.toNat
     ¬ends frame0 (loopAt 0x1000 0x1010 3) ∧ ends frame0 (loopAt 0x1000 0x1000 3)) ∧
    frame0.lanes &&& (loopAt 0x1000 0x1010 3).inBody ≠ 0 ∧
    (∃ j, j < 64 ∧ (loopAt 0x1000 0x1000 3).inBody.getLsbD j = true ∧ ¬frame1.lanes.getLsbD j = true ∧ (warp0.lane j).stat ≠ .held) ∧
    ((loopAt 0x1000 0x1000 3).inBody ≠ 0 ∧ ∀ j, j < 64 → (loopAt 0x1000 0x1000 3).inBody.getLsbD j = true →
      j < warp0.lanes.length ∧ (frame0.lanes.getLsbD j = true ∨ (warp0.lane j).stat = .held)) ∧
    ((loopAt 0x1000 0x1010 3).stop ≠ (loopAt 0x1000 0x1000 1).stop ∧
      (loopAt 0x1000 0x1010 3).inBody &&& (loopAt 0x1000 0x1000 1).inBody ≠ 0) ∧
    ({ frame0 with inRep := true } : Cur).inRep = true ∧ frame0.inRep = false :=
  ⟨by decide +kernel, by decide, by decide, ⟨1, by decide⟩, by decide, by decide, rfl, rfl⟩

/-- A word at 0x1000, which the warp fetches. -/
def idleState (x : Nat) : State := { withCode (stateOf frame0 warp0) x 0 with cur := none }

/-- A machine with nothing to do: its clusters have started. -/
def calm : State := { State.reset with host := { HostIf.atReset with clustersUp := 24 } }

/-- Whether a translation is a leaf of a raw page that may be fetched, in memory that exists. -/
def fetchable (x : Xlat) (va : Nat) : Bool :=
  match x with
  | .leaf l => l.canFetch && l.fmt == 0 && memoryExists (l.pa + va % pageBytes l.level) 4
  | .replay | .absent | .malformed | .hole _ => false

theorem witness_StepRunsDecoded : (idleState 0).second = none ∧ ({ idleState 0 with second := some (0, 0xFFFF) } : State).second = some (0, 0xFFFF) ∧
    warp0.waitnOpen = false ∧ warp0.asyncDue = none ∧
    warp0.primary = some (0x1000, 0xFFFF) ∧ warp0.rep.busy = false ∧
    ((idleState 0x2020C085).fetchInstr warp0.coreK warp0.asid 0x1000).2 = .words 0x2020C085 none ∧
    decode 0x2020C085 none = .ok (.add 3 1 (.sreg 5)) ∧ encode (.add 3 1 (.sreg 5)) ≠ [] ∧
    (idleState 0x2020C085).pairOf 0 warp0 0x1000 0xFFFF = none ∧ firstLane 0xFFFF = some 0 ∧ (warp0.lane 0).pc = 0x1000 ∧
    calm.choices = [] ∧ ({ calm with agenda := [.nop] } : State).choices = [.outside] ∧ State.reset.choices = [.startCluster, .time] ∧
    fetchable ((idleState 0).translate 0 1 0x1000).2 0x1000 = true ∧
    mfind ((idleState 0).core 0).icache (icacheKey 1 0x1000) = none := by
  decide +kernel

/-- Lane 0 stands at an `add` and the others at an `fadd`: a pair issues, and its first half completes. -/
def pairWarp : Warp := warp0.onLanes 0xFFFE fun l => { l with pc := 0x1004 }

def pairState : State := { withCode (stateOf frame0 pairWarp) 0x4000C082 0x2020C085 with cur := none }

theorem witness_StepRunsDecoded_pair : pairWarp.primary = some (0x1004, 0xFFFE) ∧ pairWarp.waitnOpen = false ∧ pairWarp.asyncDue = none ∧ pairWarp.rep.busy = false ∧
    pairState.pairOf 0 pairWarp 0x1004 0xFFFE = some 1 ∧
    pairState.completed 0 (pairState.issueGroup 0 pairWarp 0x1004 0xFFFE pairWarp.candidates) = true := by
  decide +kernel

theorem witness_DecodeEncode : (Instr.add 3 1 (.const 62)).wf = true ∧ encode (.add 3 1 (.const 62)) = [0x2020C0FE] ∧
    fetchesNext 0x2020C0FE = false ∧ (Instr.ld .b64 6 4 0 none).wf = true ∧ encode (.ld .b64 6 4 0 none) = [0x68304003] ∧
    fetchesNext 0x68304003 = true ∧ isLiteral 0 = false ∧ (Instr.and 11 11 (.lit 255)).wf = true ∧
    encode (.and 11 11 (.lit 255)) = [0x22A2C5FF, 0xF80000FF] := by
  decide

theorem witness_StepKeepsMemory : let s := { idleState 0 with second := some (0, 0xFFFF) }
    Memory.wf s.mem = true ∧ ∃ t, step s = .next t := by
  refine ⟨by decide +kernel, next (step { idleState 0 with second := some (0, 0xFFFF) }), ?_⟩
  have h : (match step { idleState 0 with second := some (0, 0xFFFF) } with
      | .next _ => true
      | .fault _ | .refused _ => false) = true := by decide +kernel
  revert h
  cases step { idleState 0 with second := some (0, 0xFFFF) } <;> simp [next]

end Sys2Proof.Tests
end

section
/-!
PROOFS. The bitwise members `and`, `or`, `xor` and `andn` (R308, R399, R441, R309): their words as concatenated fields, what a
binary integer member writes, and the operations bit by bit.
-/

namespace Sys2Proof.Machine

/-! ### Words as concatenated fields -/

/-- A concatenation as a sum of places, the form in which `encode` builds its words. -/
theorem toNat_append_eq_add {m n : Nat} (x : BitVec m) (y : BitVec n) : (x ++ y).toNat = x.toNat * 2 ^ n + y.toNat := by
  rw [BitVec.toNat_append, ← Nat.shiftLeft_add_eq_or_of_lt y.isLt, Nat.shiftLeft_eq]

/-- The word of a vector-integer member with b a register: the S bit is 0 (03 R63). -/
theorem encV_reg (major : BitVec 6) (op : BitVec 4) (d a b : VReg) :
    encV major.toNat op.toNat d.toNat a (.reg b) = [(major ++ op ++ 0#1 ++ d ++ a ++ b).toNat] := by
  simp only [encV, encVFn, wR3, toNat_append_eq_add, BitVec.toNat_ofNat]
  congr 1
  omega

/-- The word of a scalar member with b a register: the top bit of each register field is 0 (03 R64). -/
theorem encS_reg (major : BitVec 6) (op : BitVec 4) (d a b : SReg) :
    encS major.toNat op.toNat d a (.reg b) = [(major ++ op ++ 0#1 ++ 0#1 ++ d ++ 0#1 ++ a ++ 0#1 ++ b).toNat] := by
  simp only [encS, wR3, toNat_append_eq_add, BitVec.toNat_ofNat]
  congr 1
  omega

/-! ### Binary integer members -/

/-- A binary vector member over free registers writes its operation of the operands in each executing lane (03 R63). -/
theorem writesV_vecBin {i : Instr} {s : State} {c : Cur} {w : Warp} {d a : VReg} {b : VOp} {f : Word → Word → Word}
    (h : Issues s c w) (hf : w.free ([d.toNat, a.toNat] ++ vopNames b)) (he : exec i s = s.vecBin d a b f) :
    WritesV i s c w d fun l => f (w.v a.toNat l) (w.vop l b) :=
  writesV_vec h hf _ he fun _ => rfl

/-- A binary scalar member writes its operation of the operands (03 R64). -/
theorem writesS_scalBin {i : Instr} {s : State} {c : Cur} {w : Warp} {d a : SReg} {b : SOp} {f : Xword → Xword → Xword}
    (h : Issues s c w) (he : exec i s = s.scalBin d a b f) : WritesS i s c w d (f (w.s a) (w.sop b)) :=
  writesS_scal h _ he rfl

/-! ### Operations that act bit by bit -/

/-- Each bit of the result is `op` of the operands' bits in its place. -/
def ActsBitwise {n : Nat} (op : Bool → Bool → Bool) (f : BitVec n → BitVec n → BitVec n) : Prop :=
  ∀ x y j, (f x y).getLsbD j = (decide (j < n) && op (x.getLsbD j) (y.getLsbD j))

/-- Within the width it suffices to look at the bits: beyond it every word reads 0. -/
theorem actsBitwise_of_lt {n : Nat} {op : Bool → Bool → Bool} {f : BitVec n → BitVec n → BitVec n}
    (h : ∀ x y j, j < n → (f x y).getLsbD j = op (x.getLsbD j) (y.getLsbD j)) : ActsBitwise op f := by
  intro x y j
  by_cases hj : j < n
  · simp only [h x y j hj, hj, decide_true, Bool.true_and]
  · simp only [BitVec.getLsbD_of_ge _ _ (Nat.le_of_not_lt hj), hj, decide_false, Bool.false_and]

theorem and_actsBitwise {n : Nat} : ActsBitwise (n := n) and fun x y => x &&& y :=
  actsBitwise_of_lt fun _ _ _ _ => BitVec.getLsbD_and

theorem or_actsBitwise {n : Nat} : ActsBitwise (n := n) or fun x y => x ||| y :=
  actsBitwise_of_lt fun _ _ _ _ => BitVec.getLsbD_or

theorem xor_actsBitwise {n : Nat} : ActsBitwise (n := n) xor fun x y => x ^^^ y :=
  actsBitwise_of_lt fun _ _ _ _ => BitVec.getLsbD_xor

/-- `andn` clears in A the bits that B sets (R309). -/
theorem andNot_actsBitwise {n : Nat} : ActsBitwise (n := n) (fun x y => x && !y) andNot :=
  actsBitwise_of_lt fun x y j hj => by
    simp only [andNot, BitVec.getLsbD_and, BitVec.getLsbD_not, hj, decide_true, Bool.true_and]

/-- A vector member whose operation acts bit by bit. -/
theorem writesV_bitwise {i : Instr} {s : State} {c : Cur} {w : Warp} {d a : VReg} {b : VOp} {f : Word → Word → Word}
    {op : Bool → Bool → Bool} (h : Issues s c w) (hf : w.free ([d.toNat, a.toNat] ++ vopNames b)) (hop : ActsBitwise op f)
    (he : exec i s = s.vecBin d a b f) : ∃ g : Nat → Word, WritesV i s c w d g ∧
      ∀ l j, (g l).getLsbD j = (decide (j < 32) && op ((w.v a.toNat l).getLsbD j) ((w.vop l b).getLsbD j)) :=
  ⟨_, writesV_vecBin h hf he, fun _ j => hop _ _ j⟩

/-- A scalar member whose operation acts bit by bit. -/
theorem writesS_bitwise {i : Instr} {s : State} {c : Cur} {w : Warp} {d a : SReg} {b : SOp} {f : Xword → Xword → Xword}
    {op : Bool → Bool → Bool} (h : Issues s c w) (hop : ActsBitwise op f) (he : exec i s = s.scalBin d a b f) :
    ∃ x : Xword, WritesS i s c w d x ∧
      ∀ j, x.getLsbD j = (decide (j < 64) && op ((w.s a).getLsbD j) ((w.sop b).getLsbD j)) :=
  ⟨_, writesS_scalBin h he, fun j => hop _ _ j⟩

/-- Settles O1: the words by the fields of the two formats, and each member as a binary member whose operation acts bit by
bit. -/
theorem bitwiseMembers : Obligations.BitwiseMembers := by
  refine ⟨fun d a b => ⟨encV_reg 8 10 d a b, encV_reg 8 11 d a b, encV_reg 8 12 d a b, encV_reg 9 0 d a b⟩,
    fun d a b => ⟨encS_reg 12 10 d a b, encS_reg 12 11 d a b, encS_reg 12 12 d a b, encS_reg 13 0 d a b⟩,
    by decide, fun s c w h => ⟨fun _ => rfl, fun d a b hf => ?vector, fun d a b => ?scalar⟩⟩
  case vector =>
    exact ⟨writesV_bitwise h hf and_actsBitwise rfl, writesV_bitwise h hf or_actsBitwise rfl,
      writesV_bitwise h hf xor_actsBitwise rfl, writesV_bitwise h hf andNot_actsBitwise rfl⟩
  case scalar =>
    exact ⟨writesS_bitwise h and_actsBitwise rfl, writesS_bitwise h or_actsBitwise rfl,
      writesS_bitwise h xor_actsBitwise rfl, writesS_bitwise h andNot_actsBitwise rfl⟩

end Sys2Proof.Machine
end

section
/-!
PROOFS. The sign bit members `fabs` and `fneg` (R349, R362): their words, the sign operations as masks on a code, and a unary
float member of f32 or of each half.
-/

namespace Sys2Proof.Machine

/-! ### Words of the float mould -/

/-- The word of the float mould (22 R348): the opcode fields and three vector registers in their places. -/
theorem wR3_eq_fields (major : BitVec 6) (fn : BitVec 5) (d a b : VReg) :
    [wR3 major.toNat fn.toNat d.toNat a.toNat b.toNat] = [(major ++ fn ++ d ++ a ++ b).toNat] := by
  simp only [wR3, toNat_append_eq_add]
  congr 1
  omega

/-! ### The sign of a code as a mask (04 R87) -/

/-- Clearing the sign keeps the bits of the magnitude. -/
theorem fAbs_eq_and (f : Fmt) (code : Nat) : fAbs f code = code &&& (2 ^ f.magBits - 1) :=
  (Nat.and_two_pow_sub_one_eq_mod code f.magBits).symm

/-- Flipping the sign of a code of the format leaves the magnitude; above it a code has the sign bit alone. -/
theorem fNeg_eq_xor (f : Fmt) {code : Nat} (h : code < 2 ^ (f.magBits + 1)) : fNeg f code = code ^^^ 2 ^ f.magBits := by
  unfold fNeg
  generalize f.magBits = n at h ⊢
  have flip : code ^^^ 2 ^ n = 2 ^ n * (code / 2 ^ n ^^^ 1) + code % 2 ^ n := by
    rw [← Nat.div_add_mod (code ^^^ 2 ^ n) (2 ^ n), Nat.xor_div_two_pow, Nat.xor_mod_two_pow, Nat.mod_self, Nat.xor_zero,
      Nat.div_self (Nat.two_pow_pos n)]
  have sign : code / 2 ^ n < 2 := Nat.div_lt_of_lt_mul (by rwa [← Nat.pow_succ])
  rw [flip]
  rcases Nat.le_one_iff_eq_zero_or_eq_one.1 (Nat.le_of_lt_succ sign) with positive | negative
  · simp [positive]
  · simp [negative]

/-! ### Unary float members -/

/-- One f32 operation on a word's code. -/
theorem onF32_unary {op : Nat → Nat} {x y : Word} (h : op x.toNat = y.toNat) : onF32 (fun _ a _ => op a) 0 x 0 = y := by
  rw [onF32, h, BitVec.ofNat_toNat, BitVec.setWidth_eq]

/-- An operation on each half of a word (04 R88) gives the word with those halves. -/
theorem onHalves_unary {op : Nat → Nat} {x y : Word} (hhi : op (x.toNat / 2 ^ 16) = y.toNat / 2 ^ 16)
    (hlo : op (x.toNat % 2 ^ 16) = y.toNat % 2 ^ 16) : onHalves (fun _ a _ => op a) 0 x 0 = y := by
  simp only [onHalves, hhi, hlo]
  rw [Nat.div_add_mod', BitVec.ofNat_toNat, BitVec.setWidth_eq]

/-- A unary vector member over free registers writes its operation of the operand in each executing lane. -/
theorem writesV_vecUn {i : Instr} {s : State} {c : Cur} {w : Warp} {d a : VReg} {f g : Word → Word} (h : Issues s c w)
    (hf : w.free [d.toNat, a.toNat]) (he : exec i s = s.vecUn d a f) (hg : ∀ x, f x = g x) :
    WritesV i s c w d fun l => g (w.v a.toNat l) :=
  writesV_vec h hf _ he fun l => hg (w.v a.toNat l)

/-! ### The sign operations on a lane's word -/

theorem onF32_fAbs (x : Word) : onF32 (fun _ a _ => fAbs .f32 a) 0 x 0 = x &&& 0x7FFFFFFF :=
  onF32_unary (fAbs_eq_and .f32 x.toNat)

theorem onF32_fNeg (x : Word) : onF32 (fun _ a _ => fNeg .f32 a) 0 x 0 = x ^^^ 0x80000000 :=
  onF32_unary (fNeg_eq_xor .f32 x.isLt)

/-- For both formats of a half, whose sign is bit 15. -/
theorem onHalves_fAbs {f : Fmt} (hf : f.magBits = 15) (x : Word) :
    onHalves (fun _ a _ => fAbs f a) 0 x 0 = x &&& 0x7FFF7FFF :=
  onHalves_unary
    (by rw [fAbs_eq_and, hf, BitVec.toNat_and, Nat.and_div_two_pow]; rfl)
    (by rw [fAbs_eq_and, hf, BitVec.toNat_and, Nat.and_mod_two_pow]; rfl)

theorem onHalves_fNeg {f : Fmt} (hf : f.magBits = 15) (x : Word) :
    onHalves (fun _ a _ => fNeg f a) 0 x 0 = x ^^^ 0x80008000 :=
  have hi : x.toNat / 2 ^ 16 < 2 ^ (f.magBits + 1) := by rw [hf]; omega
  have lo : x.toNat % 2 ^ 16 < 2 ^ (f.magBits + 1) := by rw [hf]; omega
  onHalves_unary
    (by rw [fNeg_eq_xor f hi, hf, BitVec.toNat_xor, Nat.xor_div_two_pow]; rfl)
    (by rw [fNeg_eq_xor f lo, hf, BitVec.toNat_xor, Nat.xor_mod_two_pow]; rfl)

/-- Settles O7: the words by the fields of the float mould, and each member as a unary one whose operation is a mask on the
sign bits. -/
theorem signBitMembers : Obligations.SignBitMembers := by
  refine ⟨⟨by decide, by decide, by decide, fun d a => ?words⟩, fun s c w d a h hf => ?writes⟩
  case words =>
    exact ⟨wR3_eq_fields 16 6 d a 0, wR3_eq_fields 17 6 d a 0, wR3_eq_fields 18 6 d a 0,
      wR3_eq_fields 16 7 d a 0, wR3_eq_fields 17 7 d a 0, wR3_eq_fields 18 7 d a 0⟩
  case writes =>
    exact ⟨writesV_vecUn h hf rfl onF32_fAbs, writesV_vecUn h hf rfl onF32_fNeg,
      writesV_vecUn h hf rfl (onHalves_fAbs rfl), writesV_vecUn h hf rfl (onHalves_fAbs rfl),
      writesV_vecUn h hf rfl (onHalves_fNeg rfl), writesV_vecUn h hf rfl (onHalves_fNeg rfl)⟩

end Sys2Proof.Machine
end

section
/-!
PROOFS. `trap`, `sysc` and `brk` (R432, R429, R321) and words that are no instruction (R59, R62). Every part of O38 holds of
a frame that names its warp's mode, as `Warp.frame` does, and is proved here by itself. The whole fails, because it asks only
that the warp issues: whether a trap ages the lanes goes by the frame's mode (`Warp.trapped`), and the kill by the warp's.
-/

namespace Sys2Proof.Machine

/-! ### Words of major MISC (03 R68) -/

/-- The fields of a word in the layout of F-R3 are what was put there (R56). -/
theorem fld_fields (major : BitVec 6) (fn : BitVec 5) (d a b : BitVec 7) :
    fld (major ++ fn ++ d ++ a ++ b).toNat 26 6 = major.toNat ∧ fld (major ++ fn ++ d ++ a ++ b).toNat 21 5 = fn.toNat ∧
      fld (major ++ fn ++ d ++ a ++ b).toNat 14 7 = d.toNat ∧ fld (major ++ fn ++ d ++ a ++ b).toNat 7 7 = a.toNat := by
  simp only [fld, toNat_append_eq_add]
  omega

/-- A non-zero field refuses the word, whichever of d and a it is. -/
theorem zero_zero_of_ne {d a : Nat} (h : d ≠ 0 ∨ a ≠ 0) (k : Decoded) : zero d (zero a k) = .error .nonZeroField := by
  unfold zero
  split
  · rw [if_neg (h.resolve_left (not_not_intro ‹d = 0›))]
  · rfl

/-- `trap`, `sysc` and `brk` have the fn codes 4, 7 and 3, zero in d and a, and the code in b. -/
theorem encode_softwareTrap (n : BitVec 7) : encode (.trap n) = [(0#6 ++ 4#5 ++ 0#7 ++ 0#7 ++ n).toNat] ∧
    encode (.sysc n) = [(0#6 ++ 7#5 ++ 0#7 ++ 0#7 ++ n).toNat] ∧ encode (.brk n) = [(0#6 ++ 3#5 ++ 0#7 ++ 0#7 ++ n).toNat] :=
  ⟨wR3_eq_fields 0 4 0 0 n, wR3_eq_fields 0 7 0 0 n, wR3_eq_fields 0 3 0 0 n⟩

/-- A word with one of these fn codes and a non-zero d or a is no instruction. -/
theorem instr_softwareTrap_of_field {fn : BitVec 5} (hf : fn = 4 ∨ fn = 7 ∨ fn = 3) {d a : BitVec 7} (h : d ≠ 0 ∨ a ≠ 0)
    (n : BitVec 7) (x : Option Nat) : (FetchedInstr.words (0#6 ++ fn ++ d ++ a ++ n).toNat x).instr = .reservedEncoding := by
  obtain ⟨hmajor, hfn, hd, ha⟩ := fld_fields 0#6 fn d a n
  have hda : d.toNat ≠ 0 ∨ a.toNat ≠ 0 :=
    h.imp BitVec.toNat_ne_iff_ne.2 BitVec.toNat_ne_iff_ne.2
  have refused : decode (0#6 ++ fn ++ d ++ a ++ n).toNat x = .error .nonZeroField := by
    rw [decode, hmajor]
    simp only [BitVec.toNat_ofNat, Nat.zero_mod, decMisc, hfn, hd, ha]
    rcases hf with rfl | rfl | rfl <;> exact zero_zero_of_ne hda _
  rw [FetchedInstr.instr, refused]

/-! ### Traps -/

/-- An instruction of either mode that does nothing but trap. -/
theorem traps_of_uses {i : Instr} {s : State} {c : Cur} {w : Warp} {next : Bool} {cause : Nat} {info : Xword}
    (h : Issues s c w) (he : exec i s = s.run (uses []) fun _ _ => .trap s cause info next) : Traps i s c next cause info :=
  he.trans (run_uses h (free_nil w) _)

/-- An instruction of user mode that does nothing but trap. -/
theorem traps_of_userOnly {i : Instr} {s : State} {c : Cur} {w : Warp} {next : Bool} {cause : Nat} {info : Xword}
    (h : Issues s c w) (hu : w.priv = false) (he : exec i s = s.run (userOnly []) fun _ _ => .trap s cause info next) :
    Traps i s c next cause info :=
  he.trans (run_userOnly h hu (free_nil w) _)

/-- Words that are no instruction trap in either mode (R62, R59). -/
theorem traps_noInstruction {s : State} {c : Cur} {w : Warp} (h : Issues s c w) :
    Traps .reservedEncoding s c false 0x01 0 ∧ Traps .literalWordAtInstructionStart s c false 0x02 0 :=
  ⟨traps_of_uses h rfl, traps_of_uses h rfl⟩

/-- A fetch that fails traps in the state that the fetch leaves (R55). -/
theorem exec_instructionFetchFault_trap {s v : State} {c : Cur} {w : Warp} {cause : Nat} {info : Xword} (h : Issues s c w)
    (hf : s.fetchInstr w.coreK w.asid c.pc.toNat = (v, .bad (.trap cause info))) :
    exec .instructionFetchFault s = .next (v.trapped c false cause info) := by
  show execInstructionFetchFault s = _
  rw [execInstructionFetchFault, run_uses h (free_nil w)]
  simp only [hf]
  rfl

/-- The detail of `sysc` is its code with bit 8 set (R429). -/
theorem or_bit8_eq_add (n : BitVec 7) : (0x100 ||| n.setWidth 64 : Xword) = BitVec.ofNat 64 (256 + n.toNat) := by
  have disjoint : 2 ^ 8 * 1 + n.toNat = 2 ^ 8 * 1 ||| n.toNat := Nat.two_pow_add_eq_or_of_lt (by omega) 1
  apply BitVec.eq_of_toNat_eq
  rw [BitVec.toNat_or, BitVec.toNat_setWidth, BitVec.toNat_ofNat, Nat.mod_eq_of_lt (by omega), Nat.mod_eq_of_lt (by omega)]
  exact disjoint.symm

/-- In user mode `trap` and `sysc` trap with SWTRAP after themselves, `brk` with BREAK at itself (R432, R429, R321). -/
theorem traps_softwareTrap {s : State} {c : Cur} {w : Warp} (h : Issues s c w) (hu : w.priv = false) (n : BitVec 7) :
    Traps (.trap n) s c true 0x0E (n.setWidth 64) ∧ Traps (.sysc n) s c true 0x0E (BitVec.ofNat 64 (256 + n.toNat)) ∧
      Traps (.brk n) s c false 0x0F (n.setWidth 64) :=
  ⟨traps_of_userOnly h hu rfl, or_bit8_eq_add n ▸ traps_of_userOnly h hu rfl, traps_of_userOnly h hu rfl⟩

/-! ### In supervisor mode (R248, R254) -/

/-- An issue that traps at itself changes the ages of its warp's lanes and its last issue, and nothing else. -/
theorem Warp.trapped_before_shape (w : Warp) (c : Cur) (issue : Nat) :
    w.trapped c false issue = { w with lanes := (w.trapped c false issue).lanes, lastIssue := issue } := by
  simp only [Warp.trapped, Bool.false_eq_true, if_false]
  split_ifs <;> rfl

/-- A cause in supervisor mode kills the context with reason 2, after the issue has counted for the warp's ages. -/
theorem trapped_sup {s : State} {c : Cur} {w : Warp} (h : Issues s c w) (hp : w.priv = true) (cause : Nat) (info : Xword) :
    ∃ k, s.trapped c false cause info =
      (({ s with cur := none, issues := s.issues + 1 } : State).setWarp c.warp (w.trapped c false (s.issues + 1))).kill
        w.die w.asid 2 k ∧ k.second = cause := by
  have warp : ({ s with cur := none, issues := s.issues + 1 } : State).warp c.warp = some w := h.warp
  have shape := Warp.trapped_before_shape w c (s.issues + 1)
  rw [State.trapped, State.trapAt, State.onWarp_some _ warp, takeTrap_kills (State.warp_setWarp_same _ _ _) (by rw [shape, hp])]
  exact ⟨_, by rw [shape], rfl⟩

/-- The software traps are of user mode only, and in supervisor mode fail the check with ILLOP. -/
theorem traps_softwareTrap_sup {s : State} {c : Cur} {w : Warp} (h : Issues s c w) (hp : w.priv = true) {n : BitVec 7}
    {i : Instr} (hi : i ∈ [Instr.trap n, .sysc n, .brk n]) : Traps i s c false 0x01 0 := by
  have illop : (userOnly []).check w = some (0x01, 0) := by simp [Needs.check, userOnly, hp]
  simp only [List.mem_cons, List.not_mem_nil, or_false] at hi
  rcases hi with rfl | rfl | rfl <;> exact run_trap h illop _

/-- Where the frame names supervisor mode too, the kill finds the warp as it issued but for its last issue, as O38 has it. -/
theorem softwareTrap_kills {s : State} {c : Cur} {w : Warp} (h : Issues s c w) (hp : w.priv = true) (hc : c.priv = true)
    {n : BitVec 7} {i : Instr} (hi : i ∈ [Instr.trap n, .sysc n, .brk n]) : ∃ k, exec i s =
      .next ((({ s with cur := none, issues := s.issues + 1 } : State).setWarp c.warp
        { w with lastIssue := s.issues + 1 }).kill w.die w.asid 2 k) ∧ k.second = 0x01 := by
  have noAges : w.trapped c false (s.issues + 1) = { w with lastIssue := s.issues + 1 } := by simp [Warp.trapped, hc]
  obtain ⟨k, hk, hsecond⟩ := trapped_sup h hp 0x01 0
  exact ⟨k, by rw [traps_softwareTrap_sup h hp hi, hk, noAges], hsecond⟩

/-! ### A frame of user mode for a warp in supervisor mode -/

/-- A kill of a context that has been killed changes nothing. -/
theorem kill_of_killed {s : State} {die asid : Nat} (h : (s.ctx (ctxKey die asid)).killed = true) (reason : Nat)
    (k : KillInfo) : s.kill die asid reason k = s := by
  simp [State.kill, h]

/-- Two lanes at an instruction, in supervisor mode. -/
def twoLaneHandler : Warp :=
  { Warp.start { die := 0, asid := 0, cluster := 0, core := 0, partition := 0, slot := 0, gang := 0, member := 0, index := 0 }
      2 0 0 with priv := true }

/-- Lane 0 issues and lane 1 is a candidate too; the frame names user mode, in which ages count (R18). -/
def userModeFrame : Cur :=
  { warp := 0, lanes := 1, cands := 3, pc := 0, trapPc := 0, nextPc := 4, priv := false, inRep := false }

/-- The warp's context has been killed, so that a kill leaves the warp to be seen. -/
def killedContextState : State :=
  { State.reset with warps := [(0, twoLaneHandler)], ctxs := [(0, { Ctx.unbound with killed := true })],
                     cur := some userModeFrame }

/-- Refutes O38: its clause on supervisor mode lets the frame name user mode. There `trap 0` ages lane 1, which waits, to 1,
and the statement leaves its age at 0. `softwareTrap_kills` is the clause for frames that name the warp's mode. -/
theorem not_softwareTraps : ¬ Obligations.SoftwareTraps := by
  rintro ⟨-, -, -, h⟩
  have issues : Issues killedContextState userModeFrame twoLaneHandler := ⟨rfl, rfl⟩
  obtain ⟨-, -, -, hmodes⟩ := h killedContextState userModeFrame twoLaneHandler issues
  obtain ⟨k, claimed, -⟩ := (hmodes 0).2 rfl (.trap 0) (by simp)
  obtain ⟨k', killed, -⟩ := trapped_sup issues rfl 0x01 0
  rw [traps_softwareTrap_sup (n := 0) issues rfl (by simp), killed, kill_of_killed rfl, kill_of_killed rfl] at claimed
  have states := Host.Outcome.next.inj claimed
  have warps := congrArg (fun t : State => (t.warp 0).map fun w => (w.lane 1).age) states
  exact absurd warps (by decide)

end Sys2Proof.Machine
end

section
/-!
PROOFS. The decoder reads back what the encoder writes (R55 to R79): the fields of a word, the words of the formats with a
literal or an extension, and one line for each shape of instruction word.
-/

namespace Sys2Proof

/-! ### Fields of a word -/

/-- The operands of `wR3` fit their fields (R56). -/
structure FitsR3 (major fn d a b : Nat) : Prop where
  major : major < 64
  fn : fn < 32
  d : d < 128
  a : a < 128
  b : b < 128

section Fields
variable {major fn d a b : Nat} (h : FitsR3 major fn d a b)
include h

theorem fld_wR3_major : fld (wR3 major fn d a b) 26 6 = major := by
  obtain ⟨hm, hf, hd, ha, hb⟩ := h
  simp only [fld, wR3]; omega

theorem fld_wR3_fn : fld (wR3 major fn d a b) 21 5 = fn := by
  obtain ⟨hm, hf, hd, ha, hb⟩ := h
  simp only [fld, wR3]; omega

theorem fld_wR3_d : fld (wR3 major fn d a b) 14 7 = d := by
  obtain ⟨hm, hf, hd, ha, hb⟩ := h
  simp only [fld, wR3]; omega

theorem fld_wR3_a : fld (wR3 major fn d a b) 7 7 = a := by
  obtain ⟨hm, hf, hd, ha, hb⟩ := h
  simp only [fld, wR3]; omega

theorem fld_wR3_b : fld (wR3 major fn d a b) 0 7 = b := by
  obtain ⟨hm, hf, hd, ha, hb⟩ := h
  simp only [fld, wR3]; omega

end Fields

/-- A field within the lowest seven bits is a field of b. -/
theorem fld_low_eq {w lo n : Nat} (h : lo + n ≤ 7) : fld w lo n = fld (fld w 0 7) lo n := by
  have split : 2 ^ 7 = 2 ^ lo * 2 ^ (7 - lo) := by rw [← pow_add]; congr 1; omega
  simp only [fld, pow_zero, Nat.div_one]
  rw [split, Nat.mod_mul_right_div_self, Nat.mod_mod_of_dvd _ (pow_dvd_pow 2 (by omega))]

/-- A field within fn is a field of fn. -/
theorem fld_fn_eq {w lo n : Nat} (h : lo + n ≤ 5) : fld w (21 + lo) n = fld (fld w 21 5) lo n := by
  have split : 2 ^ 5 = 2 ^ lo * 2 ^ (5 - lo) := by rw [← pow_add]; congr 1; omega
  simp only [fld]
  rw [split, Nat.mod_mul_right_div_self, Nat.mod_mod_of_dvd _ (pow_dvd_pow 2 (by omega)), Nat.div_div_eq_div_mul, pow_add]

/-! ### Reading back -/

/-- The words are read back as the instruction, whatever word follows a single one that no other belongs to, and a word that is
no literal after one that a literal may belong to. -/
structure ReadsBack (ws : List Nat) (i : Instr) : Prop where
  alone : ∀ w, ws = [w] → fetchesNext w = false → ∀ nx, decode w nx = .ok i
  bare : ∀ w, ws = [w] → fetchesNext w = true → ∀ x, isLiteral x = false → decode w (some x) = .ok i
  pair : ∀ w x, ws = [w, x] → fetchesNext w = true ∧ decode w (some x) = .ok i
  short : ws.length ≤ 2

/-- What no word encodes has nothing to read back. -/
theorem readsBack_nil (i : Instr) : ReadsBack [] i where
  alone _ := nofun
  bare _ := nofun
  pair _ _ := nofun
  short := by simp

theorem readsBack_single {w : Nat} {i : Instr} (h : ∀ nx, decode w nx = .ok i) : ReadsBack [w] i where
  alone := by rintro _ ⟨⟩ -; exact h
  bare := by rintro _ ⟨⟩ - x -; exact h _
  pair _ _ := nofun
  short := by simp

theorem readsBack_pair {w x : Nat} {i : Instr} (hf : fetchesNext w = true) (h : decode w (some x) = .ok i) :
    ReadsBack [w, x] i where
  alone _ := nofun
  bare _ := nofun
  pair := by rintro _ _ ⟨⟩; exact ⟨hf, h⟩
  short := by simp

/-- A word that a literal may belong to, without one. -/
theorem readsBack_bare {w : Nat} {i : Instr} (hf : fetchesNext w = true)
    (h : ∀ x, isLiteral x = false → decode w (some x) = .ok i) : ReadsBack [w] i where
  alone := by rintro _ ⟨⟩ hn; simp [hf] at hn
  bare := by rintro _ ⟨⟩ -; exact h
  pair _ _ := nofun
  short := by simp

/-! ### Literals -/

theorem isLiteral_wLit (x : BitVec 27) : isLiteral (wLit x) = true := by
  simp only [isLiteral, fld, wLit, beq_iff_eq]; omega

theorem ofNat_wLit (x : BitVec 27) : BitVec.ofNat 27 (wLit x) = x := by
  apply BitVec.eq_of_toNat_eq
  simp only [BitVec.toNat_ofNat, wLit]; omega

/-! ### Register fields -/

@[simp] theorem sreg_toNat (r : SReg) (k : SReg → Decoded) : sreg r.toNat k = k r := by
  simp [sreg, show r.toNat < 64 from r.isLt]

@[simp] theorem preg_toNat (p : PReg) (k : PReg → Decoded) : preg p.toNat k = k p := by
  simp [preg, show p.toNat < 8 from p.isLt]

@[simp] theorem zero_zero (k : Decoded) : zero 0 k = k := rfl

/-! ### Vector-integer members (R63) -/

/-- The S bit and the b field of an operand. -/
def VOp.code : VOp → Nat × Nat
  | .reg n => (0, n.toNat)
  | .sreg n => (1, n.toNat)
  | .const k => (1, 64 + k.toNat)
  | .lit _ => (1, 127)

/-- The literal word that belongs to an operand. -/
def VOp.literal : VOp → List Nat
  | .lit x => [wLit x]
  | .reg _ | .sreg _ | .const _ => []

theorem encVFn_eq (major f d : Nat) (a : VReg) (b : VOp) :
    encVFn major f d a b = wR3 major (f + b.code.1) d a.toNat b.code.2 :: b.literal := by
  cases b <;> rfl

theorem VOp.code_fits {b : VOp} (h : b.ok = true) : b.code.1 < 2 ∧ b.code.2 < 128 := by
  cases b with
  | reg n => simp only [VOp.code]; omega
  | sreg n => simp only [VOp.code]; omega
  | const k => simp only [VOp.ok, decide_eq_true_eq] at h; simp only [VOp.code]; omega
  | lit x => simp [VOp.code]

/-- The decoder's operand of a word with an operand's code, and its literal word behind it if it has one. -/
theorem vop_code {w : Nat} {b : VOp} (hb : b.ok = true) (hs : fld w 21 1 = b.code.1) (hf : fld w 0 7 = b.code.2)
    {nx : Option Nat} (hn : ∀ x ∈ b.literal, nx = some x) (k : VOp → Decoded) : vop w nx k = k b := by
  simp only [vop, hs, hf]
  cases b with
  | reg n => simp [VOp.code]
  | sreg n => simp [VOp.code, show n.toNat < 64 from n.isLt]
  | const c =>
    have : c.toNat ≤ 62 := by simpa [VOp.ok] using hb
    simp [VOp.code, show 64 + c.toNat < 127 by omega]
  | lit x => simp [VOp.code, hn (wLit x) (by simp [VOp.literal]), isLiteral_wLit, ofNat_wLit]

/-- A word that an operand's literal follows is one that the decoder fetches a second word for (R58). -/
theorem fetchesNext_lit {w : Nat} (hm : 8 ≤ fld w 26 6 ∧ fld w 26 6 ≤ 14) (hs : fld w 21 1 = 1) (hb : fld w 0 7 = 127) :
    fetchesNext w = true := by
  simp [fetchesNext, hm, hs, hb]

/-- A vector-integer instruction is read back from its words if the decoder reads its operand and then the instruction. -/
theorem readsBack_encVFn {major f d : Nat} {a : VReg} {b : VOp} {i : Instr} (hb : b.ok = true) (hm : 8 ≤ major ∧ major ≤ 14)
    (hf : f % 2 = 0 ∧ f < 32) (hd : d < 128)
    (h : ∀ w nx, fld w 26 6 = major → fld w 22 4 = f / 2 → fld w 14 7 = d → fld w 7 7 = a.toNat →
      (∀ k, vop w nx k = k b) → decode w nx = .ok i) : ReadsBack (encVFn major f d a b) i := by
  have hcode := b.code_fits hb
  have fits : FitsR3 major (f + b.code.1) d a.toNat b.code.2 := ⟨by omega, by omega, hd, by omega, hcode.2⟩
  have op : fld (wR3 major (f + b.code.1) d a.toNat b.code.2) 22 4 = f / 2 := by
    rw [show 22 = 21 + 1 from rfl, fld_fn_eq (by omega), fld_wR3_fn fits]; simp only [fld]; omega
  have s : fld (wR3 major (f + b.code.1) d a.toNat b.code.2) 21 1 = b.code.1 := by
    rw [show 21 = 21 + 0 from rfl, fld_fn_eq (by omega), fld_wR3_fn fits]; simp only [fld]; omega
  have reads {nx : Option Nat} (hn : ∀ x ∈ b.literal, nx = some x) :=
    h _ nx (fld_wR3_major fits) op (fld_wR3_d fits) (fld_wR3_a fits) fun k => vop_code hb s (fld_wR3_b fits) hn k
  rw [encVFn_eq]
  cases b with
  | reg n | sreg n | const n => exact readsBack_single fun nx => reads (by simp [VOp.literal])
  | lit x =>
    exact readsBack_pair (fetchesNext_lit (by rw [fld_wR3_major fits]; exact hm) s (fld_wR3_b fits))
      (reads (by simp [VOp.literal]))


theorem readsBack_vBinary {major op : Nat} {c : VReg → VReg → VOp → Instr} {d a : VReg} {b : VOp} (hb : b.ok = true)
    (hm : 8 ≤ major ∧ major ≤ 14) (hop : op < 16)
    (h : ∀ w nx, fld w 26 6 = major → fld w 22 4 = op → decode w nx = decVBinary w nx c) :
    ReadsBack (encV major op d.toNat a b) (c d a b) := by
  refine readsBack_encVFn hb hm (by omega) d.isLt fun w nx hmajor hfn hd ha hread => ?_
  rw [h w nx hmajor (by omega)]
  simp [decVBinary, hread, vreg, hd, ha]

/-! ### Scalar members (R64) -/

/-- The S bit and the b field of an operand. -/
def SOp.code : SOp → Nat × Nat
  | .reg n => (0, n.toNat)
  | .const k => (1, k.toNat)
  | .lit _ => (1, 127)

/-- The literal word that belongs to an operand. -/
def SOp.literal : SOp → List Nat
  | .lit x => [wLit x]
  | .reg _ | .const _ => []

theorem encS_eq (major op : Nat) (d a : SReg) (b : SOp) :
    encS major op d a b = wR3 major (2 * op + b.code.1) d.toNat a.toNat b.code.2 :: b.literal := by
  cases b <;> rfl

theorem SOp.code_fits (b : SOp) : b.code.1 < 2 ∧ b.code.2 < 128 := by
  cases b with
  | reg n => simp only [SOp.code]; omega
  | const k => simp only [SOp.code]; omega
  | lit x => simp [SOp.code]

theorem sop_code {w : Nat} {b : SOp} (hb : b.ok = true) (hs : fld w 21 1 = b.code.1) (hf : fld w 0 7 = b.code.2)
    {nx : Option Nat} (hn : ∀ x ∈ b.literal, nx = some x) (k : SOp → Decoded) : sop w nx k = k b := by
  simp only [sop, hs, hf]
  cases b with
  | reg n => simp [SOp.code]
  | const c =>
    have : c.toNat ≤ 126 := by simpa [SOp.ok] using hb
    simp [SOp.code, show c.toNat < 127 by omega]
  | lit x => simp [SOp.code, hn (wLit x) (by simp [SOp.literal]), isLiteral_wLit, ofNat_wLit]

/-- A scalar instruction is read back from its words if the decoder reads its operand and then the instruction. -/
theorem readsBack_encS {major op : Nat} {d a : SReg} {b : SOp} {i : Instr} (hb : b.ok = true) (hm : 8 ≤ major ∧ major ≤ 14)
    (hop : op < 16)
    (h : ∀ w nx, fld w 26 6 = major → fld w 22 4 = op → fld w 14 7 = d.toNat → fld w 7 7 = a.toNat →
      (∀ k, sop w nx k = k b) → decode w nx = .ok i) : ReadsBack (encS major op d a b) i := by
  have hcode := b.code_fits
  have fits : FitsR3 major (2 * op + b.code.1) d.toNat a.toNat b.code.2 := ⟨by omega, by omega, by omega, by omega, hcode.2⟩
  have hfn : fld (wR3 major (2 * op + b.code.1) d.toNat a.toNat b.code.2) 22 4 = op := by
    rw [show 22 = 21 + 1 from rfl, fld_fn_eq (by omega), fld_wR3_fn fits]; simp only [fld]; omega
  have hs : fld (wR3 major (2 * op + b.code.1) d.toNat a.toNat b.code.2) 21 1 = b.code.1 := by
    rw [show 21 = 21 + 0 from rfl, fld_fn_eq (by omega), fld_wR3_fn fits]; simp only [fld]; omega
  have reads {nx : Option Nat} (hn : ∀ x ∈ b.literal, nx = some x) :=
    h _ nx (fld_wR3_major fits) hfn (fld_wR3_d fits) (fld_wR3_a fits) fun k => sop_code hb hs (fld_wR3_b fits) hn k
  rw [encS_eq]
  cases b with
  | reg n | const n => exact readsBack_single fun nx => reads (by simp [SOp.literal])
  | lit x =>
    exact readsBack_pair (fetchesNext_lit (by rw [fld_wR3_major fits]; exact hm) hs (fld_wR3_b fits))
      (reads (by simp [SOp.literal]))

theorem readsBack_sBinary {major op : Nat} {c : SReg → SReg → SOp → Instr} {d a : SReg} {b : SOp} (hb : b.ok = true)
    (hm : 8 ≤ major ∧ major ≤ 14) (hop : op < 16)
    (h : ∀ w nx, fld w 26 6 = major → fld w 22 4 = op → decode w nx = decABinary w nx c) :
    ReadsBack (encS major op d a b) (c d a b) := by
  refine readsBack_encS hb hm hop fun w nx hmajor hfn hd ha hread => ?_
  rw [h w nx hmajor hfn]
  simp [decABinary, hread, hd, ha]

/-! ### Words without a literal -/

/-- An instruction of the F-R3 layout is read back if the decoder reads it from any word with its fields. -/
theorem readsBack_wR3 {major fn d a b : Nat} {i : Instr} (fits : FitsR3 major fn d a b := by constructor <;> omega)
    (h : ∀ w nx, fld w 26 6 = major → fld w 21 5 = fn → fld w 14 7 = d → fld w 7 7 = a → fld w 0 7 = b →
      decode w nx = .ok i) : ReadsBack [wR3 major fn d a b] i :=
  readsBack_single fun nx =>
    h _ nx (fld_wR3_major fits) (fld_wR3_fn fits) (fld_wR3_d fits) (fld_wR3_a fits) (fld_wR3_b fits)

theorem readsBack_ternary {major fn : Nat} {c : VReg → VReg → VReg → Instr} {d a b : VReg} (hm : major < 64) (hfn : fn < 32)
    (h : ∀ w nx, fld w 26 6 = major → fld w 21 5 = fn → decode w nx = decTernary w c) :
    ReadsBack [wR3 major fn d.toNat a.toNat b.toNat] (c d a b) :=
  readsBack_wR3 ⟨hm, hfn, d.isLt, a.isLt, b.isLt⟩ fun w nx hmajor hf hd ha hb => by
    rw [h w nx hmajor hf]; simp [decTernary, vreg, hd, ha, hb]

theorem readsBack_unary {major fn : Nat} {c : VReg → VReg → Instr} {d a : VReg} (hm : major < 64) (hfn : fn < 32)
    (h : ∀ w nx, fld w 26 6 = major → fld w 21 5 = fn → decode w nx = decUnary w c) :
    ReadsBack [wR3 major fn d.toNat a.toNat 0] (c d a) :=
  readsBack_wR3 ⟨hm, hfn, d.isLt, a.isLt, by omega⟩ fun w nx hmajor hf hd ha hb => by
    rw [h w nx hmajor hf]; simp [decUnary, vreg, hd, ha, hb]

/-! ### Codes of conditions, types, scopes and operations (R72 to R74) -/

theorem cmpCond_cmpCode (c : CmpCond) : cmpCond (cmpCode c) = some c ∧ cmpCode c < 16 := by cases c <;> decide
theorem fcmpCond_fcmpCode (c : FCmpCond) : fcmpCond (fcmpCode c) = some c ∧ fcmpCode c < 32 := by cases c <;> decide
theorem brsCond_brsCode (c : BrsCond) : brsCond (brsCode c) = some c ∧ brsCode c < 16 := by cases c <;> decide
theorem waitCond_waitCode (c : WaitCond) : waitCond (waitCode c) = some c ∧ waitCode c < 16 := by cases c <;> decide
theorem tyOf_tyCode (t : Ty) : tyOf (tyCode t) = some t ∧ tyCode t < 32 := by cases t <;> decide
theorem atomOp_atomCode (op : AtomOp) : atomOp (atomCode op) = some op ∧ atomCode op < 32 := by cases op <;> decide
theorem scopeOf_scopeCode (sc : Scope) : scopeOf (scopeCode sc) = some sc ∧ scopeCode sc < 8 := by cases sc <;> decide
theorem orderOf_orderCode (o : MemOrder) : orderOf (orderCode o) = o ∧ orderCode o < 4 := by cases o <;> decide
theorem bit_eq_one (b : Bool) : (bit b == 1) = b ∧ bit b < 2 := by cases b <;> decide

/-! ### Memory instructions (R69 to R71) -/

theorem isLiteral_encExt (e : MemExt) : isLiteral (encExt e) = true := by
  have := (orderOf_orderCode e.order).2
  have := (scopeOf_scopeCode e.scope).2
  have := (bit_eq_one e.inLocal).2
  simp only [isLiteral, fld, encExt, beq_iff_eq]; omega

theorem fld_encExt_order (e : MemExt) : fld (encExt e) 25 2 = orderCode e.order := by
  have := (orderOf_orderCode e.order).2
  have := (scopeOf_scopeCode e.scope).2
  have := (bit_eq_one e.inLocal).2
  simp only [fld, encExt]; omega

theorem fld_encExt_scope (e : MemExt) : fld (encExt e) 22 3 = scopeCode e.scope := by
  have := (scopeOf_scopeCode e.scope).2
  have := (bit_eq_one e.inLocal).2
  simp only [fld, encExt]; omega

theorem fld_encExt_space (e : MemExt) : fld (encExt e) 21 1 = bit e.inLocal := by
  have := (bit_eq_one e.inLocal).2
  simp only [fld, encExt]; omega

theorem fld_encExt_rcount (e : MemExt) : fld (encExt e) 17 4 = e.rcount.toNat := by
  simp only [fld, encExt]; omega

theorem fld_encExt_scale (e : MemExt) : fld (encExt e) 15 2 = e.scale.toNat := by
  simp only [fld, encExt]; omega

theorem encExt_mod_offset (e : MemExt) : encExt e % 2 ^ 15 = e.offset.toNat := by
  simp only [encExt]; omega

/-- The extension that a word with an extension's fields carries. -/
theorem memExt_of_fields {l : Nat} {e : MemExt} (hl : isLiteral l = true) (order : fld l 25 2 = orderCode e.order)
    (scope : fld l 22 3 = scopeCode e.scope) (space : fld l 21 1 = bit e.inLocal) (rcount : fld l 17 4 = e.rcount.toNat)
    (scale : fld l 15 2 = e.scale.toNat) (offset : l % 2 ^ 15 = e.offset.toNat) (k : Option MemExt → Decoded) :
    memExt (some l) k = k (some e) := by
  have hoffset : BitVec.ofNat 15 l = e.offset := by rw [← BitVec.toNat_inj, BitVec.toNat_ofNat, offset]
  simp only [memExt, hl, if_true, order, scope, space, rcount, scale, BitVec.ofNat_toNat, BitVec.setWidth_eq, hoffset, sel,
    (orderOf_orderCode e.order).1, (scopeOf_scopeCode e.scope).1, (bit_eq_one e.inLocal).1]

theorem memExt_encExt (e : MemExt) (k : Option MemExt → Decoded) : memExt (some (encExt e)) k = k (some e) :=
  memExt_of_fields (isLiteral_encExt e) (fld_encExt_order e) (fld_encExt_scope e) (fld_encExt_space e) (fld_encExt_rcount e)
    (fld_encExt_scale e) (encExt_mod_offset e) k

/-- A memory instruction is read back from its words if the decoder reads it after its extension. -/
theorem readsBack_encM {major d t : Nat} {a : SReg} {b : VReg} {ext : Option MemExt} {i : Instr}
    (hm : 26 ≤ major ∧ major ≤ 31) (hd : d < 128) (ht : t < 32)
    (h : ∀ w nx, fld w 26 6 = major → fld w 19 7 = d → fld w 12 7 = a.toNat → fld w 5 7 = b.toNat → fld w 0 5 = t →
      (∀ k, memExt nx k = k ext) → decode w nx = .ok i) : ReadsBack (encM major d a b t ext) i := by
  let w := major * 2 ^ 26 + d * 2 ^ 19 + a.toNat * 2 ^ 12 + b.toNat * 2 ^ 5 + t
  have fm : fld w 26 6 = major := by simp only [fld, w]; omega
  have fd : fld w 19 7 = d := by simp only [fld, w]; omega
  have fa : fld w 12 7 = a.toNat := by simp only [fld, w]; omega
  have fb : fld w 5 7 = b.toNat := by simp only [fld, w]; omega
  have ft : fld w 0 5 = t := by simp only [fld, w]; omega
  have fetches : fetchesNext w = true := by simp [fetchesNext, fm, hm]
  cases ext with
  | none => exact readsBack_bare fetches fun x hx => h w _ fm fd fa fb ft fun k => by simp [memExt, hx]
  | some e => exact readsBack_pair fetches (h w _ fm fd fa fb ft fun k => memExt_encExt e k)

theorem decMem_ext {nx : Option Nat} {ext : Option MemExt} (hread : ∀ k, memExt nx k = k ext) {ok : MemExt → Bool}
    (hok : extOk ok ext = true) (k : Option MemExt → Decoded) : decMem nx ok k = k ext := by
  simp [decMem, hread, hok]

theorem group_vreg {w lo n : Nat} {d : VReg} (hf : fld w lo 7 = d.toNat) (hg : groupOk d n = true) (k : VReg → Decoded) :
    group w lo n k = k d := by
  have : d.toNat + n ≤ 128 := by simpa [groupOk] using hg
  simp [group, vreg, hf, this]

/-! ### Words with fields of their own -/

/-- An instruction is read back from a word if the decoder reads it from a word by the equations for its fields. -/
theorem readsBack_word {w : Nat} {i : Instr} (h : ∀ v nx, v = w → decode v nx = .ok i) : ReadsBack [w] i :=
  readsBack_single fun nx => h w nx rfl

/-- The op and the S bit of a word are the halves of its fn (R63). -/
theorem op_of_fn {w fn : Nat} (h : fld w 21 5 = fn) : fld w 22 4 = fn / 2 ∧ fld w 21 1 = fn % 2 := by
  simp only [fld] at h ⊢; omega

/-- A unary member of VIB or SIB has op alone: S = 0 and b = 0. -/
theorem readsBack_vUnary {op : Nat} {c : VReg → VReg → Instr} {d a : VReg} (hop : op < 16)
    (h : ∀ w nx, fld w 26 6 = 9 → fld w 22 4 = op → decode w nx = decVUnary w c) :
    ReadsBack [wR3 9 (2 * op) d.toNat a.toNat 0] (c d a) :=
  readsBack_wR3 (h := fun w nx hm hf hd ha hb => by
    obtain ⟨hfn, hs⟩ := op_of_fn hf
    rw [h w nx hm (by omega)]
    simp [decVUnary, vreg, hs, hd, ha, hb])

theorem readsBack_sUnary {op : Nat} {c : SReg → SReg → Instr} {d a : SReg} (hop : op < 16)
    (h : ∀ w nx, fld w 26 6 = 13 → fld w 22 4 = op → decode w nx = decAUnary w c) :
    ReadsBack [wR3 13 (2 * op) d.toNat a.toNat 0] (c d a) :=
  readsBack_wR3 (h := fun w nx hm hf hd ha hb => by
    obtain ⟨hfn, hs⟩ := op_of_fn hf
    rw [h w nx hm (by omega)]
    simp [decAUnary, hs, hd, ha, hb])

/-- The members of XLANE with a lane or a distance in b (R419, R422). -/
theorem readsBack_lane {fn : Nat} {c : VReg → VReg → BitVec 6 → Instr} {d a : VReg} {k : BitVec 6} (hfn : fn < 32)
    (h : ∀ w nx, fld w 26 6 = 24 → fld w 21 5 = fn →
      decode w nx = zero (fld w 6 1) (.ok (c (vreg w 14) (vreg w 7) (BitVec.ofNat 6 (fld w 0 6))))) :
    ReadsBack [wR3 24 fn d.toNat a.toNat k.toNat] (c d a k) :=
  readsBack_wR3 (h := fun w nx hm hf hd ha hb => by
    have top : fld w 6 1 = 0 := by simp only [fld] at hb ⊢; omega
    have low : fld w 0 6 = k.toNat := by simp only [fld] at hb ⊢; omega
    rw [h w nx hm hf]
    simp [vreg, hd, ha, top, low])

/-- The pairs of types: `cvt`, `pack` and `unpack` (R339, R400, R434). -/
theorem readsBack_pairOf {major : Nat} {ok : Ty → Ty → Bool} {regs : Ty → Nat} {lo : Nat} {c : Ty → Ty → VReg → VReg → Instr}
    {dst src : Ty} {d a : VReg} (hm : major < 64)
    (h : ∀ w nx, fld w 26 6 = major → decode w nx = decPair w ok regs lo c) (hok : ok dst src = true)
    (hregs : ∀ w, fld w 14 7 = d.toNat → fld w 7 7 = a.toNat → fld w lo 7 + regs (if lo = 7 then dst else src) ≤ 128) :
    ReadsBack [wR3 major (tyCode dst) d.toNat a.toNat (tyCode src)] (c dst src d a) := by
  have hdst := tyOf_tyCode dst
  have hsrc := tyOf_tyCode src
  refine readsBack_wR3 (h := fun w nx hmajor hf hd ha hb => ?_)
  have top : fld w 5 2 = 0 := by simp only [fld] at hb ⊢; omega
  have low : fld w 0 5 = tyCode src := by simp only [fld] at hb ⊢; omega
  rw [h w nx hmajor]
  simp [decPair, top, low, hf, hdst.1, hsrc.1, sel, hok, hregs w hd ha, vreg, hd, ha]

theorem readsBack_fence (k : FenceKind) (mask : BitVec 4) (sc : Scope) : ReadsBack (encode (.fence k mask sc)) (.fence k mask sc) := by
  have hsc := scopeOf_scopeCode sc
  have hk : fenceCode k < 3 := by cases k <;> decide
  refine readsBack_wR3 (h := fun w nx hm hf hd ha hb => ?_)
  have scope : fld w 0 3 = scopeCode sc := by simp only [fld] at hb ⊢; omega
  have mask : BitVec.ofNat 4 (fld w 3 4) = mask := by
    rw [← BitVec.toNat_inj, BitVec.toNat_ofNat]; simp only [fld] at hb ⊢; omega
  cases k <;> simp [decode, hm, decFence, hf, fenceCode, sel, hd, ha, scope, hsc.1, mask]

/-- The BAR instructions name an object in b (R76). -/
theorem readsBack_bar {fn d a : Nat} {o : BitVec 4} {i : Instr} (hfn : fn < 32) (hd : d < 128) (ha : a < 128)
    (h : ∀ w, fld w 21 5 = fn → fld w 14 7 = d → fld w 7 7 = a → BitVec.ofNat 4 (fld w 0 4) = o → fld w 4 3 = 0 →
      decBar w = .ok i) : ReadsBack [wR3 33 fn d a o.toNat] i :=
  readsBack_wR3 (h := fun w nx hm hf hd ha hb => by
    have top : fld w 4 3 = 0 := by simp only [fld] at hb ⊢; omega
    have low : BitVec.ofNat 4 (fld w 0 4) = o := by
      rw [← BitVec.toNat_inj, BitVec.toNat_ofNat]; simp only [fld] at hb ⊢; omega
    simp only [decode, hm, h w hf hd ha low top])

theorem readsBack_waitc (c : WaitCond) (wide : Bool) (d a b : SReg) :
    ReadsBack (encode (.waitc c wide d a b)) (.waitc c wide d a b) := by
  have hc := waitCond_waitCode c
  have hw := bit_eq_one wide
  refine readsBack_wR3 (h := fun w nx hm hf hd ha hb => ?_)
  have cond : fld w 21 4 = waitCode c := by simp only [fld] at hf ⊢; omega
  have size : fld w 25 1 = bit wide := by simp only [fld] at hf ⊢; omega
  simp [decode, hm, cond, hc.1, sel, size, hw.1, hd, ha, hb]

theorem readsBack_waitn (l s c m : BitVec 5) : ReadsBack (encode (.waitn l s c m)) (.waitn l s c m) := by
  refine readsBack_word fun w nx hw => ?_
  have fm : fld w 26 6 = 35 := by simp only [fld]; omega
  have fl : fld w 21 5 = l.toNat := by simp only [fld]; omega
  have fs : fld w 16 5 = s.toNat := by simp only [fld]; omega
  have fc : fld w 11 5 = c.toNat := by simp only [fld]; omega
  have f6 : fld w 6 5 = m.toNat := by simp only [fld]; omega
  have f0 : fld w 0 6 = 0 := by simp only [fld]; omega
  simp [decode, fm, fl, fs, fc, f6, f0]

theorem readsBack_rep (n : BitVec 6) (sd sa sb : BitVec 2) : ReadsBack (encode (.rep n sd sa sb)) (.rep n sd sa sb) := by
  refine readsBack_word fun w nx hw => ?_
  have fm : fld w 26 6 = 61 := by simp only [fld]; omega
  have fn : fld w 20 6 = n.toNat := by simp only [fld]; omega
  have fd : fld w 18 2 = sd.toNat := by simp only [fld]; omega
  have fa : fld w 16 2 = sa.toNat := by simp only [fld]; omega
  have fb : fld w 14 2 = sb.toNat := by simp only [fld]; omega
  have f0 : fld w 0 14 = 0 := by simp only [fld]; omega
  simp [decode, fm, fn, fd, fa, fb, f0]

/-- `hist` has its class and its table in b. -/
theorem readsBack_hist (a : SReg) (cl : Bool) (t : BitVec 3) : ReadsBack (encode (.hist a cl t)) (.hist a cl t) := by
  have hc := bit_eq_one cl
  refine readsBack_wR3 (h := fun w nx hm hf hd ha hb => ?_)
  have top : fld w 4 3 = 0 := by simp only [fld] at hb ⊢; omega
  have mid : fld w 3 1 = bit cl := by simp only [fld] at hb ⊢; omega
  have low : BitVec.ofNat 3 (fld w 0 3) = t := by
    rw [← BitVec.toNat_inj, BitVec.toNat_ofNat]; simp only [fld] at hb ⊢; omega
  simp [decode, hm, decMatrix, hf, hd, ha, top, mid, hc.1, low]

/-! ### Branches and loops (R57) -/

/-- An offset stands in the lowest bits of its word. -/
theorem ofNat_offset {n w r : Nat} {off : BitVec n} (h : w = 2 ^ n * r + off.toNat) : BitVec.ofNat n w = off := by
  rw [← BitVec.toNat_inj, BitVec.toNat_ofNat, h, Nat.mul_add_mod, Nat.mod_eq_of_lt off.isLt]

theorem readsBack_bra (off : BitVec 26) : ReadsBack (encode (.bra off)) (.bra off) := by
  refine readsBack_word fun w nx hw => ?_
  have fm : fld w 26 6 = 1 := by simp only [fld]; omega
  have foff : BitVec.ofNat 26 w = off := ofNat_offset (r := 1) (by omega)
  simp only [decode, fm, foff]

theorem readsBack_call (off : BitVec 26) : ReadsBack (encode (.call off)) (.call off) := by
  refine readsBack_word fun w nx hw => ?_
  have fm : fld w 26 6 = 4 := by simp only [fld]; omega
  have foff : BitVec.ofNat 26 w = off := ofNat_offset (r := 4) (by omega)
  simp only [decode, fm, foff]

theorem readsBack_brs (c : BrsCond) (a : SReg) (off : BitVec 15) : ReadsBack (encode (.brs c a off)) (.brs c a off) := by
  have hc := brsCond_brsCode c
  refine readsBack_word fun w nx hw => ?_
  have fm : fld w 26 6 = 2 := by simp only [fld]; omega
  have fc : fld w 22 4 = brsCode c := by simp only [fld]; omega
  have fa : fld w 15 7 = a.toNat := by simp only [fld]; omega
  have foff : BitVec.ofNat 15 w = off := ofNat_offset (r := 4096 + brsCode c * 128 + a.toNat) (by omega)
  simp [decode, fm, fc, fa, hc.1, sel, foff]

theorem readsBack_brp (p : PReg) (inv : Bool) (off : BitVec 21) : ReadsBack (encode (.brp p inv off)) (.brp p inv off) := by
  have hi := bit_eq_one inv
  refine readsBack_word fun w nx hw => ?_
  have fm : fld w 26 6 = 3 := by simp only [fld]; omega
  have f21 : fld w 21 1 = 0 := by simp only [fld]; omega
  have fp : fld w 23 3 = p.toNat := by simp only [fld]; omega
  have fi : fld w 22 1 = bit inv := by simp only [fld]; omega
  have foff : BitVec.ofNat 21 w = off := ofNat_offset (r := 96 + p.toNat * 4 + bit inv * 2) (by omega)
  simp [decode, fm, f21, fp, fi, hi.1, foff]

theorem readsBack_enrol (j : JMask) (off : BitVec 21) : ReadsBack (encode (.enrol j off)) (.enrol j off) := by
  refine readsBack_word fun w nx hw => ?_
  have fm : fld w 26 6 = 6 := by simp only [fld]; omega
  have f21 : fld w 21 2 = 0 := by simp only [fld]; omega
  have fj : fld w 23 3 = j.toNat := by simp only [fld]; omega
  have foff : BitVec.ofNat 21 w = off := ofNat_offset (r := 192 + j.toNat * 4) (by omega)
  simp [decode, fm, f21, fj, foff]

theorem readsBack_loop (c : LoopCount) (off : BitVec 18) : ReadsBack (encode (.loop c off)) (.loop c off) := by
  have hc : loopCode c < 256 := by cases c <;> simp only [loopCode] <;> omega
  refine readsBack_word fun w nx hw => ?_
  have fm : fld w 26 6 = 7 := by simp only [fld]; omega
  have fkind : fld w 25 1 = loopCode c / 128 := by simp only [fld]; omega
  have fcount : fld w 18 7 = loopCode c % 128 := by simp only [fld]; omega
  have foff : BitVec.ofNat 18 w = off := ofNat_offset (r := 1792 + loopCode c) (by omega)
  cases c with
  | reg r =>
    have : r.toNat / 128 = 0 ∧ r.toNat % 128 = r.toNat := by omega
    simp [decode, fm, fkind, fcount, loopCode, this, foff]
  | imm k =>
    have : (128 + k.toNat) / 128 = 1 ∧ (128 + k.toNat) % 128 = k.toNat := by omega
    simp [decode, fm, fkind, fcount, loopCode, this, foff]

/-! ### Majors (R66) -/

section Majors
variable {w : Nat} {nx : Option Nat}

theorem decode_misc (h : fld w 26 6 = 0) : decode w nx = decMisc w := by simp only [decode, h]
theorem decode_VIA (h : fld w 26 6 = 8) : decode w nx = decVIA w nx := by simp only [decode, h]
theorem decode_VIB (h : fld w 26 6 = 9) : decode w nx = decVIB w nx := by simp only [decode, h]
theorem decode_SIA (h : fld w 26 6 = 12) : decode w nx = decSIA w nx := by simp only [decode, h]
theorem decode_SIB (h : fld w 26 6 = 13) : decode w nx = decSIB w nx := by simp only [decode, h]
theorem decode_VF32 (h : fld w 26 6 = 16) : decode w nx = decVF32 w := by simp only [decode, h]
theorem decode_VF16 (h : fld w 26 6 = 17) : decode w nx = decVF16 w := by simp only [decode, h]
theorem decode_VBF16 (h : fld w 26 6 = 18) : decode w nx = decVBF16 w := by simp only [decode, h]
theorem decode_SFU (h : fld w 26 6 = 20) : decode w nx = decSFU w := by simp only [decode, h]
theorem decode_XLane (h : fld w 26 6 = 24) : decode w nx = decXLane w := by simp only [decode, h]
theorem decode_pred (h : fld w 26 6 = 25) : decode w nx = decPred w := by simp only [decode, h]
theorem decode_copy (h : fld w 26 6 = 36) : decode w nx = decCopy w := by simp only [decode, h]
theorem decode_matrix (h : fld w 26 6 = 37) : decode w nx = decMatrix w := by simp only [decode, h]
theorem decode_launch (h : fld w 26 6 = 38) : decode w nx = decLaunch w := by simp only [decode, h]

end Majors

/-! ### Memory instructions, one for each major (R69 to R74) -/

theorem readsBack_ld {t : Ty} {d b : VReg} {a : SReg} {ext : Option MemExt}
    (h : t.isRegType = true ∧ extOk ldExtOk ext = true ∧ groupOk d t.regs = true) :
    ReadsBack (encode (.ld t d a b ext)) (.ld t d a b ext) :=
  readsBack_encM (by omega) d.isLt (tyOf_tyCode t).2 fun w nx hm hd ha hb ht hread => by
    simp [decode, hm, decMemory, ht, (tyOf_tyCode t).1, sel, h.1, decMem_ext hread h.2.1, ha, group_vreg hd h.2.2, vreg, hb]

theorem readsBack_st {t : Ty} {d b : VReg} {a : SReg} {ext : Option MemExt}
    (h : t.isRegType = true ∧ extOk stExtOk ext = true ∧ groupOk d t.regs = true) :
    ReadsBack (encode (.st t d a b ext)) (.st t d a b ext) :=
  readsBack_encM (by omega) d.isLt (tyOf_tyCode t).2 fun w nx hm hd ha hb ht hread => by
    simp [decode, hm, decMemory, ht, (tyOf_tyCode t).1, sel, h.1, decMem_ext hread h.2.1, ha, group_vreg hd h.2.2, vreg, hb]

theorem readsBack_atom {op : AtomOp} {d b : VReg} {a : SReg} {ext : Option MemExt}
    (h : extOk atomExtOk ext = true ∧ groupOk d op.regs = true) :
    ReadsBack (encode (.atom op d a b ext)) (.atom op d a b ext) :=
  readsBack_encM (by omega) d.isLt (atomOp_atomCode op).2 fun w nx hm hd ha hb ht hread => by
    simp [decode, hm, decMemory, ht, (atomOp_atomCode op).1, sel, decMem_ext hread h.1, ha, group_vreg hd h.2, vreg, hb]

theorem readsBack_red {op : AtomOp} {d b : VReg} {a : SReg} {ext : Option MemExt}
    (h : extOk stExtOk ext = true ∧ groupOk d op.regs = true) :
    ReadsBack (encode (.red op d a b ext)) (.red op d a b ext) :=
  readsBack_encM (by omega) d.isLt (atomOp_atomCode op).2 fun w nx hm hd ha hb ht hread => by
    simp [decode, hm, decMemory, ht, (atomOp_atomCode op).1, sel, decMem_ext hread h.1, ha, group_vreg hd h.2, vreg, hb]

theorem readsBack_cas {wide : Bool} {d b : VReg} {a : SReg} {ext : Option MemExt}
    (h : extOk atomExtOk ext = true ∧ groupOk d (if wide then 4 else 2) = true) :
    ReadsBack (encode (.cas wide d a b ext)) (.cas wide d a b ext) :=
  readsBack_encM (by omega) d.isLt (by have := (bit_eq_one wide).2; omega) fun w nx hm hd ha hb ht hread => by
    cases wide with
    | false => simp [decode, hm, decMemory, ht, bit, decMem_ext hread h.1, ha, group_vreg (n := 2) hd h.2, vreg, hb]
    | true => simp [decode, hm, decMemory, ht, bit, decMem_ext hread h.1, ha, group_vreg (n := 4) hd h.2, vreg, hb]

/-- The cache operations, whose member stands in t. -/
theorem readsBack_cacheOp {t : Nat} {c : SReg → VReg → Option MemExt → Instr} {a : SReg} {b : VReg} {ext : Option MemExt}
    (ht : t < 4) (h : extOk cacheExtOk ext = true)
    (hc : ∀ w nx, fld w 26 6 = 31 → fld w 19 7 = 0 → fld w 0 5 = t →
      decode w nx = decMem nx cacheExtOk fun ext => sreg (fld w 12 7) fun a => .ok (c a (vreg w 5) ext)) :
    ReadsBack (encM 31 0 a b t ext) (c a b ext) :=
  readsBack_encM (by omega) (by omega) (by omega) fun w nx hm hd ha hb ht hread => by
    rw [hc w nx hm hd ht]
    simp [decMem_ext hread h, ha, vreg, hb]

/-! ### Members with a further operand in fn or in d -/

/-- A member of `frnd` has its direction in fn (R364). -/
theorem readsBack_round {major : Nat} {c : RndDir → VReg → VReg → Instr} {dir : RndDir} {d a : VReg} (hm : major < 64)
    (h : ∀ w nx, fld w 26 6 = major → fld w 21 5 = 8 + rndCode dir → decode w nx = decUnary w (c dir)) :
    ReadsBack [wR3 major (8 + rndCode dir) d.toNat a.toNat 0] (c dir d a) :=
  readsBack_unary hm (by have : rndCode dir < 4 := by cases dir <;> decide
                         omega) h

theorem readsBack_mov {d : VReg} {b : VOp} (hb : b.ok = true) : ReadsBack (encode (.mov d b)) (.mov d b) :=
  readsBack_encVFn hb (by omega) (by omega) d.isLt fun w nx hm hop hd ha hread => by
    simp [decode_VIB hm, decVIB, hop, decVMov, ha, hread, vreg, hd]

theorem readsBack_movS {d : SReg} {b : SOp} (hb : b.ok = true) : ReadsBack (encode (.movS d b)) (.movS d b) :=
  readsBack_encS hb (by omega) (by omega) fun w nx hm hop hd ha hread => by
    simp [decode_SIB hm, decSIB, hop, decAMov, ha, hread, hd]

theorem readsBack_cmp {c : CmpCond} {p : PReg} {a : VReg} {b : VOp} (hb : b.ok = true) :
    ReadsBack (encode (.cmp c p a b)) (.cmp c p a b) := by
  have hc := cmpCond_cmpCode c
  refine readsBack_encVFn hb (by omega) (by omega) (by omega) fun w nx hm hop hd ha hread => ?_
  rw [Nat.mul_div_cancel_left _ (by decide)] at hop
  simp [decode, hm, hop, hc.1, sel, hread, hd, vreg, ha]

theorem readsBack_cmpS {c : CmpCond} {d a : SReg} {b : SOp} (hb : b.ok = true) :
    ReadsBack (encode (.cmpS c d a b)) (.cmpS c d a b) := by
  have hc := cmpCond_cmpCode c
  refine readsBack_encS hb (by omega) hc.2 fun w nx hm hop hd ha hread => ?_
  simp [decode, hm, hop, hc.1, sel, decABinary, hread, hd, ha]

/-- `sel` has its predicate and the inversion in fn (R417). -/
theorem readsBack_sel {p : PReg} {inv : Bool} {d a : VReg} {b : VOp} (hb : b.ok = true) :
    ReadsBack (encode (.sel p inv d a b)) (.sel p inv d a b) := by
  have hi := bit_eq_one inv
  refine readsBack_encVFn hb (by omega) (by omega) d.isLt fun w nx hm hop hd ha hread => ?_
  have fp : fld w 23 3 = p.toNat := by simp only [fld] at hop ⊢; omega
  have fi : fld w 22 1 = bit inv := by simp only [fld] at hop ⊢; omega
  simp [decode, hm, hread, fp, fi, hi.1, vreg, hd, ha]

/-! ### Every instruction -/

/-- Every well-formed instruction is read back from its words. -/
theorem readsBack_encode {i : Instr} (h : i.wf = true) : ReadsBack (encode i) i := by
  cases i with
  | add d a b | sub d a b | mul d a b | mulhiI d a b | mulhiN d a b | mad d a b | minI d a b | minN d a b | maxI d a b
  | maxN d a b | and d a b | or d a b | xor d a b | shl d a b | shr d a b | sra d a b =>
    exact readsBack_vBinary h (by omega) (by omega) fun w nx hm hop => by rw [decode_VIA hm, decVIA, hop]; rfl
  | andn d a b | rol d a b | absdI d a b | absdN d a b | bfxI d a b | bfxN d a b | bfi d a b | divI d a b | divN d a b
  | remI d a b | remN d a b =>
    exact readsBack_vBinary h (by omega) (by omega) fun w nx hm hop => by rw [decode_VIB hm, decVIB, hop]; rfl
  | addS d a b | subS d a b | mulS d a b | mulhiIS d a b | mulhiNS d a b | madS d a b | minIS d a b | minNS d a b
  | maxIS d a b | maxNS d a b | andS d a b | orS d a b | xorS d a b | shlS d a b | shrS d a b | sraS d a b =>
    exact readsBack_sBinary h (by omega) (by omega) fun w nx hm hop => by rw [decode_SIA hm, decSIA, hop]; rfl
  | andnS d a b | rolS d a b | absdIS d a b | absdNS d a b | bfxIS d a b | bfxNS d a b | bfiS d a b | divIS d a b
  | divNS d a b | remIS d a b | remNS d a b =>
    exact readsBack_sBinary h (by omega) (by omega) fun w nx hm hop => by rw [decode_SIB hm, decSIB, hop]; rfl
  | clz d a =>
    exact readsBack_vUnary (op := 4) (by omega) fun w nx hm hop => by rw [decode_VIB hm, decVIB, hop]; rfl
  | popc d a =>
    exact readsBack_vUnary (op := 5) (by omega) fun w nx hm hop => by rw [decode_VIB hm, decVIB, hop]; rfl
  | brev d a =>
    exact readsBack_vUnary (op := 6) (by omega) fun w nx hm hop => by rw [decode_VIB hm, decVIB, hop]; rfl
  | clzS d a =>
    exact readsBack_sUnary (op := 4) (by omega) fun w nx hm hop => by rw [decode_SIB hm, decSIB, hop]; rfl
  | popcS d a =>
    exact readsBack_sUnary (op := 5) (by omega) fun w nx hm hop => by rw [decode_SIB hm, decSIB, hop]; rfl
  | brevS d a =>
    exact readsBack_sUnary (op := 6) (by omega) fun w nx hm hop => by rw [decode_SIB hm, decSIB, hop]; rfl
  | mov d b => exact readsBack_mov h
  | movS d b => exact readsBack_movS h
  | cmp c p a b => exact readsBack_cmp h
  | cmpS c d a b => exact readsBack_cmpS h
  | sel p inv d a b => exact readsBack_sel h
  | fadd d a b | fsub d a b | fmul d a b | fma d a b | fmin d a b | fmax d a b | fdot2F16 d a b | fdot2Bf16 d a b =>
    exact readsBack_ternary (by omega) (by omega) fun w nx hm hf => by rw [decode_VF32 hm, decVF32, hf]; rfl
  | faddF16x2 d a b | fsubF16x2 d a b | fmulF16x2 d a b | fmaF16x2 d a b | fminF16x2 d a b | fmaxF16x2 d a b =>
    exact readsBack_ternary (by omega) (by omega) fun w nx hm hf => by rw [decode_VF16 hm, decVF16, hf]; rfl
  | faddBf16x2 d a b | fsubBf16x2 d a b | fmulBf16x2 d a b | fmaBf16x2 d a b | fminBf16x2 d a b | fmaxBf16x2 d a b =>
    exact readsBack_ternary (by omega) (by omega) fun w nx hm hf => by rw [decode_VBF16 hm, decVBF16, hf]; rfl
  | fabs d a | fneg d a =>
    exact readsBack_unary (by omega) (by omega) fun w nx hm hf => by rw [decode_VF32 hm, decVF32, hf]; rfl
  | fabsF16x2 d a | fnegF16x2 d a =>
    exact readsBack_unary (by omega) (by omega) fun w nx hm hf => by rw [decode_VF16 hm, decVF16, hf]; rfl
  | fabsBf16x2 d a | fnegBf16x2 d a =>
    exact readsBack_unary (by omega) (by omega) fun w nx hm hf => by rw [decode_VBF16 hm, decVBF16, hf]; rfl
  | frnd dir d a =>
    exact readsBack_round (c := .frnd) (by omega) fun w nx hm hf => by cases dir <;> simp only [decode_VF32 hm, decVF32, hf, rndCode]
  | frndF16x2 dir d a =>
    exact readsBack_round (c := .frndF16x2) (by omega) fun w nx hm hf => by
      cases dir <;> simp only [decode_VF16 hm, decVF16, hf, rndCode]
  | frndBf16x2 dir d a =>
    exact readsBack_round (c := .frndBf16x2) (by omega) fun w nx hm hf => by
      cases dir <;> simp only [decode_VBF16 hm, decVBF16, hf, rndCode]
  | fcmp c p a b =>
    have hc := fcmpCond_fcmpCode c
    exact readsBack_wR3 (h := fun w nx hm hf hd ha hb => by simp [decode, hm, hf, hc.1, Sys2Proof.sel, hd, ha, hb, vreg])
  | frcp d a | frsq d a | fsqrt d a | fexp2 d a | flog2 d a | fsin d a | fcos d a | ftanh d a =>
    exact readsBack_unary (by omega) (by omega) fun w nx hm hf => by rw [decode_SFU hm, decSFU, hf]; rfl
  | cvt dst src d a =>
    exact readsBack_pairOf (ok := cvtPair) (regs := fun _ => 1) (lo := 7) (by omega) (fun w nx hm => by simp only [decode, hm]) h
      fun w hd ha => by rw [ha]; omega
  | pack dst src d a =>
    obtain ⟨hp, hg⟩ : packPair dst src = true ∧ a.toNat + packCount dst ≤ 128 := by simpa [Instr.wf, groupOk] using h
    exact readsBack_pairOf (ok := packPair) (regs := packCount) (lo := 7) (by omega) (fun w nx hm => by simp only [decode, hm]) hp
      fun w hd ha => by simp [ha, hg]
  | unpack dst src d a =>
    obtain ⟨hp, hg⟩ : unpackPair dst src = true ∧ d.toNat + packCount src ≤ 128 := by simpa [Instr.wf, groupOk] using h
    exact readsBack_pairOf (ok := unpackPair) (regs := packCount) (lo := 14) (by omega) (fun w nx hm => by simp only [decode, hm]) hp
      fun w hd ha => by simp [hd, hg]
  | shfl d a b =>
    exact readsBack_ternary (by omega) (by omega) fun w nx hm hf => by rw [decode_XLane hm, decXLane, hf]; rfl
  | bcast d a k | slup d a k | sldn d a k =>
    exact readsBack_lane (by omega) fun w nx hm hf => by rw [decode_XLane hm, decXLane, hf]; rfl
  | compress d a p | expand d a p | matchLead p a | voteAny d a | voteAll d a | voteBallot d a =>
    exact readsBack_wR3 (h := fun w nx hm hf hd ha hb => by simp [decode_XLane hm, decXLane, hf, hd, ha, hb, vreg])
  | scanAddI32 d a | scanAddF32 d a | scanMaxI32 d a | scanMinI32 d a | reduceAddI32 d a | reduceAddF32 d a
  | reduceMinI32 d a | reduceMaxI32 d a | reduceMinF32 d a | reduceMaxF32 d a | matchRank d a | matchCnt d a =>
    exact readsBack_unary (by omega) (by omega) fun w nx hm hf => by rw [decode_XLane hm, decXLane, hf]; rfl
  | plog op d a b =>
    have hop : plogCode op < 4 := by cases op <;> decide
    exact readsBack_wR3 (h := fun w nx hm hf hd ha hb => by
      cases op <;> simp [decode_pred hm, decPred, hf, plogCode, hd, ha, hb])
  | pmovPFromS d a | pmovSFromP d a | pcnt d a =>
    exact readsBack_wR3 (h := fun w nx hm hf hd ha hb => by simp [decode_pred hm, decPred, hf, hd, ha, hb])
  | ld t d a b ext => exact readsBack_ld (by simpa [Instr.wf, and_assoc] using h)
  | st t d a b ext => exact readsBack_st (by simpa [Instr.wf, and_assoc] using h)
  | atom op d a b ext => exact readsBack_atom (by simpa [Instr.wf] using h)
  | red op d a b ext => exact readsBack_red (by simpa [Instr.wf] using h)
  | cas wide d a b ext => exact readsBack_cas (by simpa [Instr.wf] using h)
  | pref a b ext | keep a b ext | cinv a b ext | cwb a b ext =>
    exact readsBack_cacheOp (by omega) h fun w nx hm hd ht => by simp only [decode, hm, decMemory, hd, ht, zero_zero]
  | fence k mask sc => exact readsBack_fence k mask sc
  | barinit o d a | arrive d o | bwait d o a | bsync d o | bdrop o =>
    exact readsBack_bar (by omega) (by omega) (by omega) fun w hf hd ha ho ht => by simp [decBar, hf, hd, ha, ho, ht]
  | waitc c wide d a b => exact readsBack_waitc c wide d a b
  | waitn l s c m => exact readsBack_waitn l s c m
  | cpy d a =>
    have ha61 : a.toNat ≤ 61 := by simpa [Instr.wf] using h
    exact readsBack_wR3 (h := fun w nx hm hf hd ha hb => by simp [decode_copy hm, decCopy, hf, hd, ha, hb, ha61])
  | cpyt d a t =>
    exact readsBack_wR3 (fits := by have := (bit_eq_one t).2; constructor <;> omega)
      (h := fun w nx hm hf hd ha hb => by cases t <;> simp [decode_copy hm, decCopy, hf, hd, ha, hb, bit])
  | cpym d a | cpyx d a b | coll d a b =>
    exact readsBack_wR3 (h := fun w nx hm hf hd ha hb => by simp [decode_copy hm, decCopy, hf, hd, ha, hb])
  | mma a | mrst a | mzero a | mload a | mdrain a =>
    exact readsBack_wR3 (h := fun w nx hm hf hd ha hb => by simp [decode_matrix hm, decMatrix, hf, hd, ha, hb])
  | hist a cl t => exact readsBack_hist a cl t
  | quote d a l =>
    have hd62 : 1 ≤ d.toNat ∧ d.toNat ≤ 62 := by simpa [Instr.wf] using h
    exact readsBack_wR3 (fits := by have := (bit_eq_one l).2; constructor <;> omega)
      (h := fun w nx hm hf hd ha hb => by cases l <;> simp [decode_matrix hm, decMatrix, hf, hd, ha, hb, bit, hd62])
  | launch d a b | trigger | next d p =>
    exact readsBack_wR3 (h := fun w nx hm hf hd ha hb => by simp [decode_launch hm, decLaunch, hf, hd, ha, hb])
  | rep n sd sa sb => exact readsBack_rep n sd sa sb
  | nop | exit | yield | brk c | trap c | ret a | eret | sysc c | elect p | wbase m | lexit | strike j | park j | setsr n a =>
    exact readsBack_wR3 (h := fun w nx hm hf hd ha hb => by simp [decode_misc hm, decMisc, hf, hd, ha, hb])
  | tlbi a all =>
    exact readsBack_wR3 (fits := by have := (bit_eq_one all).2; constructor <;> omega)
      (h := fun w nx hm hf hd ha hb => by cases all <;> simp [decode_misc hm, decMisc, hf, hd, ha, hb, bit])
  | getsr d n =>
    have hn : n.toNat = 0 ∨ d.toNat < 64 := by simpa [Instr.wf, ← BitVec.toNat_inj] using h
    exact readsBack_wR3 (h := fun w nx hm hf hd ha hb => by simp [decode_misc hm, decMisc, hf, hd, ha, hb, hn])
  | bra off => exact readsBack_bra off
  | brs c a off => exact readsBack_brs c a off
  | brp p inv off => exact readsBack_brp p inv off
  | call off => exact readsBack_call off
  | jmp d a => exact readsBack_wR3 (h := fun w nx hm hf hd ha hb => by simp [decode, hm, hf, hd, ha, hb])
  | enrol j off => exact readsBack_enrol j off
  | loop c off => exact readsBack_loop c off
  | _ => exact readsBack_nil _

/-- Settles O58: each shape of instruction word is read back. -/
theorem decodeEncode : Obligations.DecodeEncode := by
  unfold Obligations.DecodeEncode
  intro i h
  obtain ⟨alone, bare, pair, short⟩ := readsBack_encode h
  exact ⟨alone, bare, pair, short⟩

end Sys2Proof
end

section
/-!
PROOFS. Sums, products, minimum, maximum and distance (R306, R307, R383, R385, R388, R394, R395, R428) as exact integers
narrowed to the register: one equation for each operation, for every width.
-/

namespace Sys2Proof.Machine

/-! ### The operations as exact integers -/

section Operations
variable {n : Nat}

theorem add_eq_ofInt (x y : BitVec n) : x + y = BitVec.ofInt n (x.toInt + y.toInt) := by
  rw [BitVec.ofInt_add, BitVec.ofInt_toInt, BitVec.ofInt_toInt]

theorem mul_eq_ofInt (x y : BitVec n) : x * y = BitVec.ofInt n (x.toInt * y.toInt) := by
  rw [BitVec.ofInt_mul, BitVec.ofInt_toInt, BitVec.ofInt_toInt]

theorem sub_eq_ofInt (x y : BitVec n) : x - y = BitVec.ofInt n (x.toInt - y.toInt) := by
  rw [Int.sub_eq_add_neg, BitVec.ofInt_add, BitVec.ofInt_neg, BitVec.ofInt_toInt, BitVec.ofInt_toInt, BitVec.sub_eq_add_neg]

theorem madd_eq_ofInt (z x y : BitVec n) : madd z x y = BitVec.ofInt n (x.toInt * y.toInt + z.toInt) := by
  rw [madd, mul_eq_ofInt, BitVec.ofInt_add, BitVec.ofInt_toInt]

/-- A word given by a natural number is that of the same integer. -/
theorem ofNat_eq_ofInt (k : Nat) : BitVec.ofNat n k = BitVec.ofInt n k := (BitVec.ofInt_natCast n k).symm

theorem mulhiSigned_eq_ofInt (x y : BitVec n) : mulhiSigned x y = BitVec.ofInt n (x.toInt * y.toInt / 2 ^ n) := rfl

theorem mulhiUnsigned_eq_ofInt (x y : BitVec n) :
    mulhiUnsigned x y = BitVec.ofInt n ((x.toNat * y.toNat / 2 ^ n : Nat) : Int) := ofNat_eq_ofInt _

theorem minSigned_eq_ofInt (x y : BitVec n) : minSigned x y = BitVec.ofInt n (min x.toInt y.toInt) := by
  rw [minSigned, BitVec.slt_eq_decide]
  by_cases h : x.toInt < y.toInt
  · rw [if_pos (decide_eq_true h), min_eq_left h.le, BitVec.ofInt_toInt]
  · rw [if_neg (by simpa using h), min_eq_right (not_lt.1 h), BitVec.ofInt_toInt]

theorem maxSigned_eq_ofInt (x y : BitVec n) : maxSigned x y = BitVec.ofInt n (max x.toInt y.toInt) := by
  rw [maxSigned, BitVec.slt_eq_decide]
  by_cases h : y.toInt < x.toInt
  · rw [if_pos (decide_eq_true h), max_eq_left h.le, BitVec.ofInt_toInt]
  · rw [if_neg (by simpa using h), max_eq_right (not_lt.1 h), BitVec.ofInt_toInt]

/-- A word is the one of its unsigned value. -/
theorem ofInt_toNat (x : BitVec n) : BitVec.ofInt n x.toNat = x := by
  rw [← ofNat_eq_ofInt, BitVec.ofNat_toNat, BitVec.setWidth_eq]

theorem minUnsigned_eq_ofInt (x y : BitVec n) : minUnsigned x y = BitVec.ofInt n (min (x.toNat : Int) y.toNat) := by
  rw [minUnsigned, BitVec.ult_eq_decide]
  by_cases h : x.toNat < y.toNat
  · rw [if_pos (decide_eq_true h), min_eq_left (Int.ofNat_le.2 h.le), ofInt_toNat]
  · rw [if_neg (by simpa using h), min_eq_right (Int.ofNat_le.2 (not_lt.1 h)), ofInt_toNat]

theorem maxUnsigned_eq_ofInt (x y : BitVec n) : maxUnsigned x y = BitVec.ofInt n (max (x.toNat : Int) y.toNat) := by
  rw [maxUnsigned, BitVec.ult_eq_decide]
  by_cases h : y.toNat < x.toNat
  · rw [if_pos (decide_eq_true h), max_eq_left (Int.ofNat_le.2 h.le), ofInt_toNat]
  · rw [if_neg (by simpa using h), max_eq_right (Int.ofNat_le.2 (not_lt.1 h)), ofInt_toNat]

/-- The same with the minimum taken of natural numbers. -/
theorem minUnsigned_eq_natCast (x y : BitVec n) : minUnsigned x y = BitVec.ofInt n (min x.toNat y.toNat : Nat) := by
  rw [minUnsigned_eq_ofInt, Nat.cast_min]

theorem maxUnsigned_eq_natCast (x y : BitVec n) : maxUnsigned x y = BitVec.ofInt n (max x.toNat y.toNat : Nat) := by
  rw [maxUnsigned_eq_ofInt, Nat.cast_max]

theorem distSigned_eq_ofInt (x y : BitVec n) : distSigned x y = BitVec.ofInt n |x.toInt - y.toInt| := by
  rw [distSigned, ofNat_eq_ofInt, Int.natCast_natAbs]

theorem distUnsigned_eq_ofInt (x y : BitVec n) : distUnsigned x y = BitVec.ofInt n |(x.toNat : Int) - y.toNat| := by
  rw [distUnsigned, ofNat_eq_ofInt, Int.natCast_natAbs]

end Operations

/-! ### Members given by an equation for their operation -/

section Members
variable {i : Instr} {s : State} {c : Cur} {w : Warp}

theorem writesV_binary {d a : VReg} {b : VOp} {f g : Word → Word → Word} (h : Issues s c w)
    (hf : w.free ([d.toNat, a.toNat] ++ vopNames b)) (he : exec i s = s.vecBin d a b f) (hg : ∀ x y, f x y = g x y) :
    WritesV i s c w d fun l => g (w.v a.toNat l) (w.vop l b) :=
  writesV_vec h hf _ he fun _ => hg _ _

theorem writesS_binary {d a : SReg} {b : SOp} {f g : Xword → Xword → Xword} (h : Issues s c w)
    (he : exec i s = s.scalBin d a b f) (hg : ∀ x y, f x y = g x y) : WritesS i s c w d (g (w.s a) (w.sop b)) :=
  writesS_scal h _ he (hg _ _)

/-- A member that reads its own register too, as `mad` and `bfi` do. -/
theorem writesV_ternary {d a : VReg} {b : VOp} {f g : Word → Word → Word → Word} (h : Issues s c w)
    (hf : w.free ([d.toNat, a.toNat] ++ vopNames b))
    (he : exec i s = s.vec ([d.toNat, a.toNat] ++ vopNames b) d fun w l => f (w.v d.toNat l) (w.v a.toNat l) (w.vop l b))
    (hg : ∀ z x y, f z x y = g z x y) : WritesV i s c w d fun l => g (w.v d.toNat l) (w.v a.toNat l) (w.vop l b) :=
  writesV_vec h hf _ he fun _ => hg _ _ _

theorem writesS_ternary {d a : SReg} {b : SOp} {f g : Xword → Xword → Xword → Xword} (h : Issues s c w)
    (he : exec i s = s.scal d fun w => f (w.s d) (w.s a) (w.sop b)) (hg : ∀ z x y, f z x y = g z x y) :
    WritesS i s c w d (g (w.s d) (w.s a) (w.sop b)) :=
  writesS_scal h _ he (hg _ _ _)

end Members

/-- Settles O2: each member writes its operation, and the operation is its exact integer narrowed. -/
theorem sumsAndProducts : Obligations.SumsAndProducts := by
  refine ⟨fun s c w h => ⟨fun d a b hf => ?products, fun d a b => ?productsS⟩,
    fun s c w h => ⟨fun d a b hf => ?orders, fun d a b => ?ordersS⟩⟩
  case products =>
    exact ⟨writesV_binary h hf rfl add_eq_ofInt, writesV_binary h hf rfl sub_eq_ofInt, writesV_binary h hf rfl mul_eq_ofInt,
      writesV_ternary h hf rfl madd_eq_ofInt, writesV_binary h hf rfl mulhiSigned_eq_ofInt,
      writesV_binary h hf rfl mulhiUnsigned_eq_ofInt⟩
  case productsS =>
    exact ⟨writesS_binary h rfl add_eq_ofInt, writesS_binary h rfl sub_eq_ofInt, writesS_binary h rfl mul_eq_ofInt,
      writesS_ternary h rfl madd_eq_ofInt, writesS_binary h rfl mulhiSigned_eq_ofInt,
      writesS_binary h rfl mulhiUnsigned_eq_ofInt⟩
  case orders =>
    exact ⟨writesV_binary h hf rfl minSigned_eq_ofInt, writesV_binary h hf rfl minUnsigned_eq_ofInt,
      writesV_binary h hf rfl maxSigned_eq_ofInt, writesV_binary h hf rfl maxUnsigned_eq_ofInt,
      writesV_binary h hf rfl distSigned_eq_ofInt, writesV_binary h hf rfl distUnsigned_eq_ofInt⟩
  case ordersS =>
    exact ⟨writesS_binary h rfl minSigned_eq_ofInt, writesS_binary h rfl minUnsigned_eq_natCast,
      writesS_binary h rfl maxSigned_eq_ofInt, writesS_binary h rfl maxUnsigned_eq_natCast,
      writesS_binary h rfl distSigned_eq_ofInt, writesS_binary h rfl distUnsigned_eq_ofInt⟩

end Sys2Proof.Machine
end

section
/-!
PROOFS. Shifts and rotates of any count (R415, R420, R421, R424): a shift is a product or a quotient by a power of two, also
where the count is the width or more, and a rotate moves each bit.
-/

namespace Sys2Proof.Machine

section Operations
variable {n : Nat}

theorem shiftLeft_eq_ofNat (x y : BitVec n) : shiftLeft x y = BitVec.ofNat n (x.toNat * 2 ^ y.toNat) := by
  rw [shiftLeft]
  split
  next => rw [← BitVec.toNat_inj, BitVec.toNat_shiftLeft, Nat.shiftLeft_eq, BitVec.toNat_ofNat]
  next h =>
    have gone : 2 ^ n ∣ x.toNat * 2 ^ y.toNat := (pow_dvd_pow 2 (not_lt.1 h)).mul_left _
    rw [← BitVec.toNat_inj, BitVec.toNat_ofNat, Nat.mod_eq_zero_of_dvd gone]
    rfl

theorem shiftRight_eq_ofNat (x y : BitVec n) : shiftRight x y = BitVec.ofNat n (x.toNat / 2 ^ y.toNat) := by
  have fits : x.toNat / 2 ^ y.toNat < 2 ^ n := (Nat.div_le_self ..).trans_lt x.isLt
  rw [shiftRight]
  split
  next =>
    rw [← BitVec.toNat_inj, BitVec.toNat_ushiftRight, Nat.shiftRight_eq_div_pow, BitVec.toNat_ofNat, Nat.mod_eq_of_lt fits]
  next h =>
    have gone : x.toNat / 2 ^ y.toNat = 0 :=
      Nat.div_eq_of_lt (x.isLt.trans_le (Nat.pow_le_pow_right two_pos (not_lt.1 h)))
    rw [gone]
    rfl

/-- From the width on nothing but the sign is left of a word's value. -/
theorem toInt_ediv_of_le (x : BitVec n) {k : Nat} (h : n ≤ k) : x.toInt / 2 ^ k = if x.toInt < 0 then -1 else 0 := by
  have bound : (2 : Int) ^ n ≤ 2 ^ k := pow_le_pow_right₀ (by decide) h
  have pos : (0 : Int) < 2 ^ n := by positivity
  have hi : x.toInt < 2 ^ k := by have := x.two_mul_toInt_lt; linarith
  have lo : -2 ^ k ≤ x.toInt := by have := x.le_two_mul_toInt; linarith
  split
  next neg =>
    rw [Int.ediv_eq_iff_of_pos (by positivity)]
    constructor <;> linarith
  next nonneg => exact Int.ediv_eq_zero_of_lt (not_lt.1 nonneg) hi

theorem shiftArith_eq_ofInt (x y : BitVec n) : shiftArith x y = BitVec.ofInt n (x.toInt / 2 ^ y.toNat) := by
  have quotient : (shiftArith x y).toInt = x.toInt / 2 ^ y.toNat := by
    rw [shiftArith, BitVec.toInt_sshiftRight, Int.shiftRight_eq_div_pow]
    push_cast
    rcases le_total y.toNat n with h | h
    · rw [min_eq_left h]
    · rw [min_eq_right h, toInt_ediv_of_le x h, toInt_ediv_of_le x le_rfl]
  rw [← quotient, BitVec.ofInt_toInt]

/-- Bit k moves to bit (k + B) mod N. -/
theorem getLsbD_rotate (x y : BitVec n) {k : Nat} (hk : k < n) :
    (rotate x y).getLsbD ((k + y.toNat) % n) = x.getLsbD k := by
  have hn : 0 < n := by omega
  have hr := Nat.mod_lt y.toNat hn
  rw [rotate, BitVec.getLsbD_rotateLeft, Nat.mod_mod, cond_eq_ite, ← Nat.add_mod_mod]
  by_cases wraps : k + y.toNat % n < n
  · rw [Nat.mod_eq_of_lt wraps, if_neg (by simp), decide_eq_true wraps, Bool.true_and, Nat.add_sub_cancel]
  · rw [Nat.mod_eq_sub_mod (not_lt.1 wraps), Nat.mod_eq_of_lt (by omega), if_pos (decide_eq_true (by omega))]
    congr 1
    omega

/-- The shifts as integers. -/
theorem shiftLeft_eq_ofInt (x y : BitVec n) : shiftLeft x y = BitVec.ofInt n (x.toNat * 2 ^ y.toNat) := by
  rw [shiftLeft_eq_ofNat, ofNat_eq_ofInt]; push_cast; rfl

theorem shiftRight_eq_ofInt (x y : BitVec n) : shiftRight x y = BitVec.ofInt n (x.toNat / 2 ^ y.toNat) := by
  rw [shiftRight_eq_ofNat, ofNat_eq_ofInt]; push_cast; rfl

end Operations

/-- Settles O3: each shift by its product or quotient, and `rol` bit by bit. -/
theorem shiftsAndRotates : Obligations.ShiftsAndRotates := by
  refine fun s c w h => ⟨fun d a b hf => ?vector, fun d a b => ?scalar⟩
  case vector =>
    exact ⟨writesV_binary h hf rfl shiftLeft_eq_ofInt, writesV_binary h hf rfl shiftRight_eq_ofInt,
      writesV_binary h hf rfl shiftArith_eq_ofInt, _, writesV_vecBin h hf rfl, fun _ _ hk => getLsbD_rotate _ _ hk⟩
  case scalar =>
    exact ⟨writesS_binary h rfl shiftLeft_eq_ofNat, writesS_binary h rfl shiftRight_eq_ofNat,
      writesS_binary h rfl shiftArith_eq_ofInt, _, writesS_scalBin h rfl, fun _ hk => getLsbD_rotate _ _ hk⟩

end Sys2Proof.Machine
end

section
/-!
PROOFS. Bit fields and bit counts (R317, R318, R320, R329, R406): the operations bit by bit, for every width, and the counts.
-/

namespace Sys2Proof.Machine

section Operations
variable {n : Nat}

/-! ### Fields -/

theorem getLsbD_ofNat_mask {k : Nat} (hk : k < n) (len pos : Nat) :
    (BitVec.ofNat n ((2 ^ len - 1) * 2 ^ pos)).getLsbD k = decide (pos ≤ k ∧ k < pos + len) := by
  rw [BitVec.getLsbD_ofNat, Nat.testBit_mul_two_pow, Nat.testBit_two_pow_sub_one]
  simp only [hk, decide_true, Bool.true_and]
  rw [← Bool.decide_and]
  exact decide_eq_decide.2 (by omega)

theorem getLsbD_fieldInsert (d x y : BitVec n) {k : Nat} (hk : k < n) : (fieldInsert d x y).getLsbD k =
    if fieldPos y ≤ k ∧ k < fieldPos y + fieldLen y then x.getLsbD (k - fieldPos y) else d.getLsbD k := by
  simp only [fieldInsert, BitVec.getLsbD_or, BitVec.getLsbD_and, BitVec.getLsbD_not, BitVec.getLsbD_shiftLeft,
    getLsbD_ofNat_mask hk, hk, decide_true, Bool.true_and]
  by_cases inside : fieldPos y ≤ k ∧ k < fieldPos y + fieldLen y
  · simp [inside]
  · simp [inside]

theorem getLsbD_fieldUnsigned (x y : BitVec n) {k : Nat} (hk : k < n) :
    (fieldUnsigned x y).getLsbD k = (decide (k < fieldLen y) && x.getLsbD (fieldPos y + k)) := by
  have mask := getLsbD_ofNat_mask hk (fieldLen y) 0
  simp only [pow_zero, mul_one, Nat.zero_le, true_and, Nat.zero_add] at mask
  rw [fieldUnsigned, BitVec.getLsbD_and, BitVec.getLsbD_ushiftRight, mask, Bool.and_comm]

/-- An arithmetic shift right repeats the top bit. -/
theorem getLsbD_sshiftRight_min (x : BitVec n) (m : Nat) {k : Nat} (hk : k < n) :
    (x.sshiftRight m).getLsbD k = x.getLsbD (min (n - 1) (m + k)) := by
  rw [BitVec.getLsbD_sshiftRight, decide_eq_false (by omega), Bool.not_false, Bool.true_and]
  split
  · rw [min_eq_right (by omega)]
  · rw [min_eq_left (by omega), BitVec.msb_eq_getLsbD_last]

theorem getLsbD_fieldSigned (x y : BitVec n) {k : Nat} (hk : k < n) : (fieldSigned x y).getLsbD k =
    (decide (0 < fieldLen y) && x.getLsbD (min (n - 1) (fieldPos y + min k (fieldLen y - 1)))) := by
  rw [fieldSigned]
  split
  next empty => simp [empty]
  next nonempty =>
    have fits : fieldLen y ≤ n := min_le_right _ _
    have top : n - fieldLen y ≤ min (n - 1) (n - fieldLen y + k) := by omega
    have place : min (n - 1) (n - fieldLen y + k) - (n - fieldLen y) = min k (fieldLen y - 1) := by omega
    rw [getLsbD_sshiftRight_min _ _ hk, BitVec.getLsbD_shiftLeft, decide_eq_true (show _ < n by omega),
      decide_eq_false (not_lt.2 top), place, getLsbD_sshiftRight_min _ _ (show min k (fieldLen y - 1) < n by omega),
      decide_eq_true (Nat.pos_of_ne_zero nonempty)]
    rfl

/-! ### Counts and reversal -/

theorem getLsbD_bitReverse (x : BitVec n) {k : Nat} (hk : k < n) : (bitReverse x).getLsbD k = x.getLsbD (n - 1 - k) := by
  rw [bitReverse, BitVec.getLsbD_reverse, BitVec.getMsbD, decide_eq_true hk, Bool.true_and]

/-- The numbers below n with a property, counted in a list and in a set. -/
theorem length_filter_range_eq_card (p : Nat → Bool) :
    ((List.range n).filter p).length = (Finset.univ.filter fun k : Fin n => p k = true).card := by
  have range : ((List.range n).filter p).length = ((Finset.range n).filter fun k => p k = true).card := by
    simp [Finset.card, Finset.filter_val, Finset.range_val, Multiset.range]
  rw [range, ← Nat.Iio_eq_range, ← Fin.map_valEmbedding_univ, Finset.filter_map, Finset.card_map]
  rfl

theorem bitCount_eq_card (x : BitVec n) :
    bitCount x = BitVec.ofNat n (Finset.univ.filter fun k : Fin n => x.getLsbD k = true).card := by
  rw [bitCount, length_filter_range_eq_card]

/-- No bit of a word is set above the highest one, whose place is the logarithm. -/
theorem getMsbD_lt_log2 (x : BitVec n) {k : Nat} (hk : k < n - 1 - x.toNat.log2) : x.getMsbD k = false := by
  rw [BitVec.getMsbD, Bool.and_eq_false_iff]
  right
  exact Nat.testBit_lt_two_pow (Nat.lt_log2_self.trans_le (Nat.pow_le_pow_right two_pos (by omega)))

theorem leadingZeros_eq_log2 (x : BitVec n) :
    leadingZeros x = BitVec.ofNat n (if x.toNat = 0 then n else n - 1 - Nat.log2 x.toNat) := by
  rw [leadingZeros]
  congr 1
  split
  next zero =>
    have none : (List.range n).find? (fun k => x.getMsbD k) = none := by
      rw [List.find?_eq_none]
      intro k _
      rw [show x = 0#n from BitVec.eq_of_toNat_eq zero]
      simp
    rw [none, Option.getD_none]
  next nonzero =>
    have small : x.toNat.log2 < n := (Nat.log2_lt nonzero).2 x.isLt
    have first : (List.range n).find? (fun k => x.getMsbD k) = some (n - 1 - x.toNat.log2) := by
      rw [List.find?_range_eq_some]
      refine ⟨?_, by simp; omega, fun k hk => by simp [getMsbD_lt_log2 x hk]⟩
      rw [BitVec.getMsbD, decide_eq_true (by omega), Bool.true_and, show n - 1 - (n - 1 - x.toNat.log2) = x.toNat.log2 by omega]
      exact Nat.testBit_log2 nonzero
    rw [first, Option.getD_some]

end Operations

/-- Settles O4: the fields bit by bit, and the counts. -/
theorem bitFieldsAndCounts : Obligations.BitFieldsAndCounts := by
  refine fun s c w h => ⟨fun d a b hf => ?fields, fun d a hf => ?counts, fun d a b => ?fieldsS, fun d a => ?countsS⟩
  case fields =>
    exact ⟨⟨_, writesV_ternary h hf rfl fun _ _ _ => rfl, fun _ _ hk => getLsbD_fieldInsert _ _ _ hk⟩,
      ⟨_, writesV_vecBin h hf rfl, fun _ _ hk => getLsbD_fieldUnsigned _ _ hk⟩,
      _, writesV_vecBin h hf rfl, fun _ _ hk => getLsbD_fieldSigned _ _ hk⟩
  case counts =>
    exact ⟨writesV_vecUn h hf rfl leadingZeros_eq_log2, writesV_vecUn h hf rfl bitCount_eq_card,
      _, writesV_vecUn h hf rfl fun _ => rfl, fun _ _ hk => getLsbD_bitReverse _ hk⟩
  case fieldsS =>
    exact ⟨⟨_, writesS_ternary h rfl fun _ _ _ => rfl, fun _ hk => getLsbD_fieldInsert _ _ _ hk⟩,
      ⟨_, writesS_scalBin h rfl, fun _ hk => getLsbD_fieldUnsigned _ _ hk⟩,
      _, writesS_scalBin h rfl, fun _ hk => getLsbD_fieldSigned _ _ hk⟩
  case countsS =>
    exact ⟨writesS_scal h _ rfl (leadingZeros_eq_log2 _), writesS_scal h _ rfl (bitCount_eq_card _),
      _, writesS_scal h _ rfl rfl, fun _ hk => getLsbD_bitReverse _ hk⟩

end Sys2Proof.Machine
end

section
/-!
PROOFS. Division and remainder (R85, R342, R412): the quotient and the remainder of each pair of operations against the
division law, for every width.
-/

namespace Sys2Proof.Machine

section Operations
variable {n : Nat}

/-! ### Unsigned -/

theorem divUnsigned_zero (x : BitVec n) : divUnsigned x 0 = BitVec.allOnes n := if_pos rfl

theorem remUnsigned_zero (x : BitVec n) : remUnsigned x 0 = x := if_pos rfl

theorem toNat_divUnsigned (x : BitVec n) {y : BitVec n} (hy : y ≠ 0) : (divUnsigned x y).toNat = x.toNat / y.toNat := by
  rw [divUnsigned, if_neg hy, BitVec.toNat_ofNat, Nat.mod_eq_of_lt ((Nat.div_le_self ..).trans_lt x.isLt)]

theorem toNat_remUnsigned (x : BitVec n) {y : BitVec n} (hy : y ≠ 0) : (remUnsigned x y).toNat = x.toNat % y.toNat := by
  rw [remUnsigned, if_neg hy, BitVec.toNat_ofNat, Nat.mod_eq_of_lt ((Nat.mod_le ..).trans_lt x.isLt)]

theorem toNat_pos {y : BitVec n} (hy : y ≠ 0) : 0 < y.toNat :=
  Nat.pos_of_ne_zero fun h => hy (BitVec.eq_of_toNat_eq h)

theorem divisionLaw_unsigned (x : BitVec n) {y : BitVec n} (hy : y ≠ 0) :
    x.toNat = (divUnsigned x y).toNat * y.toNat + (remUnsigned x y).toNat ∧ (remUnsigned x y).toNat < y.toNat := by
  rw [toNat_divUnsigned x hy, toNat_remUnsigned x hy]
  exact ⟨(Nat.div_add_mod' ..).symm, Nat.mod_lt _ (toNat_pos hy)⟩

/-! ### Signed -/

theorem divSigned_zero (x : BitVec n) : divSigned x 0 = BitVec.allOnes n := if_pos rfl

theorem remSigned_zero (x : BitVec n) : remSigned x 0 = x := if_pos rfl

theorem toInt_ne_zero {y : BitVec n} (hy : y ≠ 0) : y.toInt ≠ 0 := fun h => hy (BitVec.eq_of_toInt_eq (h.trans (by simp)))

/-- The signed range of a word. -/
theorem toInt_ofInt_of_range (hn : 0 < n) {k : Int} (lo : -2 ^ (n - 1) ≤ k) (hi : k < 2 ^ (n - 1)) :
    (BitVec.ofInt n k).toInt = k := by
  have double : (2 : Int) ^ n = 2 * 2 ^ (n - 1) := by rw [← pow_succ', Nat.sub_add_cancel hn]
  rw [BitVec.toInt_ofInt, Int.bmod_eq_of_le]
  · push_cast; omega
  · push_cast; omega

theorem toInt_range (hn : 0 < n) (x : BitVec n) : -2 ^ (n - 1) ≤ x.toInt ∧ x.toInt < 2 ^ (n - 1) := by
  have double : (2 : Int) ^ n = 2 * 2 ^ (n - 1) := by rw [← pow_succ', Nat.sub_add_cancel hn]
  have := x.le_two_mul_toInt
  have := x.two_mul_toInt_lt
  constructor <;> linarith

/-- The quotient of the lowest value and -1 is out of range and wraps to the lowest value; its remainder is 0. -/
theorem divSigned_overflow (hn : 0 < n) {x y : BitVec n} (hy : y ≠ 0) (hx : x.toInt = -2 ^ (n - 1)) (h1 : y.toInt = -1) :
    divSigned x y = x ∧ remSigned x y = 0 := by
  have double : (2 : Int) ^ n = 2 * 2 ^ (n - 1) := by rw [← pow_succ', Nat.sub_add_cancel hn]
  constructor
  · rw [divSigned, if_neg hy, h1, hx, Int.tdiv_neg, Int.neg_tdiv, neg_neg, Int.tdiv_one, ← BitVec.ofInt_toInt (x := x), hx]
    apply BitVec.eq_of_toInt_eq
    rw [BitVec.toInt_ofInt, BitVec.toInt_ofInt]
    have wraps : (2 : Int) ^ (n - 1) = -2 ^ (n - 1) + (2 ^ n : Nat) := by push_cast; omega
    conv_lhs => rw [wraps, Int.add_bmod_right]
  · rw [remSigned, if_neg hy, h1, Int.tmod_neg, Int.tmod_one]
    rfl

theorem toInt_divSigned (hn : 0 < n) {x y : BitVec n} (hy : y ≠ 0) (h : ¬(x.toInt = -2 ^ (n - 1) ∧ y.toInt = -1)) :
    (divSigned x y).toInt = x.toInt.tdiv y.toInt := by
  obtain ⟨lo, hi⟩ := toInt_range hn x
  have range : -2 ^ (n - 1) ≤ x.toInt.tdiv y.toInt ∧ x.toInt.tdiv y.toInt < 2 ^ (n - 1) := by
    rcases eq_or_ne y.toInt (-1) with hneg | hneg
    · rw [hneg, Int.tdiv_neg, Int.tdiv_one]
      have : x.toInt ≠ -2 ^ (n - 1) := fun hx => h ⟨hx, hneg⟩
      omega
    rcases eq_or_ne y.toInt 1 with hone | hone
    · rw [hone, Int.tdiv_one]
      exact ⟨lo, hi⟩
    · have two : 2 ≤ y.toInt.natAbs := by have := toInt_ne_zero hy; omega
      have half : (x.toInt.tdiv y.toInt).natAbs * 2 ≤ x.toInt.natAbs := by
        rw [Int.natAbs_tdiv]
        exact (Nat.mul_le_mul_left _ two).trans (Nat.div_mul_le_self ..)
      have : (0 : Int) < 2 ^ (n - 1) := by positivity
      omega
  rw [divSigned, if_neg hy, toInt_ofInt_of_range hn range.1 range.2]

theorem toInt_remSigned (hn : 0 < n) (x : BitVec n) {y : BitVec n} (hy : y ≠ 0) :
    (remSigned x y).toInt = x.toInt.tmod y.toInt := by
  obtain ⟨lo, hi⟩ := toInt_range hn y
  have size := Int.natAbs_tmod x.toInt y.toInt ▸ Nat.mod_lt x.toInt.natAbs (Int.natAbs_pos.2 (toInt_ne_zero hy))
  rw [remSigned, if_neg hy, toInt_ofInt_of_range hn (by omega) (by omega)]

theorem tmod_mul_nonneg (x y : Int) : 0 ≤ x.tmod y * x := by
  rcases le_total 0 x with h | h
  · exact mul_nonneg (Int.tmod_nonneg y h) h
  · have flip : (-x).tmod y = -x.tmod y := Int.neg_tmod ..
    exact mul_nonneg_of_nonpos_of_nonpos (by have := Int.tmod_nonneg y (neg_nonneg.2 h); omega) h

theorem divisionLaw_signed (hn : 0 < n) {x y : BitVec n} (hy : y ≠ 0) (h : ¬(x.toInt = -2 ^ (n - 1) ∧ y.toInt = -1)) :
    x.toInt = (divSigned x y).toInt * y.toInt + (remSigned x y).toInt ∧ |(remSigned x y).toInt| < |y.toInt| ∧
      0 ≤ (remSigned x y).toInt * x.toInt := by
  rw [toInt_divSigned hn hy h, toInt_remSigned hn x hy]
  refine ⟨(Int.tdiv_mul_add_tmod ..).symm, ?_, tmod_mul_nonneg ..⟩
  rw [← Int.natCast_natAbs, ← Int.natCast_natAbs, Int.natAbs_tmod]
  exact_mod_cast Nat.mod_lt _ (Int.natAbs_pos.2 (toInt_ne_zero hy))

/-! ### The law -/

/-- R342 and R412 for one pair of operands. -/
theorem divisionLaw_of_operands (hn : 0 < n) (x y : BitVec n) :
    (y = 0 → divSigned x y = BitVec.allOnes n ∧ divUnsigned x y = BitVec.allOnes n ∧ remSigned x y = x ∧ remUnsigned x y = x) ∧
    (x.toInt = -2 ^ (n - 1) → y.toInt = -1 → divSigned x y = x ∧ remSigned x y = 0) ∧
    (y ≠ 0 → x.toNat = (divUnsigned x y).toNat * y.toNat + (remUnsigned x y).toNat ∧ (remUnsigned x y).toNat < y.toNat) ∧
    (y ≠ 0 → ¬(x.toInt = -2 ^ (n - 1) ∧ y.toInt = -1) →
      x.toInt = (divSigned x y).toInt * y.toInt + (remSigned x y).toInt ∧ |(remSigned x y).toInt| < |y.toInt| ∧
        0 ≤ (remSigned x y).toInt * x.toInt) := by
  refine ⟨?_, fun hx h1 => ?_, divisionLaw_unsigned x, divisionLaw_signed hn⟩
  · rintro rfl
    exact ⟨divSigned_zero x, divUnsigned_zero x, remSigned_zero x, remUnsigned_zero x⟩
  · exact divSigned_overflow hn (fun hy => by simp [hy] at h1) hx h1

end Operations

/-- Settles O5: each member writes its operation, and the operations keep the division law. -/
theorem divisionLaw : Obligations.DivisionLaw := by
  refine fun s c w h => ⟨fun d a b hf => ?vector, fun d a b => ?scalar⟩
  case vector =>
    exact ⟨_, _, _, _, writesV_vecBin h hf rfl, writesV_vecBin h hf rfl, writesV_vecBin h hf rfl, writesV_vecBin h hf rfl,
      fun _ => divisionLaw_of_operands (n := 32) (by decide) _ _⟩
  case scalar =>
    exact ⟨_, _, _, _, writesS_scalBin h rfl, writesS_scalBin h rfl, writesS_scalBin h rfl, writesS_scalBin h rfl,
      divisionLaw_of_operands (n := 64) (by decide) _ _⟩

end Sys2Proof.Machine
end

section
/-!
PROOFS. `cmp`, `mov` and `sel` (R330, R392, R417): the conditions as relations of the values, and what the members write.
-/

namespace Sys2Proof.Machine

/-! ### The conditions of `cmp` -/

/-- The relation that a condition tests. -/
def CmpCond.rel {n : Nat} (k : CmpCond) (x y : BitVec n) : Prop :=
  match k with
  | .eq => x = y
  | .ne => x ≠ y
  | .ltI => x.toInt < y.toInt
  | .leI => x.toInt ≤ y.toInt
  | .gtI => y.toInt < x.toInt
  | .geI => y.toInt ≤ x.toInt
  | .ltN => x.toNat < y.toNat
  | .leN => x.toNat ≤ y.toNat
  | .gtN => y.toNat < x.toNat
  | .geN => y.toNat ≤ x.toNat

theorem cmpHolds_iff {n : Nat} (k : CmpCond) (x y : BitVec n) : cmpHolds k x y = true ↔ CmpCond.rel k x y := by
  cases k with
  | eq | ne => simp [cmpHolds, CmpCond.rel]
  | ltI | gtI => simp [cmpHolds, CmpCond.rel, BitVec.slt_eq_decide]
  | leI | geI => simp [cmpHolds, CmpCond.rel, BitVec.sle_eq_decide]
  | ltN | gtN => simp [cmpHolds, CmpCond.rel, BitVec.ult_eq_decide]
  | leN | geN => simp [cmpHolds, CmpCond.rel, BitVec.ule_eq_decide]

/-- A vector compare writes its relation's bits. -/
theorem writesP_cmp {s : State} {c : Cur} {w : Warp} (h : Issues s c w) (k : CmpCond) (p : PReg) {a : VReg} {b : VOp}
    (hf : w.free (a.toNat :: vopNames b)) :
    WritesP (.cmp k p a b) s c w p fun l => CmpCond.rel k (w.v a.toNat l) (w.vop l b) :=
  writesP_predMap h hf rfl fun _ => cmpHolds_iff k _ _

/-- A scalar compare writes 1 or 0. -/
theorem writesS_cmpS {s : State} {c : Cur} {w : Warp} (h : Issues s c w) (k : CmpCond) (d a : SReg) (b : SOp) :
    ∃ v : Xword, WritesS (.cmpS k d a b) s c w d v ∧
      (CmpCond.rel k (w.s a) (w.sop b) → v = 1) ∧ (¬CmpCond.rel k (w.s a) (w.sop b) → v = 0) :=
  ⟨_, writesS_scal h _ rfl rfl, fun holds => if_pos ((cmpHolds_iff k _ _).2 holds),
    fun fails => if_neg fun holds => fails ((cmpHolds_iff k _ _).1 holds)⟩

/-- A predicate bit, inverted or not, in the form in which `sel` reads it. -/
theorem bne_inv_iff (x inv : Bool) : (x != inv) = true ↔ (x = true ↔ inv = false) := by
  cases x <;> cases inv <;> decide

/-- Settles O6: the ten conditions, and the moves. -/
theorem compareMoveSelect : Obligations.CompareMoveSelect := by
  refine fun s c w h => ⟨fun p a b hf => ?vector, fun d a b => ?scalar, fun d b hf => ?mov, fun d b => ?movS,
    fun p inv d a b hf => ?sel⟩
  case vector =>
    have tests (k : CmpCond) := writesP_cmp h k p hf
    exact ⟨tests .eq, tests .ne, tests .ltI, tests .leI, tests .gtI, tests .geI, tests .ltN, tests .leN, tests .gtN, tests .geN⟩
  case scalar =>
    have tests (k : CmpCond) := writesS_cmpS h k d a b
    exact ⟨tests .eq, tests .ne, tests .ltI, tests .leI, tests .gtI, tests .geI, tests .ltN, tests .leN, tests .gtN, tests .geN⟩
  case mov => exact writesV_vec h hf _ rfl fun _ => rfl
  case movS => exact writesS_scal h _ rfl rfl
  case sel => exact writesV_vec h hf _ rfl fun _ => if_congr (bne_inv_iff _ _) rfl rfl

end Sys2Proof.Machine
end

section
/-!
PROOFS. The predicate members and `elect` (R343, R403 to R405).
-/

namespace Sys2Proof.Machine

/-! ### The lowest lane of a set -/

theorem firstLane_eq_some {s : LaneSet} {i : Nat} :
    firstLane s = some i ↔ s.getLsbD i = true ∧ i < 64 ∧ ∀ j, j < i → s.getLsbD j = false := by
  rw [firstLane, lanesOf, List.head?_filter, List.find?_range_eq_some]
  simp

theorem firstLane_eq_none {s : LaneSet} : firstLane s = none ↔ ∀ i, i < 64 → s.getLsbD i = false := by
  rw [firstLane, lanesOf, List.head?_filter, List.find?_eq_none]
  simp

theorem getLsbD_laneBit (i : Nat) {l : Nat} (hl : l < 64) : (laneBit i).getLsbD l = decide (l = i) := by
  rw [laneBit, BitVec.getLsbD_ofNat, Nat.testBit_two_pow]
  simp [hl, eq_comm]

/-- What `elect` writes: of a set's lanes only the lowest is set. -/
theorem getLsbD_elected {s : LaneSet} {l : Nat} (hl : l < 64) (hs : s.getLsbD l = true) :
    (match firstLane s with | some i => laneBit i | none => 0).getLsbD l = true ↔ ∀ j, j < l → s.getLsbD j = false := by
  cases hfirst : firstLane s with
  | none => rw [firstLane_eq_none.1 hfirst l hl] at hs; simp at hs
  | some i =>
    obtain ⟨hi, -, lowest⟩ := firstLane_eq_some.1 hfirst
    rw [getLsbD_laneBit i hl, decide_eq_true_eq]
    constructor
    · rintro rfl
      exact lowest
    · intro none
      by_contra hne
      rcases Nat.lt_or_gt_of_ne hne with lt | gt
      · rw [lowest l lt] at hs; simp at hs
      · rw [none i gt] at hi; simp at hi

/-! ### What the members write -/

theorem writesP_plog {s : State} {c : Cur} {w : Warp} (h : Issues s c w) {op : PlogOp} {d a b : PReg} {f : Nat → Prop}
    (hf : ∀ l, l < 64 → ((plogBits op (w.p a) (w.p b)).getLsbD l = true ↔ f l)) : WritesP (.plog op d a b) s c w d f :=
  writesP_of (run_uses h (free_nil w) _) fun l hl _ => hf l hl

theorem laneCount_and_eq_card (x y : LaneSet) : laneCount (x &&& y) =
    (Finset.univ.filter fun k : Fin 64 => y.getLsbD k = true ∧ x.getLsbD k = true).card := by
  rw [laneCount, lanesOf, length_filter_range_eq_card]
  simp only [BitVec.getLsbD_and, Bool.and_eq_true, and_comm]

/-- Settles O18: the operations of `plog` bit by bit, the moves and the count, and the lowest executing lane. -/
theorem predicateMembers : Obligations.PredicateMembers := by
  refine fun s c w d a b r h => ⟨?and, ?or, ?xor, ?andn, ?fromS, ?fromP, ?pcnt, fun hu => ?elect⟩
  case and => exact writesP_plog h fun l _ => by simp [plogBits]
  case or => exact writesP_plog h fun l _ => by simp [plogBits]
  case xor => exact writesP_plog h fun l _ => by simp [plogBits]
  case andn => exact writesP_plog h fun l hl => by simp [plogBits, hl]
  case fromS => exact writesP_of (run_uses h (free_nil w) _) fun _ _ _ => Iff.rfl
  case fromP => exact writesS_of (run_uses h (free_nil w) _)
  case pcnt => exact laneCount_and_eq_card (w.p a) c.lanes ▸ writesS_of (run_uses h (free_nil w) _)
  case elect => exact writesP_of (run_userOnly h hu (free_nil w) _) fun _ hl hs => getLsbD_elected hl hs

end Sys2Proof.Machine
end

section
/-!
PROOFS. The cross-lane members (R228, R315, R333, R347, R384, R411, R416, R419, R422, R436): the k-th lane of a set is the one
with k lanes of the set below it, and what the members write follows from that.
-/

namespace Sys2Proof.Machine

/-! ### The k-th of a rising list -/

theorem getElem?_eq_some_iff_count_lt {ks : List Nat} (h : ks.Pairwise (· < ·)) {i n : Nat} :
    ks[n]? = some i ↔ i ∈ ks ∧ (ks.filter fun j => decide (j < i)).length = n := by
  induction ks generalizing n with
  | nil => simp
  | cons x r ih =>
    obtain ⟨below, rising⟩ := List.pairwise_cons.1 h
    rcases Nat.lt_trichotomy x i with lt | rfl | gt
    · cases n with
      | zero => simp [lt, lt.ne]
      | succ n => simp [lt, lt.ne', ih rising]
    · have none_below : (r.filter fun j => decide (j < x)) = [] := by
        rw [List.filter_eq_nil_iff]
        intro j hj
        simpa using (below j hj).le
      cases n with
      | zero => simp [none_below]
      | succ n =>
        have absent : x ∉ r := fun hx => absurd (below x hx) (lt_irrefl x)
        simp [ih rising, none_below, absent]
    · have absent : i ∉ r := fun hi => absurd (below i hi) (by omega)
      cases n with
      | zero => simp [absent, gt.ne, gt.ne']
      | succ n => simp [ih rising, absent, gt.ne]

/-- The members of a rising list up to its k-th one are the first k + 1. -/
theorem filter_le_eq_take {ks : List Nat} (h : ks.Pairwise (· < ·)) {i n : Nat} (hi : ks[n]? = some i) :
    (ks.filter fun j => decide (j ≤ i)) = ks.take (n + 1) := by
  induction ks generalizing n with
  | nil => simp at hi
  | cons x r ih =>
    obtain ⟨below, rising⟩ := List.pairwise_cons.1 h
    cases n with
    | zero =>
      obtain rfl : x = i := by simpa using hi
      simpa using below
    | succ n =>
      have hr : r[n]? = some i := by simpa using hi
      have le : x ≤ i := (below i (List.mem_of_getElem? hr)).le
      simp [le, ih rising hr]

theorem lanesOf_rising (s : LaneSet) : (lanesOf s).Pairwise (· < ·) := List.pairwise_lt_range.filter _

/-- Lane i is the k-th of a set when k lanes of the set lie below it. -/
theorem getElem?_lanesOf {s : LaneSet} {i n : Nat} (hi : i < 64) :
    (lanesOf s)[n]? = some i ↔ s.getLsbD i = true ∧ rankIn s i = n := by
  rw [getElem?_eq_some_iff_count_lt (lanesOf_rising s), mem_lanesOf]
  simp [hi, rankIn]

/-! ### Values written to the lanes of a set, one after another -/

theorem zip_lanesOf_lt {s : LaneSet} {l : List Word} : ∀ e ∈ (lanesOf s).zip l, e.1 < 64 := fun e he =>
  ((mem_lanesOf s e.1).1 (List.of_mem_zip (a := e.1) (b := e.2) he).1).1

theorem mem_zip_lanesOf {s : LaneSet} {l : List Word} {i : Nat} {x : Word} (hi : i < 64) :
    (i, x) ∈ (lanesOf s).zip l ↔ s.getLsbD i = true ∧ l[rankIn s i]? = some x := by
  rw [List.mem_iff_getElem?]
  simp only [List.getElem?_zip_eq_some, getElem?_lanesOf hi]
  constructor
  · rintro ⟨k, ⟨hs, rfl⟩, hx⟩
    exact ⟨hs, hx⟩
  · rintro ⟨hs, hx⟩
    exact ⟨_, ⟨hs, rfl⟩, hx⟩

/-- The entry found for a lane of a set is the one of its rank. -/
theorem find_zip_lanesOf {s : LaneSet} {l : List Word} {i : Nat} (hi : i < 64) :
    (((lanesOf s).zip l).reverse.find? fun e => e.1 == i).map Prod.snd =
      if s.getLsbD i = true then l[rankIn s i]? else none := by
  cases hf : ((lanesOf s).zip l).reverse.find? fun e => e.1 == i with
  | none =>
    have absent : ∀ x, (i, x) ∉ (lanesOf s).zip l := fun x hx => by
      simpa using List.find?_eq_none.1 hf (i, x) (List.mem_reverse.2 hx)
    split
    next hs =>
      cases hl : l[rankIn s i]? with
      | none => rfl
      | some x => exact absurd ((mem_zip_lanesOf hi).2 ⟨hs, hl⟩) (absent x)
    next => rfl
  | some e =>
    obtain ⟨j, x⟩ := e
    obtain rfl : j = i := by simpa using List.find?_some hf
    obtain ⟨hs, hx⟩ := (mem_zip_lanesOf hi).1 (List.mem_reverse.1 (List.mem_of_find?_eq_some hf))
    rw [if_pos hs, hx]
    rfl

theorem Warp.v_setVs_zip_lanesOf (w : Warp) (d n : Nat) (s : LaneSet) (l : List Word) {i : Nat} (hi : i < 64) :
    (w.setVs d ((lanesOf s).zip l)).v n i =
      if n = d ∧ s.getLsbD i = true then (l[rankIn s i]?).getD (w.v n i) else w.v n i := by
  rw [Warp.v_setVs _ _ _ _ _ zip_lanesOf_lt hi, find_zip_lanesOf hi]
  by_cases hn : n = d
  · by_cases hs : s.getLsbD i = true <;> simp [hn, hs]
  · simp [hn]

/-- The k-th of the values of a set's lanes is that of the lane with k below it. -/
theorem Warp.getElem?_values (w : Warp) {s : LaneSet} (a : VReg) {j : Nat} (hj : j < 64) (hs : s.getLsbD j = true) :
    (w.values s a)[rankIn s j]? = some (w.v a.toNat j) := by
  rw [Warp.values, List.getElem?_map, (getElem?_lanesOf hj).2 ⟨hs, rfl⟩]
  rfl

theorem Warp.length_values (w : Warp) (s : LaneSet) (a : VReg) : (w.values s a).length = laneCount s := by
  simp [Warp.values, laneCount]

/-! ### Moves (R315, R333, R347, R419, R422) -/

/-- An instruction that writes the values of the lanes of one set to those of another, in order. -/
theorem lands_setVs {i : Instr} {s : State} {c : Cur} {w : Warp} {d a : VReg} (h : Issues s c w)
    (hf : w.free [d.toNat, a.toNat]) {e : Warp → Cur → List (Nat × Word)}
    (he : exec i s = s.run (uses [d.toNat, a.toNat]) fun c w => .done (s.setWarp c.warp (w.setVs d.toNat (e w c)))) :
    Lands i s c (w.setVs d.toNat (e w c)) := by
  rw [Lands, Ends, he, run_uses h hf]
  rfl

/-- Settles O15: the moves by lane, and the two that pack by rank. -/
theorem laneMoves : Obligations.LaneMoves := by
  refine ⟨fun s c w d a b k h hf => ⟨?shfl, ?bcast, ?slup, ?sldn⟩, fun s c w d a p h hf => ⟨?compress, ?expand⟩⟩
  case shfl => exact writesV_vec h hf _ rfl fun _ => rfl
  all_goals have hfree : w.free [d.toNat, a.toNat] := fun n hn => hf n (by simp at hn ⊢; tauto)
  case bcast => exact writesV_vec h hfree _ rfl fun _ => rfl
  case slup => exact writesV_vec h hfree _ rfl fun _ => rfl
  case sldn => exact writesV_vec h hfree _ rfl fun _ => rfl
  case compress =>
    refine ⟨_, lands_setVs h hf rfl, w.setVs_shape _ _, w.sameBelow_setVs _ _, fun i j hi hj his hjs hr => ?_, fun n i hi hn => ?_⟩
    · rw [Warp.v_setVs_zip_lanesOf _ _ _ _ _ hi, if_pos ⟨rfl, his⟩, hr, w.getElem?_values a hj hjs]
      rfl
    · rw [Warp.v_setVs_zip_lanesOf _ _ _ _ _ hi]
      split
      next hw =>
        have past : laneCount (c.lanes &&& w.p p) ≤ rankIn c.lanes i := by
          rcases hn with hn | hn | hn
          · exact absurd hw.1 hn
          · rw [hn] at hw; exact absurd hw.2 (by simp)
          · exact hn
        rw [List.getElem?_eq_none (by rwa [w.length_values])]
        rfl
      next => rfl
  case expand =>
    refine ⟨_, lands_setVs h hf rfl, w.setVs_shape _ _, w.sameBelow_setVs _ _, fun i j hi hj his hjs hr => ?_, fun n i hi hn => ?_⟩
    · rw [Warp.v_setVs_zip_lanesOf _ _ _ _ _ hi, if_pos ⟨rfl, his⟩, hr, w.getElem?_values a hj hjs]
      rfl
    · rw [Warp.v_setVs_zip_lanesOf _ _ _ _ _ hi, if_neg]
      rintro ⟨hd, hs⟩
      rcases hn with hn | hn
      · exact hn hd
      · rw [hn] at hs; exact absurd hs (by simp)

/-! ### Reductions and scans (R411, R416) -/

theorem reduceBy_eq_foldl (f : Word → Word → Word) (l : List Word) : reduceBy f l = l.tail.foldl f (l.headD 0) := by
  cases l <;> rfl

theorem getElem?_scanBy (f : Word → Word → Word) (acc : Word) {l : List Word} {n : Nat} (hn : n < l.length) :
    (scanBy f acc l)[n]? = some ((l.take (n + 1)).foldl f acc) := by
  induction l generalizing acc n with
  | nil => simp at hn
  | cons x xs ih =>
    cases n with
    | zero => simp [scanBy]
    | succ n => simpa [scanBy] using ih (f acc x) (by simpa using hn)

theorem getElem?_scanAll (f : Word → Word → Word) {l : List Word} {n : Nat} (hn : n < l.length) :
    (scanAll f l)[n]? = some (reduceBy f (l.take (n + 1))) := by
  cases l with
  | nil => simp at hn
  | cons x xs =>
    cases n with
    | zero => simp [scanAll, reduceBy]
    | succ n => simpa [scanAll, reduceBy] using getElem?_scanBy f x (by simpa using hn)

/-- The participants' values up to lane i are the first ones, up to its rank. -/
theorem Warp.values_upTo (w : Warp) {s : LaneSet} (a : VReg) {i : Nat} (hi : i < 64) (hs : s.getLsbD i = true) :
    ((lanesOf s).filter fun j => decide (j ≤ i)).map (fun j => w.v a.toNat j) = (w.values s a).take (rankIn s i + 1) := by
  rw [filter_le_eq_take (lanesOf_rising s) ((getElem?_lanesOf hi).2 ⟨hs, rfl⟩), List.map_take]
  rfl

theorem writesV_reduce {i : Instr} {s : State} {c : Cur} {w : Warp} {d a : VReg} {f g : Word → Word → Word} (h : Issues s c w)
    (hf : w.free [d.toNat, a.toNat]) (he : exec i s = s.reduceLanes d a f) (hg : f = g) :
    WritesV i s c w d fun _ =>
      let l := ((lanesOf c.lanes).filter fun _ => true).map fun j => w.v a.toNat j
      l.tail.foldl g (l.headD 0) := by
  subst hg
  refine writesV_of (f := fun _ => reduceBy f (w.values c.lanes a)) ?_ fun l => ?_
  · rw [Lands, Ends, he]
    exact run_uses h hf _
  · rw [reduceBy_eq_foldl, List.filter_true]
    rfl

theorem writesV_scan {i : Instr} {s : State} {c : Cur} {w : Warp} {d a : VReg} {f g : Word → Word → Word} (h : Issues s c w)
    (hf : w.free [d.toNat, a.toNat]) (he : exec i s = s.scanLanes d a f) (hg : f = g) :
    WritesV i s c w d fun i =>
      let l := ((lanesOf c.lanes).filter fun j => decide (j ≤ i)).map fun j => w.v a.toNat j
      l.tail.foldl g (l.headD 0) := by
  subst hg
  refine ⟨_, lands_setVs (e := fun w c => (lanesOf c.lanes).zip (scanAll f (w.values c.lanes a))) h hf he, w.setVs_shape _ _,
    w.sameBelow_setVs _ _, fun n l hl => ?_⟩
  rw [Warp.v_setVs_zip_lanesOf _ _ _ _ _ hl]
  split
  next hs =>
    have within : rankIn c.lanes l < (w.values c.lanes a).length :=
      (List.getElem?_eq_some_iff.1 (w.getElem?_values a hl hs.2)).1
    rw [getElem?_scanAll f within, Option.getD_some, reduceBy_eq_foldl, ← w.values_upTo a hl hs.2]
  next => rfl

/-! ### The combinations -/

theorem stepAddF32_eq : stepAddF32 = fun x y =>
    BitVec.ofNat 32 (Fmt.f32.rne ((Fmt.f32.value x.toNat).add (Fmt.f32.value y.toNat))) := rfl

theorem minSigned_eq : (minSigned : Word → Word → Word) = fun x y => BitVec.ofInt 32 (min x.toInt y.toInt) :=
  funext₂ minSigned_eq_ofInt

theorem maxSigned_eq : (maxSigned : Word → Word → Word) = fun x y => BitVec.ofInt 32 (max x.toInt y.toInt) :=
  funext₂ maxSigned_eq_ofInt

/-- Settles O16: reductions fold all values, scans those up to the lane. -/
theorem reduceAndScan : Obligations.ReduceAndScan := by
  refine fun s c w d a h hf => ⟨?addI, ?addF, ?minI, ?maxI, ?minF, ?maxF, ?scanAddI, ?scanAddF, ?scanMinI, ?scanMaxI⟩
  case addI => exact writesV_reduce h hf rfl rfl
  case addF => exact writesV_reduce h hf rfl stepAddF32_eq
  case minI => exact writesV_reduce h hf rfl minSigned_eq
  case maxI => exact writesV_reduce h hf rfl maxSigned_eq
  case minF => exact writesV_reduce h hf rfl rfl
  case maxF => exact writesV_reduce h hf rfl rfl
  case scanAddI => exact writesV_scan h hf rfl rfl
  case scanAddF => exact writesV_scan h hf rfl stepAddF32_eq
  case scanMinI => exact writesV_scan h hf rfl minSigned_eq
  case scanMaxI => exact writesV_scan h hf rfl maxSigned_eq

/-! ### Matches and votes (R228, R384, R436) -/

/-- The lowest of the lanes that hold a value. -/
theorem isEmpty_sameAs_below {w : Warp} {lanes : LaneSet} {a : VReg} {l : Nat} (hl : l < 64) :
    ((w.sameAs lanes a l).filter fun j => decide (j < l)).isEmpty = true ↔
      ∀ j, j < l → lanes.getLsbD j = true → w.v a.toNat j ≠ w.v a.toNat l := by
  rw [List.isEmpty_iff, List.filter_eq_nil_iff]
  simp only [Warp.sameAs, List.mem_filter, mem_lanesOf, beq_iff_eq, decide_eq_true_eq]
  exact ⟨fun none j hj hs same => none j ⟨⟨by omega, hs⟩, same⟩ hj, fun all j ⟨⟨_, hs⟩, same⟩ hj => all j hj hs same⟩

theorem and_eq_zero_iff {x y : LaneSet} : x &&& y = 0 ↔ ¬∃ j, y.getLsbD j = true ∧ x.getLsbD j = true := by
  constructor
  · rintro h ⟨j, hy, hx⟩
    have := congrArg (fun z => z.getLsbD j) h
    simp [hx, hy] at this
  · intro none
    apply BitVec.eq_of_getLsbD_eq
    intro j _
    rw [BitVec.getLsbD_and, show (0 : LaneSet).getLsbD j = false from BitVec.getLsbD_zero]
    by_contra both
    rw [Bool.not_eq_false, Bool.and_eq_true] at both
    exact none ⟨j, both.2, both.1⟩

theorem and_eq_right_iff {x y : LaneSet} : x &&& y = y ↔ ∀ j, y.getLsbD j = true → x.getLsbD j = true := by
  constructor
  · intro h j hy
    rw [← h, BitVec.getLsbD_and, Bool.and_eq_true] at hy
    exact hy.1
  · intro all
    apply BitVec.eq_of_getLsbD_eq
    intro j _
    rw [BitVec.getLsbD_and]
    cases hy : y.getLsbD j with
    | false => rw [Bool.and_false]
    | true => rw [all j hy, Bool.and_true]

/-- Settles O17: matches by the lanes with the same value, votes by the executing lanes' bits. -/
theorem matchAndVote : Obligations.MatchAndVote := by
  refine fun s c w h => ⟨fun d a hf => ⟨?rank, ?cnt⟩, fun p a hf => ?lead, fun p a => ⟨?any, ?all, fun d => ?ballot⟩⟩
  case rank => exact writesV_of (run_uses h hf _) fun _ => rfl
  case cnt => exact writesV_of (run_uses h hf _) fun _ => rfl
  case lead =>
    refine writesP_of (run_uses h hf _) fun l hl hs => ?_
    rw [getLsbD_groupSet _ _ _ hl, hs, Bool.true_and, isEmpty_sameAs_below hl]
  case any =>
    refine writesP_of (run_uses h (free_nil w) _) fun l hl hs => ?_
    by_cases none : w.p a &&& c.lanes = 0
    · rw [if_pos none]
      simpa using and_eq_zero_iff.1 none
    · rw [if_neg none, hs]
      simpa using not_not.1 (mt and_eq_zero_iff.2 none)
  case all =>
    refine writesP_of (run_uses h (free_nil w) _) fun l hl hs => ?_
    by_cases all : w.p a &&& c.lanes = c.lanes
    · rw [if_pos all, hs]
      simpa using and_eq_right_iff.1 all
    · rw [if_neg all]
      simpa using mt and_eq_right_iff.2 all
  case ballot => exact writesS_of (run_uses h (free_nil w) _)

end Sys2Proof.Machine
end

section
/-!
PROOFS. Float arithmetic on words (R88, R350, R354, R358, R361, R364, R368): the f32 members, and the packed ones half by half.
-/

namespace Sys2Proof.Machine

/-! ### Halves of a word (R88) -/

theorem half_zero (x : Word) : half x 0 = x.toNat % 2 ^ 16 := by simp [half]

theorem half_one (x : Word) : half x 1 = x.toNat / 2 ^ 16 := by
  rw [half, Nat.mod_eq_of_lt]
  omega

theorem half_lt (x : Word) (h : Nat) : half x h < 2 ^ 16 := Nat.mod_lt _ (by decide)

/-- Two halves put together are the halves of the word. -/
theorem half_onHalves {op : Nat → Nat → Nat → Nat} (hop : ∀ z x y, z < 2 ^ 16 → x < 2 ^ 16 → y < 2 ^ 16 → op z x y < 2 ^ 16)
    (z x y : Word) {h : Nat} (hh : h < 2) : half (onHalves op z x y) h = op (half z h) (half x h) (half y h) := by
  have lo := hop _ _ _ (half_lt z 0) (half_lt x 0) (half_lt y 0)
  have hi := hop _ _ _ (half_lt z 1) (half_lt x 1) (half_lt y 1)
  have word : (onHalves op z x y).toNat = op (half z 1) (half x 1) (half y 1) * 2 ^ 16 + op (half z 0) (half x 0) (half y 0) := by
    simp only [onHalves, half_one, half_zero, BitVec.toNat_ofNat] at hi lo ⊢
    exact Nat.mod_eq_of_lt (by omega)
  obtain rfl | rfl : h = 0 ∨ h = 1 := by omega
  · rw [half_zero, word]; omega
  · rw [half_one, word]; omega

/-! ### Results fit their format -/

theorem nanCode_lt (f : Fmt) : f.nanCode < 2 ^ f.magBits := by cases f <;> decide

theorem maxCode_lt (f : Fmt) : f.maxCode < 2 ^ f.magBits := by cases f <;> decide

/-- The code of an infinity stands above the largest finite one. -/
theorem infCode_lt {f : Fmt} (h : f.hasInf = true) : f.maxCode + 1 < 2 ^ f.magBits := by
  cases f <;> revert h <;> decide

theorem signed_lt {f : Fmt} (neg : Bool) {mag : Nat} (h : mag < 2 ^ f.magBits) : f.signed neg mag < 2 ^ (f.magBits + 1) := by
  rw [Fmt.signed, pow_succ]
  split <;> omega

theorem nanCode_lt_succ (f : Fmt) : f.nanCode < 2 ^ (f.magBits + 1) :=
  (nanCode_lt f).trans (Nat.pow_lt_pow_right (by decide) (Nat.lt_succ_self _))

theorem overflow_lt (f : Fmt) (md : CvtField) (neg : Bool) : f.overflow md neg < 2 ^ (f.magBits + 1) := by
  rw [Fmt.overflow]
  split
  next => exact signed_lt neg (maxCode_lt f)
  next =>
    split
    next hi => exact signed_lt neg (infCode_lt hi)
    next => exact nanCode_lt_succ f

/-- A rounded value is a code of its format. -/
theorem round_lt (f : Fmt) (md : CvtField) (x : Nat) (v : FVal) : f.round md x v < 2 ^ (f.magBits + 1) := by
  cases v with
  | nan => exact nanCode_lt_succ f
  | inf neg =>
    rw [Fmt.round]
    split
    next => exact signed_lt neg (maxCode_lt f)
    next =>
      split
      next hi => exact signed_lt neg (infCode_lt hi)
      next => exact nanCode_lt_succ f
  | fin neg m e =>
    rw [Fmt.round]
    split
    next => exact signed_lt neg (Nat.two_pow_pos _)
    next =>
      simp only
      split
      next => exact overflow_lt f md neg
      next within => exact signed_lt neg ((not_lt.1 within).trans_lt (maxCode_lt f))

theorem rne_lt (f : Fmt) (v : FVal) : f.rne v < 2 ^ (f.magBits + 1) := round_lt f nearestMode 0 v

/-- `fmin` and `fmax` give an operand or the canonical NaN. -/
theorem fPick_lt {f : Fmt} (larger : Bool) {x y n : Nat} (hn : f.nanCode < n) (hx : x < n) (hy : y < n) :
    fPick f larger x y < n := by
  simp only [fPick]
  split_ifs <;> assumption

/-! ### What the members write -/

theorem writesV_vecTri {i : Instr} {s : State} {c : Cur} {w : Warp} {d a b : VReg} {f g : Word → Word → Word → Word}
    (h : Issues s c w) (hf : w.free [d.toNat, a.toNat, b.toNat]) (he : exec i s = s.vecTri d a b f)
    (hg : ∀ z x y, f z x y = g z x y) : WritesV i s c w d fun l => g (w.v d.toNat l) (w.v a.toNat l) (w.v b.toNat l) :=
  writesV_vec h hf _ he fun _ => hg _ _ _

theorem writesHalves_vecTri {i : Instr} {s : State} {c : Cur} {w : Warp} {d a b : VReg} {op : Nat → Nat → Nat → Nat}
    (h : Issues s c w) (hf : w.free [d.toNat, a.toNat, b.toNat]) (he : exec i s = s.vecTri d a b (onHalves op))
    (hop : ∀ z x y, z < 2 ^ 16 → x < 2 ^ 16 → y < 2 ^ 16 → op z x y < 2 ^ 16) :
    WritesHalves i s c w d fun l h => op (half (w.v d.toNat l) h) (half (w.v a.toNat l) h) (half (w.v b.toNat l) h) :=
  ⟨_, writesV_vecTri h hf he fun _ _ _ => rfl, fun _ _ hh => half_onHalves hop _ _ _ hh⟩

/-- A packed unary member. -/
theorem writesHalves_vecUn {i : Instr} {s : State} {c : Cur} {w : Warp} {d a : VReg} {op : Nat → Nat} (h : Issues s c w)
    (hf : w.free [d.toNat, a.toNat]) (he : exec i s = s.vecUn d a fun x => onHalves (fun _ a _ => op a) 0 x 0)
    (hop : ∀ x, x < 2 ^ 16 → op x < 2 ^ 16) : WritesHalves i s c w d fun l h => op (half (w.v a.toNat l) h) :=
  ⟨_, writesV_vecUn h hf he fun _ => rfl, fun _ _ hh => half_onHalves (fun _ x _ _ hx _ => hop x hx) _ _ _ hh⟩

theorem fDot2_eq (f : Fmt) (z x y : Word) : fDot2 f z x y = BitVec.ofNat 32 (Fmt.f32.rne
    (((Fmt.f32.value z.toNat).add ((f.value (half x 0)).mul (f.value (half y 0)))).add
      ((f.value (half x 1)).mul (f.value (half y 1))))) := by
  simp only [fDot2, half_zero, half_one]

/-- Fewer names are free too. -/
theorem free_of_subset {w : Warp} {names more : List Nat} (h : w.free more) (hs : names ⊆ more) : w.free names :=
  fun n hn => h n (hs hn)

/-- A member that rounds an exact operation of its f32 operands. -/
theorem writesV_rounded {i : Instr} {s : State} {c : Cur} {w : Warp} {d a b : VReg} {op : Nat → Nat → Nat → Nat}
    (g : FVal → FVal → FVal → FVal) (h : Issues s c w) (hf : w.free [d.toNat, a.toNat, b.toNat])
    (he : exec i s = s.vecTri d a b (onF32 op))
    (hop : ∀ z x y, op z x y = Fmt.f32.rne (g (Fmt.f32.value z) (Fmt.f32.value x) (Fmt.f32.value y))) :
    WritesV i s c w d fun l => BitVec.ofNat 32 (Fmt.f32.rne
      (g (Fmt.f32.value (w.v d.toNat l).toNat) (Fmt.f32.value (w.v a.toNat l).toNat) (Fmt.f32.value (w.v b.toNat l).toNat))) :=
  writesV_vec h hf _ he fun _ => congrArg _ (hop _ _ _)

/-- Settles O8: each member is its exact operation, rounded. -/
theorem f32Arithmetic : Obligations.F32Arithmetic := by
  intro s c w d a b h hf
  have hda : w.free [d.toNat, a.toNat] := free_of_subset hf (by simp)
  refine ⟨?add, ?sub, ?mul, ?fma, ?dotF16, ?dotBf16, fun dir => ?rnd⟩
  case add => exact writesV_rounded (i := .fadd d a b) (fun _ x y => x.add y) h hf rfl fun _ _ _ => rfl
  case sub => exact writesV_rounded (i := .fsub d a b) (fun _ x y => x.add y.neg) h hf rfl fun _ _ _ => rfl
  case mul => exact writesV_rounded (i := .fmul d a b) (fun _ x y => x.mul y) h hf rfl fun _ _ _ => rfl
  case fma => exact writesV_rounded (i := .fma d a b) (fun z x y => z.add (x.mul y)) h hf rfl fun _ _ _ => rfl
  case dotF16 => exact writesV_vecTri (i := .fdot2F16 d a b) h hf rfl (fDot2_eq .f16)
  case dotBf16 => exact writesV_vecTri (i := .fdot2Bf16 d a b) h hf rfl (fDot2_eq .bf16)
  case rnd =>
    exact writesV_vec (i := .frnd dir d a) h hda (fun w l => onF32 (fun _ a _ => fRnd .f32 dir a) 0 (w.v a.toNat l) 0) rfl
      fun _ => rfl

/-- A rounded operation of halves is a half. -/
theorem rne_half_lt {f : Fmt} (hf : f.magBits = 15) (v : FVal) : f.rne v < 2 ^ 16 := by
  have := rne_lt f v
  rwa [hf] at this

/-- A packed member that rounds an exact operation of its halves. -/
theorem writesHalves_rounded {i : Instr} {s : State} {c : Cur} {w : Warp} {d a b : VReg} {f : Fmt} {op : Nat → Nat → Nat → Nat}
    (hm : f.magBits = 15) (g : FVal → FVal → FVal → FVal) (h : Issues s c w) (hf : w.free [d.toNat, a.toNat, b.toNat])
    (he : exec i s = s.vecTri d a b (onHalves op)) (hop : ∀ z x y, op z x y = f.rne (g (f.value z) (f.value x) (f.value y))) :
    WritesHalves i s c w d fun l k => f.rne (g (f.value (half (w.v d.toNat l) k)) (f.value (half (w.v a.toNat l) k))
      (f.value (half (w.v b.toNat l) k))) := by
  have heq : op = fun z x y => f.rne (g (f.value z) (f.value x) (f.value y)) := by funext z x y; exact hop z x y
  subst heq
  exact writesHalves_vecTri h hf he fun _ _ _ _ _ _ => rne_half_lt hm _

/-- Settles O9: each half by its own operation, whose rounded result fits a half. -/
theorem packedHalves : Obligations.PackedHalves := by
  intro s c w d a b h hf
  have hda : w.free [d.toNat, a.toNat] := free_of_subset hf (by simp)
  refine ⟨⟨?add, ?sub, ?mul, ?fma⟩, ⟨?addB, ?subB, ?mulB, ?fmaB⟩, fun dir => ⟨?rnd, ?rndB⟩⟩
  case add => exact writesHalves_rounded (i := .faddF16x2 d a b) rfl (fun _ x y => x.add y) h hf rfl fun _ _ _ => rfl
  case sub => exact writesHalves_rounded (i := .fsubF16x2 d a b) rfl (fun _ x y => x.add y.neg) h hf rfl fun _ _ _ => rfl
  case mul => exact writesHalves_rounded (i := .fmulF16x2 d a b) rfl (fun _ x y => x.mul y) h hf rfl fun _ _ _ => rfl
  case fma => exact writesHalves_rounded (i := .fmaF16x2 d a b) rfl (fun z x y => z.add (x.mul y)) h hf rfl fun _ _ _ => rfl
  case addB => exact writesHalves_rounded (i := .faddBf16x2 d a b) rfl (fun _ x y => x.add y) h hf rfl fun _ _ _ => rfl
  case subB => exact writesHalves_rounded (i := .fsubBf16x2 d a b) rfl (fun _ x y => x.add y.neg) h hf rfl fun _ _ _ => rfl
  case mulB => exact writesHalves_rounded (i := .fmulBf16x2 d a b) rfl (fun _ x y => x.mul y) h hf rfl fun _ _ _ => rfl
  case fmaB => exact writesHalves_rounded (i := .fmaBf16x2 d a b) rfl (fun z x y => z.add (x.mul y)) h hf rfl fun _ _ _ => rfl
  case rnd =>
    exact writesHalves_vecUn (i := .frndF16x2 dir d a) (op := fRnd .f16 dir) h hda rfl fun _ _ => rne_half_lt rfl _
  case rndB =>
    exact writesHalves_vecUn (i := .frndBf16x2 dir d a) (op := fRnd .bf16 dir) h hda rfl fun _ _ => rne_half_lt rfl _

end Sys2Proof.Machine
end

section
/-!
PROOFS. The order of float values (R89): the comparison of the model is that of the numbers, and `fmin`, `fmax` and `fcmp`
(R351, R359, R360) follow it.
-/

namespace Sys2Proof

/-! ### Finite values as numbers -/

theorem FVal.rat_fin (neg : Bool) (m : Nat) (e : Int) : (FVal.fin neg m e).rat = signedMant neg m * 2 ^ e := by
  cases neg <;> simp [FVal.rat, signedMant]

/-- A mantissa in units of a lower power of two. -/
theorem signedMant_scaled (neg : Bool) (m : Nat) {e q : Int} (h : q ≤ e) :
    ((signedMant neg m * 2 ^ (e - q).toNat : Int) : ℚ) * 2 ^ q = signedMant neg m * 2 ^ e := by
  have places : (2 : ℚ) ^ (e - q).toNat * 2 ^ q = 2 ^ e := by
    rw [← zpow_natCast, ← zpow_add₀ two_ne_zero, Int.toNat_of_nonneg (by omega)]
    congr 1
    omega
  push_cast
  rw [mul_assoc, places]

theorem FVal.rat_fin_le_iff (a b : Bool) (m n : Nat) (e f : Int) : (FVal.fin a m e).rat ≤ (FVal.fin b n f).rat ↔
    signedMant a m * 2 ^ (e - min e f).toNat ≤ signedMant b n * 2 ^ (f - min e f).toNat := by
  rw [FVal.rat_fin, FVal.rat_fin, ← signedMant_scaled a m (min_le_left e f), ← signedMant_scaled b n (min_le_right e f),
    mul_le_mul_iff_left₀ (by positivity), Int.cast_le]

/-! ### The comparison -/

theorem FVal.cmp_swap (x y : FVal) : y.cmp x = (x.cmp y).swap := by
  have swap (i j : Int) : compare j i = (compare i j).swap := Std.OrientedCmp.eq_swap
  cases x <;> cases y
  case fin.fin a m e b n f =>
    simp only [FVal.cmp, min_comm f e]
    exact swap _ _
  all_goals exact swap _ _

/-- Values that are no NaN are in order when the comparison does not say greater. -/
theorem FVal.leq_iff_cmp {x y : FVal} (hx : x ≠ .nan) (hy : y ≠ .nan) : x.leq y ↔ x.cmp y ≠ .gt := by
  cases x with
  | nan => exact absurd rfl hx
  | inf a =>
    cases y with
    | nan => exact absurd rfl hy
    | inf b => cases a <;> cases b <;> simp [FVal.leq, FVal.cmp] <;> decide
    | fin b n f => cases a <;> simp [FVal.leq, FVal.cmp] <;> decide
  | fin a m e =>
    cases y with
    | nan => exact absurd rfl hy
    | inf b => cases b <;> simp [FVal.leq, FVal.cmp] <;> decide
    | fin b n f =>
      simp only [FVal.leq, FVal.cmp]
      rw [FVal.rat_fin_le_iff, ne_eq, compare_gt_iff_gt, not_lt]

theorem FVal.leq_of_nan {x y : FVal} (h : x = .nan ∨ y = .nan) : ¬x.leq y := by
  rcases h with rfl | rfl
  · cases y <;> exact id
  · cases x <;> exact id

theorem FVal.isNan_iff (x : FVal) : x.isNan = true ↔ x = .nan := by cases x <;> simp [FVal.isNan]

/-- Both orders at once. -/
theorem FVal.cmp_cases {x y : FVal} (hx : x ≠ .nan) (hy : y ≠ .nan) :
    (x.cmp y = .lt ∧ x.leq y ∧ ¬y.leq x) ∨ (x.cmp y = .eq ∧ x.leq y ∧ y.leq x) ∨ (x.cmp y = .gt ∧ ¬x.leq y ∧ y.leq x) := by
  rw [FVal.leq_iff_cmp hx hy, FVal.leq_iff_cmp hy hx, FVal.cmp_swap x y]
  cases x.cmp y <;> simp

/-! ### `fmin` and `fmax` -/

/-- `x` stands below `y`, where -0 is below +0. -/
def FVal.Lower (u v : FVal) : Prop := ¬v.leq u ∨ (u.leq v ∧ v.leq u ∧ u.isNeg = true ∧ v.isNeg = false)

theorem FVal.below_iff {x y : FVal} (hx : x ≠ .nan) (hy : y ≠ .nan) : x.below y = true ↔ x.Lower y := by
  rcases FVal.cmp_cases hx hy with ⟨hc, hxy, hyx⟩ | ⟨hc, hxy, hyx⟩ | ⟨hc, hxy, hyx⟩ <;>
    simp [FVal.below, FVal.Lower, hc, hxy, hyx]

theorem FVal.lower_asymm {x y : FVal} (hx : x ≠ .nan) (hy : y ≠ .nan) (h : x.Lower y) : ¬y.Lower x := by
  rcases FVal.cmp_cases hx hy with ⟨_, hxy, hyx⟩ | ⟨_, hxy, hyx⟩ | ⟨_, hxy, hyx⟩ <;>
    simp_all [FVal.Lower]

/-- What R89 lets `fmin` and `fmax` answer: an operand's bits, or the canonical NaN. -/
def Picks (f : Fmt) (x y r : Nat) (first second : FVal → FVal → Prop) : Prop :=
  let u := f.value x
  let v := f.value y
  (u = .nan → v = .nan → r = f.nanCode) ∧ (u = .nan → v ≠ .nan → r = y) ∧ (u ≠ .nan → v = .nan → r = x) ∧
    (u ≠ .nan → v ≠ .nan → (first u v → r = x) ∧ (second u v → r = y) ∧ (r = x ∨ r = y))

theorem picks_fPick_min (f : Fmt) (x y : Nat) :
    Picks f x y (fPick f false x y) FVal.Lower fun u v => FVal.Lower v u := by
  simp only [Picks, fPick]
  refine ⟨fun hu hv => ?_, fun hu hv => ?_, fun hu hv => ?_, fun hu hv => ?_⟩
  · simp [hu, hv, FVal.isNan]
  · rw [if_neg (by simp [FVal.isNan_iff, hv]), if_pos (by simp [FVal.isNan_iff, hu])]
  · rw [if_neg (by simp [FVal.isNan_iff, hu]), if_neg (by simp [FVal.isNan_iff, hu]), if_pos (by simp [FVal.isNan_iff, hv])]
  · simp only [FVal.isNan_iff, hu, hv, Bool.and_eq_true, and_self, if_false, Bool.false_eq_true]
    exact ⟨fun lower => if_neg (mt (FVal.below_iff hv hu).1 (FVal.lower_asymm hu hv lower)),
      fun lower => if_pos ((FVal.below_iff hv hu).2 lower), (ite_eq_or_eq _ _ _).symm⟩

theorem picks_fPick_max (f : Fmt) (x y : Nat) :
    Picks f x y (fPick f true x y) (fun u v => FVal.Lower v u) FVal.Lower := by
  simp only [Picks, fPick]
  refine ⟨fun hu hv => ?_, fun hu hv => ?_, fun hu hv => ?_, fun hu hv => ?_⟩
  · simp [hu, hv, FVal.isNan]
  · rw [if_neg (by simp [FVal.isNan_iff, hv]), if_pos (by simp [FVal.isNan_iff, hu])]
  · rw [if_neg (by simp [FVal.isNan_iff, hu]), if_neg (by simp [FVal.isNan_iff, hu]), if_pos (by simp [FVal.isNan_iff, hv])]
  · simp only [FVal.isNan_iff, hu, hv, Bool.and_eq_true, and_self, if_false, if_true]
    exact ⟨fun lower => if_neg (mt (FVal.below_iff hu hv).1 (FVal.lower_asymm hv hu lower)),
      fun lower => if_pos ((FVal.below_iff hu hv).2 lower), (ite_eq_or_eq _ _ _).symm⟩

end Sys2Proof

namespace Sys2Proof.Machine

theorem writesV_pick {i : Instr} {s : State} {c : Cur} {w : Warp} {d a b : VReg} {larger : Bool} (h : Issues s c w)
    (hf : w.free [d.toNat, a.toNat, b.toNat]) (he : exec i s = s.vecTri d a b (onF32 fun _ x y => fPick .f32 larger x y))
    {p q : FVal → FVal → Prop} (hp : ∀ x y, Picks .f32 x y (fPick .f32 larger x y) p q) :
    ∃ g : Nat → Word, WritesV i s c w d g ∧ ∀ l, Picks .f32 (w.v a.toNat l).toNat (w.v b.toNat l).toNat (g l).toNat p q := by
  refine ⟨_, writesV_vecTri h hf he fun _ _ _ => rfl, fun l => ?_⟩
  rw [onF32, BitVec.toNat_ofNat, Nat.mod_eq_of_lt (fPick_lt larger (by decide) (w.v a.toNat l).isLt (w.v b.toNat l).isLt)]
  exact hp _ _

theorem writesHalves_pick {i : Instr} {s : State} {c : Cur} {w : Warp} {d a b : VReg} {f : Fmt} {larger : Bool}
    (hm : f.magBits = 15) (h : Issues s c w) (hf : w.free [d.toNat, a.toNat, b.toNat])
    (he : exec i s = s.vecTri d a b (onHalves fun _ x y => fPick f larger x y))
    {p q : FVal → FVal → Prop} (hp : ∀ x y, Picks f x y (fPick f larger x y) p q) :
    ∃ g : Nat → Nat → Nat, WritesHalves i s c w d g ∧
      ∀ l h, h < 2 → Picks f (half (w.v a.toNat l) h) (half (w.v b.toNat l) h) (g l h) p q := by
  have nan : f.nanCode < 2 ^ 16 := by have := nanCode_lt_succ f; rwa [hm] at this
  exact ⟨_, writesHalves_vecTri h hf he fun _ _ _ _ hx hy => fPick_lt larger nan hx hy, fun _ _ _ => hp _ _⟩

/-! ### `fcmp` -/

/-- The relation that a condition of `fcmp` tests. -/
def FCmpCond.rel (k : FCmpCond) (x y : FVal) : Prop :=
  match k with
  | .eq => x.leq y ∧ y.leq x
  | .ne => ¬(x.leq y ∧ y.leq x)
  | .lt => x.leq y ∧ ¬y.leq x
  | .le => x.leq y
  | .gt => y.leq x ∧ ¬x.leq y
  | .ge => y.leq x
  | .ord => x ≠ .nan ∧ y ≠ .nan
  | .unord => x = .nan ∨ y = .nan

theorem fCompare_iff (k : FCmpCond) (a b : Word) :
    fCompare k a b = true ↔ FCmpCond.rel k (Fmt.f32.value a.toNat) (Fmt.f32.value b.toNat) := by
  simp only [fCompare]
  generalize Fmt.f32.value a.toNat = x
  generalize Fmt.f32.value b.toNat = y
  by_cases nan : x = .nan ∨ y = .nan
  · have unord : (x.isNan || y.isNan) = true := by simpa [FVal.isNan_iff] using nan
    have hxy := FVal.leq_of_nan nan
    have hyx := FVal.leq_of_nan nan.symm
    cases k <;> simp [FCmpCond.rel, unord, hxy, hyx, nan, ← not_or]
  · have unord : (x.isNan || y.isNan) = false := by rw [← Bool.not_eq_true]; simpa [FVal.isNan_iff] using nan
    rw [not_or] at nan
    rcases FVal.cmp_cases nan.1 nan.2 with ⟨hc, hxy, hyx⟩ | ⟨hc, hxy, hyx⟩ | ⟨hc, hxy, hyx⟩ <;>
      cases k <;> simp [FCmpCond.rel, unord, hc, hxy, hyx, nan]

/-- Settles O10: picking by the order of R89, and the conditions of `fcmp` by the same order. -/
theorem floatMinMax : Obligations.FloatMinMax := by
  refine ⟨fun s c w d a b h hf => ⟨?min, ?max, ?minF16, ?maxF16, ?minBf16, ?maxBf16⟩, fun s c w p a b h hf => ?cmp⟩
  case min => exact writesV_pick (i := .fmin d a b) h hf rfl (picks_fPick_min .f32)
  case max => exact writesV_pick (i := .fmax d a b) h hf rfl (picks_fPick_max .f32)
  case minF16 => exact writesHalves_pick (i := .fminF16x2 d a b) rfl h hf rfl (picks_fPick_min .f16)
  case maxF16 => exact writesHalves_pick (i := .fmaxF16x2 d a b) rfl h hf rfl (picks_fPick_max .f16)
  case minBf16 => exact writesHalves_pick (i := .fminBf16x2 d a b) rfl h hf rfl (picks_fPick_min .bf16)
  case maxBf16 => exact writesHalves_pick (i := .fmaxBf16x2 d a b) rfl h hf rfl (picks_fPick_max .bf16)
  case cmp =>
    have tests (k : FCmpCond) : WritesP (.fcmp k p a b) s c w p fun l =>
        FCmpCond.rel k (Fmt.f32.value (w.v a.toNat l).toNat) (Fmt.f32.value (w.v b.toNat l).toNat) :=
      writesP_predMap h hf rfl fun _ => fCompare_iff k _ _
    exact ⟨tests .eq, tests .ne, tests .lt, tests .le, tests .gt, tests .ge, tests .ord, tests .unord⟩

end Sys2Proof.Machine
end

section
/-!
PROOFS. Exact arithmetic (R88, R364): sums and products of finite values as numbers, the sign of a zero, `integral` by the whole
part and the fraction of a magnitude, and the special values.
-/

namespace Sys2Proof

/-! ### Signed mantissas -/

theorem signedMant_ofInt (s : Int) : signedMant (decide (s < 0)) s.natAbs = s := by
  rw [signedMant]
  split
  next h => have := of_decide_eq_true h; omega
  next h => have := of_decide_eq_false (Bool.eq_false_of_not_eq_true h); omega

theorem signedMant_mul (a b : Bool) (m n : Nat) : signedMant (a != b) (m * n) = signedMant a m * signedMant b n := by
  cases a <;> cases b <;> simp [signedMant]

theorem signedMant_eq_zero {a : Bool} {m : Nat} : signedMant a m = 0 ↔ m = 0 := by cases a <;> simp [signedMant]

theorem FVal.rat_fin_eq_zero {a : Bool} {m : Nat} {e : Int} : (FVal.fin a m e).rat = 0 ↔ m = 0 := by
  rw [FVal.rat_fin, mul_eq_zero, or_iff_left (by positivity), Int.cast_eq_zero, signedMant_eq_zero]

/-! ### Sums and products -/

/-- The sum of two mantissas in units of the lower power of two. -/
def addMant (a b : Bool) (m n : Nat) (e f : Int) : Int :=
  signedMant a m * 2 ^ (e - min e f).toNat + signedMant b n * 2 ^ (f - min e f).toNat

theorem FVal.add_fin (a b : Bool) (m n : Nat) (e f : Int) : (FVal.fin a m e).add (.fin b n f) =
    if addMant a b m n e f = 0 then .fin (a && b) 0 (min e f)
    else .fin (decide (addMant a b m n e f < 0)) (addMant a b m n e f).natAbs (min e f) := rfl

theorem addMant_scaled (a b : Bool) (m n : Nat) (e f : Int) :
    (addMant a b m n e f : ℚ) * 2 ^ min e f = (FVal.fin a m e).rat + (FVal.fin b n f).rat := by
  rw [addMant, Int.cast_add, add_mul, signedMant_scaled _ _ (min_le_left e f), signedMant_scaled _ _ (min_le_right e f),
    FVal.rat_fin, FVal.rat_fin]

theorem FVal.rat_add_fin (a b : Bool) (m n : Nat) (e f : Int) :
    ((FVal.fin a m e).add (.fin b n f)).rat = (FVal.fin a m e).rat + (FVal.fin b n f).rat := by
  rw [FVal.add_fin, ← addMant_scaled]
  split
  next zero => simp [FVal.rat, zero]
  next => rw [FVal.rat_fin, signedMant_ofInt]

theorem FVal.isNeg_add_fin {a b : Bool} {m n : Nat} {e f : Int} (h : ((FVal.fin a m e).add (.fin b n f)).rat = 0) :
    ((FVal.fin a m e).add (.fin b n f)).isNeg = (a && b) := by
  rw [FVal.rat_add_fin, ← addMant_scaled, mul_eq_zero, or_iff_left (by positivity), Int.cast_eq_zero] at h
  rw [FVal.add_fin, if_pos h]
  rfl

theorem FVal.isFin_add_fin (a b : Bool) (m n : Nat) (e f : Int) : ((FVal.fin a m e).add (.fin b n f)).isFin = true := by
  rw [FVal.add_fin]
  split <;> rfl

theorem FVal.rat_mul_fin (a b : Bool) (m n : Nat) (e f : Int) :
    ((FVal.fin a m e).mul (.fin b n f)).rat = (FVal.fin a m e).rat * (FVal.fin b n f).rat := by
  rw [FVal.mul, FVal.rat_fin, FVal.rat_fin, FVal.rat_fin, signedMant_mul, zpow_add₀ two_ne_zero]
  push_cast
  ring

theorem FVal.rat_neg_fin (a : Bool) (m : Nat) (e : Int) : (FVal.fin a m e).neg.rat = -(FVal.fin a m e).rat := by
  rw [FVal.neg, FVal.rat_fin, FVal.rat_fin, ← neg_mul]
  cases a <;> simp [signedMant]

/-! ### A magnitude's whole part and fraction -/

/-- A magnitude m / 2^s is its whole part and a fraction below 1. -/
theorem div_two_pow_eq (m s : Nat) : (m : ℚ) / 2 ^ s = (m / 2 ^ s : Nat) + (m % 2 ^ s : Nat) / 2 ^ s := by
  rw [div_eq_iff (by positivity), add_mul, div_mul_cancel₀ _ (by positivity)]
  exact_mod_cast (Nat.div_add_mod' m (2 ^ s)).symm

theorem fraction_bounds (m s : Nat) : 0 ≤ ((m % 2 ^ s : Nat) : ℚ) / 2 ^ s ∧ ((m % 2 ^ s : Nat) : ℚ) / 2 ^ s < 1 := by
  refine ⟨by positivity, ?_⟩
  rw [div_lt_one (by positivity)]
  exact_mod_cast Nat.mod_lt m (Nat.two_pow_pos s)

theorem fraction_eq_zero {r s : Nat} : (r : ℚ) / 2 ^ s = 0 ↔ r = 0 := by
  rw [div_eq_zero_iff, or_iff_left (by positivity), Nat.cast_eq_zero]

theorem half_lt_fraction {r s : Nat} : 1 / 2 < (r : ℚ) / 2 ^ s ↔ 2 ^ s < 2 * r := by
  rw [div_lt_div_iff₀ two_pos (by positivity), one_mul, mul_comm (r : ℚ)]
  exact_mod_cast Iff.rfl

theorem fraction_eq_half {r s : Nat} : (r : ℚ) / 2 ^ s = 1 / 2 ↔ 2 * r = 2 ^ s := by
  rw [div_eq_div_iff (by positivity) two_ne_zero, one_mul, mul_comm (r : ℚ)]
  exact_mod_cast Iff.rfl

/-- A value with a negative power of two, by the whole part and the fraction of its magnitude. -/
theorem FVal.rat_fin_of_neg (a : Bool) (m : Nat) {e : Int} (he : e < 0) : (FVal.fin a m e).rat =
    (if a then -1 else 1) * ((m / 2 ^ (-e).toNat : Nat) + (m % 2 ^ (-e).toNat : Nat) / 2 ^ (-e).toNat : ℚ) := by
  have power : (2 : ℚ) ^ e = (2 ^ (-e).toNat)⁻¹ := by
    rw [← zpow_natCast, ← zpow_neg, Int.toNat_of_nonneg (by omega), neg_neg]
  rw [← div_two_pow_eq, FVal.rat, power, mul_assoc, div_eq_mul_inv]

/-! ### Rounding a magnitude to an integer -/

/-- Nearest, ties to even. -/
theorem roundMag_nearest (neg : Bool) (x n : Nat) {r s : Nat} (hr : r < 2 ^ s) :
    |(n : ℚ) + r / 2 ^ s - roundMag .nearest neg x n r s| ≤ 1 / 2 ∧
      (|(n : ℚ) + r / 2 ^ s - roundMag .nearest neg x n r s| = 1 / 2 → Even (roundMag .nearest neg x n r s)) := by
  have nonneg : 0 ≤ (r : ℚ) / 2 ^ s := by positivity
  have below : (r : ℚ) / 2 ^ s < 1 := by rw [div_lt_one (by positivity)]; exact_mod_cast hr
  rw [roundMag]
  split
  next up =>
    have least : 1 / 2 ≤ (r : ℚ) / 2 ^ s := by
      rcases up with h | h
      · exact (half_lt_fraction.2 h).le
      · exact (fraction_eq_half.2 h.1).ge
    have dist : |(n : ℚ) + r / 2 ^ s - (n + 1 : Nat)| = 1 - r / 2 ^ s := by
      push_cast
      rw [abs_of_nonpos (by linarith)]
      ring
    rw [dist]
    refine ⟨by linarith, fun tie => ?_⟩
    have half : (r : ℚ) / 2 ^ s = 1 / 2 := by linarith
    rcases up with h | h
    · exact absurd half (half_lt_fraction.2 h).ne'
    · exact (Nat.odd_iff.2 h.2).add_one
  next down =>
    rw [not_or, not_and, not_lt] at down
    have most : (r : ℚ) / 2 ^ s ≤ 1 / 2 := not_lt.1 fun h => absurd (half_lt_fraction.1 h) (not_lt.2 down.1)
    rw [add_sub_cancel_left, abs_of_nonneg nonneg]
    exact ⟨most, fun tie => Nat.even_iff.2 (by have := down.2 (fraction_eq_half.1 tie); omega)⟩

/-- A magnitude rounded down for positive values and up for negative ones, as the floor has it. -/
theorem floor_eq_roundMag (neg : Bool) (x n : Nat) {r s : Nat} (hr : r < 2 ^ s) :
    ⌊(if neg then -1 else 1) * ((n : ℚ) + r / 2 ^ s)⌋ = signedMant neg (roundMag .down neg x n r s) := by
  have nonneg : 0 ≤ (r : ℚ) / 2 ^ s := by positivity
  have below : (r : ℚ) / 2 ^ s < 1 := by rw [div_lt_one (by positivity)]; exact_mod_cast hr
  rw [Int.floor_eq_iff]
  cases neg with
  | false =>
    simp only [roundMag, signedMant, Bool.false_eq_true, false_and, if_false, one_mul]
    push_cast
    constructor <;> linarith
  | true =>
    by_cases hz : r = 0
    · simp [roundMag, signedMant, hz]
    · have pos : 0 < (r : ℚ) / 2 ^ s := lt_of_le_of_ne nonneg (Ne.symm (mt fraction_eq_zero.1 hz))
      simp only [roundMag, signedMant, if_true, true_and, ne_eq, hz, not_false_eq_true]
      push_cast
      constructor <;> linarith

/-- The ceiling is the floor of the negative. -/
theorem ceil_eq_neg_floor_neg (neg : Bool) (y : ℚ) :
    ⌈(if neg then -1 else 1) * y⌉ = -⌊(if !neg then -1 else 1) * y⌋ := by
  rw [← Int.ceil_neg]
  congr 1
  cases neg <;> simp

/-! ### `integral` -/

theorem FVal.integral_fin_of_nonneg (dir : RndDir) (a : Bool) (m : Nat) {e : Int} (he : 0 ≤ e) :
    (FVal.fin a m e).integral dir = .fin a m e := by
  simp [FVal.integral, he]

theorem FVal.isFin_integral_fin (dir : RndDir) (a : Bool) (m : Nat) (e : Int) :
    ((FVal.fin a m e).integral dir).isFin = true ∧ ((FVal.fin a m e).integral dir).isNeg = a := by
  rw [FVal.integral]
  split <;> exact ⟨rfl, rfl⟩

/-- A value with no negative power of two is an integer. -/
theorem FVal.rat_fin_int (a : Bool) (m : Nat) {e : Int} (he : 0 ≤ e) :
    (FVal.fin a m e).rat = (signedMant a m * 2 ^ e.toNat : Int) := by
  rw [FVal.rat_fin]
  push_cast
  rw [← zpow_natCast, Int.toNat_of_nonneg he]

/-- The whole part of a magnitude, with its sign, is the value truncated. -/
theorem trunc_eq (neg : Bool) (n : Nat) {r s : Nat} (hr : r < 2 ^ s) :
    (let q := (if neg then -1 else 1) * ((n : ℚ) + r / 2 ^ s)
     if q < 0 then ⌈q⌉ else ⌊q⌋) = signedMant neg n := by
  have nonneg : 0 ≤ (r : ℚ) / 2 ^ s := by positivity
  have below : (r : ℚ) / 2 ^ s < 1 := by rw [div_lt_one (by positivity)]; exact_mod_cast hr
  cases neg with
  | false =>
    have : ¬(n : ℚ) + r / 2 ^ s < 0 := not_lt.2 (by positivity)
    simp only [Bool.false_eq_true, if_false, one_mul, this, signedMant, Int.floor_eq_iff]
    push_cast
    constructor <;> linarith
  | true =>
    simp only [if_true, signedMant]
    split
    next =>
      rw [Int.ceil_eq_iff]
      push_cast
      constructor <;> linarith
    next h =>
      have zero : (n : ℚ) + r / 2 ^ s = 0 := le_antisymm (by linarith) (by positivity)
      have whole : (n : ℚ) = 0 := le_antisymm (by linarith) (by positivity)
      rw [zero, mul_zero, Int.floor_zero, Nat.cast_eq_zero.1 whole]
      rfl

section Integral
variable (a : Bool) (m : Nat) (e : Int)

theorem FVal.rat_integral_dn : ((FVal.fin a m e).integral .dn).rat = ⌊(FVal.fin a m e).rat⌋ := by
  by_cases he : 0 ≤ e
  · rw [FVal.integral_fin_of_nonneg _ _ _ he, FVal.rat_fin_int _ _ he, Int.floor_intCast]
  · have hr : m % 2 ^ (-e).toNat < 2 ^ (-e).toNat := Nat.mod_lt _ (Nat.two_pow_pos _)
    rw [FVal.rat_fin_of_neg a m (not_le.1 he), floor_eq_roundMag a 0 _ hr, FVal.integral, if_neg he, FVal.rat_fin, zpow_zero,
      mul_one]

/-- `up` is `dn` of the negative. -/
theorem FVal.integral_up : (FVal.fin a m e).integral .up = ((FVal.fin (!a) m e).integral .dn).neg := by
  simp only [FVal.integral, roundMag]
  split
  next => simp [FVal.neg]
  next => cases a <;> by_cases hr : m % 2 ^ (-e).toNat = 0 <;> simp [FVal.neg, hr]

theorem FVal.rat_neg (x : FVal) : x.neg.rat = -x.rat := by
  cases x with
  | nan | inf a => simp [FVal.neg, FVal.rat]
  | fin a m e => exact FVal.rat_neg_fin a m e

theorem FVal.rat_integral_up : ((FVal.fin a m e).integral .up).rat = ⌈(FVal.fin a m e).rat⌉ := by
  have flip : (FVal.fin (!a) m e).rat = -(FVal.fin a m e).rat := FVal.rat_neg_fin a m e
  rw [FVal.integral_up, FVal.rat_neg, FVal.rat_integral_dn, flip, Int.floor_neg]
  push_cast
  rw [neg_neg]

theorem FVal.rat_integral_z : ((FVal.fin a m e).integral .z).rat =
    (if (FVal.fin a m e).rat < 0 then ⌈(FVal.fin a m e).rat⌉ else ⌊(FVal.fin a m e).rat⌋ : ℤ) := by
  by_cases he : 0 ≤ e
  · rw [FVal.integral_fin_of_nonneg _ _ _ he, FVal.rat_fin_int _ _ he, Int.floor_intCast, Int.ceil_intCast, ite_self]
  · have hr : m % 2 ^ (-e).toNat < 2 ^ (-e).toNat := Nat.mod_lt _ (Nat.two_pow_pos _)
    rw [FVal.rat_fin_of_neg a m (not_le.1 he), trunc_eq a _ hr, FVal.integral, if_neg he, FVal.rat_fin, zpow_zero, mul_one]

theorem FVal.rat_integral_ne : ∃ k : ℤ, ((FVal.fin a m e).integral .ne).rat = k ∧
    |(FVal.fin a m e).rat - k| ≤ 1 / 2 ∧ (|(FVal.fin a m e).rat - k| = 1 / 2 → Even k) := by
  by_cases he : 0 ≤ e
  · refine ⟨_, by rw [FVal.integral_fin_of_nonneg _ _ _ he, FVal.rat_fin_int _ _ he], ?_⟩
    rw [FVal.rat_fin_int _ _ he, sub_self, abs_zero]
    norm_num
  · have hr : m % 2 ^ (-e).toNat < 2 ^ (-e).toNat := Nat.mod_lt _ (Nat.two_pow_pos _)
    obtain ⟨near, tie⟩ := roundMag_nearest a 0 (m / 2 ^ (-e).toNat) hr
    refine ⟨signedMant a (roundMag .nearest a 0 (m / 2 ^ (-e).toNat) (m % 2 ^ (-e).toNat) (-e).toNat), ?_, ?_⟩
    · rw [FVal.integral, if_neg he, FVal.rat_fin, zpow_zero, mul_one]
    · rw [FVal.rat_fin_of_neg a m (not_le.1 he)]
      cases a with
      | false =>
        simp only [Bool.false_eq_true, if_false, one_mul, signedMant, Int.cast_natCast] at near tie ⊢
        exact ⟨near, fun h => (Int.even_coe_nat _).2 (tie h)⟩
      | true =>
        simp only [if_true, neg_mul, one_mul, signedMant, Int.cast_neg, Int.cast_natCast, sub_neg_eq_add] at near tie ⊢
        rw [neg_add_eq_sub, abs_sub_comm]
        exact ⟨near, fun h => ((Int.even_coe_nat _).2 (tie h)).neg⟩

end Integral

/-! ### Infinities -/

theorem FVal.mul_inf (a b : Bool) (n : Nat) (e : Int) :
    ((FVal.fin b n e).rat = 0 → (FVal.inf a).mul (.fin b n e) = .nan ∧ (FVal.fin b n e).mul (.inf a) = .nan) ∧
    ((FVal.fin b n e).rat ≠ 0 → (FVal.inf a).mul (.fin b n e) = .inf (a != b) ∧ (FVal.fin b n e).mul (.inf a) = .inf (a != b)) := by
  rw [ne_eq, FVal.rat_fin_eq_zero]
  refine ⟨fun zero => ?_, fun nonzero => ?_⟩
  · simp [FVal.mul, zero]
  · simp [FVal.mul, nonzero, Bool.xor_comm]

/-- Settles O11: finite values as numbers, and the special values case by case. -/
theorem floatOperationsExact : Obligations.FloatOperationsExact := by
  refine ⟨fun x y hx hy => ?finite, fun x => ?nans, fun a => ⟨fun b => ⟨rfl, rfl⟩, rfl, fun dir => ⟨rfl, rfl⟩, fun y hy => ?inf⟩⟩
  case finite =>
    cases x with
    | nan | inf _ => simp [FVal.isFin] at hx
    | fin a m e =>
      cases y with
      | nan | inf _ => simp [FVal.isFin] at hy
      | fin b n f =>
        exact ⟨FVal.isFin_add_fin .., FVal.rat_add_fin .., rfl, FVal.rat_mul_fin .., rfl, FVal.rat_neg_fin ..,
          FVal.rat_integral_dn .., FVal.rat_integral_up .., FVal.rat_integral_z .., FVal.rat_integral_ne ..,
          FVal.isNeg_add_fin, rfl, rfl, fun dir => FVal.isFin_integral_fin dir ..⟩
  case nans => cases x <;> exact ⟨rfl, rfl, rfl, rfl⟩
  case inf =>
    cases y with
    | nan | inf _ => simp [FVal.isFin] at hy
    | fin b n f => exact ⟨rfl, rfl, FVal.mul_inf a b n f⟩

end Sys2Proof
end

section
/-!
PROOFS. Rounding to a format (R83, R88, R100): the magnitudes of the codes in order, a value between two of them, and what
rounding does with it.
-/

namespace Sys2Proof

/-! ### The magnitudes of a format's codes -/

/-- The magnitude of a code without its sign, also past the largest finite one (R86, R90). -/
def Fmt.mag (f : Fmt) (k : Nat) : ℚ :=
  (if k / 2 ^ f.mbits = 0 then k % 2 ^ f.mbits else 2 ^ f.mbits + k % 2 ^ f.mbits : Nat) *
    2 ^ (f.qmin + (k / 2 ^ f.mbits - 1 : Nat))

/-- A finite code is its sign and its magnitude. -/
theorem value_eq_fin (f : Fmt) {code : Nat} (h : code % 2 ^ f.magBits ≤ f.maxCode) : ∃ m e,
    f.value code = .fin (code / 2 ^ f.magBits % 2 == 1) m e ∧ (m : ℚ) * 2 ^ e = f.mag (code % 2 ^ f.magBits) := by
  simp only [Fmt.value, gt_iff_lt, not_lt.2 h, if_false, Fmt.mag]
  split
  next he => exact ⟨_, _, rfl, by simp [he]⟩
  next => exact ⟨_, _, rfl, by simp⟩

/-- A code above the largest finite magnitude is no finite value. -/
theorem isFin_value_iff (f : Fmt) (code : Nat) : (f.value code).isFin = true ↔ code % 2 ^ f.magBits ≤ f.maxCode := by
  constructor
  · contrapose!
    intro h
    simp only [Fmt.value, gt_iff_lt, h, if_true]
    split <;> simp [FVal.isFin]
  · intro h
    obtain ⟨m, e, hv, -⟩ := value_eq_fin f h
    rw [hv]
    rfl

theorem value_of_isFin (f : Fmt) {code : Nat} (h : (f.value code).isFin = true) :
    (f.value code).isNeg = (code / 2 ^ f.magBits % 2 == 1) ∧
      (f.value code).rat = (if code / 2 ^ f.magBits % 2 == 1 then -1 else 1) * f.mag (code % 2 ^ f.magBits) := by
  obtain ⟨m, e, hv, hmag⟩ := value_eq_fin f ((isFin_value_iff f code).1 h)
  rw [hv, ← hmag, FVal.rat, mul_assoc]
  exact ⟨rfl, rfl⟩

/-- A code put together from a sign and a magnitude. -/
theorem value_signed (f : Fmt) (neg : Bool) {c : Nat} (h : c ≤ f.maxCode) : (f.value (f.signed neg c)).isFin = true ∧
    (f.value (f.signed neg c)).isNeg = neg ∧ (f.value (f.signed neg c)).rat = (if neg then -1 else 1) * f.mag c := by
  have fits : c < 2 ^ f.magBits := h.trans_lt (Machine.maxCode_lt f)
  have low : f.signed neg c % 2 ^ f.magBits = c := by
    cases neg
    · simp [Fmt.signed, Nat.mod_eq_of_lt fits]
    · simp [Fmt.signed, Nat.mod_eq_of_lt fits]
  have sign : (f.signed neg c / 2 ^ f.magBits % 2 == 1) = neg := by
    cases neg
    · simp [Fmt.signed, Nat.div_eq_of_lt fits]
    · simp [Fmt.signed, Nat.add_div_left, Nat.div_eq_of_lt fits]
  have fin : (f.value (f.signed neg c)).isFin = true := (isFin_value_iff f _).2 (low.trans_le h)
  have parts := value_of_isFin f fin
  rw [sign, low] at parts
  exact ⟨fin, parts⟩

theorem rat_value (f : Fmt) {k : Nat} (h : k ≤ f.maxCode) : (f.value k).rat = f.mag k := by
  have := (value_signed f false h).2.2
  simpa [Fmt.signed] using this

theorem mbits_pos (f : Fmt) : 0 < f.mbits := by cases f <;> decide

/-- Within one binade, its end included, magnitudes are multiples of one power of two. -/
theorem mag_binade (f : Fmt) {j u : Nat} (hu : u ≤ 2 ^ (f.mbits + 1)) (hj : j = 0 ∨ 2 ^ f.mbits ≤ u) :
    f.mag (j * 2 ^ f.mbits + u) = u * 2 ^ (f.qmin + j) := by
  have pos : 0 < 2 ^ f.mbits := Nat.two_pow_pos _
  rw [pow_succ] at hu
  rcases Nat.lt_or_ge u (2 ^ f.mbits) with sub | norm
  · obtain rfl : j = 0 := hj.resolve_right (not_le.2 sub)
    simp [Fmt.mag, Nat.div_eq_of_lt sub, Nat.mod_eq_of_lt sub]
  rcases Nat.lt_or_ge u (2 ^ f.mbits * 2) with inside | last
  · have hdiv : (j * 2 ^ f.mbits + u) / 2 ^ f.mbits = j + 1 := by
      rw [Nat.add_div_of_dvd_right (Nat.dvd_mul_left ..), Nat.mul_div_cancel _ pos, Nat.div_eq_of_lt_le (k := 1) (by omega) (by omega)]
    have hmod : (j * 2 ^ f.mbits + u) % 2 ^ f.mbits = u - 2 ^ f.mbits := by
      have := Nat.div_add_mod' (j * 2 ^ f.mbits + u) (2 ^ f.mbits)
      rw [hdiv, Nat.add_mul, one_mul] at this
      omega
    rw [Fmt.mag, hdiv, hmod, if_neg (Nat.succ_ne_zero j), Nat.add_sub_cancel' norm]
    rfl
  · obtain rfl : u = 2 ^ f.mbits * 2 := le_antisymm hu last
    have hk : j * 2 ^ f.mbits + 2 ^ f.mbits * 2 = (j + 2) * 2 ^ f.mbits := by ring
    rw [Fmt.mag, hk, Nat.mul_div_cancel _ pos, Nat.mul_mod_left, if_neg (by omega), show j + 2 - 1 = j + 1 by omega]
    push_cast
    rw [← add_assoc, zpow_add_one₀ two_ne_zero]
    ring

/-- Every code lies within a binade that does not end with it. -/
theorem exists_binade (f : Fmt) (k : Nat) : ∃ j u, k = j * 2 ^ f.mbits + u ∧ u < 2 ^ (f.mbits + 1) ∧ (j = 0 ∨ 2 ^ f.mbits ≤ u) := by
  have hk := Nat.div_add_mod' k (2 ^ f.mbits)
  have hr := Nat.mod_lt k (Nat.two_pow_pos f.mbits)
  rcases he : k / 2 ^ f.mbits with _ | j
  · rw [he] at hk
    exact ⟨0, k, by omega, by rw [pow_succ]; omega, .inl rfl⟩
  · rw [he, Nat.succ_mul] at hk
    exact ⟨j, 2 ^ f.mbits + k % 2 ^ f.mbits, by omega, by rw [pow_succ]; omega, .inr (by omega)⟩

theorem mag_strictMono (f : Fmt) : StrictMono f.mag := by
  refine strictMono_nat_of_lt_succ fun k => ?_
  obtain ⟨j, u, rfl, hu, hj⟩ := exists_binade f k
  rw [Nat.add_assoc, mag_binade f hu.le hj, mag_binade f hu (hj.imp_right fun h => h.trans (Nat.le_succ u))]
  push_cast
  exact mul_lt_mul_of_pos_right (lt_add_one _) (by positivity)

theorem mag_zero (f : Fmt) : f.mag 0 = 0 := by simp [Fmt.mag]

theorem mag_nonneg (f : Fmt) (k : Nat) : 0 ≤ f.mag k := by rw [Fmt.mag]; positivity

/-! ### A value between two codes -/

/-- A magnitude stands at the fraction r / 2^s of the way from code k to the next one. -/
structure Fmt.Between (f : Fmt) (a : ℚ) (k r s : Nat) : Prop where
  frac : r < 2 ^ s
  place : a = f.mag k + r / 2 ^ s * (f.mag (k + 1) - f.mag k)

theorem step_pos (f : Fmt) (k : Nat) : 0 < f.mag (k + 1) - f.mag k := sub_pos.2 (mag_strictMono f (Nat.lt_succ_self k))

section Between
variable {f : Fmt} {a : ℚ} {k r s : Nat} (h : f.Between a k r s)
include h

theorem Fmt.Between.frac_lt_one : (r : ℚ) / 2 ^ s < 1 := by
  rw [div_lt_one (by positivity)]; exact_mod_cast h.frac

theorem Fmt.Between.mag_le : f.mag k ≤ a := by
  rw [h.place]
  exact le_add_of_nonneg_right (mul_nonneg (by positivity) (step_pos f k).le)

theorem Fmt.Between.lt_mag_succ : a < f.mag (k + 1) := by
  have := mul_lt_mul_of_pos_right h.frac_lt_one (step_pos f k)
  rw [h.place]
  linarith

theorem Fmt.Between.mag_le_iff {i : Nat} : f.mag i ≤ a ↔ i ≤ k := by
  constructor
  · intro hi
    exact Nat.lt_succ_iff.1 ((mag_strictMono f).lt_iff_lt.1 (hi.trans_lt h.lt_mag_succ))
  · intro hi
    exact ((mag_strictMono f).monotone hi).trans h.mag_le

/-- The fraction is 0 exactly when the magnitude is a code's. -/
theorem Fmt.Between.eq_of_mag_eq {i : Nat} (hi : f.mag i = a) : i = k ∧ r = 0 := by
  have le : i ≤ k := h.mag_le_iff.1 hi.le
  have ge : k ≤ i := (mag_strictMono f).le_iff_le.1 (hi ▸ h.mag_le)
  obtain rfl := le_antisymm le ge
  refine ⟨rfl, ?_⟩
  have zero : (r : ℚ) / 2 ^ s * (f.mag (i + 1) - f.mag i) = 0 := by have := h.place; linarith
  exact fraction_eq_zero.1 ((mul_eq_zero.1 zero).resolve_right (step_pos f i).ne')

theorem Fmt.Between.frac_eq : (a - f.mag k) / (f.mag (k + 1) - f.mag k) = r / 2 ^ s := by
  rw [div_eq_iff (step_pos f k).ne', h.place, add_sub_cancel_left]

end Between

/-! ### What rounding does -/

/-- Without a fraction every mode keeps the whole part. -/
theorem roundMag_exact (rnd : Rnd) (neg : Bool) {x : Nat} (hx : x < 2 ^ 32) (n s : Nat) : roundMag rnd neg x n 0 s = n := by
  cases rnd with
  | nearest => exact if_neg (by have := Nat.two_pow_pos s; omega)
  | zero => rfl
  | down => exact if_neg (by simp)
  | stochastic => exact if_neg (by simpa using hx)

/-- An even part on top does not matter. -/
theorem roundMag_add {b : Nat} (hb : Even b) (rnd : Rnd) (neg : Bool) (x n r s : Nat) :
    roundMag rnd neg x (b + n) r s = b + roundMag rnd neg x n r s := by
  have odd : (b + n) % 2 = n % 2 := by have := Nat.even_iff.1 hb; omega
  cases rnd with
  | nearest => simp only [roundMag, odd]; split <;> rfl
  | zero => rfl
  | down | stochastic => simp only [roundMag]; split <;> rfl

theorem roundMag_eq_or (rnd : Rnd) (neg : Bool) (x n r s : Nat) :
    roundMag rnd neg x n r s = n ∨ roundMag rnd neg x n r s = n + 1 := by
  cases rnd with
  | zero => exact .inl rfl
  | nearest | down | stochastic => exact (ite_eq_or_eq _ _ _).symm

/-- A magnitude in units of a power of two has a whole part and a fraction, by which each mode rounds it. -/
theorem roundUnits_eq_roundMag (m : Nat) (e q : Int) : ∃ n r s : Nat, r < 2 ^ s ∧ (m : ℚ) * 2 ^ e = (n + r / 2 ^ s) * 2 ^ q ∧
    ∀ rnd neg x, x < 2 ^ 32 → roundUnits rnd neg x m e q = roundMag rnd neg x n r s := by
  rcases le_or_gt q e with h | h
  · refine ⟨m * 2 ^ (e - q).toNat, 0, 0, by simp, ?_, fun rnd neg x hx => ?_⟩
    · have := signedMant_scaled false m h
      simp only [signedMant, Bool.false_eq_true, if_false] at this
      push_cast at this ⊢
      rw [← this]
      ring
    · rw [roundMag_exact _ _ hx, roundUnits, if_pos h]
  · refine ⟨_, _, (q - e).toNat, Nat.mod_lt m (Nat.two_pow_pos _), ?_, fun rnd neg x _ => by
      rw [roundUnits, if_neg (not_le.2 h)]⟩
    have power : (2 : ℚ) ^ q = 2 ^ (q - e).toNat * 2 ^ e := by
      rw [← zpow_natCast, ← zpow_add₀ two_ne_zero, Int.toNat_of_nonneg (by omega), sub_add_cancel]
    rw [← div_two_pow_eq, power, ← mul_assoc, div_mul_cancel₀ _ (by positivity)]

/-- Where a rounded magnitude's code goes (R100 steps 2 and 3). -/
def Fmt.placed (f : Fmt) (md : CvtField) (neg : Bool) (c : Nat) : Nat :=
  if f.maxCode < c then f.overflow md neg else f.signed neg c

/-- Powers of two around a mantissa. -/
theorem log2_bounds {m : Nat} (hm : m ≠ 0) (e : Int) :
    (2 : ℚ) ^ ((Nat.log2 m : Int) + e) ≤ m * 2 ^ e ∧ (m : ℚ) * 2 ^ e < 2 ^ ((Nat.log2 m : Int) + e + 1) := by
  have pos : (0 : ℚ) < 2 ^ e := by positivity
  constructor
  · rw [zpow_add₀ two_ne_zero, zpow_natCast]
    exact mul_le_mul_of_nonneg_right (by exact_mod_cast Nat.log2_self_le hm) pos.le
  · rw [add_right_comm, zpow_add₀ two_ne_zero]
    refine mul_lt_mul_of_pos_right ?_ pos
    exact_mod_cast Nat.lt_log2_self

/-- Rounding finds a finite value between two codes and takes one of them, by its mode. -/
theorem round_fin (f : Fmt) (neg : Bool) (m : Nat) (e : Int) : ∃ k r s, f.Between (m * 2 ^ e) k r s ∧
    ∀ md x, x < 2 ^ 32 → f.round md x (.fin neg m e) = f.placed md neg (roundMag md.rnd neg x k r s) := by
  rcases eq_or_ne m 0 with rfl | hm
  · refine ⟨0, 0, 0, ⟨by simp, by simp [mag_zero]⟩, fun md x hx => ?_⟩
    rw [roundMag_exact _ _ hx, Fmt.placed, if_neg (Nat.not_lt_zero _), Fmt.round, if_pos rfl]
  obtain ⟨top, htop⟩ : ∃ top, top = (Nat.log2 m : Int) + e := ⟨_, rfl⟩
  obtain ⟨q, hq⟩ : ∃ q, q = max (top - f.mbits) f.qmin := ⟨_, rfl⟩
  obtain ⟨j, hj⟩ : ∃ j, j = (q - f.qmin).toNat := ⟨_, rfl⟩
  obtain ⟨n, r, s, hr, hn, hround⟩ := roundUnits_eq_roundMag m e q
  obtain ⟨low, high⟩ := log2_bounds hm e
  rw [← htop] at low high
  have frac : (r : ℚ) / 2 ^ s < 1 := by rw [div_lt_one (by positivity)]; exact_mod_cast hr
  have frac0 : 0 ≤ (r : ℚ) / 2 ^ s := by positivity
  have unit : (0 : ℚ) < 2 ^ q := by positivity
  have below : n < 2 ^ (f.mbits + 1) := by
    have : ((n : ℚ) + r / 2 ^ s) * 2 ^ q < 2 ^ (f.mbits + 1) * 2 ^ q := by
      rw [← hn, ← zpow_natCast, ← zpow_add₀ two_ne_zero]
      refine high.trans_le (zpow_le_zpow_right₀ one_le_two ?_)
      push_cast
      omega
    have := lt_of_mul_lt_mul_right this unit.le
    exact_mod_cast (le_add_of_nonneg_right frac0).trans_lt this
  have above : j = 0 ∨ 2 ^ f.mbits ≤ n := by
    rcases Nat.eq_zero_or_pos j with zero | pos
    · exact .inl zero
    have : (2 : ℚ) ^ f.mbits * 2 ^ q ≤ ((n : ℚ) + r / 2 ^ s) * 2 ^ q := by
      rw [← hn, ← zpow_natCast, ← zpow_add₀ two_ne_zero]
      exact (zpow_le_zpow_right₀ one_le_two (by omega)).trans low
    have : (2 : ℚ) ^ f.mbits < (n : ℚ) + 1 := (le_of_mul_le_mul_right this unit).trans_lt (by linarith)
    exact .inr (Nat.lt_succ_iff.1 (by exact_mod_cast this))
  have hqj : q = f.qmin + j := by omega
  have even : Even (j * 2 ^ f.mbits) := (Nat.even_pow.2 ⟨even_two, (mbits_pos f).ne'⟩).mul_left _
  refine ⟨j * 2 ^ f.mbits + n, r, s, ⟨hr, ?_⟩, fun md x hx => ?_⟩
  · rw [Nat.add_assoc, mag_binade f below.le above, mag_binade f below (above.imp_right fun h => h.trans (Nat.le_succ n)), hn, hqj]
    push_cast
    ring
  · rw [roundMag_add even, ← hround md.rnd neg x hx, hj, hq, htop, Fmt.round, if_neg hm]
    rfl

/-! ### Rounding to nearest -/

/-- The fraction decides: the lower code with at most a half, the upper one with at least a half, and at a half the even one. -/
theorem roundMag_nearest_cases (neg : Bool) (x k r s : Nat) :
    (roundMag .nearest neg x k r s = k ∧ (r : ℚ) / 2 ^ s ≤ 1 / 2 ∧ ((r : ℚ) / 2 ^ s = 1 / 2 → Even k)) ∨
    (roundMag .nearest neg x k r s = k + 1 ∧ 1 / 2 ≤ (r : ℚ) / 2 ^ s ∧ ((r : ℚ) / 2 ^ s = 1 / 2 → Even (k + 1))) := by
  rw [roundMag]
  split
  next up =>
    refine .inr ⟨rfl, ?_, fun tie => ?_⟩
    · rcases up with lt | eq
      · exact (half_lt_fraction.2 lt).le
      · exact (fraction_eq_half.2 eq.1).ge
    · rcases up with lt | eq
      · exact absurd tie (half_lt_fraction.2 lt).ne'
      · exact (Nat.odd_iff.2 eq.2).add_one
  next down =>
    rw [not_or, not_and, gt_iff_lt, not_lt] at down
    refine .inl ⟨rfl, not_lt.1 fun lt => absurd (half_lt_fraction.1 lt) (not_lt.2 down.1), fun tie => ?_⟩
    have := down.2 (fraction_eq_half.1 tie)
    exact Nat.even_iff.2 (by omega)

section Nearest
variable {f : Fmt} {a : ℚ} {k r s : Nat} (h : f.Between a k r s)
include h

/-- The distance to a code at or below. -/
theorem Fmt.Between.dist_low {i : Nat} (hi : i ≤ k) :
    |a - f.mag i| = r / 2 ^ s * (f.mag (k + 1) - f.mag k) + (f.mag k - f.mag i) := by
  rw [abs_of_nonneg (sub_nonneg.2 (h.mag_le_iff.2 hi)), h.place]
  ring

/-- The distance to a code above. -/
theorem Fmt.Between.dist_high {i : Nat} (hi : k < i) :
    |a - f.mag i| = (1 - r / 2 ^ s) * (f.mag (k + 1) - f.mag k) + (f.mag i - f.mag (k + 1)) := by
  have le : a ≤ f.mag i := h.lt_mag_succ.le.trans ((mag_strictMono f).monotone hi)
  rw [abs_of_nonpos (sub_nonpos.2 le), h.place]
  ring

/-- No code is closer than the one taken, and an odd one is taken only when no other is as close. -/
theorem Fmt.Between.nearest (neg : Bool) (x i : Nat) :
    |a - f.mag (roundMag .nearest neg x k r s)| ≤ |a - f.mag i| ∧
    (¬Even (roundMag .nearest neg x k r s) → |a - f.mag i| = |a - f.mag (roundMag .nearest neg x k r s)| →
      i = roundMag .nearest neg x k r s) := by
  have step := step_pos f k
  rcases roundMag_nearest_cases neg x k r s with ⟨hc, half, tie⟩ | ⟨hc, half, tie⟩
  · rw [hc, h.dist_low le_rfl, sub_self, add_zero]
    rcases Nat.lt_or_ge k i with hi | hi
    · have := (mag_strictMono f).monotone (Nat.succ_le_of_lt hi)
      rw [h.dist_high hi]
      refine ⟨by nlinarith, fun odd eq => ?_⟩
      have less : (r : ℚ) / 2 ^ s < 1 / 2 := lt_of_le_of_ne half (mt tie odd)
      nlinarith
    · have := (mag_strictMono f).monotone hi
      rw [h.dist_low hi]
      exact ⟨by linarith, fun _ eq => (mag_strictMono f).injective (by linarith)⟩
  · rw [hc, h.dist_high (Nat.lt_succ_self k), sub_self, add_zero]
    rcases Nat.lt_or_ge k i with hi | hi
    · have := (mag_strictMono f).monotone (Nat.succ_le_of_lt hi)
      rw [h.dist_high hi]
      exact ⟨by linarith, fun _ eq => (mag_strictMono f).injective (by linarith)⟩
    · have := (mag_strictMono f).monotone hi
      rw [h.dist_low hi]
      refine ⟨by nlinarith, fun odd eq => ?_⟩
      have more : 1 / 2 < (r : ℚ) / 2 ^ s := lt_of_le_of_ne half fun eq => odd (tie eq.symm)
      nlinarith

/-- A magnitude within the finite ones is rounded to a finite code, whatever the mode. -/
theorem Fmt.Between.roundMag_le {c : Nat} (hc : a ≤ f.mag c) (rnd : Rnd) (neg : Bool) {x : Nat} (hx : x < 2 ^ 32) :
    roundMag rnd neg x k r s ≤ c := by
  rcases hc.eq_or_lt with eq | lt
  · obtain ⟨rfl, rfl⟩ := h.eq_of_mag_eq eq.symm
    exact (roundMag_exact rnd neg hx c s).le
  · have below : k < c := (mag_strictMono f).lt_iff_lt.1 (h.mag_le.trans_lt lt)
    rcases roundMag_eq_or rnd neg x k r s with hc | hc <;> omega

/-- A code's own magnitude is rounded to it. -/
theorem Fmt.Between.roundMag_of_mag_eq {c : Nat} (hc : f.mag c = a) (rnd : Rnd) (neg : Bool) {x : Nat} (hx : x < 2 ^ 32) :
    roundMag rnd neg x k r s = c := by
  obtain ⟨rfl, rfl⟩ := h.eq_of_mag_eq hc
  exact roundMag_exact rnd neg hx c s

end Nearest

/-! ### Signs -/

theorem FVal.rat_eq_sign_mul {neg : Bool} {m : Nat} {e : Int} :
    (FVal.fin neg m e).rat = (if neg then -1 else 1) * ((m : ℚ) * 2 ^ e) := mul_assoc _ _ _

theorem FVal.abs_rat_fin (neg : Bool) (m : Nat) (e : Int) : |(FVal.fin neg m e).rat| = m * 2 ^ e := by
  have : 0 ≤ (m : ℚ) * 2 ^ e := by positivity
  rw [FVal.rat_eq_sign_mul, abs_mul, abs_of_nonneg this]
  cases neg <;> simp

/-- Of two signed magnitudes the distance is that of the magnitudes, or their sum. -/
theorem dist_signed (neg other : Bool) (y z : ℚ) (hy : 0 ≤ y) (hz : 0 ≤ z) :
    |(if neg then -1 else 1) * y - (if other then -1 else 1) * z| = if neg = other then |y - z| else y + z := by
  have sum := abs_of_nonneg (add_nonneg hy hz)
  cases neg <;> cases other
  · simp
  · simpa using sum
  · rw [if_pos rfl, show (if false = true then (-1 : ℚ) else 1) = 1 from rfl, if_neg (by decide), one_mul, neg_one_mul, neg_sub_left, abs_neg, add_comm z, sum]
  · simpa [neg_add_eq_sub] using abs_sub_comm z y

theorem even_signed (f : Fmt) (neg : Bool) (c : Nat) : Even (f.signed neg c) ↔ Even c := by
  have even : Even (2 ^ f.magBits) := Nat.even_pow.2 ⟨even_two, by cases f <;> decide⟩
  cases neg
  · rfl
  · simp [Fmt.signed, Nat.even_add, even]

/-! ### The laws of rounding to nearest -/

/-- A finite value stands between two codes, and rounding to nearest places the one it takes. -/
theorem rne_fin (f : Fmt) (neg : Bool) (m : Nat) (e : Int) : ∃ k r s, f.Between |(FVal.fin neg m e).rat| k r s ∧
    f.rne (.fin neg m e) = f.placed nearestMode neg (roundMag .nearest neg 0 k r s) := by
  obtain ⟨k, r, s, between, rounds⟩ := round_fin f neg m e
  exact ⟨k, r, s, by rwa [FVal.abs_rat_fin], rounds nearestMode 0 (by decide)⟩

theorem placed_of_le {f : Fmt} {md : CvtField} {neg : Bool} {c : Nat} (h : c ≤ f.maxCode) : f.placed md neg c = f.signed neg c :=
  if_neg (not_lt.2 h)

theorem placed_of_gt {f : Fmt} {md : CvtField} {neg : Bool} {c : Nat} (h : f.maxCode < c) :
    f.placed md neg c = f.overflow md neg := if_pos h

/-- The closest magnitude, with the sign of the value, is the closest of all signed ones, and of two the even one. -/
theorem signed_nearest (f : Fmt) {a : ℚ} {c : Nat} (ha : 0 ≤ a) (closest : ∀ i, |a - f.mag c| ≤ |a - f.mag i|)
    (only : ¬Even c → ∀ i, |a - f.mag i| = |a - f.mag c| → i = c) (neg other : Bool) (i : Nat) :
    |(if neg then -1 else 1) * a - (if neg then -1 else 1) * f.mag c| ≤
        |(if neg then -1 else 1) * a - (if other then -1 else 1) * f.mag i| ∧
      ((if other then -1 else 1) * f.mag i ≠ (if neg then -1 else 1) * f.mag c →
        |(if neg then -1 else 1) * a - (if other then -1 else 1) * f.mag i| =
          |(if neg then -1 else 1) * a - (if neg then -1 else 1) * f.mag c| → Even c) := by
  have sum : |a - f.mag i| ≤ a + f.mag i := (abs_sub _ _).trans_eq (by rw [abs_of_nonneg ha, abs_of_nonneg (mag_nonneg f i)])
  have near := closest i
  rw [dist_signed _ _ _ _ ha (mag_nonneg f c), if_pos rfl, dist_signed _ _ _ _ ha (mag_nonneg f i)]
  split
  next same =>
    refine ⟨near, fun apart tie => ?_⟩
    by_contra odd
    exact apart (by rw [only odd i tie, same])
  next =>
    refine ⟨near.trans sum, fun _ tie => ?_⟩
    by_contra odd
    obtain rfl := only odd i (le_antisymm (tie ▸ sum) near)
    have pos : 0 < f.mag i := mag_zero f ▸ mag_strictMono f (Nat.pos_of_ne_zero fun h => odd (h ▸ Even.zero))
    have zero := closest 0
    rw [mag_zero, sub_zero, abs_of_nonneg ha] at zero
    linarith

/-- R88 within the finite range: no code is closer, and of two the even one is taken. -/
theorem rne_nearest (f : Fmt) (neg : Bool) (m : Nat) (e : Int) (hle : |(FVal.fin neg m e).rat| ≤ f.mag f.maxCode) :
    let v := FVal.fin neg m e
    let r := f.value (f.rne v)
    r.isFin = true ∧ r.isNeg = neg ∧ ∀ code, (f.value code).isFin = true →
      |v.rat - r.rat| ≤ |v.rat - (f.value code).rat| ∧
      ((f.value code).rat ≠ r.rat → |v.rat - (f.value code).rat| = |v.rat - r.rat| → Even (f.rne v)) := by
  obtain ⟨k, r, s, between, rounds⟩ := rne_fin f neg m e
  have le := between.roundMag_le hle .nearest neg (x := 0) (by decide)
  rw [placed_of_le le] at rounds
  obtain ⟨fin, sign, rat⟩ := value_signed f neg le
  have hv : (FVal.fin neg m e).rat = (if neg then -1 else 1) * |(FVal.fin neg m e).rat| := by
    rw [FVal.abs_rat_fin, FVal.rat_eq_sign_mul]
  simp only [rounds]
  refine ⟨fin, sign, fun code hcode => ?_⟩
  rw [hv, rat, (value_of_isFin f hcode).2, even_signed]
  exact signed_nearest f (abs_nonneg _) (fun i => (between.nearest neg 0 i).1) (fun odd i => (between.nearest neg 0 i).2 odd) ..

/-- The step past the largest finite magnitude is the one before it. -/
theorem mag_top_step (f : Fmt) : f.mag (f.maxCode + 1) = 2 * f.mag f.maxCode - f.mag (f.maxCode - 1) := by
  cases f <;> norm_num [Fmt.mag, Fmt.maxCode, Fmt.mbits, Fmt.qmin, Fmt.bias]

/-! ### Past the largest finite magnitude -/

/-- Half the last step below the largest finite magnitude. -/
def Fmt.halfStep (f : Fmt) : ℚ := (f.mag f.maxCode - f.mag (f.maxCode - 1)) / 2

section Above
variable {f : Fmt} {a : ℚ} {k r s : Nat} (h : f.Between a k r s)
include h

/-- Above the largest finite magnitude the value stands behind its code, at a fraction that the half step measures. -/
theorem Fmt.Between.above (htop : f.mag f.maxCode ≤ a) : f.maxCode < k ∨ (k = f.maxCode ∧
    a = f.mag f.maxCode + r / 2 ^ s * (2 * f.halfStep)) := by
  rcases (h.mag_le_iff.1 htop).lt_or_eq with lt | eq
  · exact .inl lt
  · refine .inr ⟨eq.symm, ?_⟩
    have step := mag_top_step f
    rw [h.place, ← eq, step, Fmt.halfStep]
    ring

theorem Fmt.Between.beyond_of_lt (hk : f.maxCode < k) : f.mag f.maxCode + 2 * f.halfStep ≤ a := by
  have step := mag_top_step f
  have := (mag_strictMono f).monotone (Nat.succ_le_of_lt hk)
  rw [Nat.succ_eq_add_one] at this
  have := h.mag_le
  rw [Fmt.halfStep]
  linarith

end Above

theorem halfStep_pos (f : Fmt) : 0 < f.halfStep := by
  have pos : 0 < f.maxCode := by cases f <;> decide
  have := mag_strictMono f (Nat.sub_lt pos one_pos)
  rw [Fmt.halfStep]
  linarith

theorem hasNan_of_hasInf {f : Fmt} (hi : f.hasInf = true) : f.hasNan = true := by
  cases f <;> revert hi <;> decide

theorem overflow_of_hasInf {f : Fmt} (hi : f.hasInf = true) (neg : Bool) :
    f.overflow nearestMode neg = f.signed neg (f.maxCode + 1) := by
  simp [Fmt.overflow, nearestMode, hi, hasNan_of_hasInf hi]

theorem rne_inf {f : Fmt} (hi : f.hasInf = true) (neg : Bool) : f.rne (.inf neg) = f.signed neg (f.maxCode + 1) := by
  simp [Fmt.rne, Fmt.round, nearestMode, hi, hasNan_of_hasInf hi]

theorem value_infCode {f : Fmt} (hi : f.hasInf = true) (neg : Bool) : f.value (f.signed neg (f.maxCode + 1)) = .inf neg := by
  cases f <;> cases neg <;> revert hi <;> decide

theorem overflow_of_not_hasNan {f : Fmt} (hn : f.hasNan = false) (md : CvtField) (neg : Bool) :
    f.overflow md neg = f.signed neg f.maxCode := by
  simp [Fmt.overflow, hn]

/-- The largest finite code is odd where infinities stand above it. -/
theorem odd_maxCode {f : Fmt} (hi : f.hasInf = true) : ¬Even f.maxCode := by
  cases f <;> revert hi <;> decide

section Beyond
variable {f : Fmt} {neg : Bool} {m : Nat} {e : Int}

theorem rne_below_half (htop : f.mag f.maxCode < |(FVal.fin neg m e).rat|)
    (hhalf : |(FVal.fin neg m e).rat| < f.mag f.maxCode + f.halfStep ∨ f.hasNan = false) :
    f.rne (.fin neg m e) = f.signed neg f.maxCode := by
  obtain ⟨k, r, s, between, rounds⟩ := rne_fin f neg m e
  have half := halfStep_pos f
  rw [rounds]
  rcases hhalf with hhalf | hnan
  · obtain lt | ⟨rfl, place⟩ := between.above htop.le
    · have := between.beyond_of_lt lt
      linarith
    rcases roundMag_nearest_cases neg 0 f.maxCode r s with ⟨hc, -, -⟩ | ⟨-, frac, -⟩
    · rw [hc, placed_of_le le_rfl]
    · nlinarith
  · rcases Nat.lt_or_ge f.maxCode (roundMag .nearest neg 0 k r s) with gt | le
    · rw [placed_of_gt gt, overflow_of_not_hasNan hnan]
    · have ge := between.mag_le_iff.1 htop.le
      have : roundMag .nearest neg 0 k r s = f.maxCode := by
        rcases roundMag_eq_or .nearest neg 0 k r s with hc | hc <;> omega
      rw [this, placed_of_le le_rfl]

/-- Past the half step, or at it where the largest finite code is odd, the result overflows. -/
theorem rne_past_half (hhalf : f.mag f.maxCode + f.halfStep ≤ |(FVal.fin neg m e).rat|)
    (hpast : Even f.maxCode → f.mag f.maxCode + f.halfStep ≠ |(FVal.fin neg m e).rat|) :
    f.rne (.fin neg m e) = f.overflow nearestMode neg := by
  obtain ⟨k, r, s, between, rounds⟩ := rne_fin f neg m e
  have half := halfStep_pos f
  rw [rounds, placed_of_gt]
  obtain lt | ⟨rfl, place⟩ := between.above (by linarith)
  · rcases roundMag_eq_or .nearest neg 0 k r s with hc | hc <;> omega
  rcases roundMag_nearest_cases neg 0 f.maxCode r s with ⟨-, frac, tie⟩ | ⟨hc, -, -⟩
  · have at_half : (r : ℚ) / 2 ^ s = 1 / 2 := le_antisymm frac (by nlinarith)
    exact absurd (by rw [place, at_half]; ring) (hpast (tie at_half))
  · omega

theorem rne_at_half (heven : Even f.maxCode) (hhalf : |(FVal.fin neg m e).rat| = f.mag f.maxCode + f.halfStep) :
    f.rne (.fin neg m e) = f.signed neg f.maxCode := by
  obtain ⟨k, r, s, between, rounds⟩ := rne_fin f neg m e
  have half := halfStep_pos f
  rw [rounds]
  obtain lt | ⟨rfl, place⟩ := between.above (by linarith)
  · have := between.beyond_of_lt lt
    linarith
  have at_half : (r : ℚ) / 2 ^ s = 1 / 2 := by
    rw [hhalf, add_right_inj] at place
    have : (r : ℚ) / 2 ^ s * 2 = 1 := mul_right_cancel₀ half.ne' (by linarith)
    linarith
  rcases roundMag_nearest_cases neg 0 f.maxCode r s with ⟨hc, -, -⟩ | ⟨-, -, tie⟩
  · rw [hc, placed_of_le le_rfl]
  · exact absurd (tie at_half) (by rw [Nat.even_add_one]; exact not_not.2 heven)

end Beyond

/-! ### Codes round to themselves -/

theorem signed_of_parts (f : Fmt) {code : Nat} (h : code < 2 ^ (f.magBits + 1)) :
    f.signed (code / 2 ^ f.magBits % 2 == 1) (code % 2 ^ f.magBits) = code := by
  have parts := Nat.div_add_mod code (2 ^ f.magBits)
  have : code / 2 ^ f.magBits < 2 := Nat.div_lt_of_lt_mul (by rwa [← pow_succ])
  obtain zero | one := Nat.le_one_iff_eq_zero_or_eq_one.1 (Nat.le_of_lt_succ this)
  · rw [zero] at parts ⊢
    simpa [Fmt.signed] using parts
  · rw [one] at parts ⊢
    simpa [Fmt.signed] using parts

theorem rne_value (f : Fmt) {code : Nat} (h : code < 2 ^ (f.magBits + 1)) (hfin : (f.value code).isFin = true) :
    f.rne (f.value code) = code := by
  have le := (isFin_value_iff f code).1 hfin
  obtain ⟨m, e, hv, hmag⟩ := value_eq_fin f le
  rw [hv]
  obtain ⟨k, r, s, between, rounds⟩ := rne_fin f (code / 2 ^ f.magBits % 2 == 1) m e
  rw [FVal.abs_rat_fin, hmag] at between
  rw [rounds, between.roundMag_of_mag_eq rfl .nearest _ (by decide), placed_of_le le, signed_of_parts f h]

/-- Settles O12: within the finite range by the fraction between two codes, past it by the half step. -/
theorem roundingNearest : Obligations.RoundingNearest := by
  intro f
  have top : (f.value f.maxCode).rat = f.mag f.maxCode := rat_value f le_rfl
  have half : (f.mag f.maxCode - (f.value (f.maxCode - 1)).rat) / 2 = f.halfStep := by
    rw [rat_value f (Nat.sub_le ..), Fmt.halfStep]
  simp only [top, half]
  refine ⟨fun v hv => ?finite, rfl, fun hi neg => ?inf, fun code h hfin => rne_value f h hfin⟩
  case finite =>
    cases v with
    | nan | inf _ => simp [FVal.isFin] at hv
    | fin neg m e =>
      refine ⟨rne_nearest f neg m e, rne_below_half, fun hi hhalf => ?_, fun he => ?_⟩
      · rw [rne_past_half hhalf fun even => absurd even (odd_maxCode hi), overflow_of_hasInf hi, value_infCode hi]
        rfl
      · subst he
        have even : Even Fmt.e4m3.maxCode := by decide
        exact ⟨rne_at_half even, fun past => rne_past_half past.le fun _ => past.ne⟩
  case inf => rw [rne_inf hi, value_infCode hi]

end Sys2Proof
end

section
/-!
PROOFS. Single words and single states: the example words of 03 and 20 to 24, the state at reset (R257, R293, R298), and the
members that only complete, age lanes or move the window (R398, R442, R39).
-/

namespace Sys2Proof.Machine
open Sys2Proof

/-- Settles O56: each word decodes by computation. -/
theorem decodedWords : Obligations.DecodedWords := by
  unfold Obligations.DecodedWords
  decide

/-! ### Reset -/

/-- Packets of a channel may be injected at reset while they are few (R172). -/
theorem mayInject_atReset (i j : Nat) {n : Nat} (h : n ≤ 2 ^ 14) : Causeway.atReset.mayInject i j n = true := by
  have queued : Causeway.atReset.queuedAt i j = [] := rfl
  have known : Causeway.atReset.K i i j = 0 := rfl
  have floor : Causeway.atReset.F i i j = 0 := rfl
  have stage : (Causeway.atReset.reseal == .normal) = true := rfl
  simp only [Causeway.mayInject, queued, known, floor, stage]
  simpa using h

/-- No die has departed at reset. -/
theorem gone_reset (die : Nat) : State.reset.gone die = false := by
  have departed : (State.reset.die die).departed = false := rfl
  rw [State.gone, departed, Bool.and_false]

/-- Settles O60: the reset values, and the memory that lists nothing. -/
theorem resetState : Obligations.ResetState := by
  unfold Obligations.ResetState
  exact ⟨rfl, rfl, rfl, rfl, by unfold Power.bounded; decide, fun die => ⟨rfl, rfl, rfl, gone_reset die⟩,
    fun _ => ⟨rfl, rfl, rfl, rfl⟩, fun _ => ⟨rfl, rfl, rfl⟩,
    fun i _ m => ⟨rfl, rfl, rfl, fun _ hn => mayInject_atReset i m hn⟩, fun _ => rfl, rfl, rfl, fun _ => rfl, rfl⟩

/-! ### What an instruction's meaning answers -/

section Answers
variable {i : Instr} {s t : State} {c : Cur} {w : Warp} {names : List Nat} {body : Cur → Warp → Effect} {cause : Nat}
  {info : Xword} {next : Bool}

/-- An instruction of either mode over free registers whose body completes. -/
theorem ends_uses (h : Issues s c w) (hf : w.free names) (he : exec i s = s.run (uses names) body) (hb : body c w = .done t) :
    Ends i s c t := by rw [Ends, he, run_uses h hf, hb]; rfl

/-- One whose body places its lanes itself. -/
theorem moves_uses (h : Issues s c w) (hf : w.free names) (he : exec i s = s.run (uses names) body) (hb : body c w = .moved t) :
    Moves i s c t := by rw [Moves, he, run_uses h hf, hb]; rfl

/-- One whose body traps. -/
theorem traps_uses (h : Issues s c w) (hf : w.free names) (he : exec i s = s.run (uses names) body)
    (hb : body c w = .trap s cause info next) : Traps i s c next cause info := by rw [Traps, he, run_uses h hf, hb]; rfl

/-- An instruction of user mode over free registers whose body completes. -/
theorem ends_userOnly (h : Issues s c w) (hu : w.priv = false) (hf : w.free names)
    (he : exec i s = s.run (userOnly names) body) (hb : body c w = .done t) : Ends i s c t := by
  rw [Ends, he, run_userOnly h hu hf, hb]; rfl

/-- One whose body places its lanes itself. -/
theorem moves_userOnly (h : Issues s c w) (hu : w.priv = false) (hf : w.free names)
    (he : exec i s = s.run (userOnly names) body) (hb : body c w = .moved t) : Moves i s c t := by
  rw [Moves, he, run_userOnly h hu hf, hb]; rfl

/-- One whose body traps. -/
theorem traps_userOnly (h : Issues s c w) (hu : w.priv = false) (hf : w.free names)
    (he : exec i s = s.run (userOnly names) body) (hb : body c w = .trap s cause info next) : Traps i s c next cause info := by
  rw [Traps, he, run_userOnly h hu hf, hb]; rfl

end Answers

/-! ### Members that change no register -/

/-- A change to the lanes of one set outside another. -/
theorem Warp.lane_onLanes_diff (w : Warp) (a b : LaneSet) (f : Lane → Lane) {l : Nat} (hl : l < w.lanes.length) (h64 : l < 64) :
    (w.onLanes (a &&& ~~~b) f).lane l = if a.getLsbD l = true ∧ b.getLsbD l = false then f (w.lane l) else w.lane l := by
  rw [Warp.lane_onLanes _ _ _ _ hl, BitVec.getLsbD_and, BitVec.getLsbD_not]
  simp [h64]

/-- `wbase` traps when the window would pass the allocation (R39). -/
theorem traps_wbase {s : State} {c : Cur} {w : Warp} (h : Issues s c w) (hu : w.priv = false) {imm : BitVec 7}
    (hne : imm ≠ 0) (past : w.alloc < 32 * imm.toNat + 128) : Traps (.wbase imm) s c false 0x10 (BitVec.ofNat 64 imm.toNat) := by
  have pos : imm.toNat ≠ 0 := fun h0 => hne (BitVec.eq_of_toNat_eq h0)
  have info : imm.setWidth 64 = BitVec.ofNat 64 imm.toNat := BitVec.eq_of_toNat_eq (by simp)
  rw [← info]
  refine traps_userOnly h hu (free_nil w) rfl ?_
  exact if_pos ⟨by omega, by omega⟩

/-- Otherwise it moves the window (R39). -/
theorem lands_wbase {s : State} {c : Cur} {w : Warp} (h : Issues s c w) (hu : w.priv = false) {imm : BitVec 7}
    (within : imm = 0 ∨ 32 * imm.toNat + 128 ≤ w.alloc) : Lands (.wbase imm) s c { w with vwb := 32 * imm.toNat } := by
  have fits : ¬(imm.toNat * 32 ≠ 0 ∧ w.alloc < imm.toNat * 32 + 128) := by
    rcases within with rfl | h1
    · simp
    · omega
  rw [Nat.mul_comm]
  refine ends_userOnly h hu (free_nil w) rfl ?_
  exact if_neg fits

/-- Settles O35: each member is its body, which the group may execute in user mode. -/
theorem nopYieldWbase : Obligations.NopYieldWbase := by
  unfold Obligations.NopYieldWbase
  intro s c w h
  exact ⟨run_uses h (free_nil w) _, fun hu => ⟨⟨_, run_userOnly h hu (free_nil w) _, rfl,
    fun l hl h64 => w.lane_onLanes_diff _ _ _ hl h64⟩, fun imm => ⟨traps_wbase h hu, lands_wbase h hu⟩⟩⟩

end Sys2Proof.Machine
end

section
/-!
PROOFS. Branches (R57, R27, R319 to R323, R326, R373, R414): their targets, and what a branch does to lanes and loops.
-/

namespace Sys2Proof.Machine
open Sys2Proof

/-! ### Targets -/

theorem branchTarget_eq {n : Nat} (next : Xword) (off : BitVec n) :
    branchTarget next off = next + BitVec.ofInt 64 (4 * off.toInt) := by
  rw [branchTarget, BitVec.ofInt_mul, BitVec.signExtend]
  rfl

/-! ### Lanes -/

@[simp] theorem Warp.release_length (w : Warp) (l : LaneSet) : (w.release l).lanes.length = w.lanes.length :=
  w.onLanes_length _ _

@[simp] theorem Warp.hold_length (w : Warp) (l : LaneSet) : (w.hold l).lanes.length = w.lanes.length :=
  w.onLanes_length _ _

/-- A change that keeps the PC of every lane keeps the PC of each. -/
theorem Warp.pc_onLanes (w : Warp) (l : LaneSet) {f : Lane → Lane} (hf : ∀ x, (f x).pc = x.pc) {i : Nat}
    (hi : i < w.lanes.length) : ((w.onLanes l f).lane i).pc = (w.lane i).pc := by
  rw [Warp.lane_onLanes _ _ _ _ hi]
  split
  · exact hf _
  · rfl

theorem Warp.pc_release (w : Warp) (l : LaneSet) {i : Nat} (hi : i < w.lanes.length) :
    ((w.release l).lane i).pc = (w.lane i).pc := w.pc_onLanes l (fun x => by split <;> rfl) hi

theorem Warp.pc_hold (w : Warp) (l : LaneSet) {i : Nat} (hi : i < w.lanes.length) :
    ((w.hold l).lane i).pc = (w.lane i).pc := w.pc_onLanes l (fun x => by split <;> rfl) hi

/-! ### The loop stack -/

/-- A uniform branch leaves the entries that contain its target. -/
theorem popOut_fst (t : Xword) (l : List LoopEntry) (seen : LaneSet) : (popOut t seen l).1 = l.filter (·.contains t) := by
  induction l generalizing seen with
  | nil => rfl
  | cons e r ih =>
    by_cases he : e.contains t = true
    · simp [popOut, he, ih]
    · simp [popOut, he, ih]

/-- A branch moves lanes and changes the loop stack; it writes no register and no mask. -/
theorem Warp.branchTo_shape (w : Warp) (taken : LaneSet) (t : Xword) (whole : Bool) :
    w.branchTo taken t whole =
      { w with lanes := (w.branchTo taken t whole).lanes, loops := (w.branchTo taken t whole).loops } := by
  unfold Warp.branchTo
  simp only
  split
  · rfl
  · split
    · rfl
    · split <;> rfl

/-- The lanes that take a branch stand at its target, the others where they stood. -/
theorem Warp.pc_branchTo (w : Warp) (taken : LaneSet) (t : Xword) (whole : Bool) {l : Nat} (hl : l < w.lanes.length) :
    ((w.branchTo taken t whole).lane l).pc = if taken.getLsbD l = true then t else (w.lane l).pc := by
  have moved : ((w.onLanes taken fun l => { l with pc := t }).lane l).pc =
      if taken.getLsbD l = true then t else (w.lane l).pc := by
    rw [Warp.lane_onLanes _ _ _ _ hl]
    split <;> rfl
  unfold Warp.branchTo
  simp only
  split
  · exact moved
  · split
    · exact moved
    · split
      · exact (Warp.pc_release _ _ (by simpa using hl)).trans moved
      · exact (Warp.pc_hold _ _ (by simpa using hl)).trans moved

/-- In a handler no loop entry is touched (R248). -/
theorem Warp.loops_branchTo_of_priv {w : Warp} (hp : w.priv = true) (taken : LaneSet) (t : Xword) (whole : Bool) :
    (w.branchTo taken t whole).loops = w.loops := by
  have : (w.onLanes taken fun l => { l with pc := t }).priv = true := hp
  simp only [Warp.branchTo, this, if_true]
  rfl

theorem Warp.loops_branchTo_of_nil {w : Warp} (hn : w.loops = []) (taken : LaneSet) (t : Xword) (whole : Bool) :
    (w.branchTo taken t whole).loops = [] := by
  have : (w.onLanes taken fun l => { l with pc := t }).loops = [] := hn
  simp only [Warp.branchTo, this]
  split <;> exact hn

/-- What a branch that all lanes of the top body take does to the stack, and one that some of them take (R27). -/
theorem Warp.loops_branchTo {w : Warp} (hu : w.priv = false) {e : LoopEntry} {r : List LoopEntry} (hl : w.loops = e :: r)
    (taken : LaneSet) (t : Xword) : (w.branchTo taken t true).loops =
      if e.inBody &&& ~~~taken = 0 then w.loops.filter fun x => x.contains t else (leavePart taken t w.loops).1 := by
  have user : (w.onLanes taken fun l => { l with pc := t }).priv = false := hu
  have loops : (w.onLanes taken fun l => { l with pc := t }).loops = e :: r := hl
  simp only [Warp.branchTo, user, loops, Bool.false_eq_true, if_false, Bool.true_and, beq_iff_eq, hl]
  split
  · exact popOut_fst t (e :: r) 0
  · rfl

theorem leavePart_of_contains {e : LoopEntry} {t : Xword} (h : e.contains t = true) (lanes : LaneSet) (r : List LoopEntry) :
    leavePart lanes t (e :: r) = (e :: r, 0) := by simp [leavePart, h]

/-- An entry whose body does not contain the target loses the lanes that leave. -/
theorem leavePart_of_not_contains {e : LoopEntry} {t : Xword} (h : e.contains t = false) (lanes : LaneSet)
    (r : List LoopEntry) : ∃ f q, (leavePart lanes t (e :: r)).1 = f :: q ∧ f.inBody = e.inBody &&& ~~~lanes ∧
      f.start = e.start ∧ f.stop = e.stop ∧ f.count = e.count := by
  simp only [leavePart, h, Bool.false_eq_true, if_false]
  refine ⟨_, _, rfl, ?_, rfl, rfl, rfl⟩
  ext i
  simp only [BitVec.getElem_and, BitVec.getElem_not]
  cases e.inBody[i] <;> cases lanes[i] <;> rfl

theorem LoopEntry.contains_iff (e : LoopEntry) (t : Xword) :
    e.contains t = true ↔ e.start.toNat ≤ t.toNat ∧ t.toNat ≤ e.stop.toNat := by simp [LoopEntry.contains]

/-! ### The members -/

section Members
variable {s : State} {c : Cur} {w : Warp}

theorem moves_bra (h : Issues s c w) (off : BitVec 26) : Moves (.bra off) s c
    (s.setWarp c.warp (w.branchTo c.lanes (c.nextPc + BitVec.ofInt 64 (4 * off.toInt)) true)) := by
  rw [← branchTarget_eq]
  exact moves_uses h (free_nil w) rfl rfl

theorem moves_call (h : Issues s c w) (off : BitVec 26) : Moves (.call off) s c
    (s.setWarp c.warp ((w.setS 63 c.nextPc).onLanes c.lanes fun l =>
      { l with pc := c.nextPc + BitVec.ofInt 64 (4 * off.toInt) })) := by
  rw [← branchTarget_eq]
  exact moves_uses h (free_nil w) rfl rfl

/-- `brs` takes its branch when its test holds, and else completes (R323). -/
theorem brs_tests (h : Issues s c w) {k : BrsCond} {a : SReg} {r : Prop} (hr : brsHolds k (w.s a) = true ↔ r)
    (off : BitVec 15) :
    (r → Moves (.brs k a off) s c
      (s.setWarp c.warp (w.branchTo c.lanes (c.nextPc + BitVec.ofInt 64 (4 * off.toInt)) true))) ∧
      (¬r → Ends (.brs k a off) s c s) := by
  rw [← branchTarget_eq, ← hr]
  constructor
  · intro holds
    refine moves_uses h (free_nil w) rfl ?_
    exact if_pos holds
  · intro fails
    refine ends_uses h (free_nil w) rfl ?_
    exact if_neg fails

/-- A jump to no instruction's address traps (R373, R414). -/
theorem jumps_misaligned (h : Issues s c w) (d : SReg) {a : SReg} (ha : (w.s a).toNat % 4 ≠ 0) :
    Traps (.jmp d a) s c false 0x02 1 ∧ Traps (.ret a) s c false 0x02 1 := by
  constructor
  · refine traps_uses h (free_nil w) rfl ?_
    exact if_pos ha
  · refine traps_uses h (free_nil w) rfl ?_
    exact if_pos ha

theorem moves_ret (h : Issues s c w) {a : SReg} (ha : (w.s a).toNat % 4 = 0) :
    Moves (.ret a) s c (s.setWarp c.warp (w.branchTo c.lanes (w.s a) true)) := by
  refine moves_uses h (free_nil w) rfl ?_
  exact if_neg (not_not.2 ha)

theorem moves_jmp (h : Issues s c w) {a : SReg} (ha : (w.s a).toNat % 4 = 0) :
    Moves (.jmp 0 a) s c (s.setWarp c.warp (w.branchTo c.lanes (w.s a) true)) := by
  refine moves_uses h (free_nil w) rfl ?_
  exact (if_neg (not_not.2 ha)).trans (if_pos rfl)

theorem moves_jmp_link (h : Issues s c w) {d a : SReg} (hd : d ≠ 0) (ha : (w.s a).toNat % 4 = 0) :
    Moves (.jmp d a) s c (s.setWarp c.warp ((w.setS d c.nextPc).onLanes c.lanes fun l => { l with pc := w.s a })) := by
  refine moves_uses h (free_nil w) rfl ?_
  exact (if_neg (not_not.2 ha)).trans (if_neg hd)

/-- `brp` takes the lanes whose predicate bit is set, or clear; the others complete it (R322). -/
theorem brp_takes (h : Issues s c w) (hu : w.priv = false) (p : PReg) (inv : Bool) (off : BitVec 21) :
    ∃ taken : LaneSet,
      (∀ l, l < 64 → (taken.getLsbD l = true ↔ c.lanes.getLsbD l = true ∧ ((w.p p).getLsbD l = true ↔ inv = false))) ∧
      (taken = 0 → Ends (.brp p inv off) s c s) ∧
      (taken ≠ 0 → Moves (.brp p inv off) s c (s.setWarp c.warp
        ((w.finishAt (c.lanes &&& ~~~taken) c.pc c.nextPc).branchTo taken (c.nextPc + BitVec.ofInt 64 (4 * off.toInt))
          true))) := by
  refine ⟨groupSet c.lanes fun i => (w.p p).getLsbD i != inv, fun l hl => ?_, fun none => ?_, fun some => ?_⟩
  · rw [getLsbD_groupSet _ _ _ hl]
    cases (w.p p).getLsbD l <;> cases inv <;> simp
  · refine ends_userOnly h hu (free_nil w) rfl ?_
    exact if_pos none
  · rw [← branchTarget_eq]
    refine moves_userOnly h hu (free_nil w) rfl ?_
    exact if_neg some

end Members

/-- Settles O31: the members as branches to their targets, and a branch from its case split on the top entry. -/
theorem branches : Obligations.Branches := by
  unfold Obligations.Branches
  refine ⟨fun s c w h => ⟨moves_bra h, fun a off => ?_, moves_call h, fun d a => ?_,
      fun p inv off hu => brp_takes h hu p inv off⟩,
    fun w taken t => ?_⟩
  · have eqZero : ∀ x : Xword, x = 0#64 ↔ x.toInt = 0 := fun x => BitVec.toInt_inj.symm
    exact ⟨brs_tests h (by simp [brsHolds, eqZero]) off, brs_tests h (by simp [brsHolds, eqZero]) off,
      brs_tests h (by simp [brsHolds, BitVec.slt]) off, brs_tests h (by simp [brsHolds, BitVec.sle]) off,
      brs_tests h (by simp [brsHolds, BitVec.slt]) off, brs_tests h (by simp [brsHolds, BitVec.sle]) off⟩
  · refine ⟨jumps_misaligned h d, fun ha => ⟨moves_ret h ha, ?_, fun hd => moves_jmp_link h hd ha⟩⟩
    rintro rfl
    exact moves_jmp h ha
  · have shape := w.branchTo_shape taken t true
    refine ⟨by rw [shape], by rw [shape], by rw [shape], by rw [shape], fun l hl _ => w.pc_branchTo taken t true hl,
      fun hp => Warp.loops_branchTo_of_priv hp taken t true, fun hn => Warp.loops_branchTo_of_nil hn taken t true,
      fun hu e r hl => ?_⟩
    rw [Warp.loops_branchTo hu hl]
    refine ⟨fun all => if_pos all, fun part after before => ?_, fun part outside => ?_⟩
    · rw [if_neg part, hl, leavePart_of_contains ((e.contains_iff t).2 ⟨after, before⟩)]
    · rw [if_neg part, hl]
      exact leavePart_of_not_contains (Bool.eq_false_iff.2 fun h => outside ((e.contains_iff t).1 h)) taken r

end Sys2Proof.Machine
end

section
/-!
PROOFS. Rejoin masks (R22, R23, R344, R402, R427): enrolment, arrival, and the test that frees a mask.
-/

namespace Sys2Proof.Machine
open Sys2Proof

/-! ### Masks -/

theorem Warp.mask_setMask (w : Warp) (j k : JMask) (m : RejoinMask) :
    (w.setMask j m).mask k = if k = j then m else w.mask k := by
  show mget RejoinMask.free (mset RejoinMask.free w.masks j.toNat m) k.toNat = _
  rw [mget_mset]
  simp only [BitVec.toNat_inj]
  rfl

@[simp] theorem Warp.mask_onLanes (w : Warp) (l : LaneSet) (f : Lane → Lane) (k : JMask) : (w.onLanes l f).mask k = w.mask k :=
  rfl

/-- Waiting at a loop's end changes lanes alone. -/
theorem Warp.waitAtEnd_shape (w : Warp) (done : LaneSet) (pc next : Xword) :
    w.waitAtEnd done pc next = { w with lanes := (w.waitAtEnd done pc next).lanes } := by
  unfold Warp.waitAtEnd
  split
  · rfl
  · split <;> rfl

/-- Going on after an instruction changes lanes alone. -/
theorem Warp.finishAt_shape (w : Warp) (done : LaneSet) (pc next : Xword) :
    w.finishAt done pc next = { w with lanes := (w.finishAt done pc next).lanes } := Warp.waitAtEnd_shape _ _ _ _

@[simp] theorem Warp.mask_finishAt (w : Warp) (done : LaneSet) (pc next : Xword) (k : JMask) :
    (w.finishAt done pc next).mask k = w.mask k := by rw [Warp.finishAt_shape]; rfl

@[simp] theorem Warp.waitAtEnd_length (w : Warp) (done : LaneSet) (pc next : Xword) :
    (w.waitAtEnd done pc next).lanes.length = w.lanes.length := by
  unfold Warp.waitAtEnd
  split
  · rfl
  · split
    · exact w.onLanes_length _ _
    · rfl

@[simp] theorem Warp.finishAt_length (w : Warp) (done : LaneSet) (pc next : Xword) :
    (w.finishAt done pc next).lanes.length = w.lanes.length := by simp [Warp.finishAt]

/-- With no loop open, lanes that complete an instruction stand after it as candidates. -/
theorem Warp.lane_finishAt_of_loops_nil {w : Warp} (hn : w.loops = []) (hu : w.priv = false) {done : LaneSet} {l : Nat}
    (hl : l < w.lanes.length) (hd : done.getLsbD l = true) (pc next : Xword) :
    (w.finishAt done pc next).lane l = { w.lane l with pc := next, stat := .candidate } := by
  have none : (w.onLanes done fun l => { l with pc := next, stat := if w.priv then l.stat else .candidate }).loops = [] := hn
  simp only [Warp.finishAt, Warp.waitAtEnd, none]
  rw [Warp.lane_onLanes _ _ _ _ hl, if_pos hd]
  simp [hu]

/-! ### The test of a mask -/

/-- The test leaves a mask that is free or that awaits a lane. -/
theorem Warp.maskTest_of_awaiting {w : Warp} {j : JMask} (h : (w.mask j).enrolled = 0 ∨ (w.mask j).arrived ≠ (w.mask j).enrolled) :
    w.maskTest j = w := by
  rw [Warp.maskTest]
  exact if_neg fun h' => h.elim (fun h0 => h'.1 h0) fun h1 => h1 h'.2

/-- When every enrolled lane has arrived, the mask is free and they go on after the `park`. -/
theorem Warp.maskTest_of_arrived {w : Warp} {j : JMask} (h0 : (w.mask j).enrolled ≠ 0)
    (h1 : (w.mask j).arrived = (w.mask j).enrolled) :
    w.maskTest j = (w.setMask j { w.mask j with enrolled := 0, arrived := 0 }).finishAt (w.mask j).arrived (w.mask j).pc
      ((w.mask j).pc + 4) := by
  rw [Warp.maskTest]
  exact if_pos ⟨h0, h1⟩

/-- Either way no lane is enrolled after the test, where all have arrived. -/
theorem Warp.enrolled_maskTest {w : Warp} {j : JMask} (h : (w.mask j).enrolled = 0 ∨ (w.mask j).arrived = (w.mask j).enrolled) :
    ((w.maskTest j).mask j).enrolled = 0 := by
  by_cases h0 : (w.mask j).enrolled = 0
  · rw [Warp.maskTest_of_awaiting (Or.inl h0), h0]
  · rw [Warp.maskTest_of_arrived h0 (h.resolve_left h0), Warp.mask_finishAt, Warp.mask_setMask, if_pos rfl]

/-! ### The members -/

theorem joinInfo_eq (j : JMask) : joinInfo j 0 = BitVec.ofNat 64 j.toNat ∧ joinInfo j 1 = BitVec.ofNat 64 (j.toNat + 2 ^ 3) :=
  ⟨rfl, rfl⟩

/-- What `park` makes of its warp: lanes that are not enrolled go on, the others wait, and the mask is tested (R402). -/
def Warp.parked (w : Warp) (c : Cur) (j : JMask) : Warp :=
  let mine := c.lanes &&& (w.mask j).enrolled
  (((w.finishAt (c.lanes &&& ~~~mine) c.pc c.nextPc).onLanes mine fun l => { l with stat := .parked j }).setMask j
    { w.mask j with arrived := (w.mask j).arrived ||| mine })

section Members
variable {s : State} {c : Cur} {w : Warp} {j : JMask}

theorem traps_enrol (h : Issues s c w) (hu : w.priv = false) (hm : (w.mask j).enrolled ≠ 0) (off : BitVec 21) :
    Traps (.enrol j off) s c false 0x09 (BitVec.ofNat 64 j.toNat) := by
  rw [← (joinInfo_eq j).1]
  refine traps_userOnly h hu (free_nil w) rfl ?_
  exact if_pos hm

theorem lands_enrol (h : Issues s c w) (hu : w.priv = false) (hm : (w.mask j).enrolled = 0) (off : BitVec 21) :
    Lands (.enrol j off) s c
      (w.setMask j { enrolled := c.lanes, arrived := 0, pc := c.nextPc + BitVec.ofInt 64 (4 * off.toInt) }) := by
  rw [← branchTarget_eq]
  refine ends_userOnly h hu (free_nil w) rfl ?_
  exact if_neg (not_not.2 hm)

theorem traps_park (h : Issues s c w) (hu : w.priv = false) (mine : c.lanes &&& (w.mask j).enrolled ≠ 0)
    (elsewhere : c.pc ≠ (w.mask j).pc) : Traps (.park j) s c false 0x09 (BitVec.ofNat 64 (j.toNat + 2 ^ 3)) := by
  rw [← (joinInfo_eq j).2]
  refine traps_userOnly h hu (free_nil w) rfl ?_
  exact if_pos ⟨mine, elsewhere⟩

theorem moves_park (h : Issues s c w) (hu : w.priv = false)
    (here : c.lanes &&& (w.mask j).enrolled = 0 ∨ c.pc = (w.mask j).pc) :
    Moves (.park j) s c (s.setWarp c.warp ((w.parked c j).maskTest j)) := by
  refine moves_userOnly h hu (free_nil w) rfl ?_
  exact if_neg fun h' => here.elim h'.1 h'.2

theorem Warp.mask_parked (w : Warp) (c : Cur) (j : JMask) : (w.parked c j).mask j =
    { w.mask j with arrived := (w.mask j).arrived ||| (c.lanes &&& (w.mask j).enrolled) } := by
  rw [Warp.parked, Warp.mask_setMask, if_pos rfl]

/-- The lanes of the group that are enrolled wait. -/
theorem Warp.stat_parked {l : Nat} (hl : l < w.lanes.length)
    (hm : (c.lanes &&& (w.mask j).enrolled).getLsbD l = true) : ((w.parked c j).lane l).stat = .parked j := by
  show (((w.finishAt _ c.pc c.nextPc).onLanes _ _).lane l).stat = _
  rw [Warp.lane_onLanes _ _ _ _ (by simpa using hl), if_pos hm]

/-- With no loop open, every enrolled lane goes on when the last has arrived. -/
theorem Warp.lane_maskTest_parked (hu : w.priv = false) (hn : w.loops = []) (h0 : (w.mask j).enrolled ≠ 0)
    (all : (w.mask j).arrived ||| (c.lanes &&& (w.mask j).enrolled) = (w.mask j).enrolled) {l : Nat} (hl : l < w.lanes.length)
    (he : (w.mask j).enrolled.getLsbD l = true) :
    (((w.parked c j).maskTest j).lane l).stat = .candidate ∧ (((w.parked c j).maskTest j).lane l).pc = (w.mask j).pc + 4 := by
  have shape : (w.parked c j).loops = w.loops ∧ (w.parked c j).priv = w.priv ∧
      (w.parked c j).lanes.length = w.lanes.length := by
    refine ⟨?_, ?_, (Warp.onLanes_length _ _ _).trans (w.finishAt_length _ _ _)⟩
    · rw [Warp.parked, Warp.finishAt_shape]; rfl
    · rw [Warp.parked, Warp.finishAt_shape]; rfl
  obtain ⟨loops, priv, length⟩ := shape
  have mask := w.mask_parked c j
  rw [Warp.maskTest_of_arrived (by rw [mask]; exact h0) (by rw [mask]; exact all), mask,
    Warp.lane_finishAt_of_loops_nil (by exact loops.trans hn) (by exact priv.trans hu) (by exact length ▸ hl)
      (by simp only [all]; exact he)]
  exact ⟨rfl, rfl⟩

theorem lands_strike (h : Issues s c w) (hu : w.priv = false) :
    Lands (.strike j) s c ((w.strikeFrom c.lanes j).maskTest j) := ends_userOnly h hu (free_nil w) rfl rfl

theorem Warp.mask_strikeFrom (w : Warp) (lanes : LaneSet) (j : JMask) : (w.strikeFrom lanes j).mask j =
    { w.mask j with enrolled := (w.mask j).enrolled &&& ~~~lanes, arrived := (w.mask j).arrived &&& ~~~lanes } := by
  rw [Warp.strikeFrom, Warp.mask_setMask, if_pos rfl]

end Members

/-- Settles O32: each member by whether its lanes are enrolled, and whether every lane of the mask has arrived. -/
theorem rejoinMasks : Obligations.RejoinMasks := by
  unfold Obligations.RejoinMasks
  intro s c w j h hu
  refine ⟨fun off => ⟨fun inUse => traps_enrol h hu inUse off,
      fun free => ⟨_, lands_enrol h hu free off, rfl, fun k => w.mask_setMask j k _⟩⟩,
    traps_park h hu, fun here => ⟨_, moves_park h hu here, fun h0 awaits => ?_, fun h0 all => ⟨?_, fun hn l hl _ he => ?_⟩⟩,
    ⟨_, lands_strike h hu, fun h0 awaits => ?_, fun all => ?_⟩⟩
  · have mask := w.mask_parked c j
    rw [Warp.maskTest_of_awaiting (Or.inr (by rw [mask]; exact awaits))]
    exact ⟨mask, fun l hl _ hm => Warp.stat_parked hl hm⟩
  · exact Warp.enrolled_maskTest (Or.inr (by rw [w.mask_parked c j]; exact all))
  · exact Warp.lane_maskTest_parked hu hn h0 all hl he
  · have mask := w.mask_strikeFrom c.lanes j
    rw [Warp.maskTest_of_awaiting (Or.inr (by rw [mask]; exact awaits)), mask]
  · exact Warp.enrolled_maskTest (by rw [w.mask_strikeFrom c.lanes j]; exact all)

end Sys2Proof.Machine
end

section
/-!
PROOFS. What a fetch changes (R55, R58, R81, R131) and the loop stack (R25, R28, R382).
-/

namespace Sys2Proof.Machine
open Sys2Proof

/-! ### Translations and fetches -/

/-- The state after a fetch is another but for TLBs, kept words and the free choices made. -/
def State.FetchesTo (s v : State) : Prop := v = { s with cores := v.cores, dies := v.dies, tick := v.tick }

theorem State.FetchesTo.refl (s : State) : s.FetchesTo s := rfl

theorem State.FetchesTo.trans {s v r : State} (h : s.FetchesTo v) (h' : v.FetchesTo r) : s.FetchesTo r := by
  unfold State.FetchesTo at *
  rw [h', h]

theorem State.fetchesTo_setCore (s : State) (k : Nat) (x : Core) : s.FetchesTo (s.setCore k x) := rfl
theorem State.fetchesTo_setDie (s : State) (k : Nat) (x : Die) : s.FetchesTo (s.setDie k x) := rfl

/-- A translation fills TLBs, and changes nothing else. -/
theorem State.fetchesTo_translate (s : State) (ck asid va : Nat) : s.FetchesTo (s.translate ck asid va).1 := by
  unfold State.translate
  simp only
  split
  · exact .refl s
  · split
    · exact s.fetchesTo_setCore _ _
    · split
      · exact (s.fetchesTo_setDie _ _).trans (fetchesTo_setCore _ _ _)
      · exact .refl s

theorem State.fetchesTo_of_translate {s v : State} {ck asid va : Nat} {x : Xlat} (h : s.translate ck asid va = (v, x)) :
    s.FetchesTo v := by
  have := s.fetchesTo_translate ck asid va
  rwa [h] at this

theorem State.fetchesTo_fetchHome (s : State) (ck asid va pa : Nat) : s.FetchesTo (s.fetchHome ck asid va pa).1 := by
  unfold State.fetchHome
  split
  · simp only
    split <;> rfl
  · exact .refl s

theorem State.fetchesTo_fetchWord (s : State) (ck asid va : Nat) : s.FetchesTo (s.fetchWord ck asid va).1 := by
  unfold State.fetchWord
  split
  case h_5 =>
    split
    case h_5 v l h =>
      split
      · exact fetchesTo_of_translate h
      · exact (fetchesTo_of_translate h).trans (fetchesTo_fetchHome _ _ _ _ _)
    all_goals exact fetchesTo_of_translate ‹_›
  all_goals exact .refl s

theorem State.fetchesTo_fetchInstr (s : State) (ck asid va : Nat) : s.FetchesTo (s.fetchInstr ck asid va).1 := by
  have first := s.fetchesTo_fetchWord ck asid va
  unfold State.fetchInstr
  split
  next v w h =>
    rw [h] at first
    split
    · have second := v.fetchesTo_fetchWord ck asid ((va + 4) % 2 ^ 64)
      split
      all_goals
        rename_i h'
        rw [h'] at second
        exact first.trans second
    · exact first
  next v f _ h =>
    rw [h] at first
    exact first

theorem State.FetchesTo.warps {s v : State} (h : s.FetchesTo v) : v.warps = s.warps := by rw [h]
theorem State.FetchesTo.issues {s v : State} (h : s.FetchesTo v) : v.issues = s.issues := by rw [h]

theorem State.fetchesTo_of_fetchInstr {s v : State} {ck asid va : Nat} {f : FetchedInstr} (h : s.fetchInstr ck asid va = (v, f)) :
    s.FetchesTo v := by
  have := s.fetchesTo_fetchInstr ck asid va
  rwa [h] at this

/-- Recording a miss changes no warp and counts no issue. -/
theorem State.recordFault_shape (s : State) (die asid page : Nat) :
    (s.recordFault die asid page).1 = { s with dies := (s.recordFault die asid page).1.dies } := by
  unfold State.recordFault
  simp only
  split
  · rfl
  · split <;> rfl

/-- A replayable miss stops its warp on the page. -/
theorem settle_missStop {v : State} {c : Cur} {w : Warp} (h : v.warp c.warp = some w) (va : Nat) :
    ∃ t recorded, State.settle c (v.missStop w va) = .next t ∧
      t.warp c.warp = some { w with lastIssue := v.issues + 1, stop := .fault va recorded } := by
  have shape := v.recordFault_shape w.die w.asid (faultPage va)
  refine ⟨_, (v.recordFault w.die w.asid (faultPage va)).2, rfl, ?_⟩
  rw [State.warp_onWarp, if_pos rfl]
  show ((v.recordFault w.die w.asid (faultPage va)).1.warp c.warp).map _ = _
  rw [show (v.recordFault w.die w.asid (faultPage va)).1.warp c.warp = v.warp c.warp by rw [shape]; rfl, h]
  rw [shape]
  rfl

/-! ### The place after a body's end -/

/-- An instruction whose body goes on past an end: at the word after it, or after the literal word that belongs to it; a
replayable miss there stops the warp (R25). -/
theorem exec_pastEnd {i : Instr} {s : State} {c : Cur} {w : Warp} {stop : Xword} {u : Xword → Warp} (h : Issues s c w)
    (he : exec i s = State.settle c (s.pastEnd w stop fun s pc => .moved (s.setWarp c.warp (u pc)))) {v : State}
    {f : FetchedInstr} (hf : s.fetchInstr w.coreK w.asid stop.toNat = (v, f)) :
    let at_ (pc : Xword) := Moves i s c (v.setWarp c.warp (u pc))
    (∀ x, f = .words x none → at_ (stop + 4)) ∧
    (∀ x y, f = .words x (some y) → at_ (if isLiteral y = true ∧ isLiteral x = false then stop + 8 else stop + 4)) ∧
    (∀ cause info, f = .bad (.trap cause info) → at_ (stop + 4)) ∧
    ∀ va, f = .bad (.miss va) → ∃ (t : State) (recorded : Bool), exec i s = .next t ∧
      t.warp c.warp = some { w with lastIssue := v.issues + 1, stop := .fault va recorded } := by
  rw [State.pastEnd, hf] at he
  refine ⟨?_, ?_, ?_, ?_⟩
  · rintro x rfl
    exact he
  · rintro x y rfl
    rw [Moves, he]
    simp only [FetchedInstr.afterEnd, Bool.and_eq_true, Bool.not_eq_true']
    rfl
  · rintro cause info rfl
    exact he
  · rintro va rfl
    have warp : v.warp c.warp = some w := by
      rw [State.warp, (State.fetchesTo_of_fetchInstr hf).warps]
      exact h.warp
    obtain ⟨t, recorded, ht, hw⟩ := settle_missStop warp va
    exact ⟨t, recorded, he.trans ht, hw⟩

/-! ### `loop` and `lexit` -/

section Loops
variable {s : State} {c : Cur} {w : Warp}

/-- A `loop` of no iterations goes past its body (R25). -/
theorem exec_loop_zero (h : Issues s c w) (hu : w.priv = false) {n : LoopCount} (hn : w.loopCount n = 0) (off : BitVec 18) :
    exec (.loop n off) s = State.settle c (s.pastEnd w (c.nextPc + 4 * off.setWidth 64) fun s pc =>
      .moved (s.setWarp c.warp (w.onLanes c.lanes fun l => { l with pc := pc }))) := by
  have body : exec (.loop n off) s = _ := run_userOnly h hu (free_nil w) _
  rw [body, if_pos hn]

theorem traps_loop (h : Issues s c w) (hu : w.priv = false) {n : LoopCount} (hn : w.loopCount n ≠ 0)
    (full : 4 ≤ w.loops.length) (off : BitVec 18) : Traps (.loop n off) s c false 0x08 0 := by
  refine traps_userOnly h hu (free_nil w) rfl ?_
  exact (if_neg hn).trans (if_pos full)

/-- What a `loop` that pushes an entry makes of its warp (R25). -/
def Warp.loopPushed (w : Warp) (c : Cur) (n : LoopCount) (off : BitVec 18) : Warp :=
  let others := c.cands &&& ~~~c.lanes
  { ((w.onLanes c.lanes fun l => { l with pc := c.nextPc }).hold others) with
    loops := { start := c.nextPc, stop := c.nextPc + 4 * off.setWidth 64, count := w.loopCount n, inBody := c.lanes,
               held := others } :: w.loops }

theorem moves_loop (h : Issues s c w) (hu : w.priv = false) {n : LoopCount} (hn : w.loopCount n ≠ 0)
    (room : w.loops.length < 4) (off : BitVec 18) : Moves (.loop n off) s c (s.setWarp c.warp (w.loopPushed c n off)) := by
  refine moves_userOnly h hu (free_nil w) rfl ?_
  exact (if_neg hn).trans (if_neg (by omega))

theorem Warp.pc_loopPushed (w : Warp) (c : Cur) (n : LoopCount) (off : BitVec 18) {l : Nat} (hl : l < w.lanes.length) :
    ((w.loopPushed c n off).lane l).pc = if c.lanes.getLsbD l = true then c.nextPc else (w.lane l).pc := by
  refine (Warp.pc_hold _ _ (by simpa using hl)).trans ?_
  rw [Warp.lane_onLanes _ _ _ _ hl]
  split <;> rfl

theorem traps_lexit (h : Issues s c w) (hu : w.priv = false) (hn : w.loops = []) : Traps .lexit s c false 0x08 1 := by
  refine traps_userOnly h hu (free_nil w) rfl ?_
  simp only [hn]

/-- What `lexit` makes of its warp, whose lanes go on at `pc` (R28). -/
def Warp.lexited (w : Warp) (c : Cur) (e : LoopEntry) (r : List LoopEntry) (pc : Xword) : Warp :=
  let u := w.onLanes c.lanes fun l => { l with pc := pc }
  let left := e.inBody &&& ~~~c.lanes
  if left = 0 then ({ u with loops := r } : Warp).release e.held
  else { (u.hold c.lanes) with loops := { e with inBody := left, held := e.held ||| c.lanes } :: r }

theorem exec_lexit (h : Issues s c w) (hu : w.priv = false) {e : LoopEntry} {r : List LoopEntry} (hl : w.loops = e :: r) :
    exec .lexit s = State.settle c (s.pastEnd w e.stop fun s pc => .moved (s.setWarp c.warp (w.lexited c e r pc))) := by
  have body : exec .lexit s = _ := run_userOnly h hu (free_nil w) _
  rw [body]
  simp only [hl]
  congr 2
  funext s pc
  unfold Warp.lexited
  simp only
  split <;> rfl

theorem Warp.lexited_shape (w : Warp) (c : Cur) (e : LoopEntry) (r : List LoopEntry) (pc : Xword) :
    let left := e.inBody &&& ~~~c.lanes
    w.lexited c e r pc = { w with
      lanes := (w.lexited c e r pc).lanes
      loops := if left = 0 then r else { e with inBody := left, held := e.held ||| c.lanes } :: r } := by
  intro left
  unfold Warp.lexited
  simp only
  split <;> rfl

theorem Warp.lane_lexited (w : Warp) (c : Cur) (e : LoopEntry) (r : List LoopEntry) (pc : Xword) {l : Nat}
    (hl : l < w.lanes.length) : (w.lexited c e r pc).lane l =
      { w.lane l with
        pc := if c.lanes.getLsbD l = true then pc else (w.lane l).pc
        stat := if e.inBody &&& ~~~c.lanes = 0 ∧ e.held.getLsbD l = true ∧ (w.lane l).stat = .held then .candidate
          else if e.inBody &&& ~~~c.lanes ≠ 0 ∧ c.lanes.getLsbD l = true ∧ (w.lane l).stat = .candidate then .held
          else (w.lane l).stat } := by
  have moved : (w.onLanes c.lanes fun l => { l with pc := pc }).lane l =
      { w.lane l with pc := if c.lanes.getLsbD l = true then pc else (w.lane l).pc } := by
    rw [Warp.lane_onLanes _ _ _ _ hl]
    split <;> rfl
  have length : l < (w.onLanes c.lanes fun l => { l with pc := pc }).lanes.length := by simpa using hl
  unfold Warp.lexited
  by_cases left : e.inBody &&& ~~~c.lanes = 0
  · simp only [left, true_and, ne_eq, not_true_eq_false, false_and, if_false]
    refine (Warp.lane_onLanes _ _ _ _ length).trans ?_
    rw [show ∀ r, Warp.lane { (w.onLanes c.lanes fun l => { l with pc := pc }) with loops := r } l = _ from fun _ => moved]
    split_ifs <;> simp_all
  · simp only [left, false_and, if_false, ne_eq, not_false_eq_true, true_and]
    refine (Warp.lane_onLanes _ _ _ _ length).trans ?_
    rw [moved]
    split_ifs <;> simp_all

end Loops

/-- Settles O33: `loop` by its count and the room on the stack, `lexit` by the top entry, each past an end by its fetch. -/
theorem loops : Obligations.Loops := by
  unfold Obligations.Loops
  intro s c w h hu
  refine ⟨fun n off => ?_, traps_lexit h hu, fun e r hl v f hf => ?_⟩
  · have count : (match n with
        | .reg r => (w.s r).setWidth 32
        | .imm k => k.setWidth 32 : BitVec 32) = w.loopCount n := by cases n <;> rfl
    intro m
    have hm : m = w.loopCount n := count
    rw [hm]
    refine ⟨fun hn v f hf => ?_, fun hn full => traps_loop h hu hn full off,
      fun hn room => ⟨_, moves_loop h hu hn room off, rfl, fun l hl _ => w.pc_loopPushed c n off hl⟩⟩
    obtain ⟨word, literal, trap, miss⟩ := exec_pastEnd h (exec_loop_zero h hu hn off) hf
    have lanes := fun pc l (hl : l < w.lanes.length) (_ : l < 64) => Warp.lane_onLanes w c.lanes (fun l => { l with pc := pc }) l hl
    exact ⟨fun x hx => ⟨_, word x hx, rfl, lanes _⟩, fun x y hx => ⟨_, literal x y hx, rfl, lanes _⟩,
      fun k i hk => ⟨_, trap k i hk, rfl, lanes _⟩, miss⟩
  · obtain ⟨word, literal, trap, miss⟩ := exec_pastEnd h (exec_lexit h hu hl) hf
    have lanes := fun pc l (hl : l < w.lanes.length) (_ : l < 64) => w.lane_lexited c e r pc hl
    have shape := w.lexited_shape c e r
    exact ⟨fun x hx => ⟨_, word x hx, shape _, lanes _⟩, fun x y hx => ⟨_, literal x y hx, shape _, lanes _⟩,
      fun k i hk => ⟨_, trap k i hk, shape _, lanes _⟩, miss⟩

end Sys2Proof.Machine
end

section
/-!
PROOFS. The `rep` word (R29 to R31, R413): the checks of its target, and one repeat of it.
-/

namespace Sys2Proof.Machine
open Sys2Proof

/-- A fetch that the checks of R29 refuse is one that they judge: of those that fail, only a trap. -/
theorem repCheck_bad {f : Fetched} {n : Nat} {sd sa sb : BitVec 2} {x : Nat × Xword × Bool}
    (h : repCheck (.bad f) n sd sa sb = some x) : ∃ cause info, f = .trap cause info := by
  cases f with
  | trap cause info => exact ⟨cause, info, rfl⟩
  | word | miss | hole => simp [repCheck] at h

/-- A trap of the checks reports the `rep` word, or the word after it (R59). -/
theorem settle_repTrap (v : State) (c : Cur) (cause : Nat) (info : Xword) (target : Bool) :
    State.settle c (v.repTrap cause info target) =
      .next (v.trapAt c false (if target then c.nextPc else c.trapPc) cause info) := by
  cases target <;> rfl

/-- The word of repeat k grows by k times what one repeat adds (R29). -/
theorem steppedWord_eq (x k : Nat) (sd sa sb : BitVec 2) : steppedWord x k sd sa sb =
    x + k * (repStep sd * 2 ^ (repShifts x).1 + repStep sa * 2 ^ (repShifts x).2.1 + repStep sb * 2 ^ (repShifts x).2.2) := by
  simp only [steppedWord]
  ring

section Repeat
variable {s v : State} {c : Cur} {w : Warp} {f : FetchedInstr} {n : BitVec 6} {sd sa sb : BitVec 2}

theorem exec_rep (h : Issues s c w) (hu : w.priv = false) (idle : w.rep.busy = false)
    (hf : s.fetchInstr w.coreK w.asid c.nextPc.toNat = (v, f)) (reached : ∀ x, f = .bad x → ∃ cause info, x = .trap cause info) :
    exec (.rep n sd sa sb) s = State.settle c (match repCheck f n.toNat sd sa sb with
      | some (cause, info, target) => v.repTrap cause info target
      | none => .moved (v.setWarp c.warp { w with rep := { done := 0, busy := true, cnt := n.toNat, lanes := c.lanes } })) := by
  have body : exec (.rep n sd sa sb) s = _ := run_userOnly h hu (free_nil w) _
  rw [body]
  simp only [idle, hf, Bool.false_eq_true, if_false]
  cases f with
  | words x y => rfl
  | bad x =>
    obtain ⟨cause, info, rfl⟩ := reached x rfl
    rfl

/-- One repeat: the target with its fields grown, in a frame that reports the `rep` word (R31). -/
theorem issueGroup_repeat {k : Nat} {pc : Xword} {lanes cands : LaneSet} {r : State} {x : Nat} (hu : w.priv = false)
    (busy : w.rep.busy = true) (more : w.rep.done ≤ n.toNat) (hf : s.fetchInstr w.coreK w.asid pc.toNat = (v, f))
    (hi : f.instr = .rep n sd sa sb)
    (target : (v.onWarp k fun w => { w with rep := { w.rep with cnt := n.toNat } }).fetchInstr w.coreK w.asid (pc + 4).toNat =
      (r, .words x none))
    (passes : repCheck (.words x none) n.toNat sd sa sb = none) :
    s.issueGroup k w pc lanes cands = exec (FetchedInstr.words (steppedWord x w.rep.done sd sa sb) none).instr
      { r with cur := some { warp := k, lanes := lanes, cands := cands, pc := pc + 4, trapPc := pc, nextPc := pc + 8,
                             priv := false, inRep := true } } := by
  have after : pc + 4 + BitVec.ofNat 64 4 = pc + 8 := BitVec.add_assoc pc 4 4
  simp only [State.issueGroup, hf, busy, hu, Bool.not_false, Bool.and_self, if_true, hi, State.issueRepeat, target, passes,
    if_neg (Nat.not_lt.2 more), State.runIn, Warp.frame, after, repInstr]

end Repeat

/-- Settles O34: the `rep` word by its target's checks, and a repeat through `issueGroup`. -/
theorem repeatPrefix : Obligations.RepeatPrefix := by
  unfold Obligations.RepeatPrefix
  intro n sd sa sb
  refine ⟨fun s c w h hu idle v f hf => ⟨fun cause info next fails => ?_, ?_⟩,
    fun s k w pc lanes cands v r f x hu busy more hf hi target passes => ?_⟩
  · rw [exec_rep h hu idle hf fun x hx => repCheck_bad (hx ▸ fails), fails]
    exact settle_repTrap v c cause info next
  · rintro x y rfl passes
    rw [Moves, exec_rep h hu idle hf (by simp), passes]
    rfl
  · rw [issueGroup_repeat hu busy more hf hi target passes, steppedWord_eq]

end Sys2Proof.Machine
end

section
/-!
PROOFS. Completing an instruction (R14, R18, R22 to R31, R245): where its lanes stand, their ages, the loop stack, and the frame.
-/

namespace Sys2Proof.Machine
open Sys2Proof

/-! ### Ages -/

/-- Another state of a warp with as many lanes, each of its age. -/
def Warp.SameAges (w u : Warp) : Prop :=
  u.lanes.length = w.lanes.length ∧ ∀ l, l < w.lanes.length → (u.lane l).age = (w.lane l).age

theorem Warp.SameAges.refl (w : Warp) : w.SameAges w := ⟨rfl, fun _ _ => rfl⟩

theorem Warp.SameAges.trans {w u v : Warp} (h : w.SameAges u) (h' : u.SameAges v) : w.SameAges v :=
  ⟨h'.1.trans h.1, fun l hl => (h'.2 l (h.1 ▸ hl)).trans (h.2 l hl)⟩

/-- A change of other fields than the lanes keeps the ages. -/
theorem Warp.sameAges_of_lanes {w u : Warp} (h : u.lanes = w.lanes) : w.SameAges u :=
  ⟨by rw [h], fun l _ => by rw [Warp.lane, h]; rfl⟩

theorem Warp.sameAges_onLanes (w : Warp) (s : LaneSet) {f : Lane → Lane} (hf : ∀ x, (f x).age = x.age) :
    w.SameAges (w.onLanes s f) := by
  refine ⟨w.onLanes_length s f, fun l hl => ?_⟩
  rw [Warp.lane_onLanes _ _ _ _ hl]
  split
  · exact hf _
  · rfl

theorem Warp.sameAges_release (w : Warp) (s : LaneSet) : w.SameAges (w.release s) :=
  w.sameAges_onLanes s fun x => by split <;> rfl

theorem Warp.sameAges_hold (w : Warp) (s : LaneSet) : w.SameAges (w.hold s) :=
  w.sameAges_onLanes s fun x => by split <;> rfl

theorem Warp.sameAges_waitAtEnd (w : Warp) (done : LaneSet) (pc next : Xword) : w.SameAges (w.waitAtEnd done pc next) := by
  unfold Warp.waitAtEnd
  split
  · exact .refl w
  · split
    · exact w.sameAges_onLanes _ fun x => by split <;> rfl
    · exact .refl w

theorem Warp.sameAges_finishAt (w : Warp) (done : LaneSet) (pc next : Xword) : w.SameAges (w.finishAt done pc next) :=
  Warp.SameAges.trans (w.sameAges_onLanes done (f := fun l => { l with pc := next, stat := if w.priv then l.stat else .candidate })
    fun _ => rfl) (Warp.sameAges_waitAtEnd _ _ _ _)

/-- The test of the loop stack moves lanes and changes the stack (R26). -/
theorem loopTest_shape (fuel : Nat) (w : Warp) :
    loopTest fuel w = { w with lanes := (loopTest fuel w).lanes, loops := (loopTest fuel w).loops } := by
  induction fuel generalizing w with
  | zero => rfl
  | succ fuel ih =>
    unfold loopTest
    split
    · rfl
    · split
      · rw [ih]; rfl
      · split
        · split
          · rw [ih]; rfl
          · rfl
        · rfl

theorem sameAges_loopTest (fuel : Nat) (w : Warp) : w.SameAges (loopTest fuel w) := by
  induction fuel generalizing w with
  | zero => exact .refl w
  | succ fuel ih =>
    unfold loopTest
    split
    · exact .refl w
    · split
      · exact ((Warp.sameAges_of_lanes rfl).trans (Warp.sameAges_release _ _)).trans (ih _)
      · split
        · split
          · exact (((Warp.sameAges_of_lanes rfl).trans (Warp.sameAges_release _ _)).trans (Warp.sameAges_hold _ _)).trans (ih _)
          · exact (Warp.sameAges_of_lanes rfl).trans (Warp.sameAges_onLanes _ _ fun _ => rfl)
        · exact .refl w

/-- R18: the ages after an issue in user mode. -/
theorem Warp.age_ageBy (w : Warp) (ran cands : LaneSet) {l : Nat} (hl : l < w.lanes.length) (h64 : l < 64) :
    ((w.ageBy ran cands).lane l).age = if ran.getLsbD l = true then 0
      else if cands.getLsbD l = true then min 64 ((w.lane l).age + 1) else (w.lane l).age := by
  unfold Warp.ageBy
  rw [Warp.lane_onLanes _ _ _ _ (by simpa using hl), Warp.lane_onLanes_diff _ _ _ _ hl h64]
  split_ifs <;> simp_all

/-! ### What completing changes of a warp -/

/-- The warp of an instruction that completes, before ages and loops are looked at: its last issue, and its `bsync` left. -/
def Warp.counted (w : Warp) (c : Cur) (issue : Nat) : Warp :=
  { w with lastIssue := issue, bsync := if c.priv then w.bsync else none }

/-- The same with its lanes placed. -/
def Warp.placed (w : Warp) (c : Cur) (moved : Bool) (issue : Nat) : Warp :=
  if moved then (if w.rep.busy || c.priv then w.counted c issue else (w.counted c issue).waitAtEnd c.lanes c.pc c.nextPc)
  else if c.inRep then (w.counted c issue).repeatDone c
  else (w.counted c issue).finishAt c.lanes c.pc c.nextPc

theorem Warp.complete_eq (w : Warp) (c : Cur) (moved : Bool) (issue : Nat) : w.complete c moved issue =
    if c.priv then w.placed c moved issue
    else loopTest 5 (if c.inRep then w.placed c moved issue else (w.placed c moved issue).ageBy c.lanes c.cands) := rfl

/-- Of the fields that completing does not place, all stay but the last issue and the `bsync`. -/
theorem Warp.placed_shape (w : Warp) (c : Cur) (moved : Bool) (issue : Nat) :
    w.placed c moved issue = { w with lanes := (w.placed c moved issue).lanes, rep := (w.placed c moved issue).rep,
                                      bsync := if c.priv = true then w.bsync else none, lastIssue := issue } := by
  unfold Warp.placed
  split
  · split
    · rfl
    · rw [Warp.waitAtEnd_shape]; rfl
  · split
    · unfold Warp.repeatDone
      split
      · rfl
      · rw [Warp.finishAt_shape]; rfl
    · rw [Warp.finishAt_shape]; rfl

theorem Warp.complete_shape (w : Warp) (c : Cur) (moved : Bool) (issue : Nat) :
    w.complete c moved issue =
      { w with lanes := (w.complete c moved issue).lanes, loops := (w.complete c moved issue).loops,
               rep := (w.placed c moved issue).rep, bsync := if c.priv = true then w.bsync else none, lastIssue := issue } := by
  obtain ⟨lanes, rep, h⟩ : ∃ lanes rep, w.placed c moved issue =
      { w with lanes := lanes, rep := rep, bsync := if c.priv = true then w.bsync else none, lastIssue := issue } :=
    ⟨_, _, w.placed_shape c moved issue⟩
  rw [Warp.complete_eq, h]
  split
  · rfl
  · rw [loopTest_shape]
    split <;> rfl

theorem Warp.rep_placed_of_not_inRep {w : Warp} {c : Cur} (h : c.inRep = false) (moved : Bool) (issue : Nat) :
    (w.placed c moved issue).rep = w.rep := by
  unfold Warp.placed
  split
  · split
    · rfl
    · rw [Warp.waitAtEnd_shape]; rfl
  · rw [if_neg (by simp [h]), Warp.finishAt_shape]; rfl

/-- R29 to R31: one more repeat is done, or the sequence ends. -/
theorem Warp.rep_placed_of_inRep {w : Warp} {c : Cur} (h : c.inRep = true) (issue : Nat) :
    (w.placed c false issue).rep = if w.rep.done < w.rep.cnt then { w.rep with done := w.rep.done + 1 } else RepState.idle := by
  simp only [Warp.placed, h, Bool.false_eq_true, if_false, if_true, Warp.repeatDone]
  show (if w.rep.done < w.rep.cnt then _ else _ : Warp).rep = _
  split
  · rfl
  · rw [Warp.finishAt_shape]

theorem Warp.sameAges_placed (w : Warp) (c : Cur) (moved : Bool) (issue : Nat) : w.SameAges (w.placed c moved issue) := by
  have counted : w.SameAges (w.counted c issue) := Warp.sameAges_of_lanes rfl
  unfold Warp.placed
  split
  · split
    · exact counted
    · exact counted.trans (Warp.sameAges_waitAtEnd _ _ _ _)
  · split
    · unfold Warp.repeatDone
      split
      · exact counted.trans (Warp.sameAges_of_lanes rfl)
      · exact (counted.trans (Warp.sameAges_of_lanes rfl)).trans (Warp.sameAges_finishAt _ _ _ _)
    · exact counted.trans (Warp.sameAges_finishAt _ _ _ _)

/-- R18, R31, R248: the ages after an instruction has completed. -/
theorem Warp.age_complete (w : Warp) (c : Cur) (moved : Bool) (issue : Nat) {l : Nat} (hl : l < w.lanes.length) (h64 : l < 64) :
    ((w.complete c moved issue).lane l).age = if c.priv = true ∨ c.inRep = true then (w.lane l).age
      else if c.lanes.getLsbD l = true then 0
      else if c.cands.getLsbD l = true then min 64 ((w.lane l).age + 1) else (w.lane l).age := by
  obtain ⟨length, ages⟩ := w.sameAges_placed c moved issue
  rw [Warp.complete_eq]
  by_cases hp : c.priv = true
  · rw [if_pos hp, if_pos (Or.inl hp), ages l hl]
  · rw [if_neg hp]
    by_cases hr : c.inRep = true
    · rw [if_pos hr, if_pos (Or.inr hr), (sameAges_loopTest _ _).2 l (length ▸ hl), ages l hl]
    · rw [if_neg hr, if_neg (by tauto)]
      have aged : l < ((w.placed c moved issue).ageBy c.lanes c.cands).lanes.length := by
        simp [Warp.ageBy, length, hl]
      rw [(sameAges_loopTest _ _).2 l aged, Warp.age_ageBy _ _ _ (length ▸ hl) h64, ages l hl]

theorem Warp.complete_length (w : Warp) (c : Cur) (moved : Bool) (issue : Nat) :
    (w.complete c moved issue).lanes.length = w.lanes.length := by
  have placed := (w.sameAges_placed c moved issue).1
  rw [Warp.complete_eq]
  split
  · exact placed
  · rw [(sameAges_loopTest _ _).1]
    split
    · exact placed
    · simpa [Warp.ageBy] using placed

/-! ### A warp that can never move again (R24) -/

/-- The warp with JOIN kind 2 taken for mask j: its waiting lanes leave the mask and enter the handler. -/
def Warp.deadlocked (w : Warp) (j : JMask) (lanes : LaneSet) (vec : Xword) : Warp :=
  ((w.setMask j { w.mask j with arrived := (w.mask j).arrived &&& ~~~lanes }).onLanes lanes fun l =>
    { l with stat := .candidate, pc := (w.mask j).pc }).enter lanes vec (w.mask j).pc 0x09 (BitVec.ofNat 64 (j.toNat + 2 * 2 ^ 3))

/-- What the deadlock test does to a warp of a context with a trap vector. -/
theorem checkDeadlock_cases {s : State} {k : Nat} {w : Warp} (h : s.warp k = some w) (hv : (s.ctx w.ctxK).trapvec ≠ 0) :
    s.checkDeadlock k = s ∨ ∃ j lanes, w.priv = false ∧
      s.checkDeadlock k = (s.setWarp k ((w.setMask j { w.mask j with arrived := (w.mask j).arrived &&& ~~~lanes }).onLanes
        lanes fun l => { l with stat := .candidate, pc := (w.mask j).pc })).setWarp k
          (w.deadlocked j lanes (s.ctx w.ctxK).trapvec) := by
  unfold State.checkDeadlock
  simp only [h]
  cases hd : w.deadlock with
  | none => exact Or.inl rfl
  | some e =>
    have user : w.priv = false := by
      by_contra hp
      simp [Warp.deadlock, hp] at hd
    refine Or.inr ⟨e.1, e.2, user, ?_⟩
    exact takeTrap_enters (State.warp_setWarp_same _ _ _) user hv

theorem Warp.sameAges_enter (w : Warp) (lanes : LaneSet) (vec pc : Xword) (cause : Nat) (info : Xword) :
    w.SameAges (w.enter lanes vec pc cause info) := by
  have suspended := w.sameAges_onLanes (firstLanes 64)
    (f := fun l => if l.stat = .exited then l else { l with suspended := true }) fun x => by split <;> rfl
  have entered := suspended.trans (Warp.sameAges_onLanes _ lanes (f := fun l => { l with suspended := false, pc := vec })
    fun _ => rfl)
  exact entered.trans (Warp.sameAges_of_lanes rfl)

theorem Warp.sameAges_deadlocked (w : Warp) (j : JMask) (lanes : LaneSet) (vec : Xword) :
    w.SameAges (w.deadlocked j lanes vec) := by
  have masked : w.SameAges (w.setMask j { w.mask j with arrived := (w.mask j).arrived &&& ~~~lanes }) :=
    Warp.sameAges_of_lanes rfl
  have moved := masked.trans (Warp.sameAges_onLanes _ lanes
    (f := fun l => { l with stat := .candidate, pc := (w.mask j).pc }) fun _ => rfl)
  exact moved.trans (Warp.sameAges_enter _ _ _ _ _ _)

/-- It is in its handler, entered with JOIN kind 2. -/
theorem Warp.deadlocked_trap (w : Warp) (j : JMask) (lanes : LaneSet) (vec : Xword) :
    (w.deadlocked j lanes vec).priv = true ∧ (w.deadlocked j lanes vec).trapcause = 0x09 ∧
      (w.deadlocked j lanes vec).trapinfo.toNat / 8 = 2 := by
  refine ⟨rfl, rfl, ?_⟩
  have := j.isLt
  show (BitVec.ofNat 64 (j.toNat + 2 * 2 ^ 3)).toNat / 8 = 2
  rw [BitVec.toNat_ofNat]
  omega

/-- What a trap changes of a warp. -/
theorem Warp.enter_shape (w : Warp) (lanes : LaneSet) (vec pc : Xword) (cause : Nat) (info : Xword) :
    ∃ L, w.enter lanes vec pc cause info = { w with
      lanes := L, trappc := pc, trapcause := BitVec.ofNat 64 cause, trapinfo := info, priv := true, tlanes := lanes,
      stop := .running, entered := some { cause := cause, pc := pc, info := info } } := ⟨_, rfl⟩

theorem Warp.deadlocked_shape (w : Warp) (j : JMask) (lanes : LaneSet) (vec : Xword) : ∃ L M p i e,
    w.deadlocked j lanes vec = { w with
      lanes := L, masks := M, trappc := p, trapcause := 0x09, trapinfo := i, priv := true, tlanes := lanes, stop := .running,
      entered := e } := by
  obtain ⟨L, h⟩ := Warp.enter_shape ((w.setMask j { w.mask j with arrived := (w.mask j).arrived &&& ~~~lanes }).onLanes lanes
    fun l => { l with stat := .candidate, pc := (w.mask j).pc }) lanes vec (w.mask j).pc 0x09 (BitVec.ofNat 64 (j.toNat + 2 * 2 ^ 3))
  exact ⟨L, _, _, _, _, h⟩

/-! ### Where lanes stand -/

/-- A lane's place and what it waits for. -/
def Warp.at_ (w : Warp) (l : Nat) : Xword × LaneStat := ((w.lane l).pc, (w.lane l).stat)

theorem Warp.at_ageBy (w : Warp) (ran cands : LaneSet) {l : Nat} (hl : l < w.lanes.length) :
    (w.ageBy ran cands).at_ l = w.at_ l := by
  unfold Warp.ageBy Warp.at_
  rw [Warp.lane_onLanes _ _ _ _ (by simpa using hl), Warp.lane_onLanes _ _ _ _ hl]
  split_ifs <;> rfl

theorem getLsbD_heldLanes (w : Warp) {l : Nat} (h64 : l < 64) :
    w.heldLanes.getLsbD l = true ↔ l < w.lanes.length ∧ (w.lane l).stat = .held := by
  rw [Warp.heldLanes, Warp.lanesThat, getLsbD_laneSet _ _ h64]
  simp

/-- Every lane of a body waits at its end. -/
theorem allHeld_iff (w : Warp) (body : LaneSet) : body &&& w.heldLanes = body ↔
    ∀ l, l < 64 → body.getLsbD l = true → l < w.lanes.length ∧ (w.lane l).stat = .held := by
  rw [BitVec.and_comm, and_eq_right_iff]
  exact ⟨fun all l h64 hb => (getLsbD_heldLanes w h64).1 (all l hb),
    fun all l hb => (getLsbD_heldLanes w (BitVec.lt_of_getLsbD hb)).2 (all l (BitVec.lt_of_getLsbD hb) hb)⟩

/-- Where lanes stand that have completed an instruction which no body ends in (R14). -/
theorem Warp.at_finishAt {w : Warp} (hu : w.priv = false) {done : LaneSet} {pc next : Xword}
    (hn : ∀ e r, w.loops = e :: r → e.endsIn pc next = false) {l : Nat} (hl : l < w.lanes.length) :
    (w.finishAt done pc next).at_ l = if done.getLsbD l = true then (next, .candidate) else w.at_ l := by
  have stays : w.finishAt done pc next = w.onLanes done fun l => { l with pc := next, stat := .candidate } := by
    unfold Warp.finishAt Warp.waitAtEnd
    simp only [hu, Bool.false_eq_true, if_false]
    split
    · rfl
    next e r h => simp [hn e r h]
  rw [stays, Warp.at_, Warp.lane_onLanes _ _ _ _ hl]
  split <;> rfl

/-- Where they stand when the top body ends in it: those in the body wait (R26). -/
theorem Warp.at_finishAt_of_ends {w : Warp} (hu : w.priv = false) {done : LaneSet} {pc next : Xword} {e : LoopEntry}
    {r : List LoopEntry} (he : w.loops = e :: r) (ends : e.endsIn pc next = true) {l : Nat} (hl : l < w.lanes.length) :
    (w.finishAt done pc next).at_ l = if done.getLsbD l = true then
      (next, if e.inBody.getLsbD l = true then .held else .candidate) else w.at_ l := by
  have waits : w.finishAt done pc next = (w.onLanes done fun l => { l with pc := next, stat := .candidate }).onLanes
      (done &&& e.inBody) fun l => if l.stat = .candidate then { l with pc := next, stat := .held } else l := by
    have loops : (w.onLanes done fun l => { l with pc := next, stat := .candidate }).loops = e :: r := he
    have user : (w.onLanes done fun l => { l with pc := next, stat := .candidate }).priv = false := hu
    unfold Warp.finishAt Warp.waitAtEnd
    simp only [hu, Bool.false_eq_true, if_false, loops, user, ends, decide_true, Bool.and_self, if_true]
  rw [waits, Warp.at_, Warp.lane_onLanes _ _ _ _ (by simpa using hl), Warp.lane_onLanes _ _ _ _ hl, BitVec.getLsbD_and]
  by_cases hd : done.getLsbD l = true
  · by_cases hb : e.inBody.getLsbD l = true <;> simp [hd, hb]
  · simp [hd, Warp.at_]

/-! ### The test of the loop stack (R26) -/

theorem loopTest_of_nil {w : Warp} (h : w.loops = []) (fuel : Nat) : loopTest fuel w = w := by
  cases fuel with
  | zero => rfl
  | succ fuel => simp only [loopTest, h]

/-- While a lane of the top body does not wait at its end, nothing happens. -/
theorem loopTest_of_awaiting {w : Warp} {e : LoopEntry} {r : List LoopEntry} (h : w.loops = e :: r) {l : Nat} (h64 : l < 64)
    (hb : e.inBody.getLsbD l = true) (hs : ¬(l < w.lanes.length ∧ (w.lane l).stat = .held)) (fuel : Nat) :
    loopTest fuel w = w := by
  have nonempty : e.inBody ≠ 0 := fun h0 => by simp [h0] at hb
  have some : e.inBody &&& w.heldLanes ≠ e.inBody := fun all => hs ((allHeld_iff w e.inBody).1 all l h64 hb)
  cases fuel with
  | zero => rfl
  | succ fuel => simp only [loopTest, h, if_neg nonempty, if_neg some]

section AllHeld
variable {w : Warp} {e : LoopEntry} {r : List LoopEntry} (h : w.loops = e :: r) (nonempty : e.inBody ≠ 0)
  (all : ∀ l, l < 64 → e.inBody.getLsbD l = true → l < w.lanes.length ∧ (w.lane l).stat = .held)
include h nonempty all

/-- When all of it waits, the body starts again. -/
theorem loopTest_again (hc : e.count ≠ 1) (fuel : Nat) : loopTest (fuel + 1) w =
    ({ w with loops := { e with count := e.count - 1 } :: r } : Warp).onLanes e.inBody
      fun l => { l with pc := e.start, stat := .candidate } := by
  simp only [loopTest, h, if_neg nonempty, if_pos ((allHeld_iff w e.inBody).2 all), if_neg hc]

/-- After the last iteration the entry pops, and the next one is tested. -/
theorem loopTest_last (hc : e.count = 1) (fuel : Nat) : loopTest (fuel + 1) w =
    loopTest fuel ((({ w with loops := r } : Warp).release (e.inBody ||| e.held)).hold (e.waitOn r)) := by
  simp only [loopTest, h, if_neg nonempty, if_pos ((allHeld_iff w e.inBody).2 all), if_pos hc]

end AllHeld

/-- No lane is held for the next entry where that has another end, or there is none. -/
theorem LoopEntry.waitOn_eq_zero (e : LoopEntry) {r : List LoopEntry} (h : ∀ f q, r = f :: q → f.stop ≠ e.stop) :
    e.waitOn r = 0 := by
  cases r with
  | nil => rfl
  | cons f q => simp [LoopEntry.waitOn, h f q rfl]

theorem Warp.at_release (w : Warp) (s : LaneSet) {l : Nat} (hl : l < w.lanes.length) : (w.release s).at_ l =
    if s.getLsbD l = true ∧ (w.lane l).stat = .held then ((w.lane l).pc, .candidate) else w.at_ l := by
  unfold Warp.release Warp.at_
  rw [Warp.lane_onLanes _ _ _ _ hl]
  split_ifs <;> simp_all

theorem Warp.at_hold_zero (w : Warp) {l : Nat} (hl : l < w.lanes.length) : (w.hold 0).at_ l = w.at_ l := by
  unfold Warp.hold Warp.at_
  rw [Warp.lane_onLanes _ _ _ _ hl]
  simp

/-- The last iteration of a body under which no other has the same end: the stack without it, and its lanes go on. -/
theorem loopTest_pops {w : Warp} {e : LoopEntry} {r : List LoopEntry} (h : w.loops = e :: r) (nonempty : e.inBody ≠ 0)
    (all : ∀ l, l < 64 → e.inBody.getLsbD l = true → l < w.lanes.length ∧ (w.lane l).stat = .held) (hc : e.count = 1)
    (hr : ∀ f q, r = f :: q → f.stop ≠ e.stop ∧ f.inBody &&& e.inBody ≠ 0) (fuel : Nat) :
    (loopTest (fuel + 1) w).loops = r ∧ ∀ l, l < w.lanes.length → (loopTest (fuel + 1) w).at_ l =
      if (e.inBody ||| e.held).getLsbD l = true ∧ (w.lane l).stat = .held then ((w.lane l).pc, .candidate) else w.at_ l := by
  have at_ : ∀ l, l < w.lanes.length → (((({ w with loops := r } : Warp).release (e.inBody ||| e.held)).hold 0).at_ l =
      if (e.inBody ||| e.held).getLsbD l = true ∧ (w.lane l).stat = .held then ((w.lane l).pc, .candidate) else w.at_ l) :=
    fun l hl => (Warp.at_hold_zero _ (by simpa using hl)).trans (Warp.at_release _ _ hl)
  rw [loopTest_last h nonempty all hc, e.waitOn_eq_zero fun f q hf => (hr f q hf).1]
  cases r with
  | nil =>
    have stops := loopTest_of_nil (w := (({ w with loops := [] } : Warp).release (e.inBody ||| e.held)).hold 0) rfl fuel
    rw [stops]
    exact ⟨rfl, at_⟩
  | cons f q =>
    obtain ⟨l, hf, he⟩ : ∃ l, e.inBody.getLsbD l = true ∧ f.inBody.getLsbD l = true :=
      not_not.1 fun h => (hr f q rfl).2 (and_eq_zero_iff.2 h)
    have h64 := BitVec.lt_of_getLsbD hf
    obtain ⟨hl, held⟩ := all l h64 hf
    have released := congrArg Prod.snd (at_ l hl)
    rw [if_pos ⟨by rw [BitVec.getLsbD_or, hf, Bool.true_or], held⟩] at released
    have goes : (((({ w with loops := f :: q } : Warp).release (e.inBody ||| e.held)).hold 0).lane l).stat = .candidate :=
      released
    exact (loopTest_of_awaiting rfl h64 he (fun h => by rw [goes] at h; exact absurd h.2 (by decide)) fuel).symm ▸ ⟨rfl, at_⟩

/-! ### An instruction of user mode that is no repeat -/

/-- Its warp before the test of the loop stack. -/
def Warp.stepped (w : Warp) (c : Cur) (issue : Nat) : Warp :=
  ((w.counted c issue).finishAt c.lanes c.pc c.nextPc).ageBy c.lanes c.cands

theorem Warp.complete_user {w : Warp} {c : Cur} (hp : c.priv = false) (hr : c.inRep = false) (issue : Nat) :
    w.complete c false issue = loopTest 5 (w.stepped c issue) := by
  rw [Warp.complete_eq, if_neg (by simp [hp]), if_neg (by simp [hr]), Warp.placed, if_neg (by decide), if_neg (by simp [hr])]
  rfl

theorem Warp.stepped_length (w : Warp) (c : Cur) (issue : Nat) : (w.stepped c issue).lanes.length = w.lanes.length := by
  simp only [Warp.stepped, Warp.ageBy, Warp.onLanes_length, Warp.finishAt_length]
  rfl

theorem Warp.loops_stepped (w : Warp) (c : Cur) (issue : Nat) : (w.stepped c issue).loops = w.loops := by
  show ((w.counted c issue).finishAt c.lanes c.pc c.nextPc).loops = w.loops
  rw [Warp.finishAt_shape]
  rfl

section Stepped
variable {w : Warp} {c : Cur} (hu : w.priv = false) (issue : Nat) {l : Nat} (hl : l < w.lanes.length)
include hu hl

theorem Warp.at_stepped (hn : ∀ e r, w.loops = e :: r → e.endsIn c.pc c.nextPc = false) :
    (w.stepped c issue).at_ l = if c.lanes.getLsbD l = true then (c.nextPc, .candidate) else w.at_ l := by
  rw [Warp.stepped, Warp.at_ageBy _ _ _ (by rw [Warp.finishAt_length]; exact hl)]
  exact Warp.at_finishAt (w := w.counted c issue) hu hn hl

theorem Warp.at_stepped_of_ends {e : LoopEntry} {r : List LoopEntry} (he : w.loops = e :: r)
    (ends : e.endsIn c.pc c.nextPc = true) : (w.stepped c issue).at_ l = if c.lanes.getLsbD l = true then
      (c.nextPc, if e.inBody.getLsbD l = true then .held else .candidate) else w.at_ l := by
  rw [Warp.stepped, Warp.at_ageBy _ _ _ (by rw [Warp.finishAt_length]; exact hl)]
  exact Warp.at_finishAt_of_ends (w := w.counted c issue) hu he ends hl

end Stepped

theorem LoopEntry.endsIn_iff (e : LoopEntry) (pc next : Xword) :
    e.endsIn pc next = true ↔ pc.toNat ≤ e.stop.toNat ∧ e.stop.toNat < next.toNat := by simp [LoopEntry.endsIn]

/-! ### The completion -/

section Completion
variable {w : Warp} {c : Cur} {issue : Nat}

/-- In a handler only the PCs move (R248). -/
theorem Warp.finishAt_handler {w : Warp} (hw : w.priv = true) (done : LaneSet) (pc next : Xword) :
    w.finishAt done pc next = w.onLanes done fun l => { l with pc := next } := by
  unfold Warp.finishAt Warp.waitAtEnd
  simp only [hw, if_true]
  split
  · rfl
  · exact if_neg (by simp [Warp.onLanes, hw])

theorem Warp.complete_handler (hp : c.priv = true) (hw : w.priv = true) (hr : c.inRep = false) :
    (w.complete c false issue).loops = w.loops ∧ ∀ l, l < w.lanes.length → (w.complete c false issue).at_ l =
      (if c.lanes.getLsbD l = true then c.nextPc else (w.lane l).pc, (w.lane l).stat) := by
  have moves : w.complete c false issue = (w.counted c issue).onLanes c.lanes fun l => { l with pc := c.nextPc } := by
    rw [Warp.complete_eq, if_pos hp, Warp.placed, if_neg (by decide), if_neg (by simp [hr])]
    exact Warp.finishAt_handler (w := w.counted c issue) hw _ _ _
  rw [moves]
  refine ⟨rfl, fun l hl => ?_⟩
  have lane := Warp.lane_onLanes (w.counted c issue) c.lanes (fun l => { l with pc := c.nextPc }) l hl
  rw [Warp.at_, lane]
  split <;> rfl

variable (hp : c.priv = false) (hu : w.priv = false) (hr : c.inRep = false)
include hp hu hr

theorem Warp.complete_of_nil (hn : w.loops = []) : (w.complete c false issue).loops = [] ∧ ∀ l, l < w.lanes.length →
    (w.complete c false issue).at_ l = if c.lanes.getLsbD l = true then (c.nextPc, .candidate) else w.at_ l := by
  have none := (w.loops_stepped c issue).trans hn
  rw [Warp.complete_user hp hr, loopTest_of_nil none]
  exact ⟨none, fun l hl => Warp.at_stepped hu issue hl (by simp [hn])⟩

variable {e : LoopEntry} {r : List LoopEntry} (he : w.loops = e :: r)
include he

theorem Warp.complete_of_not_ends (hn : e.endsIn c.pc c.nextPc = false) (some : c.lanes &&& e.inBody ≠ 0) :
    (w.complete c false issue).loops = w.loops ∧ ∀ l, l < w.lanes.length →
      (w.complete c false issue).at_ l = if c.lanes.getLsbD l = true then (c.nextPc, .candidate) else w.at_ l := by
  have at_ : ∀ l, l < w.lanes.length → (w.stepped c issue).at_ l =
      if c.lanes.getLsbD l = true then (c.nextPc, .candidate) else w.at_ l :=
    fun l hl => Warp.at_stepped hu issue hl fun f q hf => by cases he.symm.trans hf; exact hn
  obtain ⟨j, hb, ran⟩ : ∃ j, e.inBody.getLsbD j = true ∧ c.lanes.getLsbD j = true :=
    not_not.1 fun h => some (and_eq_zero_iff.2 h)
  have stays : loopTest 5 (w.stepped c issue) = w.stepped c issue := by
    refine loopTest_of_awaiting ((w.loops_stepped c issue).trans he) (BitVec.lt_of_getLsbD hb) hb (fun h => ?_) 5
    have goes := congrArg Prod.snd (at_ j (w.stepped_length c issue ▸ h.1))
    rw [if_pos ran] at goes
    exact LaneStat.noConfusion (goes.symm.trans h.2)
  rw [Warp.complete_user hp hr, stays]
  exact ⟨w.loops_stepped c issue, at_⟩

variable (ends : e.endsIn c.pc c.nextPc = true)
include ends

theorem Warp.complete_of_awaiting {j : Nat} (h64 : j < 64) (hb : e.inBody.getLsbD j = true)
    (hj : ¬c.lanes.getLsbD j = true) (hs : (w.lane j).stat ≠ .held) :
    (w.complete c false issue).loops = w.loops ∧ ∀ l, l < w.lanes.length → (w.complete c false issue).at_ l =
      if c.lanes.getLsbD l = true then (c.nextPc, if e.inBody.getLsbD l = true then .held else .candidate) else w.at_ l := by
  have stays : loopTest 5 (w.stepped c issue) = w.stepped c issue := by
    refine loopTest_of_awaiting ((w.loops_stepped c issue).trans he) h64 hb (fun h => ?_) 5
    have same := congrArg Prod.snd (Warp.at_stepped_of_ends hu issue (w.stepped_length c issue ▸ h.1) he ends)
    rw [if_neg hj] at same
    exact hs (same.symm.trans h.2)
  rw [Warp.complete_user hp hr, stays]
  exact ⟨w.loops_stepped c issue, fun l hl => Warp.at_stepped_of_ends hu issue hl he ends⟩

omit hp hr in
/-- All of the body waits once the lanes that ran do. -/
theorem Warp.allHeld_stepped (all : ∀ j, j < 64 → e.inBody.getLsbD j = true →
      j < w.lanes.length ∧ (c.lanes.getLsbD j = true ∨ (w.lane j).stat = .held)) (l : Nat) (h64 : l < 64)
    (hb : e.inBody.getLsbD l = true) :
    l < (w.stepped c issue).lanes.length ∧ ((w.stepped c issue).lane l).stat = .held := by
  obtain ⟨hl, held⟩ := all l h64 hb
  refine ⟨(w.stepped_length c issue).symm ▸ hl, ?_⟩
  refine (congrArg Prod.snd (Warp.at_stepped_of_ends hu issue hl he ends)).trans ?_
  split
  · simp
  next hn => exact held.resolve_left hn

variable (nonempty : e.inBody ≠ 0) (all : ∀ j, j < 64 → e.inBody.getLsbD j = true →
  j < w.lanes.length ∧ (c.lanes.getLsbD j = true ∨ (w.lane j).stat = .held))
include nonempty all

theorem Warp.complete_again (hc : e.count ≠ 1) :
    (w.complete c false issue).loops = { e with count := e.count - 1 } :: r ∧ ∀ l, l < w.lanes.length →
      (w.complete c false issue).at_ l = if e.inBody.getLsbD l = true then (e.start, .candidate)
        else if c.lanes.getLsbD l = true then (c.nextPc, .candidate) else w.at_ l := by
  rw [Warp.complete_user hp hr, loopTest_again ((w.loops_stepped c issue).trans he) nonempty
    (Warp.allHeld_stepped hu he ends all) hc]
  refine ⟨rfl, fun l hl => ?_⟩
  rw [Warp.at_, Warp.lane_onLanes _ _ _ _ ((w.stepped_length c issue).symm ▸ hl)]
  by_cases hb : e.inBody.getLsbD l = true
  · rw [if_pos hb, if_pos hb]
  · rw [if_neg hb, if_neg hb]
    refine (Warp.at_stepped_of_ends hu issue hl he ends).trans ?_
    rw [if_neg hb]

theorem Warp.complete_last (hc : e.count = 1) (below : ∀ f q, r = f :: q → f.stop ≠ e.stop ∧ f.inBody &&& e.inBody ≠ 0) :
    (w.complete c false issue).loops = r ∧ ∀ l, l < w.lanes.length → l < 64 → (w.complete c false issue).at_ l =
      if e.inBody.getLsbD l = true then (if c.lanes.getLsbD l = true then c.nextPc else (w.lane l).pc, .candidate)
      else if c.lanes.getLsbD l = true then (c.nextPc, .candidate)
      else if e.held.getLsbD l = true ∧ (w.lane l).stat = .held then ((w.lane l).pc, .candidate) else w.at_ l := by
  have held := Warp.allHeld_stepped (issue := issue) hu he ends all
  obtain ⟨loops, at_⟩ := loopTest_pops ((w.loops_stepped c issue).trans he) nonempty held hc below 4
  rw [Warp.complete_user hp hr]
  refine ⟨loops, fun l hl h64 => ?_⟩
  have stands := Warp.at_stepped_of_ends hu issue hl he ends
  have pc := congrArg Prod.fst stands
  have stat := congrArg Prod.snd stands
  simp only [Warp.at_] at pc stat
  rw [at_ l ((w.stepped_length c issue).symm ▸ hl), BitVec.getLsbD_or]
  by_cases hb : e.inBody.getLsbD l = true
  · rw [if_pos ⟨by rw [hb, Bool.true_or], (held l h64 hb).2⟩, if_pos hb, pc]
    split <;> rfl
  · rw [stands, stat, pc]
    by_cases ran : c.lanes.getLsbD l = true
    · simp [hb, ran]
    · simp [hb, ran, Warp.at_]

end Completion

/-- What completing makes of the machine: the warp completed, or in its handler with JOIN kind 2 where it can never move. -/
theorem State.complete_cases {s : State} {c : Cur} {w : Warp} (moved : Bool) (h : s.warp c.warp = some w)
    (hv : (s.ctx w.ctxK).trapvec ≠ 0) :
    let t := s.complete c moved
    t = { s with cur := none, issues := s.issues + 1, warps := t.warps } ∧ (∀ k, k ≠ c.warp → t.warp k = s.warp k) ∧
      ∃ u, t.warp c.warp = some u ∧ (u = w.complete c moved (s.issues + 1) ∨ ∃ j lanes vec, w.priv = false ∧
        u = (w.complete c moved (s.issues + 1)).deadlocked j lanes vec) := by
  have shape := w.complete_shape c moved (s.issues + 1)
  have key : (w.complete c moved (s.issues + 1)).ctxK = w.ctxK := by rw [shape]; rfl
  have priv : (w.complete c moved (s.issues + 1)).priv = w.priv := by rw [shape]
  have warp : ({ s with cur := none, issues := s.issues + 1 } : State).warp c.warp = some w := h
  unfold State.complete
  simp only
  rw [State.onWarp_some _ warp]
  rcases checkDeadlock_cases (State.warp_setWarp_same ({ s with cur := none, issues := s.issues + 1 } : State) c.warp
    (w.complete c moved (s.issues + 1))) (by rw [key]; exact hv) with stays | ⟨j, lanes, user, traps⟩
  · rw [stays]
    exact ⟨rfl, fun k hk => State.warp_setWarp_ne _ _ hk, _, State.warp_setWarp_same _ _ _, Or.inl rfl⟩
  · rw [traps]
    refine ⟨rfl, fun k hk => ?_, _, State.warp_setWarp_same _ _ _, Or.inr ⟨j, lanes, _, priv ▸ user, rfl⟩⟩
    rw [State.warp_setWarp_ne _ _ hk, State.warp_setWarp_ne _ _ hk, State.warp_setWarp_ne _ _ hk]
    rfl

/-- Where the lanes of the warp stand when no trap has been taken: by its mode, the top entry, and whether that ends here. -/
theorem Warp.complete_lanes {w : Warp} {c : Cur} {issue : Nat} (mode : c.priv = w.priv) (hr : c.inRep = false) :
    let u := w.complete c false issue
    let ran (l : Nat) := c.lanes.getLsbD l = true
    let every (p : Nat → Xword × LaneStat) := ∀ l, l < w.lanes.length → l < 64 → ((u.lane l).pc, (u.lane l).stat) = p l
    let pc (l : Nat) := if ran l then c.nextPc else (w.lane l).pc
    let after (l : Nat) := (pc l, if ran l then .candidate else (w.lane l).stat)
    (w.priv = true → u.loops = w.loops ∧ every fun l => (pc l, (w.lane l).stat)) ∧
    (w.priv = false → w.loops = [] → u.loops = [] ∧ every after) ∧
    ∀ e r, w.priv = false → w.loops = e :: r →
      let inside (l : Nat) := e.inBody.getLsbD l = true
      let ends := c.pc.toNat ≤ e.stop.toNat ∧ e.stop.toNat < c.nextPc.toNat
      let all := e.inBody ≠ 0 ∧ ∀ j, j < 64 → inside j → j < w.lanes.length ∧ (ran j ∨ (w.lane j).stat = .held)
      (¬ends → c.lanes &&& e.inBody ≠ 0 → u.loops = w.loops ∧ every after) ∧
      (ends → (∃ j, j < 64 ∧ inside j ∧ ¬ran j ∧ (w.lane j).stat ≠ .held) → u.loops = w.loops ∧
        every fun l => if ran l ∧ inside l then (c.nextPc, .held) else after l) ∧
      (ends → all → e.count ≠ 1 → u.loops = { e with count := e.count - 1 } :: r ∧
        every fun l => if inside l then (e.start, .candidate) else after l) ∧
      (ends → all → e.count = 1 → r = [] ∨ (∃ f q, r = f :: q ∧ f.stop ≠ e.stop ∧ f.inBody &&& e.inBody ≠ 0) → u.loops = r ∧
        every fun l => if inside l then (pc l, .candidate)
          else if e.held.getLsbD l = true ∧ (w.lane l).stat = .held then (pc l, .candidate) else after l) := by
  intro u ran every pc after
  have after_eq : ∀ l, after l = if c.lanes.getLsbD l = true then (c.nextPc, .candidate) else w.at_ l := by
    intro l
    simp only [after, pc, ran, Warp.at_]
    split <;> rfl
  refine ⟨fun hw => ?_, fun hu hn => ?_, fun e r hu he => ?_⟩
  · obtain ⟨loops, at_⟩ := Warp.complete_handler (issue := issue) (mode.trans hw) hw hr
    exact ⟨loops, fun l hl _ => at_ l hl⟩
  · obtain ⟨loops, at_⟩ := Warp.complete_of_nil (issue := issue) (mode.trans hu) hu hr hn
    exact ⟨loops, fun l hl _ => (at_ l hl).trans (after_eq l).symm⟩
  · intro inside ends all
    have hp := mode.trans hu
    refine ⟨fun hn some => ?_, ?_, fun h1 h2 hc => ?_, fun h1 h2 hc below => ?_⟩
    · obtain ⟨loops, at_⟩ := Warp.complete_of_not_ends (issue := issue) hp hu hr he
        (Bool.eq_false_iff.2 fun h => hn ((e.endsIn_iff _ _).1 h)) some
      exact ⟨loops, fun l hl _ => (at_ l hl).trans (after_eq l).symm⟩
    · rintro h1 ⟨j, h64, hb, hj, hs⟩
      obtain ⟨loops, at_⟩ := Warp.complete_of_awaiting (issue := issue) hp hu hr he ((e.endsIn_iff _ _).2 h1) h64 hb hj hs
      refine ⟨loops, fun l hl _ => (at_ l hl).trans ?_⟩
      simp only [after_eq, ran, inside]
      split_ifs <;> simp_all
    · obtain ⟨loops, at_⟩ := Warp.complete_again (issue := issue) hp hu hr he ((e.endsIn_iff _ _).2 h1) h2.1 h2.2 hc
      refine ⟨loops, fun l hl _ => (at_ l hl).trans ?_⟩
      simp only [after_eq, inside]
    · have below' : ∀ f q, r = f :: q → f.stop ≠ e.stop ∧ f.inBody &&& e.inBody ≠ 0 := by
        rintro f q rfl
        obtain h0 | ⟨f', q', hf, hstop, hbody⟩ := below
        · exact absurd h0 (by simp)
        · cases hf
          exact ⟨hstop, hbody⟩
      obtain ⟨loops, at_⟩ := Warp.complete_last (issue := issue) hp hu hr he ((e.endsIn_iff _ _).2 h1) h2.1 h2.2 hc below'
      refine ⟨loops, fun l hl h64 => (at_ l hl h64).trans ?_⟩
      simp only [after_eq, inside, pc, ran]
      split_ifs <;> rfl

/-- Settles O55: the frame by whether the warp can move again, its lanes by the mode, the top entry and where it ends. -/
theorem completionFrame : Obligations.CompletionFrame := by
  unfold Obligations.CompletionFrame
  intro s c w moved h hv t
  obtain ⟨frame, others, u, hu, cases⟩ := State.complete_cases moved h hv
  have shape := w.complete_shape c moved (s.issues + 1)
  have length := w.complete_length c moved (s.issues + 1)
  have rep : (c.inRep = false → (w.complete c moved (s.issues + 1)).rep = w.rep) ∧ (c.inRep = true → moved = false →
      (w.complete c moved (s.issues + 1)).rep =
        if w.rep.done < w.rep.cnt then { w.rep with done := w.rep.done + 1 } else RepState.idle) := by
    rw [shape]
    refine ⟨fun hr => Warp.rep_placed_of_not_inRep hr _ _, ?_⟩
    rintro hr rfl
    exact Warp.rep_placed_of_inRep hr _
  have bsync : (w.complete c moved (s.issues + 1)).bsync = if c.priv = true then w.bsync else none := by rw [shape]
  refine ⟨frame, others, u, hu, ?_⟩
  rcases cases with rfl | ⟨j, lanes, vec, user, rfl⟩
  · refine ⟨?_, Or.inl ?_, rep.1, rep.2, bsync, fun l hl h64 => w.age_complete c moved _ hl h64, ?_⟩
    · rw [shape]
    · rw [shape]
      exact ⟨rfl, rfl, rfl, rfl, rfl, rfl, rfl, rfl⟩
    · rintro mode - rfl hr
      exact Warp.complete_lanes mode hr
  · obtain ⟨priv, cause, info⟩ := Warp.deadlocked_trap (w.complete c moved (s.issues + 1)) j lanes vec
    obtain ⟨L, M, p, i, e, trap⟩ := Warp.deadlocked_shape (w.complete c moved (s.issues + 1)) j lanes vec
    refine ⟨?_, Or.inr ⟨user, priv, cause, info⟩, ?_, ?_, ?_, fun l hl h64 => ?_, fun _ same => ?_⟩
    · obtain ⟨L, l, r, b, hw⟩ : ∃ L l r b, w.complete c moved (s.issues + 1) =
        { w with lanes := L, loops := l, rep := r, bsync := b, lastIssue := s.issues + 1 } := ⟨_, _, _, _, shape⟩
      rw [trap, hw]
    · rw [trap]; exact rep.1
    · rw [trap]; exact rep.2
    · rw [trap]; exact bsync
    · exact ((Warp.sameAges_deadlocked _ j lanes vec).2 l (length.symm ▸ hl)).trans (w.age_complete c moved _ hl h64)
    · exact Bool.noConfusion ((priv.symm.trans same).trans user)

end Sys2Proof.Machine
end

section
/-!
PROOFS. Lanes that end (R22, R346, R238): they leave every mask and every loop body, and the tests that follow bring none back.
-/

namespace Sys2Proof.Machine
open Sys2Proof

/-! ### Lanes that live -/

/-- Another state of a warp in which no more lanes have exited, and as many are triggered. -/
def Warp.KeepsLife (w u : Warp) : Prop := u.lanes.length = w.lanes.length ∧ ∀ l, l < w.lanes.length →
  ((w.lane l).stat ≠ .exited → (u.lane l).stat ≠ .exited) ∧ (u.lane l).triggered = (w.lane l).triggered

theorem Warp.KeepsLife.refl (w : Warp) : w.KeepsLife w := ⟨rfl, fun _ _ => ⟨id, rfl⟩⟩

theorem Warp.KeepsLife.trans {w u v : Warp} (h : w.KeepsLife u) (h' : u.KeepsLife v) : w.KeepsLife v :=
  ⟨h'.1.trans h.1, fun l hl => ⟨fun x => (h'.2 l (h.1 ▸ hl)).1 ((h.2 l hl).1 x),
    ((h'.2 l (h.1 ▸ hl)).2).trans (h.2 l hl).2⟩⟩

theorem Warp.keepsLife_of_lanes {w u : Warp} (h : u.lanes = w.lanes) : w.KeepsLife u :=
  ⟨by rw [h], fun l _ => by rw [show u.lane l = w.lane l by rw [Warp.lane, h]; rfl]; exact ⟨id, rfl⟩⟩

theorem Warp.keepsLife_onLanes (w : Warp) (s : LaneSet) {f : Lane → Lane}
    (hf : ∀ x, (x.stat ≠ .exited → (f x).stat ≠ .exited) ∧ (f x).triggered = x.triggered) : w.KeepsLife (w.onLanes s f) := by
  refine ⟨w.onLanes_length s f, fun l hl => ?_⟩
  rw [Warp.lane_onLanes _ _ _ _ hl]
  split
  · exact hf _
  · exact ⟨id, rfl⟩

theorem Warp.keepsLife_release (w : Warp) (s : LaneSet) : w.KeepsLife (w.release s) :=
  w.keepsLife_onLanes s fun x => by split <;> simp

theorem Warp.keepsLife_hold (w : Warp) (s : LaneSet) : w.KeepsLife (w.hold s) :=
  w.keepsLife_onLanes s fun x => by split <;> simp

theorem Warp.keepsLife_waitAtEnd (w : Warp) (done : LaneSet) (pc next : Xword) : w.KeepsLife (w.waitAtEnd done pc next) := by
  unfold Warp.waitAtEnd
  split
  · exact .refl w
  · split
    · exact w.keepsLife_onLanes _ fun x => by split <;> simp
    · exact .refl w

theorem Warp.keepsLife_finishAt {w : Warp} (hu : w.priv = false) (done : LaneSet) (pc next : Xword) :
    w.KeepsLife (w.finishAt done pc next) := by
  have placed := w.keepsLife_onLanes done
    (f := fun l => { l with pc := next, stat := if w.priv then l.stat else .candidate }) fun _ => by simp [hu]
  exact placed.trans (Warp.keepsLife_waitAtEnd _ _ _ _)

/-! ### Lanes that have left -/

/-- A set of lanes has ended: its lanes stay exited, and no mask and no loop entry names them. The entries left are those of
`w₀` without the set. -/
structure Warp.Left (w₀ : Warp) (gone : LaneSet) (u : Warp) : Prop where
  exited : ∀ l, l < u.lanes.length → gone.getLsbD l = true → (u.lane l).stat = .exited
  masks : ∀ j, (u.mask j).enrolled &&& gone = 0 ∧ (u.mask j).arrived &&& gone = 0
  loops : ∀ e ∈ u.loops, ∃ f ∈ w₀.loops, e.start = f.start ∧ e.stop = f.stop ∧ e.inBody = f.inBody &&& ~~~gone ∧
    e.held = f.held &&& ~~~gone

theorem getLsbD_of_and_eq_zero {a b : LaneSet} (h : a &&& b = 0) {l : Nat} (hb : b.getLsbD l = true) : a.getLsbD l = false := by
  have := congrArg (·.getLsbD l) h
  simpa [BitVec.getLsbD_and, hb] using this

section Left
variable {w₀ u : Warp} {gone : LaneSet}

/-- A change of lanes none of which has ended, or that changes no lane that has. -/
theorem Warp.Left.onLanes (h : w₀.Left gone u) {s : LaneSet} {f : Lane → Lane}
    (hf : s &&& gone = 0 ∨ ∀ x, x.stat = .exited → (f x).stat = .exited) : w₀.Left gone (u.onLanes s f) := by
  refine ⟨fun l hl hg => ?_, h.masks, h.loops⟩
  have hl' : l < u.lanes.length := by simpa using hl
  rw [Warp.lane_onLanes _ _ _ _ hl']
  split
  next hs =>
    rcases hf with hf | hf
    · rw [getLsbD_of_and_eq_zero hf hg] at hs
      exact Bool.noConfusion hs
    · exact hf _ (h.exited l hl' hg)
  · exact h.exited l hl' hg

theorem Warp.Left.release (h : w₀.Left gone u) (s : LaneSet) : w₀.Left gone (u.release s) :=
  h.onLanes (Or.inr fun x hx => by simp [hx])

theorem Warp.Left.hold (h : w₀.Left gone u) (s : LaneSet) : w₀.Left gone (u.hold s) :=
  h.onLanes (Or.inr fun x hx => by simp [hx])

theorem Warp.Left.waitAtEnd (h : w₀.Left gone u) (done : LaneSet) (pc next : Xword) : w₀.Left gone (u.waitAtEnd done pc next) := by
  unfold Warp.waitAtEnd
  split
  · exact h
  · split
    · exact h.onLanes (Or.inr fun x hx => by simp [hx])
    · exact h

theorem Warp.Left.finishAt (h : w₀.Left gone u) {done : LaneSet} (hd : done &&& gone = 0) (pc next : Xword) :
    w₀.Left gone (u.finishAt done pc next) := (h.onLanes (Or.inl hd)).waitAtEnd _ _ _

/-- Other entries on the loop stack that are so named. -/
theorem Warp.Left.setLoops (h : w₀.Left gone u) {l : List LoopEntry} (hl : ∀ e ∈ l, ∃ f ∈ u.loops, e.start = f.start ∧
    e.stop = f.stop ∧ e.inBody = f.inBody ∧ e.held = f.held) : w₀.Left gone { u with loops := l } := by
  refine ⟨h.exited, h.masks, fun e he => ?_⟩
  obtain ⟨f, hf, h1, h2, h3, h4⟩ := hl e he
  obtain ⟨g, hg, k1, k2, k3, k4⟩ := h.loops f hf
  exact ⟨g, hg, h1.trans k1, h2.trans k2, h3.trans k3, h4.trans k4⟩

theorem Warp.Left.setMask (h : w₀.Left gone u) (j : JMask) {m : RejoinMask} (hm : m.enrolled &&& gone = 0 ∧ m.arrived &&& gone = 0) :
    w₀.Left gone (u.setMask j m) := by
  refine ⟨h.exited, fun k => ?_, h.loops⟩
  rw [Warp.mask_setMask]
  split
  · exact hm
  · exact h.masks k

theorem Warp.Left.maskTest (h : w₀.Left gone u) (j : JMask) : w₀.Left gone (u.maskTest j) := by
  by_cases awaits : (u.mask j).enrolled = 0 ∨ (u.mask j).arrived ≠ (u.mask j).enrolled
  · rw [Warp.maskTest_of_awaiting awaits]
    exact h
  · rw [not_or, not_not] at awaits
    rw [Warp.maskTest_of_arrived awaits.1 awaits.2]
    exact (h.setMask j (by simp)).finishAt (h.masks j).2 _ _

/-- The lanes of a body have not ended. -/
theorem Warp.Left.inBody (h : w₀.Left gone u) {e : LoopEntry} (he : e ∈ u.loops) : e.inBody &&& gone = 0 := by
  obtain ⟨f, -, -, -, hb, -⟩ := h.loops e he
  rw [hb, and_eq_zero_iff]
  rintro ⟨j, hg, hx⟩
  simp [BitVec.getLsbD_and, hg] at hx

theorem Warp.Left.loopTest (h : w₀.Left gone u) (fuel : Nat) : w₀.Left gone (loopTest fuel u) := by
  induction fuel generalizing u with
  | zero => exact h
  | succ fuel ih =>
    unfold Machine.loopTest
    split
    · exact h
    next e r hl =>
      have popped : w₀.Left gone { u with loops := r } :=
        h.setLoops fun f hf => ⟨f, by rw [hl]; exact List.mem_cons_of_mem _ hf, rfl, rfl, rfl, rfl⟩
      split
      · exact ih (popped.release _)
      · split
        · split
          · exact ih ((popped.release _).hold _)
          · refine Warp.Left.onLanes (h.setLoops fun f hf => ?_) (Or.inl (h.inBody (by simp [hl])))
            rcases List.mem_cons.1 hf with rfl | hf
            · exact ⟨e, by simp [hl], rfl, rfl, rfl, rfl⟩
            · exact ⟨f, by rw [hl]; exact List.mem_cons_of_mem _ hf, rfl, rfl, rfl, rfl⟩
        · exact h

end Left

/-! ### The end of lanes -/

/-- A mask's test moves lanes and frees the mask. -/
theorem Warp.maskTest_shape (w : Warp) (j : JMask) :
    w.maskTest j = { w with lanes := (w.maskTest j).lanes, masks := (w.maskTest j).masks } := by
  by_cases awaits : (w.mask j).enrolled = 0 ∨ (w.mask j).arrived ≠ (w.mask j).enrolled
  · rw [Warp.maskTest_of_awaiting awaits]
  · rw [not_or, not_not] at awaits
    rw [Warp.maskTest_of_arrived awaits.1 awaits.2, Warp.finishAt_shape]
    rfl

theorem Warp.keepsLife_maskTest {w : Warp} (hu : w.priv = false) (j : JMask) : w.KeepsLife (w.maskTest j) := by
  by_cases awaits : (w.mask j).enrolled = 0 ∨ (w.mask j).arrived ≠ (w.mask j).enrolled
  · rw [Warp.maskTest_of_awaiting awaits]
    exact .refl w
  · rw [not_or, not_not] at awaits
    rw [Warp.maskTest_of_arrived awaits.1 awaits.2]
    exact (Warp.keepsLife_of_lanes (u := w.setMask j _) rfl).trans
      (Warp.keepsLife_finishAt (w := w.setMask j _) hu _ _ _)

theorem keepsLife_loopTest (fuel : Nat) (w : Warp) : w.KeepsLife (loopTest fuel w) := by
  induction fuel generalizing w with
  | zero => exact .refl w
  | succ fuel ih =>
    unfold loopTest
    split
    · exact .refl w
    · split
      · exact ((Warp.keepsLife_of_lanes rfl).trans (Warp.keepsLife_release _ _)).trans (ih _)
      · split
        · split
          · exact (((Warp.keepsLife_of_lanes rfl).trans (Warp.keepsLife_release _ _)).trans (Warp.keepsLife_hold _ _)).trans
              (ih _)
          · exact (Warp.keepsLife_of_lanes rfl).trans (Warp.keepsLife_onLanes _ _ fun _ => by simp)
        · exact .refl w

/-- What the tests of a list of masks keep: registers, the lanes that live, and those that have left. -/
theorem foldl_maskTest (l : List JMask) {w : Warp} (hu : w.priv = false) :
    (∃ L M, l.foldl Warp.maskTest w = { w with lanes := L, masks := M }) ∧ w.KeepsLife (l.foldl Warp.maskTest w) ∧
      ∀ w₀ gone, Warp.Left w₀ gone w → Warp.Left w₀ gone (l.foldl Warp.maskTest w) := by
  induction l generalizing w with
  | nil => exact ⟨⟨_, _, rfl⟩, .refl w, fun _ _ h => h⟩
  | cons j r ih =>
    have priv : (w.maskTest j).priv = false := by rw [Warp.maskTest_shape]; exact hu
    obtain ⟨⟨L, M, shape⟩, life, left⟩ := ih priv
    refine ⟨⟨L, M, ?_⟩, (Warp.keepsLife_maskTest hu j).trans life, fun w₀ gone h => left w₀ gone (h.maskTest j)⟩
    rw [List.foldl_cons, shape, Warp.maskTest_shape]

/-- Lanes that strike leave masks alone. -/
theorem mask_foldl_strikeFrom (l : List JMask) (w : Warp) (lanes : LaneSet) (k : JMask) :
    (∃ M, l.foldl (fun w j => w.strikeFrom lanes j) w = { w with masks := M }) ∧
      (k ∈ l → ((l.foldl (fun w j => w.strikeFrom lanes j) w).mask k).enrolled &&& lanes = 0 ∧
        ((l.foldl (fun w j => w.strikeFrom lanes j) w).mask k).arrived &&& lanes = 0) := by
  have struck : ∀ a : LaneSet, a &&& ~~~lanes &&& lanes = 0 := fun a =>
    and_eq_zero_iff.2 fun ⟨j, hg, hx⟩ => by simp [BitVec.getLsbD_and, hg] at hx
  have stays : ∀ (l : List JMask) (w : Warp), (w.mask k).enrolled &&& lanes = 0 ∧ (w.mask k).arrived &&& lanes = 0 →
      ((l.foldl (fun w j => w.strikeFrom lanes j) w).mask k).enrolled &&& lanes = 0 ∧
        ((l.foldl (fun w j => w.strikeFrom lanes j) w).mask k).arrived &&& lanes = 0 := by
    intro l
    induction l with
    | nil => exact fun w h => h
    | cons j r ih =>
      refine fun w h => ih _ ?_
      simp only [Warp.strikeFrom, Warp.mask_setMask]
      split
      · exact ⟨struck _, struck _⟩
      · exact h
  induction l generalizing w with
  | nil => exact ⟨⟨_, rfl⟩, fun h => absurd h (by simp)⟩
  | cons j r ih =>
    obtain ⟨⟨M, shape⟩, rest⟩ := ih (w.strikeFrom lanes j)
    refine ⟨⟨M, shape.trans rfl⟩, fun hk => ?_⟩
    by_cases hj : k = j
    · subst hj
      exact stays r _ (by rw [Warp.mask_strikeFrom]; exact ⟨struck _, struck _⟩)
    · exact rest ((List.mem_cons.1 hk).resolve_left hj)

/-- The lanes of a set exited, out of every mask and every entry, before the tests (R22, R27). -/
def Warp.departed (w : Warp) (lanes : LaneSet) : Warp :=
  let u := allMasks.foldl (fun w j => w.strikeFrom lanes j) (w.onLanes lanes fun l => { l with stat := .exited })
  { u with loops := u.loops.map fun e => { e with inBody := e.inBody &&& ~~~lanes, held := e.held &&& ~~~lanes } }

theorem mem_allMasks (j : JMask) : j ∈ allMasks := by
  revert j
  decide

theorem Warp.departed_shape (w : Warp) (lanes : LaneSet) : ∃ M, w.departed lanes =
    { w with lanes := (w.onLanes lanes fun l => { l with stat := .exited }).lanes, masks := M,
             loops := w.loops.map fun e => { e with inBody := e.inBody &&& ~~~lanes, held := e.held &&& ~~~lanes } } := by
  obtain ⟨⟨M, shape⟩, -⟩ := mask_foldl_strikeFrom allMasks (w.onLanes lanes fun l => { l with stat := .exited }) lanes 0
  exact ⟨M, by rw [Warp.departed, shape]; rfl⟩

theorem Warp.left_departed (w : Warp) (lanes : LaneSet) : w.Left lanes (w.departed lanes) := by
  obtain ⟨M, shape⟩ := w.departed_shape lanes
  have masks : ∀ j, ((w.departed lanes).mask j).enrolled &&& lanes = 0 ∧ ((w.departed lanes).mask j).arrived &&& lanes = 0 :=
    fun j => (mask_foldl_strikeFrom allMasks (w.onLanes lanes fun l => { l with stat := .exited }) lanes j).2 (mem_allMasks j)
  refine ⟨fun l hl hg => ?_, masks, fun e he => ?_⟩
  · rw [shape] at hl ⊢
    have hl' : l < w.lanes.length := by simpa using hl
    show ((w.onLanes lanes fun l => { l with stat := .exited }).lane l).stat = _
    rw [Warp.lane_onLanes _ _ _ _ hl', if_pos hg]
  · rw [shape] at he
    obtain ⟨f, hf, rfl⟩ := List.mem_map.1 he
    exact ⟨f, hf, rfl, rfl, rfl, rfl⟩

/-- Of a warp in user mode: the lanes that are left keep their registers, and the set has left (R22, R346). -/
theorem Warp.endLanes_user {w : Warp} (hu : w.priv = false) (lanes : LaneSet) :
    (∃ L M l r, w.endLanes lanes = { w with lanes := L, masks := M, loops := l, rep := r }) ∧
      w.Left lanes (w.endLanes lanes) ∧ (w.endLanes lanes).lanes.length = w.lanes.length ∧
      ∀ i, i < w.lanes.length → lanes.getLsbD i = false → ((w.lane i).stat ≠ .exited → ((w.endLanes lanes).lane i).stat ≠ .exited) ∧
        ((w.endLanes lanes).lane i).triggered = (w.lane i).triggered := by
  obtain ⟨M, shape⟩ := w.departed_shape lanes
  obtain ⟨rep, ended⟩ : ∃ rep, w.endLanes lanes = ({ w.departed lanes with rep := rep } : Warp).tests := by
    have user : (w.departed lanes).priv = false := by rw [shape]; exact hu
    show ∃ rep, (let u := if (w.departed lanes).rep.busy && (w.departed lanes).rep.lanes &&& ~~~lanes == 0
      then { w.departed lanes with rep := RepState.idle } else w.departed lanes; if u.priv then u else u.tests) = _
    simp only
    split
    · exact ⟨RepState.idle, if_neg (by simp [user])⟩
    · exact ⟨(w.departed lanes).rep, if_neg (by simp [user])⟩
  have user : ({ w.departed lanes with rep := rep } : Warp).priv = false := by rw [shape]; exact hu
  have left : w.Left lanes { w.departed lanes with rep := rep } := by
    obtain ⟨exited, masks, loops⟩ := w.left_departed lanes
    exact ⟨exited, masks, loops⟩
  obtain ⟨⟨L, M', tested⟩, life, kept⟩ := foldl_maskTest allMasks user
  have loop := loopTest_shape 5 (allMasks.foldl Warp.maskTest { w.departed lanes with rep := rep })
  have lives := life.trans (keepsLife_loopTest 5 _)
  have length : ({ w.departed lanes with rep := rep } : Warp).lanes.length = w.lanes.length := by
    rw [shape]; exact w.onLanes_length _ _
  rw [ended]
  refine ⟨?_, (kept w lanes left).loopTest 5, lives.1.trans length, fun i hi hg => ?_⟩
  · rw [Warp.tests, loop, tested, shape]
    exact ⟨_, _, _, _, rfl⟩
  · have same : ({ w.departed lanes with rep := rep } : Warp).lane i = w.lane i := by
      rw [shape]
      show (w.onLanes lanes fun l => { l with stat := .exited }).lane i = _
      rw [Warp.lane_onLanes _ _ _ _ hi, if_neg (by simp [hg])]
    have := lives.2 i (length.symm ▸ hi)
    rw [same] at this
    exact this

/-! ### A launch that is not triggered yet (R238) -/

/-- While a warp of a gang has a lane that lives and is not triggered, the launch is not, and nothing is written. -/
theorem checkGangTriggered_of_untriggered {s : State} {k : Nat} {w : Warp} (h : (k, w) ∈ s.warps)
    (hw : w.isTriggered = false) : s.checkGangTriggered w.gang = s := by
  unfold State.checkGangTriggered
  cases hg : mfind s.gangs w.gang with
  | none => rfl
  | some x =>
    have waits : s.untriggered x.launch = true := by
      have this : (s.warps.any fun e => s.gangOfLaunch e.2.gang x.launch && !e.2.isTriggered) = true := by
        rw [List.any_eq_true]
        exact ⟨(k, w), h, by simp [State.gangOfLaunch, hg, hw]⟩
      rw [State.untriggered, this, Bool.true_or]
    show s.checkTriggered x.launch = s
    unfold State.checkTriggered
    split
    · rfl
    · rw [if_neg fun hl => by rw [waits] at hl; exact Bool.noConfusion hl.2.2.2]

/-- A warp with a lane that lives and is not triggered. -/
theorem Warp.isTriggered_of_lane {w : Warp} {i : Nat} (hi : i < w.lanes.length) (hs : (w.lane i).stat ≠ .exited)
    (ht : (w.lane i).triggered = false) : w.isTriggered = false := by
  rw [Warp.isTriggered, List.all_eq_false]
  refine ⟨w.lane i, ?_, by simp [hs, ht]⟩
  rw [Warp.lane, List.getD_eq_getElem _ _ hi]
  exact List.getElem_mem hi

theorem Warp.live_ne_zero {w : Warp} {i : Nat} (hi : i < w.lanes.length) (h64 : i < 64) (hs : (w.lane i).stat ≠ .exited) :
    w.live ≠ 0 := by
  intro h
  have bit : w.live.getLsbD i = true := by
    rw [Warp.live, Warp.lanesThat, getLsbD_laneSet _ _ h64]
    simp [hi, hs]
  rw [h] at bit
  simp at bit

/-- Settles O36: the lanes that are left hold the launch back, so that the warp's end of lanes is all that happens. -/
theorem exitLanes : Obligations.ExitLanes := by
  unfold Obligations.ExitLanes
  intro s c w h
  refine ⟨s.endLanes c.warp w c.lanes, moves_uses h (free_nil w) rfl rfl, ?_⟩
  rintro ⟨i, hi, h64, hout, hstat, htrig⟩ hu
  obtain ⟨⟨L, M, l, r, shape⟩, left, length, lives⟩ := Warp.endLanes_user hu c.lanes
  obtain ⟨stat, triggered⟩ := lives i hi hout
  have hi' : i < (w.endLanes c.lanes).lanes.length := length.symm ▸ hi
  have priv : (w.endLanes c.lanes).priv = false := by rw [shape]; exact hu
  have settled : s.endLanes c.warp w c.lanes = s.setWarp c.warp (w.endLanes c.lanes) := by
    unfold State.endLanes
    simp only [priv, Bool.false_eq_true, false_and, if_false, if_neg (Warp.live_ne_zero hi' h64 (stat hstat))]
    exact checkGangTriggered_of_untriggered (mem_of_mfind (mfind_mput_same s.warps c.warp _))
      (Warp.isTriggered_of_lane hi' (stat hstat) (triggered.trans htrig))
  rw [settled]
  refine ⟨_, State.warp_setWarp_same _ _ _, by rw [shape], by rw [shape], by rw [shape], fun _ => rfl,
    fun l hl _ hg => left.exited l (length.symm ▸ hl) hg, left.masks, left.loops⟩

end Sys2Proof.Machine
end

section
/-!
PROOFS. Exceptions: taking one, returning from one (R245 to R249, R254, R208), and the checks that come before everything else
(R80, R248, R40).
-/

namespace Sys2Proof.Machine
open Sys2Proof

/-! ### A table written twice -/

theorem mput_mput {β : Type} (m : SMap β) (k : Nat) (x y : β) : mput (mput m k x) k y = mput m k y := by
  induction m with
  | nil => simp [mput]
  | cons e r ih =>
    by_cases h : e.1 < k
    · simp [mput, h, ih]
    · by_cases h' : e.1 = k <;> simp [mput, h, h']

theorem State.setWarp_setWarp (s : State) (k : Nat) (w u : Warp) : (s.setWarp k w).setWarp k u = s.setWarp k u := by
  simp only [State.setWarp, mput_mput]

/-! ### Entering a handler -/

theorem getLsbD_firstLanes_64 {l : Nat} (h : l < 64) : (firstLanes 64).getLsbD l = true := by
  unfold firstLanes
  rw [BitVec.getLsbD_ofNat, Nat.testBit_two_pow_sub_one]
  simp [h]

/-- R245: the group runs the handler, every other lane that has not exited is suspended. -/
theorem Warp.lane_enter (w : Warp) (lanes : LaneSet) (vec pc : Xword) (cause : Nat) (info : Xword) {l : Nat}
    (hl : l < w.lanes.length) (h64 : l < 64) : (w.enter lanes vec pc cause info).lane l =
      if lanes.getLsbD l = true then { w.lane l with suspended := false, pc := vec }
      else if (w.lane l).stat = .exited then w.lane l else { w.lane l with suspended := true } := by
  show ((w.onLanes (firstLanes 64) fun l => if l.stat = .exited then l else { l with suspended := true }).onLanes lanes
    fun l => { l with suspended := false, pc := vec }).lane l = _
  rw [Warp.lane_onLanes _ _ _ _ (by simpa using hl), Warp.lane_onLanes _ _ _ _ hl, if_pos (getLsbD_firstLanes_64 h64)]
  split
  · split <;> rfl
  · rfl

/-- The warp that a trap of user mode is taken from: ages have counted (R18), and lanes that completed the instruction stand
after it (R247). -/
theorem Warp.trapped_shape (w : Warp) (c : Cur) (next : Bool) (issue : Nat) :
    w.trapped c next issue = { w with lanes := (w.trapped c next issue).lanes, lastIssue := issue } := by
  obtain ⟨L, aged⟩ : ∃ L, (if c.inRep = true then ({ w with lastIssue := issue } : Warp)
      else ({ w with lastIssue := issue } : Warp).ageBy c.lanes c.cands) = { w with lanes := L, lastIssue := issue } := by
    split <;> exact ⟨_, rfl⟩
  unfold Warp.trapped
  simp only [aged]
  split
  · rfl
  · split
    · rw [Warp.finishAt_shape]
    · rfl

theorem Warp.trapped_length (w : Warp) (c : Cur) (next : Bool) (issue : Nat) :
    (w.trapped c next issue).lanes.length = w.lanes.length := by
  unfold Warp.trapped
  simp only
  split
  · rfl
  · cases next
    · simp only [Bool.false_eq_true, if_false]
      split
      · rfl
      · simp [Warp.ageBy]
    · simp only [if_true, Warp.finishAt_length]
      split
      · rfl
      · simp [Warp.ageBy]

/-- R18: a lane after the ages of an issue have counted. -/
theorem Warp.lane_ageBy (w : Warp) (ran cands : LaneSet) {l : Nat} (hl : l < w.lanes.length) (h64 : l < 64) :
    (w.ageBy ran cands).lane l = { w.lane l with
      age := if ran.getLsbD l = true then 0 else if cands.getLsbD l = true then min 64 ((w.lane l).age + 1)
        else (w.lane l).age } := by
  unfold Warp.ageBy
  rw [Warp.lane_onLanes _ _ _ _ (by simpa using hl), Warp.lane_onLanes_diff _ _ _ _ hl h64]
  split_ifs <;> simp_all

/-- The lanes of a warp that traps in user mode, where none waits at a loop's end. -/
theorem Warp.lane_trapped {w : Warp} {c : Cur} (hu : w.priv = false) (mode : c.priv = false) {next : Bool} (issue : Nat)
    (plain : next = false ∨ w.loops = []) {l : Nat} (hl : l < w.lanes.length) (h64 : l < 64) :
    (w.trapped c next issue).lane l = { w.lane l with
      age := if c.inRep = true then (w.lane l).age else if c.lanes.getLsbD l = true then 0
        else if c.cands.getLsbD l = true then min 64 ((w.lane l).age + 1) else (w.lane l).age
      pc := if next = true ∧ c.lanes.getLsbD l = true then c.nextPc else (w.lane l).pc
      stat := if next = true ∧ c.lanes.getLsbD l = true then .candidate else (w.lane l).stat } := by
  have aged : ∃ u : Warp, w.trapped c next issue = (if next then u.finishAt c.lanes c.pc c.nextPc else u) ∧ u.priv = false ∧
      u.loops = w.loops ∧ u.lanes.length = w.lanes.length ∧ u.lane l = { w.lane l with
        age := if c.inRep = true then (w.lane l).age else if c.lanes.getLsbD l = true then 0
          else if c.cands.getLsbD l = true then min 64 ((w.lane l).age + 1) else (w.lane l).age } := by
    have user : ¬c.priv = true := by simp [mode]
    have counted : ({ w with lastIssue := issue } : Warp).lane l = w.lane l := rfl
    by_cases hr : c.inRep = true
    · refine ⟨{ w with lastIssue := issue }, ?_, hu, rfl, rfl, ?_⟩
      · simp only [Warp.trapped, if_neg user, if_pos hr]
      · rw [if_pos hr, counted]
    · refine ⟨({ w with lastIssue := issue } : Warp).ageBy c.lanes c.cands, ?_, hu, rfl, by simp [Warp.ageBy], ?_⟩
      · simp only [Warp.trapped, if_neg user, if_neg hr]
      · rw [Warp.lane_ageBy _ _ _ (by exact hl) h64, counted, if_neg hr]
  obtain ⟨u, trapped, user, loops, length, lane⟩ := aged
  have hl' : l < u.lanes.length := length.symm ▸ hl
  rw [trapped]
  cases next with
  | false => simpa using lane
  | true =>
    have hn : u.loops = [] := loops.trans (plain.resolve_left (by decide))
    simp only [if_true, true_and]
    by_cases ran : c.lanes.getLsbD l = true
    · rw [Warp.lane_finishAt_of_loops_nil hn user hl' ran, lane]
      simp only [if_pos ran]
    · have stays : (u.finishAt c.lanes c.pc c.nextPc).lane l = u.lane l := by
        have none : (u.onLanes c.lanes fun l => { l with pc := c.nextPc, stat := if u.priv then l.stat else .candidate }).loops =
          [] := hn
        simp only [Warp.finishAt, Warp.waitAtEnd, none]
        rw [Warp.lane_onLanes _ _ _ _ hl', if_neg ran]
      rw [stays, lane]
      simp only [if_neg ran]

section Entry
variable {s : State} {c : Cur} {w : Warp} (h : Issues s c w) (next : Bool) (cause : Nat) (info : Xword)
include h

/-- A trap of user mode enters the handler (R245). -/
theorem trapped_enters (hu : w.priv = false) (hv : (s.ctx w.ctxK).trapvec ≠ 0) : s.trapped c next cause info =
    ({ s with cur := none, issues := s.issues + 1 } : State).setWarp c.warp ((w.trapped c next (s.issues + 1)).enter c.lanes
      (s.ctx w.ctxK).trapvec (if next then c.nextPc else c.trapPc) cause info) := by
  have warp : ({ s with cur := none, issues := s.issues + 1 } : State).warp c.warp = some w := h.warp
  have shape := w.trapped_shape c next (s.issues + 1)
  have key : (w.trapped c next (s.issues + 1)).ctxK = w.ctxK := by rw [shape]; rfl
  have user : (w.trapped c next (s.issues + 1)).priv = false := by rw [shape]; exact hu
  rw [State.trapped, State.trapAt, State.onWarp_some _ warp, takeTrap_enters (State.warp_setWarp_same _ _ _) user
    (by rw [key]; exact hv), State.setWarp_setWarp, key]
  rfl

/-- Without a trap vector it kills the context with reason 1 (R254). -/
theorem trapped_kills_user (hu : w.priv = false) (hv : (s.ctx w.ctxK).trapvec = 0) : s.trapped c next cause info =
    (({ s with cur := none, issues := s.issues + 1 } : State).setWarp c.warp (w.trapped c next (s.issues + 1))).kill
      w.die w.asid 1 { first := cause, second := 0, warp := w.killField, pc := if next then c.nextPc else c.trapPc,
                       info := info, loc := 0 } := by
  have warp : ({ s with cur := none, issues := s.issues + 1 } : State).warp c.warp = some w := h.warp
  rw [State.trapped, State.trapAt, State.onWarp_some _ warp, State.takeTrap, State.warp_setWarp_same, Warp.trapped_shape]
  have none : ((({ s with cur := none, issues := s.issues + 1 } : State).setWarp c.warp
    { w with lanes := (w.trapped c next (s.issues + 1)).lanes, lastIssue := s.issues + 1 }).ctx w.ctxK).trapvec = 0 := hv
  simp only [hu, Bool.false_eq_true, if_false]
  exact if_pos none

/-- In supervisor mode it kills the context with reason 2 (R254). -/
theorem trapped_kills_sup (hp : w.priv = true) : s.trapped c next cause info =
    (({ s with cur := none, issues := s.issues + 1 } : State).setWarp c.warp (w.trapped c next (s.issues + 1))).kill
      w.die w.asid 2 (let e := w.entered.getD { cause := 0, pc := 0, info := 0 }
        { first := e.cause, second := cause, warp := w.killField, pc := e.pc, info := e.info, loc := 0 }) := by
  have warp : ({ s with cur := none, issues := s.issues + 1 } : State).warp c.warp = some w := h.warp
  have shape := w.trapped_shape c next (s.issues + 1)
  have sup : (w.trapped c next (s.issues + 1)).priv = true := by rw [shape]; exact hp
  rw [State.trapped, State.trapAt, State.onWarp_some _ warp, takeTrap_kills (State.warp_setWarp_same _ _ _) sup]
  rw [shape]
  rfl

end Entry

/-- Settles O37: the trap by the mode and the trap vector, and the lanes as `trapped` and `enter` leave them. -/
theorem exceptionEntry : Obligations.ExceptionEntry := by
  unfold Obligations.ExceptionEntry
  intro s c w next cause info h mode
  refine ⟨fun hu hv => ⟨_, trapped_enters h next cause info hu hv, ?_, ?_, fun l hl h64 plain => ?_⟩,
    trapped_kills_user h next cause info, fun hp e he => ?_⟩
  · rw [trapped_enters h next cause info hu hv]
    exact State.warp_setWarp_same _ _ _
  · obtain ⟨L, entered⟩ := (w.trapped c next (s.issues + 1)).enter_shape c.lanes (s.ctx w.ctxK).trapvec
      (if next then c.nextPc else c.trapPc) cause info
    obtain ⟨M, trapped⟩ : ∃ M, w.trapped c next (s.issues + 1) = { w with lanes := M, lastIssue := s.issues + 1 } :=
      ⟨_, w.trapped_shape c next (s.issues + 1)⟩
    rw [entered, trapped]
  · rw [Warp.lane_enter _ _ _ _ _ _ (by rw [Warp.trapped_length]; exact hl) h64,
      Warp.lane_trapped hu (mode.trans hu) (s.issues + 1) plain hl h64]
    by_cases ran : c.lanes.getLsbD l = true
    · cases next <;> simp [ran]
    · cases c.inRep <;> simp [ran]
  · rw [trapped_kills_sup h next cause info hp, he]
    rfl

end Sys2Proof.Machine
end

section
/-!
PROOFS. The return from a handler and owed causes (R249, R208, R246), and the checks that come before everything else (R80,
R248, R40).
-/

namespace Sys2Proof.Machine
open Sys2Proof

/-! ### The return (R249) -/

/-- With no mask in use and no loop open, the tests of R22 and R26 change nothing. -/
theorem Warp.tests_of_nil {w : Warp} (hm : w.masks = []) (hl : w.loops = []) : w.tests = w := by
  have free : ∀ j, w.maskTest j = w := fun j => Warp.maskTest_of_awaiting (Or.inl (by rw [Warp.mask, hm]; rfl))
  have all : ∀ l : List JMask, l.foldl Warp.maskTest w = w := by
    intro l
    induction l with
    | nil => rfl
    | cons j r ih => rw [List.foldl_cons, free, ih]
  rw [Warp.tests, all, loopTest_of_nil hl]

/-- The tests move lanes, free masks and change the loop stack. -/
theorem Warp.tests_shape {w : Warp} (hu : w.priv = false) :
    ∃ L M l, w.tests = { w with lanes := L, masks := M, loops := l } := by
  obtain ⟨⟨L, M, tested⟩, -, -⟩ := foldl_maskTest allMasks hu
  exact ⟨_, M, _, by rw [Warp.tests, loopTest_shape, tested]⟩

/-- A warp back in user mode before the deferred tests: the handler's lanes at TRAPPC, no lane suspended. -/
def Warp.returned (w : Warp) : Warp :=
  ({ (w.onLanes w.tlanes fun l => if l.stat = .exited then l else { l with pc := w.trappc }) with
    priv := false, tlanes := 0, entered := none } : Warp).onLanes (firstLanes 64) fun l => { l with suspended := false }

/-- The return where no restart is taken. -/
theorem Warp.eret_eq {w : Warp} (h : ¬(w.restart &&& 0x01FFFFFFFFFFFFFC ≠ 0 ∧ w.pendingRestart = true)) :
    w.eret = if w.goesBack then w.returned.tests else { w.returned.tests with bsync := none, latch := none } := by
  unfold Warp.eret
  rw [if_neg h]
  rfl

theorem Warp.eret_shape {w : Warp} (h : ¬(w.restart &&& 0x01FFFFFFFFFFFFFC ≠ 0 ∧ w.pendingRestart = true)) : ∃ L M l b x,
    w.eret = { w with
      lanes := L, masks := M, loops := l, priv := false, tlanes := 0, entered := none, bsync := b, latch := x } := by
  obtain ⟨L, M, l, tested⟩ := Warp.tests_shape (w := w.returned) rfl
  rw [Warp.eret_eq h, tested]
  split
  · exact ⟨L, M, l, w.bsync, w.latch, rfl⟩
  · exact ⟨L, M, l, none, none, rfl⟩

/-- The lanes after it, where nothing is enrolled and no loop is open. -/
theorem Warp.lane_eret {w : Warp} (h : ¬(w.restart &&& 0x01FFFFFFFFFFFFFC ≠ 0 ∧ w.pendingRestart = true))
    (hm : w.masks = []) (hn : w.loops = []) {l : Nat} (hl : l < w.lanes.length) (h64 : l < 64) : w.eret.lane l =
      if w.tlanes.getLsbD l = true ∧ (w.lane l).stat ≠ .exited then { w.lane l with suspended := false, pc := w.trappc }
      else { w.lane l with suspended := false } := by
  have tests : w.returned.tests = w.returned := Warp.tests_of_nil hm hn
  have lane : w.eret.lane l = w.returned.lane l := by
    rw [Warp.eret_eq h, tests]
    split <;> rfl
  have back := Warp.lane_onLanes w w.tlanes (fun l => if l.stat = .exited then l else { l with pc := w.trappc }) l hl
  rw [lane, Warp.returned, Warp.lane_onLanes _ _ _ _ (by simpa using hl), if_pos (getLsbD_firstLanes_64 h64)]
  show ({ (w.onLanes w.tlanes fun l => if l.stat = .exited then l else { l with pc := w.trappc }).lane l with
    suspended := false } : Lane) = _
  rw [back]
  split_ifs <;> simp_all

/-! ### The restart (R208) -/

@[simp] theorem State.disarm_warps (s : State) (o : Option Monitor) : (s.disarm o).warps = s.warps := by
  unfold State.disarm
  split <;> rfl

@[simp] theorem State.disarm_mem (s : State) (o : Option Monitor) : (s.disarm o).mem = s.mem := by
  unfold State.disarm
  split <;> rfl

/-- A restarted warp leaves the waiters of its gang's barriers; no warp and no byte of memory changes. -/
theorem State.barUnwait_shape (s : State) (g slot : Nat) :
    (s.barUnwait g slot).warps = s.warps ∧ (s.barUnwait g slot).mem = s.mem := by
  unfold State.barUnwait
  generalize List.range 16 = l
  induction l generalizing s with
  | nil => exact ⟨rfl, rfl⟩
  | cons o r ih => exact ih _

theorem Warp.restartAt_shape (w : Warp) : ∃ L, w.restartAt = { w with
    lanes := L, restart := (w.restart &&& 0x01FFFFFFFFFFFFFC) ||| 1, loops := [], masks := [], rep := RepState.idle,
    matrix := 0, stop := .running, latch := none, supLatch := none, bsync := none, pendingRestart := false, priv := false,
    tlanes := 0, entered := none, armed := none, supArmed := none } := ⟨_, rfl⟩

theorem Warp.lane_restartAt (w : Warp) {l : Nat} (hl : l < w.lanes.length) (h64 : l < 64) : w.restartAt.lane l =
    if (w.lane l).stat = .exited then w.lane l
    else { w.lane l with
      pc := w.restart &&& 0x01FFFFFFFFFFFFFC, stat := .candidate, suspended := false, age := 0 } := by
  have := Warp.lane_onLanes w (firstLanes 64) (fun x => if x.stat = .exited then x else { x with
    pc := w.restart &&& 0x01FFFFFFFFFFFFFC, stat := .candidate, suspended := false, age := 0 }) l hl
  rw [if_pos (getLsbD_firstLanes_64 h64)] at this
  exact this

section Return
variable {s : State} {c : Cur} {w : Warp} (h : Issues s c w) (hp : w.priv = true)
include h hp

/-- `eret` leaves the handler, which supervisor mode alone may do. -/
theorem moves_eret : Moves .eret s c (s.leaveHandler c.warp w) :=
  run_of h (by simp [Needs.check, hp]) (awaits_free (free_nil w) rfl rfl rfl) _

omit h hp in
theorem leaveHandler_of_not_restart (k : Nat) (hn : ¬(w.restart &&& 0x01FFFFFFFFFFFFFC ≠ 0 ∧ w.pendingRestart = true)) :
    s.leaveHandler k w = s.setWarp k w.eret := by
  obtain ⟨L, M, l, b, x, shape⟩ := Warp.eret_shape hn
  have same : w.eret.pendingRestart = w.pendingRestart := by rw [shape]
  unfold State.leaveHandler
  simp only [same]
  exact if_neg fun h => by simp [h.1] at h

omit h hp in
/-- A restart leaves monitors and barriers, and sets every lane to the label. -/
theorem leaveHandler_of_restart (k : Nat) (hl : w.restart &&& 0x01FFFFFFFFFFFFFC ≠ 0) (hr : w.pendingRestart = true) :
    (s.leaveHandler k w).warp k = some w.restartAt ∧ (s.leaveHandler k w).mem = s.mem := by
  have restarts : w.eret = w.restartAt := by
    unfold Warp.eret
    exact if_pos ⟨hl, hr⟩
  have left : s.leaveHandler k w = ((s.setWarp k w.restartAt).dropMonitors w).barUnwait w.gang w.gangSlot := by
    unfold State.leaveHandler
    simp only [restarts]
    exact if_pos ⟨hr, rfl⟩
  obtain ⟨warps, mem⟩ := ((s.setWarp k w.restartAt).dropMonitors w).barUnwait_shape w.gang w.gangSlot
  rw [left, State.warp, warps, mem, State.dropMonitors]
  simp only [State.disarm_warps, State.disarm_mem, State.setWarp_mem, and_true]
  exact State.warp_setWarp_same s k _

end Return

/-! ### Owed causes (R246) -/

/-- In user mode the first cause owed is due. -/
theorem Warp.asyncDue_user {w : Warp} (hu : w.priv = false) {a : AsyncCause} {r : List AsyncCause} (ha : w.async = a :: r) :
    w.asyncDue = some a := by simp [Warp.asyncDue, ha, hu]

theorem exec_asyncTrapEntry {s : State} {k : Nat} {w : Warp} {a : AsyncCause} {r : List AsyncCause} {pc : Xword} {lanes : LaneSet}
    (h : s.warp k = some w) (hu : w.priv = false) (ha : w.async = a :: r) (hp : w.primary = some (pc, lanes))
    (hv : (s.ctx w.ctxK).trapvec ≠ 0) : exec (.asyncTrapEntry k) s = .next (s.setWarp k
      (({ w with async := r } : Warp).enter lanes (s.ctx w.ctxK).trapvec pc a.cause a.info)) := by
  show execAsyncTrapEntry k s = _
  have rest : w.async.erase a = r := by simp [ha]
  have enters := takeTrap_enters (s := s.setWarp k { w with async := r }) (lanes := lanes) (pc := pc) (cause := a.cause)
    (info := a.info) (State.warp_setWarp_same s k _) hu hv
  unfold execAsyncTrapEntry
  simp only [h, Warp.asyncDue_user hu ha, hp, rest, enters, State.setWarp_setWarp]
  rfl

/-- Settles O39: the return by whether a restart is taken, and the first owed cause. -/
theorem returnAndOwedCauses : Obligations.ReturnAndOwedCauses := by
  unfold Obligations.ReturnAndOwedCauses
  refine ⟨fun s c w h hp => ⟨fun none => ?_, fun hl hr => ?_⟩, fun s k w a r pc lanes h hu ha hp hv => ?_⟩
  · have hn : ¬(w.restart &&& 0x01FFFFFFFFFFFFFC ≠ 0 ∧ w.pendingRestart = true) := by
      rintro ⟨h1, h2⟩
      rcases none with h0 | h0
      · exact h1 h0
      · simp [h2] at h0
    obtain ⟨L, M, l, b, x, shape⟩ := Warp.eret_shape hn
    refine ⟨w.eret, leaveHandler_of_not_restart (s := s) c.warp hn ▸ moves_eret h hp, ?_⟩
    refine ⟨by rw [shape], by rw [shape], by rw [shape], by rw [shape], by rw [shape], by rw [shape], by rw [shape],
      fun hm hloops l hl h64 => Warp.lane_eret hn hm hloops hl h64⟩
  · obtain ⟨warp, mem⟩ := leaveHandler_of_restart (s := s) c.warp hl hr
    refine ⟨_, _, moves_eret h hp, warp, rfl, fun l hl' h64 => w.lane_restartAt hl' h64, fun x => ?_⟩
    rw [State.byte, mem]
    rfl
  · exact ⟨_, _, exec_asyncTrapEntry h hu ha hp hv, rfl, State.warp_setWarp_same _ _ _, rfl, rfl, rfl, rfl, rfl, rfl, rfl, rfl⟩

/-! ### The checks (R80, R248, R40, R38) -/

section Checks
variable {s : State} {c : Cur} {w : Warp} {i : Instr} {n : Needs} {body : Cur → Warp → Effect}

/-- An instruction that a handler may not execute. -/
theorem traps_illop (h : Issues s c w) (hp : w.priv = true) (he : exec i s = s.run n body) (hs : n.sup = false) :
    Traps i s c false 0x01 0 := by
  rw [Traps, he]
  exact run_trap h (by simp [Needs.check, hp, hs]) body

/-- A privileged one. -/
theorem traps_priv (h : Issues s c w) (hu : w.priv = false) (he : exec i s = s.run n body) (hs : n.privileged = true) :
    Traps i s c false 0x03 0 := by
  rw [Traps, he]
  exact run_trap h (by simp [Needs.check, hu, hs]) body

/-- The first of a list that fails a test, when those before it pass. -/
theorem find?_eq_of_idxOf {l : List Nat} {p : Nat → Bool} {n : Nat} (hn : n ∈ l) (hp : p n = true)
    (before : ∀ k, k < l.idxOf n → p (l.getD k 0) = false) : l.find? p = some n := by
  induction l with
  | nil => simp at hn
  | cons x r ih =>
    by_cases hx : x = n
    · simp [hx, hp]
    · have first := before 0 (by rw [List.idxOf_cons_ne _ hx]; omega)
      rw [List.find?_cons_of_neg (by simpa using first)]
      refine ih ((List.mem_cons.1 hn).resolve_left (Ne.symm hx)) fun k hk => ?_
      exact before (k + 1) (by rw [List.idxOf_cons_ne _ hx]; omega)

/-- A register outside the allocation. -/
theorem traps_wbaseCheck {names : List Nat} (h : Issues s c w) (he : exec i s = s.run (uses names) body) {n : Nat}
    (hn : n ∈ names) (out : w.alloc ≤ w.allocated n)
    (before : ∀ k, k < names.idxOf n → w.allocated (names.getD k 0) < w.alloc) :
    Traps i s c false 0x10 (BitVec.ofNat 64 n) := by
  have found := find?_eq_of_idxOf (p := fun k => decide (w.alloc ≤ w.allocated k)) hn (by simpa using out)
    fun k hk => by simpa using before k hk
  rw [Traps, he]
  exact run_trap h (by simp [Needs.check, uses, found]) body

end Checks

/-- Settles O40: each instruction by the needs that its meaning checks first. -/
theorem modeChecks : Obligations.ModeChecks := by
  unfold Obligations.ModeChecks
  intro s c w h illop priv
  refine ⟨fun hp => ?_, fun hu => ?_, fun d a b => ?_⟩
  · have no : ∀ {i : Instr} {n : Needs} {body : Cur → Warp → Effect}, exec i s = s.run n body → n.sup = false → illop i :=
      traps_illop h hp
    exact ⟨fun o d a b => ⟨no rfl rfl, no rfl rfl, no rfl rfl, no rfl rfl, no rfl rfl, no rfl rfl, no rfl rfl, no rfl rfl,
        no rfl rfl, no rfl rfl, no rfl rfl, no rfl rfl, no rfl rfl, no rfl rfl, no rfl rfl, no rfl rfl, no rfl rfl, no rfl rfl,
        no rfl rfl⟩, fun _ _ _ => no rfl rfl, fun _ _ => ⟨no rfl rfl, no rfl rfl⟩, fun _ _ _ _ => no rfl rfl,
      fun _ _ _ _ => no rfl rfl, fun _ => ⟨no rfl rfl, no rfl rfl, no rfl rfl, no rfl rfl⟩,
      fun _ _ => ⟨no rfl rfl, no rfl rfl, no rfl rfl⟩, fun _ _ _ => no rfl rfl, fun _ _ => no rfl rfl,
      no rfl rfl, no rfl rfl, no rfl rfl⟩
  · have no : ∀ {i : Instr} {n : Needs} {body : Cur → Warp → Effect}, exec i s = s.run n body → n.privileged = true → priv i :=
      traps_priv h hu
    exact ⟨no rfl rfl, fun _ _ => no rfl rfl, fun n hn => ⟨fun d => no rfl (by simpa using hn), fun a => no rfl (by simpa using hn)⟩⟩
  · intro names n hn out before i hi
    have no : ∀ {i : Instr} {body : Cur → Warp → Effect}, exec i s = s.run (uses names) body →
        Traps i s c false 0x10 (BitVec.ofNat 64 n) := fun he => traps_wbaseCheck h he hn out before
    simp only [List.mem_cons, List.not_mem_nil, or_false] at hi
    rcases hi with rfl | rfl | rfl | rfl | rfl
    · exact no rfl
    · exact no rfl
    · exact no rfl
    · exact no rfl
    · exact no rfl

end Sys2Proof.Machine
end

section
/-!
PROOFS. The special registers (R40 to R45, R370, R418, R101) and `tlbi` (R430, R431).
-/

namespace Sys2Proof.Machine
open Sys2Proof

/-! ### Folds of operations that are related to the state they start from -/

theorem foldl_rel {σ α : Type} {R : σ → σ → Prop} (refl : ∀ s, R s s) (trans : ∀ {s t u}, R s t → R t u → R s u) {f : σ → α → σ}
    (hf : ∀ s x, R s (f s x)) (l : List α) (s : σ) : R s (l.foldl f s) := by
  induction l generalizing s with
  | nil => exact refl s
  | cons x r ih => exact trans (hf s x) (ih (f s x))

/-! ### Time -/

/-- Of a state nothing but its clusters, contexts and dies differs. -/
def State.SameButUnits (s v : State) : Prop := v = { s with clusters := v.clusters, ctxs := v.ctxs, dies := v.dies }

theorem State.SameButUnits.refl (s : State) : s.SameButUnits s := rfl

theorem State.SameButUnits.trans {s v r : State} (h : s.SameButUnits v) (h' : v.SameButUnits r) : s.SameButUnits r := by
  unfold State.SameButUnits at *
  rw [h', h]

theorem State.sameButUnits_setCluster (s : State) (k : Nat) (x : Cluster) : s.SameButUnits (s.setCluster k x) := rfl
theorem State.sameButUnits_setCtx (s : State) (k : Nat) (x : Ctx) : s.SameButUnits (s.setCtx k x) := rfl
theorem State.sameButUnits_setDie (s : State) (k : Nat) (x : Die) : s.SameButUnits (s.setDie k x) := rfl

theorem State.sameButUnits_markSample (s : State) (k : Nat) : s.SameButUnits (s.markSample k) := by
  unfold State.markSample
  simp only
  split
  · exact .refl s
  · exact s.sameButUnits_setCluster _ _

theorem State.sameButUnits_releasePoints (s : State) (die : Nat) : s.SameButUnits (s.releasePoints die) := by
  unfold State.releasePoints
  simp only
  split
  · exact .refl s
  · exact (s.sameButUnits_setDie _ _).trans (foldl_rel SameButUnits.refl SameButUnits.trans
      (fun s _ => s.sameButUnits_setCluster _ _) _ _)

/-- What time changes as it passes: clusters, contexts and dies, and TIME itself. -/
theorem State.advance_shape (s : State) (dt : Nat) : ∃ cl ct d,
    s.advance dt = { s with clusters := cl, ctxs := ct, dies := d, now := s.now + dt } := by
  have marked : s.SameButUnits ((mkeys s.clusters).foldl State.markSample s) :=
    foldl_rel SameButUnits.refl SameButUnits.trans sameButUnits_markSample _ _
  have passed : ∀ v : State, v.SameButUnits ((mkeys v.dies).foldl State.releasePoints v) := fun v =>
    foldl_rel SameButUnits.refl SameButUnits.trans sameButUnits_releasePoints _ _
  have filled : ∀ v : State, v.SameButUnits ((mkeys v.ctxs).foldl (fun s k => s.setCtx k ((s.ctx k).refill dt)) v) := fun v =>
    foldl_rel SameButUnits.refl SameButUnits.trans (fun s _ => s.sameButUnits_setCtx _ _) _ _
  unfold State.advance
  simp only
  rw [passed, filled, marked]
  exact ⟨_, _, _, rfl⟩

/-! ### `getsr` (R370) -/

section Getsr
variable {s : State} {c : Cur} {w : Warp}

/-- A `getsr` that the mode allows is its body. -/
theorem exec_getsr (h : Issues s c w) (d n : BitVec 7) (hm : w.priv = true ∨ n.toNat < 64)
    (hf : w.free (if n = 0 then [d.toNat] else [])) : exec (.getsr d n) s = State.settle c
      (if n = 0 then .done (s.setWarp c.warp (w.vecMap c.lanes d fun i => BitVec.ofNat 32 i))
       else match (s.passTime w n.toNat).special c w n.toNat with
        | none => .trap s 0x01 0 false
        | some x => .done ((s.passTime w n.toNat).setWarp c.warp (w.setS (d.setWidth 6) x))) := by
  refine run_of (n := { sup := true, privileged := decide (64 ≤ n.toNat), names := if n = 0 then [d.toNat] else [] }) h ?_
    (awaits_free hf rfl rfl rfl) _
  have allowed : (!w.priv && decide (64 ≤ n.toNat)) = false := by
    rcases hm with hp | hn
    · simp [hp]
    · simp [Nat.not_le.2 hn]
  have names := uses_check hf
  simp only [Needs.check, uses, allowed, Bool.not_true, Bool.and_false, Bool.false_eq_true, if_false] at names ⊢
  exact names

/-- One that is no vector register's and whose number is not reserved. -/
theorem ends_getsr (h : Issues s c w) {n : Nat} (h0 : n ≠ 0) (h128 : n < 128) (hm : w.priv = true ∨ n < 64) {x : Xword}
    (hx : (s.passTime w n).special c w n = some x) (d : BitVec 7) :
    Ends (.getsr d (BitVec.ofNat 7 n)) s c ((s.passTime w n).setWarp c.warp (w.setS (d.setWidth 6) x)) := by
  have number : (BitVec.ofNat 7 n).toNat = n := by rw [BitVec.toNat_ofNat]; omega
  have scalar : BitVec.ofNat 7 n ≠ 0 := fun hz => h0 (number.symm.trans (congrArg BitVec.toNat hz))
  rw [Ends, exec_getsr h d _ (by rwa [number]) (by rw [if_neg scalar]; exact free_nil w), if_neg scalar, number, hx]
  rfl

theorem reads_special (h : Issues s c w) {n : Nat} (h0 : n ≠ 0) (h128 : n < 128) (still : s.passTime w n = s) {x : Xword}
    (hx : s.special c w n = some x) (d : BitVec 7) (hm : w.priv = true ∨ n < 64) :
    WritesS (.getsr d (BitVec.ofNat 7 n)) s c w (d.setWidth 6) x := by
  have ends := ends_getsr h h0 h128 hm (still.symm ▸ hx) d
  rw [still] at ends
  exact writesS_of ends

theorem special_mask (s : State) (c : Cur) (w : Warp) (j : JMask) :
    s.special c w (28 + j.toNat) = some (w.mask j).enrolled := by
  obtain ⟨⟨v, hv⟩⟩ := j
  interval_cases v <;> rfl

theorem passTime_mask (s : State) (w : Warp) (j : JMask) : s.passTime w (28 + j.toNat) = s := by
  obtain ⟨⟨v, hv⟩⟩ := j
  interval_cases v <;> rfl

theorem special_lstk (s : State) (c : Cur) (w : Warp) {n : Nat} (hn : n < 4) :
    s.special c w (16 + n) = some (w.lstk n) ∧ s.passTime w (16 + n) = s := by
  interval_cases n <;> exact ⟨rfl, rfl⟩

theorem special_gang {g : Gang} (hg : mfind s.gangs w.gang = some g) :
    s.special c w 2 = some (BitVec.ofNat 64 (g.index * g.members + w.member)) ∧
      s.special c w 3 = some (BitVec.ofNat 64 g.index) ∧ s.special c w 9 = some (BitVec.ofNat 64 g.warps) := by
  have gang : s.gangOf w = (g.index, g.members, g.warps) := by simp only [State.gangOf, hg]
  exact ⟨by show some (BitVec.ofNat 64 ((s.gangOf w).1 * (s.gangOf w).2.1 + w.member)) = _; rw [gang],
    by show some (BitVec.ofNat 64 (s.gangOf w).1) = _; rw [gang],
    by show some (BitVec.ofNat 64 (s.gangOf w).2.2) = _; rw [gang]⟩

theorem repState_eq (hd : w.rep.done < 64) (hc : w.rep.cnt < 64) :
    w.repState = BitVec.ofNat 64 (w.rep.done + (if w.rep.busy then 64 else 0) + 128 * w.rep.cnt) := by
  have done : w.rep.done % 2 ^ 6 = w.rep.done := Nat.mod_eq_of_lt hd
  have cnt : w.rep.cnt % 2 ^ 6 = w.rep.cnt := Nat.mod_eq_of_lt hc
  simp only [Warp.repState, done, cnt]
  rfl

/-- TIME, CEIL and the bucket after a free amount of time. -/
theorem ends_getsr_time (h : Issues s c w) {n : Nat} {f : State → Nat} (hn : (n, f) ∈ [(11, fun t : State => t.timeOf w.die),
      (25, fun t => t.ceilAt w.die (t.timeOf w.die)), (26, fun t => ((t.ctx w.ctxK).bucket 0).fill)]) (d : BitVec 7) :
    ∃ t : State, ∃ k : Nat, Ends (.getsr d (BitVec.ofNat 7 n)) s c t ∧ t.now = s.now + k ∧
      t.warp c.warp = some (w.setS (d.setWidth 6) (BitVec.ofNat 64 (f t))) := by
  obtain ⟨cl, ct, ds, shape⟩ := s.freeNat.2.advance_shape s.freeNat.1
  have now : ∀ x, ((s.freeNat.2.advance s.freeNat.1).setWarp c.warp x).now = s.now + s.freeNat.1 := fun x => by rw [shape]; rfl
  simp only [List.mem_cons, List.not_mem_nil, or_false, Prod.mk.injEq] at hn
  obtain ⟨rfl, rfl⟩ | ⟨rfl, rfl⟩ | ⟨rfl, rfl⟩ := hn
  · exact ⟨_, _, ends_getsr h (by decide) (by decide) (Or.inr (by decide)) rfl d, now _, State.warp_setWarp_same _ _ _⟩
  · exact ⟨_, _, ends_getsr h (by decide) (by decide) (Or.inr (by decide)) rfl d, now _, State.warp_setWarp_same _ _ _⟩
  · exact ⟨_, _, ends_getsr h (by decide) (by decide) (Or.inr (by decide)) rfl d, now _, State.warp_setWarp_same _ _ _⟩

end Getsr

/-! ### `setsr` (R418) -/

section Setsr
variable {s : State} {c : Cur} {w : Warp}

theorem exec_setsr (h : Issues s c w) (n : BitVec 7) (a : SReg) (hm : w.priv = true ∨ n.toNat < 64) :
    exec (.setsr n a) s = State.settle c (match setsrZero n.toNat with
      | none => .trap s 0x01 0 false
      | some bits => if w.s a &&& BitVec.ofNat 64 bits ≠ 0 then .trap s 0x01 0 false
        else .done (s.setSpecial c.warp w n.toNat (w.s a))) := by
  refine run_of (n := { sup := true, privileged := decide (64 ≤ n.toNat), names := [] }) h ?_
    (awaits_free (free_nil w) rfl rfl rfl) _
  rcases hm with hp | hn
  · simp [Needs.check, hp]
  · simp [Needs.check, Nat.not_le.2 hn]

/-- A register that `setsr` writes, with the bits that must be 0. -/
theorem writes_special (h : Issues s c w) {n bits : Nat} (h128 : n < 128) (hz : setsrZero n = some bits) (a : SReg)
    (hm : w.priv = true ∨ n < 64) :
    (w.s a &&& BitVec.ofNat 64 bits = 0 → Ends (.setsr (BitVec.ofNat 7 n) a) s c (s.setSpecial c.warp w n (w.s a))) ∧
      (w.s a &&& BitVec.ofNat 64 bits ≠ 0 → Traps (.setsr (BitVec.ofNat 7 n) a) s c false 0x01 0) := by
  have number : (BitVec.ofNat 7 n).toNat = n := by rw [BitVec.toNat_ofNat]; omega
  have body := exec_setsr h (BitVec.ofNat 7 n) a (by rwa [number])
  rw [number, hz] at body
  refine ⟨fun clear => ?_, fun set => ?_⟩
  · rw [Ends, body]
    simp only [clear, ne_eq, not_true_eq_false, if_false]
    rfl
  · rw [Traps, body]
    simp only [set, ne_eq, not_false_eq_true, if_true]
    rfl

/-- The others. -/
theorem traps_setsr (h : Issues s c w) {n : BitVec 7} (a : SReg) (hm : w.priv = true ∨ n.toNat < 64)
    (hz : setsrZero n.toNat = none) : Traps (.setsr n a) s c false 0x01 0 := by
  rw [Traps, exec_setsr h n a hm, hz]
  rfl

theorem setsrZero_eq_none {n : Nat} (hn : n ∉ [13, 14, 21, 37, 38, 65, 66, 67, 68, 70, 71, 72]) : setsrZero n = none := by
  unfold setsrZero
  split
  all_goals simp_all

theorem Warp.xs_reseed (w : Warp) (x : Xword) {l : Nat} (hl : l < w.lanes.length) : ((w.reseed x).lane l).xs =
    let y : Word := x.setWidth 32 ^^^ BitVec.ofNat 32 (0x9E3779B9 * (l + 1))
    if y = 0 then 0x9E3779B9 else y := by
  have narrow : BitVec.ofNat 32 x.toNat = x.setWidth 32 := rfl
  unfold Warp.lane Warp.reseed
  simp only [List.getD_eq_getElem?_getD, mapLanes_get, Nat.zero_add, List.getElem?_eq_getElem hl, Option.map_some,
    Option.getD_some, xsSeed, narrow]

end Setsr

/-! ### `tlbi` (R430, R431) -/

/-- A core with nothing written back has nothing to flush. -/
theorem flushCore_of_clean {s : State} {ck : Nat} (h : (s.core ck).holdsDirty = false) : s.flushCore ck = s := by
  simp only [Core.holdsDirty, Bool.or_eq_false_iff, Bool.not_eq_false', List.isEmpty_iff] at h
  obtain ⟨uo, clean⟩ := h
  have none : (s.core ck).l1.filter (fun e => e.2.dirty != 0) = [] := by
    rw [List.filter_eq_nil_iff]
    exact fun e he => by simpa using (List.any_eq_false.1 clean) e he
  simp only [State.flushCore, none, mkeys, List.map_nil, List.foldl_nil, uo]

/-- Nor does a release of it change more than the pending sets of its die. -/
theorem releaseCore_of_clean {s : State} {ck : Nat} (h : (s.core ck).holdsDirty = false) :
    s.releaseCore ck = s.setDie (ck / 32) ((s.die (ck / 32)).discharge ck) := by
  rw [State.releaseCore, flushCore_of_clean h]

section Tlb
variable (p : Leaf → Bool)

/-- A core without the TLB entries that a test accepts. -/
def Core.forget (c : Core) : Core := { c with tlb := c.tlb.filter fun l => !p l }

theorem Core.forget_forget (c : Core) : (c.forget p).forget p = c.forget p := by
  simp [Core.forget, List.filter_filter]

/-- The cores of a list without those entries. -/
theorem foldl_forget (l : List Nat) (s : State) :
    (∃ cores, l.foldl (fun s ck => s.setCore ck ((s.core ck).forget p)) s = { s with cores := cores }) ∧
      ∀ k, (l.foldl (fun s ck => s.setCore ck ((s.core ck).forget p)) s).core k =
        if k ∈ l then (s.core k).forget p else s.core k := by
  induction l generalizing s with
  | nil => exact ⟨⟨_, rfl⟩, fun k => by simp⟩
  | cons ck r ih =>
    obtain ⟨⟨cores, shape⟩, core⟩ := ih (s.setCore ck ((s.core ck).forget p))
    refine ⟨⟨cores, shape⟩, fun k => ?_⟩
    rw [List.foldl_cons, core, State.core_setCore]
    by_cases hk : k = ck
    · subst hk
      simp [Core.forget_forget]
    · simp [hk]

/-- What `tlbi` leaves of the TLBs of a die, and that nothing else changes. -/
theorem State.tlbRemove_spec (s : State) (die : Nat) :
    (∃ cores dies, s.tlbRemove die p = { s with cores := cores, dies := dies }) ∧
      (∀ d, (s.tlbRemove die p).die d = if d = die then { s.die d with tlb := (s.die d).tlb.filter fun l => !p l } else s.die d) ∧
      ∀ k, (s.tlbRemove die p).core k = if k / 32 = die then (s.core k).forget p else s.core k := by
  obtain ⟨⟨cores, shape⟩, core⟩ := foldl_forget p (mkeys (s.cores.filter fun e => e.1 / 32 == die))
    (s.setDie die { s.die die with tlb := (s.die die).tlb.filter fun l => !p l })
  refine ⟨⟨cores, _, shape⟩, fun d => ?_, fun k => ?_⟩
  · rw [State.die, show (s.tlbRemove die p).dies = _ from congrArg State.dies shape]
    refine (State.die_setDie s die d _).trans ?_
    split
    next h => rw [h]
    · rfl
  · refine (core k).trans ?_
    rw [State.core_of_setDie]
    by_cases hd : k / 32 = die
    · rw [if_pos hd]
      split
      · rfl
      next hk =>
        have absent : mfind s.cores k = none := by
          by_contra hn
          obtain ⟨x, hx⟩ := Option.ne_none_iff_exists'.1 hn
          exact hk (List.mem_map.2 ⟨(k, x), List.mem_filter.2 ⟨mem_of_mfind hx, by simpa using hd⟩, rfl⟩)
        have reset : s.core k = Core.idle := by rw [State.core, mget, absent]; rfl
        rw [reset]
        rfl
    · rw [if_neg hd, if_neg]
      intro hk
      obtain ⟨e, he, rfl⟩ := List.mem_map.1 hk
      exact hd (by simpa using (List.mem_filter.1 he).2)

end Tlb

/-- Whether accesses are out does not depend on TLBs and pending sets. -/
theorem accessesOut_congr {s v : State} (hw : v.warps = s.warps) (hc : v.clusters = s.clusters) (hy : v.cway = s.cway)
    (hm : ∀ k, (v.core k).mq = (s.core k).mq) {die : Nat} (hd : (v.die die).colls = (s.die die).colls)
    (hk : (v.die die).walks = (s.die die).walks) (asid : Nat) : v.accessesOut die asid = s.accessesOut die asid := by
  simp only [State.accessesOut, hw, hy, hm, hd, hk, State.cluster, hc]

/-- The state that `tlbi` reaches before it looks for accesses (R430, R431). -/
def State.tlbiState (s : State) (w : Warp) (a : SReg) (all : Bool) : State :=
  (s.releaseCore w.coreK).tlbRemove w.die fun l => if all then l.asid == w.asid else l.covers w.asid (w.s a).toNat

section Tlbi
variable {s : State} {c : Cur} {w : Warp}

theorem exec_tlbi (h : Issues s c w) (hp : w.priv = true) (a : SReg) (all : Bool) : exec (.tlbi a all) s = State.settle c
    (if (s.tlbiState w a all).accessesOut w.die w.asid then .stop (s.tlbiState w a all) .scoreboard
      else .done (s.tlbiState w a all)) :=
  run_of (n := { sup := true, privileged := true, names := [] }) h (by simp [Needs.check, hp])
    (awaits_free (free_nil w) rfl rfl rfl) _

/-- No entry that it removes is left. -/
theorem tlbi_removed {t : List Leaf} {all : Bool} {asid va : Nat} {l : Leaf}
    (hl : l ∈ t.filter fun l => !(if all then l.asid == asid else l.covers asid va)) (ha : l.asid = asid) :
    all = false ∧ l.covers asid va = false := by
  have kept := (List.mem_filter.1 hl).2
  cases all <;> simp_all

/-- From a core with nothing written back it removes its entries and changes no byte of memory. -/
theorem tlbiState_of_clean (clean : (s.core w.coreK).holdsDirty = false) (a : SReg) (all : Bool) :
    (s.tlbiState w a all).accessesOut w.die w.asid = s.accessesOut w.die w.asid ∧
      ∀ x, (s.tlbiState w a all).byte x = s.byte x := by
  obtain ⟨⟨cores, dies, shape⟩, die, core⟩ := State.tlbRemove_spec
    (fun l => if all then l.asid == w.asid else l.covers w.asid (w.s a).toNat) (s.releaseCore w.coreK) w.die
  rw [releaseCore_of_clean clean] at shape die core
  have same : s.tlbiState w a all = _ := (congrArg (fun v : State => v.tlbRemove w.die _) (releaseCore_of_clean clean))
  constructor
  · refine accessesOut_congr ?_ ?_ ?_ (fun k => ?_) ?_ ?_ w.asid
    · rw [same, shape]; rfl
    · rw [same, shape]; rfl
    · rw [same, shape]; rfl
    · rw [same, core]
      split <;> rfl
    · rw [same, die, if_pos rfl, State.die_setDie]
      split
      next h => rw [h]; rfl
      · rfl
    · rw [same, die, if_pos rfl, State.die_setDie]
      split
      next h => rw [h]; rfl
      · rfl
  · intro x
    rw [State.byte, same, shape]
    rfl

end Tlbi

/-- Settles O41: each register by its number, and `tlbi` by what it removes and whether accesses are out. -/
theorem specialRegisters : Obligations.SpecialRegisters := by
  unfold Obligations.SpecialRegisters
  intro s c w h ctx cl reads illop writes
  have read : ∀ {n : Nat} {x : Xword}, n ≠ 0 → n < 128 → s.passTime w n = s → s.special c w n = some x → reads n x :=
    fun h0 h128 still hx d hm => reads_special h h0 h128 still hx d hm
  have write : ∀ {n bits : Nat}, n < 128 → setsrZero n = some bits → writes n bits (s.setSpecial c.warp w n) :=
    fun h128 hz a hm => writes_special h h128 hz a hm
  refine ⟨⟨fun d hf => ?_, read (by decide) (by decide) rfl rfl, read (by decide) (by decide) rfl rfl,
    read (by decide) (by decide) rfl rfl, read (by decide) (by decide) rfl rfl, read (by decide) (by decide) rfl rfl,
    read (by decide) (by decide) rfl rfl, fun g hg => ?_, read (by decide) (by decide) rfl rfl,
    read (by decide) (by decide) rfl rfl, read (by decide) (by decide) rfl rfl, read (by decide) (by decide) rfl rfl,
    fun n e hn he => ?_, fun n hn hl => ?_, fun hd hc => ?_, read (by decide) (by decide) rfl rfl,
    read (by decide) (by decide) rfl rfl, read (by decide) (by decide) rfl rfl, read (by decide) (by decide) rfl rfl,
    read (by decide) (by decide) rfl rfl, fun j => ?_, read (by decide) (by decide) rfl rfl,
    read (by decide) (by decide) rfl rfl, read (by decide) (by decide) rfl rfl, read (by decide) (by decide) rfl rfl,
    read (by decide) (by decide) rfl rfl, read (by decide) (by decide) rfl rfl, read (by decide) (by decide) rfl rfl,
    read (by decide) (by decide) rfl rfl, read (by decide) (by decide) rfl rfl, read (by decide) (by decide) rfl rfl,
    read (by decide) (by decide) rfl rfl, read (by decide) (by decide) rfl rfl, read (by decide) (by decide) rfl rfl,
    fun d n f hn => ends_getsr_time h hn d, fun d => ?_⟩, ⟨write (by decide) rfl, write (by decide) rfl, write (by decide) rfl,
    write (by decide) rfl, write (by decide) rfl, write (by decide) rfl, write (by decide) rfl, write (by decide) rfl,
    write (by decide) rfl, write (by decide) rfl, write (by decide) rfl, fun a => ?_, fun n a hm hn => ?_⟩, fun hp a all => ?_⟩
  · have lane := exec_getsr h d 0 (Or.inr (by decide)) (by rw [if_pos rfl]; exact hf)
    rw [if_pos rfl] at lane
    exact writesV_of (f := fun i => BitVec.ofNat 32 i) lane fun _ => rfl
  · obtain ⟨two, three, nine⟩ := special_gang (c := c) hg
    exact ⟨read (by decide) (by decide) rfl two, read (by decide) (by decide) rfl three, read (by decide) (by decide) rfl nine⟩
  · obtain ⟨special, still⟩ := special_lstk s c w hn
    refine read (by omega) (by omega) still (special.trans ?_)
    simp only [Warp.lstk, he, LoopEntry.lstk]
  · obtain ⟨special, still⟩ := special_lstk s c w hn
    refine read (by omega) (by omega) still (special.trans ?_)
    simp only [Warp.lstk, List.getElem?_eq_none (l := w.loops.reverse) (by simpa using hl)]
  · exact read (by decide) (by decide) rfl (congrArg some (repState_eq hd hc))
  · exact read (by omega) (by omega) (passTime_mask s w j) (special_mask s c w j)
  · exact ⟨_, ends_getsr h (by decide) (by decide) (Or.inr (by decide)) rfl d, State.warp_setWarp_same _ _ _⟩
  · have written := (writes_special h (n := 38) (by decide) rfl a (Or.inr (by decide))).1 (by simp)
    exact ⟨_, written, rfl, fun l hl => w.xs_reseed _ hl⟩
  · exact traps_setsr h a hm (setsrZero_eq_none hn)
  · have body := exec_tlbi h hp a all
    obtain ⟨-, die, core⟩ := State.tlbRemove_spec
      (fun l => if all then l.asid == w.asid else l.covers w.asid (w.s a).toNat) (s.releaseCore w.coreK) w.die
    have done : (s.tlbiState w a all).accessesOut w.die w.asid = false → Ends (.tlbi a all) s c (s.tlbiState w a all) := by
      intro none
      rw [Ends, body, if_neg (by simp [none])]
      rfl
    refine ⟨s.tlbiState w a all, done, fun out => ?_, fun l hl ha => ?_, fun k hk l hl ha => ?_, fun clean none => ?_⟩
    · rw [body, if_pos out]
      rfl
    · rw [State.tlbiState, die, if_pos rfl] at hl
      exact tlbi_removed hl ha
    · rw [State.tlbiState, core, if_pos hk] at hl
      exact tlbi_removed hl ha
    · obtain ⟨same, bytes⟩ := tlbiState_of_clean clean a all
      exact ⟨done (same.trans none), bytes⟩

end Sys2Proof.Machine
end

section
/-!
PROOFS. What a step does (R14 to R16, R55, R58, R81): an issue, alone or as the first of a pair, an event, or time.
-/

namespace Sys2Proof.Machine
open Sys2Proof

/-! ### An issue -/

/-- A word that decodes to an instruction with an encoding is executed as that, in as many bytes. -/
theorem instr_of_decode {x : Nat} {nx : Option Nat} {i : Instr} (hd : decode x nx = .ok i) (he : encode i ≠ []) :
    (FetchedInstr.words x nx).instr = i ∧ (FetchedInstr.words x nx).size = 4 * wordCount i := by
  have instr : (FetchedInstr.words x nx).instr = i := by simp only [FetchedInstr.instr, hd]
  refine ⟨instr, ?_⟩
  unfold FetchedInstr.size
  rw [instr]
  split
  · exact absurd rfl he
  · exact absurd rfl he
  · exact absurd rfl he
  · rfl

/-- The frame of an issue outside a sequence of repeats: of the warp's mode, at the fetched instruction. -/
def Warp.issueFrame (w : Warp) (k : Nat) (pc : Xword) (lanes cands : LaneSet) (i : Instr) : Cur :=
  { warp := k, lanes := lanes, cands := cands, pc := pc, trapPc := pc, nextPc := pc + BitVec.ofNat 64 (4 * wordCount i),
    priv := w.priv, inRep := false }

/-- A group outside a sequence of repeats runs the instruction that it fetches, in the frame of its issue. -/
theorem issueGroup_decoded {s v : State} {k : Nat} {w : Warp} {pc : Xword} {lanes cands : LaneSet} {x : Nat} {nx : Option Nat}
    {i : Instr} (free : w.priv = true ∨ w.rep.busy = false)
    (hf : s.fetchInstr w.coreK w.asid pc.toNat = (v, .words x nx)) (hd : decode x nx = .ok i) (he : encode i ≠ []) :
    s.issueGroup k w pc lanes cands = exec i { v with cur := some (w.issueFrame k pc lanes cands i) } := by
  obtain ⟨instr, size⟩ := instr_of_decode hd he
  have single : (w.rep.busy && !w.priv) = false := by
    rcases free with hp | hb
    · simp [hp]
    · simp [hb]
  simp only [State.issueGroup, hf, single, Bool.false_eq_true, if_false, instr, size]
  rfl

/-- A warp that is owed nothing issues its primary group, and holds a secondary one ready where the pair may go on. -/
theorem issueWarp_primary {s : State} {k : Nat} {w : Warp} {pc : Xword} {lanes : LaneSet} (hw : s.warp k = some w)
    (open_ : w.waitnOpen = false) (due : w.asyncDue = none) (hp : w.primary = some (pc, lanes)) :
    (s.pairOf k w pc lanes = none → s.issueWarp k = s.issueGroup k w pc lanes w.candidates) ∧
      ∀ l, s.pairOf k w pc lanes = some l → s.completed k (s.issueGroup k w pc lanes w.candidates) = true →
        ∃ t, s.issueGroup k w pc lanes w.candidates = .next t ∧ s.issueWarp k = .next { t with second := some (k, l) } := by
  have issue : s.issueWarp k = match s.pairOf k w pc lanes, s.issueGroup k w pc lanes w.candidates with
      | some l, .next t => .next (if s.completed k (s.issueGroup k w pc lanes w.candidates) then { t with second := some (k, l) } else t)
      | _, _ => s.issueGroup k w pc lanes w.candidates := by
    unfold State.issueWarp
    simp only [hw, open_, due, hp, Option.isSome_none, Bool.false_eq_true, if_false] <;> rfl
  refine ⟨fun alone => ?_, fun l pair done => ?_⟩
  · rw [issue, alone]
  · cases ho : s.issueGroup k w pc lanes w.candidates with
    | next t =>
      rw [ho] at done
      refine ⟨t, rfl, ?_⟩
      rw [issue, pair, ho]
      simp only [done, if_true]
    | fault => simp [ho, State.completed] at done
    | refused => simp [ho, State.completed] at done

/-! ### Time -/

/-- Some time passes, and nothing else happens to warps and memory. -/
theorem timePasses_spec (s : State) : s.now < s.timePasses.now ∧ s.timePasses.warps = s.warps ∧ s.timePasses.mem = s.mem := by
  obtain ⟨cl, ct, d, shape⟩ := s.freeNat.2.advance_shape (s.freeNat.1 + 1)
  rw [State.timePasses, shape]
  exact ⟨Nat.lt_add_of_pos_right (Nat.succ_pos _), rfl, rfl⟩

/-! ### The word of a fetch -/

theorem mem_distinct (l : List Nat) (x : Nat) : x ∈ distinct l ↔ x ∈ l := by
  have kept (acc : List Nat) :
      x ∈ l.foldl (fun acc y => if acc.contains y then acc else acc ++ [y]) acc ↔ x ∈ acc ∨ x ∈ l := by
    induction l generalizing acc with
    | nil => simp
    | cons y ys ih =>
      rw [List.foldl_cons, ih]
      by_cases h : acc.contains y = true
      · have : y ∈ acc := by simpa using h
        rw [if_pos h]
        aesop
      · rw [if_neg h]
        simp [or_assoc]
  simpa [distinct] using kept []

/-- A translation keeps what a core has fetched. -/
theorem icache_translate {s v : State} {ck asid va : Nat} {x : Xlat} (h : s.translate ck asid va = (v, x)) :
    (v.core ck).icache = (s.core ck).icache := by
  simp only [State.translate] at h
  split at h
  · cases h; rfl
  · split at h
    · cases h
      rw [State.core_setCore, if_pos rfl]
    · split at h
      · cases h
        rw [State.core_setCore, if_pos rfl]
      · cases h; rfl

/-- R81: the word is one that the core has had, or the one at home; the latter where it has had none. -/
theorem fetchHome_word {s : State} {ck asid va pa : Nat} (hm : memoryExists pa 4 = true) :
    ∃ w, (s.fetchHome ck asid va pa).2 = .word w ∧
      (w = s.num pa 4 ∨ w ∈ mget [] (s.core ck).icache (icacheKey asid va)) ∧
      (mget [] (s.core ck).icache (icacheKey asid va) = [] → w = s.num pa 4) := by
  have known (w : Nat) (h : w ∈ distinct (mget [] (s.core ck).icache (icacheKey asid va) ++ [s.num pa 4])) :
      (w = s.num pa 4 ∨ w ∈ mget [] (s.core ck).icache (icacheKey asid va)) ∧
        (mget [] (s.core ck).icache (icacheKey asid va) = [] → w = s.num pa 4) := by
    rw [mem_distinct, List.mem_append, List.mem_singleton] at h
    exact ⟨h.symm, fun none => by simpa [none] using h⟩
  have home : s.num pa 4 ∈ distinct (mget [] (s.core ck).icache (icacheKey asid va) ++ [s.num pa 4]) :=
    (mem_distinct _ _).2 (by simp)
  simp only [State.fetchHome, hm, if_true]
  split
  · next x only => exact ⟨x, rfl, known x (by rw [only]; simp)⟩
  · refine ⟨_, rfl, known _ ?_⟩
    rw [List.getD_eq_getElem _ _ (Nat.mod_lt _ (List.length_pos_of_mem home))]
    exact List.getElem_mem _

/-- Settles O57: the second of a pair, the primary group, and the choice of what happens. -/
theorem stepRunsDecoded : Obligations.StepRunsDecoded := by
  unfold Obligations.StepRunsDecoded
  intro s frame
  refine ⟨fun k lanes w l v x nx i second hw hl free hf hd he => ?_,
    fun k w pc lanes v x nx i hw open_ due hp free hf hd he => ?_, fun second none => ?_, fun second c hc => ?_,
    fun second c d r hc => ?_, fun ck asid va v l hva ht fetch raw => ?_⟩
  · have warp : ({ s with second := none } : State).warp k = some w := hw
    have step : step s = ({ s with second := none } : State).issueGroup k w (w.lane l).pc lanes lanes := by
      simp only [Machine.step, second, State.issueSecond, warp, hl]
    rw [step, issueGroup_decoded free hf hd he]
    rfl
  · have group := issueGroup_decoded (k := k) (lanes := lanes) (cands := w.candidates) free hf hd he
    obtain ⟨alone, pair⟩ := issueWarp_primary hw open_ due hp
    rw [group] at alone pair
    exact ⟨alone, pair⟩
  · refine ⟨s.timePasses, ?_, timePasses_spec s⟩
    simp only [Machine.step, second, State.proceed, none]
  · simp only [Machine.step, second, State.proceed, hc]
  · refine ⟨(c :: d :: r).getD (s.freeNat.1 % (r.length + 2)) c, ?_, ?_⟩
    · have inside : s.freeNat.1 % (r.length + 2) < (c :: d :: r).length := Nat.mod_lt _ (Nat.succ_pos _)
      rw [hc, List.getD_eq_getElem _ _ inside]
      exact List.getElem_mem _
    · have proceeds : step s = s.proceed := by simp only [Machine.step, second]
      rw [proceeds]
      simp only [State.proceed, hc]
      rfl
  · intro pa kept hm
    have priv : windowOf va = .priv := if_pos hva
    have word : (s.fetchWord ck asid va).2 = (v.fetchHome ck asid va pa).2 := by
      simp only [State.fetchWord, priv, ht, fetch, raw]
      rfl
    have mem : v.num pa 4 = s.num pa 4 := by
      have := State.fetchesTo_of_translate ht
      rw [this]
      rfl
    have := fetchHome_word (s := v) (ck := ck) (asid := asid) (va := va) hm
    rw [icache_translate ht, mem] at this
    rw [word]
    exact this

end Sys2Proof.Machine
end

section
/-!
PROOFS. What the operations at home may change (05 R125 to R127, 06 R150, R160, R163): memory, caches, monitors and what
waits for them, never a gang, a queue or a register of the package.
-/

namespace Sys2Proof.Machine
open Sys2Proof

/-- A table after a change of every value. -/
theorem mfind_mmap {α : Type} (f : α → α) (m : SMap α) (k : Nat) : mfind (mmap f m) k = (mfind m k).map f := by
  induction m with
  | nil => rfl
  | cons e r ih =>
    have map : mmap f (e :: r) = (e.1, f e.2) :: mmap f r := rfl
    rw [map, mfind_cons, mfind_cons, ih]
    split <;> rfl

/-- Of two states of a context nothing but the warps it keeps while it is switched out and its copies' lines differs. -/
def Ctx.Kept (c d : Ctx) : Prop := d = { c with savedWarps := d.savedWarps, copyLines := d.copyLines }

theorem Ctx.Kept.refl (c : Ctx) : c.Kept c := rfl

theorem Ctx.Kept.trans {c d e : Ctx} (h : c.Kept d) (h' : d.Kept e) : c.Kept e := by
  obtain ⟨a, b, rfl⟩ : ∃ a b, d = { c with savedWarps := a, copyLines := b } := ⟨_, _, h⟩
  obtain ⟨a', b', rfl⟩ : ∃ a' b', e = { c with savedWarps := a', copyLines := b' } := ⟨_, _, h'⟩
  rfl

/-- Of two states of a die nothing but its cache, its pins, its monitors and its pending sets differs. -/
def Die.Kept (d e : Die) : Prop := e = { d with l2 := e.l2, pins := e.pins, monitors := e.monitors, pending := e.pending }

theorem Die.Kept.refl (d : Die) : d.Kept d := rfl

theorem Die.Kept.trans {d e f : Die} (h : d.Kept e) (h' : e.Kept f) : d.Kept f := by
  obtain ⟨a, b, c, x, rfl⟩ : ∃ a b c x, e = { d with l2 := a, pins := b, monitors := c, pending := x } := ⟨_, _, _, _, h⟩
  obtain ⟨a', b', c', x', rfl⟩ : ∃ a' b' c' x', f = { d with l2 := a', pins := b', monitors := c', pending := x' } :=
    ⟨_, _, _, _, h'⟩
  rfl

theorem Warp.sameButLatch_refl (w : Warp) : w.sameButLatch w := rfl

theorem Warp.sameButLatch_trans {w u v : Warp} (h : w.sameButLatch u) (h' : u.sameButLatch v) : w.sameButLatch v := by
  obtain ⟨a, b, c, d, e, rfl⟩ : ∃ a b c d e,
    u = { w with latch := a, supLatch := b, armed := c, supArmed := d, stop := e } := ⟨_, _, _, _, _, h⟩
  obtain ⟨a', b', c', d', e', rfl⟩ : ∃ a b c d e,
    v = { w with latch := a, supLatch := b, armed := c, supArmed := d, stop := e } := ⟨_, _, _, _, _, h'⟩
  rfl

/-- The second state comes from the first by operations at home: reads, writes, monitors, caches and pending sets. -/
structure State.AtHome (s t : State) : Prop where
  shape : ∃ mem warps launches ctxs cores dies l3 cway tick, t = { s with
    mem := mem, warps := warps, launches := launches, ctxs := ctxs, cores := cores, dies := dies, l3 := l3, cway := cway,
    tick := tick }
  ctx : ∀ k, (s.ctx k).Kept (t.ctx k)
  warp : ∀ k w, s.warp k = some w → ∃ u, t.warp k = some u ∧ w.sameButLatch u
  noWarp : ∀ k, s.warp k = none → t.warp k = none
  die : ∀ k, (s.die k).Kept (t.die k)

namespace State.AtHome

/-- States that differ in no context, warp or die. -/
theorem update (s : State) (mem : SMap Byte) (launches : SMap Launch) (cores : SMap Core) (l3 : SMap L3Line)
    (cway : Causeway) (tick : Nat) : s.AtHome { s with
      mem := mem, launches := launches, cores := cores, l3 := l3, cway := cway, tick := tick } :=
  ⟨⟨_, _, _, _, _, _, _, _, _, rfl⟩, fun _ => Ctx.Kept.refl _, fun _ w hw => ⟨w, hw, w.sameButLatch_refl⟩, fun _ h => h,
    fun _ => Die.Kept.refl _⟩

theorem refl (s : State) : s.AtHome s := update s _ _ _ _ _ _

theorem trans {s t u : State} (h : s.AtHome t) (h' : t.AtHome u) : s.AtHome u := by
  refine ⟨?_, fun k => (h.ctx k).trans (h'.ctx k), fun k w hw => ?_, fun k none => h'.noWarp k (h.noWarp k none),
    fun k => (h.die k).trans (h'.die k)⟩
  · obtain ⟨_, _, _, _, _, _, _, _, _, rfl⟩ := h.shape
    obtain ⟨_, _, _, _, _, _, _, _, _, rfl⟩ := h'.shape
    exact ⟨_, _, _, _, _, _, _, _, _, rfl⟩
  · obtain ⟨x, hx, same⟩ := h.warp k w hw
    obtain ⟨y, hy, same'⟩ := h'.warp k x hx
    exact ⟨y, hy, Warp.sameButLatch_trans same same'⟩

section
variable {s t : State} (h : s.AtHome t)
include h

theorem gangs : t.gangs = s.gangs := by
  obtain ⟨_, _, _, _, _, _, _, _, _, rfl⟩ := h.shape
  rfl

theorem lmem : t.lmem = s.lmem := by
  obtain ⟨_, _, _, _, _, _, _, _, _, rfl⟩ := h.shape
  rfl

theorem power : t.power = s.power := by
  obtain ⟨_, _, _, _, _, _, _, _, _, rfl⟩ := h.shape
  rfl

theorem host : t.host = s.host := by
  obtain ⟨_, _, _, _, _, _, _, _, _, rfl⟩ := h.shape
  rfl

theorem queues : t.queues = s.queues := by
  obtain ⟨_, _, _, _, _, _, _, _, _, rfl⟩ := h.shape
  rfl

theorem clusters : t.clusters = s.clusters := by
  obtain ⟨_, _, _, _, _, _, _, _, _, rfl⟩ := h.shape
  rfl

end

/-- A fold of operations at home is one. -/
theorem foldl {α : Type} {f : State → α → State} (hf : ∀ (s : State) x, s.AtHome (f s x)) (l : List α) (s : State) : s.AtHome (l.foldl f s) :=
  foldl_rel refl (fun h h' => h.trans h') hf l s

/-- A choice between operations at home is one. -/
theorem ite {s t u : State} {p : Prop} [Decidable p] (ht : s.AtHome t) (hu : s.AtHome u) : s.AtHome (if p then t else u) := by
  split
  · exact ht
  · exact hu

theorem setCore (s : State) (k : Nat) (c : Core) : s.AtHome (s.setCore k c) := update s _ _ _ _ _ _

theorem setDie {s : State} {k : Nat} {d : Die} (h : (s.die k).Kept d) : s.AtHome (s.setDie k d) := by
  refine ⟨⟨_, _, _, _, _, _, _, _, _, rfl⟩, fun _ => .refl _, fun _ w hw => ⟨w, hw, w.sameButLatch_refl⟩, fun _ h => h, fun j => ?_⟩
  rw [State.die_setDie]
  split
  · subst_vars
    exact h
  · exact .refl _

theorem withL2 (s : State) (a : Nat) (l : SMap L2Sector) : s.AtHome (s.setDie a { s.die a with l2 := l }) := setDie rfl

theorem withMonitors (s : State) (a : Nat) (l : List Monitor) : s.AtHome (s.setDie a { s.die a with monitors := l }) := setDie rfl

theorem setCtx {s : State} {k : Nat} {c : Ctx} (h : (s.ctx k).Kept c) : s.AtHome (s.setCtx k c) := by
  refine ⟨⟨_, _, _, _, _, _, _, _, _, rfl⟩, fun j => ?_, fun _ w hw => ⟨w, hw, w.sameButLatch_refl⟩, fun _ h => h, fun _ => .refl _⟩
  rw [State.ctx_setCtx]
  split
  · subst_vars
    exact h
  · exact .refl _

theorem setWarp {s : State} {k : Nat} {w u : Warp} (hw : s.warp k = some w) (h : w.sameButLatch u) : s.AtHome (s.setWarp k u) := by
  refine ⟨⟨_, _, _, _, _, _, _, _, _, rfl⟩, fun _ => .refl _, fun j x hx => ?_, fun j none => ?_, fun _ => .refl _⟩
  · by_cases hj : j = k
    · subst hj
      rw [hw] at hx
      cases hx
      exact ⟨u, State.warp_setWarp_same _ _ _, h⟩
    · exact ⟨x, by rw [State.warp_setWarp_ne _ _ hj]; exact hx, x.sameButLatch_refl⟩
  · rw [State.warp_setWarp_ne _ _ fun hj => by rw [hj, hw] at none; cases none]
    exact none

theorem setL3 (s : State) (k : Nat) (x : L3Line) : s.AtHome (s.setL3 k x) := update s _ _ _ _ _ _
theorem takeL3 (s : State) (k : Nat) : s.AtHome (s.takeL3 k).1 := setL3 _ _ _
theorem victim (s : State) (l : List Nat) : s.AtHome (s.victim l).2 := update s _ _ _ _ _ _
theorem dropLatches (s : State) (p : Latch → Bool) : s.AtHome (s.dropLatches p) := by
  unfold State.dropLatches
  exact .ite (update s _ _ _ _ _ _) (refl s)

theorem poke (s : State) (l : List (Nat × Byte)) : s.AtHome (s.poke l) :=
  trans (t := { s with mem := l.foldl (fun m e => mset 0 m e.1 e.2) s.mem }) (update s _ _ _ _ _ _) (dropLatches _ _)

theorem send (s : State) (p : Packet) : s.AtHome (s.send p) := .ite (refl s) (update s _ _ _ _ _ _)

/-! ### The L2 and the L3 -/

theorem l3Room (s : State) (line : Nat) : s.AtHome (s.l3Room line) := .ite (refl s) (trans (victim s _) (setL3 _ _ _))

theorem evictL2 (s : State) (a line : Nat) : s.AtHome (s.evictL2 a line) :=
  trans (withL2 s a _) (.ite (refl _) (trans (l3Room _ line) (setL3 _ _ _)))

theorem l2Room (s : State) (a line : Nat) : s.AtHome (s.l2Room a line) := .ite (refl s) (trans (victim s _) (evictL2 _ _ _))

theorem setL2 (s : State) (a k : Nat) (x : L2Sector) : s.AtHome (s.setL2 a k x) := trans (l2Room s a _) (setDie rfl)

theorem touch (s : State) (a : Nat) (bypass : Bool) (l : List (Nat × Byte)) : s.AtHome (s.touch a bypass l) :=
  .ite (foldl (fun s k => trans (takeL3 s k) (setL2 _ _ _ _)) _ s) (refl s)

theorem reread (s : State) (k : Nat) : s.AtHome (s.reread k) := by
  refine .ite (refl s) (.ite ⟨⟨_, _, _, _, _, _, _, _, _, rfl⟩, fun j => ?_, fun _ w hw => ⟨w, hw, w.sameButLatch_refl⟩, fun _ h => h,
    fun _ => .refl _⟩ (refl s))
  simp only [State.ctx, mget, mfind_mmap]
  cases mfind s.ctxs j with
  | none => exact .refl _
  | some c => exact rfl

theorem uncount (s : State) (a k : Nat) : s.AtHome (s.uncount a k) := by
  unfold State.uncount
  split
  · exact refl s
  · exact setDie rfl

theorem setCount (s : State) (a k n : Nat) : s.AtHome (s.setCount a k n) := .ite (setDie rfl) (setL2 _ _ _ _)

theorem countRead (s : State) (a k n : Nat) : s.AtHome (s.countRead a k n) := by
  unfold State.countRead
  split
  · exact .ite (trans (reread s k) (trans (takeL3 _ k) (setL2 _ _ _ _))) (trans (reread s k) (trans (takeL3 _ k) (setCount _ _ _ _)))
  · refine .ite (refl s) (.ite (setCount _ _ _ _) ?_)
    split
    · exact refl s
    · exact setCount _ _ _ _

/-! ### Monitors -/

theorem onSaved (s : State) (k ctx : Nat) (f : Warp → Warp) : s.AtHome (s.onSaved k ctx f) := setCtx rfl

theorem onOwner (s : State) (k die asid : Nat) {f : Warp → Warp} (hf : ∀ w : Warp, w.sameButLatch (f w)) :
    s.AtHome (s.onOwner k die asid f) := by
  unfold State.onOwner
  split
  · next w hw => exact .ite (setWarp hw (hf w)) (onSaved _ _ _ _)
  · exact onSaved _ _ _ _

end State.AtHome

/-- A latched value changes nothing of a warp but what a monitor latches. -/
theorem Warp.sameButLatch_takeLatch (w : Warp) (m : Monitor) (x : Xword) : w.sameButLatch (w.takeLatch m x) := by
  unfold Warp.takeLatch
  simp only
  split
  · split
    · split <;> rfl
    all_goals rfl
  · split
    · split
      · split <;> rfl
      all_goals rfl
    · rfl

namespace State.AtHome

theorem latch (s : State) (a : Nat) (m : Monitor) (x : Xword) : s.AtHome (s.latch a m x) := by
  refine .ite ?_ (send s _)
  unfold State.onWaiter
  split
  · exact onOwner s _ _ _ fun w => w.sameButLatch_takeLatch m x
  · exact update s _ _ _ _ _ _

theorem testMonitors (s : State) (a : Nat) : s.AtHome (s.testMonitors a) :=
  .ite (trans (withMonitors s a _) (foldl (fun s m => latch s a m _) _ _)) (refl s)

/-! ### Writes, write-backs and releases -/

theorem homeWriteBy (s : State) (bypass : Bool) (l : List (Nat × Byte)) : s.AtHome (s.homeWriteBy bypass l) := by
  cases l with
  | nil => exact refl s
  | cons e r => exact trans (poke s _) (trans (touch _ _ _ _) (testMonitors _ _))

theorem homeWrite (s : State) (l : List (Nat × Byte)) : s.AtHome (s.homeWrite l) := homeWriteBy s false l

theorem pushLine (s : State) (ck line : Nat) : s.AtHome (s.pushLine ck line) := by
  simp only [State.pushLine]
  split
  · exact refl s
  · exact trans (setCore s ck _) (homeWrite _ _)

theorem recallLine (s : State) (a line : Nat) : s.AtHome (s.recall a line) := foldl (fun s ck => pushLine s ck line) _ s

theorem writeBackSector (s : State) (ck k : Nat) : s.AtHome (s.writeBackSector ck k) := by
  simp only [State.writeBackSector]
  split
  · exact refl s
  · exact .ite (refl s) (trans (setCore s ck _) (homeWrite _ _))

theorem flushCore (s : State) (ck : Nat) : s.AtHome (s.flushCore ck) :=
  trans (foldl (fun s k => writeBackSector s ck k) _ s) (foldl (fun s k => pushLine s ck k) _ _)

theorem flushExported (s : State) (ck : Nat) : s.AtHome (s.flushExported ck) :=
  trans (foldl (fun s k => writeBackSector s ck k) _ s) (foldl (fun s k => pushLine s ck k) _ _)

theorem releaseCore (s : State) (ck : Nat) : s.AtHome (s.releaseCore ck) := trans (flushCore s ck) (setDie rfl)

theorem pull (s : State) (a sig : Nat) : s.AtHome (s.pull a sig) := by
  unfold State.pull
  split
  · exact refl s
  · exact trans (foldl (fun s ck => flushCore s ck) _ s) (setDie rfl)

theorem pullAt (s : State) (pa n : Nat) : s.AtHome (s.pullAt pa n) :=
  foldl (f := fun s k => s.pull (ownerOf pa) (8 * k)) (fun s _ => pull s _ _) _ s

theorem pullAll (s : State) : s.AtHome s.pullAll := foldl (fun s a => foldl (fun s k => pull s a k) _ s) _ s

theorem homeRead (s : State) (pa n r : Nat) (acquire : Bool) : s.AtHome (s.homeRead pa n r acquire) :=
  have pulled : s.AtHome (if acquire then s.pullAt pa n else s) := .ite (pullAt s pa n) (refl s)
  have recalled := trans pulled (recallLine _ (ownerOf pa) (lineOf pa))
  .ite (trans recalled (countRead _ _ _ _)) recalled

theorem acquireCore (s : State) (ck : Nat) : s.AtHome (s.acquireCore ck) := setCore _ _ _

/-! ### The firmware's writes and events (19 R295, R297) -/

theorem cway (s : State) (c : Causeway) : s.AtHome { s with cway := c } := update s _ _ _ _ _ _

theorem counted (s : State) (p : Packet) : s.AtHome (s.counted p) := cway s _

theorem fwDeliver (fuel : Nat) (s : State) (dst : Nat) : s.AtHome (s.fwDeliver fuel dst) := by
  induction fuel generalizing s with
  | zero => exact refl s
  | succ n ih =>
    unfold State.fwDeliver
    simp only
    split
    · refine .ite ?_ (refl s)
      split
      · exact trans (trans (cway s _) (counted _ _)) (trans (homeWrite _ _) (ih _))
      · exact trans (trans (cway s _) (counted _ _)) (ih _)
      · exact refl s
    · exact refl s

theorem fwWriteSector (s : State) (l : List (Nat × Byte)) : s.AtHome (s.fwWriteSector l) := by
  cases l with
  | nil => exact refl s
  | cons e r => exact trans (send s _) (fwDeliver _ _ _)

theorem fwWrite (s : State) (l : List (Nat × Byte)) : s.AtHome (s.fwWrite l) := foldl (fun s _ => fwWriteSector s _) _ s

theorem homeReadAll (s : State) (pa n r : Nat) (acquire : Bool) : s.AtHome (s.homeReadAll pa n r acquire) :=
  foldl (fun s _ => homeRead s _ _ _ _) _ s

theorem ctxEvent (s : State) (die asid code agent : Nat) (x : Xword) : s.AtHome (s.ctxEvent die asid code agent x) := by
  have read := homeReadAll s ((s.ctx (ctxKey die asid)).evring + 8) 8 0 false
  exact .ite (refl s) (.ite (trans read (trans (fwWrite _ _) (fwWrite _ _))) (trans read (fwWrite _ _)))

end State.AtHome

end Sys2Proof.Machine
end

section
/-!
PROOFS. Barriers (11 R210 to R215, 14 R314, R316, R325): the object that each member leaves, and the trap of each failed check.
-/

namespace Sys2Proof.Machine
open Sys2Proof

/-! ### Objects of a gang -/

/-- An object of a gang after it has been replaced. -/
theorem State.barObj_setBarObj {s : State} {g : Nat} {x : Gang} (h : mfind s.gangs g = some x) (o : Nat) (b : BarObj) :
    (s.setBarObj g o b).barObj g o = b := by
  simp only [State.barObj, State.setBarObj, mupd, h, mfind_mput_same, mget_mset_same]

/-- The gang stays when its objects change. -/
theorem State.gang_setBarObj {s : State} {g : Nat} {x : Gang} (h : mfind s.gangs g = some x) (o : Nat) (b : BarObj) :
    ∃ y, mfind (s.setBarObj g o b).gangs g = some y := by
  simp only [State.setBarObj, mupd, h, mfind_mput_same]
  exact ⟨_, rfl⟩

/-- States with the same gangs have the same objects. -/
theorem State.barObj_congr {s t : State} (h : t.gangs = s.gangs) (g o : Nat) : t.barObj g o = s.barObj g o := by
  simp only [State.barObj, h]

/-! ### Phases -/

/-- A phase goes on while arrivals are missing. -/
theorem State.barComplete_of_lt {s : State} {g o : Nat} (h : slotCount (s.barObj g o).arrived < (s.barObj g o).expected) :
    s.barComplete g o = s := if_neg fun all => h.ne all.2

/-- The last arrival ends the phase, and warps that do not wait on the object stay as they are. -/
theorem State.barComplete_of_eq {s : State} {g o : Nat} {x : Gang} (hg : mfind s.gangs g = some x)
    (expects : (s.barObj g o).expected ≠ 0) (all : slotCount (s.barObj g o).arrived = (s.barObj g o).expected) :
    let b := s.barObj g o
    (s.barComplete g o).barObj g o = { b with phase := b.phase + 1, arrived := 0, waiters := 0, order := [], stuck := .no } ∧
      (∀ k w, s.warp k = some w → ∃ u, (s.barComplete g o).warp k = some u ∧ (w.stop ≠ .barrier o → u = w)) ∧
      ∃ warps gangs, s.barComplete g o = { s with warps := warps, gangs := gangs } := by
  intro b
  have body : s.barComplete g o = _ := if_pos ⟨expects, all⟩
  have warps : (s.barComplete g o).warps = mmap (fun w => if w.gang = g ∧ w.stop = .barrier o then w.wake else w) s.warps := by
    rw [body]
    rfl
  refine ⟨by rw [body]; exact State.barObj_setBarObj hg o _, fun k w hw => ?_, _, _, body⟩
  have hw : mfind s.warps k = some w := hw
  refine ⟨if w.gang = g ∧ w.stop = .barrier o then w.wake else w, ?_, fun other => if_neg fun h => other h.2⟩
  rw [State.warp, warps, mfind_mmap, hw]
  rfl

/-- No trap is owed while members may still arrive. -/
theorem State.barStuck_of_free {s : State} {g o : Nat} (h : (s.barObj g o).blocked = false) : s.barStuck g o = s :=
  if_neg fun stuck => by simp [h] at stuck

theorem BarObj.blocked_of_arrived_ne {b : BarObj} (h : b.arrived ≠ b.members) : b.blocked = false := by simp [BarObj.blocked, h]

theorem BarObj.blocked_of_enough {b : BarObj} (h : b.expected ≤ slotCount b.members) : b.blocked = false := by
  simp [BarObj.blocked, h]

/-- The members that have arrived are all of them only where arrivals and members are equal in number. -/
theorem BarObj.blocked_of_none {b : BarObj} (h : b.arrived = 0) : b.blocked = false := by
  by_cases hm : b.members = 0
  · simp [BarObj.blocked, hm]
  · exact blocked_of_arrived_ne (h ▸ fun e => hm e.symm)

/-- A phase has gone past the one before it. -/
theorem BarObj.past_next {b : BarObj} {p : BitVec 32} (h : b.phase = p + 1) : b.past (p.setWidth 64) = true := by
  have low : (p.setWidth 64).getLsbD 63 = false := by
    rw [BitVec.getLsbD_setWidth, BitVec.getLsbD_of_ge p 63 (by decide), Bool.and_false]
  have same : ((p.setWidth 64).setWidth 32 : BitVec 32) = p := by
    rw [BitVec.setWidth_setWidth_of_le _ (by decide), BitVec.setWidth_eq]
  have one : (b.phase - (p.setWidth 64).setWidth 32).toNat = 1 := by
    rw [same, h, add_sub_cancel_left]
    rfl
  simp only [BarObj.past, low, Bool.false_eq_true, if_false, one]
  decide

/-! ### Members (R311, R314, R316, R324, R325) -/

section
variable {s : State} {c : Cur} {w : Warp} {g : Gang} {o : BitVec 4}

/-- The checks of `barinit` pass. -/
theorem barinit_fits {mask members : Nat} {x : Xword} {live : BitVec 256} (some_ : mask ≠ 0) (within : mask < 2 ^ members)
    (small : mask < 2 ^ 8) (count : x = 0 ∨ (slotCount live ≤ x.toNat ∧ x.toNat ≤ 256)) :
    ¬(mask = 0 ∨ 2 ^ 8 ≤ mask ∨ 2 ^ members ≤ mask ∨ (if x = 0 then slotCount live else x.toNat) < slotCount live ∨
      256 < if x = 0 then slotCount live else x.toNat) := by
  have atMost : slotCount live ≤ 256 := (List.length_filter_le _ _).trans (by simp)
  by_cases hx : x = 0
  · simp only [if_pos hx]
    omega
  · obtain ⟨least, most⟩ := count.resolve_left hx
    simp only [if_neg hx]
    omega

/-- `barinit` of a checked mask and count makes the object. -/
theorem ends_barinit (h : Issues s c w) (hu : w.priv = false) (hg : mfind s.gangs w.gang = some g) {d a : SReg}
    (some_ : (w.s d).toNat ≠ 0) (within : (w.s d).toNat < 2 ^ g.members) (small : (w.s d).toNat < 2 ^ 8)
    (fresh : (s.barObj w.gang o.toNat).arrived = 0)
    (count : w.s a = 0 ∨ (slotCount (s.liveSlots w.gang (w.s d).toNat) ≤ (w.s a).toNat ∧ (w.s a).toNat ≤ 256)) :
    let live := s.liveSlots w.gang (w.s d).toNat
    Ends (.barinit o d a) s c (s.setBarObj w.gang o.toNat { s.barObj w.gang o.toNat with
      members := live, expected := if w.s a = 0 then slotCount live else (w.s a).toNat, ready := true, stuck := .no }) := by
  intro live
  refine ends_userOnly h hu (free_nil w) rfl ?_
  simp only [hg]
  rw [if_neg (barinit_fits some_ within small count), if_neg (not_not.2 fresh)]

/-- A wait on a past phase completes as an acquire of the core. -/
theorem ends_bwait_past (h : Issues s c w) (hu : w.priv = false) {d a : SReg} (ha : a ≠ 0)
    (zero : (w.s a).toNat / 2 ^ 32 % 2 ^ 31 = 0) (past : (s.barObj w.gang o.toNat).past (w.s a) = true) :
    Ends (.bwait d o a) s c
      ((s.setWarp c.warp (w.setS d ((s.barObj w.gang o.toNat).phase.setWidth 64))).acquireCore w.coreK) := by
  refine ends_userOnly h hu (free_nil w) rfl ?_
  simp only [if_neg ha, if_neg (not_not.2 zero), State.barPast]
  exact if_pos past

/-- The arrival of a member: a release of its core, and its bit among the arrived. -/
def State.arrivedAt (s : State) (w : Warp) (o : Nat) : State :=
  (s.releaseCore w.coreK).setBarObj w.gang o
    { s.barObj w.gang o with arrived := (s.barObj w.gang o).arrived ||| slotBit w.gangSlot }

theorem State.barArrive_eq (s : State) (w : Warp) (o : Nat) : s.barArrive w o = (s.arrivedAt w o).barComplete w.gang o := by
  have same := State.barObj_congr (State.AtHome.releaseCore s w.coreK).gangs w.gang o
  simp only [State.barArrive, State.arrivedAt, same]

theorem State.barObj_arrivedAt (hg : mfind s.gangs w.gang = some g) (o : Nat) : (s.arrivedAt w o).barObj w.gang o =
    { s.barObj w.gang o with arrived := (s.barObj w.gang o).arrived ||| slotBit w.gangSlot } :=
  State.barObj_setBarObj (by rw [(State.AtHome.releaseCore s w.coreK).gangs]; exact hg) o _

theorem State.gang_arrivedAt (hg : mfind s.gangs w.gang = some g) (o : Nat) :
    ∃ y, mfind (s.arrivedAt w o).gangs w.gang = some y :=
  State.gang_setBarObj (by rw [(State.AtHome.releaseCore s w.coreK).gangs]; exact hg) o _

/-- `arrive` of a member that has not arrived. -/
theorem ends_arrive (h : Issues s c w) (hu : w.priv = false) (ready : (s.barObj w.gang o.toNat).ready = true)
    (member : (s.barObj w.gang o.toNat).members.getLsbD w.gangSlot = true)
    (first : (s.barObj w.gang o.toNat).arrived.getLsbD w.gangSlot = false) (d : SReg) :
    Ends (.arrive d o) s c ((((s.arrivedAt w o.toNat).barComplete w.gang o.toNat).onWarp c.warp fun x =>
      x.setS d ((s.barObj w.gang o.toNat).phase.setWidth 64)).barStuck w.gang o.toNat) := by
  have checked : (s.barObj w.gang o.toNat).arriveFault w.gangSlot = none := by simp [BarObj.arriveFault, ready, member]
  refine ends_userOnly h hu (free_nil w) rfl ?_
  simp only [checked, first, Bool.false_eq_true, if_false, State.barArrive_eq]

/-- A warp that has arrived by `bsync` with phase p of object n. -/
def Warp.syncsAt (w : Warp) (n : Nat) (p : BitVec 32) : Warp := { w with bsync := some (n, p) }

/-- `bsync` of a member that has not arrived waits for the phase of its arrival to end. -/
theorem exec_bsync (h : Issues s c w) (hu : w.priv = false) {b : BarObj} (hb : s.barObj w.gang o.toNat = b)
    (ready : b.ready = true) (member : b.members.getLsbD w.gangSlot = true) (first : b.arrived.getLsbD w.gangSlot = false)
    (open_ : w.bsync = none) (d : SReg) :
    exec (.bsync d o) s = State.settle c
      ((((s.setWarp c.warp (w.syncsAt o.toNat b.phase)).arrivedAt (w.syncsAt o.toNat b.phase) o.toNat).barComplete
        w.gang o.toNat).barPast c (w.syncsAt o.toNat b.phase) d o.toNat (b.phase.setWidth 64) (b.phase.setWidth 64)) := by
  have checked : b.arriveFault w.gangSlot = none := by simp [BarObj.arriveFault, ready, member]
  have body : exec (.bsync d o) s = _ := run_userOnly h hu (free_nil w) _
  rw [body]
  simp only [open_, hb, checked, first, Bool.false_eq_true, if_false, State.barArrive_eq]
  rfl

theorem getLsbD_slotBit (k i : Nat) : (slotBit k).getLsbD i = (decide (i < 256) && decide (k = i)) := by
  rw [slotBit, BitVec.getLsbD_ofNat, Nat.testBit_two_pow]

/-- A slot fewer. -/
theorem slotCount_without {b : BitVec 256} {k : Nat} (h : b.getLsbD k = true) : slotCount (b &&& ~~~slotBit k) + 1 = slotCount b := by
  have card (x : BitVec 256) : slotCount x = ((Finset.range 256).filter fun i => x.getLsbD i = true).card :=
    (List.toFinset_card_of_nodup (List.nodup_range.filter _)).symm.trans (congrArg Finset.card (by ext; simp))
  have hk : k < 256 := by
    by_contra far
    rw [BitVec.getLsbD_of_ge _ _ (by omega)] at h
    exact absurd h (by decide)
  have others : (Finset.range 256).filter (fun i => (b &&& ~~~slotBit k).getLsbD i = true) =
      ((Finset.range 256).filter fun i => b.getLsbD i = true).erase k := by
    ext i
    simp only [Finset.mem_filter, Finset.mem_erase, Finset.mem_range, BitVec.getLsbD_and, BitVec.getLsbD_not, getLsbD_slotBit]
    by_cases hi : k = i
    · subst hi
      simp only [hk, decide_true, Bool.and_true, Bool.not_true, Bool.and_false, Bool.false_eq_true, and_false, ne_eq, not_true,
        false_and]
    · simp only [hi, decide_false, Bool.and_false, Bool.not_false, Bool.and_true, Bool.and_eq_true, decide_eq_true_eq]
      exact ⟨fun ⟨hr, hb, _⟩ => ⟨fun e => hi e.symm, hr, hb⟩, fun ⟨_, hr, hb⟩ => ⟨hr, hb, hr⟩⟩
  rw [card, card, others]
  exact Finset.card_erase_add_one (by simp [hk, h])

/-- A member that leaves an object, where no arrival is expected beyond its members'. -/
theorem State.members_barRemove (hg : mfind s.gangs w.gang = some g) (n : Nat)
    (member : (s.barObj w.gang n).members.getLsbD w.gangSlot = true)
    (few : (s.barObj w.gang n).expected ≤ slotCount (s.barObj w.gang n).members) :
    ((s.barRemove w.gang n w.gangSlot).barObj w.gang n).members = (s.barObj w.gang n).members &&& ~~~slotBit w.gangSlot := by
  have fewer := slotCount_without member
  generalize hb : s.barObj w.gang n = b at *
  let left : BarObj := { b with members := b.members &&& ~~~slotBit w.gangSlot, arrived := b.arrived &&& ~~~slotBit w.gangSlot,
                                expected := b.expected - 1 }
  have body : s.barRemove w.gang n w.gangSlot = if left.members = 0 then
      s.setBarObj w.gang n { left with ready := false, expected := 0 }
      else ((s.setBarObj w.gang n left).barComplete w.gang n).barStuck w.gang n := by
    rw [State.barRemove, hb]
  have read := State.barObj_setBarObj (s := s) hg n left
  obtain ⟨y, hy⟩ := State.gang_setBarObj (s := s) hg n left
  rw [body]
  split
  · rw [State.barObj_setBarObj hg]
  · have enough : left.expected ≤ slotCount left.members := by
      simp only [left]
      omega
    by_cases ends : left.expected ≠ 0 ∧ slotCount left.arrived = left.expected
    · obtain ⟨after, _⟩ := State.barComplete_of_eq (o := n) hy (by rw [read]; exact ends.1) (by rw [read]; exact ends.2)
      rw [read] at after
      rw [State.barStuck_of_free (by rw [after]; exact BarObj.blocked_of_none rfl), after]
    · have goes : (s.setBarObj w.gang n left).barComplete w.gang n = s.setBarObj w.gang n left := if_neg (by rw [read]; exact ends)
      rw [goes, State.barStuck_of_free (by rw [read]; exact BarObj.blocked_of_enough enough), read]


end

/-- A group traps where a check of the object fails. -/
theorem traps_bar {s : State} {c : Cur} {w : Warp} (h : Issues s c w) (hu : w.priv = false) {i : Instr} {o : BitVec 4} {kind : Nat}
    {body : Cur → Warp → Effect} (he : exec i s = s.run (userOnly []) body)
    (hb : body c w = .trap s 0x0A ((s.barObj w.gang o.toNat).info o.toNat kind) false) :
    Traps i s c false 0x0A (BitVec.ofNat 64 (o.toNat + 2 ^ 4 * kind + 2 ^ 8 * (s.barObj w.gang o.toNat).expected +
      2 ^ 17 * slotCount (s.barObj w.gang o.toNat).members)) :=
  traps_userOnly h hu (free_nil w) he hb

/-- Settles O30: each check of the members of BAR, in their order. -/
theorem barrierTraps : Obligations.BarrierTraps := by
  unfold Obligations.BarrierTraps
  intro s c w o d a h hu b traps mask live
  refine ⟨fun closed => ?_, fun ready other => ?_, fun ha high => ?_, fun bad => ?_, fun g hg some_ small within count busy => ?_⟩
  · have fault : b.arriveFault w.gangSlot = some 3 := by simp [BarObj.arriveFault, closed]
    refine ⟨traps_bar h hu rfl ?_, traps_bar h hu rfl ?_, fun open_ => traps_bar h hu rfl ?_⟩
    · simp only [b] at fault
      simp only [fault]
    · simp only [b] at closed
      simp only [closed, Bool.not_false, if_true]
    · simp only [b] at fault
      simp only [open_, fault]
  · have fault : b.arriveFault w.gangSlot = some 2 := by simp [BarObj.arriveFault, ready, other]
    simp only [b] at fault
    refine ⟨traps_bar h hu rfl ?_, fun open_ => traps_bar h hu rfl ?_⟩
    · simp only [fault]
    · simp only [open_, fault]
  · refine traps_bar h hu rfl ?_
    rw [if_neg ha, if_pos high]
  · refine traps_bar h hu rfl (if_pos ?_)
    rcases bad with zero | big | ⟨g, hg, past⟩ | ⟨given, low | high⟩
    · exact .inl zero
    · exact .inr (.inl big)
    · simp only [hg]
      exact .inr (.inr (.inl past))
    · rw [if_neg given]
      exact .inr (.inr (.inr (.inl low)))
    · rw [if_neg given]
      exact .inr (.inr (.inr (.inr high)))
  · refine traps_bar h hu rfl ((if_neg ?_).trans (if_pos busy))
    simp only [hg]
    exact barinit_fits some_ within small count

section
variable {s : State} {c : Cur} {w : Warp} {g : Gang} {o : BitVec 4}

/-- An arrival that is not the last leaves its warp among the arrived. -/
theorem arrive_waits (h : Issues s c w) (hu : w.priv = false) (hg : mfind s.gangs w.gang = some g) {b : BarObj}
    (hb : s.barObj w.gang o.toNat = b) (ready : b.ready = true) (member : b.members.getLsbD w.gangSlot = true)
    (first : b.arrived.getLsbD w.gangSlot = false) (clean : (s.core w.coreK).holdsDirty = false)
    (missing : slotCount (b.arrived ||| slotBit w.gangSlot) < slotCount b.members)
    (few : slotCount (b.arrived ||| slotBit w.gangSlot) < b.expected) (d : SReg) :
    ∃ t : State, Ends (.arrive d o) s c t ∧ (t.barObj w.gang o.toNat).arrived = b.arrived ||| slotBit w.gangSlot ∧
      (t.barObj w.gang o.toNat).phase = b.phase ∧ t.warp c.warp = some (w.setS d (b.phase.setWidth 64)) := by
  have arrive := ends_arrive h hu (by rw [hb]; exact ready) (by rw [hb]; exact member) (by rw [hb]; exact first) d
  have read := State.barObj_arrivedAt (w := w) hg o.toNat
  have resident : (s.arrivedAt w o.toNat).warp c.warp = some w := by
    rw [State.arrivedAt, releaseCore_of_clean clean]
    exact h.warp
  rw [hb] at read arrive
  rw [State.barComplete_of_lt (by rw [read]; exact few), State.onWarp_some _ resident] at arrive
  have goes : ((s.arrivedAt w o.toNat).setWarp c.warp (w.setS d (b.phase.setWidth 64))).barObj w.gang o.toNat =
    { b with arrived := b.arrived ||| slotBit w.gangSlot } := read
  have waits : (b.arrived ||| slotBit w.gangSlot) ≠ b.members := fun same => by
    rw [← same] at missing
    exact absurd missing (lt_irrefl _)
  rw [State.barStuck_of_free (by rw [goes]; exact BarObj.blocked_of_arrived_ne waits)] at arrive
  exact ⟨_, arrive, by rw [goes], by rw [goes], State.warp_setWarp_same _ _ _⟩

/-- The last arrival advances the phase. -/
theorem arrive_advances (h : Issues s c w) (hu : w.priv = false) (hg : mfind s.gangs w.gang = some g) {b : BarObj}
    (hb : s.barObj w.gang o.toNat = b) (ready : b.ready = true) (member : b.members.getLsbD w.gangSlot = true)
    (first : b.arrived.getLsbD w.gangSlot = false) (clean : (s.core w.coreK).holdsDirty = false)
    (all : slotCount (b.arrived ||| slotBit w.gangSlot) = b.expected) (expects : b.expected ≠ 0) (d : SReg) :
    ∃ t : State, Ends (.arrive d o) s c t ∧ (t.barObj w.gang o.toNat).phase = b.phase + 1 ∧
      (t.barObj w.gang o.toNat).arrived = 0 ∧
      (w.stop = .running → t.warp c.warp = some (w.setS d (b.phase.setWidth 64))) := by
  have arrive := ends_arrive h hu (by rw [hb]; exact ready) (by rw [hb]; exact member) (by rw [hb]; exact first) d
  have read := State.barObj_arrivedAt (w := w) hg o.toNat
  obtain ⟨y, hy⟩ := State.gang_arrivedAt (w := w) hg o.toNat
  have resident : (s.arrivedAt w o.toNat).warp c.warp = some w := by
    rw [State.arrivedAt, releaseCore_of_clean clean]
    exact h.warp
  rw [hb] at read arrive
  obtain ⟨after, woken, -⟩ := State.barComplete_of_eq (o := o.toNat) hy (by rw [read]; exact expects) (by rw [read]; exact all)
  obtain ⟨u, hu', same⟩ := woken c.warp w resident
  rw [read] at after
  rw [State.onWarp_some _ hu'] at arrive
  have goes := after
  rw [← State.barObj_congr (State.setWarp_gangs _ c.warp (u.setS d (b.phase.setWidth 64)))] at goes
  rw [State.barStuck_of_free (by rw [goes]; exact BarObj.blocked_of_none rfl)] at arrive
  refine ⟨_, arrive, by rw [goes], by rw [goes], fun runs => ?_⟩
  rw [State.warp_setWarp_same, same (by simp [runs])]

/-- The last arrival leaves the object in its next phase. -/
theorem State.barObj_lastArrival {v : State} {u : Warp} {n : Nat} {b : BarObj} (hg : mfind v.gangs u.gang = some g)
    (hb : v.barObj u.gang n = b) (all : slotCount (b.arrived ||| slotBit u.gangSlot) = b.expected) (expects : b.expected ≠ 0) :
    (((v.arrivedAt u n).barComplete u.gang n).barObj u.gang n).phase = b.phase + 1 := by
  have read := State.barObj_arrivedAt hg n
  obtain ⟨y, hy⟩ := State.gang_arrivedAt hg n
  rw [hb] at read
  obtain ⟨after, -, -⟩ := State.barComplete_of_eq (o := n) hy (by rw [read]; exact expects) (by rw [read]; exact all)
  rw [after, read]

theorem State.warp_acquireCore (v : State) (ck k : Nat) : (v.acquireCore ck).warp k = v.warp k := rfl
theorem State.barObj_acquireCore (v : State) (ck g n : Nat) : (v.acquireCore ck).barObj g n = v.barObj g n := rfl
theorem State.barObj_setWarp (v : State) (k : Nat) (u : Warp) (g n : Nat) : (v.setWarp k u).barObj g n = v.barObj g n := rfl

/-- A wait on a past phase completes. -/
theorem settle_barPast {v : State} {u : Warp} {d : SReg} {n : Nat} {t x : Xword} (past : (v.barObj u.gang n).past t = true) :
    State.settle c (v.barPast c u d n t x) = .next (((v.setWarp c.warp (u.setS d x)).acquireCore u.coreK).complete c false) := by
  simp only [State.barPast, past, if_true]
  rfl

/-- `bsync` of the last member completes with the phase that its arrival has ended. -/
theorem bsync_completes (h : Issues s c w) (hu : w.priv = false) (hg : mfind s.gangs w.gang = some g) {b : BarObj}
    (hb : s.barObj w.gang o.toNat = b) (ready : b.ready = true) (member : b.members.getLsbD w.gangSlot = true)
    (first : b.arrived.getLsbD w.gangSlot = false) (open_ : w.bsync = none)
    (all : slotCount (b.arrived ||| slotBit w.gangSlot) = b.expected) (expects : b.expected ≠ 0) (d : SReg) :
    ∃ t : State, Ends (.bsync d o) s c t ∧ (t.barObj w.gang o.toNat).phase = b.phase + 1 ∧
      ∃ u, t.warp c.warp = some u ∧ u.s d = if d = 0 then 0 else b.phase.setWidth 64 := by
  have next := State.barObj_lastArrival (v := s.setWarp c.warp (w.syncsAt o.toNat b.phase)) (u := w.syncsAt o.toNat b.phase)
    hg hb all expects
  have body := exec_bsync h hu hb ready member first open_ d
  refine ⟨_, body.trans (settle_barPast (BarObj.past_next next)), ?_, _,
    (State.warp_acquireCore _ _ _).trans (State.warp_setWarp_same _ _ _), ?_⟩
  · rw [State.barObj_acquireCore, State.barObj_setWarp]
    exact next
  rw [Warp.s_setS]
  by_cases hd : d = 0
  · simp [hd]
  · simp

end

/-- Settles O29: each member leaves the object as R211 has it. -/
theorem barrierPhases : Obligations.BarrierPhases := by
  unfold Obligations.BarrierPhases
  intro s c w g o h hu hg b
  have bit : BitVec.ofNat 256 (2 ^ w.gangSlot) = slotBit w.gangSlot := rfl
  refine ⟨?_, fun d a ha => ?_, fun d a ha high past => ?_, ?_, fun ready member first small open_ runs d all expects => ?_,
    fun ready => ?_⟩
  · intro d a some_ within small fresh live count
    exact ⟨_, ends_barinit h hu hg some_ within small fresh count, rfl, State.barObj_setBarObj hg _ _⟩
  · refine ends_userOnly h hu (free_nil w) rfl ?_
    exact if_pos ha
  · exact ⟨_, _, ends_bwait_past h hu ha high past, State.warp_setWarp_same _ _ _, rfl, fun _ => rfl⟩
  · intro ready member first clean _ _ d arrived
    exact ⟨fun missing few => arrive_waits h hu hg rfl ready member first clean missing few d,
      fun all expects => arrive_advances h hu hg rfl ready member first clean all expects d⟩
  · exact bsync_completes h hu hg rfl ready member first open_ all expects d
  · by_cases member : b.members.getLsbD w.gangSlot = true
    · refine ⟨s.barRemove w.gang o.toNat w.gangSlot, ends_userOnly h hu (free_nil w) rfl ?_, fun _ few => ?_⟩
      · simp only [b] at member ready
        simp only [ready, member, Bool.not_true, Bool.false_eq_true, if_false, if_true]
      · exact State.members_barRemove hg o.toNat member few
    · refine ⟨s, ends_userOnly h hu (free_nil w) rfl ?_, fun is => absurd is member⟩
      simp only [b] at member ready
      simp only [ready, member, Bool.not_true, Bool.false_eq_true, if_false]

end Sys2Proof.Machine
end

section
/-!
PROOFS. Translation (05 R118, R129 to R131): one entry of a walk, and where a translation comes from.
-/

namespace Sys2Proof.Machine
open Sys2Proof

/-! ### One entry of a table (R129, R130) -/

theorem fld_one_eq_one (x lo : Nat) : fld x lo 1 = 1 ↔ x.testBit lo = true := by
  rw [fld, pow_one, Nat.testBit_eq_decide_div_mod_eq, decide_eq_true_eq]

theorem fld_one_eq_zero (x lo : Nat) : fld x lo 1 = 0 ↔ ¬x.testBit lo = true := by
  rw [← fld_one_eq_one, fld, pow_one]
  omega

/-- The window of an address, by its bounds (R117). -/
theorem windowOf_cases (va : Nat) : (va < 2 ^ 55 ∧ windowOf va = .priv) ∨
    (2 ^ 55 ≤ va ∧ va < 2 ^ 55 + 2 ^ 54 ∧ windowOf va = .peer) ∨
    (2 ^ 55 + 2 ^ 54 ≤ va ∧ va < 2 ^ 56 ∧ windowOf va = .multicast) ∨
    (2 ^ 56 ≤ va ∧ va < 2 ^ 56 + 2 ^ 55 ∧ windowOf va = .host) ∨ (2 ^ 56 + 2 ^ 55 ≤ va ∧ windowOf va = .unused) := by
  unfold windowOf
  split_ifs with private_ peer multicast host
  · exact .inl ⟨private_, rfl⟩
  · exact .inr (.inl ⟨by omega, peer, rfl⟩)
  · exact .inr (.inr (.inl ⟨by omega, multicast, rfl⟩))
  · exact .inr (.inr (.inr (.inl ⟨by omega, host, rfl⟩)))
  · exact .inr (.inr (.inr (.inr ⟨by omega, rfl⟩)))

/-- The owners that a leaf may name, by the window of its address (R118). -/
theorem ownerAllowed_iff (die va owner : Nat) : ownerAllowed die va owner = true ↔
    (va < 2 ^ 55 ∧ owner = die) ∨ (2 ^ 55 ≤ va ∧ va < 2 ^ 55 + 2 ^ 54 ∧ owner < 8 ∧ owner ≠ die) ∨
      (2 ^ 55 + 2 ^ 54 ≤ va ∧ va < 2 ^ 56 ∧ owner < 8) ∨ (2 ^ 56 ≤ va ∧ va < 2 ^ 56 + 2 ^ 55 ∧ owner = 8) := by
  rcases windowOf_cases va with ⟨hi, win⟩ | ⟨lo, hi, win⟩ | ⟨lo, hi, win⟩ | ⟨lo, hi, win⟩ | ⟨lo, win⟩ <;>
    simp only [ownerAllowed, win, beq_iff_eq, bne_iff_ne, Bool.and_eq_true, decide_eq_true_eq, Bool.false_eq_true, false_iff] <;>
    omega

/-- The conditions on a valid entry (R130). -/
theorem badEntry_iff (die va level w0 w1 : Nat) : 
    let addr := w0 / 2 ^ 7 % 2 ^ 45 * 2 ^ 7
    let leaf := w0.testBit 1 = true
    let fmt := w1 % 2 ^ 4
    let geom := w1 / 2 ^ 4 % 2 ^ 2
    let side := w1 / 2 ^ 8 % 2 ^ 44 * 2 ^ 8
    badEntry die va level w0 w1 = true ↔ w0.testBit 6 = true ∨ w0 / 2 ^ 52 % 2 ^ 12 ≠ 0 ∨
        (leaf ∧ (level = 0 ∨ addr % pageBytes level ≠ 0 ∨ ¬ownerAllowed die va (ownerOf addr) = true ∨ w1 / 2 ^ 6 % 2 ^ 2 ≠ 0 ∨
          w1 / 2 ^ 52 % 2 ^ 12 ≠ 0 ∨ ¬((fmt ≤ 2 ∧ geom = 0) ∨ (3 ≤ fmt ∧ fmt ≤ 8 ∧ geom = 1)) ∨
          (geom = 1 ∧ (side = 0 ∨ ownerOf side ≠ ownerOf addr ∨ memoryExists side (sideBytes fmt level) = false)))) ∨
        (¬leaf ∧ (level = 4 ∨ w1 ≠ 0 ∨ addr % (16 * levelEntries (level + 1)) ≠ 0)) := by
  intro addr leaf fmt geom side
  have hfmt : fld w1 0 4 = fmt := by simp [fld, fmt]
  have hgeom : fld w1 4 2 = geom := rfl
  have hside : fld w1 8 44 * 2 ^ 8 = side := rfl
  have reserved : fld w0 52 12 = w0 / 2 ^ 52 % 2 ^ 12 ∧ fld w1 6 2 = w1 / 2 ^ 6 % 2 ^ 2 ∧ fld w1 52 12 = w1 / 2 ^ 52 % 2 ^ 12 :=
    ⟨rfl, rfl, rfl⟩
  have dirty : (fld w0 6 1 != 0) = w0.testBit 6 := by
    rw [Bool.eq_iff_iff, bne_iff_ne, ne_eq, fld_one_eq_zero, not_not]
  obtain ⟨r0, r1, r2⟩ := reserved
  by_cases h : leaf
  · have bit : fld w0 1 1 = 1 := (fld_one_eq_one w0 1).2 h
    simp only [badEntry, bit, beq_self_eq_true, if_true, h, hfmt, hgeom, hside, r0, r1, r2, dirty, true_and, not_true, false_and,
      or_false, Bool.or_eq_true, bne_iff_ne, ne_eq, beq_iff_eq, Bool.not_eq_true', Bool.and_eq_true, decide_eq_false_iff_not,
      Bool.or_eq_false_iff, Bool.and_eq_false_iff, Bool.not_eq_true, beq_eq_false_iff_ne, not_or, not_and_or, or_assoc]
    rfl
  · have bit : (fld w0 1 1 == 1) = false := by simp [(fld_one_eq_zero w0 1).2 h]
    simp only [badEntry, bit, h, r0, dirty, Bool.false_eq_true, if_false, false_and, not_false_eq_true, true_and, false_or,
      Bool.or_eq_true, bne_iff_ne, ne_eq, beq_iff_eq, or_assoc]
    rfl

/-! ### A walk (R129 to R131) -/

/-- What a walk from a table of a level answers. -/
theorem walkFrom_succ (s : State) (die asid va fuel level table : Nat) :
    let at_ := table + 16 * (va / 2 ^ levelShift level % levelEntries level)
    let w0 := s.num at_ 8
    let w1 := s.num (at_ + 8) 8
    let answer := s.walkFrom die asid va (fuel + 1) level table
    (memoryExists at_ 16 = false → answer = .hole at_) ∧
    (memoryExists at_ 16 = true →
      (w0 % 2 = 0 → answer = if w0.testBit 4 = true then .replay else .absent) ∧
      (w0 % 2 = 1 → badEntry die va level w0 w1 = true → answer = .malformed) ∧
      (w0 % 2 = 1 → ¬badEntry die va level w0 w1 = true → ¬w0.testBit 1 = true →
        answer = s.walkFrom die asid va fuel (level + 1) (w0 / 2 ^ 7 % 2 ^ 45 * 2 ^ 7)) ∧
      (w0 % 2 = 1 → ¬badEntry die va level w0 w1 = true → w0.testBit 1 = true → answer = .leaf
        { asid := asid, va := va / pageBytes level * pageBytes level, level := level, pa := w0 / 2 ^ 7 % 2 ^ 45 * 2 ^ 7,
          canWrite := w0.testBit 2, canFetch := w0.testBit 3, exported := w0.testBit 5, fmt := w1 % 2 ^ 4,
          side := w1 / 2 ^ 8 % 2 ^ 44 * 2 ^ 8 })) := by
  intro at_ w0 w1 answer
  have bit (k : Nat) : (fld w0 k 1 == 1) = w0.testBit k := by
    rw [Bool.eq_iff_iff, beq_iff_eq, fld_one_eq_one]
  have valid : fld w0 0 1 = w0 % 2 := by simp [fld]
  refine ⟨fun none => ?_, fun there => ⟨fun v => ?_, fun v bad => ?_, fun v good table => ?_, fun v good leaf => ?_⟩⟩
  · simp only [answer, State.walkFrom, at_] at none ⊢
    simp [none]
  all_goals
    have body : answer = if fld w0 0 1 = 0 then (if fld w0 4 1 = 1 then .replay else .absent)
      else if badEntry die va level w0 w1 then .malformed
      else if fld w0 1 1 = 1 then
        .leaf { asid := asid, va := va / pageBytes level * pageBytes level, level := level, pa := w0 / 2 ^ 7 % 2 ^ 45 * 2 ^ 7,
                canWrite := fld w0 2 1 == 1, canFetch := fld w0 3 1 == 1, exported := fld w0 5 1 == 1,
                fmt := fld w1 0 4, side := fld w1 8 44 * 2 ^ 8 }
      else s.walkFrom die asid va fuel (level + 1) (w0 / 2 ^ 7 % 2 ^ 45 * 2 ^ 7) := by
      simp only [answer, State.walkFrom]
      exact if_pos there
    rw [body, valid, v]
  · simp only [if_true, fld_one_eq_one]
  · simp only [one_ne_zero, if_false, bad, if_true]
  · simp only [one_ne_zero, if_false, good, Bool.false_eq_true, fld_one_eq_one, table]
  · simp only [one_ne_zero, if_false, good, Bool.false_eq_true, fld_one_eq_one, leaf, if_true, bit]
    simp [fld]

/-! ### Where a translation comes from (R131) -/

/-- A TLB keeps the entry that fills it. -/
theorem mem_tlbFill {size : Nat} (t : List Leaf) (l : Leaf) (h : 0 < size) : l ∈ tlbFill size t l := by
  rw [tlbFill, List.drop_append_of_le_length (by omega)]
  exact List.mem_append_right _ (List.mem_singleton_self l)

section
variable {s : State} {ck asid va : Nat} {l : Leaf}

/-- A core's TLB after an entry has filled it. -/
def State.fillCore (s : State) (ck : Nat) (l : Leaf) : State := s.setCore ck { s.core ck with tlb := tlbFill 128 (s.core ck).tlb l }

/-- A die's TLB after an entry has filled it. -/
def State.fillDie (s : State) (die : Nat) (l : Leaf) : State := s.setDie die { s.die die with tlb := tlbFill 8192 (s.die die).tlb l }

theorem Core.mem_tlb {t : List Leaf} (c : Core) (h : l ∈ t) : l ∈ ({ c with tlb := t } : Core).tlb := h
theorem Die.mem_tlb {t : List Leaf} (d : Die) (h : l ∈ t) : l ∈ ({ d with tlb := t } : Die).tlb := h

theorem State.mem_tlb_fillCore (s : State) (ck : Nat) (l : Leaf) : l ∈ ((s.fillCore ck l).core ck).tlb := by
  rw [State.fillCore, State.core_setCore, if_pos rfl]
  exact Core.mem_tlb _ (mem_tlbFill _ _ (by omega))

theorem State.mem_tlb_fillDie (s : State) (die : Nat) (l : Leaf) : l ∈ ((s.fillDie die l).die die).tlb := by
  rw [State.fillDie, State.die_setDie, if_pos rfl]
  exact Die.mem_tlb _ (mem_tlbFill _ _ (by omega))

theorem State.die_fillCore (s : State) (ck k : Nat) (l : Leaf) : (s.fillCore ck l).die k = s.die k := by
  rw [State.fillCore, State.die_of_setCore]

theorem translate_of_core (h : (s.core ck).tlb.find? (fun l => l.covers asid va) = some l) :
    s.translate ck asid va = (s, .leaf l) := by
  simp only [State.translate, h]

theorem translate_of_die (none : (s.core ck).tlb.find? (fun l => l.covers asid va) = none)
    (h : (s.die (ck / 32)).tlb.find? (fun l => l.covers asid va) = some l) :
    s.translate ck asid va = (s.fillCore ck l, .leaf l) := by
  simp only [State.translate, none, h, State.fillCore]

theorem translate_of_walk (core : (s.core ck).tlb.find? (fun l => l.covers asid va) = none)
    (die : (s.die (ck / 32)).tlb.find? (fun l => l.covers asid va) = none) (h : s.walk (ck / 32) asid va = .leaf l) :
    s.translate ck asid va = ((s.fillDie (ck / 32) l).fillCore ck l, .leaf l) := by
  have same : (s.fillDie (ck / 32) l).core ck = s.core ck := State.core_of_setDie _ _ _ _
  rw [State.fillCore, same, State.fillDie]
  simp only [State.translate, core, die, h]

theorem translate_of_none (core : (s.core ck).tlb.find? (fun l => l.covers asid va) = none)
    (die : (s.die (ck / 32)).tlb.find? (fun l => l.covers asid va) = none) (h : ∀ l, s.walk (ck / 32) asid va ≠ .leaf l) :
    s.translate ck asid va = (s, s.walk (ck / 32) asid va) := by
  unfold State.translate
  cases hw : s.walk (ck / 32) asid va with
  | leaf l => exact absurd hw (h l)
  | replay | absent | malformed | hole => simp only [core, die, hw]

end

/-- The bits of an address that each level indexes by, its page and the table below it (R129). -/
theorem level_facts : ∀ e ∈ [(0, 44, 13), (1, 32, 12), (2, 29, 3), (3, 21, 8), (4, 16, 5)],
    2 ^ levelShift e.1 = 2 ^ e.2.1 ∧ levelEntries e.1 = 2 ^ e.2.2 ∧ (e.1 ≠ 0 → pageBytes e.1 = 2 ^ e.2.1) ∧
      (e.1 ≠ 4 → levelEntries (e.1 + 1) = 2 ^ [12, 3, 8, 5].getD e.1 0) := by
  decide

/-- Settles O25: the entry of a walk by its fields; the core's TLB, the die's and a walk in turn. -/
theorem translation : Obligations.Translation := by
  unfold Obligations.Translation
  refine ⟨fun s die asid va fuel table => ⟨rfl, ?_⟩, fun s ck asid va => ⟨fun x => ?_, fun l core => translate_of_core core,
    fun l core die => ⟨_, translate_of_die core die, rfl, s.mem_tlb_fillCore ck l, fun k hk => ?_⟩,
    fun core die => ⟨fun l leaf => ?_, translate_of_none core die⟩⟩⟩
  · intro e he level page at_ answer w0 w1 addr leaf fmt geom side owner owned next bad
    obtain ⟨shift, entries, pages, tables⟩ := level_facts e he
    have spec := walkFrom_succ s die asid va fuel level table
    rw [shift, entries] at spec
    obtain ⟨absent, there⟩ := spec
    have malformed : bad ↔ badEntry die va level w0 w1 = true := by
      have fields := badEntry_iff die va level w0 w1
      simp only [ownerAllowed_iff] at fields
      refine Iff.trans ?_ fields.symm
      refine or_congr Iff.rfl (or_congr Iff.rfl (or_congr (and_congr_right fun _ => ?_) (and_congr_right fun _ => ?_)))
      · by_cases top : level = 0
        · exact iff_of_true (.inl top) (.inl top)
        · rw [pages top]
          rfl
      · by_cases last : level = 4
        · exact iff_of_true (.inl last) (.inl last)
        · rw [tables last]
    refine ⟨absent, fun exists_ => ?_⟩
    obtain ⟨invalid, wrong, below, found⟩ := there exists_
    rw [← malformed] at wrong below found
    refine ⟨invalid, wrong, below, fun valid good isLeaf => ?_⟩
    have top : level ≠ 0 := fun h0 => good (.inr (.inr (.inl ⟨isLeaf, .inl h0⟩)))
    have answered := found valid good isLeaf
    rw [pages top] at answered
    exact answered
  · obtain ⟨cores, dies, tick, shape⟩ : ∃ cores dies tick, (s.translate ck asid va).1 = { s with
      cores := cores, dies := dies, tick := tick } := by
        have := State.fetchesTo_translate s ck asid va
        exact ⟨_, _, _, this⟩
    rw [shape]
    rfl
  · rw [State.fillCore, State.core_setCore, if_neg hk]
  · rw [translate_of_walk core die leaf]
    refine ⟨rfl, State.mem_tlb_fillCore _ ck l, ?_⟩
    rw [State.die_fillCore]
    exact State.mem_tlb_fillDie s (ck / 32) l

end Sys2Proof.Machine
end

section
/-!
PROOFS. What the memory instructions share (05 R121, R132, R133): the checks of their lanes, and where they trap.
-/

namespace Sys2Proof.Machine
open Sys2Proof

/-! ### Lanes in their order -/

/-- The first lane of a set that a test finds something of. -/
theorem findSome_lanesOf {β : Type} {f : Nat → Option β} {s : LaneSet} {l : Nat} {x : β} (h64 : l < 64) (hs : s.getLsbD l = true)
    (hx : f l = some x) (before : ∀ j, j < l → s.getLsbD j = true → f j = none) : (lanesOf s).findSome? f = some x := by
  have mem : l ∈ lanesOf s := by simp [lanesOf, h64, hs]
  obtain ⟨front, back, split⟩ := List.append_of_mem mem
  have rising := lanesOf_rising s
  rw [split] at rising
  refine List.findSome?_eq_some_iff.2 ⟨front, l, back, split, hx, fun j hj => before j ?_ ?_⟩
  · exact (List.pairwise_append.1 rising).2.2 j hj l (List.mem_cons_self ..)
  · have : j ∈ lanesOf s := by rw [split]; exact List.mem_append_left _ hj
    exact (List.mem_filter.1 this).2

/-- The lanes of a set of one. -/
theorem lanesOf_laneBit {i : Nat} (h : i < 64) : lanesOf (laneBit i) = [i] := by
  have only : ∀ x ∈ lanesOf (laneBit i), x = i := fun x hx => by
    obtain ⟨range, bit⟩ := List.mem_filter.1 hx
    have h64 : x < 64 := by simpa using range
    rw [getLsbD_laneBit i h64] at bit
    exact of_decide_eq_true bit
  have mem : i ∈ lanesOf (laneBit i) := by simp [lanesOf, h, getLsbD_laneBit i h]
  have rising := lanesOf_rising (laneBit i)
  match hl : lanesOf (laneBit i) with
  | [] => rw [hl] at mem; exact absurd mem (by simp)
  | [x] => rw [hl] at only; rw [only x (by simp)]
  | x :: y :: r =>
    rw [hl] at only rising
    have := (List.pairwise_cons.1 rising).1 y (by simp)
    rw [only x (by simp), only y (by simp)] at this
    exact absurd this (lt_irrefl _)

theorem Warp.addrs_laneBit {w : Warp} {lanes : LaneSet} {a : SReg} {b : VReg} {e : MemExt} {n i : Nat} (h : i < 64)
    (hl : lanes = laneBit i) : w.addrs lanes a b e n = [(i, w.addr a b e n i)] := by
  rw [hl, Warp.addrs, lanesOf_laneBit h]
  rfl

/-! ### Before an access -/

section
variable {s : State} {c : Cur} {w : Warp}

/-- A memory instruction over free registers that no acquire holds back and that a counter has room for is its body. -/
theorem run_memory {names : List Nat} {b : VReg} (h : Issues s c w) (hf : w.free (names ++ offsetNames b))
    (ha : w.mayAccess c.lanes) (hl : w.loads.length < 31) (counted : Bool) (body : Cur → Warp → Effect) :
    s.run (memNeeds names b counted) body = State.settle c (body c w) := by
  have checked : (memNeeds names b counted).check w = none := uses_check hf
  exact run_of h checked (awaits_access hf ha hl) body

variable (h : Issues s c w) (ha : w.mayAccess c.lanes) (hl : w.loads.length < 31) (hs : w.storesFull = false)
  (d : VReg) (a : SReg) (b : VReg) (ext : Option MemExt)
include h ha hl

theorem exec_ld {t : Ty} (hf : w.free (groupNames d t.regs ++ offsetNames b)) : exec (.ld t d a b ext) s = State.settle c
    (if (extOf ext).inLocal then s.ldLocal c w t d a b (extOf ext) else s.ldGlobal c w t d a b (extOf ext)) :=
  run_memory h hf ha hl _ _

theorem exec_atom {op : AtomOp} (hf : w.free (groupNames d op.regs ++ offsetNames b)) :
    exec (.atom op d a b ext) s = State.settle c
      (let l := w.addrs c.lanes a b (extOf ext) (atomBytes op)
      if (extOf ext).inLocal then s.atomicLocal c w op.wide d l fun i old => atomApply op old (w.operand op.wide d.toNat i)
      else s.atomicGlobal c w op.wide d l (extOf ext) (fun i => w.operand op.wide d.toNat i) (fun s l => s.homeAtomics op l)
        fun l req => .atomicReq op l (acquireOf (extOf ext)).isSome req) :=
  run_memory h hf ha hl _ _

theorem exec_cas {wide : Bool} (hf : w.free (groupNames d (if wide then 4 else 2) ++ offsetNames b)) :
    exec (.cas wide d a b ext) s = State.settle c
      (let l := w.addrs c.lanes a b (extOf ext) (if wide then 8 else 4)
      let cmp := fun i => w.operand wide d.toNat i
      let new := fun i => w.operand wide (d.toNat + if wide then 2 else 1) i
      if (extOf ext).inLocal then s.atomicLocal c w wide d l fun i old => casApply old (cmp i) (new i)
      else s.atomicGlobal c w wide d l (extOf ext) (fun i => (cmp i, new i)) (fun s l => s.homeCases wide l)
        fun l req => .casReq wide l (acquireOf (extOf ext)).isSome req) :=
  run_memory h hf ha hl _ _

include hs

theorem exec_st {t : Ty} (hf : w.free (groupNames d t.regs ++ offsetNames b)) : exec (.st t d a b ext) s = State.settle c
    (if (extOf ext).inLocal then s.stLocal c w t d b a (extOf ext) else s.stGlobal c w t d b a (extOf ext)) := by
  refine (run_memory h hf ha hl _ _).trans ?_
  rw [hs]
  rfl

theorem exec_red {op : AtomOp} (hf : w.free (groupNames d op.regs ++ offsetNames b)) :
    exec (.red op d a b ext) s = State.settle c
      (let l := w.addrs c.lanes a b (extOf ext) (atomBytes op)
      if (extOf ext).inLocal then
        match s.localFault w (atomBytes op) l with
        | some (cause, info) => .trap s cause info false
        | none => .done (s.localUpdates w.gang (atomBytes op) l fun i old => atomApply op old (w.operand op.wide d.toNat i)).1
      else s.redGlobal c w op d l (extOf ext)) := by
  refine (run_memory h hf ha hl _ _).trans ?_
  rw [hs]
  rfl

end

/-! ### Where an access traps -/

/-- The first lane that fails a check of local memory (R121). -/
theorem localFault_first {s : State} {w : Warp} {lanes : LaneSet} {a : SReg} {b : VReg} {e : MemExt} {n l : Nat} (h64 : l < 64)
    (hs : lanes.getLsbD l = true)
    (before : ∀ j, j < l → lanes.getLsbD j = true →
      (w.addr a b e n j).toNat < s.regionBytes w.gang ∧ (w.addr a b e n j).toNat % n = 0) :
    let va := w.addr a b e n l
    (s.regionBytes w.gang ≤ va.toNat → s.localFault w n (w.addrs lanes a b e n) = some (0x06, faultInfo 2 va.toNat)) ∧
    (va.toNat < s.regionBytes w.gang → va.toNat % n ≠ 0 → s.localFault w n (w.addrs lanes a b e n) = some (0x04, va)) := by
  intro va
  have body : s.localFault w n (w.addrs lanes a b e n) = (lanesOf lanes).findSome? fun i =>
      if s.regionBytes w.gang ≤ (w.addr a b e n i).toNat then some (0x06, faultInfo 2 (w.addr a b e n i).toNat)
      else if (w.addr a b e n i).toNat % n ≠ 0 then some (0x04, w.addr a b e n i) else none := by
    rw [State.localFault, Warp.addrs, List.findSome?_map]
    rfl
  have earlier : ∀ j, j < l → lanes.getLsbD j = true →
      (if s.regionBytes w.gang ≤ (w.addr a b e n j).toNat then some (0x06, faultInfo 2 (w.addr a b e n j).toNat)
      else if (w.addr a b e n j).toNat % n ≠ 0 then some (0x04, w.addr a b e n j) else none) = none := fun j hj hjl => by
    obtain ⟨inside, aligned⟩ := before j hj hjl
    rw [if_neg (by omega), if_neg (by omega)]
  rw [body]
  exact ⟨fun out => findSome_lanesOf h64 hs (if_pos out) earlier,
    fun inside odd => findSome_lanesOf h64 hs ((if_neg (Nat.not_le.2 inside)).trans (if_pos odd)) earlier⟩

/-- One lane's failing check ends the instruction. -/
theorem place_trap {s v : State} {w : Warp} {want : Want} {n i cause : Nat} {fmtOk : Bool} {va info : Xword}
    (h : s.checkLane w.coreK w.asid want n fmtOk i va = (v, .trap cause info)) :
    s.place w want n fmtOk [(i, va)] = .ends (.trap v cause info false) := by
  have lanes : s.checkLanes w.coreK w.asid want n fmtOk [(i, va)] = (v, [(i, .trap cause info)]) := by
    simp [State.checkLanes, h]
  have judged : judge (if want = .store then blockChecks (rankChecks [(i, .trap cause info)])
      else rankChecks [(i, .trap cause info)]) = .trap cause info := by
    split <;> rfl
  simp only [State.place, lanes, judged]

section
variable {s : State} {c : Cur} {w : Warp} {want : Want} {n i : Nat} {fmtOk : Bool} {va : Xword}

/-- A lane in the unused range fails with XLATE kind 2. -/
theorem checkLane_unused (h : 2 ^ 56 + 2 ^ 55 ≤ va.toNat) : s.checkLane w.coreK w.asid want n fmtOk i va =
    (s, .trap 0x05 (faultInfo 2 va.toNat)) := by
  have unused : windowOf va.toNat = .unused := by
    rcases windowOf_cases va.toNat with ⟨hi, _⟩ | ⟨_, hi, _⟩ | ⟨_, hi, _⟩ | ⟨_, hi, _⟩ | ⟨_, win⟩
    · omega
    · omega
    · omega
    · omega
    · exact win
  simp only [State.checkLane, unused, if_true]

/-- A lane whose address no entry translates fails with XLATE kind 0, or 1 where an entry is malformed. -/
theorem checkLane_untranslated (h : va.toNat < 2 ^ 55 ∨ (want ≠ .atomic ∧ va.toNat < 2 ^ 56 + 2 ^ 55)) :
    (s.translate w.coreK w.asid va.toNat = (s, .absent) → s.checkLane w.coreK w.asid want n fmtOk i va =
      (s, .trap 0x05 (BitVec.ofNat 64 va.toNat))) ∧
    (s.translate w.coreK w.asid va.toNat = (s, .malformed) → s.checkLane w.coreK w.asid want n fmtOk i va =
      (s, .trap 0x05 (BitVec.ofNat 64 (2 ^ 60 + va.toNat)))) := by
  have used : windowOf va.toNat ≠ .unused := fun win => by
    rcases windowOf_cases va.toNat with ⟨_, other⟩ | ⟨_, _, other⟩ | ⟨_, _, other⟩ | ⟨_, _, other⟩ | ⟨lo, _⟩
    · simp [win] at other
    · simp [win] at other
    · simp [win] at other
    · simp [win] at other
    · omega
  have allowed : (decide (windowOf va.toNat = .multicast) && decide (want = .atomic)) = false := by
    rcases h with low | ⟨other, _⟩
    · have private_ : windowOf va.toNat = .priv := if_pos low
      simp [private_]
    · simp [other]
  have small : va.toNat % 2 ^ 57 = va.toNat := Nat.mod_eq_of_lt (by omega)
  have body : s.checkLane w.coreK w.asid want n fmtOk i va = _ := (if_neg used).trans (if_neg (by simpa using allowed))
  refine ⟨fun absent => ?_, fun malformed => ?_⟩
  · rw [body]
    simp only [absent, faultInfo, small, Nat.zero_mul, Nat.zero_add]
  · rw [body]
    simp only [malformed, faultInfo, small, Nat.one_mul]

/-- The traps of an instruction whose lanes are checked as R121 and R133 say. -/
theorem traps_access {j : Instr} {a : SReg} {b : VReg} {e : MemExt}
    (onLocal : e.inLocal = true → ∀ cause info, s.localFault w n (w.addrs c.lanes a b e n) = some (cause, info) →
      Traps j s c false cause info)
    (onGlobal : e.inLocal = false → ∀ x, s.place w want n fmtOk (w.addrs c.lanes a b e n) = .ends x →
      exec j s = State.settle c x) :
    let at_ (l : Nat) := w.addr a b e n l
    (e.inLocal = true → ∀ l, l < 64 → c.lanes.getLsbD l = true →
      (∀ j, j < l → c.lanes.getLsbD j = true → (at_ j).toNat < s.regionBytes w.gang ∧ (at_ j).toNat % n = 0) →
      (s.regionBytes w.gang ≤ (at_ l).toNat →
        Traps j s c false 0x06 (BitVec.ofNat 64 (2 * 2 ^ 60 + (at_ l).toNat % 2 ^ 57))) ∧
      ((at_ l).toNat < s.regionBytes w.gang → (at_ l).toNat % n ≠ 0 → Traps j s c false 0x04 (at_ l))) ∧
    (e.inLocal = false → ∀ l, l < 64 → c.lanes = laneBit l →
      let va := (at_ l).toNat
      (2 ^ 56 + 2 ^ 55 ≤ va → Traps j s c false 0x05 (BitVec.ofNat 64 (2 * 2 ^ 60 + va % 2 ^ 57))) ∧
      ((va < 2 ^ 55 ∨ (want ≠ .atomic ∧ va < 2 ^ 56 + 2 ^ 55)) →
        (s.translate w.coreK w.asid va = (s, .absent) → Traps j s c false 0x05 (BitVec.ofNat 64 va)) ∧
        (s.translate w.coreK w.asid va = (s, .malformed) → Traps j s c false 0x05 (BitVec.ofNat 64 (2 ^ 60 + va))))) := by
  intro at_
  refine ⟨fun inLocal l h64 hs before => ?_, fun inGlobal l h64 only => ?_⟩
  · obtain ⟨out, odd⟩ := localFault_first h64 hs before
    exact ⟨fun h => onLocal inLocal _ _ (out h), fun h h' => onLocal inLocal _ _ (odd h h')⟩
  · have traps {cause : Nat} {info : Xword}
        (fails : s.checkLane w.coreK w.asid want n fmtOk l (at_ l) = (s, .trap cause info)) : Traps j s c false cause info := by
      refine (onGlobal inGlobal (.trap s cause info false) ?_ :)
      rw [Warp.addrs_laneBit h64 only]
      exact place_trap fails
    exact ⟨fun h => traps (checkLane_unused h), fun h => ⟨fun none => traps ((checkLane_untranslated h).1 none),
      fun bad => traps ((checkLane_untranslated h).2 bad)⟩⟩

end

/-- Settles O24: each access has the checks of `traps_access`. -/
theorem memoryFaults : Obligations.MemoryFaults := by
  unfold Obligations.MemoryFaults
  intro s c w d a b ext h ha hl hs hb traps
  refine ⟨fun t _ => ⟨fun hf => ?_, fun hf => ?_⟩, fun op => ⟨fun hf => ?_, fun hf => ?_⟩, fun wide hf => ?_⟩
  · refine traps_access (fmtOk := tyFormatted t) (fun inLocal cause info fault => ?_) fun inGlobal x ends => ?_
    · rw [Traps, exec_ld h ha hl d a b ext (free_append.2 ⟨hf, hb⟩)]
      simp only [inLocal, if_true, State.ldLocal, fault]
      rfl
    · rw [exec_ld h ha hl d a b ext (free_append.2 ⟨hf, hb⟩)]
      simp only [inGlobal, Bool.false_eq_true, if_false, State.ldGlobal, ends]
  · refine traps_access (fmtOk := tyFormatted t) (fun inLocal cause info fault => ?_) fun inGlobal x ends => ?_
    · rw [Traps, exec_st h ha hl hs d a b ext (free_append.2 ⟨hf, hb⟩)]
      simp only [inLocal, if_true, State.stLocal, fault]
      rfl
    · rw [exec_st h ha hl hs d a b ext (free_append.2 ⟨hf, hb⟩)]
      simp only [inGlobal, Bool.false_eq_true, if_false, State.stGlobal, ends]
  · refine traps_access (fmtOk := false) (fun inLocal cause info fault => ?_) fun inGlobal x ends => ?_
    · rw [Traps, exec_atom h ha hl d a b ext (free_append.2 ⟨hf, hb⟩)]
      simp only [inLocal, if_true, State.atomicLocal]
      rw [show (if op.wide then 8 else 4 : Nat) = atomBytes op from rfl]
      simp only [fault]
      rfl
    · rw [exec_atom h ha hl d a b ext (free_append.2 ⟨hf, hb⟩)]
      simp only [inGlobal, Bool.false_eq_true, if_false, State.atomicGlobal]
      rw [show (if op.wide then 8 else 4 : Nat) = atomBytes op from rfl]
      simp only [ends]
  · refine traps_access (fmtOk := false) (fun inLocal cause info fault => ?_) fun inGlobal x ends => ?_
    · rw [Traps, exec_red h ha hl hs d a b ext (free_append.2 ⟨hf, hb⟩)]
      simp only [inLocal, if_true, fault]
      rfl
    · rw [exec_red h ha hl hs d a b ext (free_append.2 ⟨hf, hb⟩)]
      simp only [inGlobal, Bool.false_eq_true, if_false, State.redGlobal, ends]
  · refine traps_access (fmtOk := false) (fun inLocal cause info fault => ?_) fun inGlobal x ends => ?_
    · rw [Traps, exec_cas h ha hl d a b ext (free_append.2 ⟨hf, hb⟩)]
      simp only [inLocal, if_true, State.atomicLocal, fault]
      rfl
    · rw [exec_cas h ha hl d a b ext (free_append.2 ⟨hf, hb⟩)]
      simp only [inGlobal, Bool.false_eq_true, if_false, State.atomicGlobal, ends]

end Sys2Proof.Machine
end

section
/-!
PROOFS. A packet that is delivered in the step that sends it (07 R167, R170, R171, R173; 19 R292), where its channel is free.
-/

namespace Sys2Proof.Machine
open Sys2Proof

/-! ### Sending -/

/-- Only floor beats are under way on a channel, nothing waits at its source's port or has arrived. -/
theorem Causeway.clear_iff {c : Causeway} {i j : Nat} : c.clear i j = true ↔
    c.queuedAt i j = [] ∧ (∀ p ∈ c.fly i j, p.isBeat = true) ∧ c.waitingAt i j = [] := by
  simp [Causeway.clear, and_assoc]

/-- The causeway once a packet without entries has been put on its channel. -/
def Causeway.launched (c : Causeway) (p : Packet) : Causeway := c.putOn p []

/-- A packet that may be injected and has no entries to carry goes out alone. -/
theorem State.send_free {s : State} {p : Packet} (src : s.gone p.src = false) (dst : s.gone p.dst = false)
    (body : p.body ≠ .malformed) (none : s.cway.entriesFor p.src p.dst = []) (may : s.cway.mayInject p.src p.dst 1 = true) :
    s.send p = { s with cway := s.cway.launched p } := by
  have carriers : s.cway.carriersNow p.src p.dst = 0 := by simp [Causeway.carriersNow, none]
  have posted : s.cway.post p = s.cway.launched p := by
    rw [Causeway.post, carriers, Nat.zero_add, if_pos may, Causeway.send, if_neg body, none]
    rfl
  rw [State.send, src, dst, posted]
  rfl

theorem Causeway.fly_launched (c : Causeway) {p : Packet} (h : p.entries = []) :
    (c.launched p).fly p.src p.dst = c.fly p.src p.dst ++ [p] := by
  have same : ({ p with entries := [] } : Packet) = p := by rw [← h]
  simp only [Causeway.launched, Causeway.putOn, Causeway.fly, mget, mfind_mput_same, Option.getD_some]
  rw [same]
  rfl

/-- What has arrived on a channel, and the counts of deliveries and beats, stay when a packet is put on one. -/
theorem Causeway.launched_same (c : Causeway) (p : Packet) : (c.launched p).held = c.held ∧
    (c.launched p).delivered = c.delivered ∧ (c.launched p).beats = c.beats ∧ (c.launched p).outbox = c.outbox ∧
    (c.launched p).reseal = c.reseal ∧ (c.launched p).floors = c.floors := ⟨rfl, rfl, rfl, rfl, rfl, rfl⟩

/-! ### Delivery -/

/-- The first packet of a channel that is no beat. -/
theorem find_notBeat {l : List Packet} {p : Packet} (beats : ∀ q ∈ l, q.isBeat = true) (h : p.isBeat = false) :
    (l ++ [p]).find? (fun q => !q.isBeat) = some p := by
  rw [List.find?_append, List.find?_eq_none.2 (fun q hq => by simp [beats q hq])]
  simp [h]

theorem dropFirst_notBeat {l : List Packet} {p : Packet} (beats : ∀ q ∈ l, q.isBeat = true) (h : p.isBeat = false) :
    dropFirst (fun q => !q.isBeat) (l ++ [p]) = l := by
  induction l with
  | nil => simp [dropFirst, h]
  | cons q r ih =>
    have head : q.isBeat = true := beats q (by simp)
    simp only [List.cons_append, dropFirst, head, Bool.not_true, Bool.false_eq_true, if_false]
    rw [ih fun x hx => beats x (by simp [hx])]

/-- The holding buffer of a channel on which nothing has arrived takes a packet. -/
theorem Causeway.hasSlot_of_none {c : Causeway} {i j : Nat} (h : c.waitingAt i j = []) : c.hasSlot i j = true := by
  have used : (mget [] c.held (channelKey i j)).length = 0 := congrArg List.length h
  simp [Causeway.hasSlot, used]

/-- The state once the next packet of a channel has arrived, where nothing had before. -/
def State.arrived (s : State) (p : Packet) : State :=
  { s with cway := (s.cway.setFly p.src p.dst (dropFirst (fun q => !q.isBeat) (s.cway.fly p.src p.dst))).setHeld p.src p.dst [p] }

/-- The state once that packet has left the holding buffer and is counted. -/
def State.settled (s : State) (p : Packet) : State :=
  ({ s.arrived p with cway := (s.arrived p).cway.setHeld p.src p.dst [] } : State).counted p

theorem Causeway.waitingAt_setHeld (c : Causeway) (i j : Nat) (l : List Packet) : (c.setHeld i j l).waitingAt i j = l :=
  mget_mset_same _ _ _ _

section
variable {s : State} {p : Packet} {perform : State → Packet → State} {l : List Packet}
  (fly : s.cway.fly p.src p.dst = l ++ [p]) (beats : ∀ q ∈ l, q.isBeat = true) (notBeat : p.isBeat = false)
  (held : s.cway.waitingAt p.src p.dst = [])
include fly beats notBeat held

/-- A packet behind nothing but beats arrives next. -/
theorem State.arrive_only : s.arrive p.src p.dst = s.arrived p := by
  have next : (s.cway.fly p.src p.dst).find? (fun q => !q.isBeat) = some p := by rw [fly, find_notBeat beats notBeat]
  have waiting : (s.cway.setFly p.src p.dst (dropFirst (fun q => !q.isBeat) (s.cway.fly p.src p.dst))).waitingAt p.src p.dst = [] :=
    held
  simp only [State.arrive, next, Causeway.hasSlot_of_none held, if_true, waiting, List.nil_append]
  rfl

/-- It is delivered next. -/
theorem State.deliverNext_only (good : p.bad = false) (may : s.deliverable p = true) :
    s.deliverNext perform p.src p.dst = some ((perform (s.settled p) p).stirSender p) := by
  have waiting : (s.arrived p).cway.waitingAt p.src p.dst = [p] := Causeway.waitingAt_setHeld _ _ _ _
  have may : (s.arrived p).deliverable p = true := may
  simp only [State.deliverNext, State.arrive_only fly beats notBeat held, waiting, may, if_true, State.deliverBy, good,
    Bool.false_eq_true, if_false]
  rfl

/-- It is all that there is to deliver. -/
theorem State.drainChannel_only (good : p.bad = false) (may : s.deliverable p = true) :
    s.drainChannel perform p.src p.dst = some ((perform (s.settled p) p).stirSender p) := by
  have one : (s.cway.fly p.src p.dst).filter (fun q => !q.isBeat) = [p] := by
    rw [fly, List.filter_append, List.filter_eq_nil_iff.2 (fun q hq => by simp [beats q hq])]
    simp [notBeat]
  rw [State.drainChannel, one]
  exact State.deliverNext_only fly beats notBeat held good may

end

/-- A packet without entries is well formed between agents. -/
theorem Packet.good_of {p : Packet} (body : p.body ≠ .malformed) (entries : p.entries = []) (src : p.src ≤ 9) (dst : p.dst ≤ 9) :
    p.bad = false := by
  have hs : decide (9 < p.src) = false := decide_eq_false (by omega)
  have hd : decide (9 < p.dst) = false := decide_eq_false (by omega)
  simp [Packet.bad, body, entries, hs, hd]

/-- A packet without entries may be delivered while few deliveries have passed the last beat. -/
theorem State.deliverable_of {s : State} {p : Packet} (entries : p.entries = []) (few : s.pastBeat p.dst p.src ≤ 2 ^ 13) :
    s.deliverable p = true := by
  simp only [State.deliverable, entries, List.all_nil, Bool.or_true, Bool.true_and, decide_eq_true_eq]
  exact few

/-- Where its channel is free, a packet is delivered in the step that sends it, and is performed there. -/
theorem State.atOnce_free {s : State} {p : Packet} (perform : State → Packet → State) (free : s.channelFree p.src p.dst 1)
    (gone : s.gone p.src = false) (body : p.body ≠ .malformed) (notBeat : p.isBeat = false) (entries : p.entries = [])
    (src : p.src ≤ 9) (dst : p.dst ≤ 9) :
    s.atOnce perform p =
      some ((perform (({ s with cway := s.cway.launched p } : State).settled p) p).stirSender p) := by
  obtain ⟨here, clear, none, may, few⟩ := free
  obtain ⟨-, beats, held⟩ := Causeway.clear_iff.1 clear
  have carriers : s.cway.carriersNow p.src p.dst = 0 := by simp [Causeway.carriersNow, none]
  rw [State.atOnce, here, clear, carriers, Nat.zero_add, may, State.send_free gone here body none may]
  have held : (s.cway.launched p).waitingAt p.src p.dst = [] := held
  exact State.drainChannel_only (s := { s with cway := s.cway.launched p }) (s.cway.fly_launched entries) beats notBeat held
    (Packet.good_of body entries src dst) (State.deliverable_of entries (Nat.le_of_lt_succ (by
      have few : s.pastBeat p.dst p.src + 1 ≤ 2 ^ 13 + 1 := few
      exact few)))

/-- Nothing but the causeway changes on the way. -/
theorem State.settled_shape (s : State) (p : Packet) (c : Causeway) :
    (({ s with cway := c } : State).settled p) = { s with cway := (({ s with cway := c } : State).settled p).cway } := rfl

end Sys2Proof.Machine
end

section
/-!
PROOFS. Power limits (16 R257, R258, R271 to R273), through the accesses of H to the control aperture (19 R292, R293).
-/

namespace Sys2Proof.Machine
open Sys2Proof

/-! ### A write of H to a register -/

/-- The packet of an access of H to a register of an agent. -/
def registerPacket (a offset size : Nat) (v : Option Xword) (n : Nat) : Packet :=
  mkPacket 8 a 3 0 (.register offset size v n) none none

theorem State.stirSender_of {s : State} {p : Packet} (h : p.isAccess = false) : s.stirSender p = s := by
  simp [State.stirSender, h]

/-- A write to a register of an agent is performed there. -/
theorem performAll_register {a : Nat} (notHost : a ≠ 8) (offset size n : Nat) (v : Xword) (t : State) :
    (State.performAll t (registerPacket a offset size (some v) n)).stirSender (registerPacket a offset size (some v) n) =
      t.writeAperture (State.performWith 9) offset size v := by
  have body : State.performAll t (registerPacket a offset size (some v) n) =
      t.writeAperture (State.performWith 9) offset size v := by
    simp only [State.performAll, State.performWith, registerPacket, mkPacket, notHost, if_false]
  rw [body, State.stirSender_of rfl]

/-- A delivery that is counted keeps the stage of a reseal. -/
theorem State.counted_reseal (s : State) (p : Packet) : (s.counted p).cway.reseal = s.cway.reseal := by
  have keep {α : Type} {f : Causeway → α → Causeway} (hf : ∀ c x, (f c x).reseal = c.reseal) (l : List α) (c : Causeway) :
      (l.foldl f c).reseal = c.reseal :=
    foldl_rel (R := fun c d : Causeway => d.reseal = c.reseal) (fun _ => rfl) (fun h h' => h'.trans h) hf l c
  have merge (c : Causeway) (e : Nat × Nat × Nat) : (c.merge p.dst e).reseal = c.reseal := by
    unfold Causeway.merge
    split <;> rfl
  have count : (s.cway.count p).reseal = s.cway.reseal := by
    unfold Causeway.count
    simp only
    rw [keep merge]
    rfl
  exact (keep (f := fun c j => c.sendBeat p.dst j (c.deliveries p.dst)) (fun _ _ => rfl) _ _).trans count

/-- A write whose channel is free is performed in the step that sends it. -/
theorem hostAccess_write {s : State} {offset size a : Nat} {v : Xword} (agent : apertureAgent offset = a) (here : a ≤ 9)
    (notHost : a ≠ 8) (reach : s.hostReaches a) : ∃ c : Causeway, c.reseal = s.cway.reseal ∧ s.hostAccess offset size (some v) =
      ({ s with cway := c, nextId := s.nextId + 1 } : State).writeAperture (State.performWith 9) offset size v := by
  have sent := State.atOnce_free (s := { s with nextId := s.nextId + 1 })
    (p := registerPacket a offset size (some v) s.nextId) State.performAll reach rfl (by simp [registerPacket, mkPacket]) rfl rfl
    (by simp [registerPacket, mkPacket]) here
  rw [performAll_register notHost] at sent
  have access : s.hostAccess offset size (some v) =
      match ({ s with nextId := s.nextId + 1 } : State).atOnce State.performAll (registerPacket a offset size (some v) s.nextId) with
      | none => ({ s with nextId := s.nextId + 1 } : State).send (registerPacket a offset size (some v) s.nextId)
      | some t => t := by
    simp only [State.hostAccess, State.fresh, agent, Option.isNone_some, Bool.false_and, Bool.false_eq_true, if_false]
    rfl
  rw [access, sent]
  refine ⟨_, ?_, congrArg (fun t => State.writeAperture (State.performWith 9) t offset size v) (State.settled_shape _ _ _)⟩
  exact State.counted_reseal _ _

/-- A write of H that the aperture takes as an update of the state. -/
theorem hostWrites_of {s u : State} {i : Instr} {offset : Nat} {v : Xword} {a : Nat} (agent : apertureAgent offset = a)
    (here : a ≤ 9 ∧ a ≠ 8) (he : exec i s = .next (s.hostAccess offset 8 (some v)))
    (hw : ∀ (c : Causeway) (n : Nat), ({ s with cway := c, nextId := n } : State).writeAperture (State.performWith 9) offset 8 v =
      { u with cway := c, nextId := n }) : HostWrites i s a u := by
  intro reach
  obtain ⟨c, -, access⟩ := hostAccess_write (v := v) (size := 8) agent here.1 here.2 reach
  exact ⟨_, he, by rw [access, hw]⟩

/-! ### The aperture by its blocks -/

/-- A whole write to an aligned register of a die. -/
theorem writeAperture_die (P : State → Packet → State) (s : State) {die o : Nat} (v : Xword) (hd : die < 8) (ho : o < 0x1000000)
    (aligned : o % 8 = 0) : s.writeAperture P (0x1000000 * die + o) 8 v = s.writeDieBlock die o v := by
  have whole : ¬((8 : Nat) ≠ 8 ∨ (0x1000000 * die + o) % 8 ≠ 0) := by omega
  have agent : (0x1000000 * die + o) / 0x1000000 = die := by omega
  have offset : (0x1000000 * die + o) % 0x1000000 = o := by omega
  rw [State.writeAperture, if_neg whole, if_pos (by omega), agent, offset]

/-- A whole write to an aligned register of the package. -/
theorem writeAperture_package (P : State → Packet → State) (s : State) {o : Nat} (v : Xword) (aligned : o % 8 = 0) :
    s.writeAperture P (0x8000000 + o) 8 v = s.writePackageBlock P o v := by
  have whole : ¬((8 : Nat) ≠ 8 ∨ (0x8000000 + o) % 8 ≠ 0) := by omega
  have offset : 0x8000000 + o - 0x8000000 = o := by omega
  rw [State.writeAperture, if_neg whole, if_neg (by omega), offset]

theorem apertureAgent_die {die o : Nat} (hd : die < 8) (ho : o < 0x1000000) : apertureAgent (0x1000000 * die + o) = die := by
  rw [apertureAgent, if_pos (by omega)]
  omega

theorem apertureAgent_package (o : Nat) : apertureAgent (0x8000000 + o) = 9 := if_neg (by omega)

/-- A write to a package register that is an update of the state. -/
theorem hostWrites_package {s u : State} {i : Instr} {o : Nat} {v : Xword}
    (he : exec i s = .next (s.hostAccess (0x8000000 + o) 8 (some v))) (aligned : o % 8 = 0)
    (hw : ∀ (c : Causeway) (n : Nat), ({ s with cway := c, nextId := n } : State).writePackageBlock (State.performWith 9) o v =
      { u with cway := c, nextId := n }) : HostWrites i s 9 u :=
  hostWrites_of (apertureAgent_package o) ⟨by omega, by omega⟩ he fun c n => by rw [writeAperture_package _ _ _ aligned, hw]

/-- A write to a register of a die that is an update of the state. -/
theorem hostWrites_die {s u : State} {i : Instr} {die o : Nat} {v : Xword} (hd : die < 8) (ho : o < 0x1000000)
    (he : exec i s = .next (s.hostAccess (0x1000000 * die + o) 8 (some v))) (aligned : o % 8 = 0)
    (hw : ∀ (c : Causeway) (n : Nat), ({ s with cway := c, nextId := n } : State).writeDieBlock die o v =
      { u with cway := c, nextId := n }) : HostWrites i s die u :=
  hostWrites_of (apertureAgent_die hd ho) ⟨by omega, by omega⟩ he fun c n => by
    rw [writeAperture_die _ _ _ hd ho aligned, hw]

/-! ### PCAP, PRATE, PSTAT and PFLOOR (R271, R272) -/

section
variable (s : State) (v : Xword)

theorem fld_zero (x n : Nat) : fld x 0 n = x % 2 ^ n := by simp [fld]

theorem hostWrites_pcap_rejected (h : v.toNat % 2 ^ 13 < 1200 ∨ 5000 < v.toNat % 2 ^ 13) :
    HostWrites (.pcapWrite v) s 9 { s with power := { s.power with caprej := true } } := by
  refine hostWrites_package (o := 0) rfl rfl fun c n => ?_
  have out : fld v.toNat 0 13 < 1200 ∨ 5000 < fld v.toNat 0 13 := by rwa [fld_zero]
  exact if_pos out

theorem hostWrites_pcap (h : 1200 ≤ v.toNat % 2 ^ 13) (h' : v.toNat % 2 ^ 13 ≤ 5000) :
    HostWrites (.pcapWrite v) s 9 { s with power := { s.power with cap := v.toNat % 2 ^ 13 } } := by
  refine hostWrites_package (o := 0) rfl rfl fun c n => ?_
  have within : ¬(fld v.toNat 0 13 < 1200 ∨ 5000 < fld v.toNat 0 13) := by rw [fld_zero]; omega
  refine (if_neg within).trans ?_
  rw [fld_zero]

theorem rate_low : BitVec.ofNat 32 (v.toNat % 2 ^ 32) = v.setWidth 32 ∧ (v.setWidth 32).toNat = v.toNat % 2 ^ 32 := by
  have low : (v.setWidth 32).toNat = v.toNat % 2 ^ 32 := BitVec.toNat_setWidth ..
  exact ⟨by rw [← low, BitVec.ofNat_toNat, BitVec.setWidth_eq], low⟩

theorem rate_high : BitVec.ofNat 32 (v.toNat / 2 ^ 32) = (v >>> 32).setWidth 32 ∧
    ((v >>> 32).setWidth 32 : BitVec 32).toNat = v.toNat / 2 ^ 32 := by
  have high : ((v >>> 32).setWidth 32 : BitVec 32).toNat = v.toNat / 2 ^ 32 := by
    rw [BitVec.toNat_setWidth, BitVec.toNat_ushiftRight, Nat.shiftRight_eq_div_pow]
    exact Nat.mod_eq_of_lt (by omega)
  exact ⟨by rw [← high, BitVec.ofNat_toNat, BitVec.setWidth_eq], high⟩

theorem hostWrites_prate_rejected (h : v.toNat % 2 ^ 32 < 0x100 ∨ v.toNat / 2 ^ 32 < v.toNat % 2 ^ 32) :
    HostWrites (.prateWrite v) s 9 { s with power := { s.power with raterej := true } } := by
  refine hostWrites_package (o := 8) rfl rfl fun c n => ?_
  rw [← (rate_low v).2, ← (rate_high v).2] at h
  exact if_pos h

theorem hostWrites_prate (h : 0x100 ≤ v.toNat % 2 ^ 32) (h' : v.toNat % 2 ^ 32 ≤ v.toNat / 2 ^ 32) :
    HostWrites (.prateWrite v) s 9 { s with power :=
      { s.power with rmin := BitVec.ofNat 32 (v.toNat % 2 ^ 32), rmax := BitVec.ofNat 32 (v.toNat / 2 ^ 32) } } := by
  refine hostWrites_package (o := 8) rfl rfl fun c n => ?_
  have within : ¬((v.setWidth 32).toNat < 0x100 ∨
      ((v >>> 32).setWidth 32 : BitVec 32).toNat < (v.setWidth 32).toNat) := by
    rw [(rate_low v).2, (rate_high v).2]
    omega
  refine (if_neg within).trans ?_
  rw [(rate_low v).1, (rate_high v).1]

theorem hostWrites_pstat : HostWrites (.pstatWrite v) s 9 { s with power :=
    { s.power with caprej := s.power.caprej && !v.getLsbD 0, raterej := s.power.raterej && !v.getLsbD 1 } } :=
  hostWrites_package (o := 0x10) rfl rfl fun _ _ => rfl

/-- The register of a context is that at its offset. -/
theorem writeDieBlock_pfloor (die : Nat) {asid : Nat} (ha : asid < 2048) :
    s.writeDieBlock die (0x120000 + 8 * asid) v = s.writePfloor die asid v := by
  have clusters : clusterCount die ≤ 4 := by
    unfold clusterCount
    split <;> omega
  have index : (0x120000 + 8 * asid - 0x120000) / 8 = asid := by omega
  rw [State.writeDieBlock, if_neg (by omega), if_neg (by omega), if_neg (by omega), if_neg (by omega), if_pos (by omega), index]

theorem hostWrites_pfloor {die asid : Nat} (hd : die < 8) (ha : asid < 2048) :
    HostWrites (.pfloorWrite die asid v) s die (s.setCtx (ctxKey die asid)
      { s.ctx (ctxKey die asid) with floor := v.toNat % 2 ^ 13, maxcls := v.toNat / 2 ^ 13 % 8 }) := by
  have named : (decide (die < 8) && decide (asid < 2048)) = true := by simp [hd, ha]
  refine hostWrites_die (o := 0x120000 + 8 * asid) (v := v) hd (by omega) ?_ (by omega) fun c n => ?_
  · show s.hostWrite (decide (die < 8) && decide (asid < 2048)) (0x1000000 * die + 0x120000 + 8 * asid) v = _
    rw [State.hostWrite, named, Nat.add_assoc]
    rfl
  · rw [writeDieBlock_pfloor _ _ _ ha, State.writePfloor, fld_zero]
    rfl

end

/-! ### The broadcast (R257) -/

/-- Clusters of a list, each changed in a way that does not depend on the others. -/
theorem foldl_setCluster {f : Nat → Cluster → Cluster} (again : ∀ k c, f k (f k c) = f k c) (l : List Nat) (s : State) :
    (∃ clusters, l.foldl (fun s k => s.setCluster k (f k (s.cluster k))) s = { s with clusters := clusters }) ∧
      ∀ k, (l.foldl (fun s k => s.setCluster k (f k (s.cluster k))) s).cluster k =
        if k ∈ l then f k (s.cluster k) else s.cluster k := by
  induction l generalizing s with
  | nil => exact ⟨⟨_, rfl⟩, fun k => by simp⟩
  | cons j r ih =>
    obtain ⟨⟨clusters, shape⟩, cluster⟩ := ih (s.setCluster j (f j (s.cluster j)))
    refine ⟨⟨clusters, shape⟩, fun k => ?_⟩
    rw [List.foldl_cons, cluster, State.cluster_setCluster]
    by_cases hk : k = j
    · subst hk
      simp [again]
    · simp [hk]

theorem mem_allClusters {d c : Nat} (hd : d < 8) (hc : c < clusterCount d) : clusterKey d c ∈ allClusters :=
  List.mem_flatMap.2 ⟨d, List.mem_range.2 hd, List.mem_map.2 ⟨c, List.mem_range.2 hc, rfl⟩⟩

/-- The rate that a broadcast leaves at a cluster: this one's, or the last one's where it has not come yet. -/
def State.castRate (s : State) (k : Nat) (c : Cluster) : Cluster :=
  { c with xrate := if s.freeNat.1.testBit k then s.power.rate else s.power.cast }

theorem exec_rateBroadcast (s : State) : ∃ t : State, exec .rateBroadcast s = .next t ∧
    t = { s with clusters := t.clusters, power := { s.power with cast := s.power.rate }, tick := s.tick + 1 } ∧
    ∀ d c, d < 8 → c < clusterCount d → ∃ x ∈ [s.power.cast, s.power.rate],
      t.cluster (clusterKey d c) = { s.cluster (clusterKey d c) with xrate := x } := by
  have fold := foldl_setCluster (f := s.castRate) (fun _ _ => rfl) allClusters
    { s with power := { s.power with cast := s.power.rate }, tick := s.tick + 1 }
  have step : exec .rateBroadcast s = .next (allClusters.foldl (fun t k => t.setCluster k (s.castRate k (t.cluster k)))
    { s with power := { s.power with cast := s.power.rate }, tick := s.tick + 1 }) := rfl
  generalize allClusters.foldl (fun t k => t.setCluster k (s.castRate k (t.cluster k)))
    { s with power := { s.power with cast := s.power.rate }, tick := s.tick + 1 } = t at fold step
  obtain ⟨⟨clusters, shape⟩, cluster⟩ := fold
  refine ⟨t, step, ?_, fun d c hd hc => ⟨if s.freeNat.1.testBit (clusterKey d c) then s.power.rate else s.power.cast, ?_, ?_⟩⟩
  · rw [shape]
  · split <;> simp
  · exact (cluster _).trans (if_pos (mem_allClusters hd hc))

/-! ### The integrator (R258, R273) -/

/-- The change of the rate in a step, as a multiple of the rate: by how much P1 is off its target, within bounds. -/
def rateMove (p1 cap : Nat) : ℚ :=
  if 1000 * cap < p1 then 1 / 64 else max (-1 / 64) (min (1 / 64) ((p1 - 980 * cap) / (1024 * (980 * cap))))

/-- The same as the model counts it, in parts of 1024 times the target. -/
def rateParts (p1 cap : Nat) : ℤ :=
  let tgt := 980 * cap
  let den := 1024 * tgt
  if 1000 * cap < p1 then den / 64 else max (-(den / 64 : Nat) : Int) (min (den / 64 : Nat) ((p1 : Int) - tgt))

theorem rateParts_eq {p1 cap : Nat} (hc : 0 < cap) :
    (rateParts p1 cap : ℚ) = rateMove p1 cap * (1024 * (980 * cap) : Nat) := by
  have part : 1024 * (980 * cap) / 64 = 15680 * cap := by omega
  have partZ : ((1024 * (980 * cap) : Nat) : ℤ) / 64 = 15680 * cap := by omega
  have pos : (0 : ℚ) < 1024 * (980 * cap) := by positivity
  have quotient (y : ℚ) : y / (1024 * (980 * cap)) * (1024 * (980 * cap)) = y := div_mul_cancel₀ y pos.ne'
  have bound : (1 / 64 : ℚ) * (1024 * (980 * cap)) = 15680 * cap := by ring
  have lower : (-1 / 64 : ℚ) * (1024 * (980 * cap)) = -(15680 * cap) := by ring
  unfold rateParts rateMove
  simp only [part, partZ]
  split
  · push_cast
    rw [bound]
  · push_cast
    rw [max_mul_of_nonneg _ _ pos.le, min_mul_of_nonneg _ _ pos.le, quotient, bound, lower]

/-- The rate after a step is the nearest one to RATE times 1 + step, or the next one where that is RATE itself, within bounds. -/
theorem rateStep_eq {rate p1 cap rmin rmax : Nat} (hc : 0 < cap) :
    let x : ℤ := ⌊(rate : ℚ) * (1 + rateMove p1 cap) + 1 / 2⌋
    let x : ℤ := if rateMove p1 cap ≠ 0 ∧ x = rate then (if 0 < rateMove p1 cap then x + 1 else x - 1) else x
    (rateStep rate p1 cap rmin rmax : ℤ) = max (rmin : ℤ) (min (rmax : ℤ) x) := by
  have parts := rateParts_eq (p1 := p1) hc
  have pos : (0 : ℚ) < (1024 * (980 * cap) : Nat) := by positivity
  have nearest : (2 * rate * ((1024 * (980 * cap) : Nat) + rateParts p1 cap) + (1024 * (980 * cap) : Nat)) /
      (2 * (1024 * (980 * cap) : Nat)) = ⌊(rate : ℚ) * (1 + rateMove p1 cap) + 1 / 2⌋ := by
    have exact_ : (rate : ℚ) * (1 + rateMove p1 cap) + 1 / 2 =
        ((2 * rate * ((1024 * (980 * cap) : Nat) + rateParts p1 cap) + (1024 * (980 * cap) : Nat) : ℤ) : ℚ) /
          ((2 * (1024 * (980 * cap)) : Nat) : ℚ) := by
      push_cast [parts]
      field_simp
    rw [exact_, Rat.floor_intCast_div_natCast]
    push_cast
    rfl
  have above : 0 < rateParts p1 cap ↔ 0 < rateMove p1 cap := by
    rw [← Int.cast_pos (R := ℚ), parts, mul_pos_iff_of_pos_right pos]
  have none : rateParts p1 cap = 0 ↔ rateMove p1 cap = 0 := by
    rw [← Int.cast_eq_zero (α := ℚ), parts, mul_eq_zero_iff_right pos.ne']
  intro x y
  have step : rateStep rate p1 cap rmin rmax = max rmin (min rmax y.toNat) := by
    have moved : (if rateParts p1 cap ≠ 0 ∧ x = rate then x + (rateParts p1 cap).sign else x) = y := by
      simp only [y]
      by_cases stays : rateMove p1 cap ≠ 0 ∧ x = rate
      · rw [if_pos stays, if_pos ⟨fun h0 => stays.1 (none.1 h0), stays.2⟩]
        by_cases up : 0 < rateMove p1 cap
        · rw [if_pos up, Int.sign_eq_one_of_pos (above.2 up)]
        · have down : rateParts p1 cap < 0 :=
            lt_of_le_of_ne (not_lt.1 fun h => up (above.1 h)) fun h0 => stays.1 (none.1 h0)
          rw [if_neg up, Int.sign_eq_neg_one_of_neg down]
          rfl
      · rw [if_neg stays, if_neg fun h => stays ⟨fun h0 => h.1 (none.2 h0), h.2⟩]
    rw [← moved]
    simp only [x]
    rw [← nearest]
    rfl
  rw [step]
  omega

/-! ### The floors in force (R273) -/

/-- The floor that a context is to have in force. -/
def Ctx.forced (c : Ctx) (cap sum : Nat) : Nat := if c.bound then efloorOf cap sum c.floor else 0

/-- One context's floor in force is computed again. -/
def State.refloorCtx (cap sum : Nat) (s : State) (e : Nat × Ctx) : State :=
  if e.2.forced cap sum = (s.ctx e.1).efloor then s
  else (s.setCtx e.1 { s.ctx e.1 with efloor := e.2.forced cap sum }).ctxEvent (e.1 / 2048) (e.1 % 2048) 0x22 (e.1 / 2048)
    (BitVec.ofNat 64 (e.2.forced cap sum))

theorem State.refloorCtx_power (cap sum : Nat) (s : State) (e : Nat × Ctx) : (s.refloorCtx cap sum e).power = s.power := by
  unfold State.refloorCtx
  split
  · rfl
  · exact (State.AtHome.ctxEvent _ _ _ _ _ _).power

theorem State.refloorCtx_efloor (cap sum : Nat) (s : State) (e : Nat × Ctx) (k : Nat) :
    ((s.refloorCtx cap sum e).ctx k).efloor = if k = e.1 then e.2.forced cap sum else (s.ctx k).efloor := by
  unfold State.refloorCtx
  split
  · next same =>
    split
    · next hk => rw [same, hk]
    · rfl
  · have kept := (State.AtHome.ctxEvent (s.setCtx e.1 { s.ctx e.1 with efloor := e.2.forced cap sum }) (e.1 / 2048) (e.1 % 2048) 0x22
      (e.1 / 2048) (BitVec.ofNat 64 (e.2.forced cap sum))).ctx k
    rw [kept, State.ctx_setCtx]
    split <;> rfl

theorem foldl_refloorCtx (cap sum : Nat) (l : SMap Ctx) (s : State) : (l.foldl (State.refloorCtx cap sum) s).power = s.power ∧
    (rising l = true → ∀ k, ((l.foldl (State.refloorCtx cap sum) s).ctx k).efloor =
      match mfind l k with
      | some c => c.forced cap sum
      | none => (s.ctx k).efloor) := by
  induction l generalizing s with
  | nil => exact ⟨rfl, fun _ _ => rfl⟩
  | cons e r ih =>
    obtain ⟨power, efloor⟩ := ih (s.refloorCtx cap sum e)
    refine ⟨power.trans (s.refloorCtx_power cap sum e), fun rises k => ?_⟩
    obtain ⟨below, rises⟩ := (rising_cons e r).1 rises
    rw [List.foldl_cons, efloor rises k, mfind_cons, State.refloorCtx_efloor]
    by_cases hk : k = e.1
    · subst hk
      rw [mfind_below r e.1 below, if_pos rfl, if_pos rfl]
    · rw [if_neg (Ne.symm hk), if_neg hk]

theorem State.refloor_eq (s : State) : s.refloor = s.ctxs.foldl (State.refloorCtx s.power.cap s.floorSum)
    { s with power := { s.power with scaled := decide (s.power.cap < s.floorSum + 650) } } := rfl

/-- Every die with a new power budget. -/
def State.setBudgets (s : State) (f : Nat → Nat) : State :=
  (List.range 8).foldl (fun s d => s.setDie d { s.die d with budget := f d }) s

theorem State.setBudgets_shape (s : State) (f : Nat → Nat) : ∃ d, s.setBudgets f = { s with dies := d } :=
  foldl_rel (R := fun s t : State => ∃ d, t = { s with dies := d }) (fun s => ⟨s.dies, rfl⟩)
    (by rintro s t u ⟨d, rfl⟩ ⟨d', rfl⟩; exact ⟨d', rfl⟩) (fun _ _ => ⟨_, rfl⟩) _ s

/-- The power registers after a step of the integrator, before the floors. -/
def Power.integrated (p : Power) (p1 : Nat) (table : SMap Nat) : Power :=
  { p with
    rate := BitVec.ofNat 32 (rateStep p.rate.toNat p1 p.cap p.rmin.toNat p.rmax.toNat)
    shownRate := BitVec.ofNat 32 (rateStep p.rate.toNat p1 p.cap p.rmin.toNat p.rmax.toNat)
    pmeas := min 0xFFFF (p1 / 1000)
    diePower := table }

/-- A step of the integrator changes the power registers and the dies, and then the floors. -/
theorem exec_rateIntegratorStep (s : State) (p1 other : Nat) (dies : List Nat) : ∃ d table,
    exec (.rateIntegratorStep p1 other dies) s =
      .next ({ s with power := s.power.integrated p1 table, dies := d } : State).refloor := by
  let table : SMap Nat := (List.range 8).foldl (fun m d => mset 0 m d (dies.getD d 0)) []
  let sum := ((List.range 8).map fun d => dies.getD d 0 + 20000).sum
  obtain ⟨d, hd⟩ := State.setBudgets_shape { s with power := s.power.integrated p1 table }
    fun d => budgetOf s.power.cap other (dies.getD d 0) sum
  refine ⟨d, table, ?_⟩
  have step : exec (.rateIntegratorStep p1 other dies) s = .next (State.setBudgets { s with power := s.power.integrated p1 table }
    fun d => budgetOf s.power.cap other (dies.getD d 0) sum).refloor := rfl
  rw [step, hd]

/-- Settles O46: each register's write, the broadcast, and the integrator's step. -/
theorem powerLimits : Obligations.PowerLimits := by
  unfold Obligations.PowerLimits
  intro s
  refine ⟨fun v => ?_, exec_rateBroadcast s, ?_⟩
  · intro p cap lo hi
    exact ⟨hostWrites_pcap_rejected s v, hostWrites_pcap s v, hostWrites_prate_rejected s v, hostWrites_prate s v,
      hostWrites_pstat s v, fun die asid hd ha => hostWrites_pfloor s v hd ha⟩
  · intro p1 other dies bounded p tgt move x y sum
    obtain ⟨leastCap, mostCap, leastRate, order⟩ := bounded
    have cap : 0 < s.power.cap := by omega
    obtain ⟨d, table, step⟩ := exec_rateIntegratorStep s p1 other dies
    obtain ⟨power, efloor⟩ := foldl_refloorCtx p.cap s.floorSum s.ctxs
      { s with dies := d, power := { p.integrated p1 table with scaled := decide (p.cap < s.floorSum + 650) } }
    have step : exec (.rateIntegratorStep p1 other dies) s = .next (s.ctxs.foldl (State.refloorCtx p.cap s.floorSum)
      { s with dies := d, power := { p.integrated p1 table with scaled := decide (p.cap < s.floorSum + 650) } }) := step
    have rate := rateStep_eq (rate := p.rate.toNat) (p1 := p1) (rmin := p.rmin.toNat) (rmax := p.rmax.toNat) cap
    have within : rateStep p.rate.toNat p1 p.cap p.rmin.toNat p.rmax.toNat < 2 ^ 32 := by
      have := p.rmax.isLt
      have : rateStep p.rate.toNat p1 p.cap p.rmin.toNat p.rmax.toNat ≤ p.rmax.toNat := max_le order (min_le_left _ _)
      omega
    refine ⟨_, step, ?_, ?_, ?_, ?_, ?_, fun rises k c hk bound => ?_⟩
    · rw [power]
      exact (congrArg Nat.cast ((BitVec.toNat_ofNat _ _).trans (Nat.mod_eq_of_lt within))).trans rate
    · rw [power]
      rfl
    · rw [power]
      rfl
    · rw [power]
      rfl
    · rw [power]
      exact decide_eq_true_iff
    · rw [efloor rises k, hk]
      exact if_pos bound

end Sys2Proof.Machine
end

section
/-!
PROOFS. A packet that answers another one in the step that delivers it (07 R167, R170, R171; 19 R292): it carries one entry, the
count of that delivery, and its receiver has nothing to wait for.
-/

namespace Sys2Proof.Machine
open Sys2Proof

/-! ### Entries by their keys -/

section
variable {β : Type} {P : Nat → Bool} {k : Nat}

theorem filter_mdel_of_not (h : P k = false) (m : SMap β) : (mdel m k).filter (fun e => P e.1) = m.filter fun e => P e.1 := by
  induction m with
  | nil => rfl
  | cons e r ih =>
    unfold mdel
    split
    · next hk => rw [ih, List.filter_cons, hk, h, if_neg Bool.false_ne_true]
    · rw [List.filter_cons, List.filter_cons, ih]

theorem filter_mput_of_not (h : P k = false) (m : SMap β) (v : β) :
    (mput m k v).filter (fun e => P e.1) = m.filter fun e => P e.1 := by
  induction m with
  | nil => simp [mput, h]
  | cons e r ih =>
    unfold mput
    split
    · rw [List.filter_cons, List.filter_cons, ih]
    · split
      · next hk => simp [hk, h]
      · simp [h]

theorem filter_mset_of_not [DecidableEq β] (d : β) (h : P k = false) (m : SMap β) (v : β) :
    (mset d m k v).filter (fun e => P e.1) = m.filter fun e => P e.1 := by
  unfold mset
  split
  · exact filter_mdel_of_not h m
  · exact filter_mput_of_not h m v

theorem filter_mput_of_none (h : P k = true) {m : SMap β} (none : m.filter (fun e => P e.1) = []) (v : β) :
    (mput m k v).filter (fun e => P e.1) = [(k, v)] := by
  induction m with
  | nil => simp [mput, h]
  | cons e r ih =>
    have head : P e.1 = false := by
      rw [List.filter_eq_nil_iff] at none
      simpa using none e (by simp)
    have rest : r.filter (fun e => P e.1) = [] := by simpa [List.filter_cons, head] using none
    unfold mput
    split
    · rw [List.filter_cons, head, if_neg Bool.false_ne_true, ih rest]
    · split
      · next hk => rw [hk, h] at head; cases head
      · simp [h, head, rest]

end

/-- A key of a dirty entry belongs to the channel i to j, and is not that of the channel itself. -/
def dirtyOn (i j k : Nat) : Bool := k / 256 == channelKey i j && k % 256 != channelKey i j

theorem dirtyOn_dirtyKey {i j i' j' k m : Nat} (hj : j < 16) (hj' : j' < 16) (hk : k < 16) (hm : m < 16) :
    dirtyOn i j (dirtyKey i' j' k m) = (decide (i' = i ∧ j' = j) && decide (¬(k = i ∧ m = j))) := by
  have upper : dirtyKey i' j' k m / 256 = 16 * i' + j' := by unfold dirtyKey; omega
  have lower : dirtyKey i' j' k m % 256 = 16 * k + m := by unfold dirtyKey; omega
  have same : 16 * i' + j' = 16 * i + j ↔ i' = i ∧ j' = j := by omega
  have other : 16 * k + m = 16 * i + j ↔ k = i ∧ m = j := by omega
  rw [dirtyOn, upper, lower, channelKey, Bool.eq_iff_iff]
  simp only [Bool.and_eq_true, beq_iff_eq, bne_iff_ne, ne_eq, same, other, decide_eq_true_eq]

/-- Entries marked for other channels leave what is dirty on a channel. -/
theorem dirty_foldl_other {i j i' k m : Nat} (hj : j < 16) (hk : k < 16) (hm : m < 16) {l : List Nat}
    (hl : ∀ x ∈ l, x < 16 ∧ ¬(i' = i ∧ x = j)) (d : SMap Bool) :
    (l.foldl (fun d j => mset false d (dirtyKey i' j k m) true) d).filter (fun e => dirtyOn i j e.1) =
      d.filter fun e => dirtyOn i j e.1 := by
  induction l generalizing d with
  | nil => rfl
  | cons x r ih =>
    obtain ⟨small, apart⟩ := hl x (by simp)
    have outside : dirtyOn i j (dirtyKey i' x k m) = false := by
      rw [dirtyOn_dirtyKey hj small hk hm, decide_eq_false apart, Bool.false_and]
    rw [List.foldl_cons, ih fun y hy => hl y (by simp [hy]), filter_mset_of_not _ outside]

theorem agents_lt {p : Nat → Bool} {x : Nat} (h : x ∈ agents.filter p) : x < 16 := by
  have := List.mem_range.1 (List.mem_of_mem_filter h)
  omega

/-- Marking an entry leaves what is dirty on another agent's channels. -/
theorem Causeway.dirty_mark_other {i j i' k m : Nat} (h : i' ≠ i) (hj : j < 16) (hk : k < 16) (hm : m < 16) (c : Causeway)
    (p : Nat → Bool) : (c.mark i' k m p).dirty.filter (fun e => dirtyOn i j e.1) = c.dirty.filter fun e => dirtyOn i j e.1 :=
  dirty_foldl_other hj hk hm (fun _ hx => ⟨agents_lt hx, fun same => h same.1⟩) _

/-- An entry marked for everyone is the one that is dirty on a channel where nothing was. -/
theorem Causeway.dirty_mark {i j k m : Nat} (other : j ≠ i) (hj : j < 10) (hk : k < 16) (hm : m < 16) (away : ¬(k = i ∧ m = j))
    {c : Causeway} (none : c.dirty.filter (fun e => dirtyOn i j e.1) = []) :
    (c.mark i k m fun _ => true).dirty.filter (fun e => dirtyOn i j e.1) = [(dirtyKey i j k m, true)] := by
  have inside : dirtyOn i j (dirtyKey i j k m) = true := by
    rw [dirtyOn_dirtyKey (by omega) (by omega) hk hm, decide_eq_true (⟨rfl, rfl⟩ : i = i ∧ j = j), decide_eq_true away]
    rfl
  have member : j ∈ agents.filter fun x => x ≠ i && true := by
    simp only [agents, List.mem_filter, List.mem_range]
    exact ⟨hj, by simpa using other⟩
  have once : (agents.filter fun x => x ≠ i && true).Nodup := List.nodup_range.filter _
  have small (x : Nat) (hx : x ∈ agents.filter fun x => x ≠ i && true) : x < 16 := agents_lt hx
  unfold Causeway.mark
  obtain ⟨front, back, split⟩ := List.append_of_mem member
  rw [split] at once small ⊢
  obtain ⟨-, before, after⟩ : _ ∧ j ∉ front ∧ j ∉ back := by
    simp only [List.nodup_append, List.nodup_cons] at once
    exact ⟨trivial, fun h => once.2.2 j h j (by simp) rfl, once.2.1.1⟩
  simp only [List.foldl_append, List.foldl_cons]
  rw [dirty_foldl_other (i := i) (j := j) (by omega) hk hm fun x hx => ⟨small x (by simp [hx]), fun h => after (by rw [← h.2]; exact hx)⟩]
  refine filter_mput_of_none inside ?_ true
  rw [dirty_foldl_other (i := i) (j := j) (by omega) hk hm fun x hx => ⟨small x (by simp [hx]), fun h => before (by rw [← h.2]; exact hx)⟩, none]

/-! ### The entries after a delivery -/

theorem Causeway.entriesFor_eq (c : Causeway) (i j : Nat) : c.entriesFor i j =
    (c.dirty.filter fun e => dirtyOn i j e.1).map fun e => (e.1 % 256 / 16, e.1 % 16, c.K i (e.1 % 256 / 16) (e.1 % 16)) := rfl

theorem Causeway.entriesFor_none {c : Causeway} {i j : Nat} :
    c.entriesFor i j = [] ↔ c.dirty.filter (fun e => dirtyOn i j e.1) = [] := by
  rw [Causeway.entriesFor_eq, List.map_eq_nil_iff]

/-- The causeway when a packet without entries has been sent, has arrived and has been counted, before the beats that this owes. -/
def Causeway.passed (c : Causeway) (p : Packet) : Causeway :=
  let c := c.launched p
  (((c.setFly p.src p.dst (dropFirst (fun q => !q.isBeat) (c.fly p.src p.dst))).setHeld p.src p.dst [p]).setHeld p.src p.dst []).count p

/-- A causeway with floor beats of m sent to some agents. -/
def Causeway.withBeats (c : Causeway) (m : Nat) (l : List Nat) : Causeway := l.foldl (fun c j => c.sendBeat m j (c.deliveries m)) c

/-- Beats change nothing but what is under way, and that by beats. -/
theorem Causeway.withBeats_shape (c : Causeway) (m : Nat) (l : List Nat) :
    (∃ f, c.withBeats m l = { c with flying := f }) ∧
      ∀ i j, ∃ b, (∀ q ∈ b, q.isBeat = true) ∧ (c.withBeats m l).fly i j = c.fly i j ++ b := by
  induction l generalizing c with
  | nil => exact ⟨⟨_, rfl⟩, fun i j => ⟨[], by simp, by simp [Causeway.withBeats]⟩⟩
  | cons x r ih =>
    obtain ⟨⟨f, shape⟩, beats⟩ := ih (c.sendBeat m x (c.deliveries m))
    refine ⟨⟨f, shape⟩, fun i j => ?_⟩
    obtain ⟨b, all, fly⟩ := beats i j
    have step : (c.withBeats m (x :: r)).fly i j = (c.sendBeat m x (c.deliveries m)).fly i j ++ b := fly
    by_cases here : channelKey i j = channelKey m x
    · have sent : (c.sendBeat m x (c.deliveries m)).fly i j = c.fly i j ++
          [{ src := m, dst := x, cls := 3, asid := 0, entries := [], body := .floorBeat (c.deliveries m), warp := none, op := none }] := by
        simp only [Causeway.sendBeat, Causeway.fly, here, mget, mfind_mput_same, Option.getD_some]
      refine ⟨_ :: b, ?_, step.trans (by rw [sent, List.append_assoc]; rfl)⟩
      rintro q (_ | ⟨_, hq⟩)
      · rfl
      · exact all q hq
    · have kept : (c.sendBeat m x (c.deliveries m)).fly i j = c.fly i j := by
        simp only [Causeway.sendBeat, Causeway.fly, mget, mfind_mput_ne _ _ here]
      exact ⟨b, all, step.trans (by rw [kept])⟩

/-- The causeway after a delivery that is made in the step of its sending. -/
theorem State.settled_cway (s : State) (p : Packet) : ∃ l,
    (({ s with cway := s.cway.launched p } : State).settled p).cway = (s.cway.passed p).withBeats p.dst l := ⟨_, rfl⟩

section
variable {c : Causeway} {p : Packet} (entries : p.entries = []) (src : p.src ≤ 9) (dst : p.dst ≤ 9) (apart : p.src ≠ p.dst)
include entries src dst apart

/-- Its receiver has one entry for its sender: the count of that delivery. -/
theorem Causeway.entriesFor_passed (before : c.entriesFor p.dst p.src = []) :
    ∃ v, (c.passed p).entriesFor p.dst p.src = [(p.src, p.dst, v)] := by
  have away : ¬(p.src = p.dst ∧ p.dst = p.src) := fun h => apart h.1
  have sent : (c.launched p).dirty.filter (fun e => dirtyOn p.dst p.src e.1) = [] := by
    rw [← Causeway.entriesFor_none.1 before]
    exact Causeway.dirty_mark_other apart (by omega) (by omega) (by omega) _ _
  have marked : (c.passed p).dirty.filter (fun e => dirtyOn p.dst p.src e.1) =
      [(dirtyKey p.dst p.src p.src p.dst, true)] := by
    simp only [Causeway.passed, Causeway.count, entries, List.foldl_nil]
    exact Causeway.dirty_mark apart (by omega) (by omega) (by omega) away sent
  have key : dirtyKey p.dst p.src p.src p.dst % 256 = 16 * p.src + p.dst := by
    unfold dirtyKey
    omega
  have entry : dirtyKey p.dst p.src p.src p.dst % 256 / 16 = p.src ∧ dirtyKey p.dst p.src p.src p.dst % 16 = p.dst := by omega
  rw [Causeway.entriesFor_eq, marked]
  exact ⟨_, by rw [List.map_singleton, entry.1, entry.2]⟩

omit src dst in
/-- The channel back, and the counts that bound it, stay. -/
theorem Causeway.passed_back : (c.passed p).fly p.dst p.src = c.fly p.dst p.src ∧
    (c.passed p).waitingAt p.dst p.src = c.waitingAt p.dst p.src ∧
    (c.passed p).mayInject p.dst p.src 1 = c.mayInject p.dst p.src 1 ∧
    (c.passed p).D p.src p.dst = c.D p.src p.dst ∧ (c.passed p).beats = c.beats := by
  have channel : channelKey p.dst p.src ≠ channelKey p.src p.dst := by unfold channelKey; omega
  have sends : knowKey p.dst p.dst p.src ≠ knowKey p.src p.src p.dst := by unfold knowKey; omega
  have counts : knowKey p.dst p.dst p.src ≠ knowKey p.dst p.src p.dst := by unfold knowKey; omega
  have know : (c.passed p).K p.dst p.dst p.src = c.K p.dst p.dst p.src := by
    simp only [Causeway.passed, Causeway.count, entries, List.foldl_nil, Causeway.setK, Causeway.mark, Causeway.K, Causeway.setHeld,
      Causeway.setFly, Causeway.launched, Causeway.putOn, Causeway.clean, mget_mset_ne _ _ _ counts, mget_mset_ne _ _ _ sends]
  have delivered : (c.passed p).D p.src p.dst = c.D p.src p.dst := by
    simp only [Causeway.passed, Causeway.count, entries, List.foldl_nil, Causeway.setK, Causeway.mark, Causeway.D, Causeway.setHeld,
      Causeway.setFly, Causeway.launched, Causeway.putOn, Causeway.clean, mget_mset_ne _ _ _ channel.symm]
  have fly : (c.passed p).fly p.dst p.src = c.fly p.dst p.src := by
    simp only [Causeway.passed, Causeway.count, entries, List.foldl_nil, Causeway.setK, Causeway.mark, Causeway.fly, Causeway.setHeld,
      Causeway.setFly, Causeway.launched, Causeway.putOn, Causeway.clean, mget_mset_ne _ _ _ channel]
    simp only [mget, mfind_mput_ne _ _ channel]
  have held : (c.passed p).waitingAt p.dst p.src = c.waitingAt p.dst p.src := by
    simp only [Causeway.passed, Causeway.count, entries, List.foldl_nil, Causeway.setK, Causeway.mark, Causeway.waitingAt,
      Causeway.setHeld, Causeway.setFly, Causeway.launched, Causeway.putOn, Causeway.clean, mget_mset_ne _ _ _ channel]
  have same : (c.passed p).reseal = c.reseal ∧ (c.passed p).queuedAt p.dst p.src = c.queuedAt p.dst p.src ∧
      (c.passed p).F p.dst p.dst p.src = c.F p.dst p.dst p.src ∧ (c.passed p).beats = c.beats := by
    simp only [Causeway.passed, Causeway.count, entries, List.foldl_nil]
    exact ⟨rfl, rfl, rfl, rfl⟩
  obtain ⟨reseal, queued, floor, beats⟩ := same
  refine ⟨fly, held, ?_, delivered, beats⟩
  rw [Causeway.mayInject, know, reseal, queued, floor]
  rfl

end

/-! ### The reply -/

/-- A packet put on its channel with the entries that are dirty for its destination. -/
def Packet.carrying (p : Packet) (l : List (Nat × Nat × Nat)) : Packet := { p with entries := l }

/-- A packet that carries up to ten entries goes out alone. -/
theorem State.send_carrying {s : State} {p : Packet} {l : List (Nat × Nat × Nat)} (src : s.gone p.src = false)
    (dst : s.gone p.dst = false) (body : p.body ≠ .malformed) (dirty : s.cway.entriesFor p.src p.dst = l) (few : l.length ≤ 10)
    (may : s.cway.mayInject p.src p.dst 1 = true) : s.send p = { s with cway := s.cway.putOn p l } := by
  have carriers : s.cway.carriersNow p.src p.dst = 0 := by
    rw [Causeway.carriersNow, dirty]
    omega
  have posted : s.cway.post p = s.cway.putOn p l := by
    rw [Causeway.post, carriers, Nat.zero_add, if_pos may, Causeway.send, if_neg body, dirty]
    exact if_pos few
  rw [State.send, src, dst, posted]
  rfl

/-- A reply that carries its receiver's entry for that channel is delivered in the step that sends it. -/
theorem State.reply_free {s : State} {q : Packet} {v : Nat} (perform : State → Packet → State) (src : s.gone q.src = false)
    (dst : s.gone q.dst = false) (body : q.body ≠ .malformed) (notBeat : q.isBeat = false) (agents : q.src ≤ 9 ∧ q.dst ≤ 9)
    (apart : q.src ≠ q.dst) (dirty : s.cway.entriesFor q.src q.dst = [(q.dst, q.src, v)])
    (may : s.cway.mayInject q.src q.dst 1 = true) (beats : ∀ x ∈ s.cway.fly q.src q.dst, x.isBeat = true)
    (held : s.cway.waitingAt q.src q.dst = []) (few : s.pastBeat q.dst q.src ≤ 2 ^ 13) :
    ∃ c, (s.send q).drainChannel perform q.src q.dst =
      some ((perform { s with cway := c } (q.carrying [(q.dst, q.src, v)])).stirSender (q.carrying [(q.dst, q.src, v)])) := by
  have good : (q.carrying [(q.dst, q.src, v)]).bad = false := by
    have hs : decide (9 < q.src) = false := decide_eq_false (by omega)
    have hd : decide (9 < q.dst) = false := decide_eq_false (by omega)
    simp only [Packet.bad, Packet.carrying, List.any_cons, List.any_nil, Bool.or_false, Bool.or_eq_false_iff]
    exact ⟨⟨⟨beq_eq_false_iff_ne.2 body, hs⟩, hd⟩, ⟨hd, hs⟩, beq_eq_false_iff_ne.2 (Ne.symm apart)⟩
  rw [State.send_carrying src dst body dirty (by simp) may]
  have fly : (s.cway.putOn q [(q.dst, q.src, v)]).fly q.src q.dst = s.cway.fly q.src q.dst ++ [q.carrying [(q.dst, q.src, v)]] := by
    simp only [Causeway.putOn, Causeway.fly, mget, mfind_mput_same, Option.getD_some]
    rfl
  have deliverable : ({ s with cway := s.cway.putOn q [(q.dst, q.src, v)] } : State).deliverable
      (q.carrying [(q.dst, q.src, v)]) = true := by
    have few : ({ s with cway := s.cway.putOn q [(q.dst, q.src, v)] } : State).pastBeat q.dst q.src ≤ 2 ^ 13 := few
    refine Bool.and_eq_true_iff.2 ⟨?_, decide_eq_true few⟩
    simp [Packet.carrying, apart]
  exact ⟨_, State.drainChannel_only (s := { s with cway := s.cway.putOn q [(q.dst, q.src, v)] })
    (p := q.carrying [(q.dst, q.src, v)]) fly beats notBeat held good deliverable⟩

/-- Where a channel was free, the way back is too once a packet on it has been delivered, but for the entry that a reply carries. -/
theorem State.settled_back {s : State} {p : Packet} (entries : p.entries = []) (agents : p.src ≤ 9 ∧ p.dst ≤ 9) (apart : p.src ≠ p.dst)
    (free : s.channelFree p.dst p.src 1) :
    let c := (({ s with cway := s.cway.launched p } : State).settled p).cway
    (∃ v, c.entriesFor p.dst p.src = [(p.src, p.dst, v)]) ∧ c.mayInject p.dst p.src 1 = true ∧
      (∀ x ∈ c.fly p.dst p.src, x.isBeat = true) ∧ c.waitingAt p.dst p.src = [] ∧
      ({ s with cway := c } : State).pastBeat p.src p.dst ≤ 2 ^ 13 := by
  intro c
  obtain ⟨-, clear, none, may, few⟩ := free
  obtain ⟨-, beats, held⟩ := Causeway.clear_iff.1 clear
  obtain ⟨l, eq⟩ := s.settled_cway p
  obtain ⟨⟨f, shape⟩, more⟩ := (s.cway.passed p).withBeats_shape p.dst l
  obtain ⟨fly, waiting, inject, delivered, beaten⟩ := Causeway.passed_back (c := s.cway) entries apart
  obtain ⟨v, entry⟩ := Causeway.entriesFor_passed entries agents.1 agents.2 apart none
  obtain ⟨b, all, flying⟩ := more p.dst p.src
  have hc : c = { s.cway.passed p with flying := f } := eq.trans shape
  refine ⟨⟨v, by rw [hc]; exact entry⟩, by rw [hc]; exact inject.trans may, ?_, by rw [hc]; exact waiting.trans held, ?_⟩
  · intro x hx
    have flying : c.fly p.dst p.src = s.cway.fly p.dst p.src ++ b := by rw [← fly, ← flying]; exact congrArg (Causeway.fly · _ _) eq
    rw [flying, List.mem_append] at hx
    exact hx.elim (beats x) (all x)
  · have same : ({ s with cway := c } : State).pastBeat p.src p.dst = s.pastBeat p.src p.dst := by
      have hD : c.D p.src p.dst = s.cway.D p.src p.dst := by rw [hc]; exact delivered
      have hB : c.beats = s.cway.beats := by rw [hc]; exact beaten
      simp only [State.pastBeat, hD, hB]
      rfl
    omega

end Sys2Proof.Machine
end

section
/-!
PROOFS. The control aperture, resets and boot (19 R292, R293, R298, R300; 18 R291).
-/

namespace Sys2Proof.Machine
open Sys2Proof

/-! ### Reads of the aperture -/

theorem State.gone_host (s : State) : s.gone 8 = false := rfl

/-- A read asks its agent for the register's value, which goes back to H. -/
theorem performAll_read {a : Nat} (notHost : a ≠ 8) (offset size n : Nat) (t : State) :
    (State.performAll t (registerPacket a offset size none n)).stirSender (registerPacket a offset size none n) =
      t.send (mkPacket a 8 3 0 (.register offset size (some (BitVec.ofNat 64 (t.readAperture offset size))) n) none none) := by
  have body : State.performAll t (registerPacket a offset size none n) =
      t.send (mkPacket a 8 3 0 (.register offset size (some (BitVec.ofNat 64 (t.readAperture offset size))) n) none none) := by
    simp only [State.performAll, State.performWith, registerPacket, mkPacket, notHost, if_false]
  rw [body, State.stirSender_of rfl]

/-- H takes the value of a register that comes to it. -/
theorem performAll_reply (a offset size n : Nat) (v : Xword) (l : List (Nat × Nat × Nat)) (t : State) :
    let q := (mkPacket a 8 3 0 (.register offset size (some v) n) none none).carrying l
    (State.performAll t q).stirSender q = { t with host := { t.host with replies := mput t.host.replies n (leBytes 8 v.toNat) } } := by
  intro q
  have body : State.performAll t q = { t with host := { t.host with replies := mput t.host.replies n (leBytes 8 v.toNat) } } := by
    simp only [State.performAll, State.performWith, q, mkPacket, Packet.carrying, if_true, State.prefetchReply, Option.getD_some]
  rw [body, State.stirSender_of rfl]

theorem State.readPackageBlock_cway (s : State) (c : Causeway) (n o : Nat) :
    ({ s with cway := c, nextId := n } : State).readPackageBlock o = s.readPackageBlock o := by
  unfold State.readPackageBlock
  split <;> rfl

/-- What a register reads as does not depend on the causeway. -/
theorem State.readAperture_cway (s : State) (c : Causeway) (n offset size : Nat) :
    ({ s with cway := c, nextId := n } : State).readAperture offset size = s.readAperture offset size := by
  unfold State.readAperture
  rw [State.readPackageBlock_cway]
  rfl

/-- Bytes of a number see its residue only. -/
theorem leBytes_ofNat (x : Nat) : leBytes 8 (BitVec.ofNat 64 x).toNat = leBytes 8 x := by
  have small : ∀ k < 8, (BitVec.ofNat 8 (x % 2 ^ 64 / 256 ^ k) : Byte) = BitVec.ofNat 8 (x / 256 ^ k) := by
    intro k hk
    refine BitVec.eq_of_toNat_eq ?_
    simp only [BitVec.toNat_ofNat]
    interval_cases k <;> omega
  exact List.map_congr_left fun k hk => by rw [BitVec.toNat_ofNat]; exact small k (List.mem_range.1 hk)

/-- A read whose channels are free is answered in the step that sends it. -/
theorem hostAccess_read {s : State} {offset size a : Nat} (agent : apertureAgent offset = a) (here : a ≤ 9) (notHost : a ≠ 8)
    (reach : s.hostReaches a) (back : s.channelFree a 8 1) :
    mget [] (s.hostAccess offset size none).host.replies s.nextId = leBytes 8 (s.readAperture offset size) := by
  let p := registerPacket a offset size none s.nextId
  let s1 : State := { s with nextId := s.nextId + 1 }
  have sent := State.atOnce_free (s := s1) (p := p) State.performAll reach rfl (by simp [p, registerPacket, mkPacket]) rfl rfl
    (by simp [p, registerPacket, mkPacket]) here
  rw [performAll_read notHost] at sent
  obtain ⟨⟨v, entry⟩, may, beats, held, few⟩ := State.settled_back (s := s1) (p := p) rfl ⟨by simp [p, registerPacket, mkPacket], here⟩
    (Ne.symm notHost) back
  generalize hT : ({ s1 with cway := s1.cway.launched p } : State).settled p = T at sent entry may beats held few
  have hT' : T = { s with cway := T.cway, nextId := s.nextId + 1 } := by rw [← hT]; rfl
  obtain ⟨c, reply⟩ := State.reply_free (s := T) (q := mkPacket a 8 3 0
      (.register offset size (some (BitVec.ofNat 64 (T.readAperture offset size))) s.nextId) none none) State.performAll
    (by rw [hT']; exact reach.1) (T.gone_host) (by simp [mkPacket]) rfl ⟨here, by simp [mkPacket]⟩ notHost entry may beats held
    (by rw [hT']; exact few)
  rw [performAll_reply] at reply
  have clear : s.cway.clear a 8 = true := back.2.1
  have access : s.hostAccess offset size none =
      match s1.atOnce State.performAll p with
      | none => s1.send p
      | some t => if (true && s.cway.clear a 8) = true then (t.drainChannel State.performAll a 8).getD t else t := by
    simp only [State.hostAccess, State.fresh, agent, Option.isNone_none]
    rfl
  rw [access, sent, clear]
  have reply := congrArg (fun o => (o.getD
    (T.send (mkPacket a 8 3 0 (.register offset size (some (BitVec.ofNat 64 (T.readAperture offset size))) s.nextId) none none)))) reply
  refine (congrArg (fun t : State => mget [] t.host.replies s.nextId) reply).trans ?_
  have value : T.readAperture offset size = s.readAperture offset size := by
    rw [hT', State.readAperture_cway]
  simp only [Option.getD_some, mget, mfind_mput_same, leBytes_ofNat, value]

/-- The answer to a read whose channels are free is the value of the register. -/
theorem exec_read {s : State} {offset size value : Nat} (inside : offset < 0x10000000) (hv : s.readAperture offset size = value)
    (reach : s.hostReaches (apertureAgent offset)) (back : s.channelFree (apertureAgent offset) 8 1) :
    ∃ t, exec (.registerWrite offset size none) s = .next t ∧ mget [] t.host.replies s.nextId = leBytes 8 value := by
  have agent : apertureAgent offset ≤ 9 ∧ apertureAgent offset ≠ 8 := by
    unfold apertureAgent
    split <;> omega
  refine ⟨s.hostAccess offset size none, congrArg Host.Outcome.next (if_pos inside), ?_⟩
  rw [hostAccess_read rfl agent.1 agent.2 reach back, hv]

/-- A whole read of an aligned register of a die. -/
theorem readAperture_die (s : State) {die o : Nat} (hd : die < 8) (ho : o < 0x1000000) (aligned : o % 8 = 0) :
    s.readAperture (0x1000000 * die + o) 8 = s.readDieBlock die o := by
  have whole : ¬((8 : Nat) ≠ 8 ∨ (0x1000000 * die + o) % 8 ≠ 0) := by omega
  have agent : (0x1000000 * die + o) / 0x1000000 = die := by omega
  have offset : (0x1000000 * die + o) % 0x1000000 = o := by omega
  rw [State.readAperture, if_neg whole, if_pos (by omega), agent, offset]

/-- A whole read of an aligned register of the package. -/
theorem readAperture_package (s : State) {o : Nat} (aligned : o % 8 = 0) :
    s.readAperture (0x8000000 + o) 8 = s.readPackageBlock o := by
  have whole : ¬((8 : Nat) ≠ 8 ∨ (0x8000000 + o) % 8 ≠ 0) := by omega
  have offset : 0x8000000 + o - 0x8000000 = o := by omega
  rw [State.readAperture, if_neg whole, if_neg (by omega), offset]

theorem clusterCount_le (d : Nat) : clusterCount d ≤ 4 := by
  unfold clusterCount
  split <;> omega

section
variable (s : State) (die : Nat)

theorem readPackageBlock_measure {n k : Nat} (hn : n < 8) (hk : k < 4) :
    s.readPackageBlock (0x2000 + 32 * n + 8 * k) = leNat (((s.host.measure n).drop (8 * k)).take 8) := by
  have register : (0x2000 + 32 * n + 8 * k - 0x2000) / 32 = n := by omega
  have word : (0x2000 + 32 * n + 8 * k) % 32 = 8 * k := by omega
  have inside : 0x2000 ≤ 0x2000 + 32 * n + 8 * k ∧ 0x2000 + 32 * n + 8 * k < 0x2100 := by omega
  unfold State.readPackageBlock
  split
  case h_11 => rw [if_pos inside, register, word]
  all_goals omega

theorem readDieBlock_queue {q : Nat} (hq : q < 256) : s.readDieBlock die (0x1000 * q) =
    (s.queue (queueKey die q)).head.toNat + 2 ^ 32 * (s.queue (queueKey die q)).tail.toNat := by
  have index : 0x1000 * q / 0x1000 = q := by omega
  rw [State.readDieBlock, if_pos (by omega), if_pos (by omega), index]

theorem readDieBlock_clkstat {cl : Nat} (hc : cl < clusterCount die) :
    s.readDieBlock die (0x100008 + 0x10 * cl) = (s.cluster (clusterKey die cl)).clkstat := by
  have := clusterCount_le die
  have index : (0x100008 + 0x10 * cl - 0x100000) / 0x10 = cl := by omega
  rw [State.readDieBlock, if_neg (by omega), if_neg (by omega), if_pos (by omega), if_pos (by omega), index]

theorem readDieBlock_dieclk : s.readDieBlock die 0x100100 = (s.die die).dceil + (if (s.die die).rej then 2 ^ 12 else 0) := by
  rw [State.readDieBlock, if_neg (by omega), if_pos rfl]

section
variable {asid : Nat} (ha : asid < 2048)
include ha

theorem readDieBlock_hintdrop : s.readDieBlock die (0x110000 + 8 * asid) = (s.ctx (ctxKey die asid)).hintdrop.toNat := by
  have := clusterCount_le die
  have index : (0x110000 + 8 * asid - 0x110000) / 8 = asid := by omega
  simp only [State.readDieBlock]
  rw [if_neg (by omega), if_neg (by omega), if_neg (by omega), if_pos (by omega), index]

theorem readDieBlock_pfloor : s.readDieBlock die (0x120000 + 8 * asid) = (s.ctx (ctxKey die asid)).floor +
    2 ^ 13 * (s.ctx (ctxKey die asid)).maxcls + 2 ^ 32 * (s.ctx (ctxKey die asid)).efloor := by
  have := clusterCount_le die
  have index : (0x120000 + 8 * asid - 0x120000) / 8 = asid := by omega
  simp only [State.readDieBlock]
  rw [if_neg (by omega), if_neg (by omega), if_neg (by omega), if_neg (by omega), if_pos (by omega), index]

theorem readDieBlock_savebase : s.readDieBlock die (0x130000 + 8 * asid) = (s.ctx (ctxKey die asid)).savebase := by
  have := clusterCount_le die
  have index : (0x130000 + 8 * asid - 0x130000) / 8 = asid := by omega
  simp only [State.readDieBlock]
  rw [if_neg (by omega), if_neg (by omega), if_neg (by omega), if_neg (by omega), if_neg (by omega), if_pos (by omega), index]

theorem readDieBlock_evring : s.readDieBlock die (0x140000 + 8 * asid) = (s.ctx (ctxKey die asid)).evring := by
  have := clusterCount_le die
  have index : (0x140000 + 8 * asid - 0x140000) / 8 = asid := by omega
  simp only [State.readDieBlock]
  rw [if_neg (by omega), if_neg (by omega), if_neg (by omega), if_neg (by omega), if_neg (by omega), if_neg (by omega),
    if_pos (by omega), index]

end

end

/-! ### Resets (R300) -/

/-- A table restricted to some of its keys. -/
theorem mfind_filter {β : Type} (m : SMap β) (P : Nat → Bool) (k : Nat) :
    mfind (m.filter fun e => P e.1) k = if P k = true then mfind m k else none := by
  induction m with
  | nil => simp [mfind]
  | cons e r ih =>
    rw [List.filter_cons, mfind_cons]
    split
    · rw [mfind_cons, ih]
      split
      · next kept hk => rw [← hk, if_pos kept]
      · rfl
    · next gone =>
      rw [ih]
      by_cases hk : e.1 = k
      · rw [← hk, if_neg gone, if_neg gone]
      · rw [if_neg hk]

theorem resetPackage_byte (s : State) (x : Nat) : s.resetPackage.byte x = if x / 2 ^ 48 = 8 then s.byte x else 0 := by
  have mem : s.resetPackage.mem = s.mem.filter fun e => decide (ownerOf e.1 = 8) := rfl
  have find := mfind_filter s.mem (fun x => decide (ownerOf x = 8)) x
  rw [State.byte, mget, mem, find]
  by_cases host : ownerOf x = 8
  · exact (congrArg (Option.getD · 0) (if_pos (decide_eq_true host))).trans (if_pos (c := x / 2 ^ 48 = 8) host).symm
  · rw [if_neg fun h => host (of_decide_eq_true h)]
    exact (if_neg (c := x / 2 ^ 48 = 8) host).symm

/-- A die after its reset: departed, its memory zero, its contexts unbound, and a reseal under way for it. -/
theorem State.resetDie_normal (perform : State → Packet → State) {s : State} {d : Nat} (hd : d < 8) (normal : s.cway.reseal = .normal) :
    (s.resetDie perform d).gone d = true ∧ (s.resetDie perform d).cway.reseal = .stopped (some d) ∧
      (∀ x, x / 2 ^ 48 = d → (s.resetDie perform d).byte x = 0) ∧
      ∀ a, (s.resetDie perform d).ctx (ctxKey d (a % 2048)) = Ctx.unbound := by
  have reset : s.resetDie perform d = { (s.depart perform d 5).reinitDie d with
      cway := { (s.depart perform d 5).cway with reseal := .stopped (some d) } } := by
    rw [State.resetDie, normal]
    rfl
  generalize s.depart perform d 5 = u at reset
  have mem : (u.reinitDie d).mem = u.mem.filter fun e => decide (ownerOf e.1 ≠ d) := rfl
  have ctxs : (u.reinitDie d).ctxs = u.ctxs.filter fun e => decide (e.1 / 2048 ≠ d) := rfl
  have die : (u.reinitDie d).die d = { Die.atReset with timeFloor := u.timeOf d, departed := true, renewed := true } :=
    (State.die_setDie u d d _).trans (if_pos rfl)
  rw [reset]
  refine ⟨?_, rfl, fun x hx => ?_, fun a => ?_⟩
  · show (decide (d < 8) && ((u.reinitDie d).die d).departed) = true
    rw [die, decide_eq_true hd]
    rfl
  · show mget 0 (u.reinitDie d).mem x = 0
    rw [mem, mget, mfind_filter _ fun x => decide (ownerOf x ≠ d), if_neg fun h => (of_decide_eq_true h : ownerOf x ≠ d) hx]
    rfl
  · have key : ctxKey d (a % 2048) / 2048 = d := by unfold ctxKey; omega
    show mget Ctx.unbound (u.reinitDie d).ctxs (ctxKey d (a % 2048)) = _
    rw [ctxs, mget, mfind_filter _ fun k => decide (k / 2048 ≠ d), if_neg fun h => (of_decide_eq_true h : _ ≠ d) key]
    rfl

/-- The members of a list of a reset are none twice. -/
theorem mem_resetsHeld (l : List Nat) (d : Nat) : d ∈ distinct (l ++ [d]) := (mem_distinct _ _).2 (by simp)

/-! ### Boot (R298) -/

theorem HostIf.measure_extend (h : HostIf) (n : Nat) (d : List Byte) (m : Nat) :
    (h.extend n d).measure m = if m = n then sha256 (h.measure n ++ d) else h.measure m := mget_mset _ _ _ _ _

theorem State.hostEvent_host (s : State) (l : List Xword) : ∃ tail lost,
    (s.hostEvent l).host = { s.host with etail := tail, elost := lost } := by
  unfold State.hostEvent
  simp only
  split
  · have host := (State.AtHome.fwWrite s (placed (hostPa (s.host.ebase + 64 * (s.host.etail.toNat % 2 ^ s.host.esize)))
      (wordsBytes ((l ++ List.replicate 8 0).take 8)))).host
    exact ⟨_, _, by rw [host]⟩
  · exact ⟨_, _, rfl⟩

/-- A stage that is not due, or a stage after boot that is no update, is ignored. -/
theorem exec_bootStage_ignored {s : State} {stage : Nat} {l : List (List Byte)} {good : Bool}
    (update : s.host.accepting = false ∨ stage ≠ 6)
    (out : s.host.bootStopped = true ∨ s.host.accepting = true ∨ stage ≠ s.host.bootStage ∨ 5 < stage) :
    exec (.bootStage stage l good) s = .next s := by
  have noUpdate : ¬(stage = 6 ∧ s.host.accepting = true) := by
    rintro ⟨h, h'⟩
    exact update.elim (fun h => by rw [h] at h'; cases h') fun h' => h' h
  exact (if_neg noUpdate).trans (if_pos out)

/-- A firmware update after boot extends register 6 where it is good. -/
theorem exec_bootStage_update {s : State} {d : List Byte} {good : Bool} (accepting : s.host.accepting = true) :
    ∃ t, exec (.bootStage 6 [d] good) s = .next t ∧ t = { s with host := t.host } ∧
      t.host.measure 6 = (if good = true then sha256 (s.host.measure 6 ++ d) else s.host.measure 6) ∧
      ∀ n, n ≠ 6 → t.host.measure n = s.host.measure n := by
  have step : exec (.bootStage 6 [d] good) s = .next (if good then { s with host := s.host.extend 6 d } else s) :=
    if_pos ⟨rfl, accepting⟩
  refine ⟨_, step, ?_⟩
  cases good
  · exact ⟨rfl, rfl, fun _ _ => rfl⟩
  · exact ⟨rfl, (s.host.measure_extend 6 d 6).trans (if_pos rfl), fun n hn => (s.host.measure_extend 6 d n).trans (if_neg hn)⟩

/-- What boot leaves of the host's registers after a stage that is due. -/
def HostIf.booted (h : HostIf) (stage : Nat) (d : List Byte) (good : Bool) : HostIf :=
  let h := h.extend stage d
  if good = false then { h with bootStopped := true }
  else if stage < 5 then { h with bootStage := stage + 1 }
  else { h with bootStage := 6, accepting := true }

theorem HostIf.measure_booted (h : HostIf) (stage : Nat) (d : List Byte) (good : Bool) (n : Nat) :
    (h.booted stage d good).measure n = if n = stage then sha256 (h.measure stage ++ d) else h.measure n := by
  rw [← h.measure_extend]
  unfold HostIf.booted
  split
  · rfl
  · split <;> rfl

/-- The host's registers after a stage that is due; an event may have been posted. -/
theorem exec_bootStage_due {s : State} {d : List Byte} {stage : Nat} (good : Bool) (stopped : s.host.bootStopped = false)
    (accepting : s.host.accepting = false) (due : stage = s.host.bootStage) (last : stage ≤ 5) :
    ∃ t tail lost, exec (.bootStage stage [d] good) s = .next t ∧
      t.host = { s.host.booted stage d good with etail := tail, elost := lost } := by
  have noUpdate : ¬(stage = 6 ∧ s.host.accepting = true) := by omega
  have open_ : ¬(s.host.bootStopped = true ∨ s.host.accepting = true ∨ stage ≠ s.host.bootStage ∨ 5 < stage) := by
    rw [stopped, accepting]
    simp only [Bool.false_eq_true, false_or]
    omega
  have step : exec (.bootStage stage [d] good) s = _ := (if_neg noUpdate).trans (if_neg open_)
  cases good
  · obtain ⟨tail, lost, host⟩ := State.hostEvent_host ({ s with host := s.host.booted stage d false } : State)
      [(0x30 : Xword), BitVec.ofNat 64 (stage + 2 ^ 32 * 1)]
    exact ⟨_, tail, lost, step, host⟩
  · by_cases more : stage < 5
    · have booted : s.host.booted stage d true = { s.host.extend stage d with bootStage := stage + 1 } := if_pos more
      exact ⟨_, _, _, step.trans (if_pos more), by rw [booted]; rfl⟩
    · have booted : s.host.booted stage d true = { s.host.extend stage d with bootStage := 6, accepting := true } := if_neg more
      obtain ⟨tail, lost, host⟩ := State.hostEvent_host ({ s with host := s.host.booted stage d true } : State)
        [(0x30 : Xword), BitVec.ofNat 64 (stage + 2 ^ 32 * 0)]
      rw [booted] at host
      exact ⟨_, tail, lost, step.trans (if_neg more), by rw [booted]; exact host⟩

/-- A stage that is due is measured; boot stops, goes on, or ends. -/
theorem exec_bootStage {s : State} {d : List Byte} {stage : Nat} (good : Bool) (stopped : s.host.bootStopped = false)
    (accepting : s.host.accepting = false) (due : stage = s.host.bootStage) (last : stage ≤ 5) :
    ∃ t, exec (.bootStage stage [d] good) s = .next t ∧ t.host.measure stage = sha256 (s.host.measure stage ++ d) ∧
      (∀ n, n ≠ stage → t.host.measure n = s.host.measure n) ∧
      (good = false → t.host.bootStopped = true ∧ t.host.accepting = false) ∧
      (good = true → stage < 5 → t.host.bootStage = stage + 1 ∧ t.host.accepting = false) ∧
      (good = true → stage = 5 → t.host.accepting = true) := by
  obtain ⟨t, tail, lost, step, host⟩ := exec_bootStage_due (d := d) good stopped accepting due last
  have measure (n : Nat) : t.host.measure n = (s.host.booted stage d good).measure n := by
    rw [host]
    rfl
  refine ⟨t, step, ?_, fun n hn => ?_, ?_, ?_, ?_⟩
  · rw [measure, HostIf.measure_booted, if_pos rfl]
  · rw [measure, HostIf.measure_booted, if_neg hn]
  · rintro rfl
    rw [host]
    exact ⟨rfl, accepting⟩
  · rintro rfl more
    have booted : s.host.booted stage d true = { s.host.extend stage d with bootStage := stage + 1 } := if_pos more
    rw [host, booted]
    exact ⟨rfl, accepting⟩
  · rintro rfl rfl
    rw [host]
    rfl

/-! ### Writes of the aperture (R293) -/

section
variable (s : State)

theorem writeDieBlock_hints (die : Nat) {asid : Nat} (v : Xword) (ha : asid < 2048) :
    s.writeDieBlock die (0x110000 + 8 * asid) v = if v = 0 then s.clearHints die asid else s := by
  have := clusterCount_le die
  have index : (0x110000 + 8 * asid - 0x110000) / 8 = asid := by omega
  rw [State.writeDieBlock, if_neg (by omega), if_neg (by omega), if_neg (by omega), if_pos (by omega), index]

/-- An access waits behind another packet of its channel. -/
theorem hostAccess_waits {offset size : Nat} {v : Option Xword} (busy : s.cway.clear 8 (apertureAgent offset) = false) :
    s.hostAccess offset size v = { s with cway := (s.hostAccess offset size v).cway, nextId := s.nextId + 1 } := by
  have access : s.hostAccess offset size v = ({ s with nextId := s.nextId + 1 } : State).send
      (registerPacket (apertureAgent offset) offset size v s.nextId) := by
    have late : ({ s with nextId := s.nextId + 1 } : State).atOnce State.performAll
        (mkPacket 8 (apertureAgent offset) 3 0 (.register offset size v s.nextId) none none) = none := by
      have busy : ({ s with nextId := s.nextId + 1 } : State).cway.clear 8 (apertureAgent offset) = false := busy
      refine if_pos ?_
      show (_ || !({ s with nextId := s.nextId + 1 } : State).cway.clear 8 (apertureAgent offset) || _) = true
      simp [busy]
    simp only [State.hostAccess, State.fresh]
    rw [late]
    rfl
  rw [access, State.send]
  split <;> rfl

/-- A narrower or misaligned write is ignored. -/
theorem hostWrites_ignored {offset size : Nat} {v : Xword} (inside : offset < 0x10000000) (odd : size ≠ 8 ∨ offset % 8 ≠ 0) :
    HostWrites (.registerWrite offset size (some v)) s (apertureAgent offset) s := by
  intro reach
  have agent : apertureAgent offset ≤ 9 ∧ apertureAgent offset ≠ 8 := by
    unfold apertureAgent
    split <;> omega
  obtain ⟨c, -, access⟩ := hostAccess_write (v := v) (size := size) rfl agent.1 agent.2 reach
  refine ⟨_, congrArg Host.Outcome.next (if_pos inside), ?_⟩
  rw [access, State.writeAperture, if_pos odd]

theorem hostWrites_base (v : Xword) :
    HostWrites (.registerWrite 0x8001000 8 (some v)) s 9
        { s with host := { s.host with cbase := 2 ^ 12 * (v.toNat / 2 ^ 12 % 2 ^ 40), csize := v.toNat / 2 ^ 52 % 2 ^ 4 } } ∧
      HostWrites (.registerWrite 0x8001008 8 (some v)) s 9
        { s with host := { s.host with ebase := 2 ^ 12 * (v.toNat / 2 ^ 12 % 2 ^ 40), esize := v.toNat / 2 ^ 52 % 2 ^ 4 } } :=
  ⟨hostWrites_package (o := 0x1000) rfl rfl fun _ _ => rfl, hostWrites_package (o := 0x1008) rfl rfl fun _ _ => rfl⟩

theorem hostWrites_pointers (v : Xword) :
    HostWrites (.registerWrite 0x8001010 8 (some v)) s 9 { s with host := { s.host with ctail := BitVec.ofNat 32 v.toNat } } ∧
      HostWrites (.registerWrite 0x8001020 8 (some v)) s 9 { s with host := { s.host with ehead := BitVec.ofNat 32 v.toNat } } := by
  rw [BitVec.ofNat_toNat]
  exact ⟨hostWrites_package (o := 0x1010) rfl rfl fun _ _ => rfl, hostWrites_package (o := 0x1020) rfl rfl fun _ _ => rfl⟩

theorem hostWrites_hintdropClear {die asid : Nat} (hd : die < 8) (ha : asid < 2048) :
    HostWrites (.hintdropClear die asid) s die
      (s.setCtx (ctxKey die asid) { s.ctx (ctxKey die asid) with hintdrop := 0 }) := by
  have named : (decide (die < 8) && decide (asid < 2048)) = true := by simp [hd, ha]
  refine hostWrites_die (o := 0x110000 + 8 * asid) (v := 0) hd (by omega) ?_ (by omega) fun c n => ?_
  · show s.hostWrite (decide (die < 8) && decide (asid < 2048)) (0x1000000 * die + 0x110000 + 8 * asid) 0 = _
    rw [State.hostWrite, named, Nat.add_assoc]
    rfl
  · rw [writeDieBlock_hints _ _ _ ha, if_pos rfl]
    rfl

/-- A write to HINTDROP of another value than 0 is ignored. -/
theorem hostWrites_hints {die asid : Nat} {v : Xword} (hd : die < 8) (ha : asid < 2048) (hv : v ≠ 0) :
    HostWrites (.registerWrite (2 ^ 24 * die + (0x110000 + 8 * asid)) 8 (some v)) s die s := by
  have inside : 2 ^ 24 * die + (0x110000 + 8 * asid) < 0x10000000 := by omega
  refine hostWrites_die (o := 0x110000 + 8 * asid) (v := v) hd (by omega) (congrArg Host.Outcome.next (if_pos inside)) (by omega)
    fun c n => ?_
  rw [writeDieBlock_hints _ _ _ ha, if_neg hv]

/-- A write at the offset of a register is the write to that register. -/
theorem exec_write {i : Instr} {offset : Nat} {v : Xword} {here : Bool} (inside : offset < 0x10000000) (hh : here = true)
    (he : exec i s = s.hostWrite here offset v) : exec (.registerWrite offset 8 (some v)) s = exec i s := by
  rw [he, hh]
  exact congrArg Host.Outcome.next (if_pos inside)

/-- RSTCTL with bit 63 resets the package. -/
theorem exec_rstctl_package {v : Xword} (bit : v.getLsbD 63 = true) (reach : s.hostReaches 9) :
    ∃ u : State, exec .packageReset s = .next u ∧
      exec (.registerWrite 0x8000018 8 (some v)) s = .next { u with nextId := s.nextId + 1 } := by
  obtain ⟨c, -, access⟩ := hostAccess_write (v := v) (size := 8) (offset := 0x8000018) (a := 9) rfl (by omega) (by omega) reach
  refine ⟨_, rfl, ?_⟩
  have step : exec (.registerWrite 0x8000018 8 (some v)) s = .next (s.hostAccess 0x8000018 8 (some v)) := rfl
  rw [step, access, writeAperture_package (o := 0x18) _ _ _ rfl]
  exact congrArg Host.Outcome.next (if_pos bit)

/-- RSTCTL with the bit of a die resets it. -/
theorem exec_rstctl_die {v : Xword} {d : Nat} (hd : d < 8) (hv : v.toNat = 2 ^ d) (reach : s.hostReaches 9) :
    ∃ t, exec (.registerWrite 0x8000018 8 (some v)) s = .next t ∧ t.gone d = true ∧
      t.cway.reseal = .stopped (some d) ∧ ∀ x, x / 2 ^ 48 = d → t.byte x = 0 := by
  have bits (k : Nat) : v.getLsbD k = decide (d = k) := by
    rw [← BitVec.testBit_toNat, hv, Nat.testBit_two_pow]
  have one : (List.range 8).filter (fun k => v.getLsbD k) = [d] := by
    simp only [bits]
    interval_cases d <;> rfl
  obtain ⟨c, reseal, access⟩ := hostAccess_write (v := v) (size := 8) (offset := 0x8000018) (a := 9) rfl (by omega) (by omega) reach
  have normal : s.cway.reseal = .normal := by
    obtain ⟨-, -, -, may, -⟩ := reach
    simp only [Causeway.mayInject, Bool.and_eq_true, beq_iff_eq] at may
    exact may.1.1
  have step : exec (.registerWrite 0x8000018 8 (some v)) s = .next (s.hostAccess 0x8000018 8 (some v)) := rfl
  rw [step, access, writeAperture_package (o := 0x18) _ _ _ rfl]
  have write (t : State) : t.writePackageBlock (State.performWith 9) 0x18 v = t.resetDie (State.performWith 9) d := by
    have whole : v.getLsbD 63 = false := by rw [bits, decide_eq_false (by omega)]
    have rst : t.writePackageBlock (State.performWith 9) 0x18 v = t.writeRstctl (State.performWith 9) v := rfl
    rw [rst, State.writeRstctl, whole, one]
    rfl
  obtain ⟨gone, stopped, zero, -⟩ := State.resetDie_normal (State.performWith 9)
    (s := { s with cway := c, nextId := s.nextId + 1 }) hd (reseal.trans normal)
  exact ⟨_, congrArg Host.Outcome.next (write _), gone, stopped, zero⟩

end

/-- Settles O54: each access of the aperture, and each reset and stage of boot, by its own lemma. -/
theorem hostRegistersAndResets : Obligations.HostRegistersAndResets := by
  unfold Obligations.HostRegistersAndResets
  intro s
  refine ⟨fun offset size v => ?_, fun offset size => ?_, fun v => ?_, fun die asid hd ha => hostWrites_hintdropClear s hd ha,
    hostWrites_package (o := 0x1030) rfl rfl fun _ _ => rfl, rfl, ⟨_, rfl, resetPackage_byte s, rfl, rfl⟩, fun die => ?_,
    fun stage d good => ?_⟩
  · refine ⟨fun outside => congrArg Host.Outcome.next (if_neg (Nat.not_lt.2 outside)), fun inside busy => ?_,
      fun inside odd given => ?_⟩
    · exact ⟨_, congrArg Host.Outcome.next (if_pos inside), hostAccess_waits s busy⟩
    · cases v with
      | none => exact absurd rfl given
      | some v => exact hostWrites_ignored s inside odd
  · intro a reads
    have value {x : Nat} (inside : offset < 0x10000000) (hx : s.readAperture offset size = x) : reads x := exec_read inside hx
    refine ⟨fun inside odd => value inside (if_pos odd), ?_⟩
    rintro rfl
    have package {o x : Nat} (at_ : offset = 0x8000000 + o) (ho : o < 0x8000000) (aligned : o % 8 = 0)
        (hx : s.readPackageBlock o = x) : reads x :=
      value (by omega) (by rw [at_, readAperture_package s aligned, hx])
    have register {die o x : Nat} (hd : die < 8) (at_ : offset = 2 ^ 24 * die + o) (ho : o < 0x1000000) (aligned : o % 8 = 0)
        (hx : s.readDieBlock die o = x) : reads x :=
      value (by omega) (by rw [at_]; exact (readAperture_die s hd ho aligned).trans hx)
    refine ⟨fun h => package (o := 0) h (by omega) rfl rfl, fun h => package (o := 0x10) h (by omega) rfl rfl,
      fun h => package (o := 0x1018) h (by omega) rfl rfl, fun h => package (o := 0x1030) h (by omega) rfl rfl,
      fun n k hn hk h => ?_, fun die hd => ⟨fun q hq h => ?_, fun cl hc h => ?_, fun h => ?_, fun asid ha => ?_⟩⟩
    · exact package (o := 0x2000 + 32 * n + 8 * k) (by omega) (by omega) (by omega) (readPackageBlock_measure s hn hk)
    · exact register hd h (by omega) (by omega) (readDieBlock_queue s die hq)
    · have := clusterCount_le die
      exact register (o := 0x100008 + 0x10 * cl) hd (by omega) (by omega) (by omega) (readDieBlock_clkstat s die hc)
    · exact register hd h (by omega) rfl (readDieBlock_dieclk s die)
    · exact ⟨fun h => register (o := 0x110000 + 8 * asid) hd (by omega) (by omega) (by omega) (readDieBlock_hintdrop s die ha),
        fun h => register (o := 0x120000 + 8 * asid) hd (by omega) (by omega) (by omega) (readDieBlock_pfloor s die ha),
        fun h => register (o := 0x130000 + 8 * asid) hd (by omega) (by omega) (by omega) (readDieBlock_savebase s die ha),
        fun h => register (o := 0x140000 + 8 * asid) hd (by omega) (by omega) (by omega) (readDieBlock_evring s die ha)⟩
  · intro h at_ write
    refine ⟨rfl, rfl, rfl, exec_rstctl_package s, fun d => exec_rstctl_die s, (hostWrites_base s v).1, (hostWrites_base s v).2,
      (hostWrites_pointers s v).1, (hostWrites_pointers s v).2, ?_, fun die hd => ?_⟩
    · rintro rfl
      rfl
    intro o
    refine ⟨fun q hq hv => ?_, fun cl hc => ?_, ?_, fun asid ha => ⟨?_, fun hv => ?_, ?_⟩⟩
    · have same : (BitVec.ofNat 32 v.toNat).setWidth 64 = v := by
        refine BitVec.eq_of_toNat_eq ?_
        simp only [BitVec.toNat_setWidth, BitVec.toNat_ofNat]
        omega
      refine exec_write s (by omega) (here := decide (die < 8) && decide (q < 256)) (by simp [hd, hq]) ?_
      show s.hostWrite _ _ ((BitVec.ofNat 32 v.toNat).setWidth 64) = _
      rw [same]
      rfl
    · have := clusterCount_le die
      exact exec_write s (by omega) (here := decide (die < 8) && decide (cl < clusterCount die)) (by simp [hd, hc]) rfl
    · exact exec_write s (by omega) (decide_eq_true hd) rfl
    · rintro rfl
      exact exec_write s (by omega) (here := decide (die < 8) && decide (asid < 2048)) (by simp [hd, ha]) rfl
    · exact (Nat.add_assoc _ _ _ : o + 0x110000 + 8 * asid = _) ▸ hostWrites_hints s hd ha hv
    · exact exec_write s (by omega) (here := decide (die < 8) && decide (asid < 2048)) (by simp [hd, ha]) rfl
  · refine ⟨fun out => congrArg Host.Outcome.next (if_neg (Nat.not_lt.2 out)), fun hd => ⟨fun normal => ?_, fun busy => ?_⟩⟩
    · exact ⟨_, congrArg Host.Outcome.next (if_pos hd), State.resetDie_normal State.performAll hd normal⟩
    · refine ⟨_, congrArg Host.Outcome.next (if_pos hd), ?_⟩
      have held : s.resetDie State.performAll die =
          { s with cway := { s.cway with resetsHeld := distinct (s.cway.resetsHeld ++ [die]) } } := by
        unfold State.resetDie
        split
        · next normal => exact absurd normal busy
        all_goals rfl
      rw [held]
      exact ⟨rfl, rfl, mem_resetsHeld _ _⟩
  · refine ⟨fun accepting six => ?_, exec_bootStage_ignored, fun stopped accepting => exec_bootStage good stopped accepting⟩
    subst six
    exact exec_bootStage_update accepting

end Sys2Proof.Machine
end

section
/-!
PROOFS. Points, supplies, trims, samples, link widths and ceilings (18 R277 to R283, R286, R290; 16 R260, R264, R267 to R269;
07 R181, R182).
-/

namespace Sys2Proof.Machine
open Sys2Proof

/-! ### What a new point may change -/

/-- Of two states nothing differs but the points of clusters, with what goes along, and the reductions that dies hold. -/
structure State.Repoints (s t : State) : Prop where
  shape : ∃ dies clusters, t = { s with dies := dies, clusters := clusters }
  die : ∀ d, ∃ held, t.die d = { s.die d with heldPoints := held }
  cluster : ∀ k, ∃ point changed clamp dwell, t.cluster k =
    { s.cluster k with point := point, changed := changed, clampMhz := clamp, dwell := dwell }

namespace State.Repoints

theorem refl (s : State) : s.Repoints s := ⟨⟨_, _, rfl⟩, fun _ => ⟨_, rfl⟩, fun _ => ⟨_, _, _, _, rfl⟩⟩

theorem trans {s t u : State} (h : s.Repoints t) (h' : t.Repoints u) : s.Repoints u := by
  refine ⟨?_, fun d => ?_, fun k => ?_⟩
  · obtain ⟨_, _, rfl⟩ := h.shape
    obtain ⟨_, _, rfl⟩ := h'.shape
    exact ⟨_, _, rfl⟩
  · obtain ⟨a, ha⟩ := h.die d
    obtain ⟨b, hb⟩ := h'.die d
    exact ⟨b, by rw [hb, ha]⟩
  · obtain ⟨a, b, c, e, ha⟩ := h.cluster k
    obtain ⟨a', b', c', e', hb⟩ := h'.cluster k
    exact ⟨a', b', c', e', by rw [hb, ha]⟩

theorem foldl {α : Type} {f : State → α → State} (hf : ∀ (s : State) x, s.Repoints (f s x)) (l : List α) (s : State) :
    s.Repoints (l.foldl f s) :=
  foldl_rel refl (fun h h' => h.trans h') hf l s

theorem setDie {s : State} {d : Nat} {x : Die} (h : ∃ held, x = { s.die d with heldPoints := held }) : s.Repoints (s.setDie d x) := by
  refine ⟨⟨_, _, rfl⟩, fun e => ?_, fun _ => ⟨_, _, _, _, rfl⟩⟩
  rw [State.die_setDie]
  split
  · subst_vars
    exact h
  · exact ⟨_, rfl⟩

theorem setCluster {s : State} {k : Nat} {x : Cluster} (h : ∃ point changed clamp dwell, x =
    { s.cluster k with point := point, changed := changed, clampMhz := clamp, dwell := dwell }) : s.Repoints (s.setCluster k x) := by
  refine ⟨⟨_, _, rfl⟩, fun _ => ⟨_, rfl⟩, fun j => ?_⟩
  rw [State.cluster_setCluster]
  split
  · subst_vars
    exact h
  · exact ⟨_, _, _, _, rfl⟩

section
variable {s t : State} (h : s.Repoints t)
include h

theorem ctxs : t.ctxs = s.ctxs := by
  obtain ⟨_, _, rfl⟩ := h.shape
  rfl

theorem now : t.now = s.now := by
  obtain ⟨_, _, rfl⟩ := h.shape
  rfl

theorem widening (d : Nat) : (t.die d).widening = (s.die d).widening := by
  obtain ⟨_, die⟩ := h.die d
  rw [die]

theorem ceil (d : Nat) : (t.die d).ceil = (s.die d).ceil := by
  obtain ⟨_, die⟩ := h.die d
  rw [die]

theorem gated (k : Nat) : (t.cluster k).gated = (s.cluster k).gated := by
  obtain ⟨_, _, _, _, cluster⟩ := h.cluster k
  rw [cluster]

end

end State.Repoints

theorem clusterKey_inj {die c c' : Nat} : clusterKey die c = clusterKey die c' ↔ c = c' := by
  unfold clusterKey
  omega

section
variable (s : State) (die cl : Nat)

theorem State.Repoints.setPoint (k : Nat) : s.Repoints (s.setPoint die cl k) := by
  unfold State.setPoint
  simp only
  split
  · exact .setDie ⟨_, rfl⟩
  · have held := State.Repoints.setDie (s := s) (d := die) ⟨(s.die die).heldPoints.filter fun h => h.1 ≠ cl, rfl⟩
    split
    · exact held
    · exact held.trans (.setCluster ⟨_, _, _, _, rfl⟩)

/-- A new point changes no other cluster. -/
theorem State.setPoint_other {k key : Nat} (h : key ≠ clusterKey die cl) : (s.setPoint die cl k).cluster key = s.cluster key := by
  unfold State.setPoint
  simp only
  split
  · rfl
  · split
    · rfl
    · exact (State.cluster_setCluster _ _ _ _).trans (if_neg h)

/-- While the link's width does not change, the cluster takes the point. -/
theorem State.setPoint_point (k : Nat) (h : (s.die die).widening = none) :
    ((s.setPoint die cl k).cluster (clusterKey die cl)).point = k := by
  unfold State.setPoint
  simp only [h, Option.isSome_none, Bool.false_eq_true, false_and, if_false]
  split
  · next same => exact same
  · rw [State.cluster_setCluster, if_pos rfl]
    rfl

end

/-! ### Points under a ceiling (R282, R283, R286) -/

/-- A ceiling allows a point: point 0, or one whose frequency does not pass it. -/
def UnderCeil (ceil k : Nat) : Prop := k = 0 ∨ pointMhz k ≤ ceil

theorem pointUnder_spec (ceil k : Nat) : UnderCeil ceil (pointUnder ceil k) ∧ pointUnder ceil k ≤ k := by
  induction k with
  | zero => exact ⟨.inl rfl, le_rfl⟩
  | succ k ih =>
    unfold pointUnder
    split
    · next h => exact ⟨.inr h, le_rfl⟩
    · exact ⟨ih.1, ih.2.trans (Nat.le_succ k)⟩

theorem mem_pointsUnder {ceil k : Nat} : k ∈ pointsUnder ceil ↔ k < 8 ∧ UnderCeil ceil k := by
  simp [pointsUnder, UnderCeil]

/-- The cheaper of some options is one of them. -/
theorem cheaper_mem (x : Nat × Frac × Frac) (r : List (Nat × Frac × Frac)) : r.foldl cheaper x ∈ x :: r := by
  induction r generalizing x with
  | nil => simp
  | cons y r ih =>
    have h := ih (cheaper x y)
    have pick : cheaper x y = x ∨ cheaper x y = y := by
      unfold cheaper
      split
      · exact .inr rfl
      · exact .inl rfl
    rw [List.foldl_cons, List.mem_cons, List.mem_cons]
    rcases List.mem_cons.1 h with h | h
    · rw [h]
      exact pick.elim .inl fun h => .inr (.inl h)
    · exact .inr (.inr h)

/-- A chooser takes an option that is allowed, or stays; it leaves one that is not, where there is another. -/
theorem choose_spec (cost : Nat → Frac × Frac) (allowed : List Nat) (current : Nat) :
    (choose cost allowed current ∈ allowed ∨ choose cost allowed current = current) ∧
      (allowed ≠ [] → current ∉ allowed → choose cost allowed current ∈ allowed) := by
  cases allowed with
  | nil => exact ⟨.inr rfl, fun h => absurd rfl h⟩
  | cons a r =>
    have best : ((r.map fun k => (k, cost k)).foldl cheaper (a, cost a)).1 ∈ a :: r := by
      have h := cheaper_mem (a, cost a) (r.map fun k => (k, cost k))
      rw [← List.map_cons (f := fun k => (k, cost k)), List.mem_map] at h
      obtain ⟨k, hk, eq⟩ := h
      rw [← eq]
      exact hk
    have unfolded : choose cost (a :: r) current =
        if (!(a :: r).contains current) = true then ((r.map fun k => (k, cost k)).foldl cheaper (a, cost a)).1
        else if (!Frac.lt ⟨15 * (cost current).1.num, (cost current).1.den * 16⟩
            ((r.map fun k => (k, cost k)).foldl cheaper (a, cost a)).2.1) = true
          then ((r.map fun k => (k, cost k)).foldl cheaper (a, cost a)).1 else current := rfl
    rw [unfolded]
    refine ⟨?_, fun _ out => ?_⟩
    · split
      · exact .inl best
      · split
        · exact .inl best
        · exact .inr rfl
    · rw [if_pos (by simpa using out)]
      exact best

section
variable (s : State) (die cl : Nat)

theorem State.Repoints.pinHold : s.Repoints (s.pinHold die cl) := by
  unfold State.pinHold
  simp only
  split
  · exact .refl s
  · exact .setPoint s die cl _

/-- A cluster moves to a point, where it is not there, and its dwell begins. -/
def State.moveTo (k : Nat) : State :=
  if k = (s.cluster (clusterKey die cl)).point then s
  else (s.setCluster (clusterKey die cl) { s.cluster (clusterKey die cl) with dwell := s.now }).setPoint die cl k

/-- The point that the chooser of a cluster takes from its last sample, or without one. -/
def State.newPoint : Nat :=
  match (s.cluster (clusterKey die cl)).sample with
  | some x => choose (pointCost (Config.leakage (clusterKey die cl)) (s.clusterWeight die cl).1 (s.clusterWeight die cl).2 x)
      (pointsUnder (s.die die).ceil) (s.cluster (clusterKey die cl)).point
  | none =>
    if !(pointsUnder (s.die die).ceil).contains (s.cluster (clusterKey die cl)).point then pointUnder (s.die die).ceil 7
    else (s.cluster (clusterKey die cl)).point

theorem State.choosePoint_eq : s.choosePoint die cl =
    if (s.cluster (clusterKey die cl)).pinned then s.pinHold die cl
    else if (s.cluster (clusterKey die cl)).gated ∨ (!!(pointsUnder (s.die die).ceil).contains (s.cluster (clusterKey die cl)).point) ∧
        s.now < (s.cluster (clusterKey die cl)).dwell + 10000 then s
    else s.moveTo die cl (s.newPoint die cl) := rfl

theorem State.Repoints.moveTo (k : Nat) : s.Repoints (s.moveTo die cl k) := by
  unfold State.moveTo
  split
  · exact .refl s
  · exact State.Repoints.trans (.setCluster ⟨_, _, _, _, rfl⟩) (.setPoint _ die cl k)

theorem State.moveTo_other {k key : Nat} (h : key ≠ clusterKey die cl) : (s.moveTo die cl k).cluster key = s.cluster key := by
  unfold State.moveTo
  split
  · rfl
  · rw [State.setPoint_other _ _ _ h, State.cluster_setCluster, if_neg h]

theorem State.moveTo_point (k : Nat) (h : (s.die die).widening = none) :
    ((s.moveTo die cl k).cluster (clusterKey die cl)).point = k := by
  unfold State.moveTo
  split
  · next same => exact same.symm
  · exact State.setPoint_point _ die cl k h

theorem State.Repoints.choosePoint : s.Repoints (s.choosePoint die cl) := by
  rw [State.choosePoint_eq]
  split
  · exact .pinHold s die cl
  · split
    · exact .refl s
    · exact .moveTo s die cl _

theorem State.pinHold_other {key : Nat} (h : key ≠ clusterKey die cl) : (s.pinHold die cl).cluster key = s.cluster key := by
  unfold State.pinHold
  simp only
  split
  · rfl
  · exact State.setPoint_other s die cl h

/-- A pinned cluster that is not gated stands under the ceiling, at its pin or below. -/
theorem State.pinHold_point (awake : (s.cluster (clusterKey die cl)).gated = false) (h : (s.die die).widening = none) :
    UnderCeil (s.die die).ceil ((s.pinHold die cl).cluster (clusterKey die cl)).point ∧
      ((s.pinHold die cl).cluster (clusterKey die cl)).point ≤ (s.cluster (clusterKey die cl)).pinPoint := by
  have hold : s.pinHold die cl = s.setPoint die cl (pointUnder (s.die die).ceil (s.cluster (clusterKey die cl)).pinPoint) := by
    rw [State.pinHold, if_neg (by rw [awake]; exact Bool.false_ne_true)]
  rw [hold, State.setPoint_point s die cl _ h]
  exact pointUnder_spec _ _

/-- The chooser leaves a point that the ceiling excludes. -/
theorem State.newPoint_under (out : (s.cluster (clusterKey die cl)).point ∉ pointsUnder (s.die die).ceil) :
    UnderCeil (s.die die).ceil (s.newPoint die cl) := by
  have some_ : pointsUnder (s.die die).ceil ≠ [] := List.ne_nil_of_mem (mem_pointsUnder.2 ⟨by omega, .inl rfl⟩ : 0 ∈ _)
  unfold State.newPoint
  split
  · exact (mem_pointsUnder.1 ((choose_spec _ _ _).2 some_ out)).2
  · rw [if_pos (by simpa using out)]
    exact (pointUnder_spec _ 7).1

/-! ### A new ceiling (R286, R283) -/

/-- A cluster leaves a point above the ceiling. -/
def State.heed : State :=
  if (s.cluster (clusterKey die cl)).gated then s
  else if (s.cluster (clusterKey die cl)).pinned then s.pinHold die cl
  else if (pointsUnder (s.die die).ceil).contains (s.cluster (clusterKey die cl)).point then s
  else s.choosePoint die cl

theorem State.Repoints.heed : s.Repoints (s.heed die cl) := by
  unfold State.heed
  split
  · exact .refl s
  · split
    · exact .pinHold s die cl
    · split
      · exact .refl s
      · exact .choosePoint s die cl

theorem State.heed_other {key : Nat} (h : key ≠ clusterKey die cl) : (s.heed die cl).cluster key = s.cluster key := by
  unfold State.heed
  split
  · rfl
  · split
    · exact State.pinHold_other s die cl h
    · split
      · rfl
      · rw [State.choosePoint_eq]
        split
        · exact State.pinHold_other s die cl h
        · split
          · rfl
          · exact State.moveTo_other s die cl h

/-- Afterwards the cluster, where it is not gated, stands under the ceiling. -/
theorem State.heed_under (awake : (s.cluster (clusterKey die cl)).gated = false) (h : (s.die die).widening = none) :
    UnderCeil (s.die die).ceil ((s.heed die cl).cluster (clusterKey die cl)).point := by
  rw [State.heed, if_neg (by rw [awake]; exact Bool.false_ne_true)]
  split
  · exact (State.pinHold_point s die cl awake h).1
  · next free =>
    split
    · next inside => exact (mem_pointsUnder.1 (by simpa using inside)).2
    · next out =>
      have moves : ¬((s.cluster (clusterKey die cl)).gated = true ∨
          (!!(pointsUnder (s.die die).ceil).contains (s.cluster (clusterKey die cl)).point) = true ∧
            s.now < (s.cluster (clusterKey die cl)).dwell + 10000) := by
        rintro (g | ⟨inside, -⟩)
        · rw [awake] at g
          cases g
        · exact out (by simpa using inside)
      rw [State.choosePoint_eq, if_neg free, if_neg moves, State.moveTo_point s die cl _ h]
      exact State.newPoint_under s die cl (by simpa using out)

end

/-- Clusters of a list are changed one after another, each from a state in which it stands as at the start. -/
theorem foldl_clusters {f : State → Nat → State} {die : Nat} {R : State → State → Prop} (refl : ∀ s, R s s)
    (trans : ∀ {s t u}, R s t → R t u → R s u) (step : ∀ s c, R s (f s c))
    (other : ∀ s c key, key ≠ clusterKey die c → (f s c).cluster key = s.cluster key) (l : List Nat) (s : State) :
    R s (l.foldl f s) ∧ (∀ k, (∀ c ∈ l, k ≠ clusterKey die c) → (l.foldl f s).cluster k = s.cluster k) ∧
      (l.Nodup → ∀ c ∈ l, ∃ u, R s u ∧ u.cluster (clusterKey die c) = s.cluster (clusterKey die c) ∧
        (l.foldl f s).cluster (clusterKey die c) = (f u c).cluster (clusterKey die c)) := by
  induction l generalizing s with
  | nil => exact ⟨refl s, fun _ _ => rfl, fun _ _ h => absurd h (by simp)⟩
  | cons x r ih =>
    obtain ⟨rest, others, each⟩ := ih (f s x)
    refine ⟨trans (step s x) rest, fun k hk => ?_, fun once c hc => ?_⟩
    · rw [List.foldl_cons, others k fun c hc => hk c (by simp [hc]), other s x k (hk x (by simp))]
    · obtain ⟨new, once⟩ := List.nodup_cons.1 once
      rw [List.foldl_cons]
      rcases List.mem_cons.1 hc with rfl | hc
      · exact ⟨s, refl s, rfl, others _ fun y hy same => new (clusterKey_inj.1 same ▸ hy)⟩
      · obtain ⟨u, hu, same, last⟩ := each once c hc
        refine ⟨u, trans (step s x) hu, ?_, last⟩
        rw [same, other s x _ fun same => new (clusterKey_inj.1 same ▸ hc)]

/-- CEIL takes its value, and the clusters that are not gated stand under it. -/
theorem State.applyCeil_spec (s : State) (die : Nat) :
    ∃ t : State, s.applyCeil die = t ∧ (t.die die).ceil = s.ceilAt die (s.timeOf die) ∧
      (t.die die).thermal = (s.die die).thermal ∧ (t.die die).dceil = (s.die die).dceil ∧
      ((s.die die).widening = none → ∀ c, c < clusterCount die → (t.cluster (clusterKey die c)).gated = false →
        UnderCeil (t.die die).ceil (t.cluster (clusterKey die c)).point) := by
  obtain ⟨u, hu⟩ : ∃ u, u = s.setDie die { s.die die with ceil := s.ceilAt die (s.timeOf die) } := ⟨_, rfl⟩
  have die_ : u.die die = { s.die die with ceil := s.ceilAt die (s.timeOf die) } := by
    rw [hu, State.die_setDie, if_pos rfl]
  obtain ⟨moved, -, each⟩ := foldl_clusters (die := die) .refl (fun h h' => h.trans h') (fun s c => State.Repoints.heed s die c)
    (fun s c _ h => State.heed_other s die c h) (List.range (clusterCount die)) u
  have apply : s.applyCeil die = (List.range (clusterCount die)).foldl (fun s c => s.heed die c) u := by
    rw [hu]
    rfl
  generalize (List.range (clusterCount die)).foldl (fun s c => s.heed die c) u = t at moved each apply
  have ceil := moved.ceil die
  obtain ⟨held, after⟩ := moved.die die
  refine ⟨t, apply, by rw [ceil, die_], by rw [after, die_], by rw [after, die_], fun still c hc awake => ?_⟩
  obtain ⟨v, before, same, last⟩ := each List.nodup_range c (List.mem_range.2 hc)
  rw [last, ceil, ← before.ceil die]
  refine State.heed_under v die c ?_ (by rw [before.widening, die_]; exact still)
  rw [same, ← moved.gated]
  exact awake

/-! ### Supply, waking and gating (R277, R279, R282) -/

section
variable (s : State) (die cl : Nat)

theorem exec_voltageStep_up (h : (s.cluster (clusterKey die cl)).mv < pointMv (s.cluster (clusterKey die cl)).point) :
    exec (.voltageStep die cl) s = .next (s.setCluster (clusterKey die cl) { s.cluster (clusterKey die cl) with
      mv := min (pointMv (s.cluster (clusterKey die cl)).point) ((s.cluster (clusterKey die cl)).mv + 5) }) :=
  congrArg Host.Outcome.next (if_pos h)

theorem exec_voltageStep_down (h : pointMv (s.cluster (clusterKey die cl)).point < (s.cluster (clusterKey die cl)).mv)
    (tight : (s.cluster (clusterKey die cl)).clampMhz ≤ pointMhz (s.cluster (clusterKey die cl)).point) :
    exec (.voltageStep die cl) s = .next (s.setCluster (clusterKey die cl) { s.cluster (clusterKey die cl) with
      mv := max (pointMv (s.cluster (clusterKey die cl)).point) ((s.cluster (clusterKey die cl)).mv - 5) }) :=
  congrArg Host.Outcome.next ((if_neg (Nat.lt_asymm h)).trans (if_pos ⟨h, tight⟩))

theorem exec_voltageReached (h : pointMv (s.cluster (clusterKey die cl)).point ≤ (s.cluster (clusterKey die cl)).mv) :
    ∃ t, exec (.voltageReached die cl) s = .next t ∧
      (t.cluster (clusterKey die cl)).clampMhz = pointMhz (s.cluster (clusterKey die cl)).point := by
  refine ⟨_, rfl, ?_⟩
  by_cases relaxed : (s.cluster (clusterKey die cl)).clampMhz = pointMhz (s.cluster (clusterKey die cl)).point
  · rw [if_neg fun x => x.2 relaxed]
    exact relaxed
  · rw [if_pos ⟨h, relaxed⟩, State.cluster_setCluster, if_pos rfl]

theorem exec_clusterWake : ∃ t, exec (.clusterWake die cl) s = .next t ∧ (t.cluster (clusterKey die cl)).gated = false ∧
    ((s.cluster (clusterKey die cl)).pinned = false → (s.die die).widening = none →
      UnderCeil (t.die die).ceil (t.cluster (clusterKey die cl)).point ∧ (t.cluster (clusterKey die cl)).point ≤ 4) := by
  obtain ⟨u, hu⟩ : ∃ u, u = s.setCluster (clusterKey die cl)
    { s.cluster (clusterKey die cl) with gated := false, dwell := s.now, sample := none } := ⟨_, rfl⟩
  have cluster : u.cluster (clusterKey die cl) =
      { s.cluster (clusterKey die cl) with gated := false, dwell := s.now, sample := none } := by
    rw [hu, State.cluster_setCluster, if_pos rfl]
  have die_ : u.die die = s.die die := by rw [hu]; rfl
  have wake : exec (.clusterWake die cl) s = .next (if (u.cluster (clusterKey die cl)).pinned then u.pinHold die cl
      else u.setPoint die cl (pointUnder (u.die die).ceil 4)) := by
    rw [hu]
    rfl
  refine ⟨_, wake, ?_, fun free still => ?_⟩
  · split
    · rw [(State.Repoints.pinHold u die cl).gated, cluster]
    · rw [(State.Repoints.setPoint u die cl _).gated, cluster]
  · have free : (u.cluster (clusterKey die cl)).pinned = false := by rw [cluster]; exact free
    rw [free, if_neg Bool.false_ne_true, (State.Repoints.setPoint u die cl _).ceil,
      State.setPoint_point u die cl _ (by rw [die_]; exact still)]
    exact pointUnder_spec _ _

theorem exec_clusterGate (none_ : (s.cluster (clusterKey die cl)).asid = none) (awake : (s.cluster (clusterKey die cl)).gated = false)
    (idle : (s.cluster (clusterKey die cl)).idleSince + 100000 ≤ s.now) (still : (s.die die).widening = none) :
    ∃ t, exec (.clusterGate die cl) s = .next t ∧ (t.cluster (clusterKey die cl)).gated = true ∧
      (t.cluster (clusterKey die cl)).point = 0 := by
  have due : (s.cluster (clusterKey die cl)).asid.isNone = true ∧ (s.cluster (clusterKey die cl)).gated = false ∧
      (s.cluster (clusterKey die cl)).idleSince + 100000 ≤ s.now := ⟨by rw [none_]; rfl, awake, idle⟩
  refine ⟨_, congrArg Host.Outcome.next (if_pos due), ?_, State.setPoint_point _ die cl _ still⟩
  rw [(State.Repoints.setPoint _ die cl _).gated, State.cluster_setCluster, if_pos rfl]

/-! ### Samples (R281) -/

theorem exec_stallSampleEnd_early {occupied stalled energy : Nat} (h : s.timeOf die < (s.cluster (clusterKey die cl)).sampleEnd) :
    exec (.stallSampleEnd die cl occupied stalled energy) s = .next s := if_pos h

/-- The cluster once a sample of it has ended. -/
def Cluster.sampled (c : Cluster) (r energy t : Nat) : Cluster :=
  { c with
    stallr := BitVec.ofNat 16 r
    changed := false
    sample := if c.changed then c.sample else some { stall := r, energy := energy, point := c.point }
    lastEnergy := energy
    charged := 0
    sampleEnd := 10000 * (t / 10000 + 1)
    occSeen := false
    stallSeen := false }

/-- The context of a cluster is charged the energy of a sample that its commands have not been. -/
def State.chargeSample (energy : Nat) (t : State) : State :=
  match (s.cluster (clusterKey die cl)).asid with
  | none => t
  | some a => t.setCtx (ctxKey die a) { t.ctx (ctxKey die a) with
      energy := (t.ctx (ctxKey die a)).energy + BitVec.ofNat 64 (energy - (s.cluster (clusterKey die cl)).charged / 65536)
      power := ((t.clustersOf die a).map fun k => (t.cluster (clusterKey die k)).lastEnergy).sum / 10 }

theorem exec_stallSampleEnd_due {occupied stalled energy : Nat}
    (h : (s.cluster (clusterKey die cl)).sampleEnd ≤ s.timeOf die) :
    let c := s.cluster (clusterKey die cl)
    let u := s.setCluster (clusterKey die cl) (c.sampled (c.stallRatio occupied stalled) energy (s.timeOf die))
    ∃ t, exec (.stallSampleEnd die cl occupied stalled energy) s = .next t ∧ (s.chargeSample die cl energy u).Repoints t := by
  intro c u
  have step : exec (.stallSampleEnd die cl occupied stalled energy) s =
      .next (if c.changed then s.chargeSample die cl energy u else (s.chargeSample die cl energy u).choosePoint die cl) :=
    if_neg (Nat.not_lt.2 h)
  refine ⟨_, step, ?_⟩
  split
  · exact .refl _
  · exact .choosePoint _ die cl

theorem State.chargeSample_cluster (energy : Nat) (t : State) (k : Nat) :
    (s.chargeSample die cl energy t).cluster k = t.cluster k := by
  unfold State.chargeSample
  split <;> rfl

theorem State.chargeSample_energy (energy : Nat) (t : State) {a : Nat} (ha : (s.cluster (clusterKey die cl)).asid = some a) :
    ((s.chargeSample die cl energy t).ctx (ctxKey die a)).energy =
      (t.ctx (ctxKey die a)).energy + BitVec.ofNat 64 (energy - (s.cluster (clusterKey die cl)).charged / 65536) := by
  rw [State.chargeSample, ha]
  simp only [State.ctx_setCtx, if_true]

theorem exec_stallSampleEnd {occupied stalled energy : Nat} (h : (s.cluster (clusterKey die cl)).sampleEnd ≤ s.timeOf die) :
    let c := s.cluster (clusterKey die cl)
    ∃ t, exec (.stallSampleEnd die cl occupied stalled energy) s = .next t ∧
      (t.cluster (clusterKey die cl)).stallr = BitVec.ofNat 16 (c.stallRatio occupied stalled) ∧
      (t.cluster (clusterKey die cl)).sampleEnd = 10000 * (s.timeOf die / 10000 + 1) ∧
      ∀ a, c.asid = some a → (t.ctx (ctxKey die a)).energy =
        (s.ctx (ctxKey die a)).energy + BitVec.ofNat 64 (energy - c.charged / 65536) := by
  intro c
  obtain ⟨t, step, moved⟩ := exec_stallSampleEnd_due s die cl (occupied := occupied) (stalled := stalled) (energy := energy) h
  obtain ⟨_, _, _, _, cluster⟩ := moved.cluster (clusterKey die cl)
  rw [State.chargeSample_cluster, State.cluster_setCluster, if_pos rfl] at cluster
  refine ⟨t, step, by rw [cluster]; rfl, by rw [cluster]; rfl, fun a ha => ?_⟩
  have ctx : t.ctx (ctxKey die a) = State.ctx _ (ctxKey die a) := congrArg (mget Ctx.unbound · _) moved.ctxs
  rw [ctx, State.chargeSample_energy s die cl energy _ ha]
  rfl

end

/-! ### The limiter and the emergency step (R267 to R269) -/

theorem foldl_min_spec (l : List Nat) (b : Nat) :
    (∀ x ∈ b :: l, l.foldl min b ≤ x) ∧ l.foldl min b ∈ b :: l := by
  induction l generalizing b with
  | nil => simp
  | cons x r ih =>
    obtain ⟨least, member⟩ := ih (min b x)
    have low := least _ (List.mem_cons_self ..)
    refine ⟨fun y hy => ?_, ?_⟩
    · rcases List.mem_cons.1 hy with rfl | hy
      · exact low.trans (min_le_left _ _)
      · rcases List.mem_cons.1 hy with rfl | hy
        · exact low.trans (min_le_right _ _)
        · exact least y (by simp [hy])
    · rw [List.foldl_cons, List.mem_cons, List.mem_cons]
      rcases List.mem_cons.1 member with h | h
      · rw [h]
        rcases min_choice b x with h | h <;> simp [h]
      · exact .inr (.inr h)

theorem foldl_max_spec (l : List Nat) (b : Nat) :
    (∀ x ∈ b :: l, x ≤ l.foldl max b) ∧ l.foldl max b ∈ b :: l := by
  induction l generalizing b with
  | nil => simp
  | cons x r ih =>
    obtain ⟨most, member⟩ := ih (max b x)
    have high := most _ (List.mem_cons_self ..)
    refine ⟨fun y hy => ?_, ?_⟩
    · rcases List.mem_cons.1 hy with rfl | hy
      · exact (le_max_left _ _).trans high
      · rcases List.mem_cons.1 hy with rfl | hy
        · exact (le_max_right _ _).trans high
        · exact most y (by simp [hy])
    · rw [List.foldl_cons, List.mem_cons, List.mem_cons]
      rcases List.mem_cons.1 member with h | h
      · rw [h]
        rcases max_choice b x with h | h <;> simp [h]
      · exact .inr (.inr h)

section
variable (s : State) (die : Nat)

theorem State.trimRank_le (classes : ∀ k, (s.ctx k).maxcls ≤ 7) (c : Nat) : s.trimRank die c ≤ 9 := by
  unfold State.trimRank
  split
  · omega
  · next a _ =>
    have := classes (ctxKey die a)
    simp only
    split <;> omega

/-- Of the clusters of a list, those of the lowest rank. -/
theorem State.mem_ranked_low {l : List Nat} {c : Nat} (small : s.trimRank die c ≤ 9) :
    c ∈ s.ranked die false l ↔ c ∈ l ∧ ∀ y ∈ l, s.trimRank die c ≤ s.trimRank die y := by
  obtain ⟨least, member⟩ := foldl_min_spec (l.map fun c => s.trimRank die c) 9
  have ranked : c ∈ s.ranked die false l ↔
      c ∈ l ∧ s.trimRank die c = (l.map fun c => s.trimRank die c).foldl min 9 := by
    simp [State.ranked]
  rw [ranked]
  refine and_congr_right fun hc => ⟨fun best y hy => ?_, fun low => le_antisymm ?_ ?_⟩
  · rw [best]
    exact least _ (List.mem_cons_of_mem _ (List.mem_map_of_mem hy))
  · rcases List.mem_cons.1 member with h | h
    · rw [h]
      exact small
    · obtain ⟨y, hy, eq⟩ := List.mem_map.1 h
      rw [← eq]
      exact low y hy
  · exact least _ (List.mem_cons_of_mem _ (List.mem_map_of_mem hc))

/-- Of the clusters of a list, those of the highest rank. -/
theorem State.mem_ranked_high {l : List Nat} {c : Nat} :
    c ∈ s.ranked die true l ↔ c ∈ l ∧ ∀ y ∈ l, s.trimRank die y ≤ s.trimRank die c := by
  obtain ⟨most, member⟩ := foldl_max_spec (l.map fun c => s.trimRank die c) 0
  have ranked : c ∈ s.ranked die true l ↔
      c ∈ l ∧ s.trimRank die c = (l.map fun c => s.trimRank die c).foldl max 0 := by
    simp [State.ranked]
  rw [ranked]
  refine and_congr_right fun hc => ⟨fun best y hy => ?_, fun high => le_antisymm ?_ ?_⟩
  · rw [best]
    exact most _ (List.mem_cons_of_mem _ (List.mem_map_of_mem hy))
  · exact most _ (List.mem_cons_of_mem _ (List.mem_map_of_mem hc))
  · rcases List.mem_cons.1 member with h | h
    · rw [h]
      exact Nat.zero_le _
    · obtain ⟨y, hy, eq⟩ := List.mem_map.1 h
      rw [← eq]
      exact high y hy

theorem State.ranked_nodup {l : List Nat} (h : l.Nodup) (b : Bool) : (s.ranked die b l).Nodup := h.filter _

/-- The trim of a cluster is changed by a function. -/
def State.trimBy (f : Nat → Nat) (c : Nat) : State :=
  s.setCluster (clusterKey die c) ((s.cluster (clusterKey die c)).setTrim (f (s.cluster (clusterKey die c)).trim) s.now)

/-- The trims of the clusters of a list are changed. -/
theorem foldl_trimBy (f : Nat → Nat) {l : List Nat} (once : l.Nodup) :
    ∃ t : State, l.foldl (fun s c => s.trimBy die f c) s = t ∧ t = { s with clusters := t.clusters } ∧
      ∀ c, (t.cluster (clusterKey die c)).trim =
        if c ∈ l then f (s.cluster (clusterKey die c)).trim else (s.cluster (clusterKey die c)).trim := by
  obtain ⟨shape, others, each⟩ := foldl_clusters (die := die) (f := fun s c => s.trimBy die f c)
    (R := fun s t => ∃ k, t = { s with clusters := k }) (fun _ => ⟨_, rfl⟩)
    (by rintro s t u ⟨_, rfl⟩ ⟨_, rfl⟩; exact ⟨_, rfl⟩) (fun _ _ => ⟨_, rfl⟩)
    (fun s c key h => (State.cluster_setCluster _ _ _ _).trans (if_neg h)) l s
  obtain ⟨k, shape⟩ := shape
  refine ⟨_, rfl, by rw [shape], fun c => ?_⟩
  split
  · next hc =>
    obtain ⟨u, -, same, last⟩ := each once c hc
    rw [last, State.trimBy, State.cluster_setCluster, if_pos rfl, same]
    rfl
  · next hc => rw [others _ fun y hy same => hc (by rw [clusterKey_inj.1 same]; exact hy)]

theorem exec_limiterSample (power : Nat) (classes : ∀ k, (s.ctx k).maxcls ≤ 7) :
    let d := s.die die
    ∃ t : State, exec (.limiterSample die power) s = .next t ∧
      t = { s.setDie die { d with sample := power } with clusters := t.clusters } ∧ ∀ x, x < clusterCount die →
        let old (y : Nat) := (s.cluster (clusterKey die y)).trim
        let new := (t.cluster (clusterKey die x)).trim
        new = if d.budget < power ∧ old x < 25 ∧ (∀ y, y < clusterCount die → old y < 25 → s.trimRank die x ≤ s.trimRank die y)
            then min 25 (old x + 5)
          else if power ≤ d.budget ∧ 100 * power < 97 * d.budget ∧ 0 < old x ∧
              (∀ y, y < clusterCount die → 0 < old y → s.trimRank die y ≤ s.trimRank die x) then old x - 1
          else old x := by
  intro d
  let old (y : Nat) := (s.cluster (clusterKey die y)).trim
  obtain ⟨u, hu⟩ : ∃ u, u = s.setDie die { d with sample := power } := ⟨_, rfl⟩
  have cluster (k : Nat) : u.cluster k = s.cluster k := by rw [hu]; rfl
  have rank (c : Nat) : u.trimRank die c = s.trimRank die c := by rw [hu]; rfl
  have budget : (u.die die).budget = d.budget := by rw [hu, State.die_setDie, if_pos rfl]
  let low := u.ranked die false ((List.range (clusterCount die)).filter fun c => decide ((u.cluster (clusterKey die c)).trim < 25))
  let high := u.ranked die true ((List.range (clusterCount die)).filter fun c => decide (0 < (u.cluster (clusterKey die c)).trim))
  have step : exec (.limiterSample die power) s = .next (
      if (u.die die).budget < power then low.foldl (fun s c => s.trimBy die (fun t => min 25 (t + 5)) c) u
      else if 100 * power < 97 * (u.die die).budget then high.foldl (fun s c => s.trimBy die (fun t => t - 1) c) u
      else u) := by
    simp only [low, high]
    rw [hu]
    rfl
  have inLow {x : Nat} (hx : x < clusterCount die) : x ∈ low ↔
      old x < 25 ∧ ∀ y, y < clusterCount die → old y < 25 → s.trimRank die x ≤ s.trimRank die y := by
    simp only [low]
    rw [State.mem_ranked_low u die (by rw [rank]; exact s.trimRank_le die classes x)]
    simp only [List.mem_filter, List.mem_range, cluster, rank, decide_eq_true_eq, hx, true_and, and_imp, old]
  have inHigh {x : Nat} (hx : x < clusterCount die) : x ∈ high ↔
      0 < old x ∧ ∀ y, y < clusterCount die → 0 < old y → s.trimRank die y ≤ s.trimRank die x := by
    simp only [high]
    rw [State.mem_ranked_high u die]
    simp only [List.mem_filter, List.mem_range, cluster, rank, decide_eq_true_eq, hx, true_and, and_imp, old]
  have once (b : Bool) (p : Nat → Bool) : (u.ranked die b ((List.range (clusterCount die)).filter p)).Nodup :=
    u.ranked_nodup die (List.nodup_range.filter _) b
  rw [budget] at step
  by_cases above : d.budget < power
  · obtain ⟨t, fold, shape, trims⟩ := foldl_trimBy u die (fun t => min 25 (t + 5)) (l := low) (once _ _)
    rw [if_pos above, fold] at step
    refine ⟨t, step, by rw [hu] at shape; exact shape, fun x hx => ?_⟩
    intro old new
    have less : ¬power ≤ d.budget := by omega
    simp only [new]
    rw [trims, cluster]
    by_cases lowest : x ∈ low
    · rw [if_pos lowest, if_pos ⟨above, (inLow hx).1 lowest⟩]
    · rw [if_neg lowest, if_neg fun h => lowest ((inLow hx).2 h.2), if_neg fun h => less h.1]
  · rw [if_neg above] at step
    by_cases under : 100 * power < 97 * d.budget
    · obtain ⟨t, fold, shape, trims⟩ := foldl_trimBy u die (fun t => t - 1) (l := high) (once _ _)
      rw [if_pos under, fold] at step
      refine ⟨t, step, by rw [hu] at shape; exact shape, fun x hx => ?_⟩
      intro old new
      have less : power ≤ d.budget := by omega
      simp only [new]
      rw [trims, cluster]
      by_cases highest : x ∈ high
      · rw [if_pos highest, if_neg fun h => above h.1, if_pos ⟨less, under, (inHigh hx).1 highest⟩]
      · rw [if_neg highest, if_neg fun h => above h.1, if_neg fun h => highest ((inHigh hx).2 h.2.2)]
    · rw [if_neg under] at step
      refine ⟨u, step, by rw [hu], fun x _ => ?_⟩
      intro old new
      rw [if_neg fun h => above h.1, if_neg fun h => under h.2.1]
      simp only [new, old, cluster]

/-! ### The emergency step (R269) -/

/-- A cluster is due an emergency step. -/
def DropDue (now : Nat) (x : Cluster) : Prop :=
  (∃ t0, x.fullTrimSince = some t0 ∧ t0 + 100000 ≤ now) ∧ (x.lastDrop = 0 ∨ x.lastDrop + 10000 ≤ now)

theorem dropDue_iff (now : Nat) (x : Cluster) : x.dropDue now = true ↔ DropDue now x := by
  unfold Cluster.dropDue DropDue
  cases x.fullTrimSince <;> simp

/-- The time of a step down is noted. -/
def State.noteDrop (c : Nat) : State :=
  s.setCluster (clusterKey die c) { s.cluster (clusterKey die c) with dwell := s.now, lastDrop := s.now }

theorem State.noteDrop_cluster (c : Nat) : (s.noteDrop die c).cluster (clusterKey die c) =
    { s.cluster (clusterKey die c) with dwell := s.now, lastDrop := s.now } :=
  (State.cluster_setCluster _ _ _ _).trans (if_pos rfl)

/-- One cluster drops a point. -/
def State.dropPoint (c : Nat) : State :=
  (s.noteDrop die c).setPoint die c (((s.noteDrop die c).cluster (clusterKey die c)).point - 1)

theorem State.dropPoint_other {c key : Nat} (h : key ≠ clusterKey die c) : (s.dropPoint die c).cluster key = s.cluster key := by
  rw [State.dropPoint, State.setPoint_other _ _ _ h, State.noteDrop, State.cluster_setCluster, if_neg h]

theorem State.dropPoint_same (c : Nat) : (s.dropPoint die c).now = s.now ∧
    ((s.dropPoint die c).die die).widening = (s.die die).widening := by
  have moved := State.Repoints.setPoint (s.noteDrop die c) die c (((s.noteDrop die c).cluster (clusterKey die c)).point - 1)
  exact ⟨moved.now, moved.widening die⟩

theorem State.dropPoint_self (c : Nat) (still : (s.die die).widening = none) :
    ((s.dropPoint die c).cluster (clusterKey die c)).point = (s.cluster (clusterKey die c)).point - 1 ∧
      ((s.dropPoint die c).cluster (clusterKey die c)).lastDrop = s.now := by
  have moved := State.Repoints.setPoint (s.noteDrop die c) die c (((s.noteDrop die c).cluster (clusterKey die c)).point - 1)
  obtain ⟨_, _, _, _, cluster⟩ := moved.cluster (clusterKey die c)
  refine ⟨?_, ?_⟩
  · rw [State.dropPoint, State.setPoint_point (s.noteDrop die c) die c _ still, State.noteDrop_cluster]
  · rw [State.dropPoint, cluster, State.noteDrop_cluster]

theorem exec_emergencyStep (above : (s.die die).budget < (s.die die).sample) :
    ∃ t, exec (.emergencyStep die) s = .next t ∧
      (∀ x, x < clusterCount die → ¬DropDue s.now (s.cluster (clusterKey die x)) →
        t.cluster (clusterKey die x) = s.cluster (clusterKey die x)) ∧
      ∀ cl, (s.cluster (clusterKey die cl)).asid = none → cl < clusterCount die → DropDue s.now (s.cluster (clusterKey die cl)) →
        (s.die die).widening = none →
        (t.cluster (clusterKey die cl)).point = (s.cluster (clusterKey die cl)).point - 1 ∧
          (t.cluster (clusterKey die cl)).lastDrop = s.now := by
  let long := (List.range (clusterCount die)).filter fun c => (s.cluster (clusterKey die c)).dropDue s.now
  have step : exec (.emergencyStep die) s = .next ((s.ranked die false long).foldl (fun s c => s.dropPoint die c) s) :=
    congrArg Host.Outcome.next ((if_neg (Nat.not_le.2 above)).trans rfl)
  have mem {x : Nat} (hx : x < clusterCount die) : x ∈ long ↔ DropDue s.now (s.cluster (clusterKey die x)) := by
    simp only [long, List.mem_filter, List.mem_range, hx, true_and, dropDue_iff]
  obtain ⟨-, others, each⟩ := foldl_clusters (die := die) (f := fun s c => s.dropPoint die c)
    (R := fun s t => t.now = s.now ∧ (t.die die).widening = (s.die die).widening) (fun _ => ⟨rfl, rfl⟩)
    (fun h h' => ⟨h'.1.trans h.1, h'.2.trans h.2⟩) (fun s c => s.dropPoint_same die c) (fun s c _ h => s.dropPoint_other die h)
    (s.ranked die false long) s
  refine ⟨_, step, fun x hx notDue => others _ fun c hc same => ?_, fun cl free hx due still => ?_⟩
  · obtain rfl := clusterKey_inj.1 same
    exact notDue ((mem hx).1 (List.mem_of_mem_filter hc))
  · have lowest : s.trimRank die cl = 0 := by rw [State.trimRank, free]
    have ranked : cl ∈ s.ranked die false long :=
      (s.mem_ranked_low die (by omega)).2 ⟨(mem hx).2 due, fun y _ => by rw [lowest]; exact Nat.zero_le _⟩
    obtain ⟨u, ⟨now, width⟩, same, last⟩ := each (s.ranked_nodup die (List.nodup_range.filter _) false) cl ranked
    obtain ⟨point, drop⟩ := u.dropPoint_self die cl (width.trans still)
    rw [last]
    exact ⟨by rw [point, same], by rw [drop, now]⟩

/-! ### Biases and choosers (R264, R274) -/

/-- The contexts of a list are each changed once. -/
theorem foldl_setCtx (f : Ctx → Ctx) {l : List Nat} (once : l.Nodup) :
    ∃ t : State, l.foldl (fun s k => s.setCtx k (f (s.ctx k))) s = t ∧ t = { s with ctxs := t.ctxs } ∧
      ∀ k, t.ctx k = if k ∈ l then f (s.ctx k) else s.ctx k := by
  induction l generalizing s with
  | nil => exact ⟨s, rfl, rfl, fun _ => by simp⟩
  | cons x r ih =>
    obtain ⟨new, once⟩ := List.nodup_cons.1 once
    obtain ⟨t, fold, shape, ctx⟩ := ih (s.setCtx x (f (s.ctx x))) once
    refine ⟨t, fold, shape, fun k => ?_⟩
    rw [ctx, State.ctx_setCtx]
    by_cases hk : k = x
    · subst hk
      simp [new]
    · simp [hk]

theorem nodup_mkeys {β : Type} {m : SMap β} (h : rising m = true) : (mkeys m).Nodup := by
  induction m with
  | nil => exact List.nodup_nil
  | cons e r ih =>
    obtain ⟨below, rises⟩ := (rising_cons e r).1 h
    refine List.nodup_cons.2 ⟨fun hm => ?_, ih rises⟩
    obtain ⟨x, hx, eq⟩ := List.mem_map.1 hm
    exact absurd (below x hx) (by omega)

theorem mfind_of_not_mem {β : Type} {m : SMap β} {k : Nat} (h : k ∉ mkeys m) : mfind m k = none := by
  induction m with
  | nil => rfl
  | cons e r ih =>
    obtain ⟨head, rest⟩ := not_or.1 (mt List.mem_cons.2 h)
    rw [mfind_cons, if_neg (Ne.symm head), ih rest]

theorem exec_skewBiasDecay (h : rising s.ctxs = true) : ∃ t : State, exec .skewBiasDecay s = .next t ∧ t = { s with ctxs := t.ctxs } ∧
    ∀ k, (t.ctx k).bias = (s.ctx k).bias - 1 := by
  obtain ⟨t, fold, shape, ctx⟩ := foldl_setCtx s (fun c => { c with bias := c.bias - 1 }) (nodup_mkeys h)
  refine ⟨t, congrArg Host.Outcome.next fold, shape, fun k => ?_⟩
  rw [ctx]
  split
  · rfl
  · next out =>
    rw [State.ctx, mget, mfind_of_not_mem out]
    rfl

theorem exec_prefetchDepthChooser (core : Nat) (stalls : List Nat) (bytes : List (Nat × Nat)) :
    let k := s.core (coreKey die core)
    k.prefetch ∈ [0, 1, 2, 4, 8] → exec (.prefetchDepthChooser die core stalls bytes) s = .next s ∨
      (k.depthSince + 50000 ≤ s.now ∧ ∃ n ∈ [0, 1, 2, 4, 8], exec (.prefetchDepthChooser die core stalls bytes) s =
        .next (s.setCore (coreKey die core) { k with prefetch := n, depthSince := s.now })) := by
  intro k listed
  obtain ⟨cost, step⟩ : ∃ cost, exec (.prefetchDepthChooser die core stalls bytes) s =
      .next (if choose cost [0, 1, 2, 4, 8] k.prefetch = k.prefetch ∨ s.now < k.depthSince + 50000 then s
        else s.setCore (coreKey die core) { k with prefetch := choose cost [0, 1, 2, 4, 8] k.prefetch, depthSince := s.now }) :=
    ⟨_, rfl⟩
  rw [step]
  split
  · exact .inl rfl
  · next moves =>
    rw [not_or] at moves
    exact .inr ⟨by omega, _, (choose_spec cost _ _).1.resolve_right moves.1, rfl⟩

theorem exec_causewayWidthChooser (packets traffic : Nat) :
    exec (.causewayWidthChooser die packets traffic) s = .next s ∨ ∃ w ∈ [16, 32, 64],
      100 * traffic < 95 * (6000 * w / 64 * 100000) ∧ exec (.causewayWidthChooser die packets traffic) s =
        .next (s.setDie die { s.die die with widening := some w, widthDwell := s.now }) := by
  let allowed := [16, 32, 64].filter fun w => decide (100 * traffic < 95 * (widthRate w * 100000))
  obtain ⟨cost, current, stays, step⟩ : ∃ cost current stays, exec (.causewayWidthChooser die packets traffic) s =
      .next (if choose cost allowed current = current ∨ stays = true then s
        else s.setDie die { s.die die with widening := some (choose cost allowed current), widthDwell := s.now }) :=
    ⟨_, _, _, rfl⟩
  rw [step]
  split
  · exact .inl rfl
  · next moves =>
    rw [not_or] at moves
    obtain ⟨listed, fits⟩ := List.mem_filter.1 ((choose_spec cost allowed current).1.resolve_right moves.1)
    exact .inr ⟨_, listed, of_decide_eq_true fits, rfl⟩

/-- Without a change of width no reduction is held. -/
theorem State.setPoint_held (cl k : Nat) (still : (s.die die).widening = none) (free : (s.die die).heldPoints = []) :
    ((s.setPoint die cl k).die die) = s.die die := by
  have same : ({ s.die die with widening := none, heldPoints := [] } : Die) = s.die die := by rw [← still, ← free]
  unfold State.setPoint
  simp only [still, free, Option.isSome_none, Bool.false_eq_true, false_and, if_false, List.filter_nil]
  split
  · exact (State.die_setDie _ _ _ _).trans ((if_pos rfl).trans same)
  · exact (State.die_setDie _ _ _ _).trans ((if_pos rfl).trans same)

theorem exec_linkWidthChangeDone {w : Nat} (h : (s.die die).widening = some w) :
    ∃ t, exec (.linkWidthChangeDone die) s = .next t ∧ (t.die die).width = w ∧ (t.die die).widening = none ∧
      (t.die die).heldPoints = [] := by
  obtain ⟨u, hu⟩ : ∃ u, u = s.setDie die { s.die die with width := w, widening := none, heldPoints := [] } := ⟨_, rfl⟩
  have step : exec (.linkWidthChangeDone die) s =
      .next ((s.die die).heldPoints.foldl (fun s h => s.setPoint die h.1 h.2.1) u) := by
    rw [hu]
    show execLinkWidthChangeDone die s = _
    rw [execLinkWidthChangeDone, h]
  have die_ : u.die die = { s.die die with width := w, widening := none, heldPoints := [] } := by
    rw [hu, State.die_setDie, if_pos rfl]
  have kept := foldl_rel (R := fun s t : State => (s.die die).widening = none ∧ (s.die die).heldPoints = [] → t.die die = s.die die)
    (fun _ _ => rfl) (fun h h' free => (h' (by rw [h free]; exact free)).trans (h free))
    (fun s (x : Nat × Nat × Nat) free => State.setPoint_held s die x.1 x.2.1 free.1 free.2) (s.die die).heldPoints u
    (by rw [die_]; exact ⟨rfl, rfl⟩)
  refine ⟨_, step, ?_⟩
  rw [kept, die_]
  exact ⟨rfl, rfl, rfl⟩

end

/-! ### Engines (R264, R291; 17 R276) -/

section
variable (s : State) (die n : Nat)

theorem exec_engineWake_free (h : (s.core (coreKey die n)).gated = false ∨ (s.core (coreKey die n)).mq = [] ∨
    ∃ q r, (s.core (coreKey die n)).mq = q :: r ∧ q.kind ≠ .mma) :
    exec (.engineWake die n false) s = .next (s.setCore (coreKey die n) { s.core (coreKey die n) with gated := false }) := by
  show execEngineWake die n false s = _
  rw [execEngineWake, if_neg Bool.false_ne_true]
  simp only
  split
  · rfl
  · next q r hq =>
    refine congrArg Host.Outcome.next (if_neg ?_)
    rintro ⟨gated, mma⟩
    rcases h with h | h | ⟨q', r', h, other⟩
    · rw [h] at gated
      cases gated
    · rw [h] at hq
      cases hq
    · rw [h] at hq
      cases hq
      exact other mma

theorem exec_engineWake_mma (gated : (s.core (coreKey die n)).gated = true) {q : MatrixCmd} {r : List MatrixCmd}
    (first : (s.core (coreKey die n)).mq = q :: r) (mma : q.kind = .mma) :
    let awake := s.setCore (coreKey die n) { s.core (coreKey die n) with gated := false }
    ∃ t : State, exec (.engineWake die n false) s = .next t ∧ t = { awake with clusters := t.clusters, ctxs := t.ctxs } ∧
      let nj := if die < 4 then 40 else 10
      (t.ctx (ctxKey die q.asid)).energy = (s.ctx (ctxKey die q.asid)).energy + BitVec.ofNat 64 nj ∧
        (t.cluster (clusterKey die (n / 8))).charged = (s.cluster (clusterKey die (n / 8))).charged + 65536 * nj := by
  intro awake
  let nj := if isMatrixDie die = true then 40 else 10
  have step : exec (.engineWake die n false) s = .next (awake.chargeEnergy die (n / 8) q.asid (65536 * nj)) := by
    show execEngineWake die n false s = _
    rw [execEngineWake, if_neg Bool.false_ne_true]
    have both : (s.core (coreKey die n)).gated = true ∧ q.kind = .mma := ⟨gated, mma⟩
    simp only
    split
    · next hq =>
      rw [first] at hq
      cases hq
    · next hq =>
      rw [first] at hq
      cases hq
      rw [if_pos both]
  have same : (if die < 4 then 40 else 10) = nj := by simp [nj, isMatrixDie]
  have whole (x : Nat) : (x + 65536 * nj) / 65536 - x / 65536 = nj := by omega
  refine ⟨_, step, rfl, ?_⟩
  rw [same]
  refine ⟨?_, ?_⟩
  · rw [State.chargeEnergy, State.ctx_setCtx, if_pos rfl, whole]
    rfl
  · show (State.cluster (State.setCluster _ _ _) _).charged = _
    rw [State.cluster_setCluster, if_pos rfl]
    rfl

end

/-! ### Ceilings and pins (R283, R286, R290) -/

section
variable (s : State) (die : Nat)

/-- A die that is no member of a chain has its own ceiling. -/
theorem State.ceilAt_alone (t : Nat) (alone : s.knows die (memberId die) = false) : s.ceilAt die t = (s.die die).ownCeil := by
  have out : ((s.die die).chain.filter fun m => m.inForce t).any (fun m => m.id == memberId die) = false := by
    rw [List.any_eq_false]
    intro m hm
    exact List.any_eq_false.1 alone m (List.mem_of_mem_filter hm)
  unfold State.ceilAt
  simp only [out, Bool.false_eq_true, if_false]

/-- A change of its own ceiling takes hold at once at a die that is no member of a chain. -/
theorem ceilChanged_alone (alone : s.knows die (memberId die) = false) :
    ∃ t : State, s.ceilChanged die = t ∧ (t.die die).ceil = (s.die die).ownCeil ∧ (t.die die).thermal = (s.die die).thermal ∧
      (t.die die).dceil = (s.die die).dceil := by
  obtain ⟨t, apply, ceil, thermal, dceil, -⟩ := s.applyCeil_spec die
  rw [s.ceilAt_alone die _ alone] at ceil
  refine ⟨t, ?_, ceil, thermal, dceil⟩
  rw [← apply, State.ceilChanged, alone, if_neg Bool.false_ne_true]

theorem State.knows_setDie {s : State} {die id : Nat} {x : Die} (h : x.chain = (s.die die).chain) :
    (s.setDie die x).knows die id = s.knows die id := by
  rw [State.knows, State.die_setDie, if_pos rfl, h]
  rfl

theorem exec_thermalLimitChange (mhz : Nat) (alone : s.knows die (memberId die) = false) :
    ∃ t, exec (.thermalLimitChange die mhz) s = .next t ∧ (t.die die).thermal = mhz ∧
      (t.die die).ceil = min (s.die die).dceil mhz := by
  obtain ⟨t, change, ceil, thermal, -⟩ := ceilChanged_alone (s.setDie die { s.die die with thermal := mhz }) die
    (by rw [State.knows_setDie (by rfl)]; exact alone)
  rw [State.die_setDie, if_pos rfl] at ceil thermal
  exact ⟨t, congrArg Host.Outcome.next change, thermal, ceil⟩

theorem writeDieBlock_clkdie (v : Xword) : s.writeDieBlock die 0x100100 v = s.writeClkdie die v := by
  rw [State.writeDieBlock, if_neg (by omega), if_pos rfl]

/-- A write to CLKDIE that is an update of the state. -/
theorem hostWrites_clkdie {u : State} {v : Xword} (hd : die < 8) (hw : ∀ (c : Causeway) (n : Nat),
    ({ s with cway := c, nextId := n } : State).writeClkdie die v = { u with cway := c, nextId := n }) :
    HostWrites (.clkdieWrite die v) s die u := by
  refine hostWrites_die (o := 0x100100) (v := v) hd (by omega) ?_ rfl fun c n => by rw [writeDieBlock_clkdie, hw]
  show s.hostWrite (decide (die < 8)) (0x1000000 * die + 0x100100) v = _
  rw [State.hostWrite, decide_eq_true hd, if_pos rfl]

theorem hostWrites_clkdie_zero {v : Xword} (hd : die < 8) (h : v.toNat % 2 ^ 12 = 0) : HostWrites (.clkdieWrite die v) s die
    (s.setDie die { s.die die with rej := (s.die die).rej && !v.getLsbD 12 }) :=
  hostWrites_clkdie s die hd fun _ _ => if_pos ((fld_zero _ _).trans h)

theorem hostWrites_clkdie_rejected {v : Xword} (hd : die < 8) (h : v.toNat % 2 ^ 12 ≠ 0)
    (out : v.toNat % 2 ^ 12 < 600 ∨ 2300 < v.toNat % 2 ^ 12) :
    HostWrites (.clkdieWrite die v) s die (s.setDie die { s.die die with rej := true }) := by
  rw [← fld_zero] at h out
  exact hostWrites_clkdie s die hd fun _ _ => (if_neg h).trans (if_pos out)

theorem exec_clkdieWrite {v : Xword} (hd : die < 8) (alone : s.knows die (memberId die) = false)
    (low : 600 ≤ v.toNat % 2 ^ 12) (high : v.toNat % 2 ^ 12 ≤ 2300) (reach : s.hostReaches die) :
    ∃ t, exec (.clkdieWrite die v) s = .next t ∧ (t.die die).dceil = v.toNat % 2 ^ 12 ∧
      (t.die die).ceil = min (v.toNat % 2 ^ 12) (s.die die).thermal := by
  obtain ⟨c, -, access⟩ := hostAccess_write (v := v) (size := 8) (apertureAgent_die hd (by omega : 0x100100 < 0x1000000)) (by omega)
    (by omega) reach
  rw [writeAperture_die _ _ _ hd (by omega) rfl, writeDieBlock_clkdie] at access
  obtain ⟨u, hu⟩ : ∃ u : State, u = { s with cway := c, nextId := s.nextId + 1 } := ⟨_, rfl⟩
  have die_ : u.die die = s.die die := by rw [hu]; rfl
  have alone : u.knows die (memberId die) = false := by rw [hu]; exact alone
  let d : Die := { s.die die with rej := (s.die die).rej && !v.getLsbD 12, dceil := v.toNat % 2 ^ 12 }
  have write : u.writeClkdie die v = (u.setDie die d).ceilChanged die := by
    have inside : ¬(fld v.toNat 0 12 < 600 ∨ 2300 < fld v.toNat 0 12) := by rw [fld_zero]; omega
    have nonzero : ¬fld v.toNat 0 12 = 0 := by rw [fld_zero]; omega
    simp only [State.writeClkdie, die_]
    rw [if_neg nonzero, if_neg inside, fld_zero]
  obtain ⟨t, change, ceil, -, dceil⟩ := ceilChanged_alone (u.setDie die d) die
    (by rw [State.knows_setDie (by rw [die_])]; exact alone)
  rw [State.die_setDie, if_pos rfl] at ceil dceil
  refine ⟨t, ?_, dceil, ceil⟩
  show s.hostWrite (decide (die < 8)) (0x1000000 * die + 0x100100) v = _
  rw [State.hostWrite, decide_eq_true hd, if_pos rfl, access, ← hu, write, change]

variable {cl : Nat}

theorem writeDieBlock_clkreq (v : Xword) (hc : cl < clusterCount die) :
    s.writeDieBlock die (0x100000 + 0x10 * cl) v = s.writeClkreq die cl v := by
  have := clusterCount_le die
  have index : (0x100000 + 0x10 * cl - 0x100000) / 0x10 = cl := by omega
  rw [State.writeDieBlock, if_neg (by omega), if_neg (by omega), if_pos (by omega), if_pos (by omega), index]

section
variable {s die} {i : Instr} {v : Xword} (hd : die < 8) (hc : cl < clusterCount die) (hi : exec i s = s.clkreq die cl v)
include hd hc hi

theorem exec_clkreq : exec i s = .next (s.hostAccess (0x1000000 * die + (0x100000 + 0x10 * cl)) 8 (some v)) := by
  have named : (decide (die < 8) && decide (cl < clusterCount die)) = true := by simp [hd, hc]
  rw [hi, State.clkreq, State.hostWrite, named, Nat.add_assoc]
  rfl

/-- A write to CLKREQ that is an update of the state. -/
theorem hostWrites_clkreq {u : State} (hw : ∀ (c : Causeway) (n : Nat),
    ({ s with cway := c, nextId := n } : State).writeClkreq die cl v = { u with cway := c, nextId := n }) :
    HostWrites i s die u := by
  have := clusterCount_le die
  exact hostWrites_die (o := 0x100000 + 0x10 * cl) (v := v) hd (by omega) (exec_clkreq hd hc hi) (by omega)
    fun c n => by rw [writeDieBlock_clkreq _ _ _ hc, hw]

/-- A write that is denied changes RESULT only. -/
theorem hostWrites_denied {r : Nat} (denied : clkreqPoint (s.cluster (clusterKey die cl)).point v.toNat = (r + 1, none)) :
    HostWrites i s die (s.setCluster (clusterKey die cl) { s.cluster (clusterKey die cl) with clkResult := r + 1 }) := by
  refine hostWrites_clkreq hd hc hi fun c n => ?_
  have denied : clkreqPoint (({ s with cway := c, nextId := n } : State).cluster (clusterKey die cl)).point v.toNat = (r + 1, none) :=
    denied
  simp only [State.writeClkreq, denied]
  rfl

/-- A release unpins the cluster. -/
theorem hostWrites_release (released : clkreqPoint (s.cluster (clusterKey die cl)).point v.toNat = (0, none)) :
    HostWrites i s die (s.setCluster (clusterKey die cl)
      { s.cluster (clusterKey die cl) with clkResult := 0, pinned := false, pinPoint := 0 }) := by
  refine hostWrites_clkreq hd hc hi fun c n => ?_
  have released : clkreqPoint (({ s with cway := c, nextId := n } : State).cluster (clusterKey die cl)).point v.toNat = (0, none) :=
    released
  simp only [State.writeClkreq, released]
  rfl

/-- A write that pins a point holds the cluster there, or below it under the ceiling. -/
theorem exec_pin {k : Nat} (pins : clkreqPoint (s.cluster (clusterKey die cl)).point v.toNat = (0, some k))
    (reach : s.hostReaches die) :
    ∃ t : State, exec i s = .next t ∧ (t.cluster (clusterKey die cl)).clkResult = 0 ∧ (t.cluster (clusterKey die cl)).pinned = true ∧
      (t.cluster (clusterKey die cl)).pinPoint = k ∧
      ((s.cluster (clusterKey die cl)).gated = false → (s.die die).widening = none →
        UnderCeil (t.die die).ceil (t.cluster (clusterKey die cl)).point ∧ (t.cluster (clusterKey die cl)).point ≤ k) := by
  have := clusterCount_le die
  obtain ⟨c, -, access⟩ := hostAccess_write (v := v) (size := 8)
    (apertureAgent_die hd (by omega : 0x100000 + 0x10 * cl < 0x1000000)) (by omega) (by omega) reach
  rw [writeAperture_die _ _ _ hd (by omega) (by omega), writeDieBlock_clkreq _ _ _ hc] at access
  obtain ⟨u, hu⟩ : ∃ u : State, u = ({ s with cway := c, nextId := s.nextId + 1 } : State).setCluster (clusterKey die cl)
    { s.cluster (clusterKey die cl) with clkResult := 0, pinned := true, pinPoint := k } := ⟨_, rfl⟩
  have cluster : u.cluster (clusterKey die cl) =
      { s.cluster (clusterKey die cl) with clkResult := 0, pinned := true, pinPoint := k } := by
    rw [hu, State.cluster_setCluster, if_pos rfl]
  have die_ : u.die die = s.die die := by rw [hu]; rfl
  have write : ({ s with cway := c, nextId := s.nextId + 1 } : State).writeClkreq die cl v = u.pinHold die cl := by
    have pins : clkreqPoint (({ s with cway := c, nextId := s.nextId + 1 } : State).cluster (clusterKey die cl)).point v.toNat =
      (0, some k) := pins
    rw [hu]
    simp only [State.writeClkreq, pins]
    rfl
  have moved := State.Repoints.pinHold u die cl
  obtain ⟨_, _, _, _, after⟩ := moved.cluster (clusterKey die cl)
  refine ⟨u.pinHold die cl, by rw [exec_clkreq hd hc hi, access, write], by rw [after, cluster], by rw [after, cluster],
    by rw [after, cluster], fun awake still => ?_⟩
  have hold := State.pinHold_point u die cl (by rw [cluster]; exact awake) (by rw [die_]; exact still)
  rw [cluster] at hold
  rw [moved.ceil]
  exact hold

end

/-! ### The fields of CLKREQ -/

section
variable (present v : Nat) (hv : v < 2 ^ 64)
include hv

/-- No reserved bit is set. -/
theorem clkreq_reserved : fld v 9 55 = v / 2 ^ 9 := by
  have : v / 2 ^ 9 % 2 ^ 55 = v / 2 ^ 9 := Nat.mod_eq_of_lt (by omega)
  exact this

theorem clkreqPoint_reserved (h : v / 2 ^ 9 ≠ 0 ∨ v % 4 = 3) : clkreqPoint present v = (3, none) := by
  have bad : fld v 0 2 = 3 ∨ fld v 9 55 ≠ 0 := by
    rw [clkreq_reserved v hv, fld_zero]
    omega
  exact if_pos bad

theorem clkreqPoint_release (h : v / 2 ^ 9 = 0) (mode : v % 4 = 0) : clkreqPoint present v = (0, none) := by
  have good : ¬(fld v 0 2 = 3 ∨ fld v 9 55 ≠ 0) := by
    rw [clkreq_reserved v hv, fld_zero]
    omega
  exact (if_neg good).trans (if_pos ((fld_zero _ _).trans mode))

theorem clkreqPoint_pin (h : v / 2 ^ 9 = 0) (mode : v % 4 = 2) : clkreqPoint present v = (0, some (v / 2 ^ 2 % 8)) := by
  have good : ¬(fld v 0 2 = 3 ∨ fld v 9 55 ≠ 0) := by
    rw [clkreq_reserved v hv, fld_zero]
    omega
  have pin : ¬fld v 0 2 = 1 ∧ ¬fld v 0 2 = 0 := by rw [fld_zero]; omega
  have value : fld v 2 3 = v / 2 ^ 2 % 8 := rfl
  simp only [clkreqPoint, if_neg good, if_neg pin.1, if_neg pin.2]
  rw [if_neg (by omega), if_neg (by omega), value]
  rfl

theorem clkreqPoint_delta (h : v / 2 ^ 9 = 0) (mode : v % 4 = 1) : clkreqPoint present v =
    let delta : Int := present + (BitVec.ofNat 4 (v / 2 ^ 5)).toInt
    if delta < 0 then (1, none) else if 7 < delta then (2, none) else (0, some delta.toNat) := by
  have good : ¬(fld v 0 2 = 3 ∨ fld v 9 55 ≠ 0) := by
    rw [clkreq_reserved v hv, fld_zero]
    omega
  have pin : fld v 0 2 = 1 ∧ ¬fld v 0 2 = 0 := by rw [fld_zero]; omega
  have value : BitVec.ofNat 4 (fld v 5 4) = BitVec.ofNat 4 (v / 2 ^ 5) := by
    refine BitVec.eq_of_toNat_eq ?_
    rw [BitVec.toNat_ofNat, BitVec.toNat_ofNat]
    exact Nat.mod_mod _ _
  simp only [clkreqPoint, if_neg good, if_pos pin.1, if_neg pin.2, value]

end

end

/-- Settles O47: each event of the clocks, and each write of the host, by its own lemma. -/
theorem clocks : Obligations.Clocks := by
  unfold Obligations.Clocks
  intro s die cl key c d mv under pins denies
  refine ⟨exec_voltageStep_up s die cl, exec_voltageStep_down s die cl, exec_voltageReached s die cl, exec_clusterWake s die cl,
    exec_clusterGate s die cl, fun occupied stalled energy => ⟨exec_stallSampleEnd_early s die cl, exec_stallSampleEnd s die cl⟩,
    exec_limiterSample s die, ⟨fun h => congrArg Host.Outcome.next (if_pos h), fun h => ?_⟩, exec_skewBiasDecay s,
    exec_prefetchDepthChooser s die, exec_causewayWidthChooser s die, fun w => exec_linkWidthChangeDone s die, rfl,
    fun n => ⟨exec_engineWake_free s die n, fun gated q r => exec_engineWake_mma s die n gated⟩, ?_, fun alone => ⟨?_,
      fun mhz => exec_thermalLimitChange s die mhz alone, fun v hd => ⟨hostWrites_clkdie_zero s die hd,
        hostWrites_clkdie_rejected s die hd, exec_clkdieWrite s die hd alone⟩⟩, fun v hd hc => ?_⟩
  · obtain ⟨t, step, others, due⟩ := exec_emergencyStep s die h
    exact ⟨t, step, others, due cl⟩
  · obtain ⟨t, apply, ceil, -, -, stands⟩ := s.applyCeil_spec die
    exact ⟨t, congrArg Host.Outcome.next apply, ceil, stands⟩
  · exact congrArg Host.Outcome.next (if_neg (by rw [alone]; exact Bool.false_ne_true))
  · intro n k delta
    have hv : v.toNat < 2 ^ 64 := v.isLt
    have point := clkreqPoint_delta c.point v.toNat hv
    refine ⟨fun h => hostWrites_denied hd hc rfl (clkreqPoint_reserved _ _ hv h),
      fun h mode => hostWrites_release hd hc rfl (clkreqPoint_release _ _ hv h mode),
      fun h mode => exec_pin hd hc rfl (clkreqPoint_pin _ _ hv h mode), fun h mode => ⟨fun low => ?_, fun high => ?_, fun low high => ?_⟩⟩
    · exact hostWrites_denied hd hc rfl ((point h mode).trans (if_pos low))
    · have notLow : ¬delta < 0 := by omega
      exact hostWrites_denied hd hc rfl ((point h mode).trans ((if_neg notLow).trans (if_pos high)))
    · have notLow : ¬delta < 0 := by omega
      have notHigh : ¬7 < delta := by omega
      exact exec_pin hd hc rfl ((point h mode).trans ((if_neg notLow).trans (if_neg notHigh)))

end Sys2Proof.Machine
end

section
/-!
PROOFS. What the operations of an L1 may change (05 R125, R128, 06 R149, R158): they are operations at home too.
-/

namespace Sys2Proof.Machine
open Sys2Proof

namespace State.AtHome

theorem now {s t : State} (h : s.AtHome t) : t.now = s.now := by
  obtain ⟨_, _, _, _, _, _, _, _, _, rfl⟩ := h.shape
  rfl

/-- A die's TIME is the same. -/
theorem timeOf {s t : State} (h : s.AtHome t) (d : Nat) : t.timeOf d = s.timeOf d := by
  have die : t.die d = _ := h.die d
  rw [State.timeOf, State.timeOf, h.now, die]

theorem evictL1 (s : State) (ck line : Nat) : s.AtHome (s.evictL1 ck line) :=
  (pushLine s ck line).trans ((foldl (fun s k => writeBackSector s ck k) _ _).trans (setCore _ _ _))

theorem l1Room (s : State) (ck line : Nat) : s.AtHome (s.l1Room ck line) := .ite (refl s) ((victim s _).trans (evictL1 _ _ _))

theorem setSector (s : State) (ck k : Nat) (x : Sector) : s.AtHome (s.setSector ck k x) :=
  .ite (setCore s _ _) ((l1Room s ck _).trans (setCore _ _ _))

theorem dropLatch (s : State) (ck pa : Nat) (l : List Byte) : s.AtHome (s.dropLatch ck pa l) := by
  unfold State.dropLatch
  exact .ite (setCore s _ _) (refl s)

theorem l1Follow (s : State) (ck pa : Nat) (l : List Byte) : s.AtHome (s.l1Follow ck pa l) :=
  .ite (refl s) ((dropLatch s ck pa l).trans (setSector _ _ _ _))

theorem cleanLine (s : State) (ck line : Nat) : s.AtHome (s.cleanLine ck line) :=
  (pushLine s ck line).trans (foldl (fun s k => writeBackSector s ck k) _ _)

theorem dropLine (s : State) (ck line : Nat) : s.AtHome (s.dropLine ck line) :=
  (cleanLine s ck line).trans (foldl (fun s k => setSector s ck k _) _ _)

theorem writeHomeBy (s : State) (ck : Nat) (bypass : Bool) (l : List (Nat × Byte)) : s.AtHome (s.writeHomeBy ck bypass l) :=
  (foldl (fun s k => pushLine s ck k) _ s).trans ((homeWriteBy _ bypass l).trans (foldl (fun s e => l1Follow s ck e.1 [e.2]) l _))

theorem writeHome (s : State) (ck : Nat) (l : List (Nat × Byte)) : s.AtHome (s.writeHome ck l) := writeHomeBy s ck false l

theorem storePlain (s : State) (ck : Nat) (l : List (Nat × Byte)) (exported : Bool) : s.AtHome (s.storePlain ck l exported) := by
  cases l with
  | nil => exact refl s
  | cons e r =>
    unfold State.storePlain
    have pushed := pushLine s ck (lineOf e.1)
    simp only
    generalize s.pushLine ck (lineOf e.1) = t at pushed ⊢
    split
    · exact pushed.trans ((setCore t ck _).trans (setSector _ ck _ _))
    · exact pushed.trans (setSector t ck _ _)

theorem fetchSector (s : State) (ck k r : Nat) : s.AtHome ((s.homeRead (128 * k) 128 r false).setSector ck k
    (((s.homeRead (128 * k) 128 r false).sector ck k).merge ((s.homeRead (128 * k) 128 r false).bytes (128 * k) 128))) := by
  have read := homeRead s (128 * k) 128 r false
  generalize s.homeRead (128 * k) 128 r false = t at read ⊢
  exact read.trans (setSector t ck k _)

theorem loadPlain (s : State) (ck pa n r : Nat) : s.AtHome (s.loadPlain ck pa n r).1 := by
  unfold State.loadPlain
  have pushed := pushLine s ck (lineOf pa)
  simp only
  generalize s.pushLine ck (lineOf pa) = t at pushed ⊢
  split
  · exact pushed
  · exact pushed.trans (fetchSector t ck (sectorOf pa) r)

theorem reduceHeld (s : State) (ck : Nat) (op : AtomOp) (pa : Nat) (x : Xword) (exported : Bool) :
    s.AtHome (s.reduceHeld ck op pa x exported) := by
  unfold State.reduceHeld
  refine trans (t := if (s.lineSectors ck (lineOf pa)).isEmpty then s else s.dropLine ck (lineOf pa)) (.ite (refl s) (dropLine s _ _)) ?_
  generalize (if (s.lineSectors ck (lineOf pa)).isEmpty then s else s.dropLine ck (lineOf pa)) = t
  refine trans (t := match mfind (t.core ck).uo (lineOf pa) with
    | some u => if u.op = op then t else t.pushLine ck (lineOf pa)
    | none => t) ?_ ((l1Room _ ck _).trans ((dropLatch _ ck pa _).trans (setCore _ _ _)))
  split
  · exact .ite (refl t) (pushLine t _ _)
  · exact refl t

end State.AtHome

end Sys2Proof.Machine
end

section
/-!
PROOFS. Chains of dies (18 R284 to R288, 09 R198).
-/

namespace Sys2Proof.Machine
open Sys2Proof

/-! ### What a die knows of its chain -/

/-- A die's chain, its count of late entries and its TIME. -/
def State.ChainIs (s : State) (d : Nat) (l : List ChainMember) (late now : Nat) : Prop :=
  (s.die d).chain = l ∧ (s.die d).lateEntries = late ∧ s.timeOf d = now

/-- A die's chain, its count of late entries and its TIME are the same in two states. -/
def State.SameChain (s t : State) (d : Nat) : Prop := ∀ l late now, s.ChainIs d l late now → t.ChainIs d l late now

theorem State.SameChain.refl (s : State) (d : Nat) : s.SameChain s d := fun _ _ _ h => h

theorem State.SameChain.trans {s t u : State} {d : Nat} (h : s.SameChain t d) (h' : t.SameChain u d) : s.SameChain u d :=
  fun l late now x => h' l late now (h l late now x)

/-- States whose die differs in nothing that a chain uses. -/
theorem State.SameChain.of_die {s t : State} {d : Nat} (chain : (t.die d).chain = (s.die d).chain)
    (late : (t.die d).lateEntries = (s.die d).lateEntries) (floor : (t.die d).timeFloor = (s.die d).timeFloor)
    (shift : (t.die d).timeShift = (s.die d).timeShift) (now : t.now = s.now) : s.SameChain t d := by
  have time : t.timeOf d = s.timeOf d := by rw [State.timeOf, State.timeOf, floor, shift, now]
  exact fun l n x h => ⟨chain.trans h.1, late.trans h.2.1, time.trans h.2.2⟩

theorem State.SameChain.of_home {s t : State} (h : s.AtHome t) (d : Nat) : s.SameChain t d := by
  have die : t.die d = _ := h.die d
  exact .of_die (by rw [die]) (by rw [die]) (by rw [die]) (by rw [die]) h.now

theorem State.SameChain.of_points {s t : State} (h : s.Repoints t) (d : Nat) : s.SameChain t d := by
  obtain ⟨_, die⟩ := h.die d
  exact .of_die (by rw [die]) (by rw [die]) (by rw [die]) (by rw [die]) h.now

/-- A change of another die. -/
theorem State.SameChain.setDie_ne (s : State) {d e : Nat} (h : d ≠ e) (x : Die) : s.SameChain (s.setDie e x) d := by
  have die : (s.setDie e x).die d = s.die d := by rw [State.die_setDie, if_neg h]
  exact .of_die (by rw [die]) (by rw [die]) (by rw [die]) (by rw [die]) rfl

theorem State.SameChain.foldl {α : Type} {f : State → α → State} {d : Nat} (hf : ∀ (s : State) x, s.SameChain (f s x) d) (l : List α) (s : State) :
    s.SameChain (l.foldl f s) d :=
  foldl_rel (R := fun s t : State => s.SameChain t d) (fun s => .refl s d) (fun h h' => h.trans h') hf l s

/-- A die's chain after a change of the die. -/
theorem State.chainIs_setDie {s : State} {d : Nat} {x : Die} {l : List ChainMember} {late now : Nat} (h : s.timeOf d = now)
    (chain : x.chain = l) (count : x.lateEntries = late) (floor : x.timeFloor = (s.die d).timeFloor)
    (shift : x.timeShift = (s.die d).timeShift) : (s.setDie d x).ChainIs d l late now := by
  have die : (s.setDie d x).die d = x := by rw [State.die_setDie, if_pos rfl]
  refine ⟨by rw [die, chain], by rw [die, count], ?_⟩
  rw [State.timeOf, die, floor, shift]
  exact h

/-! ### The operations on a chain -/

theorem State.SameChain.hostEvent (s : State) (l : List Xword) (d : Nat) : s.SameChain (s.hostEvent l) d := by
  unfold State.hostEvent
  simp only
  split
  · exact (State.SameChain.of_home (.fwWrite s _) d).trans (.of_die rfl rfl rfl rfl rfl)
  · exact .of_die rfl rfl rfl rfl rfl

theorem State.SameChain.tellRemoval (s : State) (die id d : Nat) : s.SameChain (s.tellRemoval die id) d :=
  (State.SameChain.hostEvent s _ d).trans (.foldl (fun s _ => .of_home (.ctxEvent s _ _ _ _ _) d) _ _)

/-- A new ceiling leaves every chain. -/
theorem State.SameChain.applyCeil (s : State) (die d : Nat) : s.SameChain (s.applyCeil die) d := by
  have ceil : s.SameChain (s.setDie die { s.die die with ceil := s.ceilAt die (s.timeOf die) }) d := by
    by_cases h : d = die
    · subst h
      exact fun l late now x => State.chainIs_setDie x.2.2 x.1 x.2.1 rfl rfl
    · exact .setDie_ne s h _
  exact ceil.trans (.foldl (fun s c => .of_points (.heed s die c) d) _ _)

section
variable {s : State} {d : Nat} {l : List ChainMember} {late now : Nat} (h : s.ChainIs d l late now)
include h

theorem State.ChainIs.onMember (id : Nat) (f : ChainMember → ChainMember) :
    (s.onMember d id f).ChainIs d (l.map fun m => if m.id = id then f m else m) late now :=
  State.chainIs_setDie h.2.2 (by rw [← h.1]) h.2.1 rfl rfl

theorem State.ChainIs.countLate (effect : Nat) :
    (s.countLate d effect).ChainIs d l (late + if effect < now then 1 else 0) now := by
  obtain ⟨chain, count, time⟩ := h
  unfold State.countLate
  rw [time]
  split
  · exact State.SameChain.applyCeil _ d d _ _ _ (State.chainIs_setDie time chain (by rw [← count]) rfl rfl)
  · exact ⟨chain, count, time⟩

theorem State.ChainIs.knows (id : Nat) : s.knows d id = l.any fun m => m.id == id := by rw [State.knows, h.1]

/-- An entry arrives. -/
theorem State.ChainIs.takeEntry (m : ChainMsg) : (s.takeEntry d m).ChainIs d
    (l.map fun x => if x.id = m.member then x.publish m.effect m.ceil else x) (late + if m.effect < now then 1 else 0) now :=
  (h.onMember m.member fun x => x.publish m.effect m.ceil).countLate m.effect

/-- A member that a die hears of. -/
def ChainMember.heardOf (id joinAt : Nat) (entries : List (Nat × Nat)) (now : Nat) : ChainMember :=
  { id := id, joinAt := joinAt, leaveAt := none, entries := entries, heard := now, told := false }

theorem State.ChainIs.takeJoin (m : ChainMsg) : (s.takeJoin d m).ChainIs d
    ((l.filter fun y => y.id ≠ m.member) ++ [.heardOf m.member m.effect [(m.effect, m.ceil)] now])
    (late + if m.effect < now then 1 else 0) now := by
  obtain ⟨chain, count, time⟩ := h
  let x : Die := { s.die d with
    chain := ((s.die d).chain.filter fun y => y.id ≠ m.member) ++ [.heardOf m.member m.effect [(m.effect, m.ceil)] (s.timeOf d)]
    removed := (s.die d).removed.filter fun y => y ≠ m.member }
  have step : s.takeJoin d m = (s.setDie d x).countLate d m.effect := rfl
  have joined : (s.setDie d x).ChainIs d ((l.filter fun y => y.id ≠ m.member) ++
      [.heardOf m.member m.effect [(m.effect, m.ceil)] now]) late now :=
    State.chainIs_setDie time (by rw [← chain, ← time]) count rfl rfl
  rw [step]
  exact joined.countLate m.effect

/-- A snapshot of a known member. -/
theorem State.ChainIs.takeSnapshot_known {m : ChainMsg} (new : m.sender ∉ (s.die d).removed)
    (known : (l.any fun x => x.id == m.member) = true) : (s.takeSnapshot d m).ChainIs d
    (l.map fun x => if x.id = m.member then x.publish m.effect m.ceil else x) (late + if m.effect < now then 1 else 0) now := by
  have step : s.takeSnapshot d m = (s.onMember d m.member fun x => x.publish m.effect m.ceil).countLate d m.effect := by
    rw [State.takeSnapshot, if_neg (by simpa using new)]
    rw [← h.knows] at known
    simp only [known, if_true]
  rw [step]
  exact (h.onMember m.member fun x => x.publish m.effect m.ceil).countLate m.effect

/-- A snapshot of a member that is not known. -/
theorem State.ChainIs.takeSnapshot_new {m : ChainMsg} (new : m.sender ∉ (s.die d).removed)
    (unknown : (l.any fun x => x.id == m.member) = false) : (s.takeSnapshot d m).ChainIs d
    (l ++ [.heardOf m.member 0 [(m.effect, m.ceil)] now]) (late + if m.effect < now then 1 else 0) now := by
  have apart (x : ChainMember) (hx : x ∈ l) : x.id ≠ m.member := by simpa using List.any_eq_false.1 unknown x hx
  have joined := State.ChainIs.onMember (State.chainIs_setDie
    (x := { s.die d with chain := (s.die d).chain ++ [.heardOf m.member 0 [] (s.timeOf d)] }) h.2.2 rfl h.2.1 rfl rfl) m.member
    fun x => x.publish m.effect m.ceil
  have step : s.takeSnapshot d m = ((s.setDie d { s.die d with
      chain := (s.die d).chain ++ [.heardOf m.member 0 [] (s.timeOf d)] }).onMember d m.member
        fun x => x.publish m.effect m.ceil).countLate d m.effect := by
    rw [State.takeSnapshot, if_neg (by simpa using new)]
    rw [← h.knows] at unknown
    simp only [unknown, Bool.false_eq_true, if_false]
    rfl
  have list : ((s.die d).chain ++ [ChainMember.heardOf m.member 0 [] (s.timeOf d)]).map
      (fun x : ChainMember => if x.id = m.member then x.publish m.effect m.ceil else x) =
        l ++ [.heardOf m.member 0 [(m.effect, m.ceil)] now] := by
    rw [List.map_append, h.1, h.2.2]
    refine congrArg₂ _ ((List.map_congr_left fun x hx => if_neg (apart x hx)).trans (List.map_id _)) ?_
    simp [ChainMember.heardOf, ChainMember.publish]
  rw [step]
  rw [list] at joined
  exact joined.countLate m.effect

/-- A removal. -/
theorem State.ChainIs.takeRemoval (m : ChainMsg) : (s.takeRemoval d m).ChainIs d
    (l.map fun x => if x.id = m.member then { x.endAt m.effect with told := true } else x) late now := by
  have ended := h.onMember m.member fun x => { x.endAt m.effect with told := true }
  unfold State.takeRemoval
  simp only
  split
  · exact State.SameChain.tellRemoval _ _ _ d _ _ _ ended
  · exact ended

end

/-! ### Messages to other dies -/

section
variable (s : State) {d e : Nat} (apart : d ≠ e)
include apart

theorem State.SameChain.onMember_ne (id : Nat) (f : ChainMember → ChainMember) : s.SameChain (s.onMember e id f) d :=
  .setDie_ne s apart _

theorem State.SameChain.countLate_ne (effect : Nat) : s.SameChain (s.countLate e effect) d := by
  unfold State.countLate
  split
  · exact (State.SameChain.setDie_ne s apart _).trans (.applyCeil _ e d)
  · exact .refl s d

/-- What another die takes changes nothing at this one. -/
theorem State.SameChain.chainTake_ne (m : ChainMsg) : s.SameChain (s.chainTake e m) d := by
  unfold State.chainTake
  split
  · exact .refl s d
  · refine .trans ?_ (.onMember_ne _ apart _ _)
    split
    · exact (State.SameChain.onMember_ne s apart _ _).trans (.countLate_ne _ apart _)
    · exact (State.SameChain.setDie_ne s apart _).trans (.countLate_ne _ apart _)
    · unfold State.takeSnapshot
      simp only
      split
      · exact .refl s d
      · refine .trans (t := if s.knows e m.member then s else _) ?_ ((State.SameChain.onMember_ne _ apart _ _).trans (.countLate_ne _ apart _))
        split
        · exact .refl s d
        · exact .setDie_ne s apart _
    · exact .onMember_ne s apart _ _
    · unfold State.takeRemoval
      simp only
      split
      · exact (State.SameChain.onMember_ne s apart _ _).trans (.tellRemoval _ e _ d)
      · exact .onMember_ne s apart _ _

end

theorem memberDie_eq_some {id e : Nat} (h : memberDie id = some e) : memberId e = id := by
  simpa using List.find?_some h

theorem memberId_inj {d e : Nat} : memberId d = memberId e ↔ d = e := by
  unfold memberId
  omega

theorem memberDie_memberId {d : Nat} (hd : d < 8) : memberDie (memberId d) = some d := by
  cases h : memberDie (memberId d) with
  | none =>
    have none_ := List.find?_eq_none.1 h d (List.mem_range.2 hd)
    exact absurd (beq_self_eq_true _) none_
  | some e => rw [memberId_inj.1 (memberDie_eq_some h)]

/-- A message to another member changes nothing at a die. -/
theorem State.SameChain.post_ne (s : State) {d dest : Nat} (h : dest ≠ memberId d) (m : ChainMsg) : s.SameChain (s.post dest m) d := by
  unfold State.post
  split
  · next e he => exact .chainTake_ne s (fun same => h (by rw [same]; exact (memberDie_eq_some he).symm)) m
  · exact .of_die rfl rfl rfl rfl rfl

/-! ### Messages in their words (R287) -/

/-- The ceiling of a message of a kind may stand there. -/
def CeilFits (kind ceil : Nat) : Prop := if kind ≤ 2 then 600 ≤ ceil ∧ ceil ≤ 2300 else ceil = 0

theorem chainMsg_words {kind ceil member effect sent sender : Nat} (hk : kind ≤ 4) (hc : CeilFits kind ceil) (hm : member < 2 ^ 28)
    (hs : sender < 2 ^ 28) (he : sent + 50000 ≤ effect) (h64 : effect < 2 ^ 64) :
    chainMsg (BitVec.ofNat 64 (kind + 2 ^ 16 * ceil + 2 ^ 32 * member)) (BitVec.ofNat 64 effect) (BitVec.ofNat 64 sent)
      (BitVec.ofNat 64 sender) =
        some { kind := kind, ceil := ceil, member := member, effect := effect, sent := sent, sender := sender } := by
  have small : ceil ≤ 2300 := by
    unfold CeilFits at hc
    split at hc <;> omega
  have w0 : (BitVec.ofNat 64 (kind + 2 ^ 16 * ceil + 2 ^ 32 * member)).toNat = kind + 2 ^ 16 * ceil + 2 ^ 32 * member := by
    rw [BitVec.toNat_ofNat]
    omega
  have w1 : (BitVec.ofNat 64 effect).toNat = effect := by rw [BitVec.toNat_ofNat]; omega
  have w2 : (BitVec.ofNat 64 sent).toNat = sent := by rw [BitVec.toNat_ofNat]; omega
  have w3 : (BitVec.ofNat 64 sender).toNat = sender := by rw [BitVec.toNat_ofNat]; omega
  have f (lo n : Nat) : fld (kind + 2 ^ 16 * ceil + 2 ^ 32 * member) lo n =
      (kind + 2 ^ 16 * ceil + 2 ^ 32 * member) / 2 ^ lo % 2 ^ n := rfl
  have kindField : fld (kind + 2 ^ 16 * ceil + 2 ^ 32 * member) 0 4 = kind := by rw [f]; omega
  have ceilField : fld (kind + 2 ^ 16 * ceil + 2 ^ 32 * member) 16 12 = ceil := by rw [f]; omega
  have memberField : fld (kind + 2 ^ 16 * ceil + 2 ^ 32 * member) 32 32 = member := by rw [f]; omega
  have reserved : fld (kind + 2 ^ 16 * ceil + 2 ^ 32 * member) 4 12 = 0 ∧ fld (kind + 2 ^ 16 * ceil + 2 ^ 32 * member) 28 4 = 0 := by
    rw [f, f]
    omega
  have senderField : fld sender 0 32 = sender ∧ fld sender 32 32 = 0 := by
    simp only [fld]
    omega
  have ceilOk : (if kind ≤ 2 then decide (600 ≤ ceil) && decide (ceil ≤ 2300) else ceil == 0) = true := by
    unfold CeilFits at hc
    split at hc
    · next h => rw [if_pos h]; simpa using hc
    · next h => rw [if_neg h]; simpa using hc
  have good : ¬(4 < kind ∨ 0 ≠ 0 ∨ 0 ≠ 0 ∨ 0 ≠ 0 ∨ (!true) = true ∨ (!decide (member < 2 ^ 28)) = true ∨
      (!decide (sender < 2 ^ 28)) = true ∨ effect < sent + 50000) := by
    simp only [decide_eq_true hm, decide_eq_true hs]
    simp
    omega
  simp only [chainMsg, w0, w1, w2, w3, kindField, ceilField, memberField, reserved.1, reserved.2, senderField.1, senderField.2, ceilOk]
  exact if_neg good

/-- A malformed message is none. -/
theorem chainMsg_none {w0 w1 w2 w3 : Xword} (h : 4 < w0.toNat % 16 ∨ w0.toNat / 16 % 2 ^ 12 ≠ 0 ∨ w0.toNat / 2 ^ 28 % 16 ≠ 0 ∨
    w3.toNat / 2 ^ 32 ≠ 0 ∨ (w0.toNat % 16 ≤ 2 ∧ (w0.toNat / 2 ^ 16 % 2 ^ 12 < 600 ∨ 2300 < w0.toNat / 2 ^ 16 % 2 ^ 12)) ∨
      w1.toNat < w2.toNat + 50000) : chainMsg w0 w1 w2 w3 = none := by
  have kindField : fld w0.toNat 0 4 = w0.toNat % 16 := fld_zero _ _
  have sender : fld w3.toNat 32 32 = w3.toNat / 2 ^ 32 := by
    have := w3.isLt
    exact Nat.mod_eq_of_lt (by omega)
  have ceil : w0.toNat % 16 ≤ 2 → (fld w0.toNat 16 12 < 600 ∨ 2300 < fld w0.toNat 16 12) →
      (if w0.toNat % 16 ≤ 2 then decide (600 ≤ fld w0.toNat 16 12) && decide (fld w0.toNat 16 12 ≤ 2300)
        else fld w0.toNat 16 12 == 0) = false := by
    intro kind out
    rw [if_pos kind, Bool.and_eq_false_iff, decide_eq_false_iff_not, decide_eq_false_iff_not]
    omega
  refine if_pos ?_
  simp only [kindField, sender]
  rcases h with h | h | h | h | ⟨kind, out⟩ | h
  · exact .inl h
  · exact .inr (.inl h)
  · exact .inr (.inr (.inl h))
  · exact .inr (.inr (.inr (.inl h)))
  · exact .inr (.inr (.inr (.inr (.inl (by rw [ceil kind out]; rfl)))))
  · exact .inr (.inr (.inr (.inr (.inr (.inr (.inr h))))))

/-! ### Receiving (R287, R288) -/

/-- What a member takes from a message, before it notes that it has heard of the sender. -/
def State.takeMsg (s : State) (die : Nat) (m : ChainMsg) : State :=
  match m.kind with
  | 0 => s.takeEntry die m
  | 1 => s.takeJoin die m
  | 2 => s.takeSnapshot die m
  | 3 => s.onMember die m.member fun x => x.endAt m.effect
  | _ => s.takeRemoval die m

/-- A member of a chain, with the time at which it was heard. -/
def heardAt (sender now : Nat) (m : ChainMember) : ChainMember := if m.id = sender then { m with heard := now } else m

section
variable {s : State} {die : Nat} {m : ChainMsg}

theorem chainTake_stranger (h : s.knows die (memberId die) = false ∨ (m.kind ≠ 1 ∧ m.kind ≠ 2 ∧ s.knows die m.sender = false)) :
    s.chainTake die m = s := by
  refine if_pos ?_
  rcases h with h | ⟨join, snapshot, h⟩
  · exact .inl (by rw [h]; rfl)
  · exact .inr ⟨join, snapshot, by rw [h]; rfl⟩

theorem chainReceive_stranger (h : s.knows die (memberId die) = false ∨ (m.kind ≠ 1 ∧ m.kind ≠ 2 ∧ s.knows die m.sender = false)) :
    s.chainReceive die m = s := by
  unfold State.chainReceive
  simp only [chainTake_stranger h]
  rw [if_neg]
  rintro ⟨join, known, -⟩
  rcases h with h | ⟨other, -, -⟩
  · rw [h] at known
    cases known
  · exact other join

/-- A message that a member takes. -/
theorem chainTake_is {l : List ChainMember} {late now : Nat} (known : s.knows die (memberId die) = true)
    (sender : m.kind = 1 ∨ m.kind = 2 ∨ s.knows die m.sender = true) (h : (s.takeMsg die m).ChainIs die l late now) :
    (s.chainTake die m).ChainIs die (l.map (heardAt m.sender now)) late now := by
  have taken : s.chainTake die m =
      (s.takeMsg die m).onMember die m.sender fun x => { x with heard := (s.takeMsg die m).timeOf die } := by
    refine if_neg ?_
    rintro (h | ⟨join, snapshot, h⟩)
    · rw [known] at h
      cases h
    · rcases sender with x | x | x
      · exact join x
      · exact snapshot x
      · rw [x] at h
        cases h
  rw [taken, h.2.2]
  exact h.onMember m.sender fun x => { x with heard := now }

/-- A member that is answered is another die's. -/
theorem chainReceive_is {l : List ChainMember} {late now : Nat} (known : s.knows die (memberId die) = true)
    (sender : m.kind = 1 ∨ m.kind = 2 ∨ s.knows die m.sender = true) (other : m.kind = 1 → m.member ≠ memberId die)
    (h : (s.takeMsg die m).ChainIs die l late now) :
    (s.chainReceive die m).ChainIs die (l.map (heardAt m.sender now)) late now := by
  have taken := chainTake_is known sender h
  unfold State.chainReceive
  simp only
  split
  · next answers => exact State.SameChain.foldl (fun s x => .post_ne s (other answers.1) x) _ _ _ _ _ taken
  · exact taken

end

/-! ### Sending (R286, R288) -/

theorem post_self (s : State) {die : Nat} (hd : die < 8) (m : ChainMsg) : s.post (memberId die) m = s.chainTake die m := by
  rw [State.post, memberDie_memberId hd]

/-- A message to every member of a list, a die among them: what that die keeps, and what the message brings about there. -/
theorem foldl_post {die now : Nat} (hd : die < 8) (m : ChainMsg) {A B : List ChainMember → Prop}
    (own : ∀ s l late, State.ChainIs s die l late now → A l → ∃ l' late', (s.chainTake die m).ChainIs die l' late' now ∧ A l' ∧ B l')
    (ids : List Nat) {s : State} {l : List ChainMember} {late : Nat} (h : s.ChainIs die l late now) (hA : A l)
    (hB : memberId die ∈ ids ∨ B l) :
    ∃ l' late', (ids.foldl (fun s id => s.post id m) s).ChainIs die l' late' now ∧ B l' := by
  induction ids generalizing s l late with
  | nil => exact ⟨l, late, h, hB.resolve_left (by simp)⟩
  | cons x r ih =>
    by_cases hx : x = memberId die
    · subst hx
      obtain ⟨l', late', h', hA', hB'⟩ := own s l late h hA
      rw [List.foldl_cons, post_self s hd m]
      exact ih h' hA' (.inr hB')
    · refine ih (State.SameChain.post_ne s hx m _ _ _ h) hA (hB.imp_left fun hm => ?_)
      exact (List.mem_cons.1 hm).resolve_left (Ne.symm hx)

/-- A chain that a die knows itself in. -/
def KnowsSelf (die : Nat) (l : List ChainMember) : Prop := (l.any fun x => x.id == memberId die) = true

theorem KnowsSelf.map {die : Nat} {l : List ChainMember} (h : KnowsSelf die l) {f : ChainMember → ChainMember}
    (hf : ∀ x, (f x).id = x.id) : KnowsSelf die (l.map f) := by
  obtain ⟨x, hx, id⟩ := List.any_eq_true.1 h
  exact List.any_eq_true.2 ⟨f x, List.mem_map_of_mem hx, by rw [hf]; exact id⟩

theorem heardAt_id (sender now : Nat) (x : ChainMember) : (heardAt sender now x).id = x.id := by
  unfold heardAt
  split <;> rfl

theorem heardAt_keeps (sender now : Nat) (x : ChainMember) : (heardAt sender now x).entries = x.entries ∧
    (heardAt sender now x).leaveAt = x.leaveAt := by
  unfold heardAt
  split <;> exact ⟨rfl, rfl⟩

/-- The entry in force at a member's effective time is the one published for it. -/
theorem find_publish (x : ChainMember) (effect ceil : Nat) :
    (x.publish effect ceil).entries.find? (fun e => decide (e.1 ≤ effect)) = some (effect, ceil) := by
  have before : (x.entries.takeWhile fun e => decide (effect < e.1)).find? (fun e => decide (e.1 ≤ effect)) = none := by
    refine List.find?_eq_none.2 fun e he => ?_
    have later := List.mem_takeWhile_imp he
    simp only [decide_eq_true_eq] at later ⊢
    omega
  rw [ChainMember.publish, List.find?_append, before]
  simp

section
variable (s : State) {die : Nat} (hd : die < 8) (known : s.knows die (memberId die) = true)
include hd known

omit hd in
theorem mem_ids : memberId die ∈ (s.die die).chain.map fun x => x.id := by
  obtain ⟨x, hx, id⟩ := List.any_eq_true.1 known
  exact List.mem_map.2 ⟨x, hx, beq_iff_eq.1 id⟩

theorem exec_ceilingRepublish : ∃ t, exec (.ceilingRepublish die) s = .next t ∧ ∀ m ∈ (t.die die).chain, m.id = memberId die →
    m.entries.find? (fun e => decide (e.1 ≤ s.timeOf die + 50000)) =
      some (s.timeOf die + 50000, max 600 (min 2300 (min (s.die die).dceil (s.die die).thermal))) := by
  let m := s.chainMsgOf die 0 (s.die die).published (memberId die)
  have own (u : State) (l : List ChainMember) (late : Nat) (h : u.ChainIs die l late (s.timeOf die)) (hA : KnowsSelf die l) :
      ∃ l' late', (u.chainTake die m).ChainIs die l' late' (s.timeOf die) ∧ KnowsSelf die l' ∧ ∀ x ∈ l', x.id = memberId die →
        x.entries.find? (fun e => decide (e.1 ≤ s.timeOf die + 50000)) =
          some (s.timeOf die + 50000, (s.die die).published) := by
    have knows : u.knows die (memberId die) = true := (h.knows _).trans hA
    refine ⟨_, _, chainTake_is knows (.inr (.inr knows)) (h.takeEntry m), (hA.map ?_).map (heardAt_id _ _), fun x hx id => ?_⟩
    · intro x
      split <;> rfl
    · obtain ⟨y, hy, rfl⟩ := List.mem_map.1 hx
      obtain ⟨z, hz, rfl⟩ := List.mem_map.1 hy
      rw [heardAt_id] at id
      rw [(heardAt_keeps _ _ _).1]
      have mine : z.id = m.member := by
        split at id
        · next h => exact h
        · exact id
      rw [if_pos mine]
      exact find_publish z _ _
  obtain ⟨l, late, ⟨chain, -, -⟩, entries⟩ := foldl_post hd m own ((s.die die).chain.map fun x => x.id) ⟨rfl, rfl, rfl⟩ known
    (.inl (mem_ids s known))
  refine ⟨_, congrArg Host.Outcome.next (if_pos known), fun x hx id => ?_⟩
  have hx : x ∈ l := chain ▸ hx
  exact entries x hx id

theorem exec_chainSilenceTimeout {x : Nat} (other : x ≠ memberId die)
    (silent : ∃ m ∈ (s.die die).chain, m.id = x ∧ m.heard + 400000 ≤ s.timeOf die) :
    ∃ t, exec (.chainSilenceTimeout die x) s = .next t ∧ ∀ m ∈ (t.die die).chain, m.id = x →
      ∃ l, m.leaveAt = some l ∧ l ≤ s.timeOf die + 50000 := by
  let m := s.chainMsgOf die 4 0 x
  have own (u : State) (l : List ChainMember) (late : Nat) (h : u.ChainIs die l late (s.timeOf die)) (hA : KnowsSelf die l) :
      ∃ l' late', (u.chainTake die m).ChainIs die l' late' (s.timeOf die) ∧ KnowsSelf die l' ∧ ∀ y ∈ l', y.id = x →
        ∃ l, y.leaveAt = some l ∧ l ≤ s.timeOf die + 50000 := by
    have knows : u.knows die (memberId die) = true := (h.knows _).trans hA
    refine ⟨_, _, chainTake_is knows (.inr (.inr knows)) (h.takeRemoval m), (hA.map ?_).map (heardAt_id _ _), fun y hy id => ?_⟩
    · intro y
      split <;> rfl
    · obtain ⟨z, hz, rfl⟩ := List.mem_map.1 hy
      obtain ⟨w, hw, rfl⟩ := List.mem_map.1 hz
      rw [heardAt_id] at id
      rw [(heardAt_keeps _ _ _).2]
      have mine : w.id = m.member := by
        split at id
        · next h => exact h
        · exact id
      rw [if_pos mine]
      refine ⟨_, rfl, ?_⟩
      split
      · exact le_rfl
      · exact min_le_right _ _
  obtain ⟨l, late, ⟨chain, -, -⟩, ends⟩ := foldl_post hd m own ((s.die die).chain.map fun x => x.id) ⟨rfl, rfl, rfl⟩ known
    (.inl (mem_ids s known))
  have quiet : ((s.die die).chain.any fun y => y.id == x && decide (y.heard + 400000 ≤ s.timeOf die)) = true := by
    obtain ⟨y, hy, id, heard⟩ := silent
    exact List.any_eq_true.2 ⟨y, hy, by simp [id, heard]⟩
  refine ⟨_, congrArg Host.Outcome.next (if_pos ⟨known, quiet, other⟩), fun y hy id => ?_⟩
  have hy : y ∈ l := chain ▸ hy
  exact ends y hy id

end

/-! ### A change of membership (R288, R198) -/

theorem State.SameChain.onOwner (s : State) (k die asid : Nat) (f : Warp → Warp) (d : Nat) : s.SameChain (s.onOwner k die asid f) d := by
  unfold State.onOwner
  split
  · split <;> exact .of_die rfl rfl rfl rfl rfl
  · exact .of_die rfl rfl rfl rfl rfl

theorem State.SameChain.abandonColl (s : State) (c : CopyCmd) (d : Nat) : s.SameChain (s.abandonColl c) d := by
  obtain ⟨u, hu⟩ : ∃ u, u = s.setDie c.die { s.die c.die with colls := (s.die c.die).colls.filter fun x => x.1.id ≠ c.id } := ⟨_, rfl⟩
  have left : s.SameChain u d := by
    rw [hu]
    by_cases h : d = c.die
    · subst h
      exact fun l late now x => State.chainIs_setDie x.2.2 x.1 x.2.1 rfl rfl
    · exact .setDie_ne s h _
  have written : u.SameChain (u.statusWrite (issuerCore c.warp) c.tokenPa 3) d := by
    unfold State.statusWrite
    split
    · exact .of_home (.writeHome u _ _) d
    · exact .refl u d
  have ended : s.abandonColl c = (u.statusWrite (issuerCore c.warp) c.tokenPa 3).onOwner c.warp c.die c.asid Warp.copyFall := by
    rw [hu]
    rfl
  rw [ended]
  exact (left.trans written).trans (.onOwner _ _ _ _ _ d)

theorem State.SameChain.abandonAll (s : State) (c : CopyCmd) (d : Nat) : s.SameChain (s.abandonAll c) d := by
  unfold State.abandonAll
  split
  · exact .refl s d
  · have late : s.SameChain (s.lateOutside c).2 d := by
      unfold State.lateOutside
      split <;> exact .of_die rfl rfl rfl rfl rfl
    have early : (s.lateOutside c).2.SameChain ((s.lateOutside c).2.earliness (s.collIssued c) (s.lateOutside c).1) d := by
      refine .foldl (fun u x => ?_) _ _
      split <;> exact .of_die rfl rfl rfl rfl rfl
    exact (late.trans early).trans (.foldl (fun u x => .abandonColl u x d) _ _)

section
variable (s : State) (die : Nat)

/-- A member whose leave or removal has come. -/
def ChainMember.due (now : Nat) (m : ChainMember) : Bool :=
  match m.leaveAt with
  | some t => decide (t ≤ now)
  | none => false

theorem ChainMember.due_eq_false (now : Nat) (m : ChainMember) : m.due now = false ↔ ∀ l, m.leaveAt = some l → now < l := by
  unfold ChainMember.due
  cases m.leaveAt <;> simp

/-- The chain that a change of membership leaves. -/
def State.remaining : List ChainMember :=
  let ids := ((s.die die).chain.filter fun m => m.due (s.timeOf die)).map fun m => m.id
  if ids.contains (memberId die) then [] else (s.die die).chain.filter fun m => !ids.contains m.id

theorem State.remaining_spec : (∀ m ∈ s.remaining die, m ∈ (s.die die).chain ∧ ∀ l, m.leaveAt = some l → s.timeOf die < l) ∧
    ((∀ m ∈ (s.die die).chain, ∀ l, m.leaveAt = some l → s.timeOf die < l) → s.remaining die = (s.die die).chain) := by
  refine ⟨fun m hm => ?_, fun none_ => ?_⟩
  · unfold State.remaining at hm
    simp only at hm
    split at hm
    · cases hm
    · obtain ⟨hm, stays⟩ := List.mem_filter.1 hm
      refine ⟨hm, (m.due_eq_false _).1 (Bool.eq_false_iff.2 fun due => ?_)⟩
      have out : m.id ∈ ((s.die die).chain.filter fun m => m.due (s.timeOf die)).map fun m => m.id :=
        List.mem_map_of_mem (List.mem_filter.2 ⟨hm, due⟩)
      simp [out] at stays
  · have nobody : (s.die die).chain.filter (fun m => m.due (s.timeOf die)) = [] := by
      refine List.filter_eq_nil_iff.2 fun m hm due => ?_
      rw [(m.due_eq_false _).2 (none_ m hm)] at due
      cases due
    unfold State.remaining
    simp [nobody]

theorem exec_membershipChangeEffective : ∃ t, exec (.membershipChangeEffective die) s = .next t ∧
    (t.die die).chain = s.remaining die := by
  let ids := ((s.die die).chain.filter fun m => m.due (s.timeOf die)).map fun m => m.id
  let u := s.setDie die { s.die die with
    chain := s.remaining die
    removed := distinct ((s.die die).removed ++ ids)
    joinedBy := if ids.contains (memberId die) then none else (s.die die).joinedBy }
  let v := if ids.contains (memberId die) then u.retime die 0 else u
  obtain ⟨ended, step⟩ : ∃ ended : List CopyCmd, exec (.membershipChangeEffective die) s = .next ((ended.foldl State.abandonAll v).applyCeil die) :=
    ⟨_, rfl⟩
  have chain : (v.die die).chain = s.remaining die := by
    simp only [v]
    split
    · rw [State.retime, State.die_setDie, if_pos rfl, State.die_setDie, if_pos rfl]
    · rw [State.die_setDie, if_pos rfl]
  refine ⟨_, step, ?_⟩
  have same : v.SameChain ((ended.foldl State.abandonAll v).applyCeil die) die :=
    (State.SameChain.foldl (fun u c => .abandonAll u c die) _ _).trans (.applyCeil _ die die)
  exact (same _ _ _ ⟨chain, rfl, rfl⟩).1

end

/-! ### Each kind of message -/

section
variable (s : State) (die : Nat) {ceil member effect sent sender : Nat}

/-- The message of a kind. -/
def msgOf (kind ceil member effect sent sender : Nat) : ChainMsg :=
  { kind := kind, ceil := ceil, member := member, effect := effect, sent := sent, sender := sender }

/-- Where a list of steps is each a message of a kind, each acts as that message does. -/
theorem exec_message {i : Instr} {kind : Nat} {w0 w1 w2 w3 : Xword} (hi : exec i s = .next (s.chainWords die w0 w1 w2 w3))
    (words : chainMsg w0 w1 w2 w3 = some (msgOf kind ceil member effect sent sender)) :
    exec i s = .next (s.chainReceive die (msgOf kind ceil member effect sent sender)) := by
  rw [hi, State.chainWords, words]

/-- A step that leaves a die's chain as given, with so many more late entries. -/
def GivesChain (i : Instr) (late : Nat) (l : List ChainMember) : Prop :=
  ∃ t, exec i s = .next t ∧ (t.die die).chain = l ∧ (t.die die).lateEntries = (s.die die).lateEntries + late

section
variable {i : Instr} {kind : Nat} (known : s.knows die (memberId die) = true)
  (hi : exec i s = .next (s.chainReceive die (msgOf kind ceil member effect sent sender)))
include known hi

/-- A message that a member takes, with what its kind gives. -/
theorem givesChain {l : List ChainMember} {late : Nat} (from_ : kind = 1 ∨ kind = 2 ∨ s.knows die sender = true)
    (other : kind = 1 → member ≠ memberId die)
    (h : (s.takeMsg die (msgOf kind ceil member effect sent sender)).ChainIs die l ((s.die die).lateEntries + late) (s.timeOf die)) :
    GivesChain s die i late (l.map (heardAt sender (s.timeOf die))) := by
  obtain ⟨chain, count, -⟩ := chainReceive_is (m := msgOf kind ceil member effect sent sender) known from_ other h
  exact ⟨_, hi, chain, count⟩

end

/-- The chain of a die as it stands. -/
theorem chainIs_self : s.ChainIs die (s.die die).chain (s.die die).lateEntries (s.timeOf die) := ⟨rfl, rfl, rfl⟩

end

/-- Settles O48: every message by what its kind takes, and the sends by what reaches each member. -/
theorem chains : Obligations.Chains := by
  unfold Obligations.Chains
  intro s die d me now five
  refine ⟨fun ceil member effect sent sender hm hs he h64 => ?_, fun w0 w1 w2 w3 => ?_, fun hd known => ⟨exec_ceilingRepublish s hd known,
    fun x other silent => exec_chainSilenceTimeout s hd known other silent⟩, ?_⟩
  · intro w0 w ceiling join snapshot leave remove heard onMember gives fresh later publish endsAt late
    have self := chainIs_self s die
    have fits {kind : Nat} (hk : kind ≤ 2) (low : 600 ≤ ceil) (high : ceil ≤ 2300) : CeilFits kind ceil := by
      rw [CeilFits, if_pos hk]
      exact ⟨low, high⟩
    have ceiling_ (low : 600 ≤ ceil) (high : ceil ≤ 2300) : exec ceiling s = .next (s.chainReceive die (msgOf 0 ceil member effect sent sender)) :=
      exec_message s die rfl (chainMsg_words (by omega) (fits (by omega) low high) hm hs he h64)
    have join_ (low : 600 ≤ ceil) (high : ceil ≤ 2300) : exec join s = .next (s.chainReceive die (msgOf 1 ceil member effect sent sender)) :=
      exec_message s die rfl (chainMsg_words (by omega) (fits (by omega) low high) hm hs he h64)
    have snapshot_ (low : 600 ≤ ceil) (high : ceil ≤ 2300) : exec snapshot s = .next (s.chainReceive die (msgOf 2 ceil member effect sent sender)) :=
      exec_message s die rfl (chainMsg_words (by omega) (fits (by omega) low high) hm hs he h64)
    have leave_ : exec leave s = .next (s.chainReceive die (msgOf 3 0 member effect sent sender)) :=
      exec_message s die rfl (chainMsg_words (by omega) rfl hm hs he h64)
    have remove_ : exec remove s = .next (s.chainReceive die (msgOf 4 0 member effect sent sender)) :=
      exec_message s die rfl (chainMsg_words (by omega) rfl hm hs he h64)
    refine ⟨fun stranger low high i hi => ?_, fun stranger low high i hi => ?_, fun known => ⟨fun low high => ⟨fun from_ => ?_, fun other => ?_,
      fun new => ⟨fun old => ?_, fun unknown => ?_⟩, fun removed => ?_⟩, fun from_ => ⟨?_, ?_⟩⟩⟩
    · have still (kind c : Nat) : s.chainReceive die (msgOf kind c member effect sent sender) = s :=
        chainReceive_stranger (.inl stranger)
      simp only [List.mem_cons, List.not_mem_nil, or_false] at hi
      rcases hi with rfl | rfl | rfl | rfl | rfl
      · rw [ceiling_ low high, still]
      · rw [join_ low high, still]
      · rw [snapshot_ low high, still]
      · rw [leave_, still]
      · rw [remove_, still]
    · have still {kind : Nat} (h : kind ≠ 1 ∧ kind ≠ 2) (c : Nat) : s.chainReceive die (msgOf kind c member effect sent sender) = s :=
        chainReceive_stranger (.inr ⟨h.1, h.2, stranger⟩)
      simp only [List.mem_cons, List.not_mem_nil, or_false] at hi
      rcases hi with rfl | rfl | rfl
      · rw [ceiling_ low high, still (by omega)]
      · rw [leave_, still (by omega)]
      · rw [remove_, still (by omega)]
    · exact givesChain s die known (ceiling_ low high) (.inr (.inr from_)) (by omega) (self.takeEntry _)
    · exact givesChain s die known (join_ low high) (.inl rfl) (fun _ => other) (self.takeJoin _)
    · exact givesChain s die known (snapshot_ low high) (.inr (.inl rfl)) (by omega) (self.takeSnapshot_known new old)
    · exact givesChain s die known (snapshot_ low high) (.inr (.inl rfl)) (by omega) (self.takeSnapshot_new new unknown)
    · have ignored : s.takeMsg die (msgOf 2 ceil member effect sent sender) = s := if_pos (by simpa [msgOf] using removed)
      exact givesChain s die known (snapshot_ low high) (.inr (.inl rfl)) (by omega) (by rw [ignored]; exact self)
    · exact givesChain s die known leave_ (.inr (.inr from_)) (by omega) (self.onMember _ _)
    · exact givesChain s die known remove_ (.inr (.inr from_)) (by omega) (self.takeRemoval _)
  · intro kind ceil bad i hi
    have counted : s.chainWords die w0 w1 w2 w3 = s.setDie die { d with badMessages := d.badMessages + 1 } := by
      rw [State.chainWords, chainMsg_none bad]
    have words : exec i s = .next (s.chainWords die w0 w1 w2 w3) := by
      simp only [five, List.mem_cons, List.not_mem_nil, or_false] at hi
      rcases hi with rfl | rfl | rfl | rfl | rfl <;> rfl
    rw [words, counted]
  · obtain ⟨t, step, chain⟩ := exec_membershipChangeEffective s die
    obtain ⟨stays, same⟩ := s.remaining_spec die
    refine ⟨t, step, ?_, ?_⟩
    · rw [chain]
      exact stays
    · rw [chain]
      exact same

end Sys2Proof.Machine
end

section
/-!
PROOFS. Waiting for accesses: the landing of loads and the acquires that it performs (06 R149, R157, 22 R378, R379), `fence`
(R151, R355) and `waitn` (R439).
-/

namespace Sys2Proof.Machine
open Sys2Proof

/-! ### Instructions that stop their warp -/

section Stops
variable {i : Instr} {s : State} {c : Cur} {w : Warp} {names : List Nat} {body : Cur → Warp → Effect} {why : Stop}

/-- An instruction of either mode over free registers whose body stops. -/
theorem waits_uses (h : Issues s c w) (hf : w.free names) (he : exec i s = s.run (uses names) body)
    (hb : body c w = .stop s why) : Waits i s c why := by rw [Waits, he, run_uses h hf, hb]; rfl

/-- An instruction of user mode over free registers whose body stops. -/
theorem waits_userOnly (h : Issues s c w) (hu : w.priv = false) (hf : w.free names)
    (he : exec i s = s.run (userOnly names) body) (hb : body c w = .stop s why) : Waits i s c why := by
  rw [Waits, he, run_userOnly h hu hf, hb]; rfl

end Stops

/-! ### Acquires -/

/-- With nothing pending there is nothing to pull (log 12). -/
theorem State.pullAll_of_noPending {s : State} (h : s.noPending) : s.pullAll = s := by
  have none : ∀ l : List Nat, (∀ a ∈ l, a < 8) →
      l.foldl (fun s a => (mkeys (s.die a).pending).foldl (fun s k => s.pull a k) s) s = s := by
    intro l
    induction l with
    | nil => intro _; rfl
    | cons a r ih =>
      intro lt
      rw [List.foldl_cons, h a (lt a List.mem_cons_self)]
      exact ih fun b hb => lt b (List.mem_cons_of_mem _ hb)
  exact none _ fun a ha => List.mem_range.mp ha

/-- A core that has acquired holds nothing but what it has written (R149). -/
theorem State.clean_acquireCore (s : State) (ck : Nat) : ∀ e ∈ ((s.acquireCore ck).core ck).l1, e.2.valid = e.2.dirty := by
  intro e he
  rw [State.acquireCore, State.core_setCore, if_pos rfl] at he
  obtain ⟨x, -, rfl⟩ := List.mem_map.mp he
  rfl

/-! ### Loads that land -/

@[simp] theorem Warp.stir_vregs (w : Warp) : w.stir.vregs = w.vregs := by
  unfold Warp.stir
  split <;> rfl

@[simp] theorem Warp.stir_loads (w : Warp) : w.stir.loads = w.loads := by
  unfold Warp.stir
  split <;> rfl

@[simp] theorem Warp.stir_stores (w : Warp) : w.stir.stores = w.stores := by
  unfold Warp.stir
  split <;> rfl

/-- Whether a landing load makes its core acquire: an acquire at gang scope or wider does (R149). -/
def LoadOp.drops (l : LoadOp) : Bool :=
  match l.acquire with
  | none | some (_, .wg) => false
  | some _ => true

theorem LoadOp.drops_of_none {l : LoadOp} (h : l.acquire = none) : l.drops = false := by rw [LoadOp.drops, h]

theorem LoadOp.drops_of_scope {l : LoadOp} {sc : Scope} (h : l.acquire.map Prod.snd = some sc) (ne : sc ≠ .wg) : l.drops = true := by
  obtain ⟨⟨m, x⟩, ha, rfl⟩ := Option.map_eq_some_iff.mp h
  rw [LoadOp.drops, ha]
  cases x with
  | wg => exact absurd rfl ne
  | _ => rfl

theorem LoadOp.drops_of_wg {l : LoadOp} (h : ∀ sc, l.acquire.map Prod.snd = some sc → sc = .wg) : l.drops = false := by
  rw [LoadOp.drops]
  cases ha : l.acquire with
  | none => rfl
  | some e =>
    obtain ⟨m, x⟩ := e
    rw [ha] at h
    obtain rfl : x = .wg := h x rfl
    rfl

/-- A load lands: its registers, then its acquire. -/
theorem State.landLoad_eq {s : State} {k : Nat} {w : Warp} (h : s.warp k = some w) (l : LoadOp) :
    s.landLoad k l = if l.drops then (s.setWarp k (w.land l).stir).pullAll.acquireCore w.coreK
      else s.setWarp k (w.land l).stir := by
  rw [State.landLoad, h, LoadOp.drops]
  rcases l.acquire with _ | ⟨m, x⟩
  · rfl
  · cases x <;> rfl

/-- A landing that makes no core acquire, or finds nothing pending, changes no byte of memory. -/
theorem State.landLoad_quiet {s : State} (k : Nat) {l : LoadOp} (h : l.drops = false ∨ s.noPending) (x : Nat) :
    (s.landLoad k l).byte x = s.byte x := by
  cases hw : s.warp k with
  | none => rw [State.landLoad, hw]
  | some w =>
    rw [State.landLoad_eq hw]
    split
    · next drops =>
      have none : (s.setWarp k (w.land l).stir).noPending := h.resolve_left (by rw [drops]; decide)
      rw [State.pullAll_of_noPending none]
      rfl
    · rfl

/-- A landing leaves nothing pending where nothing was. -/
theorem State.landLoad_noPending {s : State} (k : Nat) (l : LoadOp) (h : s.noPending) : (s.landLoad k l).noPending := by
  cases hw : s.warp k with
  | none => rw [State.landLoad, hw]; exact h
  | some w =>
    rw [State.landLoad_eq hw]
    have none : (s.setWarp k (w.land l).stir).noPending := h
    split
    · rw [State.pullAll_of_noPending none]
      exact h
    · exact h

/-- Landings that make no core acquire, or find nothing pending, change no byte of memory. -/
theorem State.landLoads_quiet (k : Nat) (l : List LoadOp) (s : State) (h : (∀ x ∈ l, x.drops = false) ∨ s.noPending) (x : Nat) :
    (l.foldl (fun s l => s.landLoad k l) s).byte x = s.byte x := by
  induction l generalizing s with
  | nil => rfl
  | cons a r ih =>
    rw [List.foldl_cons, ih, State.landLoad_quiet k (h.imp_left fun h => h a List.mem_cons_self)]
    exact h.imp (fun h x hx => h x (List.mem_cons_of_mem _ hx)) (State.landLoad_noPending k a)

/-- A table after a list of writes holds the last one to a key. -/
theorem mget_writes {α β : Type} [DecidableEq β] (d : β) (key : α → Nat) (val : α → β) (l : List α) (m : SMap β) (k : Nat) :
    mget d (l.foldl (fun m r => mset d m (key r) (val r)) m) k = ((l.reverse.find? fun r => key r == k).map val).getD (mget d m k) := by
  induction l generalizing m with
  | nil => rfl
  | cons a r ih =>
    rw [List.foldl_cons, ih, List.reverse_cons, List.find?_append]
    cases r.reverse.find? fun r => key r == k with
    | some x => rfl
    | none =>
      rw [mget_mset]
      by_cases hk : k = key a
      · rw [if_pos hk, List.find?_cons_of_pos (by rw [hk]; exact beq_self_eq_true _)]
        rfl
      · rw [if_neg hk, List.find?_cons_of_neg (by rw [beq_iff_eq]; exact Ne.symm hk)]
        rfl

/-- The registers and the load counter after a landing. -/
theorem State.warp_landLoad {s : State} {k : Nat} {w : Warp} (h : s.warp k = some w) (l : LoadOp) :
    ∃ u, (s.landLoad k l).warp k = some u ∧ u.loads = (w.land l).loads ∧ u.vregs = (w.land l).vregs := by
  have landed := State.warp_setWarp_same s k (w.land l).stir
  rw [State.landLoad_eq h]
  split
  · obtain ⟨u, hu, same⟩ := ((State.AtHome.pullAll _).trans (.acquireCore _ w.coreK)).warp k _ landed
    refine ⟨u, hu, ?_, ?_⟩ <;> rw [same]
    · exact Warp.stir_loads _
    · exact Warp.stir_vregs _
  · exact ⟨_, landed, Warp.stir_loads _, Warp.stir_vregs _⟩

/-- The return of a load whose data have come lands it. -/
theorem exec_loadReturn {s : State} {k : Nat} {w : Warp} {l : LoadOp} (hw : s.warp k = some w) (mem : l ∈ w.loads)
    (here : l.waiting = []) (found : l.lost = none) (only : ∀ m ∈ w.loads, m.id = l.id → m = l) :
    exec (.loadReturn k l.id) s = .next (s.landLoad k l) := by
  have find : (w.loads.find? fun m => m.id == l.id && m.waiting.isEmpty && m.lost.isNone) = some l := by
    cases hf : w.loads.find? fun m => m.id == l.id && m.waiting.isEmpty && m.lost.isNone with
    | none => exact absurd (List.find?_eq_none.mp hf l mem) (by simp [here, found])
    | some m =>
      have ok := List.find?_some hf
      simp only [Bool.and_eq_true, beq_iff_eq] at ok
      rw [only m (List.mem_of_find?_eq_some hf) ok.1.1]
  change execLoadReturn k l.id s = _
  rw [execLoadReturn, hw]
  simp only [find]

/-- A store that is performed leaves its counter. -/
theorem exec_storePerformed {s : State} {k : Nat} {w : Warp} {o : StoreOp} (hw : s.warp k = some w) (mem : o ∈ w.stores)
    (done : o.isDone = true) : exec (.storePerformed k o.id) s =
      .next ((s.setWarp k ({ w with stores := w.stores.filter fun q => q.id ≠ o.id } : Warp).stir).stirCtx w.die w.asid) := by
  change execStorePerformed k o.id s = _
  rw [execStorePerformed, hw]
  exact if_pos (List.any_eq_true.mpr ⟨o, mem, by simp [done]⟩)

/-- What warps look at again is nothing that their stores or any byte depends on. -/
theorem State.warp_stirCtx {s : State} {k : Nat} {w : Warp} (h : s.warp k = some w) (die asid : Nat) :
    ∃ u, (s.stirCtx die asid).warp k = some u ∧ u.stores = w.stores := by
  refine ⟨if w.ofCtx die asid then w.stir else w, ?_, ?_⟩
  · have find : mfind s.warps k = some w := h
    rw [State.warp, State.stirCtx, mfind_mmap, find]
    rfl
  · split
    · exact Warp.stir_stores w
    · rfl

/-- Settles O26: a landing writes the registers and acquires; the other two change their warp alone. -/
theorem completionsOfAccesses : Obligations.CompletionsOfAccesses := by
  unfold Obligations.CompletionsOfAccesses
  refine ⟨?_, ?_, ?_⟩
  · intro s k w l hw mem here found only
    obtain ⟨u, hu, loads, vregs⟩ := State.warp_landLoad hw l
    refine ⟨_, u, exec_loadReturn hw mem here found only, hu, loads, fun key => ?_, fun sc hsc ne => ?_, fun quiet => ?_⟩
    · rw [vregs]
      exact mget_writes 0 (fun r : LoadReg => 64 * r.reg + r.lane) LoadReg.value l.ready w.vregs key
    · rw [State.landLoad_eq hw, if_pos (LoadOp.drops_of_scope hsc ne)]
      exact State.clean_acquireCore _ _
    · exact State.landLoad_quiet k (quiet.imp_left LoadOp.drops_of_wg)
  · intro s k w o hw mem done
    obtain ⟨u, hu, stores⟩ := State.warp_stirCtx (State.warp_setWarp_same s k
      ({ w with stores := w.stores.filter fun q => q.id ≠ o.id } : Warp).stir) w.die w.asid
    exact ⟨_, u, exec_storePerformed hw mem done, hu, stores.trans (Warp.stir_stores _), fun _ => rfl⟩
  · intro s k w pa hw stop
    refine ⟨_, rfl, ?_⟩
    rw [State.warp_onWarp, if_pos rfl, hw, Option.map_some, stop]
    rfl

/-! ### Fences -/

/-- The wider of two scopes, as the spec has it. -/
theorem widerScope_eq (a : Option Scope) (b : Scope) : widerScope a b = match a with
    | none => b
    | some x => if scopeCode x < scopeCode b then b else x := by
  cases a with
  | none => rfl
  | some x => cases x <;> cases b <;> rfl

section Fences
variable {s : State} {c : Cur} {w : Warp} {mask : BitVec 4} {sc : Scope} (h : Issues s c w)
include h

/-- A fence with a release waits for the commands of its kinds (R355). -/
theorem waits_fence {k : FenceKind} (rel : k ≠ .acq) (busy : s.enginesBusy c.warp w mask = true) :
    Waits (.fence k mask sc) s c .engine := by
  refine waits_uses h (free_nil w) rfl ?_
  cases k with
  | acq => exact absurd rfl rel
  | rel => simp [busy]
  | acqrel => simp [busy]

/-- Then its lanes' later writes release (R151). -/
theorem lands_fence (idle : s.enginesBusy c.warp w mask = false) : Lands (.fence .rel mask sc) s c (w.fenceRel c.lanes sc) := by
  refine ends_uses h (free_nil w) rfl ?_
  simp [idle]

theorem ends_fence_acqrel (idle : s.enginesBusy c.warp w mask = false) :
    Ends (.fence .acqrel mask sc) s c ((s.setWarp c.warp (w.fenceRel c.lanes sc)).fenceAcq c w mask sc) := by
  refine ends_uses h (free_nil w) rfl ?_
  simp [idle]

/-- A fence with an acquire alone waits for nothing. -/
theorem ends_fence_acq : Ends (.fence .acq mask sc) s c (s.fenceAcq c w mask sc) := by
  refine ends_uses h (free_nil w) rfl ?_
  simp

end Fences

/-- The acquire of a fence with no load outstanding (R355). -/
theorem State.fenceAcq_of_none (s : State) (c : Cur) {w : Warp} (mask : BitVec 4) (sc : Scope) (none : w.loads = []) :
    s.fenceAcq c w mask sc = if sc = .wg then s else s.pullAll.acquireCore w.coreK := by
  rw [State.fenceAcq, none]
  rfl

/-! ### `waitn` -/

/-- With no reply lost, the loads whose data have come are those that wait for nothing. -/
theorem Warp.loadsHere_of {w : Warp} (found : ∀ l ∈ w.loads, l.lost = none) :
    w.loadsHere = w.loads.filter fun l => l.waiting.isEmpty :=
  List.filter_congr fun l hl => by rw [found l hl]; exact Bool.and_true _

theorem Warp.loadsLost_of {w : Warp} (found : ∀ l ∈ w.loads, l.lost = none) : w.loadsLost = [] :=
  List.filter_eq_nil_iff.mpr fun l hl => by rw [found l hl]; decide

section Waitn
variable {s : State} {c : Cur} {w : Warp} {ld st cp mx : BitVec 5} (h : Issues s c w) (hu : w.priv = false)
  (found : ∀ l ∈ w.loads, l.lost = none)
include h hu found

theorem ends_waitn (met : w.countersMet ld.toNat st.toNat cp.toNat mx.toNat = true) : Ends (.waitn ld st cp mx) s c
    ((w.loadsHere.take (w.loads.length - ld.toNat)).foldl (fun s l => s.landLoad c.warp l) s) := by
  refine ends_userOnly h hu (free_nil w) rfl ?_
  exact (if_neg (by rw [Warp.loadsLost_of found]; exact Nat.not_lt_zero _)).trans (if_pos met)

theorem waits_waitn (unmet : w.countersMet ld.toNat st.toNat cp.toNat mx.toNat = false) :
    Waits (.waitn ld st cp mx) s c (.waitn ld.toNat st.toNat cp.toNat mx.toNat) := by
  refine waits_userOnly h hu (free_nil w) rfl ?_
  exact (if_neg (by rw [Warp.loadsLost_of found]; exact Nat.not_lt_zero _)).trans (if_neg (by rw [unmet]; decide))

end Waitn

/-- The thresholds, as R439 states them. -/
theorem Warp.countersMet_iff {w : Warp} (found : ∀ l ∈ w.loads, l.lost = none) (ld st cp mx : Nat) :
    w.countersMet ld st cp mx = true ↔ w.loads.length ≤ ld + (w.loads.filter fun l => l.waiting.isEmpty).length ∧
      w.stores.length ≤ st ∧ w.copies ≤ cp ∧ w.matrix ≤ mx := by
  simp only [Warp.countersMet, Warp.loadsHere_of found, Bool.and_eq_true, decide_eq_true_eq, and_assoc]
  rw [Nat.sub_le_iff_le_add, Nat.add_comm]

/-- Settles O27: a fence marks, waits or acquires; `waitn` lands what it needs of the loads that have come, or stops. -/
theorem fence : Obligations.Fence := by
  unfold Obligations.Fence
  refine ⟨fun s c w mask sc h => ⟨fun busy => ⟨waits_fence h (by decide) busy, waits_fence h (by decide) busy⟩, fun idle => ?_,
    fun none quiet => ?_, ⟨_, ends_fence_acq h⟩, fun idle => ⟨_, ends_fence_acqrel h idle⟩⟩, fun s c w ld st cp mx h hu found => ?_⟩
  · refine ⟨_, lands_fence h idle, rfl, fun l hl h64 => ?_⟩
    rw [Warp.fenceRel, Warp.lane_onLanes _ _ _ _ hl, widerScope_eq] <;> rfl
  · refine ⟨_, ends_fence_acq h, fun x => ?_, fun ne => ?_, fun wg => ?_⟩ <;> rw [State.fenceAcq_of_none s c mask sc none]
    · rw [State.pullAll_of_noPending quiet]
      split <;> rfl
    · rw [if_neg ne]
      exact State.clean_acquireCore _ _
    · exact if_pos wg
  · have met := Warp.countersMet_iff found ld.toNat st.toNat cp.toNat mx.toNat
    refine ⟨fun few others => ?_, fun few others => ⟨_, ends_waitn h hu found (met.mpr ⟨few, others⟩), fun quiet x => ?_⟩,
      fun unmet => waits_waitn h hu found (Bool.eq_false_iff.mpr (mt met.mp unmet))⟩
    · have ends := ends_waitn h hu found (met.mpr ⟨Nat.le_add_right_of_le few, others⟩)
      rwa [Nat.sub_eq_zero_of_le few] at ends
    · refine State.landLoads_quiet _ _ s (quiet.imp_left fun none l hl => ?_) x
      exact LoadOp.drops_of_none (none l (List.mem_of_mem_filter (List.mem_of_mem_take hl)))

end Sys2Proof.Machine
end

section
/-!
PROOFS. `waitc` (R437, R160) of a warp on a core that is none of its die's: what that core holds update-only goes home first,
and a statement about the cores of the die alone does not see it.
-/

namespace Sys2Proof.Machine
open Sys2Proof

/-- A warp of die 0 on core 32, which lies beyond the die's own (00 R1), in supervisor mode; s2 holds 5. -/
def strayWarp : Warp :=
  { Warp.start { die := 0, asid := 0, cluster := 0, core := 32, partition := 0, slot := 0, gang := 0, member := 0, index := 0 }
      1 64 0 with priv := true, sregs := [(2, 5)] }

/-- Its one lane issues. -/
def strayFrame : Cur :=
  { warp := 0, lanes := 1, cands := 1, pc := 0, trapPc := 0, nextPc := 4, priv := true, inRep := false }

/-- The page at address 0 of die 0. -/
def pageZero : Leaf :=
  { asid := 0, va := 0, level := 0, pa := 0, canWrite := true, canFetch := false, exported := false, fmt := 0, side := 0 }

/-- The line at address 0, with 5 to be added to its first word. -/
def addFive : UoLine := { op := .addB32, written := 1, words := 5, exported := false }

/-- Core 32 translates address 0 and holds the line there update-only. -/
def strayState : State :=
  { State.reset with warps := [(0, strayWarp)], cores := [(32, { State.reset.core 32 with tlb := [pageZero], uo := [(0, addFive)] })],
                     cur := some strayFrame }

/-- Where the access of lane 0 goes. -/
def strayPlace : Place := { lane := 0, va := 0, pa := 0, window := .priv, leaf := pageZero }

theorem strayIssues : Issues strayState strayFrame strayWarp := ⟨rfl, rfl⟩

/-- No core of die 0 itself holds a line update-only. -/
theorem strayState_noUpdates (line : Nat) : strayState.noUpdates 0 line := by
  intro ck hck
  have ne : ck ≠ 32 := by rintro rfl; exact absurd hck (by decide)
  have core : strayState.core ck = State.reset.core ck := by
    have absent : mfind strayState.cores ck = none := by
      change mfind [(32, _)] ck = none
      rw [mfind_cons]
      exact if_neg (Ne.symm ne)
    rw [State.core, mget, absent]
    rfl
  rw [core]
  rfl

/-- The accesses of 4 bytes at address 0 pass their checks. -/
theorem strayReaches (want : Want) (h : want = .wait ∨ want = .load) :
    Reaches strayState strayFrame strayWarp want 4 0 false 0 strayState strayPlace := by
  rcases h with rfl | rfl <;> exact ⟨by decide, by decide, rfl, rfl, rfl, rfl, rfl, strayState_noUpdates _⟩

/-- What memory holds in the state that follows. -/
def Outcome.byte (o : Host.Outcome State Fault Refusal) (x : Nat) : Byte :=
  match o with
  | .next t => t.byte x
  | .fault _ | .refused _ => 0

/-- Refutes O28: the statement lets the warp's core be none of its die's, and its premise on update-only lines is about the die's
cores. Here the core adds 5 to the word at address 0 when its line goes home. The word was 0 and s2 holds 5, so the statement has
the warp stop with the byte at 0 unchanged; but the byte becomes 5, and the condition holds. -/
theorem not_waitCondition : ¬ Obligations.WaitCondition := by
  unfold Obligations.WaitCondition
  intro h
  obtain ⟨-, waits⟩ := h strayState strayFrame strayWarp .eq false 1 0 2 strayIssues (by unfold Warp.mayAccess; decide)
  obtain ⟨-, stops⟩ := waits 0 strayState strayPlace rfl rfl (strayReaches .wait (.inl rfl)) (fun _ _ => rfl)
    (fun _ he => absurd he List.not_mem_nil) rfl
  obtain ⟨t, u, claimed, -, -, -, kept⟩ := stops (by decide)
  have home : Outcome.byte (exec (.waitc .eq false 1 0 2) strayState) 0 = 5 := by decide +kernel
  rw [claimed] at home
  have unchanged : t.byte 0 = 0 := (kept 0).trans (by decide)
  rw [Outcome.byte, unchanged] at home
  exact absurd home (by decide)

end Sys2Proof.Machine
end

section
/-!
PROOFS. A global load (R125, R378) of a warp on a core that is none of its die's, as for `waitc`.
-/

namespace Sys2Proof.Machine
open Sys2Proof

/-- A completion in supervisor mode, where lanes never rejoin (R248), changes no byte of memory. -/
theorem State.byte_complete_of_priv {s : State} {c : Cur} {w : Warp} (h : s.warp c.warp = some w) (hp : w.priv = true)
    (moved : Bool) (x : Nat) : (s.complete c moved).byte x = s.byte x := by
  have warp : ({ s with cur := none, issues := s.issues + 1 } : State).warp c.warp = some w := h
  have priv : (w.complete c moved (s.issues + 1)).priv = true := by rw [w.complete_shape]; exact hp
  have moves : (w.complete c moved (s.issues + 1)).deadlock = none := by
    rw [Warp.deadlock, priv]
    exact if_neg fun h => absurd h.1 (by decide)
  unfold State.complete
  simp only
  rw [State.onWarp_some _ warp, State.checkDeadlock, State.warp_setWarp_same]
  simp only [moves]
  rfl

/-- Refutes O21: as in O28, the warp's core is none of its die's, and holds the line of address 0 update-only. A load of the word
there sends the line home, and the byte of memory that the statement has unchanged becomes 5. -/
theorem not_globalLoadStore : ¬ Obligations.GlobalLoadStore := by
  unfold Obligations.GlobalLoadStore
  intro h
  obtain ⟨loads, -, -⟩ := h strayState strayFrame strayWarp .b32 3 0 127 none 0 strayState strayPlace strayIssues
    (by unfold Warp.free; decide) (by unfold Warp.mayAccess; decide) rfl rfl
  obtain ⟨r, u, l, ends, unchanged, hu, same, -⟩ := loads (strayReaches .load (.inr rfl)) (by decide) rfl
  have priv : u.priv = true := by rw [same]; rfl
  have home : Outcome.byte (exec (.ld .b32 3 0 127 none) strayState) 0 = 5 := by decide +kernel
  rw [ends, Outcome.byte, State.byte_complete_of_priv hu priv, unchanged 0 (.inr (.inl rfl))] at home
  exact absurd home (by decide)

end Sys2Proof.Machine
end

section
/-!
PROOFS. Local memory (05 R121, R122, 22 R378, 24 R425): what bytes a write leaves, which registers a landing load writes, and the
values of each type.
-/

namespace Sys2Proof.Machine
open Sys2Proof

/-! ### Bytes of a region -/

/-- A byte after a write of consecutive bytes. -/
theorem mfind_placed (l : List Byte) (pa : Nat) (m : SMap Byte) (x : Nat) :
    mfind ((placed pa l).foldl (fun m e => mput m e.1 e.2) m) x = if pa ≤ x ∧ x < pa + l.length then l[x - pa]? else mfind m x := by
  have general : ∀ n m, mfind (((l.zipIdx n).map fun e => (pa + e.2, e.1)).foldl (fun m e => mput m e.1 e.2) m) x =
      if pa + n ≤ x ∧ x < pa + n + l.length then l[x - (pa + n)]? else mfind m x := by
    induction l with
    | nil => intro n m; exact (if_neg (by simp)).symm
    | cons b r ih =>
      intro n m
      rw [List.zipIdx_cons, List.map_cons, List.foldl_cons, ih]
      by_cases first : x = pa + n
      · subst first
        rw [if_neg (by omega), if_pos (by simp), mfind_mput_same]
        simp
      · rw [mfind_mput_ne _ _ first]
        by_cases rest : pa + (n + 1) ≤ x ∧ x < pa + (n + 1) + r.length
        · rw [if_pos rest, if_pos (by rw [List.length_cons]; omega), show x - (pa + n) = x - (pa + (n + 1)) + 1 by omega,
            List.getElem?_cons_succ]
        · rw [if_neg rest, if_neg (by rw [List.length_cons]; omega)]
  exact general 0 m

/-- The byte at a key, of any gang. -/
def State.keyByte (s : State) (x : Nat) : Byte := (mfind s.lmem x).getD (Config.freeByte x)

theorem State.localByte_eq (s : State) (g o : Nat) : s.localByte g o = s.keyByte (localKey g o) := rfl

@[simp] theorem State.dropLatches_lmem (s : State) (p : Latch → Bool) : (s.dropLatches p).lmem = s.lmem := by
  unfold State.dropLatches
  split <;> rfl

/-- A write reaches its own bytes alone. -/
theorem State.keyByte_localPoke (s : State) (g o : Nat) (l : List Byte) (x : Nat) : (s.localPoke g o l).keyByte x =
    if localKey g o ≤ x ∧ x < localKey g o + l.length then l.getD (x - localKey g o) 0 else s.keyByte x := by
  rw [State.keyByte, State.localPoke, State.dropLatches_lmem, mfind_placed]
  split
  · next within =>
    rw [List.getElem?_eq_getElem (by omega), List.getD_eq_getElem?_getD, List.getElem?_eq_getElem (by omega)]
    rfl
  · rfl

/-- Nothing differs but local memory and operand latches (09 R202). -/
def State.localChange (s v : State) : Prop := v = { s with lmem := v.lmem, cores := v.cores } ∧ s.onlyLatches v

theorem State.localChange_refl (s : State) : s.localChange s := ⟨rfl, fun _ => rfl⟩

theorem State.localChange_trans {s t v : State} (h : s.localChange t) (h' : t.localChange v) : s.localChange v := by
  obtain ⟨shape, latches⟩ := h
  obtain ⟨shape', latches'⟩ := h'
  refine ⟨?_, fun k => ?_⟩
  · obtain ⟨l, c, rfl⟩ : ∃ l c, t = { s with lmem := l, cores := c } := ⟨_, _, shape⟩
    exact shape'
  · rw [latches' k, latches k]

theorem State.localChange_localPoke (s : State) (g o : Nat) (l : List Byte) : s.localChange (s.localPoke g o l) := by
  unfold State.localPoke State.dropLatches
  simp only
  split
  · refine ⟨rfl, fun k => ?_⟩
    simp only [State.core, mget, mfind_mmap]
    cases mfind s.cores k with
    | none => rfl
    | some x =>
      simp only [Option.map_some, Option.getD_some]
      split <;> rfl
  · exact ⟨rfl, fun _ => rfl⟩

/-! ### Writes of the lanes -/

/-- Bytes that no write of a list touches stay. -/
theorem State.keyByte_localWrites (g x : Nat) (l : List (Nat × List Byte)) (s : State)
    (h : ∀ e ∈ l, x < localKey g e.1 ∨ localKey g e.1 + e.2.length ≤ x) : (s.localWrites g l).keyByte x = s.keyByte x := by
  induction l generalizing s with
  | nil => rfl
  | cons e r ih =>
    have stays : (s.localPoke g e.1 e.2).keyByte x = s.keyByte x := by
      rw [State.keyByte_localPoke, if_neg (by have := h e List.mem_cons_self; omega)]
    exact (ih _ fun y hy => h y (List.mem_cons_of_mem _ hy)).trans stays

/-- A write that no later one touches stands. -/
theorem State.keyByte_localWrites_of_last (g k : Nat) (front back : List (Nat × List Byte)) (e : Nat × List Byte) (s : State)
    (hk : k < e.2.length)
    (h : ∀ y ∈ back, localKey g e.1 + k < localKey g y.1 ∨ localKey g y.1 + y.2.length ≤ localKey g e.1 + k) :
    (s.localWrites g (front ++ e :: back)).keyByte (localKey g e.1 + k) = e.2.getD k 0 := by
  have split : s.localWrites g (front ++ e :: back) = (((s.localWrites g front).localPoke g e.1 e.2).localWrites g back) :=
    List.foldl_append
  rw [split, State.keyByte_localWrites _ _ _ _ h, State.keyByte_localPoke, if_pos (by omega)]
  congr 1
  omega

theorem State.localChange_localWrites (g : Nat) (l : List (Nat × List Byte)) (s : State) : s.localChange (s.localWrites g l) :=
  foldl_rel State.localChange_refl (fun h h' => State.localChange_trans h h') (f := fun s (e : Nat × List Byte) => s.localPoke g e.1 e.2)
    (fun s _ => s.localChange_localPoke g _ _) l s

/-- The lanes of a set, around one of them. -/
theorem lanesOf_split {s : LaneSet} {i : Nat} (h64 : i < 64) (hs : s.getLsbD i = true) :
    ∃ front back, lanesOf s = front ++ i :: back ∧ ∀ j ∈ back, i < j ∧ s.getLsbD j = true := by
  obtain ⟨front, back, split⟩ := List.append_of_mem ((mem_lanesOf s i).mpr ⟨h64, hs⟩)
  have rising := lanesOf_rising s
  rw [split] at rising
  refine ⟨front, back, split, fun j hj => ⟨(List.pairwise_cons.1 (List.pairwise_append.1 rising).2.1).1 j hj, ?_⟩⟩
  exact ((mem_lanesOf s j).mp (by rw [split]; simp [hj])).2

/-! ### Registers of a landing load -/

/-- The words of one lane, landed. -/
theorem mget_regWords {lane j : Nat} (hl : lane < 64) (hj : j < 64) (l : List Word) (reg r : Nat) (m : SMap Word) :
    mget 0 ((regWords reg lane l).foldl (fun m x => mset 0 m (64 * x.reg + x.lane) x.value) m) (64 * r + j) =
      if j = lane ∧ reg ≤ r ∧ r < reg + l.length then l.getD (r - reg) 0 else mget 0 m (64 * r + j) := by
  have general : ∀ n m, mget 0 (((l.zipIdx n).map fun e => ({ reg := reg + e.2, lane := lane, value := e.1 } : LoadReg)).foldl
      (fun m x => mset 0 m (64 * x.reg + x.lane) x.value) m) (64 * r + j) =
      if j = lane ∧ reg + n ≤ r ∧ r < reg + n + l.length then l.getD (r - (reg + n)) 0 else mget 0 m (64 * r + j) := by
    induction l with
    | nil => intro n m; exact (if_neg (by simp)).symm
    | cons x rest ih =>
      intro n m
      rw [List.zipIdx_cons, List.map_cons, List.foldl_cons, ih]
      by_cases first : 64 * r + j = 64 * (reg + n) + lane
      · obtain ⟨rfl, rfl⟩ : j = lane ∧ r = reg + n := by omega
        rw [if_neg (by omega), if_pos (by simp), mget_mset_same]
        simp
      · rw [mget_mset_ne _ _ _ first]
        by_cases later : j = lane ∧ reg + (n + 1) ≤ r ∧ r < reg + (n + 1) + rest.length
        · rw [if_pos later, if_pos (by rw [List.length_cons]; omega), show r - (reg + n) = r - (reg + (n + 1)) + 1 by omega,
            List.getD_cons_succ]
        · rw [if_neg later, if_neg (by rw [List.length_cons]; omega)]
  exact general 0 m

/-- The words of several lanes, each of as many registers. -/
theorem mget_lanes {n j : Nat} (hj : j < 64) {f : Nat → List Word} (reg r : Nat) (lanes : List Nat)
    (h64 : ∀ i ∈ lanes, i < 64) (hf : ∀ i ∈ lanes, (f i).length = n) (m : SMap Word) :
    mget 0 ((lanes.flatMap fun i => regWords reg i (f i)).foldl (fun m x => mset 0 m (64 * x.reg + x.lane) x.value) m) (64 * r + j) =
      if j ∈ lanes ∧ reg ≤ r ∧ r < reg + n then (f j).getD (r - reg) 0 else mget 0 m (64 * r + j) := by
  induction lanes generalizing m with
  | nil => exact (if_neg (by simp)).symm
  | cons i rest ih =>
    rw [List.flatMap_cons, List.foldl_append, ih (fun x hx => h64 x (List.mem_cons_of_mem _ hx))
      (fun x hx => hf x (List.mem_cons_of_mem _ hx)), mget_regWords (h64 i List.mem_cons_self) hj, hf i List.mem_cons_self]
    by_cases here : j = i
    · subst here
      simp only [List.mem_cons, true_or, true_and]
      by_cases within : reg ≤ r ∧ r < reg + n
      · rw [if_pos within]
        exact ite_self _
      · rw [if_neg within, if_neg fun h => within h.2]
    · simp only [List.mem_cons, here, false_or, false_and, if_false]

/-- An outstanding load whose data have come for lanes of a set. -/
def LoadOp.brings (l : LoadOp) (w : Warp) (lanes : LaneSet) (d : VReg) (f : Nat → List Word) : Prop :=
  l.ready = (lanesOf lanes).flatMap fun i => regWords (w.allocated d.toNat) i (f i)

section Landing
variable {w : Warp} {l : LoadOp} {lanes : LaneSet} {d : VReg} {f : Nat → List Word} {n : Nat}
  (h : l.brings w lanes d f) (hn : ∀ i, (f i).length = n)
include h hn

/-- Its registers, landed. -/
theorem Warp.v_land (m : Nat) {j : Nat} (hj : j < 64) : (w.land l).v m j =
    if d.toNat ≤ m ∧ m < d.toNat + n ∧ lanes.getLsbD j = true then (f j).getD (m - d.toNat) 0 else w.v m j := by
  have lands := mget_lanes (n := n) hj (w.allocated d.toNat) (w.allocated m) (lanesOf lanes)
    (fun i hi => ((mem_lanesOf lanes i).mp hi).1) (fun i _ => hn i) w.vregs
  rw [← h] at lands
  refine lands.trans ?_
  simp only [mem_lanesOf, hj, true_and, Warp.allocated]
  by_cases within : d.toNat ≤ m ∧ m < d.toNat + n ∧ lanes.getLsbD j = true
  · rw [if_pos within, if_pos (by simp [within.2.2]; omega)]
    congr 1
    omega
  · rw [if_neg within, if_neg fun hc => within ⟨by omega, by omega, hc.1⟩]
    rfl

/-- No register below the window is one of them. -/
theorem Warp.sameBelow_land : w.sameBelow (w.land l) := by
  intro k hk
  have lands := mget_lanes (n := n) (j := k % 64) (Nat.mod_lt _ (by omega)) (w.allocated d.toNat) (k / 64) (lanesOf lanes)
    (fun i hi => ((mem_lanesOf lanes i).mp hi).1) (fun i _ => hn i) w.vregs
  rw [← h, Nat.div_add_mod] at lands
  refine lands.trans (if_neg fun hc => ?_)
  have : w.allocated d.toNat = w.vwb + d.toNat := rfl
  omega

end Landing

/-! ### The values of a type (R72, R378) -/

theorem leNat_lt (l : List Byte) : leNat l < 256 ^ l.length := by
  induction l with
  | nil => decide
  | cons b r ih =>
    have byte := b.isLt
    change b.toNat + 256 * leNat r < 256 ^ (r.length + 1)
    rw [Nat.pow_succ]
    omega


/-- A sign-extended value of n bits. -/
theorem toNat_signExtend_word {n x : Nat} (h32 : n ≤ 32) (hx : x < 2 ^ n) :
    ((((BitVec.ofNat n x).signExtend 32).toNat : ℕ) : ℤ) =
      if 2 ^ (n - 1) ≤ x then (x : ℤ) - 2 ^ n + 2 ^ 32 else (x : ℤ) := by
  have small : x < 2 ^ 32 := lt_of_lt_of_le hx (Nat.pow_le_pow_right (by decide) h32)
  have sign : (BitVec.ofNat n x).msb = decide (2 ^ (n - 1) ≤ x) := by
    rw [BitVec.msb_eq_decide, BitVec.toNat_ofNat, Nat.mod_eq_of_lt hx]
  rw [BitVec.toNat_signExtend, sign, BitVec.toNat_setWidth, BitVec.toNat_ofNat, Nat.mod_eq_of_lt hx, Nat.mod_eq_of_lt small]
  have le : 2 ^ n ≤ 2 ^ 32 := Nat.pow_le_pow_right (by decide) h32
  by_cases neg : 2 ^ (n - 1) ≤ x
  · rw [if_pos (by simpa using neg), if_pos neg]
    have cast : ((2 ^ n : ℕ) : ℤ) = 2 ^ n := Nat.cast_pow 2 n
    rw [← cast]
    omega
  · rw [if_neg (by simpa using neg), if_neg neg, Nat.add_zero]

/-- A type of one register, without a sign. -/
theorem word_of_single {l : List Byte} {k : Nat} {y : Word} (h : ([BitVec.ofNat 32 (leNat l)] : List Word)[k]? = some y) :
    y.toNat = leNat l / 2 ^ (32 * k) % 2 ^ 32 := by
  match k with
  | 0 =>
    obtain rfl := Option.some.inj h
    simp
  | k + 1 => simp at h

/-- A sign-extended type. -/
theorem word_of_signed {l : List Byte} {n k : Nat} {y : Word} (hle : n ≤ 4) (hl : l.length = n)
    (h : ([(BitVec.ofNat (8 * n) (leNat l)).signExtend 32] : List Word)[k]? = some y) : (y.toNat : ℤ) =
      if 2 ^ (8 * n - 1) ≤ leNat l then (leNat l : ℤ) - 2 ^ (8 * n) + 2 ^ 32 else ((leNat l / 2 ^ (32 * k) % 2 ^ 32 : ℕ) : ℤ) := by
  have lt : leNat l < 2 ^ (8 * n) := by
    have := leNat_lt l
    rwa [hl, show (256 : Nat) = 2 ^ 8 from rfl, ← Nat.pow_mul] at this
  match k with
  | 0 =>
    obtain rfl := Option.some.inj h
    rw [toNat_signExtend_word (by omega) lt, Nat.mul_zero, Nat.pow_zero, Nat.div_one,
      Nat.mod_eq_of_lt (lt_of_lt_of_le lt (Nat.pow_le_pow_right (by decide) (by omega)))]
  | k + 1 => simp at h

/-- What a type of n bytes loads: so many registers, and their values. -/
def LoadsWords (e : Ty × Nat) : Prop :=
  tyBytes e.1 = e.2 ∧ e.1.isRegType = true ∧ e.1.regs = (e.2 + 3) / 4 ∧ ∀ l : List Byte, l.length = e.2 →
    let x := leNat l
    (loadWords e.1 l).length = e.1.regs ∧ ∀ k y, (loadWords e.1 l)[k]? = some y → (y.toNat : ℤ) =
      if (e.1 = .i8 ∨ e.1 = .i16) ∧ 2 ^ (8 * e.2 - 1) ≤ x then (x : ℤ) - 2 ^ (8 * e.2) + 2 ^ 32
      else ((x / 2 ^ (32 * k) % 2 ^ 32 : ℕ) : ℤ)

/-- A type without a sign, from the value of each word. -/
theorem loadsWords_of {t : Ty} {n : Nat} (sizes : tyBytes t = n ∧ t.isRegType = true ∧ t.regs = (n + 3) / 4)
    (plain : ¬(t = .i8 ∨ t = .i16)) (h : ∀ l : List Byte, (loadWords t l).length = t.regs ∧
      ∀ (k : Nat) y, (loadWords t l)[k]? = some y → y.toNat = leNat l / 2 ^ (32 * k) % 2 ^ 32) : LoadsWords (t, n) := by
  obtain ⟨bytes, reg, regs⟩ := sizes
  refine ⟨bytes, reg, regs, fun l _ => ⟨(h l).1, fun k y hy => ?_⟩⟩
  rw [if_neg fun hc => plain hc.1, (h l).2 k y hy]

/-- One register. -/
theorem loadsWords_single {t : Ty} {n : Nat} (sizes : tyBytes t = n ∧ t.isRegType = true ∧ t.regs = (n + 3) / 4)
    (plain : ¬(t = .i8 ∨ t = .i16)) (one : t.regs = 1) (h : ∀ l, loadWords t l = [BitVec.ofNat 32 (leNat l)]) : LoadsWords (t, n) :=
  loadsWords_of sizes plain fun l => by
    rw [h l]
    exact ⟨one.symm, fun k y hy => word_of_single hy⟩

/-- Two registers. -/
theorem loadsWords_double {t : Ty} (sizes : tyBytes t = 8 ∧ t.isRegType = true ∧ t.regs = 2) (plain : ¬(t = .i8 ∨ t = .i16))
    (h : ∀ l, loadWords t l = [BitVec.ofNat 32 (leNat l), BitVec.ofNat 32 (leNat l / 2 ^ 32)]) : LoadsWords (t, 8) :=
  loadsWords_of sizes plain fun l => by
    rw [h l]
    refine ⟨sizes.2.2.symm, fun k y hy => ?_⟩
    match k with
    | 0 => obtain rfl := Option.some.inj hy; simp
    | 1 => obtain rfl := Option.some.inj hy; exact BitVec.toNat_ofNat _ _
    | k + 2 => simp at hy

/-- Four registers. -/
theorem loadsWords_quad : LoadsWords (.b128, 16) :=
  loadsWords_of ⟨rfl, rfl, rfl⟩ (by decide) fun l => by
    refine ⟨rfl, fun k y hy => ?_⟩
    match k with
    | 0 => obtain rfl := Option.some.inj hy; simp
    | 1 | 2 | 3 => obtain rfl := Option.some.inj hy; exact BitVec.toNat_ofNat _ _
    | k + 4 => simp [loadWords] at hy

/-- One register with a sign. -/
theorem loadsWords_signed {t : Ty} {n : Nat} (sizes : tyBytes t = n ∧ t.isRegType = true ∧ t.regs = (n + 3) / 4)
    (signed : t = .i8 ∨ t = .i16) (hn : n ≤ 4) (one : t.regs = 1)
    (h : ∀ l, loadWords t l = [(BitVec.ofNat (8 * n) (leNat l)).signExtend 32]) : LoadsWords (t, n) := by
  obtain ⟨bytes, reg, regs⟩ := sizes
  refine ⟨bytes, reg, regs, fun l hl => ?_⟩
  simp only [h l]
  refine ⟨one.symm, fun k y hy => (word_of_signed hn hl hy).trans ?_⟩
  by_cases neg : 2 ^ (8 * n - 1) ≤ leNat l
  · rw [if_pos neg, if_pos ⟨signed, neg⟩]
  · rw [if_neg neg, if_neg fun hc => neg hc.2]

/-- Every type of a register. -/
theorem loadsWords_all : ∀ e ∈ [(Ty.b8, 1), (.i8, 1), (.n8, 1), (.b16, 2), (.i16, 2), (.n16, 2), (.f16, 2), (.bf16, 2), (.b32, 4),
    (.i32, 4), (.n32, 4), (.f32, 4), (.f16x2, 4), (.bf16x2, 4), (.b64, 8), (.i64, 8), (.n64, 8), (.b128, 16)], LoadsWords e := by
  have single : ∀ e ∈ [(Ty.b8, 1), (.n8, 1), (.b16, 2), (.n16, 2), (.f16, 2), (.bf16, 2), (.b32, 4), (.i32, 4), (.n32, 4), (.f32, 4),
      (.f16x2, 4), (.bf16x2, 4)], LoadsWords e := by
    simp only [List.forall_mem_cons]
    refine ⟨?_, ?_, ?_, ?_, ?_, ?_, ?_, ?_, ?_, ?_, ?_, ?_, fun _ h => absurd h List.not_mem_nil⟩
    all_goals exact loadsWords_single (by decide) (by decide) rfl fun _ => rfl
  have double : ∀ e ∈ [(Ty.b64, 8), (.i64, 8), (.n64, 8)], LoadsWords e := by
    simp only [List.forall_mem_cons]
    refine ⟨?_, ?_, ?_, fun _ h => absurd h List.not_mem_nil⟩
    all_goals exact loadsWords_double (by decide) (by decide) fun _ => rfl
  have i8 : LoadsWords (.i8, 1) := loadsWords_signed (by decide) (.inl rfl) (by decide) rfl fun _ => rfl
  have i16 : LoadsWords (.i16, 2) := loadsWords_signed (by decide) (.inr rfl) (by decide) rfl fun _ => rfl
  simp only [List.forall_mem_cons] at single double ⊢
  obtain ⟨b8, n8, b16, n16, f16, bf16, b32, i32, n32, f32, f16x2, bf16x2, none⟩ := single
  obtain ⟨b64, i64, n64, -⟩ := double
  exact ⟨b8, i8, n8, b16, i16, n16, f16, bf16, b32, i32, n32, f32, f16x2, bf16x2, b64, i64, n64, loadsWords_quad, none⟩

/-- The bytes of registers, in their order. -/
theorem digit_of_words (l : List Word) (k : Nat) (hk : k / 4 < l.length) :
    BitVec.ofNat 8 (l.foldr (fun w acc => w.toNat + 2 ^ 32 * acc) 0 / 256 ^ k) =
      BitVec.ofNat 8 ((l.getD (k / 4) 0).toNat / 256 ^ (k % 4)) := by
  induction l generalizing k with
  | nil => simp at hk
  | cons x r ih =>
    have lt := x.isLt
    rw [List.foldr_cons]
    generalize r.foldr (fun w acc => w.toNat + 2 ^ 32 * acc) 0 = rest at ih ⊢
    by_cases first : k < 4
    · have low : k = 0 ∨ k = 1 ∨ k = 2 ∨ k = 3 := by omega
      apply BitVec.eq_of_toNat_eq
      rw [BitVec.toNat_ofNat, BitVec.toNat_ofNat]
      rcases low with rfl | rfl | rfl | rfl <;> simp <;> omega
    · obtain ⟨j, rfl⟩ : ∃ j, k = j + 4 := ⟨k - 4, by omega⟩
      have tail := ih j (by rw [List.length_cons] at hk; omega)
      have index : (j + 4) / 4 = j / 4 + 1 := by omega
      rw [index, Nat.add_mod_right, List.getD_cons_succ, ← tail, Nat.pow_add, Nat.mul_comm (256 ^ j), ← Nat.div_div_eq_div_mul]
      congr 2
      omega

theorem tyBytes_le (t : Ty) (h : t.isRegType = true) : 0 < tyBytes t ∧ tyBytes t ≤ 4 * t.regs := by
  cases t <;> revert h <;> decide

/-- The bytes that a lane stores. -/
theorem storeBytes_getD {t : Ty} (ht : t.isRegType = true) (l : List Word) (hl : l.length = t.regs) {k : Nat} (hk : k < tyBytes t) :
    (storeBytes t l).getD k 0 = BitVec.ofNat 8 ((l.getD (k / 4) 0).toNat / 256 ^ (k % 4)) := by
  have := tyBytes_le t ht
  rw [storeBytes, leBytes, List.getD_eq_getElem?_getD, List.getElem?_map, List.getElem?_range hk]
  exact digit_of_words l k (by omega)

/-! ### `ld` and `st` of local memory -/

/-- A memory instruction that takes no place in the load counter waits for no room there. -/
theorem awaits_uncounted {n : Needs} {w : Warp} {lanes : LaneSet} (h : w.free n.names) (ha : w.mayAccess lanes)
    (hc : n.counted = false) : n.awaits w lanes = [] := by
  unfold Needs.awaits
  rw [hc]
  simp only [Bool.false_and, Bool.false_eq_true, if_false, List.append_nil, List.filter_eq_nil_iff]
  intro l hl
  simp only [Bool.or_eq_true, List.any_eq_true, Bool.and_eq_true, not_or, not_exists, not_and]
  refine ⟨fun x hx => ?_, fun _ => ?_⟩
  · rw [(h x hx).2 l hl]
    exact Bool.false_ne_true
  · cases hq : l.acquire with
    | none => simp
    | some a => simp [ha l hl a hq]

section LocalAccess
variable {s : State} {c : Cur} {w : Warp} {t : Ty} {d : VReg} {a : SReg} {b : VReg} {e : MemExt} (h : Issues s c w)
  (hf : w.free (groupNames d t.regs ++ offsetNames b)) (ha : w.mayAccess c.lanes) (hl : e.inLocal = true)
  (placed : s.localFault w (tyBytes t) (w.addrs c.lanes a b e (tyBytes t)) = none)
include h hf ha hl placed

/-- A load of local memory whose lanes pass their checks (R121). -/
theorem ends_ld_local (room : w.loads.length < 31) : Ends (.ld t d a b (some e)) s c (s.addLocal c.warp (w.dests d t.regs)
    ((lanesOf c.lanes).flatMap fun i => regWords (w.allocated d.toNat) i
      (loadWords t (s.localBytes w.gang (w.addr a b e (tyBytes t) i).toNat (tyBytes t))))) := by
  have islocal : (extOf (some e)).inLocal = true := hl
  rw [Ends, exec_ld h ha room d a b (some e) hf, if_pos islocal, State.ldLocal]
  simp only [show extOf (some e) = e from rfl, placed]
  rw [Warp.addrs, List.flatMap_map]
  rfl

/-- A store to it. -/
theorem ends_st_local (room : w.storesFull = false) : Ends (.st t d a b (some e)) s c (s.localWrites w.gang
    ((lanesOf c.lanes).map fun i => ((w.addr a b e (tyBytes t) i).toNat,
      storeBytes t ((List.range t.regs).map fun k => w.v (d.toNat + k) i)))) := by
  have islocal : (extOf (some e)).inLocal = true := hl
  have checked : (memNeeds (groupNames d t.regs) b false).check w = none := uses_check hf
  have body := run_of h checked (awaits_uncounted hf ha rfl) fun c w =>
    if w.storesFull then .stop s .scoreboard
    else if (extOf (some e)).inLocal then s.stLocal c w t d b a (extOf (some e))
    else s.stGlobal c w t d b a (extOf (some e))
  refine Eq.trans body ?_
  rw [room, if_neg Bool.false_ne_true, if_pos islocal, State.stLocal]
  simp only [show extOf (some e) = e from rfl, placed]
  rw [Warp.addrs, List.map_map]
  rfl

end LocalAccess

@[simp] theorem leBytes_length (n x : Nat) : (leBytes n x).length = n := by simp [leBytes]

theorem localBytes_length (s : State) (g o n : Nat) : (s.localBytes g o n).length = n := by simp [State.localBytes]

/-- The registers of a load, of a register type. -/
theorem loadWords_length {t : Ty} (l : List Byte) : (loadWords t l).length = t.regs := by
  cases t <;> rfl

/-- The new outstanding load of an operation on local memory (06 R143). -/
theorem State.addLocal_eq {s : State} {k : Nat} {w : Warp} (h : s.warp k = some w) (dests : List Nat) (ready : List LoadReg) :
    s.addLocal k dests ready = ({ s with nextId := s.nextId + 1 } : State).setWarp k { w with loads := w.loads ++
      [{ id := s.nextId, dests := dests, ready := ready, waiting := [], cvtmode := w.cvtmode, acquire := none, kinds := 0,
         lost := none }] } := by
  have warp : ({ s with nextId := s.nextId + 1 } : State).warp k = some w := h
  exact State.onWarp_some _ warp

/-- Settles O19: a load lands its lanes' bytes; of a store, a lane's write that no later one touches stands. -/
theorem localLoadStore : Obligations.LocalLoadStore := by
  unfold Obligations.LocalLoadStore
  refine ⟨loadsWords_all, fun s c w t d a b e h hf ha hl ht => ?_⟩
  intro n at_ placed
  refine ⟨fun room => ?_, fun room => ?_⟩
  · have ends := ends_ld_local h hf ha hl placed room
    rw [State.addLocal_eq h.warp] at ends
    refine ⟨_, _, _, ends, rfl, State.warp_setWarp_same _ _ _, rfl, rfl, ?_, ?_, fun m i hi => ?_⟩
    · rw [Warp.dests, groupNames, List.map_map]
      rfl
    · refine Warp.sameBelow_land (d := d) (lanes := c.lanes) (f := fun i => loadWords t (s.localBytes w.gang (at_ i) n)) ?_ fun i => loadWords_length _
      rfl
    · refine Warp.v_land (f := fun i => loadWords t (s.localBytes w.gang (at_ i) n)) ?_ (fun i => loadWords_length _) m hi
      rfl
  · obtain ⟨shape, latches⟩ := s.localChange_localWrites w.gang ((lanesOf c.lanes).map fun i =>
      (at_ i, storeBytes t ((List.range t.regs).map fun k => w.v (d.toNat + k) i)))
    have sizes : ∀ i, (storeBytes t ((List.range t.regs).map fun k => w.v (d.toNat + k) i)).length = n :=
      fun i => leBytes_length _ _
    refine ⟨_, ends_st_local h hf ha hl placed room, shape, latches, fun i k hi hk executes last => ?_, fun g o apart => ?_⟩
    · obtain ⟨front, back, split, later⟩ := lanesOf_split hi executes
      rw [State.localByte_eq, split, List.map_append, List.map_cons, localKey, ← Nat.add_assoc]
      rw [← localKey, State.keyByte_localWrites_of_last (e := (at_ i, _)) _ _ _ _ _ (by rw [sizes]; exact hk)]
      · rw [storeBytes_getD ht _ (by simp) hk, List.getD_eq_getElem?_getD, List.getElem?_map,
          List.getElem?_range (by have := (tyBytes_le t ht).2; omega)]
        rfl
      · intro y hy
        obtain ⟨j, hj, rfl⟩ := List.mem_map.mp hy
        have := last j (later j hj).1 (later j hj).2
        simp only [sizes, localKey, n, at_] at this ⊢
        omega
    · refine State.keyByte_localWrites _ _ _ _ fun y hy => ?_
      obtain ⟨i, hi, rfl⟩ := List.mem_map.mp hy
      have := apart i ((mem_lanesOf _ i).mp hi).2
      simp only [sizes, localKey, n, at_] at this ⊢
      omega

end Sys2Proof.Machine
end

section
/-!
PROOFS. Atomics of local memory (05 R121, R122, 21 R312, 23 R409) and the operations' values (11 R222).
-/

namespace Sys2Proof.Machine
open Sys2Proof

/-! ### Updates of local memory -/

/-- The word of n bytes at a key, as a number. -/
def State.localWord (s : State) (g n : Nat) (o : Xword) : Xword := BitVec.ofNat 64 (leNat (s.localBytes g o.toNat n))

theorem State.localWord_congr {s t : State} {g n : Nat} {o : Xword}
    (h : ∀ k, k < n → t.keyByte (localKey g o.toNat + k) = s.keyByte (localKey g o.toNat + k)) :
    t.localWord g n o = s.localWord g n o := by
  have bytes : t.localBytes g o.toNat n = s.localBytes g o.toNat n :=
    List.map_congr_left fun k hk => by
      rw [State.localByte_eq, State.localByte_eq, localKey, ← Nat.add_assoc]
      exact h k (List.mem_range.mp hk)
  rw [State.localWord, State.localWord, bytes]

/-- One update and then the rest. -/
theorem State.localUpdates_cons (s : State) (g n : Nat) (e : Nat × Xword) (l : List (Nat × Xword)) (f : Nat → Xword → Xword) :
    let t := s.localPoke g e.2.toNat (leBytes n (f e.1 (s.localWord g n e.2)).toNat)
    s.localUpdates g n (e :: l) f = ((t.localUpdates g n l f).1, (e.1, s.localWord g n e.2) :: (t.localUpdates g n l f).2) := by
  have general : ∀ (l : List (Nat × Xword)) (t : State) (acc : List (Nat × Xword)),
      l.foldl (fun r e => let q := r.1.localUpdate g e.2.toNat n (f e.1); (q.1, r.2 ++ [(e.1, q.2)])) (t, acc) =
        ((t.localUpdates g n l f).1, acc ++ (t.localUpdates g n l f).2) := by
    intro l
    induction l with
    | nil => intro t acc; simp [State.localUpdates]
    | cons x r ih =>
      intro t acc
      rw [State.localUpdates, List.foldl_cons, ih, List.foldl_cons, ih]
      simp
  exact general l _ [(e.1, s.localWord g n e.2)]

/-- Two words of one region that share no byte. -/
def wordsApart (n : Nat) (x y : Nat × Xword) : Prop := x.2.toNat + n ≤ y.2.toNat ∨ y.2.toNat + n ≤ x.2.toNat

/-- Updates of words that share no byte: each finds and replaces its own. -/
theorem State.localUpdates_spec {g n : Nat} {f : Nat → Xword → Xword} (l : List (Nat × Xword)) (s : State)
    (apart : l.Pairwise (wordsApart n)) :
    (s.localUpdates g n l f).2 = l.map (fun e => (e.1, s.localWord g n e.2)) ∧
    (∀ e ∈ l, ∀ k, k < n → (s.localUpdates g n l f).1.keyByte (localKey g e.2.toNat + k) =
      BitVec.ofNat 8 ((f e.1 (s.localWord g n e.2)).toNat / 256 ^ k)) ∧
    ∀ x, (∀ e ∈ l, x < localKey g e.2.toNat ∨ localKey g e.2.toNat + n ≤ x) →
      (s.localUpdates g n l f).1.keyByte x = s.keyByte x := by
  induction l generalizing s with
  | nil => exact ⟨rfl, fun _ he => absurd he List.not_mem_nil, fun _ _ => rfl⟩
  | cons e r ih =>
    obtain ⟨first, rest⟩ := List.pairwise_cons.mp apart
    rw [State.localUpdates_cons]
    obtain ⟨t, ht⟩ : ∃ t, t = s.localPoke g e.2.toNat (leBytes n (f e.1 (s.localWord g n e.2)).toNat) := ⟨_, rfl⟩
    have byte : ∀ x, t.keyByte x = if localKey g e.2.toNat ≤ x ∧ x < localKey g e.2.toNat + n then
        (leBytes n (f e.1 (s.localWord g n e.2)).toNat).getD (x - localKey g e.2.toNat) 0 else s.keyByte x := fun x => by
      rw [ht, State.keyByte_localPoke, leBytes_length]
    have stays : ∀ x, (x < localKey g e.2.toNat ∨ localKey g e.2.toNat + n ≤ x) → t.keyByte x = s.keyByte x :=
      fun x hx => (byte x).trans (if_neg (by omega))
    have same : ∀ y ∈ r, t.localWord g n y.2 = s.localWord g n y.2 := fun y hy => State.localWord_congr fun k hk => stays _ (by
      have := first y hy
      unfold wordsApart at this
      unfold localKey
      omega)
    rw [← ht]
    obtain ⟨olds, bytes, frame⟩ := ih t rest
    refine ⟨?_, ?_, fun x hx => ?_⟩
    · rw [List.map_cons, olds, List.map_congr_left fun y hy => by rw [same y hy]]
    · intro y hy k hk
      rcases List.mem_cons.mp hy with rfl | later
      · have untouched : ∀ z ∈ r, localKey g y.2.toNat + k < localKey g z.2.toNat ∨ localKey g z.2.toNat + n ≤ localKey g y.2.toNat + k :=
          fun z hz => by
            have := first z hz
            unfold wordsApart at this
            unfold localKey
            omega
        rw [frame _ untouched, byte, if_pos (by omega), Nat.add_sub_cancel_left, leBytes, List.getD_eq_getElem?_getD,
          List.getElem?_map, List.getElem?_range hk]
        rfl
      · rw [bytes y later k hk, same y later]
    · rw [frame x fun y hy => hx y (List.mem_cons_of_mem _ hy), stays x (hx e List.mem_cons_self)]

theorem State.localChange_localUpdates (g n : Nat) (f : Nat → Xword → Xword) (l : List (Nat × Xword)) (s : State) :
    s.localChange (s.localUpdates g n l f).1 := by
  induction l generalizing s with
  | nil => exact s.localChange_refl
  | cons e r ih =>
    rw [State.localUpdates_cons]
    exact State.localChange_trans (s.localChange_localPoke g _ _) (ih _)

/-! ### The lanes of an atomic -/

/-- A lane that passes the checks of local memory names an aligned word. -/
theorem aligned_of_localFault {s : State} {w : Warp} {n : Nat} {l : List (Nat × Xword)} (h : s.localFault w n l = none) :
    ∀ e ∈ l, e.2.toNat % n = 0 := by
  intro e he
  rw [State.localFault, List.findSome?_eq_none_iff] at h
  have checked := h e he
  by_contra odd
  split_ifs at checked

/-- Lanes that name different aligned words share no byte. -/
theorem addrs_apart {s : State} {w : Warp} {lanes : LaneSet} {a : SReg} {b : VReg} {e : MemExt} {n : Nat}
    (placed : s.localFault w n (w.addrs lanes a b e n) = none)
    (differ : ∀ l m, lanes.getLsbD l = true → lanes.getLsbD m = true → l ≠ m →
      (w.addr a b e n l).toNat ≠ (w.addr a b e n m).toNat) : (w.addrs lanes a b e n).Pairwise (wordsApart n) := by
  have aligned := aligned_of_localFault placed
  refine List.pairwise_map.mpr ((lanesOf_rising lanes).imp_of_mem fun {l m} hl hm lt => ?_)
  have one := aligned _ (List.mem_map_of_mem (f := fun i => (i, w.addr a b e n i)) hl)
  have two := aligned _ (List.mem_map_of_mem (f := fun i => (i, w.addr a b e n i)) hm)
  have ne := differ l m ((mem_lanesOf _ l).mp hl).2 ((mem_lanesOf _ m).mp hm).2 (Nat.ne_of_lt lt)
  simp only [wordsApart] at one two ⊢
  obtain ⟨p, hp⟩ := Nat.dvd_of_mod_eq_zero one
  obtain ⟨q, hq⟩ := Nat.dvd_of_mod_eq_zero two
  rw [hp, hq] at ne ⊢
  have pq : p ≠ q := fun h => ne (by rw [h])
  rcases Nat.lt_or_gt_of_ne pq with less | more
  · exact .inl (by calc n * p + n = n * (p + 1) := by ring
      _ ≤ n * q := Nat.mul_le_mul_left n less)
  · exact .inr (by calc n * q + n = n * (q + 1) := by ring
      _ ≤ n * p := Nat.mul_le_mul_left n more)

/-- The registers that take an old value. -/
theorem valueWords_length (wide : Bool) (x : Xword) : (valueWords wide x).length = if wide then 2 else 1 := by
  cases wide <;> rfl

section Updates
variable {s : State} {c : Cur} {w : Warp} {a : SReg} {b : VReg} {e : MemExt} {n : Nat} {f : Nat → Xword → Xword}
  (placed : s.localFault w n (w.addrs c.lanes a b e n) = none)
  (differ : ∀ l m, c.lanes.getLsbD l = true → c.lanes.getLsbD m = true → l ≠ m →
    (w.addr a b e n l).toNat ≠ (w.addr a b e n m).toNat)
include placed differ

/-- Local memory after the updates. -/
theorem localUpdates_bytes : let v := (s.localUpdates w.gang n (w.addrs c.lanes a b e n) f).1
    (∀ l k, l < 64 → k < n → c.lanes.getLsbD l = true → v.localByte w.gang ((w.addr a b e n l).toNat + k) =
      BitVec.ofNat 8 ((f l (s.localWord w.gang n (w.addr a b e n l))).toNat / 256 ^ k)) ∧
    ∀ g o, (∀ l, c.lanes.getLsbD l = true → localKey g o < localKey w.gang (w.addr a b e n l).toNat ∨
      localKey w.gang ((w.addr a b e n l).toNat + n) ≤ localKey g o) → v.localByte g o = s.localByte g o := by
  obtain ⟨-, bytes, frame⟩ := State.localUpdates_spec (g := w.gang) (f := f) _ s (addrs_apart placed differ)
  refine ⟨fun l k hl hk executes => ?_, fun g o out => frame _ fun x hx => ?_⟩
  · rw [State.localByte_eq, localKey, ← Nat.add_assoc]
    exact bytes _ (List.mem_map_of_mem ((mem_lanesOf _ l).mpr ⟨hl, executes⟩)) k hk
  · obtain ⟨l, hl, rfl⟩ := List.mem_map.mp hx
    have := out l ((mem_lanesOf _ l).mp hl).2
    unfold localKey at this ⊢
    simp only at this ⊢
    omega

/-- The old values, as words for the lanes' registers. -/
theorem localUpdates_words (wide : Bool) (reg : Nat) : ((s.localUpdates w.gang n (w.addrs c.lanes a b e n) f).2.flatMap fun x =>
    regWords reg x.1 (valueWords wide x.2)) = (lanesOf c.lanes).flatMap fun i =>
      regWords reg i (valueWords wide (s.localWord w.gang n (w.addr a b e n i))) := by
  obtain ⟨olds, -, -⟩ := State.localUpdates_spec (g := w.gang) (f := f) _ s (addrs_apart placed differ)
  rw [olds, Warp.addrs, List.map_map, List.flatMap_map]
  rfl

end Updates

/-- The registers after an old value has landed. -/
theorem Warp.v_land_value {w : Warp} {r : LoadOp} {lanes : LaneSet} {d : VReg} {wide : Bool} {old : Nat → Xword}
    (h : r.brings w lanes d fun i => valueWords wide (old i)) (m : Nat) {l : Nat} (hl : l < 64) : (w.land r).v m l =
      if m = d.toNat ∧ lanes.getLsbD l = true then (old l).setWidth 32
      else if wide = true ∧ m = d.toNat + 1 ∧ lanes.getLsbD l = true then (old l >>> 32).setWidth 32
      else w.v m l := by
  rw [Warp.v_land h (fun i => valueWords_length wide (old i)) m hl]
  cases wide with
  | false =>
    simp only [Bool.false_eq_true, if_false, false_and]
    by_cases low : m = d.toNat ∧ lanes.getLsbD l = true
    · rw [if_pos ⟨by omega, by omega, low.2⟩, if_pos low, low.1, Nat.sub_self]
      rfl
    · rw [if_neg fun h => low ⟨by omega, h.2.2⟩, if_neg low]
  | true =>
    simp only [if_true, true_and]
    by_cases low : m = d.toNat ∧ lanes.getLsbD l = true
    · rw [if_pos ⟨by omega, by omega, low.2⟩, if_pos low, low.1, Nat.sub_self]
      rfl
    · by_cases high : m = d.toNat + 1 ∧ lanes.getLsbD l = true
      · rw [if_pos ⟨by omega, by omega, high.2⟩, if_neg low, if_pos high, high.1, Nat.add_sub_cancel_left]
        rfl
      · rw [if_neg fun h => ?_, if_neg low, if_neg high]
        rcases Nat.lt_or_ge m (d.toNat + 1) with less | more
        · exact low ⟨by omega, h.2.2⟩
        · exact high ⟨by omega, h.2.2⟩

/-! ### The operations (R222) -/

/-- A 32-bit operation, as the low bits of an integer. -/
theorem atomApply_narrow {op : AtomOp} {x y : Xword} {v : Int} (narrow : op.wide = false)
    (h : atom32 op (x.setWidth 32) (y.setWidth 32) = BitVec.ofInt 32 v) :
    atomApply op x y = BitVec.ofNat 64 (v.emod (2 ^ 32)).toNat := by
  rw [atomApply, narrow, if_neg Bool.false_ne_true, h]
  apply BitVec.eq_of_toNat_eq
  rw [BitVec.toNat_setWidth, BitVec.toNat_ofInt, BitVec.toNat_ofNat]
  rfl

theorem ofInt_natCast {n : Nat} (x : Nat) : BitVec.ofInt n (x : Int) = BitVec.ofNat n x := by
  apply BitVec.eq_of_toNat_eq
  rw [BitVec.toNat_ofInt, BitVec.toNat_ofNat, ← Int.natCast_emod, Int.toNat_natCast]

section Order
variable {n : Nat} (p q : BitVec n)

theorem ite_slt_eq_min : (if p.slt q then p else q) = BitVec.ofInt n (min p.toInt q.toInt) := by
  rw [BitVec.slt]
  by_cases h : p.toInt < q.toInt
  · rw [if_pos (by simpa using h), min_eq_left h.le, BitVec.ofInt_toInt]
  · rw [if_neg (by simpa using h), min_eq_right (not_lt.mp h), BitVec.ofInt_toInt]

theorem ite_slt_eq_max : (if q.slt p then p else q) = BitVec.ofInt n (max p.toInt q.toInt) := by
  rw [BitVec.slt]
  by_cases h : q.toInt < p.toInt
  · rw [if_pos (by simpa using h), max_eq_left h.le, BitVec.ofInt_toInt]
  · rw [if_neg (by simpa using h), max_eq_right (not_lt.mp h), BitVec.ofInt_toInt]

theorem ite_ult_eq_min : (if p.ult q then p else q) = BitVec.ofNat n (min p.toNat q.toNat) := by
  rw [BitVec.ult]
  by_cases h : p.toNat < q.toNat
  · rw [if_pos (by simpa using h), min_eq_left h.le, BitVec.ofNat_toNat, BitVec.setWidth_eq]
  · rw [if_neg (by simpa using h), min_eq_right (not_lt.mp h), BitVec.ofNat_toNat, BitVec.setWidth_eq]

theorem ite_ult_eq_max : (if q.ult p then p else q) = BitVec.ofNat n (max p.toNat q.toNat) := by
  rw [BitVec.ult]
  by_cases h : q.toNat < p.toNat
  · rw [if_pos (by simpa using h), max_eq_left h.le, BitVec.ofNat_toNat, BitVec.setWidth_eq]
  · rw [if_neg (by simpa using h), max_eq_right (not_lt.mp h), BitVec.ofNat_toNat, BitVec.setWidth_eq]

/-- Counting up to a bound. -/
theorem ite_ule_eq_inc : (if q.ule p then 0 else p + 1) = BitVec.ofNat n (if q.toNat ≤ p.toNat then 0 else p.toNat + 1) := by
  rw [BitVec.ule]
  by_cases h : q.toNat ≤ p.toNat
  · rw [if_pos (by simpa using h), if_pos h]
    rfl
  · rw [if_neg (by simpa using h), if_neg h, BitVec.ofNat_add, BitVec.ofNat_toNat, BitVec.setWidth_eq]
    rfl

end Order

/-- A sum of halves, each rounded on its own. -/
theorem onHalves_fAdd (f : Fmt) (p q : Word) : onHalves (fun _ a b => fAdd f a b) 0 p q = BitVec.ofNat 32
    (f.rne ((f.value (half p 0)).add (f.value (half q 0))) + 2 ^ 16 * f.rne ((f.value (half p 1)).add (f.value (half q 1)))) := by
  rw [half_zero, half_zero, half_one, half_one, Nat.add_comm, Nat.mul_comm]
  rfl

/-- Every operation's value. -/
theorem atomApply_values : ∀ (x y : Xword),
    let p : Word := x.setWidth 32
    let q : Word := y.setWidth 32
    let narrow (op : AtomOp) (v : Int) := atomApply op x y = BitVec.ofNat 64 (v.emod (2 ^ 32)).toNat
    narrow .addB32 (p.toNat + q.toNat) ∧ narrow .minI32 (min p.toInt q.toInt) ∧ narrow .minN32 (min p.toNat q.toNat : Nat) ∧
    narrow .maxI32 (max p.toInt q.toInt) ∧ narrow .maxN32 (max p.toNat q.toNat : Nat) ∧
    narrow .andB32 (p &&& q).toNat ∧ narrow .orB32 (p ||| q).toNat ∧ narrow .xorB32 (p ^^^ q).toNat ∧
    narrow .exchB32 q.toNat ∧ narrow .incN32 (if q.toNat ≤ p.toNat then 0 else p.toNat + 1) ∧
    narrow .addF32 (Fmt.f32.rne ((Fmt.f32.value p.toNat).add (Fmt.f32.value q.toNat))) ∧
    narrow .minF32 (fPick .f32 false p.toNat q.toNat) ∧ narrow .maxF32 (fPick .f32 true p.toNat q.toNat) ∧
    narrow .addBf16x2
      (Fmt.bf16.rne ((Fmt.bf16.value (half p 0)).add (Fmt.bf16.value (half q 0))) +
        2 ^ 16 * Fmt.bf16.rne ((Fmt.bf16.value (half p 1)).add (Fmt.bf16.value (half q 1))) : Nat) ∧
    atomApply .addB64 x y = x + y ∧ atomApply .exchB64 x y = y ∧
    atomApply .minI64 x y = BitVec.ofInt 64 (min x.toInt y.toInt) ∧ atomApply .maxN64 x y = BitVec.ofNat 64 (max x.toNat y.toNat) := by
  intro x y p q
  have bits : ∀ z : Word, z = BitVec.ofInt 32 (z.toNat : Int) := fun z => by
    rw [ofInt_natCast, BitVec.ofNat_toNat, BitVec.setWidth_eq]
  refine ⟨atomApply_narrow rfl ?_, atomApply_narrow rfl (ite_slt_eq_min p q),
    atomApply_narrow rfl ((ite_ult_eq_min p q).trans (ofInt_natCast _).symm), atomApply_narrow rfl (ite_slt_eq_max p q),
    atomApply_narrow rfl ((ite_ult_eq_max p q).trans (ofInt_natCast _).symm), atomApply_narrow rfl (bits _),
    atomApply_narrow rfl (bits _), atomApply_narrow rfl (bits _), atomApply_narrow rfl (bits _),
    atomApply_narrow rfl ((ite_ule_eq_inc p q).trans ?_), atomApply_narrow rfl (ofInt_natCast _).symm,
    atomApply_narrow rfl (ofInt_natCast _).symm, atomApply_narrow rfl (ofInt_natCast _).symm,
    atomApply_narrow rfl ((onHalves_fAdd .bf16 p q).trans (ofInt_natCast _).symm), rfl, rfl, ite_slt_eq_min x y,
    ite_ult_eq_max x y⟩
  · change p + q = _
    rw [BitVec.ofInt_add, ← bits, ← bits]
  · rw [← ofInt_natCast]
    split <;> rfl

/-! ### `atom`, `cas` and `red` -/

/-- What an atomic of local memory does: the updates, then for an operation that answers, an outstanding load of the old
values (06 R143). -/
def State.localAtomic (s : State) (c : Cur) (w : Warp) (n : Nat) (wide back : Bool) (d : VReg) (l : List (Nat × Xword))
    (f : Nat → Xword → Xword) : State :=
  let r := s.localUpdates w.gang n l f
  if back then r.1.addLocal c.warp (w.dests d (if wide then 2 else 1))
    (r.2.flatMap fun e => regWords (w.allocated d.toNat) e.1 (valueWords wide e.2))
  else r.1

/-- An `atom` or `cas` whose lanes pass their checks. -/
theorem State.atomicLocal_placed {s : State} {c : Cur} {w : Warp} {wide : Bool} {d : VReg} {l : List (Nat × Xword)}
    {f : Nat → Xword → Xword} (placed : s.localFault w (if wide then 8 else 4) l = none) :
    s.atomicLocal c w wide d l f = .done (s.localAtomic c w (if wide then 8 else 4) wide true d l f) := by
  unfold State.atomicLocal
  simp only [placed]
  rfl

section Atomics
variable {s : State} {c : Cur} {w : Warp} {d : VReg} {a : SReg} {b : VReg} {e : MemExt} (h : Issues s c w)
  (ha : w.mayAccess c.lanes) (hl : e.inLocal = true) (room : w.loads.length < 31)
include h ha hl room

theorem ends_atom_local {op : AtomOp} (hf : w.free (groupNames d op.regs ++ offsetNames b))
    (placed : s.localFault w (if op.wide then 8 else 4) (w.addrs c.lanes a b e (if op.wide then 8 else 4)) = none) :
    Ends (.atom op d a b (some e)) s c (s.localAtomic c w (if op.wide then 8 else 4) op.wide true d
      (w.addrs c.lanes a b e (if op.wide then 8 else 4)) fun i old => atomApply op old (w.operand op.wide d.toNat i)) := by
  have islocal : (extOf (some e)).inLocal = true := hl
  rw [Ends, exec_atom h ha room d a b (some e) hf]
  simp only
  rw [if_pos islocal]
  exact congrArg (State.settle c) (State.atomicLocal_placed placed)

theorem ends_cas_local {wide : Bool} (hf : w.free (groupNames d (if wide then 4 else 2) ++ offsetNames b))
    (placed : s.localFault w (if wide then 8 else 4) (w.addrs c.lanes a b e (if wide then 8 else 4)) = none) :
    Ends (.cas wide d a b (some e)) s c (s.localAtomic c w (if wide then 8 else 4) wide true d
      (w.addrs c.lanes a b e (if wide then 8 else 4)) fun i old => casApply old (w.operand wide d.toNat i)
        (w.operand wide (d.toNat + if wide then 2 else 1) i)) := by
  have islocal : (extOf (some e)).inLocal = true := hl
  rw [Ends, exec_cas h ha room d a b (some e) hf]
  simp only
  rw [if_pos islocal]
  exact congrArg (State.settle c) (State.atomicLocal_placed placed)

theorem ends_red_local {op : AtomOp} (full : w.storesFull = false) (hf : w.free (groupNames d op.regs ++ offsetNames b))
    (placed : s.localFault w (if op.wide then 8 else 4) (w.addrs c.lanes a b e (if op.wide then 8 else 4)) = none) :
    Ends (.red op d a b (some e)) s c (s.localAtomic c w (if op.wide then 8 else 4) op.wide false d
      (w.addrs c.lanes a b e (if op.wide then 8 else 4)) fun i old => atomApply op old (w.operand op.wide d.toNat i)) := by
  have islocal : (extOf (some e)).inLocal = true := hl
  have free : s.localFault w (atomBytes op) (w.addrs c.lanes a b (extOf (some e)) (atomBytes op)) = none := placed
  rw [Ends, exec_red h ha room full d a b (some e) hf]
  simp only [islocal, if_true, free]
  rfl

end Atomics

/-- What the updates of an atomic leave: the words of its lanes, every other byte, and for one that answers the landing of the
old values. -/
theorem localAtomic_spec {s : State} {c : Cur} {w : Warp} {d : VReg} {a : SReg} {b : VReg} {e : MemExt} {n : Nat}
    (wide back : Bool) {f : Nat → Xword → Xword} (h : Issues s c w)
    (placed : s.localFault w n (w.addrs c.lanes a b e n) = none)
    (differ : ∀ l m, c.lanes.getLsbD l = true → c.lanes.getLsbD m = true → l ≠ m →
      (w.addr a b e n l).toNat ≠ (w.addr a b e n m).toNat) :
    let at_ (l : Nat) := (w.addr a b e n l).toNat
    let old (l : Nat) : Xword := BitVec.ofNat 64 (leNat (s.localBytes w.gang (at_ l) n))
    let v := s.localAtomic c w n wide back d (w.addrs c.lanes a b e n) f
    ∃ u, v = { s with warps := v.warps, nextId := v.nextId, lmem := v.lmem, cores := v.cores } ∧
      s.onlyLatches v ∧ v.warp c.warp = some u ∧
      (∀ l k, l < 64 → k < n → c.lanes.getLsbD l = true →
        v.localByte w.gang (at_ l + k) = BitVec.ofNat 8 ((f l (old l)).toNat / 256 ^ k)) ∧
      (∀ g o, (∀ l, c.lanes.getLsbD l = true → localKey g o < localKey w.gang (at_ l) ∨
        localKey w.gang (at_ l + n) ≤ localKey g o) → v.localByte g o = s.localByte g o) ∧
      if back then ∃ r : LoadOp, u = { w with loads := w.loads ++ [r] } ∧ r.waiting = [] ∧ w.sameBelow (u.land r) ∧
        ∀ m l, l < 64 → (u.land r).v m l =
          if m = d.toNat ∧ c.lanes.getLsbD l = true then (old l).setWidth 32
          else if wide = true ∧ m = d.toNat + 1 ∧ c.lanes.getLsbD l = true then (old l >>> 32).setWidth 32
          else w.v m l
      else u = w := by
  intro at_ old v
  obtain ⟨bytes, frame⟩ := localUpdates_bytes (f := f) placed differ
  have words := localUpdates_words (f := f) placed differ wide (w.allocated d.toNat)
  obtain ⟨shape, latches⟩ := s.localChange_localUpdates w.gang n f (w.addrs c.lanes a b e n)
  have does : v = if back then (s.localUpdates w.gang n (w.addrs c.lanes a b e n) f).1.addLocal c.warp
      (w.dests d (if wide then 2 else 1)) ((lanesOf c.lanes).flatMap fun i =>
        regWords (w.allocated d.toNat) i (valueWords wide (s.localWord w.gang n (w.addr a b e n i))))
      else (s.localUpdates w.gang n (w.addrs c.lanes a b e n) f).1 := by
    rw [← words]
    rfl
  clear_value v
  generalize (s.localUpdates w.gang n (w.addrs c.lanes a b e n) f).1 = t at bytes frame shape latches does
  obtain ⟨lmem, cores, rfl⟩ : ∃ lmem cores, t = { s with lmem := lmem, cores := cores } := ⟨_, _, shape⟩
  have warp : ({ s with lmem := lmem, cores := cores } : State).warp c.warp = some w := h.warp
  cases back with
  | false =>
    obtain rfl := does
    exact ⟨w, rfl, latches, warp, bytes, frame, rfl⟩
  | true =>
    rw [if_pos rfl, State.addLocal_eq warp] at does
    obtain rfl := does
    refine ⟨_, rfl, latches, State.warp_setWarp_same _ _ _, bytes, frame, _, rfl, rfl, ?_, fun m l hl => ?_⟩
    · refine Warp.sameBelow_land (d := d) (lanes := c.lanes) (f := fun i => valueWords wide (old i)) ?_ fun i =>
        valueWords_length wide _
      rfl
    · refine Warp.v_land_value (old := old) ?_ m hl
      rfl

/-- Settles O20: the updates of each atomic, and the value of each operation. -/
theorem localAtomics : Obligations.LocalAtomics := by
  unfold Obligations.LocalAtomics
  refine ⟨fun s c w d a b e h ha hl => ?_, atomApply_values⟩
  intro does value
  refine ⟨fun op hf placed room full differ => ?_, fun op hf placed room full differ => ?_, fun wide hf placed room full differ => ?_⟩
  · obtain ⟨u, spec⟩ := localAtomic_spec op.wide true h placed differ
    exact ⟨_, u, ends_atom_local h ha hl room hf placed, spec⟩
  · obtain ⟨u, spec⟩ := localAtomic_spec op.wide false h placed differ
    exact ⟨_, u, ends_red_local h ha hl room full hf placed, spec⟩
  · obtain ⟨u, spec⟩ := localAtomic_spec wide true h placed differ
    exact ⟨_, u, ends_cas_local h ha hl room hf placed, spec⟩

end Sys2Proof.Machine
end

section
/-!
PROOFS. Kills (15 R254, R255): the context that is killed stays so while its launches end, its pages are withdrawn and its record is
posted; and that record where the number of the die is that of the firmware's own agent.
-/

namespace Sys2Proof.Machine
open Sys2Proof

/-! ### A killed context stays killed -/

/-- The same contexts have been killed. -/
def State.SameKilled (s t : State) : Prop := ∀ k, (t.ctx k).killed = (s.ctx k).killed

namespace State.SameKilled

theorem refl (s : State) : s.SameKilled s := fun _ => rfl

theorem trans {s t u : State} (h : s.SameKilled t) (h' : t.SameKilled u) : s.SameKilled u := fun k => (h' k).trans (h k)

theorem of_home {s t : State} (h : s.AtHome t) : s.SameKilled t := fun k => by
  have kept : t.ctx k = _ := h.ctx k
  rw [kept]

/-- Where no context differs. -/
theorem of_ctxs {s t : State} (h : t.ctxs = s.ctxs) : s.SameKilled t := fun k => by rw [State.ctx, State.ctx, h]

theorem foldl {α : Type} {f : State → α → State} (hf : ∀ (s : State) x, s.SameKilled (f s x)) (l : List α) (s : State) :
    s.SameKilled (l.foldl f s) := foldl_rel refl (fun h h' => h.trans h') hf l s

theorem setCtx {s : State} {k : Nat} {c : Ctx} (h : c.killed = (s.ctx k).killed) : s.SameKilled (s.setCtx k c) := fun j => by
  rw [State.ctx_setCtx]
  split
  · subst_vars
    exact h
  · rfl

theorem setDie (s : State) (k : Nat) (d : Die) : s.SameKilled (s.setDie k d) := of_ctxs (State.setDie_ctxs s k d)
theorem setCore (s : State) (k : Nat) (c : Core) : s.SameKilled (s.setCore k c) := of_ctxs (State.setCore_ctxs s k c)
theorem setQueue (s : State) (k : Nat) (q : Queue) : s.SameKilled (s.setQueue k q) := of_ctxs (State.setQueue_ctxs s k q)
theorem setLaunch (s : State) (k : Nat) (l : Launch) : s.SameKilled (s.setLaunch k l) := of_ctxs rfl

/-! ### Launches that end -/

theorem translateDie (s : State) (die asid va : Nat) : s.SameKilled (s.translateDie die asid va).1 := by
  unfold State.translateDie
  simp only
  split
  · exact refl s
  · split
    · exact setDie _ _ _
    · exact refl s
    · exact refl s

theorem recordFault (s : State) (die asid page : Nat) : s.SameKilled (s.recordFault die asid page).1 := by
  rw [s.recordFault_shape]
  exact of_ctxs rfl

theorem homeAtomic (s : State) (op : AtomOp) (pa : Nat) (x : Xword) : s.SameKilled (s.homeAtomic op pa x).1 :=
  of_home ((State.AtHome.recallLine s _ _).trans (.homeWrite _ _))

end State.SameKilled

/-- The state that a front-end write leaves. -/
def Front.state (f : Front) : State :=
  match f with
  | .made s | .held s | .skipped s => s

namespace State.SameKilled

theorem frontWrite (s : State) (die asid : Nat) (f : FrontWrite) : s.SameKilled (s.frontWrite die asid f).state := by
  unfold State.frontWrite
  have translated := translateDie s die asid f.addr
  split
  · exact refl s
  · generalize s.translateDie die asid f.addr = r at translated ⊢
    obtain ⟨t, x⟩ := r
    cases x with
    | replay => exact translated.trans (recordFault _ _ _ _)
    | absent => exact translated
    | malformed => exact translated
    | hole pa => exact translated
    | leaf l =>
      simp only
      split
      · exact translated
      · refine translated.trans (foldl (fun s pa => ?_) _ t)
        split
        · split
          · exact of_home (.homeWrite _ _)
          · exact of_home (.send _ _)
        · split
          · exact homeAtomic _ _ _ _
          · exact of_home (.send _ _)

theorem finishLaunch (s : State) (lid status : Nat) : s.SameKilled (s.finishLaunch lid status) := by
  unfold State.finishLaunch
  split
  · exact refl s
  · next l _ =>
    have pulled := (setLaunch s lid { l with stage := .ended status }).trans (foldl (f := fun s va =>
      match s.translateDie l.die l.asid va with
      | (s, .leaf f) => s.pull l.die (f.pa + va % pageBytes f.level)
      | (s, _) => s) (fun s va => by
        have translated := translateDie s l.die l.asid va
        generalize s.translateDie l.die l.asid va = r at translated ⊢
        obtain ⟨t, x⟩ := r
        cases x with
        | leaf f => exact translated.trans (of_home (.pull _ _ _))
        | replay => exact translated
        | absent => exact translated
        | malformed => exact translated
        | hole pa => exact translated) ([l.signal, l.trigsig].filter fun va => va ≠ 0) _)
    simp only
    refine pulled.trans ?_
    generalize List.foldl _ (s.setLaunch lid { l with stage := .ended status }) _ = t
    have told : t.SameKilled (if l.status = 0 then t else t.ctxEvent l.die l.asid 0x28 l.die
        (BitVec.ofNat 64 (status % 2 ^ 16 + 2 ^ 16 * l.queue + 2 ^ 24 * l.slot.toNat))) := by
      split
      · exact refl t
      · exact of_home (.ctxEvent _ _ _ _ _ _)
    refine told.trans ?_
    generalize (if l.status = 0 then t else t.ctxEvent l.die l.asid 0x28 l.die
      (BitVec.ofNat 64 (status % 2 ^ 16 + 2 ^ 16 * l.queue + 2 ^ 24 * l.slot.toNat))) = u
    split
    · exact of_ctxs rfl
    · exact setQueue _ _ _

theorem drainLaunch (fuel : Nat) (s : State) (lid : Nat) : s.SameKilled (s.drainLaunch fuel lid) := by
  induction fuel generalizing s with
  | zero => exact refl s
  | succ n ih =>
    unfold State.drainLaunch
    split
    · exact refl s
    · next l _ =>
      split
      · split
        · exact finishLaunch s lid _
        all_goals exact refl s
      · next f rest _ =>
        have written := frontWrite s l.die l.asid f
        generalize s.frontWrite l.die l.asid f = r at written ⊢
        cases r with
        | held t => exact written
        | made t => exact (written.trans (setLaunch t lid _)).trans (ih _)
        | skipped t => exact (written.trans ((of_home (.ctxEvent _ _ _ _ _ _)).trans (setLaunch _ lid _))).trans (ih _)

theorem frontWrites (s : State) (lid : Nat) (fs : List FrontWrite) : s.SameKilled (s.frontWrites lid fs) := by
  unfold State.frontWrites
  split
  · exact refl s
  · exact (setLaunch s lid _).trans (drainLaunch _ _ _)

theorem endLaunch (s : State) (lid status : Nat) (first : List FrontWrite) : s.SameKilled (s.endLaunch lid status first) := by
  unfold State.endLaunch
  split
  · exact refl s
  · split
    · exact refl s
    · exact refl s
    all_goals exact (setLaunch s lid _).trans (frontWrites _ _ _)

theorem abandonLaunches (s : State) (die asid : Nat) (resident : List (Nat × Nat)) :
    s.SameKilled (s.abandonLaunches die asid resident) := foldl (fun s _ => endLaunch s _ _ _) _ s

/-! ### The rest of a kill -/

theorem tlbRemove (s : State) (die : Nat) (p : Leaf → Bool) : s.SameKilled (s.tlbRemove die p) :=
  (setDie s _ _).trans (foldl (fun s _ => setCore s _ _) _ _)

theorem unmap (s : State) (die asid va : Nat) : s.SameKilled (s.unmap die asid va) := by
  unfold State.unmap
  simp only
  refine trans (t := match s.leafAddrFrom va 5 0 (s.ctx (ctxKey die asid)).ptbase.toNat with
    | some at_ => s.homeWrite (placed at_ (leBytes 16 0))
    | none => s) ?_ ((tlbRemove _ _ _).trans (setCtx rfl))
  split
  · exact of_home (.homeWrite _ _)
  · exact refl s

theorem withdraw (s₀ : State) (ck handle : Nat) (tell : Bool) (reply : Option (List Xword)) :
    s₀.SameKilled (s₀.withdraw ck handle tell reply) := by
  unfold State.withdraw
  simp only
  refine trans (setCtx (s := s₀) (k := ck) (c := { s₀.ctx ck with handles := mdel (s₀.ctx ck).handles handle }) rfl) ?_
  refine trans ?_ (foldl (fun s e => ?_) _ _)
  · split
    · exact refl _
    · exact of_ctxs rfl
  · have unmapped := foldl (fun s va => unmap s (e.1 / 2048) (e.1 % 2048) va)
      (mkeys (e.2.importsOf (mget [] (s₀.ctx ck).handles handle))) s
    split
    · exact unmapped.trans (of_home (.ctxEvent _ _ _ _ _ _))
    · exact unmapped

theorem hostEvent (s : State) (l : List Xword) : s.SameKilled (s.hostEvent l) := by
  unfold State.hostEvent
  simp only
  split
  · exact (of_home (.fwWrite s _)).trans (of_ctxs rfl)
  · exact of_ctxs rfl

end State.SameKilled

/-- A kill leaves its context killed. -/
theorem State.killed_kill (s : State) (die asid reason : Nat) (k : KillInfo) :
    ((s.kill die asid reason k).ctx (ctxKey die asid)).killed = true := by
  unfold State.kill
  simp only
  split
  · next already => exact already
  · refine ((State.SameKilled.trans (.foldl (fun s qk => .setQueue s qk _) _ _) (.trans (.abandonLaunches _ _ _ _)
      (.trans (.tlbRemove _ _ _) (.trans (.foldl (fun s h => .withdraw s _ h _ _) _ _) (.hostEvent _ _)))))
      (ctxKey die asid)).trans ?_
    rw [State.ctx_setCtx, if_pos rfl]

/-! ### A die of the firmware's own number -/

/-- A launch that is to signal at address 0x8000 when it ends. -/
def signallingLaunch : Launch :=
  { die := 9, queue := 0, asid := 0, record := List.replicate 9 0 ++ [0x8000], slotRec := [], slot := 0, stage := .taken, since := 0,
    nextGang := 0, retired := 0, triggered := false, repeats := false, sched := [], waiting := none, met := false, passes := 0,
    blockedSince := none, window := none, todo := [] }

/-- Address 0x8000 is in H's memory, past its event ring. -/
def hostPage : Leaf :=
  { asid := 0, va := 0, level := 0, pa := 8 * 2 ^ 48 + 0x100000, canWrite := true, canFetch := false, exported := false, fmt := 0,
    side := 0 }

/-- Agent 9, the firmware's own, as a die with a launch under way. -/
def ninthDieState : State :=
  { State.reset with launches := [(0, signallingLaunch)], dies := [(9, { Die.atReset with tlb := [hostPage] })],
                     host := { HostIf.atReset with esize := 1 } }

theorem ninthDieState_hostHears : ninthDieState.hostHears :=
  ⟨⟨rfl, rfl, rfl, mayInject_atReset 9 8 (by decide), by decide⟩, fun _ => rfl⟩

/-- Refutes O52: its bound on the die's number admits agent 9, the firmware, whose packets to H go before the record that it
posts. Its launch ends with an atomic on H's memory, which the record then waits behind, and the place of the record still holds 0. -/
theorem not_killsAndMisses : ¬ Obligations.KillsAndMisses := by
  unfold Obligations.KillsAndMisses
  intro h
  obtain ⟨kills, -⟩ := h ninthDieState 9 0
  obtain ⟨t, killed, -, -, -, -, posts⟩ := (kills 3).2 rfl
  obtain ⟨-, record⟩ := posts (by decide)
  have claimed := record (by decide) (by decide) (by decide) ninthDieState_hostHears
  have held : (match exec (.kill 9 0 3) ninthDieState with
    | .next t => t.num (hostPa 0) 8
    | .fault _ | .refused _ => 1) = 0 := by decide +kernel
  rw [killed] at held
  have place : hostPa (ninthDieState.host.ebase + 64 * (ninthDieState.host.etail.toNat % 2 ^ ninthDieState.host.esize)) = hostPa 0 :=
    rfl
  rw [place] at claimed
  exact absurd (claimed.symm.trans held) (by decide)

end Sys2Proof.Machine
end

section
/-!
PROOFS. Global accesses that may not be injected (07 R172, R175): a packet with more carriers before it than the statement's bound
on packets.
-/

namespace Sys2Proof.Machine
open Sys2Proof

/-- A trap is taken by the handler or kills the context (15 R245, R254). -/
theorem takeTrap_cases {s : State} {k : Nat} {w : Warp} (h : s.warp k = some w) (lanes : LaneSet) (pc : Xword) (cause : Nat)
    (info : Xword) : (∃ vec, s.takeTrap k lanes pc cause info = s.setWarp k (w.enter lanes vec pc cause info)) ∨
      ∃ reason why, s.takeTrap k lanes pc cause info = s.kill w.die w.asid reason why := by
  unfold State.takeTrap
  simp only [h]
  split
  · exact .inr ⟨_, _, rfl⟩
  · split
    · exact .inr ⟨_, _, rfl⟩
    · exact .inl ⟨_, rfl⟩

/-- Testing for a deadlock leaves the warp, puts it into its handler, or kills its context (01 R24). -/
theorem checkDeadlock_outcomes {s : State} {k : Nat} {w : Warp} (h : s.warp k = some w) :
    (∃ u, (s.checkDeadlock k).warp k = some u ∧ u.bsync = w.bsync) ∨ ∃ j, ((s.checkDeadlock k).ctx j).killed = true := by
  unfold State.checkDeadlock
  simp only [h]
  cases w.deadlock with
  | none => exact .inl ⟨w, h, rfl⟩
  | some e =>
    have same : ((w.setMask e.1 { w.mask e.1 with arrived := (w.mask e.1).arrived &&& ~~~e.2 }).onLanes e.2 fun l =>
      { l with stat := .candidate, pc := (w.mask e.1).pc }).bsync = w.bsync := rfl
    simp only
    generalize (w.setMask e.1 { w.mask e.1 with arrived := (w.mask e.1).arrived &&& ~~~e.2 }).onLanes e.2 _ = x at same ⊢
    rcases takeTrap_cases (State.warp_setWarp_same s k x) e.2 (w.mask e.1).pc 0x09 (BitVec.ofNat 64 (e.1.toNat + 2 * 2 ^ 3))
      with ⟨vec, enters⟩ | ⟨reason, why, kills⟩
    · exact .inl ⟨x.enter e.2 vec _ _ _, by rw [enters, State.warp_setWarp_same], same⟩
    · exact .inr ⟨_, by rw [kills, State.killed_kill]⟩

/-- A completion in user mode ends a `bsync` (11 R211), unless it kills a context. -/
theorem State.bsync_complete {s : State} {c : Cur} {moved : Bool} (user : c.priv = false)
    (alive : ∀ k, ((s.complete c moved).ctx k).killed = false) {u : Warp} (hu : (s.complete c moved).warp c.warp = some u) :
    u.bsync = none := by
  unfold State.complete at hu alive
  simp only at hu alive
  cases hw : s.warp c.warp with
  | none =>
    have absent : ({ s with cur := none, issues := s.issues + 1 } : State).warp c.warp = none := hw
    rw [State.onWarp_none _ absent, State.checkDeadlock, absent] at hu
    rw [absent] at hu
    cases hu
  | some w =>
    have warp : ({ s with cur := none, issues := s.issues + 1 } : State).warp c.warp = some w := hw
    have ended : (w.complete c moved (s.issues + 1)).bsync = none := by
      rw [w.complete_shape]
      exact if_neg (by rw [user]; decide)
    rw [State.onWarp_some _ warp] at hu alive
    rcases checkDeadlock_outcomes (State.warp_setWarp_same ({ s with cur := none, issues := s.issues + 1 } : State) c.warp
      (w.complete c moved (s.issues + 1))) with ⟨x, hx, same⟩ | ⟨j, killed⟩
    · rw [hu] at hx
      rw [Option.some.inj hx, same, ended]
    · rw [alive] at killed
      cases killed

/-- Packets that may not be injected stop the warp (R175). -/
theorem State.charge_stops {s : State} {w : Warp} {t : Sent} {k : State → Effect} (some : t.dsts.isEmpty = false)
    (no : s.mayCharge w.die w.ctxK 0 t.cost t.dsts = false) : s.charge w t k = .stop s (.bucket t.cost) := by
  rw [State.charge, some, no]
  rfl

/-! ### A table with one entry many times -/

/-- Agent 0 has 14,336 packets to agent 1 covered by no floor, and one entry dirty for it, listed 20,481 times. -/
def burdenedCauseway : Causeway :=
  { Causeway.atReset with know := [(knowKey 0 0 1, 14336)], dirty := List.replicate 20481 (dirtyKey 0 1 0 2, true) }

/-- The entries go on 2,049 packets (R170). -/
theorem burdenedCauseway_carriers : burdenedCauseway.carriersNow 0 1 = 2048 := by
  have entries : burdenedCauseway.entriesFor 0 1 = List.replicate 20481 (0, 2, burdenedCauseway.K 0 0 2) := by
    rw [Causeway.entriesFor, burdenedCauseway, List.filter_replicate, if_pos (by decide), List.map_replicate]
    rfl
  rw [Causeway.carriersNow, entries, List.length_replicate]

theorem burdenedCauseway_mayInject (j n : Nat) : burdenedCauseway.mayInject 0 j n = true ↔ n ≤ if j = 1 then 2048 else 16384 := by
  have queued : burdenedCauseway.queuedAt 0 j = [] := rfl
  have floor : burdenedCauseway.F 0 0 j = 0 := rfl
  have known : burdenedCauseway.K 0 0 j = if j = 1 then 14336 else 0 := by
    by_cases h : j = 1
    · subst h
      rfl
    · have other : mfind burdenedCauseway.know (knowKey 0 0 j) = none := by
        rw [burdenedCauseway, mfind_cons]
        refine (if_neg fun same => h ?_).trans rfl
        have key : knowKey 0 0 1 = knowKey 0 0 j := same
        unfold knowKey at key
        omega
      rw [Causeway.K, mget, other, if_neg h]
      rfl
  have stage : (burdenedCauseway.reseal == .normal) = true := rfl
  rw [Causeway.mayInject, queued, known, floor, stage]
  simp only [List.isEmpty_nil, Bool.and_self, Bool.true_and, decide_eq_true_eq]
  split <;> omega

/-- A warp of die 0 in user mode with one lane, which reads die 1 and was in a `bsync`. -/
def peerReader : Warp :=
  { Warp.start { die := 0, asid := 0, cluster := 0, core := 0, partition := 0, slot := 0, gang := 0, member := 0, index := 0 }
      1 64 0 with bsync := some (0, 0) }

def peerFrame : Cur :=
  { warp := 0, lanes := 1, cands := 1, pc := 0, trapPc := 0, nextPc := 4, priv := false, inRep := false }

/-- The page at address 0 of die 1. -/
def peerPage : Leaf := { pageZero with pa := 2 ^ 48 }

def burdenedState : State :=
  { State.reset with warps := [(0, peerReader)], cores := [(0, { State.reset.core 0 with tlb := [peerPage] })],
                     cur := some peerFrame, cway := burdenedCauseway }

/-- Where the read of lane 0 goes. -/
def peerPlace : Place := { lane := 0, va := 0, pa := 2 ^ 48, window := .priv, leaf := peerPage }

theorem burdenedState_mayPay : burdenedState.mayPay peerReader := by
  refine ⟨rfl, le_rfl, fun j n hn => (burdenedCauseway_mayInject j n).mpr ?_⟩
  split <;> omega

/-! ### The load that stops -/

/-- The read of the line at address 0 of die 1, in one packet. -/
theorem burdenedState_load : ∃ (v : State) (t : Sent) (k : State → Effect), exec (.ld .b32 3 0 127 none) burdenedState =
      State.settle peerFrame (v.charge peerReader t k) ∧ v.cway = burdenedCauseway ∧ v.warps = burdenedState.warps ∧
      v.ctxs = [] ∧ t.dsts = List.replicate (burdenedCauseway.carriersNow 0 1 + 1) 1 ++ [] := by
  have issues : Issues burdenedState peerFrame peerReader := ⟨rfl, rfl⟩
  have access : peerReader.mayAccess peerFrame.lanes := fun _ hl => absurd hl List.not_mem_nil
  have run := exec_ld (t := .b32) issues access (by decide) 3 0 127 none (by unfold Warp.free; decide)
  have placed : burdenedState.place peerReader .load 4 (tyFormatted .b32) [(0, 0)] = .go burdenedState [peerPlace] := rfl
  have address : peerReader.addrs peerFrame.lanes 0 127 (extOf none) (tyBytes .b32) = [(0, 0)] := by decide
  rw [run, if_neg (by decide), State.ldGlobal, address]
  simp only [show tyBytes .b32 = 4 from rfl, placed]
  refine ⟨_, _, _, rfl, rfl, rfl, rfl, ?_⟩
  rfl

/-- It may not be injected: 2,049 packets go to agent 1. -/
theorem burdened_mayNotCharge {v : State} (h : v.cway = burdenedCauseway) (ctx cls cost : Nat) :
    v.mayCharge 0 ctx cls cost (List.replicate (burdenedCauseway.carriersNow 0 1 + 1) 1 ++ []) = false := by
  have many : ¬ burdenedCauseway.mayInject 0 1 2049 = true := by rw [burdenedCauseway_mayInject]; decide
  have member : 1 ∈ distinct (List.replicate 2049 1) := (mem_distinct _ _).mpr (List.mem_replicate.mpr ⟨by decide, rfl⟩)
  have all : ((distinct (List.replicate 2049 1)).all fun d => v.cway.mayInject 0 d ((List.replicate 2049 1).count d)) = false := by
    refine Bool.eq_false_iff.mpr fun hall => many ?_
    have one := List.all_eq_true.mp hall 1 member
    rwa [List.count_replicate_self, h] at one
  rw [burdenedCauseway_carriers, List.append_nil, State.mayCharge, all]
  rfl

/-- Refutes O23: its bound is on packets, and the carriers before a packet are packets too (R170). One lane's `ld` from another die
completes only if 2,049 of them may be injected, while `mayPay` speaks of 2,048; the warp stops at its bucket, still in its `bsync`,
which a completion in user mode would have ended. -/
theorem not_globalAccessesComplete : ¬ Obligations.GlobalAccessesComplete := by
  unfold Obligations.GlobalAccessesComplete
  intro h
  obtain ⟨loads, -⟩ := h burdenedState peerFrame peerReader 3 0 127 none ⟨rfl, rfl⟩ (fun _ hl => absurd hl List.not_mem_nil)
    (by decide) rfl burdenedState_mayPay (by unfold Warp.free; decide)
  obtain ⟨x, ends⟩ := (loads .b32 (by unfold Warp.free; decide)).1 ⟨rfl, burdenedState, [peerPlace], rfl, trivial⟩
  obtain ⟨v, t, k, run, cway, warps, ctxs, dsts⟩ := burdenedState_load
  have stops := State.charge_stops (w := peerReader) (t := t) (k := k) (by rw [dsts, burdenedCauseway_carriers]; rfl)
    (by rw [dsts]; exact burdened_mayNotCharge cway _ _ _)
  rw [Ends, run, stops] at ends
  have states := Host.Outcome.next.inj ends
  have warp : ({ v with cur := none, issues := v.issues + 1 } : State).warp 0 = some peerReader := by
    rw [State.warp, warps]
    rfl
  simp only [show peerFrame.warp = 0 from rfl] at states
  rw [State.onWarp_some _ warp] at states
  have alive : ∀ j, ((x.complete peerFrame false).ctx j).killed = false := fun j => by
    rw [← states, State.ctx, State.setWarp_ctxs, ctxs]
    rfl
  exact Option.some_ne_none ((0, 0) : Nat × BitVec 32)
    (State.bsync_complete rfl alive (by rw [← states]; exact State.warp_setWarp_same _ _ _))

end Sys2Proof.Machine
end

section
/-!
PROOFS. An atomic that releases and acquires at pkg scope on a signal (06 R162, R163): its own deferred release makes a pending
set, which its acquire then pulls.
-/

namespace Sys2Proof.Machine
open Sys2Proof

/-- A warp in supervisor mode with one lane; s2 names the signal. -/
def signalWarp : Warp :=
  { Warp.start { die := 0, asid := 1, cluster := 0, core := 0, partition := 0, slot := 0, gang := 0, member := 0, index := 0 }
      1 64 0 with priv := true, sregs := [(2, 0x8000)] }

/-- A launch of its context under way, whose SIGNAL stands at 0x8000. -/
def signalLaunch : Launch :=
  { die := 0, queue := 0, asid := 1, record := List.replicate 7 0 ++ [0x8000], slotRec := [], slot := 0, stage := .placed, since := 0,
    nextGang := 0, retired := 0, triggered := false, repeats := false, sched := [], waiting := none, met := false, passes := 0,
    blockedSince := none, window := none, todo := [] }

/-- Core 1 of the context's cluster has written 7 to address 1024, which it holds dirty. -/
def dirtySector : Sector := { valid := 1, dirty := 1, data := 7, exported := false }

/-- The state: the page tables map address 0x8000 to itself. -/
def signalState : State :=
  { State.reset with mem := [(0x100000, 1), (0x100002, 0x20), (0x200000, 0xF)], warps := [(0, signalWarp)],
                     launches := [(0, signalLaunch)], clusters := [(0, { Cluster.idle with asid := some 1 })],
                     ctxs := [(1, { Ctx.unbound with bound := true, ptbase := 0x100000 })],
                     cores := [(1, { Core.idle with l1 := [(8, dirtySector)] })], cur := some strayFrame }

/-- An atomic that acquires and releases at pkg scope. -/
def pkgExt : MemExt := { order := .acqrel, scope := .pkg, inLocal := false, rcount := 0, scale := 0, offset := 0 }

/-- The access of lane 0. -/
def signalPlaced : State × Place :=
  match signalState.place signalWarp .atomic 4 false [(0, 0x8000)] with
  | .go v (p :: _) => (v, p)
  | _ => (signalState, strayPlace)

/-- Where no core lists an update-only line, none holds one. -/
theorem State.noUpdates_of_uo {s : State} (h : ∀ e ∈ s.cores, e.2.uo = []) (die line : Nat) : s.noUpdates die line := by
  intro ck _
  have uo : (s.core ck).uo = [] := by
    rw [State.core, mget]
    cases hf : mfind s.cores ck with
    | none => rfl
    | some c => exact h _ (mem_of_mfind hf)
  rw [uo]
  rfl

theorem signalReaches : Reaches signalState strayFrame signalWarp .atomic 4 0 false 0x8000 signalPlaced.1 signalPlaced.2 :=
  ⟨by decide, by decide, rfl, by decide, by decide, by decide, by decide, State.noUpdates_of_uo (by decide) _ _⟩

/-- Refutes O22: the atomic, on a signal of the die, defers its release, which puts core 1 into the signal's pending set; then its
acquire pulls that set, and the byte that core 1 has written at 1024 goes home, though nothing was pending before. -/
theorem not_globalAtomics : ¬ Obligations.GlobalAtomics := by
  unfold Obligations.GlobalAtomics
  intro h
  obtain ⟨atoms, -, -⟩ := h signalState strayFrame signalWarp 3 2 127 (some pkgExt) 0 signalPlaced.1 signalPlaced.2 ⟨rfl, rfl⟩
    (fun _ hl => absurd hl List.not_mem_nil) rfl (by decide) rfl (by decide) (by decide)
  obtain ⟨r, u, ends, hu, bytes, answer⟩ := atoms .addB32 (by unfold Warp.free; decide) signalReaches
  obtain ⟨l, same, -⟩ := answer
  have priv : u.priv = true := by rw [same]; rfl
  have home : Outcome.byte (exec (.atom .addB32 3 2 127 (some pkgExt)) signalState) 1024 = 7 := by decide +kernel
  have unchanged : r.byte 1024 = 0 := (bytes 1024).trans (by decide)
  rw [ends, Outcome.byte, State.byte_complete_of_priv hu priv, unchanged] at home
  exact absurd home (by decide)

end Sys2Proof.Machine
end

section
/-!
PROOFS. `launch`, `trigger` and `next` (14 R236 to R239, 22 R375, R376, 23 R397, 24 R433).
-/

namespace Sys2Proof.Machine
open Sys2Proof

/-! ### What the checks of an access change: caches of translations -/

/-- Nothing differs but what cores and dies hold. -/
def State.sameButUnits (s v : State) : Prop := v = { s with cores := v.cores, dies := v.dies }

namespace State.sameButUnits

theorem refl (s : State) : s.sameButUnits s := rfl

theorem trans {s t v : State} (h : s.sameButUnits t) (h' : t.sameButUnits v) : s.sameButUnits v := by
  obtain ⟨cores, dies, rfl⟩ : ∃ cores dies, t = { s with cores := cores, dies := dies } := ⟨_, _, h⟩
  exact h'

theorem setDie (s : State) (k : Nat) (d : Die) : s.sameButUnits (s.setDie k d) := rfl
theorem setCore (s : State) (k : Nat) (c : Core) : s.sameButUnits (s.setCore k c) := rfl

section
variable {s v : State} (h : s.sameButUnits v)
include h

theorem warps : v.warps = s.warps := by
  obtain ⟨cores, dies, rfl⟩ : ∃ cores dies, v = { s with cores := cores, dies := dies } := ⟨_, _, h⟩
  rfl

theorem queues : v.queues = s.queues := by
  obtain ⟨cores, dies, rfl⟩ : ∃ cores dies, v = { s with cores := cores, dies := dies } := ⟨_, _, h⟩
  rfl

end

theorem translate (s : State) (ck asid va : Nat) : s.sameButUnits (s.translate ck asid va).1 := by
  unfold State.translate
  simp only
  split
  · exact refl s
  · split
    · exact setCore _ _ _
    · split
      · exact trans (setDie _ _ _) (setCore _ _ _)
      · exact refl s

theorem translateDie (s : State) (die asid va : Nat) : s.sameButUnits (s.translateDie die asid va).1 := by
  unfold State.translateDie
  simp only
  split
  · exact refl s
  · split
    · exact setDie _ _ _
    · exact refl s
    · exact refl s

theorem checkLane (s : State) (ck asid : Nat) (want : Want) (size : Nat) (fmtOk : Bool) (lane : Nat) (a : Xword) :
    s.sameButUnits (s.checkLane ck asid want size fmtOk lane a).1 := by
  unfold State.checkLane
  simp only
  split
  · exact refl s
  · split
    · exact refl s
    · have translated := translate s ck asid a.toNat
      generalize s.translate ck asid a.toNat = r at translated ⊢
      obtain ⟨v, x⟩ := r
      cases x with
      | leaf l =>
        simp only
        split_ifs <;> exact translated
      | replay => exact translated
      | absent => exact translated
      | malformed => exact translated
      | hole pa => exact translated

theorem checkLanes (s : State) (ck asid : Nat) (want : Want) (size : Nat) (fmtOk : Bool) (l : List (Nat × Xword)) :
    s.sameButUnits (s.checkLanes ck asid want size fmtOk l).1 :=
  foldl_rel (R := fun (r q : State × List (Nat × Check)) => r.1.sameButUnits q.1) (fun r => refl r.1) (fun h h' => trans h h')
    (fun r _ => checkLane r.1 _ _ _ _ _ _ _) l (s, [])

theorem place {s v : State} {w : Warp} {want : Want} {size : Nat} {fmtOk : Bool} {l : List (Nat × Xword)} {ps : List Place}
    (h : s.place w want size fmtOk l = .go v ps) : s.sameButUnits v := by
  have checked := checkLanes s w.coreK w.asid want size fmtOk l
  unfold State.place at h
  simp only at h
  split at h
  · cases h
  · cases h
  · cases h
  · split at h
    · cases h
    · cases h
      exact checked

end State.sameButUnits

/-! ### `launch` -/

/-- An aligned address of the window of a context itself. -/
theorem inRange_of {va : Nat} (aligned : va % 128 = 0) (low : va < 2 ^ 55) : ¬(va % 128 ≠ 0 ∨ windowOf va ≠ .priv) := by
  rw [windowOf, if_pos low]
  rintro (odd | out)
  · exact odd aligned
  · exact out rfl

section Launch
variable {s : State} {c : Cur} {w : Warp} (h : Issues s c w) (hu : w.priv = false) (ha : w.mayAccess c.lanes) (d a b : SReg)
include h hu ha

/-- Its body, once its checks have passed. -/
theorem exec_launch : exec (.launch d a b) s = State.settle c (
    if (w.s a).toNat % 128 ≠ 0 ∨ windowOf (w.s a).toNat ≠ .priv then .trap s 0x12 1 false
    else if 256 ≤ (w.s b).toNat then .trap s 0x12 2 false
    else match s.place w .load 128 false [((firstLane c.lanes).getD 0, w.s a)] with
      | .ends x => x
      | .go s ps =>
        match ((s.releaseCore w.coreK).homeRead ((ps.map fun p => p.pa).headD 0) 128 0 false).enqueue w.die w.asid
            (w.s b).toNat
            (((s.releaseCore w.coreK).homeRead ((ps.map fun p => p.pa).headD 0) 128 0 false).bytes
              ((ps.map fun p => p.pa).headD 0) 128) with
        | .error va => ((s.releaseCore w.coreK).homeRead ((ps.map fun p => p.pa).headD 0) 128 0 false).missStop w va
        | .ok r => .done (r.1.onWarp c.warp fun w => w.setS d (BitVec.ofNat 64 r.2))) := by
  have checked : ({ sup := false, privileged := false, names := [], access := true } : Needs).check w = none :=
    userOnly_check hu (free_nil w)
  exact run_of h checked (awaits_uncounted (free_nil w) ha rfl) _

theorem traps_launch_address (bad : (w.s a).toNat % 128 ≠ 0 ∨ 2 ^ 55 ≤ (w.s a).toNat) :
    Traps (.launch d a b) s c false 0x12 1 := by
  have out : (w.s a).toNat % 128 ≠ 0 ∨ windowOf (w.s a).toNat ≠ .priv := bad.imp_right fun high => by
    rw [windowOf, if_neg (Nat.not_lt.mpr high)]
    split_ifs <;> decide
  rw [Traps, exec_launch h hu ha, if_pos out]
  rfl

theorem traps_launch_number (inRange : ¬((w.s a).toNat % 128 ≠ 0 ∨ windowOf (w.s a).toNat ≠ .priv))
    (bad : 256 ≤ (w.s b).toNat) :
    Traps (.launch d a b) s c false 0x12 2 := by
  rw [Traps, exec_launch h hu ha, if_neg inRange, if_pos bad]
  rfl

end Launch

/-! ### A record's slot -/

/-- A byte of memory after a write of consecutive bytes. -/
theorem mget_placed (l : List Byte) (pa : Nat) (m : SMap Byte) (x : Nat) :
    mget 0 ((placed pa l).foldl (fun m e => mset 0 m e.1 e.2) m) x =
      if pa ≤ x ∧ x < pa + l.length then l.getD (x - pa) 0 else mget 0 m x := by
  have general : ∀ n m, mget 0 (((l.zipIdx n).map fun e => (pa + e.2, e.1)).foldl (fun m e => mset 0 m e.1 e.2) m) x =
      if pa + n ≤ x ∧ x < pa + n + l.length then l.getD (x - (pa + n)) 0 else mget 0 m x := by
    induction l with
    | nil => intro n m; exact (if_neg (by simp)).symm
    | cons b r ih =>
      intro n m
      rw [List.zipIdx_cons, List.map_cons, List.foldl_cons, ih]
      by_cases first : x = pa + n
      · subst first
        rw [if_neg (by omega), if_pos (by simp), mget_mset_same]
        simp
      · rw [mget_mset_ne _ _ _ first]
        by_cases rest : pa + (n + 1) ≤ x ∧ x < pa + (n + 1) + r.length
        · rw [if_pos rest, if_pos (by rw [List.length_cons]; omega), show x - (pa + n) = x - (pa + (n + 1)) + 1 by omega,
            List.getD_cons_succ]
        · rw [if_neg rest, if_neg (by rw [List.length_cons]; omega)]
  exact general 0 m

/-- The same for a write at home. -/
theorem State.byte_homeWrite_placed (s : State) (pa : Nat) (l : List Byte) (x : Nat) :
    (s.homeWrite (placed pa l)).byte x = if pa ≤ x ∧ x < pa + l.length then l.getD (x - pa) 0 else s.byte x := by
  rw [State.byte, State.homeWrite_mem, State.poke_mem, mget_placed]
  rfl

/-- What has been written is read. -/
theorem State.bytes_homeWrite_placed (s : State) (pa : Nat) (l : List Byte) :
    (s.homeWrite (placed pa l)).bytes pa l.length = l := by
  refine List.ext_getElem (by simp [State.bytes]) fun k h1 h2 => ?_
  simp only [State.bytes, List.getElem_map, List.getElem_range]
  rw [State.byte_homeWrite_placed, if_pos (by omega), Nat.add_sub_cancel_left, List.getD_eq_getElem?_getD,
    List.getElem?_eq_getElem h2]
  rfl

theorem State.bytes_length (s : State) (pa n : Nat) : (s.bytes pa n).length = n := by simp [State.bytes]

/-- A warp keeps everything but its latches, and no queue differs. -/
def State.keepsWarps (s t : State) : Prop :=
  t.queues = s.queues ∧ ∀ k w, s.warp k = some w → ∃ u, t.warp k = some u ∧ w.sameButLatch u

theorem State.keepsWarps_refl (s : State) : s.keepsWarps s := ⟨rfl, fun _ w hw => ⟨w, hw, w.sameButLatch_refl⟩⟩

theorem State.keepsWarps_trans {s t v : State} (h : s.keepsWarps t) (h' : t.keepsWarps v) : s.keepsWarps v := by
  refine ⟨h'.1.trans h.1, fun k w hw => ?_⟩
  obtain ⟨x, hx, same⟩ := h.2 k w hw
  obtain ⟨y, hy, same'⟩ := h'.2 k x hx
  exact ⟨y, hy, Warp.sameButLatch_trans same same'⟩

theorem State.keepsWarps_of_home {s t : State} (h : s.AtHome t) : s.keepsWarps t := ⟨h.queues, h.warp⟩

theorem State.keepsWarps_of_units {s t : State} (h : s.sameButUnits t) : s.keepsWarps t :=
  ⟨h.queues, fun _ w hw => ⟨w, by rw [State.warp, h.warps]; exact hw, w.sameButLatch_refl⟩⟩

/-- A slot whose translation is no replayable miss (log 34). -/
theorem slotWrite_spec {s : State} {die asid va : Nat} (l : List Byte)
    (translated : (s.translateDie die asid va).2 ≠ .replay) :
    ∃ t, s.slotWrite die asid va l = some t ∧ s.keepsWarps t ∧ ∀ f, (s.translateDie die asid va).2 = .leaf f → va < 2 ^ 55 →
      f.canWrite = true → f.fmt = 0 → memoryExists (f.pa + va % pageBytes f.level) 128 = true →
      t.bytes (f.pa + va % pageBytes f.level) l.length = l := by
  have units := State.keepsWarps_of_units (State.sameButUnits.translateDie s die asid va)
  unfold State.slotWrite
  generalize s.translateDie die asid va = r at translated units ⊢
  obtain ⟨v, x⟩ := r
  cases x with
  | replay => exact absurd rfl translated
  | absent => exact ⟨v, rfl, units, fun f h => by cases h⟩
  | malformed => exact ⟨v, rfl, units, fun f h => by cases h⟩
  | hole pa => exact ⟨v, rfl, units, fun f h => by cases h⟩
  | leaf g =>
    refine ⟨_, rfl, ?_, fun f hf low writable raw within => ?_⟩
    · split
      · exact State.keepsWarps_trans units (State.keepsWarps_of_home (.homeWrite _ _))
      · exact units
    · obtain rfl : g = f := by cases hf; rfl
      rw [if_pos ⟨by rw [windowOf, if_pos low], writable, raw, within⟩]
      exact State.bytes_homeWrite_placed _ _ _

/-- A record that is queued: its code, the queue after it, and its bytes in the ring's slot (R237). -/
theorem enqueue_spec {s : State} {die asid n : Nat} (l : List Byte)
    (translated : ∀ x ∈ [(s.queue (queueKey die n)).ringSlot (s.queue (queueKey die n)).tail.toNat,
      (s.queue (queueKey die n)).ovfSlot (s.queue (queueKey die n)).ovftail.toNat], (s.translateDie die asid x).2 ≠ .replay) :
    let q := s.queue (queueKey die n)
    let slot := q.ringSlot q.tail.toNat
    ∃ t code, s.enqueue die asid n l = .ok (t, code) ∧ (∀ k w, s.warp k = some w → ∃ u, t.warp k = some u ∧
        w.sameButLatch u) ∧
      let q' := t.queue (queueKey die n)
      (q.enable = false ∨ q.asid ≠ asid ∨ q.devq = false → code = 3 ∧ q' = q) ∧
      (q.enable = true → q.asid = asid → q.devq = true →
        ((q.tail - q.head).toNat ≠ 2 ^ q.qsize → q.ovftail = q.ovfhead → code = 0 ∧ q' = { q with tail := q.tail + 1 } ∧
          ∀ f, (s.translateDie die asid slot).2 = .leaf f → slot < 2 ^ 55 → f.canWrite = true → f.fmt = 0 →
            memoryExists (f.pa + slot % pageBytes f.level) 128 = true →
            t.bytes (f.pa + slot % pageBytes f.level) l.length = l) ∧
        ((q.tail - q.head).toNat = 2 ^ q.qsize ∨ q.ovftail ≠ q.ovfhead →
          ((q.ovftail - q.ovfhead).toNat ≠ 2 ^ q.ovfsize → code = 1 ∧ q' = { q with ovftail := q.ovftail + 1 }) ∧
          ((q.ovftail - q.ovfhead).toNat = 2 ^ q.ovfsize → code = 2 ∧ q' = q))) := by
  intro q slot
  have slots : ∀ x ∈ [slot, q.ovfSlot q.ovftail.toNat], (s.translateDie die asid x).2 ≠ .replay := translated
  have queue : s.queue (queueKey die n) = q := rfl
  clear_value q
  unfold State.enqueue
  simp only [queue, Queue.slotFor]
  by_cases barred : q.enable = false ∨ q.asid ≠ asid ∨ q.devq = false
  · rw [if_pos barred]
    refine ⟨s, 3, rfl, fun k w hw => ⟨w, hw, w.sameButLatch_refl⟩, fun _ => ⟨rfl, queue⟩, fun on own dev => ?_⟩
    rcases barred with off | other | not
    · rw [on] at off; cases off
    · exact absurd own other
    · rw [dev] at not; cases not
  · rw [if_neg barred]
    have full : (q.ringFull || q.ovftail != q.ovfhead) = true ↔
        (q.tail - q.head).toNat = 2 ^ q.qsize ∨ q.ovftail ≠ q.ovfhead := by
      simp [Queue.ringFull]
    by_cases spills : (q.tail - q.head).toNat = 2 ^ q.qsize ∨ q.ovftail ≠ q.ovfhead
    · rw [if_pos (full.mpr spills)]
      by_cases most : (q.ovftail - q.ovfhead).toNat = 2 ^ q.ovfsize
      · rw [if_pos (by rw [Queue.ovfFull, beq_iff_eq]; exact most)]
        exact ⟨s, 2, rfl, fun k w hw => ⟨w, hw, w.sameButLatch_refl⟩, fun h => absurd h barred, fun _ _ _ =>
          ⟨fun ne eq => absurd (spills.resolve_left ne) (not_not_intro eq),
              fun _ => ⟨fun h => absurd most h, fun _ => ⟨rfl, queue⟩⟩⟩⟩
      · rw [if_neg (by rw [Queue.ovfFull, beq_iff_eq]; exact most)]
        obtain ⟨t, wrote, ⟨queues, warps⟩, -⟩ := slotWrite_spec l (slots (q.ovfSlot q.ovftail.toNat) (by simp))
        simp only [wrote]
        refine ⟨_, 1, rfl, warps, fun h => absurd h barred, fun _ _ _ =>
          ⟨fun ne eq => absurd (spills.resolve_left ne) (not_not_intro eq),
              fun _ => ⟨fun _ => ⟨rfl, ?_⟩, fun h => absurd h most⟩⟩⟩
        rw [State.queue_setQueue, if_pos rfl, State.queue, queues]
        exact congrArg (fun q => q.took 1) queue
    · rw [if_neg (mt full.mp spills)]
      obtain ⟨t, wrote, ⟨queues, warps⟩, bytes⟩ := slotWrite_spec l (slots slot (by simp))
      simp only [show q.ringSlot q.tail.toNat = slot from rfl, wrote]
      refine ⟨_, 0, rfl, warps, fun h => absurd h barred, fun _ _ _ => ⟨fun _ _ => ⟨rfl, ?_, bytes⟩,
          fun h => absurd h spills⟩⟩
      rw [State.queue_setQueue, if_pos rfl, State.queue, queues]
      exact congrArg (fun q => q.took 0) queue

/-- The address of the slot, and the queue's registers, are those of the state before the checks of the record's address. -/
theorem queue_read {s v : State} (units : s.sameButUnits v) (ck pa k : Nat) :
    ((v.releaseCore ck).homeRead pa 128 0 false).queue k = s.queue k := by
  have home := (State.AtHome.releaseCore v ck).trans (.homeRead _ pa 128 0 false)
  rw [State.queue, State.queue, home.queues, units.queues]

section Launched
variable {s : State} {c : Cur} {w : Warp} (h : Issues s c w) (hu : w.priv = false) (ha : w.mayAccess c.lanes)
include h hu ha

/-- A `launch` whose record may be read and whose slot is no replayable miss. -/
theorem ends_launch {d a b : SReg} {v : State} {ps : List Place}
    (inRange : ¬((w.s a).toNat % 128 ≠ 0 ∨ windowOf (w.s a).toNat ≠ .priv)) (number : (w.s b).toNat < 256)
    (placed : s.place w .load 128 false [((firstLane c.lanes).getD 0, w.s a)] = .go v ps) :
    let pa := (ps.map Place.pa).headD 0
    let r := (v.releaseCore w.coreK).homeRead pa 128 0 false
    ∀ t code, r.enqueue w.die w.asid (w.s b).toNat (r.bytes pa 128) = .ok (t, code) →
      Ends (.launch d a b) s c (t.onWarp c.warp fun w => w.setS d (BitVec.ofNat 64 code)) := by
  intro pa r t code queued
  rw [Ends, exec_launch h hu ha, if_neg inRange, if_neg (Nat.not_le.mpr number)]
  simp only [placed]
  have same : ((v.releaseCore w.coreK).homeRead ((ps.map fun p => p.pa).headD 0) 128 0 false).enqueue w.die w.asid
      (w.s b).toNat
      (((v.releaseCore w.coreK).homeRead ((ps.map fun p => p.pa).headD 0) 128 0 false).bytes
          ((ps.map fun p => p.pa).headD 0) 128) =
      .ok (t, code) := queued
  simp only [same]
  rfl

/-- A `launch` that is taken: its code, and what becomes of its queue and slot. -/
theorem launch_takes {d a b : SReg} {v : State} {ps : List Place}
    (inRange : ¬((w.s a).toNat % 128 ≠ 0 ∨ windowOf (w.s a).toNat ≠ .priv)) (number : (w.s b).toNat < 256)
    (placed : s.place w .load 128 false [((firstLane c.lanes).getD 0, w.s a)] = .go v ps) :
    let q := s.queue (queueKey w.die (w.s b).toNat)
    let pa := (ps.map Place.pa).headD 0
    let r := (v.releaseCore w.coreK).homeRead pa 128 0 false
    let slot := q.ringSlot q.tail.toNat
    (∀ x ∈ [slot, q.ovfSlot q.ovftail.toNat], (r.translateDie w.die w.asid x).2 ≠ .replay) →
    ∃ (t : State) (u : Warp) (code : Nat), Ends (.launch d a b) s c t ∧ t.warp c.warp = some u ∧
      (u.s d = if d = 0 then 0 else BitVec.ofNat 64 code) ∧ u.vregs = w.vregs ∧ u.pregs = w.pregs ∧
      let q' := t.queue (queueKey w.die (w.s b).toNat)
      (q.enable = false ∨ q.asid ≠ w.asid ∨ q.devq = false → code = 3 ∧ q' = q) ∧
      (q.enable = true → q.asid = w.asid → q.devq = true →
        ((q.tail - q.head).toNat ≠ 2 ^ q.qsize → q.ovftail = q.ovfhead → code = 0 ∧ q' = { q with tail := q.tail + 1 } ∧
          ∀ f, (r.translateDie w.die w.asid slot).2 = .leaf f → slot < 2 ^ 55 → f.canWrite = true → f.fmt = 0 →
            let at_ := f.pa + slot % pageBytes f.level
            memoryExists at_ 128 = true → t.bytes at_ 128 = r.bytes pa 128) ∧
        ((q.tail - q.head).toNat = 2 ^ q.qsize ∨ q.ovftail ≠ q.ovfhead →
          ((q.ovftail - q.ovfhead).toNat ≠ 2 ^ q.ovfsize → code = 1 ∧ q' = { q with ovftail := q.ovftail + 1 }) ∧
          ((q.ovftail - q.ovfhead).toNat = 2 ^ q.ovfsize → code = 2 ∧ q' = q))) := by
  intro q pa r slot slots
  have queue : r.queue (queueKey w.die (w.s b).toNat) = q := queue_read (State.sameButUnits.place placed) _ _ _
  obtain ⟨t, code, queued, warps, spec⟩ := enqueue_spec (s := r) (die := w.die) (asid := w.asid) (n := (w.s b).toNat)
      (r.bytes pa 128)
    (by rw [queue]; exact slots)
  rw [queue, State.bytes_length] at spec
  have reads := State.keepsWarps_trans (State.keepsWarps_of_units (State.sameButUnits.place placed))
    (State.keepsWarps_of_home ((State.AtHome.releaseCore v w.coreK).trans (.homeRead _ pa 128 0 false)))
  obtain ⟨x, hx, kept⟩ := reads.2 _ _ h.warp
  obtain ⟨u, hu', kept'⟩ := warps _ _ hx
  have same := Warp.sameButLatch_trans kept kept'
  have ends := ends_launch h hu ha (d := d) inRange number placed t code queued
  rw [State.onWarp_some _ hu'] at ends
  refine ⟨_, _, code, ends, State.warp_setWarp_same _ _ _, ?_, ?_, ?_, spec⟩
  · rw [Warp.s_setS]
    by_cases zero : d = 0
    · rw [if_pos zero, if_pos zero]
    · rw [if_neg zero, if_neg zero, if_pos rfl]
  · rw [Warp.setS_vregs, same]
  · rw [Warp.setS_pregs, same]

end Launched

/-! ### `trigger` and `next` -/

section Trigger
variable {s : State} {c : Cur} {w : Warp} (h : Issues s c w) (hu : w.priv = false)
include h hu

theorem ends_trigger : Ends .trigger s c
    (((s.releaseCore w.coreK).onWarp c.warp fun w => w.trigger c.lanes).checkGangTriggered w.gang) :=
  ends_userOnly h hu (free_nil w) rfl rfl

omit hu in
/-- While another lane is not triggered, `trigger` marks its lanes. -/
theorem trigger_marks (another : ∃ i, i < w.lanes.length ∧ i < 64 ∧ c.lanes.getLsbD i = false ∧ (w.lane i).stat ≠ .exited ∧
      (w.lane i).triggered = false) : ∃ u,
    (((s.releaseCore w.coreK).onWarp c.warp fun w => w.trigger c.lanes).checkGangTriggered w.gang).warp c.warp = some u ∧
      ({ w with lanes := u.lanes } : Warp).sameButLatch u ∧ ∀ l, l < w.lanes.length → l < 64 →
        u.lane l = if c.lanes.getLsbD l = true then { w.lane l with triggered := true } else w.lane l := by
  obtain ⟨i, hi, h64, outside, lives, unmarked⟩ := another
  obtain ⟨x, hx, same⟩ := (State.AtHome.releaseCore s w.coreK).warp _ _ h.warp
  have lanes : x.lanes = w.lanes := by rw [same]
  have lane : ∀ l, x.lane l = w.lane l := fun l => by rw [Warp.lane, Warp.lane, lanes]
  have marked : ∀ l, l < w.lanes.length → (x.trigger c.lanes).lane l =
      if c.lanes.getLsbD l = true then { w.lane l with triggered := true } else w.lane l := fun l hl => by
    rw [Warp.trigger, Warp.lane_onLanes _ _ _ _ (by rw [lanes]; exact hl), lane]
  have gang : (x.trigger c.lanes).gang = w.gang := by rw [same]; rfl
  have kept : (x.trigger c.lanes).lane i = w.lane i := by rw [marked i hi, outside]; rfl
  have waits : (x.trigger c.lanes).isTriggered = false :=
    Warp.isTriggered_of_lane (i := i) (by rw [Warp.trigger, Warp.onLanes_length, lanes]; exact hi) (by rw [kept]; exact lives)
      (by rw [kept]; exact unmarked)
  rw [State.onWarp_some _ hx, ← gang, checkGangTriggered_of_untriggered (mem_of_mfind (mfind_mput_same _ _ _)) waits]
  refine ⟨_, State.warp_setWarp_same _ _ _, ?_, fun l hl _ => marked l hl⟩
  rw [Warp.sameButLatch, same]
  rfl

/-- The entry that `next` finds. -/
def nextEntry (s : State) (w : Warp) : Option (SchedTable × Nat) :=
  (s.core w.coreK).sched.bind fun t =>
    if t.gang = w.gang ∧ t.member = w.member then (t.entries[t.cursor]?).map fun x => (t, x) else none

theorem exec_next (d : SReg) (p : PReg) : exec (.next d p) s = State.settle c (
    if s.hasSched w.gang = false then .trap s 0x12 3 false
    else match nextEntry s w with
      | some (t, x) => .done (
          (s.setCore w.coreK { s.core w.coreK with sched := some { t with cursor := t.cursor + 1 } }).setWarp c.warp
            ((w.setS d (BitVec.ofNat 64 x)).setP p c.lanes 0))
      | none => .done (s.setWarp c.warp ((w.setS d 0xFFFFFFFF).setP p c.lanes c.lanes))) :=
  run_userOnly h hu (free_nil w) _

end Trigger

/-- Settles O44: the code and the queue by what the ring and the overflow ring hold; the marks of `trigger`; the table of
`next`. -/
theorem launchMembers : Obligations.LaunchMembers := by
  unfold Obligations.LaunchMembers
  intro s c w h hu
  refine ⟨fun ha d a b => ?_, ⟨_, ends_trigger h hu, trigger_marks h⟩,
    fun d p => ⟨fun none => ?_, fun has t ht gang member => ⟨fun x hx => ?_, fun past => ?_⟩⟩⟩
  · refine ⟨traps_launch_address h hu ha d a b, fun aligned low => traps_launch_number h hu ha d a b
      (inRange_of aligned low), ?_⟩
    exact fun v ps aligned low number placed => launch_takes h hu ha (inRange_of aligned low) number placed
  · rw [Traps, exec_next h hu, if_pos none]
    rfl
  · have entry : nextEntry s w = some (t, x) := by
      rw [nextEntry, ht, Option.bind_some, if_pos ⟨gang, member⟩, hx]
      rfl
    refine ⟨_, ?_, rfl⟩
    rw [Ends, exec_next h hu, has, if_neg (by decide)]
    simp only [entry]
    rfl
  · have entry : nextEntry s w = none := by
      rw [nextEntry, ht, Option.bind_some, if_pos ⟨gang, member⟩, List.getElem?_eq_none past]
      rfl
    rw [Lands, Ends, exec_next h hu, has, if_neg (by decide)]
    simp only [entry]
    rfl

end Sys2Proof.Machine
end

section
/-!
PROOFS. A departure (07 R178) while a write of H to RSTCTL waits at the package's block: the release of what has arrived performs it,
and the package reset that it asks for (19 R300) makes the departed die live again.
-/

namespace Sys2Proof.Machine
open Sys2Proof

/-- H's write of RSTCTL bit 63, the package reset. -/
def resetWrite : Packet := mkPacket 8 9 3 0 (.register 0x8000018 8 (some (BitVec.ofNat 64 (2 ^ 63))) 0) none none

/-- The reset state, but for that write, which has arrived and is still to be delivered. -/
def resetWaits : State := { State.reset with cway := State.reset.cway.setHeld 8 9 [resetWrite] }

/-- Whether a die has departed in the state that an outcome leads to. -/
def Outcome.gone (o : Host.Outcome State Fault Refusal) (die : Nat) : Option Bool :=
  match o with
  | .next t => some (t.gone die)
  | _ => none

theorem departure_resetWaits : Outcome.gone (exec (.departure 0) resetWaits) 0 = some false := by decide +kernel

/-- Refutes O45: die 0 departs while H's write of the package reset waits to be delivered. Step 3 of R178 delivers it, every register
is at its reset value after it, and die 0 has not departed. -/
theorem not_causewayPackets : ¬ Obligations.CausewayPackets := by
  unfold Obligations.CausewayPackets
  rintro ⟨_, h⟩
  obtain ⟨_, _, _, departs⟩ := h resetWaits
  obtain ⟨t, ends, gone, _⟩ := (departs 0).2 (by decide)
  have live := departure_resetWaits
  rw [ends, Outcome.gone, gone] at live
  exact absurd live (by decide)

end Sys2Proof.Machine
end

section
/-!
PROOFS. The last stage of a switch on a die (15 R253 stage 5): what it leaves in a core whose matrix queue the drain left filled.
-/

namespace Sys2Proof.Machine
open Sys2Proof

/-- A matrix command of context 0. -/
def leftCommand : MatrixCmd :=
  { id := 0, warp := 0, gang := 0, asid := 0, die := 0, kind := .mzero, block := [], out := 0, idx := [], cvtmode := 0, draw := 0,
    onLanes := false, paused := none, asked := none, fetched := [], short := false, ran := false, packets := 0 }

/-- Context 0 has been saved and leaves cluster 0 of die 0, whose core 0 still holds a matrix command. -/
def savedWithQueue : State :=
  ((State.reset.setCtx (ctxKey 0 0) { State.reset.ctx (ctxKey 0 0) with stage := .saved, leaving := [0] }).setCluster (clusterKey 0 0)
    { State.reset.cluster (clusterKey 0 0) with asid := some 0 }).setCore (coreKey 0 0)
    { State.reset.core (coreKey 0 0) with mq := [leftCommand] }

/-- The matrix queue of a core in the state that an outcome leads to. -/
def Outcome.matrixQueue (o : Host.Outcome State Fault Refusal) (k : Nat) : Option (List MatrixCmd) :=
  match o with
  | .next t => some (t.core k).mq
  | _ => none

theorem switchClear_keeps_queue :
    Outcome.matrixQueue (exec (.switchClear 0 0) savedWithQueue) (coreKey 0 0) = some [leftCommand] := by
  decide +kernel

theorem savedWithQueue_stage : (savedWithQueue.ctx (ctxKey 0 0)).stage = .saved ∧ 0 ∈ (savedWithQueue.ctx (ctxKey 0 0)).leaving ∧
    (savedWithQueue.cluster (clusterKey 0 0)).asid = some 0 := by
  decide +kernel

/-- Refutes O51: clearing a cluster zeroes accumulators, histograms, caches and the schedule table of its cores, and leaves their
matrix queues as they are: those are emptied by the drain alone, and a core may come to this stage with a command in its queue. -/
theorem not_switches : ¬ Obligations.Switches := by
  unfold Obligations.Switches
  intro h
  obtain ⟨stage, leaving, serves⟩ := savedWithQueue_stage
  obtain ⟨_, _, _, _, clears, _⟩ := h savedWithQueue 0 0
  obtain ⟨t, ends, _, _, cleared⟩ := clears stage
  obtain ⟨_, _, _, _, queue, _⟩ := (cleared 0 leaving serves).2 0 (by decide)
  have kept := switchClear_keeps_queue
  rw [ends, Outcome.matrixQueue, Option.some.injEq] at kept
  exact absurd (kept.symm.trans queue) (by decide)

end Sys2Proof.Machine
end

section
/-!
PROOFS. The kill command of the host (19 R295) where the number of its die is that of the firmware's own agent.
-/

namespace Sys2Proof.Machine
open Sys2Proof

/-- Agent 9, the firmware's own, as a die with a bound context whose launch is to signal H, and an F1 that takes commands. -/
def ninthDieBound : State :=
  { ninthDieState with ctxs := [(ctxKey 9 0, { State.reset.ctx (ctxKey 9 0) with bound := true })],
                       host := { ninthDieState.host with accepting := true } }

theorem ninthDieBound_hostHears : ninthDieBound.hostHears := by
  refine ⟨⟨rfl, rfl, rfl, mayInject_atReset 9 8 (by decide), by decide⟩, fun k => ?_⟩
  by_cases same : ctxKey 9 0 = k
  · subst same
    rfl
  · have unbound : mget Ctx.unbound ninthDieBound.ctxs k = Ctx.unbound := by
      simp [ninthDieBound, mget, mfind, same]
    rw [State.ctx, unbound]
    rfl

/-- The command to kill context 0 of die 9. -/
def killNinth : List Xword := [0x900]

/-- Eight bytes of memory in the state that an outcome leads to. -/
def Outcome.word (o : Host.Outcome State Fault Refusal) (pa : Nat) : Option Nat :=
  match o with
  | .next t => some (t.num pa 8)
  | _ => none

theorem killNinth_unanswered : Outcome.word (exec (.cmdKillContext killNinth) ninthDieBound) (hostPa 64) = some 0 := by
  decide +kernel

/-- Refutes O53: a command to kill names any die, and on agent 9, the firmware, the kill sends H the atomic of the launch that it
ends. The command's answer then waits behind it, and its place in the event ring still holds 0. -/
theorem not_hostCommands : ¬ Obligations.HostCommands := by
  unfold Obligations.HostCommands
  intro h
  obtain ⟨_, _, accepted⟩ := h ninthDieBound killNinth
  obtain ⟨_, _, _, _, _, kills, _⟩ := accepted rfl (by decide)
  obtain ⟨t, ends, _, posts, _⟩ := kills rfl rfl
  have answer := (posts (by decide)).2 ninthDieBound_hostHears
  have held := killNinth_unanswered
  rw [ends, Outcome.word, Option.some.injEq] at held
  exact absurd (held.symm.trans answer) (by decide)

end Sys2Proof.Machine
end

section
/-!
PROOFS. A prologue (14 R235) that its own context's kill overtakes: the word that it fetches from another die's memory is asked for by
a packet whose dependency entry names an agent that there is not, and R174 kills the context for it.
-/

namespace Sys2Proof.Machine
open Sys2Proof

/-- A launch of context 0 on die 0 whose prologue stands at 0x8000. -/
def prologueLaunch : Launch := { signallingLaunch with die := 0, record := List.replicate 6 0 ++ [0x8000] }

/-- Address 0x8000 is in die 1's memory. -/
def farPage : Leaf := { hostPage with pa := 2 ^ 48 + 0x100000, canFetch := true }

/-- The launch is its queue's head, its context is bound, and die 0's entry for agent 10 is dirty for die 1. -/
def prologueState : State :=
  { State.reset with
    launches := [(0, prologueLaunch)], dies := [(0, { Die.atReset with tlb := [farPage] })],
    ctxs := [(ctxKey 0 0, { Ctx.unbound with bound := true })],
    queues := [(queueKey 0 0, { Queue.unused with headLaunch := some 0 })],
    cway := { State.reset.cway with dirty := [(dirtyKey 0 1 10 2, true)] } }

/-- Whether a prologue failed. -/
def ProEnd.failed (e : ProEnd) : Bool :=
  match e with
  | .ended _ none => true
  | .ended _ (some _) | .waits _ => false

theorem ProEnd.eq_of_failed {e : ProEnd} (h : e.failed = true) : ∃ v, e = .ended v none := by
  cases e with
  | ended v w =>
    cases w with
    | none => exact ⟨v, rfl⟩
    | some w => cases h
  | waits v => cases h

/-- The stage of a launch in the state that an outcome leads to. -/
def Outcome.stage (o : Host.Outcome State Fault Refusal) (lid : Nat) : Option LaunchStage :=
  match o with
  | .next t => (mfind t.launches lid).map Launch.stage
  | _ => none

theorem prologueState_fails : (prologueState.proLoop 256 prologueLaunch.proWarp).failed = true := by decide +kernel

theorem prologueState_runs : Outcome.stage (exec (.prologueRun 0 0) prologueState) 0 = some (.ended 4) := by decide +kernel

/-- Refutes O50: a prologue that fails after its fetch has had its context killed leaves its launch ended with the status of the
kill, not with 6. -/
theorem not_launchEvents : ¬ Obligations.LaunchEvents := by
  unfold Obligations.LaunchEvents
  intro h
  obtain ⟨v, failed⟩ := ProEnd.eq_of_failed prologueState_fails
  obtain ⟨_, _, _, _, _, heads, _⟩ := h prologueState 0 0
  obtain ⟨prologues, _⟩ := heads 0 prologueLaunch rfl rfl
  obtain ⟨t, ends, x, found, stage⟩ := (prologues rfl (by decide) v).1 failed
  have killed := prologueState_runs
  rw [ends, Outcome.stage, found, Option.map_some, Option.some.injEq] at killed
  rw [killed] at stage
  revert stage
  decide

end Sys2Proof.Machine
end

section
/-!
PROOFS. The engines (09 R188, R189, R196 to R198, R203, R207, 23 R396): slices of copies in local memory,
    the ends of copies and
collectives, and the commands of the matrix engine.
-/

namespace Sys2Proof.Machine
open Sys2Proof

/-! ### A status word and its frame -/

/-- The number in the bytes of a number. -/
theorem leNat_leBytes (n x : Nat) : leNat (leBytes n x) = x % 256 ^ n := by
  induction n generalizing x with
  | zero => simp [leBytes, leNat, Nat.mod_one]
  | succ n ih =>
    have bytes : leBytes (n + 1) x = BitVec.ofNat 8 x :: leBytes n (x / 256) := by
      simp only [leBytes, List.range_succ_eq_map, List.map_cons, List.map_map, Nat.pow_zero, Nat.div_one]
      refine congrArg _ (List.map_congr_left fun k _ => ?_)
      rw [Function.comp_apply, Nat.pow_succ', Nat.div_div_eq_div_mul]
    have number : leNat (BitVec.ofNat 8 x :: leBytes n (x / 256)) = (BitVec.ofNat 8 x).toNat + 256 * leNat
        (leBytes n (x / 256)) :=
      rfl
    have parts : x % 256 ^ (n + 1) = x % 256 + 256 * (x / 256 % 256 ^ n) := by rw [Nat.pow_succ', Nat.mod_mul]
    rw [bytes, number, ih, BitVec.toNat_ofNat, parts]

/-- A line that a core holds needs no room. -/
theorem State.l1Room_of_held {s : State} {ck k : Nat} {x : Sector} (h : mfind (s.core ck).l1 k = some x) :
    s.l1Room ck (k / 4) = s := by
  have held : (s.core ck).l1Lines.contains (k / 4) = true := by
    rw [List.contains_iff_mem, Core.l1Lines, mem_distinct, List.mem_append]
    exact .inl (List.mem_map_of_mem (f := fun e : Nat × Sector => e.1 / 4) (mem_of_mfind h))
  rw [State.l1Room, held]
  simp

/-- The core's own copy follows a write, and no byte of memory changes. -/
theorem State.l1Follow_mem (s : State) (ck pa : Nat) (l : List Byte) : (s.l1Follow ck pa l).mem = s.mem := by
  unfold State.l1Follow
  simp only
  split
  · rfl
  · next valid =>
    have latched : (s.dropLatch ck pa l).mem = s.mem ∧ (s.dropLatch ck pa l).core ck =
        { s.core ck with latch := ((s.dropLatch ck pa l).core ck).latch } := by
      unfold State.dropLatch
      split
      · exact ⟨rfl, by rw [State.core_setCore, if_pos rfl]⟩
      · exact ⟨rfl, rfl⟩
    obtain ⟨mem, core⟩ := latched
    unfold State.setSector
    split
    · exact mem
    · cases held : mfind (s.core ck).l1 (sectorOf pa) with
      | none =>
        rw [State.sector, held] at valid
        exact absurd rfl valid
      | some x => rw [State.l1Room_of_held (x := x) (by rw [core]; exact held), State.setCore_mem, mem]

/-- The same bytes give the same number. -/
theorem State.num_congr {s t : State} (h : ∀ x, s.byte x = t.byte x) (pa n : Nat) : s.num pa n = t.num pa n :=
  congrArg leNat (List.map_congr_left fun k _ => h (pa + k))

/-- A number written at its home is read there. -/
theorem State.num_homeWrite_placed (s : State) (pa n x : Nat) : (s.homeWrite (placed pa (leBytes n x))).num pa n =
    x % 256 ^ n := by
  have bytes := s.bytes_homeWrite_placed pa (leBytes n x)
  rw [leBytes_length] at bytes
  rw [State.num, bytes, leNat_leBytes]

/-- Without update-only lines there is nothing to push. -/
theorem State.pushLine_of_none {s : State} {ck : Nat} (h : (s.core ck).uo = []) (line : Nat) : s.pushLine ck line = s := by
  rw [State.pushLine, h]
  rfl

/-- A status word is written where there is memory for it, and by a core without update-only lines nothing else is. -/
theorem State.statusWrite_spec (s : State) (ck pa word : Nat) :
    (memoryExists pa 8 = true → (s.statusWrite ck pa word).num pa 8 = word % 2 ^ 64) ∧
    ((s.core ck).uo = [] → ∀ x, x < pa ∨ pa + 8 ≤ x → (s.statusWrite ck pa word).byte x = s.byte x) := by
  have follows : ∀ (l : List (Nat × Byte)) (v : State), (l.foldl (fun s e => s.l1Follow ck e.1 [e.2]) v).mem = v.mem :=
    fun l v => foldl_mem (fun s e => s.l1Follow_mem ck _ _) l v
  have written : ∀ x, (s.writeHome ck (placed pa (leBytes 8 word))).byte x =
      (((distinct ((placed pa (leBytes 8 word)).map fun e => lineOf e.1)).foldl (fun s k => s.pushLine ck k) s).homeWrite
        (placed pa (leBytes 8 word))).byte x := fun x => by
    rw [State.byte, State.writeHome, State.writeHomeBy, follows]
    rfl
  constructor
  · intro there
    rw [State.statusWrite, if_pos there, State.num_congr written, State.num_homeWrite_placed,
      show 256 ^ 8 = 2 ^ 64 by norm_num]
  · intro none x outside
    rw [State.statusWrite]
    split
    · rw [written, State.byte_homeWrite_placed, if_neg (by rw [leBytes_length]; omega),
        List.foldl_fixed' fun k => State.pushLine_of_none none k]
    · rfl

theorem State.AtHome.statusWrite (s : State) (ck pa word : Nat) : s.AtHome (s.statusWrite ck pa word) :=
  .ite (.writeHome s ck _) (.refl s)

/-! ### The end of a command -/

/-- What the end of a command of warp k of a context does beside its leaving the engine: its status word is written and, by a
core without update-only lines, nothing else; and the copy counter of the warp falls. -/
def State.endsCommand (s t : State) (k die asid pa word : Nat) : Prop :=
  (memoryExists pa 8 = true → t.num pa 8 = word) ∧
  ((s.core (k / 2 ^ 9)).uo = [] → ∀ x, x < pa ∨ pa + 8 ≤ x → t.byte x = s.byte x) ∧
  ∀ w, s.warp k = some w → w.ofCtx die asid = true → ∃ u, t.warp k = some u ∧ u.copies = w.copies - 1

@[simp] theorem Warp.stir_copies (w : Warp) : w.stir.copies = w.copies := by
  unfold Warp.stir
  split <;> rfl

@[simp] theorem Warp.stir_matrix (w : Warp) : w.stir.matrix = w.matrix := by
  unfold Warp.stir
  split <;> rfl

theorem Warp.stir_ofCtx (w : Warp) (die asid : Nat) : w.stir.ofCtx die asid = w.ofCtx die asid := by
  unfold Warp.stir
  split <;> rfl

@[simp] theorem State.onOwner_dies (s : State) (k die asid : Nat) (f : Warp → Warp) : (s.onOwner k die asid f).dies =
    s.dies := by
  unfold State.onOwner
  split
  · split <;> rfl
  · rfl

@[simp] theorem State.onOwner_clusters (s : State) (k die asid : Nat) (f : Warp → Warp) :
    (s.onOwner k die asid f).clusters = s.clusters := by
  unfold State.onOwner
  split
  · split <;> rfl
  · rfl

@[simp] theorem State.onOwner_cores (s : State) (k die asid : Nat) (f : Warp → Warp) :
    (s.onOwner k die asid f).cores = s.cores := by
  unfold State.onOwner
  split
  · split <;> rfl
  · rfl

theorem State.onOwner_evring (s : State) (k die asid : Nat) (f : Warp → Warp) (j : Nat) :
    ((s.onOwner k die asid f).ctx j).evring = (s.ctx j).evring := by
  have saved : ∀ i, ((s.onSaved k i f).ctx j).evring = (s.ctx j).evring := fun i => by
    rw [State.onSaved, State.ctx_setCtx]
    split
    · subst_vars
      rfl
    · rfl
  unfold State.onOwner
  split
  · split
    · rfl
    · exact saved _
  · exact saved _

/-- A resident warp of its context is changed where it stands. -/
theorem State.warp_onOwner {s : State} {k : Nat} {w : Warp} (h : s.warp k = some w) {die asid : Nat}
    (mine : w.ofCtx die asid = true) (f : Warp → Warp) : (s.onOwner k die asid f).warp k = some (f w) := by
  rw [Warp.ofCtx, Bool.and_eq_true, beq_iff_eq, beq_iff_eq] at mine
  rw [State.onOwner, h]
  simp only [if_pos mine, State.warp_setWarp_same]

theorem State.warp_stirCtx_eq (s : State) (die asid k : Nat) :
    (s.stirCtx die asid).warp k = (s.warp k).map fun w => if w.ofCtx die asid then w.stir else w := by
  rw [State.warp, State.stirCtx, mfind_mmap]
  rfl

/-- The status word of a command is written, and the counter of its warp falls. -/
theorem State.endsCommand_status (s : State) (k die asid pa word : Nat) : s.endsCommand
    ((s.statusWrite (issuerCore k) pa word).onOwner k die asid Warp.copyFall) k die asid pa (word % 2 ^ 64) := by
  obtain ⟨number, others⟩ := s.statusWrite_spec (issuerCore k) pa word
  have bytes : ∀ x, ((s.statusWrite (issuerCore k) pa word).onOwner k die asid Warp.copyFall).byte x =
      (s.statusWrite (issuerCore k) pa word).byte x := fun x => by rw [State.byte, State.onOwner_mem, State.byte]
  refine ⟨fun there => (State.num_congr bytes _ _).trans (number there), fun none x out => (bytes x).trans
      (others none x out),
    fun w hw mine => ?_⟩
  obtain ⟨u, hu, same⟩ := (State.AtHome.statusWrite s (issuerCore k) pa word).warp k w hw
  refine ⟨_, State.warp_onOwner hu (by rw [same]; exact mine) _, ?_⟩
  rw [Warp.copyFall, Warp.stir_copies, same]

/-- What comes before and after that changes neither memory nor what the warp counts. -/
theorem State.endsCommand.of_same {s u v t : State} {k die asid pa word : Nat} (h : u.endsCommand v k die asid pa word)
    (mem : u.mem = s.mem) (core : (u.core (k / 2 ^ 9)).uo = (s.core (k / 2 ^ 9)).uo)
    (warp : ∀ w, s.warp k = some w → ∃ x, u.warp k = some x ∧ x.copies = w.copies ∧ x.ofCtx die asid = w.ofCtx die asid)
    (mem' : t.mem = v.mem) (warps' : t.warps = v.warps) : s.endsCommand t k die asid pa word := by
  obtain ⟨number, others, counter⟩ := h
  have bytes : ∀ x, t.byte x = v.byte x := fun x => by rw [State.byte, mem', State.byte]
  refine ⟨fun there => (State.num_congr bytes _ _).trans (number there), fun none x out => ?_, fun w hw mine => ?_⟩
  · rw [bytes, others (core.trans none) x out, State.byte, mem, State.byte]
  · obtain ⟨x, hx, copies, owner⟩ := warp w hw
    obtain ⟨y, hy, fall⟩ := counter x hx (owner.trans mine)
    exact ⟨y, by rw [State.warp, warps']; exact hy, fall.trans (by rw [copies])⟩

/-- A command that ends without a fault, or whose context has no event ring, tells its context nothing. -/
theorem State.finishCopy_eq {s : State} {c : CopyCmd} (quiet : c.fault = none ∨ (s.ctx (ctxKey c.die c.asid)).evring = 0) :
    s.finishCopy c =
      (s.statusWrite (issuerCore c.warp) c.tokenPa (statusWord c.fault)).onOwner c.warp c.die c.asid Warp.copyFall := by
  unfold State.finishCopy
  simp only
  split
  · rfl
  · next found =>
    have ring := (quiet.resolve_left (by rw [found]; exact Option.some_ne_none _))
    have written := (State.AtHome.statusWrite s (issuerCore c.warp) c.tokenPa (statusWord c.fault)).ctx (ctxKey c.die c.asid)
    rw [State.ctxEvent, State.onOwner_evring, written, ring]
    rfl

/-! ### Copies (R196, R197) -/

theorem State.copyRest_shape (s : State) (die cl asid : Nat) : ∃ clusters, s.copyRest die cl asid =
    { s with clusters := clusters } ∧
    ∀ k, ((s.copyRest die cl asid).cluster k).cq = (s.cluster k).cq := by
  unfold State.copyRest
  simp only
  split
  · refine ⟨_, rfl, fun k => ?_⟩
    rw [State.cluster_setCluster]
    split
    · subst_vars
      rfl
    · rfl
  · exact ⟨_, rfl, fun _ => rfl⟩

/-- The end of a copy: it leaves the queue of its cluster, and its status is written. -/
theorem State.copy_ends {s : State} {die cl id : Nat} {c : CopyCmd}
    (quiet : c.fault = none ∨ (s.ctx (ctxKey c.die c.asid)).evring = 0) :
    let t := ((s.dropCopy (clusterKey die cl) id c).finishCopy c).copyRest die cl c.asid
    ((t.cluster (clusterKey die cl)).cq = (s.cluster (clusterKey die cl)).cq.filter fun q => q.id ≠ id) ∧
      s.endsCommand t c.warp c.die c.asid c.tokenPa (statusWord c.fault % 2 ^ 64) := by
  obtain ⟨u, hu⟩ : ∃ u, u = s.dropCopy (clusterKey die cl) id c := ⟨_, rfl⟩
  have finish : u.finishCopy c = _ := State.finishCopy_eq (by rw [hu]; exact quiet)
  obtain ⟨clusters, rest, queues⟩ := (u.finishCopy c).copyRest_shape die cl c.asid
  intro t
  have ht : t = (u.finishCopy c).copyRest die cl c.asid := by rw [hu]
  rw [ht]
  constructor
  · have kept : (u.finishCopy c).cluster (clusterKey die cl) = u.cluster (clusterKey die cl) := by
      rw [finish, State.cluster, State.onOwner_clusters, (State.AtHome.statusWrite u _ _ _).clusters]
      rfl
    have left : (u.cluster (clusterKey die cl)).cq = (s.cluster (clusterKey die cl)).cq.filter fun q => q.id ≠ id := by
      rw [hu, State.dropCopy]
      have stirred : ∀ v : State, (v.stirCtx c.die c.asid).cluster (clusterKey die cl) = v.cluster
          (clusterKey die cl) := fun _ => rfl
      rw [stirred, State.cluster_setCluster, if_pos rfl]
    rw [queues, kept, left]
  · have ended := u.endsCommand_status c.warp c.die c.asid c.tokenPa (statusWord c.fault)
    rw [← finish] at ended
    refine ended.of_same (by rw [hu]; rfl) (by rw [hu]; rfl) (fun w hw => ?_) (by rw [rest]) (by rw [rest])
    have stirred : u.warp c.warp = (s.warp c.warp).map fun w => if w.ofCtx c.die c.asid then w.stir else w := by
      rw [hu, State.dropCopy, State.warp_stirCtx_eq]
      rfl
    rw [hw, Option.map_some] at stirred
    refine ⟨_, stirred, ?_, ?_⟩
    · split
      · exact Warp.stir_copies w
      · rfl
    · split
      · exact Warp.stir_ofCtx w _ _
      · rfl

/-- What a slice of a `cpy` within local memory moves. -/
theorem State.sliceOf_local {s : State} {c : CopyCmd} {src dst n : Nat} (kind : c.kind = .linear src dst n true true) :
    s.sliceOf c =
      let m := min (n - c.slice) (128 - (dst + c.slice) % 128)
      .go s { events := [], locals := [(dst + c.slice, s.localBytes c.gang (src + c.slice) m)], draw := c.draw, count :=
          m } := by
  rw [State.sliceOf, kind]
  rfl

/-- A slice of a `cpy` within local memory: its bytes move, and the copy goes on behind it. -/
theorem exec_copySlice {s : State} {die cl : Nat} {c : CopyCmd} {src dst n : Nat} (turn : s.turn (clusterKey die cl) = some c)
    (kind : c.kind = .linear src dst n true true) (plain : c.acq = false) :
    let clk := clusterKey die cl
    let m := min (n - c.slice) (128 - (dst + c.slice) % 128)
    exec (.copySlice die cl) s = .next ((((s.setCluster clk { s.cluster clk with lastTurn :=
        c.warp }).localPoke c.gang (dst + c.slice)
      (s.localBytes c.gang (src + c.slice) m)).onCopy clk c.id fun q =>
        ({ q with slice := q.slice + m, draw := c.draw, owes := c.owes, fetched := [] } : CopyCmd).settled)) := by
  intro clk m
  obtain ⟨u, hu⟩ : ∃ u, u = s.setCluster clk { s.cluster clk with lastTurn := c.warp } := ⟨_, rfl⟩
  have owed : u.takeOwed c = (u, c) := by
    rw [State.takeOwed, State.sliceOf_local kind]
    cases c.owes with
    | none => rfl
    | some lane => exact if_pos rfl
  change execCopySlice die cl s = _
  rw [execCopySlice, turn]
  simp only
  rw [if_neg (by rw [plain]; exact fun h => Bool.noConfusion h.1), ← hu, owed]
  simp only [State.sliceOf_local kind]
  subst hu
  rfl

/-! ### Collectives (R198) -/

/-- A collective leaves the engine of its die. -/
def State.dropColl (s : State) (c : CopyCmd) : State :=
  s.setDie c.die { s.die c.die with colls := (s.die c.die).colls.filter fun x => x.1.id ≠ c.id }

/-- A collective leaves its die's engine, with a status word. -/
def State.closeColl (s : State) (c : CopyCmd) (word : Nat) : State :=
  ((s.dropColl c).statusWrite (issuerCore c.warp) c.tokenPa word).onOwner c.warp c.die c.asid Warp.copyFall

theorem State.abandonColl_eq (s : State) (c : CopyCmd) : s.abandonColl c = s.closeColl c 3 := rfl

theorem State.endColl_none (s : State) (c : CopyCmd) : s.endColl c none = s.closeColl c 1 := by
  rw [State.endColl, State.finishCopy_eq (.inl rfl)]
  rfl

theorem State.closeColl_colls (s : State) (c : CopyCmd) (word d : Nat) : ((s.closeColl c word).die d).colls =
    if d = c.die then (s.die d).colls.filter fun x => x.1.id ≠ c.id else (s.die d).colls := by
  have written := (State.AtHome.statusWrite (s.dropColl c) (issuerCore c.warp) c.tokenPa word).die d
  rw [State.closeColl, State.die, State.onOwner_dies]
  change (((s.dropColl c).statusWrite (issuerCore c.warp) c.tokenPa word).die d).colls = _
  rw [written, State.dropColl, State.die_setDie]
  split
  · subst_vars
    rfl
  · rfl

theorem State.closeColl_ends (s : State) (c : CopyCmd) (word : Nat) :
    s.endsCommand (s.closeColl c word) c.warp c.die c.asid c.tokenPa (word % 2 ^ 64) :=
  ((s.dropColl c).endsCommand_status c.warp c.die c.asid c.tokenPa word).of_same rfl rfl
      (fun w hw => ⟨w, hw, rfl, rfl⟩) rfl rfl

/-- Collectives that are abandoned have left the engines of their dies. -/
theorem State.foldl_abandonColl (l : List CopyCmd) (s : State) :
    (∀ d, ∀ x ∈ ((l.foldl State.abandonColl s).die d).colls, x ∈ (s.die d).colls) ∧
    ∀ m ∈ l, ∀ x ∈ ((l.foldl State.abandonColl s).die m.die).colls, x.1.id ≠ m.id := by
  induction l generalizing s with
  | nil => exact ⟨fun _ _ h => h, fun _ h => absurd h List.not_mem_nil⟩
  | cons c r ih =>
    obtain ⟨fewer, gone⟩ := ih (s.abandonColl c)
    have left : ∀ d, ∀ x ∈ ((s.abandonColl c).die d).colls, x ∈ (s.die d).colls ∧ (d = c.die → x.1.id ≠ c.id) :=
        fun d x hx => by
      rw [State.abandonColl_eq, State.closeColl_colls] at hx
      split at hx
      · exact ⟨List.mem_of_mem_filter hx, fun _ => of_decide_eq_true (List.mem_filter.1 hx).2⟩
      · next other => exact ⟨hx, fun h => absurd h other⟩
    refine ⟨fun d x hx => (left d x (fewer d x hx)).1, fun m hm x hx => ?_⟩
    rcases List.mem_cons.1 hm with rfl | hr
    · exact (left _ x (fewer _ x hx)).2 rfl
    · exact gone m hr x hx

/-- What a late arrival costs is nothing but a bias of a context. -/
theorem State.earlinessOf_shape (s : State) (ends all : List CopyCmd) (late : Nat) :
    ∃ ctxs, s.earlinessOf ends all late = { s with ctxs := ctxs } := by
  unfold State.earlinessOf
  simp only
  generalize (all.map fun c => c.arrived).foldl max late = latest
  induction ends generalizing s with
  | nil => exact ⟨_, rfl⟩
  | cons c r ih =>
    obtain ⟨x, biased⟩ : ∃ x, (if c.arrived + 2000 < latest then
        s.setCtx (ctxKey c.die c.asid) (s.ctx (ctxKey c.die c.asid)).skew else s) = { s with ctxs := x } := by
      split <;> exact ⟨_, rfl⟩
    rw [List.foldl_cons, biased]
    exact ih _

theorem State.lateOutside_shape (s : State) (c : CopyCmd) : ∃ tick, (s.lateOutside c).2 = { s with tick := tick } := by
  unfold State.lateOutside
  split <;> exact ⟨_, rfl⟩

/-- The members of a collective that is abandoned, in a state that differs in nothing that they look at. -/
theorem State.abandonAll_eq {s : State} {c : CopyCmd} (open_ : c.slice ≠ 2) : ∃ v : State, v.mem = s.mem ∧ v.cores = s.cores ∧
    v.warps = s.warps ∧ v.dies = s.dies ∧ s.abandonAll c = (s.collIssued c).foldl State.abandonColl v := by
  obtain ⟨tick, drawn⟩ := s.lateOutside_shape c
  obtain ⟨ctxs, biased⟩ := (s.lateOutside c).2.earlinessOf_shape (s.collIssued c) (s.collIssued c) (s.lateOutside c).1
  refine ⟨{ s with ctxs := ctxs, tick := tick }, rfl, rfl, rfl, rfl, ?_⟩
  rw [State.abandonAll, if_neg open_]
  simp only [State.earliness]
  rw [biased, drawn]

/-! ### The matrix engine (R203, R207, 23 R396) -/

/-- A core that keeps its queue, and the zeroes of its accumulators. -/
def Core.keepsZeroes (c d : Core) : Prop := d.mq = c.mq ∧ ∀ k, c.accAt k = 0 → d.accAt k = 0

theorem State.workgroupEnd_spec (s : State) (ck g member : Nat) :
    (s.workgroupEnd ck g member).mem = s.mem ∧ (s.workgroupEnd ck g member).warps = s.warps ∧
      (s.core ck).keepsZeroes ((s.workgroupEnd ck g member).core ck) := by
  have rows : ∀ c : Core, c.keepsZeroes (c.zeroRows g member) := fun c => ⟨rfl, fun k zero => by
    refine (congrArg (fun o : Option Word => o.getD 0) (mfind_filter c.acc (fun k => !((c.accRows.filter fun e =>
      e.2.contains (g, member)).map Prod.fst).contains (k / 512)) k)).trans ?_
    split
    · exact zero
    · rfl⟩
  unfold State.workgroupEnd
  split
  · refine ⟨rfl, rfl, ?_⟩
    simp only [State.core_setCore, if_true]
    have freed : ∀ c : Core, (s.core ck).keepsZeroes c → ∀ busy : Bool,
        (s.core ck).keepsZeroes (if busy then c else c.zeroRows g member) := fun c ⟨queue, zeroes⟩ busy => by
      cases busy
      · exact ⟨(rows c).1.trans queue, fun k zero => (rows c).2 k (zeroes k zero)⟩
      · exact ⟨queue, zeroes⟩
    refine freed _ ?_ _
    split
    · split
      · exact ⟨rfl, fun _ h => h⟩
      · exact ⟨rfl, fun _ h => h⟩
    · exact ⟨rfl, fun _ h => h⟩
  · exact ⟨rfl, rfl, rfl, fun _ h => h⟩

theorem State.matrixRest_spec (s : State) (die core asid k : Nat) : (s.matrixRest die core asid).mem = s.mem ∧
    (s.matrixRest die core asid).warps = s.warps ∧ (s.core k).keepsZeroes ((s.matrixRest die core asid).core k) := by
  unfold State.matrixRest
  simp only
  split
  · exact ⟨rfl, rfl, rfl, fun _ h => h⟩
  · refine ⟨rfl, rfl, ?_⟩
    rw [State.core_setCore]
    split
    · subst_vars
      exact ⟨rfl, fun _ h => h⟩
    · exact ⟨rfl, fun _ h => h⟩

/-- The first command of a core leaves it; no zero of an accumulator goes, and the counter of its warp falls. -/
theorem State.matrixEnd_spec {s : State} {c : MatrixCmd} {r : List MatrixCmd}
    (first : (s.core (issuerCore c.warp)).mq = c :: r) :
    (s.matrixEnd c).mem = s.mem ∧ ((s.matrixEnd c).core (issuerCore c.warp)).mq = r ∧
    (∀ k, (s.core (issuerCore c.warp)).accAt k = 0 → ((s.matrixEnd c).core (issuerCore c.warp)).accAt k = 0) ∧
    ∀ w, s.warp c.warp = some w → w.ofCtx c.die c.asid = true → ∃ u, (s.matrixEnd c).warp c.warp = some u ∧
      u.matrix = w.matrix - 1 := by
  obtain ⟨ck, hck⟩ : ∃ ck, ck = issuerCore c.warp := ⟨_, rfl⟩
  obtain ⟨v, hv⟩ : ∃ v, v = ((s.setCore ck { s.core ck with mq := (s.core ck).mq.drop 1 }).stirCtx c.die c.asid).onOwner
    c.warp c.die c.asid Warp.matrixFall := ⟨_, rfl⟩
  obtain ⟨x, hx⟩ : ∃ x, x = v.workgroupEnd ck c.gang
    (((s.setCore ck { s.core ck with mq := (s.core ck).mq.drop 1 }).stirCtx c.die c.asid).memberOf c.warp) := ⟨_, rfl⟩
  have ends : s.matrixEnd c = if c.onLanes then x else x.matrixRest c.die (ck % 32) c.asid := by rw [hx, hv, hck]; rfl
  have rest : (s.matrixEnd c).mem = x.mem ∧ (s.matrixEnd c).warps = x.warps ∧ (x.core ck).keepsZeroes
      ((s.matrixEnd c).core ck) := by
    rw [ends]
    split
    · exact ⟨rfl, rfl, rfl, fun _ h => h⟩
    · exact x.matrixRest_spec _ _ _ _
  have ended : x.mem = v.mem ∧ x.warps = v.warps ∧ (v.core ck).keepsZeroes (x.core ck) := by
    rw [hx]
    exact v.workgroupEnd_spec _ _ _
  obtain ⟨mem, warps, queue, zeroes⟩ := rest
  obtain ⟨mem', warps', queue', zeroes'⟩ := ended
  have core : v.core ck = { s.core ck with mq := r } := by
    rw [hv, State.core, State.onOwner_cores]
    change ((s.setCore ck _).core ck) = _
    rw [State.core_setCore, if_pos rfl, hck, first]
    rfl
  rw [← hck] at first ⊢
  refine ⟨?_, ?_, fun k zero => zeroes k (zeroes' k ?_), fun w hw mine => ?_⟩
  · rw [mem, mem', hv, State.onOwner_mem]
    rfl
  · rw [queue, queue', core]
  · rw [core]
    exact zero
  · have stirred := State.warp_stirCtx_eq (s.setCore ck { s.core ck with mq := (s.core ck).mq.drop 1 }) c.die c.asid c.warp
    rw [State.warp_of_setCore, hw, Option.map_some, if_pos mine] at stirred
    refine ⟨w.stir.matrixFall, ?_, ?_⟩
    · rw [State.warp, warps, warps', hv]
      exact State.warp_onOwner stirred (by rw [Warp.stir_ofCtx]; exact mine) _
    · rw [Warp.matrixFall, Warp.stir_matrix, Warp.stir_matrix]

/-- A table in which the keys of some elements are set to zero. -/
theorem mget_foldl_zero {α : Type} (key : α → Nat) (l : List α) (m : SMap Word) (k : Nat)
    (h : mget 0 m k = 0 ∨ ∃ x ∈ l, key x = k) : mget 0 (l.foldl (fun m x => mset 0 m (key x) 0) m) k = 0 := by
  induction l generalizing m with
  | nil => exact h.resolve_right fun ⟨_, hx, _⟩ => absurd hx List.not_mem_nil
  | cons y r ih =>
    refine ih _ ?_
    rw [mget_mset]
    by_cases hk : k = key y
    · exact .inl (if_pos hk)
    · rw [if_neg hk]
      refine h.imp id fun ⟨x, hx, same⟩ => ⟨x, (List.mem_cons.1 hx).resolve_left fun e => hk (by rw [← same, e]), same⟩

/-- `mzero` zeroes its region. -/
theorem State.fillRegion_zero (s : State) (c : MatrixCmd) (b : MBlock) {m n : Nat} (hm : m < b.m) (hn : n < b.n) :
    ((s.fillRegion c b fun _ _ => 0).core (issuerCore c.warp)).accAt (b.accKey m n) = 0 := by
  rw [State.fillRegion, State.core_setCore, if_pos rfl]
  exact mget_foldl_zero _ _ _ _ (.inr ⟨(m, n), List.mem_flatMap.2 ⟨m, List.mem_range.2 hm, List.mem_map.2
    ⟨n, List.mem_range.2 hn, rfl⟩⟩, rfl⟩)

/-- A command that has run ends; `mzero` runs and ends in one step. -/
theorem exec_matrixCommandComplete {s : State} {die core : Nat} {c : MatrixCmd} {r : List MatrixCmd}
    (first : (s.core (coreKey die core)).mq = c :: r) (can : s.canRun c = true) (done : c.ran = true ∨ c.kind = .mzero) :
    exec (.matrixCommandComplete die core) s = .next
      ((if c.ran then s else s.fillRegion c (MBlock.of c.block) fun _ _ => 0).matrixEnd c) := by
  change execMatrixCommandComplete die core s = _
  rw [execMatrixCommandComplete, first]
  simp only [can, if_true]
  cases ran : c.ran with
  | true =>
    rw [State.matrixStep, if_pos ran]
    rfl
  | false =>
    have zero := done.resolve_left (by rw [ran]; exact Bool.false_ne_true)
    rw [State.matrixStep, if_neg (by rw [ran]; exact Bool.false_ne_true)]
    have acquire : s.matrixAcquire c (MBlock.of c.block) = s := by
      rw [State.matrixAcquire, zero]
      simp
    have release : ∀ v : State, v.matrixRelease c (MBlock.of c.block) = v := fun v => by
      rw [State.matrixRelease, zero]
      simp
    simp only [acquire, State.matrixRun, zero, noPackets, Sent.pay, List.isEmpty_nil, if_true, release]
    rfl

/-! ### Bytes of local memory that a slice moves -/

theorem State.localBytes_length (s : State) (g o n : Nat) : (s.localBytes g o n).length = n := by simp [State.localBytes]

theorem State.localBytes_getD (s : State) (g o : Nat) {n k : Nat} (hk : k < n) :
    (s.localBytes g o n).getD k 0 = s.localByte g (o + k) := by
  rw [State.localBytes, List.getD_eq_getElem?_getD, List.getElem?_map, List.getElem?_range hk]
  rfl

theorem State.localByte_localPoke (s : State) (g o : Nat) (l : List Byte) {k : Nat} (hk : k < l.length) :
    (s.localPoke g o l).localByte g (o + k) = l.getD k 0 := by
  have key : localKey g (o + k) = localKey g o + k := by simp only [localKey]; omega
  rw [State.localByte_eq, State.keyByte_localPoke, key, if_pos (by omega), Nat.add_sub_cancel_left]

theorem State.localByte_localPoke_away (s : State) (g o : Nat) (l : List Byte) {g' x : Nat}
    (away : ∀ k, k < l.length → localKey g' x ≠ localKey g (o + k)) : (s.localPoke g o l).localByte g' x =
        s.localByte g' x := by
  have key : ∀ k, localKey g (o + k) = localKey g o + k := fun k => by simp only [localKey]; omega
  rw [State.localByte_eq, State.keyByte_localPoke, if_neg, State.localByte_eq]
  rintro ⟨low, high⟩
  refine away (localKey g' x - localKey g o) (by omega) ?_
  rw [key]
  omega

/-- The cluster of a copy after one of its slices. -/
theorem State.cluster_onCopy_localPoke (s : State) (clk g o id : Nat) (l : List Byte) (f : CopyCmd → CopyCmd) (x : Cluster) :
    (((s.setCluster clk x).localPoke g o l).onCopy clk id f).cluster clk = x.onCopy id f := by
  rw [State.onCopy, State.cluster_setCluster, if_pos rfl, State.cluster_of_localPoke, State.cluster_setCluster, if_pos rfl]

/-! ### The obligation -/

/-- The end of a copy by its event, whatever its fault. -/
theorem exec_copyComplete {s : State} {die cl id : Nat} {c : CopyCmd}
    (found : ((s.cluster (clusterKey die cl)).cq.find? fun c => c.id == id && c.canEnd) = some c)
    (uncounted : c.fault.isSome ∨ c.counter = 0) : exec (.copyComplete die cl id) s =
      .next (((s.dropCopy (clusterKey die cl) id c).finishCopy c).copyRest die cl c.asid) := by
  change execCopyComplete die cl id s = _
  rw [execCopyComplete, found]
  exact if_pos (uncounted.imp_right Or.inl)

/-- The end of a collective without a fault or a counter at one member. -/
theorem exec_collectiveComplete {s : State} {die id : Nat} {c : CopyCmd} {i : Option (List Nat)}
    (found : ((s.die die).colls.find? fun x => x.1.id == id && x.1.idle) = some (c, i)) (written : c.slice = 2)
    (good : c.fault = none) (uncounted : c.counter = 0) (others : List OutsideBox) (late : Nat) :
    exec (.collectiveComplete die id others late) s = .next (s.closeColl c 1) := by
  change execCollectiveComplete die id others late s = _
  rw [execCollectiveComplete, found]
  simp only [written, if_true, State.collFinish, good, uncounted, Option.isSome_none, true_or, or_true]
  rw [State.endColl_none]

theorem exec_collectiveAbandon {s : State} {die id : Nat} {c : CopyCmd} {i : Option (List Nat)}
    (found : ((s.die die).colls.find? fun x => x.1.id == id) = some (c, i)) :
    exec (.collectiveAbandon die id) s = .next (s.abandonAll c) := by
  change execCollectiveAbandon die id s = _
  rw [execCollectiveAbandon, found]

/-- The number of a collective that is found by it. -/
theorem id_of_find {l : List (CopyCmd × Option (List Nat))} {id : Nat} {q : CopyCmd × Option (List Nat) → Bool} {x}
    (only : ∀ x, q x = true → x.1.id = id) (found : l.find? q = some x) : x.1.id = id := only x (List.find?_some found)

/-- Settles O49: a slice of a local `cpy`, the ends of copies and collectives,
    and the commands that the matrix engine ends. -/
theorem engineEvents : Obligations.EngineEvents := by
  unfold Obligations.EngineEvents
  intro s die cl core id
  refine ⟨fun none => ?_, fun c src dst n turn kind plain => ?_,
      fun c found => ⟨fun good uncounted => ?_, fun cause va fault quiet => ?_⟩,
    fun c i others late found here written good uncounted => ?_, fun c i found here => ⟨fun written => ?_, fun open_ => ?_,
    fun open_ alone => ?_⟩, fun c r first can issuer done => ?_⟩
  · change execCopySlice die cl s = _
    rw [execCopySlice, none]
  · refine ⟨_, exec_copySlice turn kind plain, State.localPoke_mem _ _ _ _, State.localPoke_warps _ _ _ _, fun k hk => ?_,
      fun g x away => ?_, ?_, ?_⟩
    · refine (State.localByte_localPoke _ _ _ _ (by rw [State.localBytes_length]; exact hk)).trans ?_
      rw [State.localBytes_getD _ _ _ hk]
    · refine (State.localByte_localPoke_away _ _ _ _ fun k hk => away k ?_).trans rfl
      rwa [State.localBytes_length] at hk
    · exact congrArg Cluster.lastTurn (State.cluster_onCopy_localPoke _ _ _ _ _ _ _ _)
    · exact congrArg Cluster.cq (State.cluster_onCopy_localPoke _ _ _ _ _ _ _ _)
  · obtain ⟨left, ends⟩ := State.copy_ends (s := s) (die := die) (cl := cl) (id := id) (c := c) (.inl good)
    rw [good] at ends
    exact ⟨_, exec_copyComplete found (.inr uncounted), left, ends⟩
  · obtain ⟨left, ends⟩ := State.copy_ends (s := s) (die := die) (cl := cl) (id := id) (c := c) (.inr quiet)
    rw [fault] at ends
    exact ⟨_, exec_copyComplete found (.inl (by rw [fault]; rfl)), left, ends⟩
  · have number : c.id = id := id_of_find (fun x h => beq_iff_eq.1 (Bool.and_eq_true_iff.1 h).1) found
    refine ⟨_, exec_collectiveComplete found written good uncounted others late, ?_, ?_⟩
    · exact (State.closeColl_colls s c 1 die).trans (by rw [if_pos here.symm, number])
    · rw [← here]
      exact s.closeColl_ends c 1
  · rw [exec_collectiveAbandon found, State.abandonAll, if_pos written]
  · obtain ⟨v, -, -, -, -, all⟩ := State.abandonAll_eq (s := s) open_
    refine ⟨_, exec_collectiveAbandon found, ?_⟩
    rw [all]
    exact (State.foldl_abandonColl _ _).2
  · have number : c.id = id := id_of_find (fun x h => beq_iff_eq.1 h) found
    obtain ⟨v, mem, cores, warps, dies, all⟩ := State.abandonAll_eq (s := s) open_
    rw [alone, List.foldl_cons, List.foldl_nil, State.abandonColl_eq] at all
    have same : v.die = s.die := by
      unfold State.die
      rw [dies]
    refine ⟨_, exec_collectiveAbandon found, ?_, ?_⟩
    · rw [all]
      exact (State.closeColl_colls _ c 3 die).trans (by rw [if_pos here.symm, number, same])
    · rw [all, ← here]
      exact (v.closeColl_ends c 3).of_same mem (by rw [State.core, cores, State.core])
        (fun w hw => ⟨w, by rw [State.warp, warps]; exact hw, rfl, rfl⟩) rfl rfl
  · refine ⟨_, exec_matrixCommandComplete first can done, ?_⟩
    have issues : issuerCore c.warp = coreKey die core := issuer
    obtain ⟨v, hv⟩ : ∃ v, v = if c.ran then s else s.fillRegion c (MBlock.of c.block) fun _ _ => 0 := ⟨_, rfl⟩
    have same : v.mem = s.mem ∧ v.warps = s.warps ∧ (v.core (issuerCore c.warp)).mq = c :: r := by
      rw [hv]
      split
      · exact ⟨rfl, rfl, by rw [issues]; exact first⟩
      · refine ⟨rfl, rfl, ?_⟩
        rw [State.fillRegion, State.core_setCore, if_pos rfl, ← first, ← issues]
        rfl
    obtain ⟨mem, warps, queue⟩ := same
    obtain ⟨mem', queue', zeroes, counter⟩ := State.matrixEnd_spec queue
    rw [← hv, ← issues]
    refine ⟨mem'.trans mem, queue', fun unrun m n hm hn => zeroes _ ?_, fun w hw mine => counter w ?_ mine⟩
    · rw [hv, if_neg (by rw [unrun]; exact Bool.false_ne_true)]
      exact s.fillRegion_zero c _ hm hn
    · rw [State.warp, warps]
      exact hw

end Sys2Proof.Machine
end

section
/-!
PROOFS. Commands that are judged at issue (09 R185 to R187): the acquires that they wait for,
    and the PARAM condition that they report.
-/

namespace Sys2Proof.Machine
open Sys2Proof

/-! ### What an engine command waits for (06 R149, R151) -/

/-- A user-mode instruction that issues commands of the kinds of a mask. -/
def engineNeeds (e : BitVec 4) : Needs := { userOnly [] with engine := e }

section Engine
variable {s : State} {c : Cur} {w : Warp} {i : Instr} {e : BitVec 4} {body : Cur → Warp → Effect}
  (h : Issues s c w) (hu : w.priv = false)
include h hu

theorem run_engine (ha : w.mayAccess c.lanes) (body : Cur → Warp → Effect) :
    s.run (engineNeeds e) body = State.settle c (body c w) :=
  run_of h (n := engineNeeds e) (userOnly_check hu (free_nil w))
      (awaits_uncounted (n := engineNeeds e) (free_nil w) ha rfl) body

/-- A command that finds no room stops its warp on the engine. -/
theorem waits_engine (ha : w.mayAccess c.lanes) (he : exec i s = s.run (engineNeeds e) body) {why : Stop}
    (hb : body c w = .stop s why) : Waits i s c why := by
  rw [Waits, he, run_engine h hu ha, hb]
  rfl

/-- A command waits for an acquire of its lanes that names its kind. -/
theorem waits_acquire (he : exec i s = s.run (engineNeeds e) body) {l : LoadOp} (mem : l ∈ w.loads) (out : l.waiting ≠ [])
    (holds : ∃ x, l.acquire = some x ∧ x.1 &&& c.lanes ≠ 0) (found : ∀ m ∈ w.loads, m.lost = none) {j : Nat}
    (names : l.kinds.getLsbD j = true) (issues : e.getLsbD j = true) : Waits i s c .scoreboard := by
  obtain ⟨x, acquires, meets⟩ := holds
  have kind : l.kinds &&& e ≠ 0 := fun none => by
    have bit := congrArg (BitVec.getLsbD · j) none
    simp [names, issues] at bit
  have awaited : l ∈ (engineNeeds e).awaits w c.lanes :=
    List.mem_append_left _ (List.mem_filter.2 ⟨mem, by
      simp only [engineNeeds, userOnly, acquires, List.any_nil, Bool.false_or, Bool.and_eq_true, bne_iff_ne, ne_eq]
      exact ⟨kind, meets⟩⟩)
  have loads : ∀ m ∈ (engineNeeds e).awaits w c.lanes, m ∈ w.loads := fun m hm => by
    rcases List.mem_append.1 hm with hm | hm
    · exact List.mem_of_mem_filter hm
    · simp [engineNeeds, userOnly] at hm
  have checked : (engineNeeds e).check w = none := userOnly_check hu (free_nil w)
  rw [Waits, he, State.run, h.cur]
  simp only [h.warp, checked]
  cases hl : (engineNeeds e).awaits w c.lanes with
  | nil =>
    rw [hl] at awaited
    exact absurd awaited List.not_mem_nil
  | cons y r =>
    rw [hl] at awaited loads
    have kept : ((y :: r).find? fun x => x.lost.isSome) = none :=
      List.find?_eq_none.2 fun m hm => by rw [found m (loads m hm)]; exact Bool.false_ne_true
    have late : ((y :: r).all fun x => x.waiting.isEmpty) = false := by
      rw [Bool.eq_false_iff, ne_eq, List.all_eq_true]
      exact fun all => out (List.isEmpty_iff.1 (all l awaited))
    simp only [State.awaitLoads, kept, late]
    rfl

end Engine

/-! ### The condition that is reported (09 R186) -/

/-- The kind and the offset of a condition, as one number. -/
def ParamCheck.code (p : ParamCheck) : Nat := 256 * p.kind + p.off

/-- The lower of a code found before and that of a condition. -/
def lowerCode (m : Option Nat) (p : ParamCheck) : Option Nat := some (m.elim p.code fun x => min x p.code)

theorem firstParam_eq (l : List ParamCheck) : firstParam l = (l.filter fun p => p.fails).foldl lowerCode none := by
  have step : ∀ (r : List ParamCheck) (m : Option Nat), r.foldl (fun m c => match m with
      | none => some (256 * c.kind + c.off)
      | some x => some (min x (256 * c.kind + c.off))) m = r.foldl lowerCode m := fun r => by
    induction r with
    | nil => exact fun _ => rfl
    | cons p r ih => exact fun m => by cases m <;> exact ih _
  exact step _ none

/-- The lowest code of a list of conditions, from one found before them. -/
theorem foldl_lowerCode (l : List ParamCheck) (m : Option Nat) :
    let r := l.foldl lowerCode m
    (r = none ↔ m = none ∧ l = []) ∧
      ∀ x, r = some x → (m = some x ∨ ∃ p ∈ l, p.code = x) ∧ (∀ y, m = some y → x ≤ y) ∧ ∀ p ∈ l, x ≤ p.code := by
  induction l generalizing m with
  | nil =>
    refine ⟨by simp, fun x hx => ⟨.inl hx, fun y hy => ?_, fun p hp => absurd hp List.not_mem_nil⟩⟩
    rw [List.foldl_nil, hy, Option.some.injEq] at hx
    exact hx.ge
  | cons p r ih =>
    obtain ⟨z, hz, low, source⟩ : ∃ z, lowerCode m p = some z ∧ (z ≤ p.code ∧ ∀ y, m = some y → z ≤ y) ∧
        (m = some z ∨ p.code = z) := by
      cases m with
      | none => exact ⟨_, rfl, ⟨le_rfl, fun _ h => by cases h⟩, .inr rfl⟩
      | some y =>
        refine ⟨_, rfl, ⟨min_le_right _ _, fun _ h => ?_⟩, ?_⟩
        · cases h
          exact min_le_left _ _
        · rcases min_choice y p.code with same | same
          · exact .inl (congrArg some same.symm)
          · exact .inr same.symm
    obtain ⟨none_, some_⟩ := ih (some z)
    rw [List.foldl_cons, hz]
    refine ⟨⟨fun hn => absurd (none_.1 hn).1 (by simp), fun hn => by simp at hn⟩, fun x hx => ?_⟩
    obtain ⟨from_, below, lowest⟩ := some_ x hx
    have le := below z rfl
    refine ⟨?_, fun y hy => le.trans (low.2 y hy), fun q hq => ?_⟩
    · rcases from_ with same | ⟨q, hq, code⟩
      · rw [Option.some.injEq] at same
        subst same
        exact source.imp id fun code => ⟨p, List.mem_cons_self, code⟩
      · exact .inr ⟨q, List.mem_cons_of_mem _ hq, code⟩
    · rcases List.mem_cons.1 hq with rfl | hr
      · exact le.trans low.1
      · exact lowest q hr

theorem firstParam_eq_none {l : List ParamCheck} : firstParam l = none ↔ ∀ p ∈ l, p.fails = false := by
  rw [firstParam_eq, (foldl_lowerCode _ none).1]
  simp [List.filter_eq_nil_iff]

theorem firstParam_eq_some {l : List ParamCheck} {x : Nat} (h : firstParam l = some x) :
    (∃ p ∈ l, p.fails = true ∧ p.code = x) ∧ ∀ p ∈ l, p.fails = true → x ≤ p.code := by
  rw [firstParam_eq] at h
  obtain ⟨from_, -, lowest⟩ := (foldl_lowerCode _ none).2 x h
  obtain ⟨p, hp, code⟩ := from_.resolve_left (by simp)
  exact ⟨⟨p, (List.mem_filter.1 hp).1, (List.mem_filter.1 hp).2, code⟩, fun q hq fails => lowest q
      (List.mem_filter.2 ⟨hq, fails⟩)⟩

/-- The conditions of a list and those that the model checks hold with the same codes. -/
def SameConds (conds : List (Prop × Nat)) (l : List ParamCheck) : Prop :=
  ∀ x, (∃ e ∈ conds, e.1 ∧ e.2 = x) ↔ ∃ p ∈ l, p.fails = true ∧ p.code = x

namespace SameConds

theorem append {conds conds' : List (Prop × Nat)} {l l' : List ParamCheck} (h : SameConds conds l)
    (h' : SameConds conds' l') :
    SameConds (conds ++ conds') (l ++ l') := fun x => by
  simp only [List.mem_append, or_and_right, exists_or]
  exact or_congr (h x) (h' x)

theorem nil : SameConds [] [] := fun x => by simp

theorem cons {p : Prop} {k : Nat} {q : ParamCheck} {conds : List (Prop × Nat)} {l : List ParamCheck}
    (same : p ↔ q.fails = true)
    (code : k = q.code) (h : SameConds conds l) : SameConds ((p, k) :: conds) (q :: l) := fun x => by
  simp only [List.mem_cons, or_and_right, exists_or, exists_eq_left]
  rw [same, code]
  exact or_congr Iff.rfl (h x)

end SameConds

/-- An instruction whose checks are those of a list, and then `k`. -/
theorem judged_of {i : Instr} {s : State} {c : Cur} {conds : List (Prop × Nat)} {l : List ParamCheck} {k : Unit →
    Effect} {ok : Prop}
    (run : exec i s = State.settle c (s.checked l k)) (same : SameConds conds l)
    (good : exec i s = State.settle c (k ()) → ok) : Judged i s c conds ok := by
  constructor
  · intro none
    have first : firstParam l = Option.none := firstParam_eq_none.2 fun p hp => by
      cases fails : p.fails with
      | false => rfl
      | true =>
        obtain ⟨e, he, holds, -⟩ := (same p.code).2 ⟨p, hp, fails, rfl⟩
        exact absurd holds (none e he)
    refine good ?_
    rw [run, State.checked, first]
  · rintro x ⟨⟨e, he, holds, code⟩, lowest⟩
    obtain ⟨p, hp, fails, pcode⟩ := (same x).1 ⟨e, he, holds, code⟩
    have first : firstParam l = some x := by
      cases h : firstParam l with
      | none =>
        rw [firstParam_eq_none.1 h p hp] at fails
        exact Bool.noConfusion fails
      | some y =>
        obtain ⟨⟨q, hq, qfails, qcode⟩, least⟩ := firstParam_eq_some h
        obtain ⟨e', he', holds', code'⟩ := (same y).2 ⟨q, hq, qfails, qcode⟩
        have up := lowest e' he' holds'
        have down := least p hp fails
        rw [show y = x by omega]
    rw [Traps, run, State.checked, first]
    rfl

end Sys2Proof.Machine
end

section
/-!
PROOFS. The COPY members (09 R185 to R196, 21 R331 to R338): the command that is queued and its token,
    and the conditions of a record.
-/

namespace Sys2Proof.Machine
open Sys2Proof

/-! ### A command that is queued (R185, R196) -/

/-- What the queueing of a command leaves of the issuing warp: a register holds the token, and one more command is counted. -/
def Warp.queued (w u : Warp) (d : SReg) (token : Nat) : Prop :=
  u.copies = w.copies + 1 ∧ (∀ r, u.s r = if r = d ∧ d ≠ 0 then BitVec.ofNat 64 token else w.s r) ∧ u.vregs = w.vregs ∧
      u.pregs = w.pregs

theorem Warp.queued_of {w x : Warp} (h : w.sameButLatch x) (d : SReg) (token lane : Nat) (draws : Option Bool) :
    w.queued { (if draws = some true then (x.draw lane).2 else x).setS d (BitVec.ofNat 64 token) with copies :=
        x.copies + 1 } d
      token := by
  obtain ⟨y, hy⟩ : ∃ y, y = if draws = some true then (x.draw lane).2 else x := ⟨_, rfl⟩
  have kept : y.sregs = w.sregs ∧ y.vregs = w.vregs ∧ y.pregs = w.pregs := by
    rw [hy]
    split <;> rw [h] <;> exact ⟨rfl, rfl, rfl⟩
  obtain ⟨sregs, vregs, pregs⟩ := kept
  rw [← hy]
  refine ⟨congrArg (· + 1) (by rw [h]), fun r => ?_, (Warp.setS_vregs _ _ _).trans vregs, (Warp.setS_pregs _ _ _).trans pregs⟩
  have same : y.s r = w.s r := by rw [Warp.s, Warp.s, sregs]
  refine (Warp.s_setS y d r _).trans ?_
  by_cases zero : r = 0
  · subst zero
    by_cases hd : (0 : SReg) = d
    · rw [if_pos rfl, if_neg fun hc => hc.2 hd.symm]
      rfl
    · rw [if_pos rfl, if_neg fun hc => hd hc.1]
      rfl
  · rw [if_neg zero, same]
    by_cases hd : r = d
    · rw [if_pos hd, if_pos ⟨hd, hd ▸ zero⟩]
    · rw [if_neg hd, if_neg fun hc => hd hc.1]

/-- What the L3 chooser keeps: the lines of its context, and its choice. -/
theorem State.chooseAlloc_spec (s : State) (w : Warp) (n : Nat) : ∃ ctxs clusters,
    (s.chooseAlloc w n).2 = { s with ctxs := ctxs, clusters := clusters } ∧
    (∀ k, ((s.chooseAlloc w n).2.ctx k).tokens = (s.ctx k).tokens) ∧
    ∀ k, ((s.chooseAlloc w n).2.cluster k).cq = (s.cluster k).cq := by
  refine ⟨_, _, rfl, fun k => ?_, fun k => ?_⟩
  · rw [State.chooseAlloc]
    simp only [State.ctx_of_setCluster, State.ctx_setCtx]
    split
    · subst_vars
      rfl
    · rfl
  · rw [State.chooseAlloc]
    simp only [State.cluster_setCluster]
    split
    · subst_vars
      rfl
    · rfl

/-- The state in which a command of a spec is to be put into its queue: what the issuing core held is home,
    and the token's status
word reads 0. -/
def State.beforeQueue (s : State) (w : Warp) (x : CopySpec) : State :=
  let s := s.flushCore w.coreK
  let tok := s.nextToken w.die w.asid
  let s := (s.setCtx w.ctxK { s.ctx w.ctxK with tokens := (s.ctx w.ctxK).tokens + 1 }).statusWrite w.coreK tok.2 0
  if x.members.isEmpty then (s.chooseAlloc w x.bytes).2 else s

/-- What that state keeps. -/
theorem State.beforeQueue_spec {s : State} {k : Nat} {w : Warp} (h : s.warp k = some w) (x : CopySpec) :
    (∃ u, (s.beforeQueue w x).warp k = some u ∧ w.sameButLatch u) ∧
    ((s.beforeQueue w x).ctx w.ctxK).tokens = (s.ctx w.ctxK).tokens + 1 ∧
    ((s.beforeQueue w x).cluster w.clusterK).cq = (s.cluster w.clusterK).cq ∧
    ((s.beforeQueue w x).die w.die).colls = (s.die w.die).colls ∧
    ((s.core w.coreK).holdsDirty = false →
      let token := (s.nextToken w.die w.asid).2
      (∀ y, y < token ∨ token + 8 ≤ y → (s.beforeQueue w x).byte y = s.byte y) ∧
        (memoryExists token 8 = true → (s.beforeQueue w x).num token 8 = 0)) := by
  obtain ⟨v, hv⟩ : ∃ v, v = s.flushCore w.coreK := ⟨_, rfl⟩
  have home : s.AtHome v := hv ▸ .flushCore s w.coreK
  obtain ⟨y, hy⟩ : ∃ y, y = v.setCtx w.ctxK { v.ctx w.ctxK with tokens := (v.ctx w.ctxK).tokens + 1 } := ⟨_, rfl⟩
  obtain ⟨z, hz⟩ : ∃ z, z = y.statusWrite w.coreK (v.nextToken w.die w.asid).2 0 := ⟨_, rfl⟩
  have home' : y.AtHome z := hz ▸ .statusWrite y _ _ _
  obtain ⟨ctxs, clusters, chosen, tokens, queues⟩ := z.chooseAlloc_spec w x.bytes
  have before : s.beforeQueue w x = if x.members.isEmpty then (z.chooseAlloc w x.bytes).2 else z := by
    rw [hz, hy, hv]
    rfl
  have warps : (s.beforeQueue w x).warps = z.warps ∧ (s.beforeQueue w x).dies = z.dies ∧ (s.beforeQueue w x).mem = z.mem := by
    rw [before]
    split
    · rw [chosen]
      exact ⟨rfl, rfl, rfl⟩
    · exact ⟨rfl, rfl, rfl⟩
  obtain ⟨warps, dies, mem⟩ := warps
  refine ⟨?_, ?_, ?_, ?_, fun clean => ?_⟩
  · obtain ⟨a, ha, same⟩ := home.warp k w h
    obtain ⟨b, hb, same'⟩ := home'.warp k a (by rw [hy]; exact ha)
    exact ⟨b, by rw [State.warp, warps]; exact hb, Warp.sameButLatch_trans same same'⟩
  · have counted : (z.ctx w.ctxK).tokens = (s.ctx w.ctxK).tokens + 1 := by
      have kept : z.ctx w.ctxK = _ := home'.ctx w.ctxK
      have kept' : v.ctx w.ctxK = _ := home.ctx w.ctxK
      rw [kept, hy, State.ctx_setCtx, if_pos rfl, kept']
    rw [before]
    split
    · rw [tokens, counted]
    · exact counted
  · have same : (z.cluster w.clusterK).cq = (s.cluster w.clusterK).cq := by
      rw [State.cluster, home'.clusters, hy, State.setCtx_clusters, home.clusters]
      rfl
    rw [before]
    split
    · rw [queues, same]
    · exact same
  · have kept : z.die w.die = _ := home'.die w.die
    have kept' : v.die w.die = _ := home.die w.die
    have same : (s.beforeQueue w x).die w.die = z.die w.die := by rw [State.die, dies]; rfl
    rw [same, kept, hy]
    change (v.die w.die).colls = _
    rw [kept']
  · have stays : v = s := hv.trans (flushCore_of_clean clean)
    obtain ⟨number, others⟩ := y.statusWrite_spec w.coreK (v.nextToken w.die w.asid).2 0
    rw [← hz] at number others
    have bytes : ∀ b, (s.beforeQueue w x).byte b = z.byte b := fun b => by rw [State.byte, mem]; rfl
    have none : (y.core w.coreK).uo = [] := by
      rw [hy, stays]
      have empty : (s.core w.coreK).uo.isEmpty = true := by
        simp only [Core.holdsDirty, Bool.or_eq_false_iff, Bool.not_eq_false'] at clean
        exact clean.1
      exact List.isEmpty_iff.1 empty
    rw [stays] at number others
    refine ⟨fun b out => (bytes b).trans ((others none b out).trans ?_), fun there =>
        (State.num_congr bytes _ _).trans (number there)⟩
    rw [hy, stays]
    rfl

/-- The virtual address of the next token of a context. -/
theorem State.nextToken_flushCore (s : State) (k die asid : Nat) :
    ((s.flushCore k).nextToken die asid).1 = (s.nextToken die asid).1 := by
  have va : ∀ v : State, (v.nextToken die asid).1 =
      (v.ctx (ctxKey die asid)).tokenRing + 8 * ((v.ctx (ctxKey die asid)).tokens % 4096) := fun v => by
    simp only [State.nextToken]
    split <;> rfl
  have kept : (s.flushCore k).ctx (ctxKey die asid) = _ := (State.AtHome.flushCore s k).ctx _
  rw [va, va, kept]

/-- The command of a spec with the operands of its warp, and its place in its queue. -/
theorem State.queueCopy_eq (s : State) (c : Cur) (w : Warp) (d : SReg) (x : CopySpec) : ∃ (q : CopyCmd)
    (ids gap : Nat) (contexts : List Nat),
    (q.kind = x.kind ∧ q.warp = c.warp ∧ q.gang = w.gang ∧ q.asid = w.asid ∧ q.token = (s.nextToken w.die w.asid).1 ∧
        q.slice = 0 ∧
      q.cvtmode = w.cvtmode) ∧
    s.queueCopy c w d x =
      let v := ({ s.beforeQueue w x with nextId := ids } : State).onWarp c.warp fun u =>
        { (if x.draws = some true then (u.draw ((firstLane c.lanes).getD 0)).2 else u).setS d
            (BitVec.ofNat 64 (s.nextToken w.die w.asid).1) with copies := u.copies + 1 }
      if q.isColl then v.setDie w.die { v.die w.die with colls := (v.die w.die).colls ++ [(q, none)], collContexts :=
          contexts }
      else v.setCluster w.clusterK { v.cluster w.clusterK with cq := (v.cluster w.clusterK).cq ++ [q], copyIdleGap :=
          gap } := by
  rw [← s.nextToken_flushCore w.coreK]
  exact ⟨_, _, _, _, ⟨rfl, rfl, rfl, rfl, rfl, rfl, rfl⟩, rfl⟩

/-- What the queueing of a command leaves: the warp with its token, one more token in use,
    the command behind the others of its queue,
and the token's status word. -/
theorem State.queueCopy_spec {s : State} {c : Cur} {w : Warp} (h : s.warp c.warp = some w) (d : SReg) (x : CopySpec) :
    ∃ (u : Warp) (q : CopyCmd), (s.queueCopy c w d x).warp c.warp = some u ∧ w.queued u d (s.nextToken w.die w.asid).1 ∧
      ((s.queueCopy c w d x).ctx w.ctxK).tokens = (s.ctx w.ctxK).tokens + 1 ∧
      (q.kind = x.kind ∧ q.warp = c.warp ∧ q.gang = w.gang ∧ q.asid = w.asid ∧ q.token = (s.nextToken w.die w.asid).1 ∧
          q.slice = 0 ∧
        q.cvtmode = w.cvtmode) ∧
      (if q.isColl then ((s.queueCopy c w d x).die w.die).colls = (s.die w.die).colls ++ [(q, none)]
        else ((s.queueCopy c w d x).cluster w.clusterK).cq = (s.cluster w.clusterK).cq ++ [q]) ∧
      ((s.core w.coreK).holdsDirty = false →
        (∀ y, y < (s.nextToken w.die w.asid).2 ∨ (s.nextToken w.die w.asid).2 + 8 ≤ y → (s.queueCopy c w d x).byte y =
            s.byte y) ∧
          (memoryExists (s.nextToken w.die w.asid).2 8 = true → (s.queueCopy c w d x).num
              (s.nextToken w.die w.asid).2 8 = 0)) := by
  obtain ⟨⟨y, hy, same⟩, tokens, cq, colls, word⟩ := State.beforeQueue_spec h x
  obtain ⟨q, ids, gap, contexts, fields, eq⟩ := s.queueCopy_eq c w d x
  obtain ⟨b, hb⟩ : ∃ b : State, b = { s.beforeQueue w x with nextId := ids } := ⟨_, rfl⟩
  have warp : b.warp c.warp = some y := by rw [hb]; exact hy
  rw [← hb] at eq
  rw [eq]
  refine ⟨_, q, ?_, Warp.queued_of same d _ ((firstLane c.lanes).getD 0) x.draws, ?_, fields, ?_, fun clean => ?_⟩
  · dsimp only
    split
    · rw [State.warp_of_setDie, State.warp_onWarp, if_pos rfl, warp, Option.map_some]
    · rw [State.warp_of_setCluster, State.warp_onWarp, if_pos rfl, warp, Option.map_some]
  · have counted : (b.ctx w.ctxK).tokens = (s.ctx w.ctxK).tokens + 1 := by rw [hb]; exact tokens
    dsimp only
    split
    · simp only [State.ctx_of_setDie, State.ctx_of_onWarp, counted]
    · simp only [State.ctx_of_setCluster, State.ctx_of_onWarp, counted]
  · dsimp only
    split
    · simp only [State.die_setDie, if_pos, State.die_of_onWarp]
      rw [hb]
      exact congrArg (· ++ [(q, Option.none)]) colls
    · simp only [State.cluster_setCluster, if_pos, State.cluster_of_onWarp]
      rw [hb]
      exact congrArg (· ++ [q]) cq
  · have bytes : ∀ z, (s.queueCopy c w d x).byte z = (s.beforeQueue w x).byte z := fun z => by
      rw [eq]
      dsimp only
      split <;> (rw [hb]; rfl)
    rw [← eq]
    exact ⟨fun z out => (bytes z).trans ((word clean).1 z out), fun there => (State.num_congr bytes _ _).trans
        ((word clean).2 there)⟩

/-! ### The members with a layout record -/

/-- The four members of the copy engine. -/
theorem exec_engines {i : Instr} {d a b : SReg} {g : Bool} (hi :
    i ∈ [Instr.cpy d a, .cpyt d a g, .cpym d a, .cpyx d a b]) (s : State) :
    ∃ body : Cur → Warp → Effect,
      exec i s = s.run (engineNeeds 1) fun c w => if s.copyFull w false then .stop s .engine else body c w := by
  simp only [List.mem_cons, List.not_mem_nil, or_false] at hi
  rcases hi with rfl | rfl | rfl | rfl <;> exact ⟨_, rfl⟩

theorem exec_coll (d a b : SReg) (s : State) :
    ∃ body : Cur → Warp → Effect, exec (.coll d a b) s = s.run
        (engineNeeds 4) fun c w => if s.copyFull w true then .stop s .engine else body c w :=
  ⟨_, rfl⟩

/-- The members that take a layout record. -/
theorem exec_records {i : Instr} {d a b : SReg} (hi : i ∈ [Instr.cpyt d a true, .cpyt d a false, .cpym d a,
    .cpyx d a b, .coll d a b])
    (s : State) : ∃ (coll : Bool) (make : State → Cur → Warp → List Xword → Effect),
      exec i s = s.recordCopy coll a make ∧ (coll = true ↔ i = .coll d a b) := by
  have tensor : ∀ g, ∃ make, exec (.cpyt d a g) s = s.recordCopy false a make := fun g => by
    have he : exec (.cpyt d a g) s = execCpyt d a g s := rfl
    unfold execCpyt at he
    exact ⟨_, he⟩
  simp only [List.mem_cons, List.not_mem_nil, or_false] at hi
  rcases hi with rfl | rfl | rfl | rfl | rfl
  · exact ⟨false, (tensor true).choose, (tensor true).choose_spec, by simp⟩
  · exact ⟨false, (tensor false).choose, (tensor false).choose_spec, by simp⟩
  · have he : exec (.cpym d a) s = execCpym d a s := rfl
    unfold execCpym at he
    exact ⟨false, _, he, by simp⟩
  · have he : exec (.cpyx d a b) s = execCpyx d a b s := rfl
    unfold execCpyx at he
    exact ⟨false, _, he, by simp⟩
  · have he : exec (.coll d a b) s = execColl d a b s := rfl
    unfold execColl at he
    exact ⟨true, _, he, by simp⟩

section Record
variable {s : State} {c : Cur} {w : Warp} {coll : Bool} {a : SReg} {i : Instr} {make : State → Cur → Warp →
    List Xword → Effect}
  (h : Issues s c w) (hu : w.priv = false) (ha : w.mayAccess c.lanes) (free : s.copyFull w coll = false)
  (he : exec i s = s.recordCopy coll a make)
include h hu ha free he

theorem recordCopy_traps (hp : s.paramBlock w a 8 = none) : Traps i s c false 0x0B 0xFF01 := by
  rw [Traps, he, State.recordCopy]
  refine (run_engine h hu ha _).trans ?_
  rw [free, hp]
  rfl

theorem recordCopy_run {l : List Nat} (hp : s.paramBlock w a 8 = some l) :
    exec i s = State.settle c (make s c w (l.map fun x => BitVec.ofNat 64 x)) := by
  rw [he, State.recordCopy]
  refine (run_engine h hu ha _).trans ?_
  rw [free, hp]
  rfl

end Record

/-! ### The conditions of a record (R190) -/

/-- The conditions of R190, with those of R336 for a multicast. -/
def recordConds (r : List Xword) (region bytes unit : Nat) (bases : Nat → Prop) (win : Window → Prop) (many inLocal : Prop) :
    List (Prop × Nat) :=
  [(fld (recWord r 0) 62 2 ≠ 0, 0x207), (¬many ∧ recMcast r ≠ 0, 0x217),
    (fld (recWord r 0) 57 5 = 22 ∨ 24 < fld (recWord r 0) 57 5, 0x307),
    (unit ≠ 0 ∧ (recBox r 0 % 32 ≠ 0 ∨ fld (recWord r 7) 0 16 % 32 ≠ 0), 0x407), (recExtent r 0 = 0, 0x418),
        (recExtent r 1 = 0, 0x41B),
    (recBox r 0 = 0, 0x41E), (recExtent r 2 = 0, 0x420), (recExtent r 3 = 0, 0x423), (recBox r 1 = 0, 0x426),
        (recBox r 2 = 0, 0x42C),
    (recBox r 3 = 0, 0x42E), (inLocal ∧ ∃ k, bases k ∧ region < recLocal r + k + bytes, 0x607),
        (inLocal ∧ recLocal r % 16 ≠ 0, 0x614),
    (¬win (windowOf (recBase r)), 0x700), (4 < recScope r, 0x70F), (recCounter r % 4 ≠ 0, 0x808),
        (many ∧ recMcast r = 0, 0xA17)]

/-- A type code that no record may hold: that of e8m0, and those of no type. -/
theorem recTypeOk_eq_false (r : List Xword) : recTypeOk r = false ↔ fld (recWord r 0) 57 5 = 22 ∨ 24 < fld
    (recWord r 0) 57 5 := by
  rw [recTypeOk, recType]
  obtain ⟨n, hn, lt⟩ : ∃ n, n = fld (recWord r 0) 57 5 ∧ n < 32 := ⟨_, rfl, Nat.mod_lt _ (by norm_num)⟩
  rw [← hn]
  clear hn
  interval_cases n <;> simp [tyOf]

theorem copyBases_mem (multicast : Bool) (m stride k : Nat) :
    k ∈ copyBases (if multicast then some m else none) stride ↔
      if multicast then ∃ j, j < 8 ∧ m.testBit j = true ∧ k = j * stride else k = 0 := by
  cases multicast
  · exact List.mem_singleton
  · simp only [copyBases, if_true, List.mem_map, List.mem_filter, List.mem_range]
    exact ⟨fun ⟨j, ⟨lt, bit⟩, eq⟩ => ⟨j, lt, bit, eq.symm⟩, fun ⟨j, lt, bit, eq⟩ => ⟨j, ⟨lt, bit⟩, eq.symm⟩⟩

/-- The conditions of a record are those that the model checks. -/
theorem sameConds_record (r : List Xword) (region stride : Nat) (windows : CopyWindows) (multicast needsLocal : Bool)
    {bases : Nat → Prop} {win : Window → Prop} {many inLocal : Prop}
    (hb : ∀ k, bases k ↔ k ∈ copyBases (if multicast then some (recMcast r) else none) stride)
    (hw : win (windowOf (recBase r)) ↔ windows.allow (recBase r) = true) (hm : many ↔ multicast = true)
        (hl : inLocal ↔ needsLocal = true) :
    SameConds (recordConds r region (boxBytes r ((recType r).getD .b8))
        ((recType r).getD .b8).blockBytes bases win many inLocal)
      (recChecks r region stride windows multicast needsLocal) := by
  have isBlock : ((recType r).getD .b8).blockBytes ≠ 0 ↔ ((recType r).getD .b8).isBlock = true := by
    simp [Ty.blockBytes, Ty.isBlock]
  rw [recordConds, recChecks]
  refine .cons (by simp) rfl <| .cons (by simp [hm]) rfl <| .cons ?_ rfl <| .cons (by simp [isBlock]) rfl <|
    .cons (by simp) rfl <| .cons (by simp) rfl <| .cons (by simp) rfl <| .cons (by simp) rfl <| .cons (by simp) rfl <|
    .cons (by simp) rfl <| .cons (by simp) rfl <| .cons (by simp) rfl <| .cons ?_ rfl <| .cons (by simp [hl]) rfl <|
    .cons (by simp [hw]) rfl <| .cons (by simp) rfl <| .cons (by simp) rfl <| .cons (by simp [hm]) rfl .nil
  · rw [Bool.not_eq_true', recTypeOk_eq_false]
  · simp only [hl, hb, Bool.and_eq_true, List.any_eq_true, decide_eq_true_eq]

/-- The bytes of a box in local memory, in the words of R190 to R194. -/
theorem boxBytes_eq (r : List Xword) (t : Ty) : boxBytes r t =
    if t.blockBytes = 0 then recCount r * tyBytes t else recCount r / 32 * t.blockBytes + 2 * (recCount r / 32) := by
  cases t <;> rfl

/-- The bytes of a block of each format. -/
theorem blockBytes_eq (t : Ty) : t.blockBytes =
    if t = .e4m3 ∨ t = .e5m2 then 32 else if t = .e3m2 ∨ t = .e2m3 then 24 else if t = .e2m1 ∨ t = .kf4 then 16 else 0 := by
  cases t <;> rfl

/-! ### The commands -/

/-- Whether a kind of copy is a collective. -/
def CopyKind.isColl : CopyKind → Bool
  | .collective .. => true
  | .linear .. | .tensor .. | .multicast .. | .indexed .. => false

/-- A COPY instruction queues a command of a kind and gives its token. -/
def Queues (s : State) (c : Cur) (w : Warp) (i : Instr) (d : SReg) (coll : Bool) (kind : CopyKind) : Prop :=
  let token := s.nextToken w.die w.asid
  ∃ (t : State) (u : Warp) (q : CopyCmd), Ends i s c t ∧
    t.warp c.warp = some u ∧ u.copies = w.copies + 1 ∧ (∀ r, u.s r = if r = d ∧
        d ≠ 0 then BitVec.ofNat 64 token.1 else w.s r) ∧
    u.vregs = w.vregs ∧ u.pregs = w.pregs ∧ (t.ctx w.ctxK).tokens = (s.ctx w.ctxK).tokens + 1 ∧
    q.kind = kind ∧ q.warp = c.warp ∧ q.gang = w.gang ∧ q.asid = w.asid ∧ q.token = token.1 ∧ q.slice = 0 ∧ q.cvtmode =
        w.cvtmode ∧
    (if coll then (t.die w.die).colls = (s.die w.die).colls ++ [(q, none)]
      else (t.cluster w.clusterK).cq = (s.cluster w.clusterK).cq ++ [q]) ∧
    ((s.core w.coreK).holdsDirty = false → (∀ x, x < token.2 ∨ token.2 + 8 ≤ x → t.byte x = s.byte x) ∧
      (memoryExists token.2 8 = true → t.num token.2 8 = 0))

theorem queues_of {s : State} {c : Cur} {w : Warp} (h : Issues s c w) {i : Instr} {d : SReg} {x : CopySpec}
    (he : exec i s = State.settle c (.done (s.queueCopy c w d x))) : Queues s c w i d x.kind.isColl x.kind := by
  obtain ⟨u, q, hu, ⟨copies, scalars, vregs, pregs⟩, tokens, ⟨kind, warp, gang, asid, token, slice, cvtmode⟩, queue, word⟩ :=
    State.queueCopy_spec h.warp d x
  refine ⟨s.queueCopy c w d x, u, q, he, hu, copies, scalars, vregs, pregs, tokens, kind, warp, gang, asid, token,
      slice, cvtmode, ?_, word⟩
  rw [show x.kind.isColl = q.isColl by rw [← kind]; rfl]
  exact queue

theorem queues_of_record {s : State} {c : Cur} {w : Warp} (h : Issues s c w) {i : Instr} {d : SReg} {r :
    List Xword} {kind : CopyKind}
    {idx : List Nat} {toGlobal : Bool} (he : exec i s = State.settle c (.done (s.queueRecord c w d r kind idx toGlobal))) :
    Queues s c w i d kind.isColl kind :=
  queues_of (x := recSpec r kind _ []) h he

/-- The command that the operands of `cpy` give. -/
def cpySpec (src dst ctl : Nat) : CopySpec :=
  { kind := .linear src dst (fld ctl 0 32) (fld ctl 32 1 == 1) (fld ctl 33 1 == 1), acq := fld ctl 34 1 == 1, rel :=
      fld ctl 35 1 == 1,
    scope := fld ctl 36 3, counter := 0, add := 0, draws := some false, bytes := fld ctl 0 32, members := [] }

/-- The checks of `cpy`, by its operands. -/
def State.cpyChecks (s : State) (gang src dst ctl : Nat) : List ParamCheck :=
  [⟨fld ctl 39 25 != 0, 2, 0xFF⟩, ⟨fld ctl 0 32 == 0, 4, 0xFF⟩,
      ⟨fld ctl 32 1 == 1 && s.outside gang src (fld ctl 0 32), 6, 0xFF⟩,
    ⟨fld ctl 33 1 == 1 && s.outside gang dst (fld ctl 0 32), 6, 0xFF⟩, ⟨decide (4 < fld ctl 36 3), 7, 0xFF⟩]

section Members
variable {s : State} {c : Cur} {w : Warp} {l : List Nat} (h : Issues s c w) (hu : w.priv = false) (ha : w.mayAccess c.lanes)
  (d a b : SReg)
include h hu ha

/-- The conditions of `cpy` (R334). -/
theorem cpy_judged (free : s.copyFull w false = false) :
    let src := (w.s a).toNat
    let dst := (w.s (a + 1)).toNat
    let ctl := (w.s (a + 2)).toNat
    let n := ctl % 2 ^ 32
    Judged (.cpy d a) s c [(ctl / 2 ^ 39 ≠ 0, 0x2FF), (n = 0, 0x4FF),
        (ctl / 2 ^ 32 % 2 = 1 ∧ s.regionBytes w.gang < src + n, 0x6FF),
            (ctl / 2 ^ 33 % 2 = 1 ∧ s.regionBytes w.gang < dst + n, 0x6FF),
        (4 < ctl / 2 ^ 36 % 8, 0x7FF)]
      (Queues s c w (.cpy d a) d false (.linear src dst n (ctl / 2 ^ 32 % 2 == 1) (ctl / 2 ^ 33 % 2 == 1))) := by
  intro src dst ctl n
  have small : ctl < 2 ^ 64 := (w.s (a + 2)).isLt
  have count : fld ctl 0 32 = n := by rw [fld, pow_zero, Nat.div_one]
  have run : exec (.cpy d a) s = State.settle c (s.checked (s.cpyChecks w.gang src dst ctl) fun _ =>
      .done (s.queueCopy c w d (cpySpec src dst ctl))) := by
    refine (run_engine h hu ha _).trans ?_
    rw [free]
    rfl
  refine judged_of run (.cons ?_ rfl <| .cons ?_ rfl <| .cons ?_ rfl <| .cons ?_ rfl <| .cons ?_ rfl .nil) fun he => ?_
  · rw [bne_iff_ne, fld]
    omega
  · rw [count, beq_iff_eq]
  · simp only [Bool.and_eq_true, beq_iff_eq, count, State.outside, decide_eq_true_eq]
    rfl
  · simp only [Bool.and_eq_true, beq_iff_eq, count, State.outside, decide_eq_true_eq]
    rfl
  · exact decide_eq_true_iff.symm
  · have queued := queues_of (x := cpySpec src dst ctl) h he
    rw [cpySpec, count] at queued
    exact queued

variable (hp : s.paramBlock w a 8 = some l)
include hp

/-- The conditions of `cpyt` (R337). -/
theorem cpyt_judged (free : s.copyFull w false = false) (toGlobal : Bool) {win : Window → Prop}
    (hw : ∀ va, win (windowOf va) ↔ (if toGlobal then CopyWindows.noMulticast else .any).allow va = true) :
    let r : List Xword := l.map fun x => BitVec.ofNat 64 x
    Judged (.cpyt d a toGlobal) s c (recordConds r (s.regionBytes w.gang) (boxBytes r ((recType r).getD .b8))
        ((recType r).getD .b8).blockBytes (fun k => k = 0) win False True)
      (Queues s c w (.cpyt d a toGlobal) d false (.tensor r toGlobal)) := by
  intro r
  have he : exec (.cpyt d a toGlobal) s = execCpyt d a toGlobal s := rfl
  unfold execCpyt at he
  have run := recordCopy_run h hu ha free he hp
  exact judged_of run (sameConds_record r _ 0 _ false true (fun k => (copyBases_mem false _ 0 k).symm) (hw _)
      (by simp) (by simp))
    (queues_of_record h)

/-- The conditions of `cpym` (R336), and a bit of MCAST beyond the gang's workgroups. -/
theorem cpym_judged (free : s.copyFull w false = false) {g : Gang} (hg : mfind s.gangs w.gang = some g) {win : Window → Prop}
    (hw : ∀ va, win (windowOf va) ↔ CopyWindows.any.allow va = true) :
    let r : List Xword := l.map fun x => BitVec.ofNat 64 x
    Judged (.cpym d a) s c (recordConds r (s.regionBytes w.gang) (boxBytes r ((recType r).getD .b8))
        ((recType r).getD .b8).blockBytes
        (fun k => ∃ m, m < 8 ∧ (recMcast r).testBit m = true ∧ k = m * (g.localBytes / g.members / 64 * 64)) win True True)
      ((recMcast r < 2 ^ g.members → Queues s c w (.cpym d a) d false (.multicast r)) ∧
        (2 ^ g.members ≤ recMcast r → Traps (.cpym d a) s c false 0x11 (BitVec.ofNat 64 (2 + 256 * recMcast r)))) := by
  intro r
  have stride : s.strideOf w.gang = (g.localBytes / g.members / 64 * 64, g.members) := by rw [State.strideOf, hg]; rfl
  have he : exec (.cpym d a) s = execCpym d a s := rfl
  unfold execCpym at he
  have run := recordCopy_run h hu ha free he hp
  dsimp only at run
  rw [stride] at run
  refine judged_of run
    (sameConds_record r _ _ _ true true (fun k => (copyBases_mem true _ _ k).symm) (hw _) (by simp) (by simp)) fun he => ?_
  refine ⟨fun lt => ?_, fun le => ?_⟩
  · rw [if_neg (by exact Nat.not_le.2 lt)] at he
    exact queues_of_record h he
  · rw [if_pos (by exact le)] at he
    rw [Traps, he, Nat.mul_comm 256]
    rfl

/-- The conditions of `cpyx` (R338). -/
theorem cpyx_judged (free : s.copyFull w false = false) {win : Window → Prop}
    (hw : ∀ va, win (windowOf va) ↔ CopyWindows.any.allow va = true) :
    let r : List Xword := l.map fun x => BitVec.ofNat 64 x
    let word := (w.s b).toNat
    let off := word % 2 ^ 24
    Judged (.cpyx d a b) s c (recordConds r (s.regionBytes w.gang) (boxBytes r ((recType r).getD .b8))
        ((recType r).getD .b8).blockBytes
        (fun k => k = 0) win False True ++ [(word / 2 ^ 24 % 2 ^ 40 ≠ 0, 0x2FF),
          (off % 4 ≠ 0 ∨ s.regionBytes w.gang < off + 4 * recBox r 1, 0x6FF)])
      (Queues s c w (.cpyx d a b) d false (.indexed r ((List.range (recBox r 1)).map fun k =>
        leNat (s.localBytes w.gang (off + 4 * k) 4)))) := by
  intro r word off
  have field : fld word 0 24 = off := by rw [fld, pow_zero, Nat.div_one]
  have he : exec (.cpyx d a b) s = execCpyx d a b s := rfl
  unfold execCpyx at he
  have run := recordCopy_run h hu ha free he hp
  dsimp only at run
  rw [field] at run
  refine judged_of run ((sameConds_record r _ 0 _ false true (fun k => (copyBases_mem false _ 0 k).symm) (hw _)
      (by simp) (by simp)).append (.cons ?_ rfl <| .cons ?_ rfl .nil))
    (queues_of_record h)
  · rw [bne_iff_ne]
    rfl
  · simp [State.outside, r]

/-- The conditions of `coll` (R332). -/
theorem coll_judged (free : s.copyFull w true = false) {win : Window → Prop}
    (hw : ∀ va, win (windowOf va) ↔ CopyWindows.privOnly.allow va = true) :
    let r : List Xword := l.map fun x => BitVec.ofNat 64 x
    let ty := (recType r).getD .b8
    let word := (w.s b).toNat
    let op := word % 8
    Judged (.coll d a b) s c (recordConds r (s.regionBytes w.gang) (boxBytes r ty) ty.blockBytes
        (fun k => k = 0) win False False ++
        [(4 < op ∨ word / 8 % 2 ^ 5 ≠ 0 ∨ word / 2 ^ 12 % 2 ^ 4 ≠ 0 ∨ word / 2 ^ 32 ≠ 0, 0x2FF), (recLocal r ≠ 0, 0x214),
          (ty.blockBytes ≠ 0 ∨ (op ∈ [0, 1, 3] ∧ ty ≠ .f32 ∧ ty ≠ .bf16), 0x307)])
      (Queues s c w (.coll d a b) d true (.collective r (w.s b))) := by
  intro r ty word op
  have small : word < 2 ^ 64 := (w.s b).isLt
  have top : (w.s b).toNat / 2 ^ 32 % 2 ^ 32 = (w.s b).toNat / 2 ^ 32 := Nat.mod_eq_of_lt (by omega)
  have field : fld word 0 3 = op := by rw [fld, pow_zero, Nat.div_one]; rfl
  have he : exec (.coll d a b) s = execColl d a b s := rfl
  unfold execColl at he
  have run := recordCopy_run h hu ha free he hp
  dsimp only at run
  rw [field] at run
  refine judged_of run ((sameConds_record r _ 0 _ false false (fun k => (copyBases_mem false _ 0 k).symm) (hw _)
      (by simp) (by simp)).append
      (.cons ?_ rfl <| .cons ?_ rfl <| .cons ?_ rfl .nil)) fun he => queues_of (x := recSpec r _ _ _) h he
  · simp only [Bool.or_eq_true, bne_iff_ne, decide_eq_true_eq, or_assoc, fld, top]
    rfl
  · rw [bne_iff_ne]
  · simp [Ty.blockBytes, Ty.isBlock, or_assoc, and_assoc, ty, r]

end Members

/-! ### The windows, and the waits -/

theorem allow_any (va : Nat) : windowOf va ≠ .unused ↔ CopyWindows.any.allow va = true := by
  cases h : windowOf va <;> simp [CopyWindows.allow, h]

theorem allow_noMulticast (va : Nat) : (windowOf va ≠ .unused ∧
    windowOf va ≠ .multicast) ↔ CopyWindows.noMulticast.allow va = true := by
  cases h : windowOf va <;> simp [CopyWindows.allow, h]

theorem allow_privOnly (va : Nat) : windowOf va = .priv ↔ CopyWindows.privOnly.allow va = true := by
  cases h : windowOf va <;> simp [CopyWindows.allow, h]

theorem copyFull_engine (s : State) (w : Warp) :
    s.copyFull w false = true ↔ 31 ≤ w.copies ∨ ¬(s.cluster w.clusterK).cq.length < 256 := by
  simp [State.copyFull]

theorem copyFull_coll (s : State) (w : Warp) : s.copyFull w true = true ↔ 31 ≤ w.copies := by
  simp [State.copyFull]

/-- Settles O42: a command finds room or waits; its record is judged, and with no condition it is queued. -/
theorem copyMembers : Obligations.CopyMembers := by
  unfold Obligations.CopyMembers
  intro s c w h hu token queues engines room
  refine ⟨fun l mem out holds found d a b g => ⟨fun names i hi => ?_, fun names => ?_⟩,
    fun ha d a b g => ⟨fun full i hi => ?_, fun full => ?_⟩, fun ha few d a b => ?_⟩
  · obtain ⟨body, he⟩ := exec_engines hi s
    exact waits_acquire h hu he mem out holds found names rfl
  · obtain ⟨body, he⟩ := exec_coll d a b s
    exact waits_acquire h hu he mem out holds found names rfl
  · obtain ⟨body, he⟩ := exec_engines hi s
    exact waits_engine h hu ha he (if_pos ((copyFull_engine s w).2 full))
  · obtain ⟨body, he⟩ := exec_coll d a b s
    exact waits_engine h hu ha he (if_pos ((copyFull_coll s w).2 full))
  have engine : room → s.copyFull w false = false := fun hr =>
    Bool.eq_false_iff.2 fun full => ((copyFull_engine s w).1 full).elim
        (fun many => absurd few (Nat.not_lt.2 many)) fun no => no hr
  have coll : s.copyFull w true = false := Bool.eq_false_iff.2 fun full => absurd few
      (Nat.not_lt.2 ((copyFull_coll s w).1 full))
  intro region src dst ctl n srcIn dstIn
  refine ⟨fun hr => cpy_judged h hu ha d a (engine hr), fun none i hi place => ?_, fun l hp => ?_⟩
  · obtain ⟨many, make, he, which⟩ := exec_records hi s
    refine recordCopy_traps h hu ha ?_ he none
    cases many with
    | false => exact engine (place.resolve_right fun eq => absurd (which.2 eq) Bool.false_ne_true)
    | true => exact coll
  intro r f word off ty unit count bytes mcast record alone global
  have units : ((recType (l.map fun x => BitVec.ofNat 64 x)).getD .b8).blockBytes = unit := blockBytes_eq _
  have sizes : boxBytes (l.map fun x => BitVec.ofNat 64 x) ((recType (l.map fun x => BitVec.ofNat 64 x)).getD .b8) =
      bytes := by rw [boxBytes_eq, units]; rfl
  refine ⟨fun hr => ⟨?_, ?_, fun g hg => ?_, ?_⟩, ?_⟩
  · have judged := cpyt_judged h hu ha d a hp (engine hr) true
      (win := fun x => x ≠ .unused ∧ x ≠ .multicast) allow_noMulticast
    dsimp only at judged
    rw [units, sizes] at judged
    exact judged
  · have judged := cpyt_judged h hu ha d a hp (engine hr) false (win := global) allow_any
    dsimp only at judged
    rw [units, sizes] at judged
    exact judged
  · have judged := cpym_judged h hu ha d a hp (engine hr) hg (win := global) allow_any
    dsimp only at judged
    rw [units, sizes] at judged
    exact judged
  · have judged := cpyx_judged h hu ha d a b hp (engine hr) (win := global) allow_any
    dsimp only at judged
    rw [units, sizes] at judged
    exact judged
  · have judged := coll_judged h hu ha d a b hp coll (win := fun x => x = .priv) allow_privOnly
    dsimp only at judged
    rw [units, sizes] at judged
    exact judged

end Sys2Proof.Machine
end

section
/-!
PROOFS. The MATRIX commands (09 R199 to R208, 23 R386 to R396): the command that is queued, and the conditions of a block.
-/

namespace Sys2Proof.Machine
open Sys2Proof

/-! ### Reading a block (R185) -/

section Block
variable {s : State} {c : Cur} {w : Warp} {a : SReg} {i : Instr} {make : State → Cur → Warp → List Word → Effect}
  (h : Issues s c w) (hu : w.priv = false)
include h hu

/-- A command reads its block where it finds room. -/
theorem blockInstr_command (ha : w.mayAccess c.lanes) (free : s.matrixFull w = false)
    (he : exec i s = s.blockInstr true a make) :
    (s.paramBlock w a 4 = none → Traps i s c false 0x0B 0xFF01) ∧
      ∀ l, s.paramBlock w a 4 = some l → exec i s = State.settle c (make s c w (l.map fun x => BitVec.ofNat 32 x)) := by
  refine ⟨fun hp => ?_, fun l hp => ?_⟩
  · rw [Traps, he, State.blockInstr]
    refine (run_engine h hu ha _).trans ?_
    rw [free, hp]
    rfl
  · rw [he, State.blockInstr]
    refine (run_engine h hu ha _).trans ?_
    rw [free, hp]
    rfl

/-- `quote` reads its block at once. -/
theorem blockInstr_quote (he : exec i s = s.blockInstr false a make) :
    (s.paramBlock w a 4 = none → Traps i s c false 0x0B 0xFF01) ∧
      ∀ l, s.paramBlock w a 4 = some l → exec i s = State.settle c (make s c w (l.map fun x => BitVec.ofNat 32 x)) := by
  refine ⟨fun hp => ?_, fun l hp => ?_⟩
  · rw [Traps, he, State.blockInstr]
    refine (run_userOnly h hu (free_nil w) _).trans ?_
    rw [hp]
    rfl
  · rw [he, State.blockInstr]
    refine (run_userOnly h hu (free_nil w) _).trans ?_
    rw [hp]
    rfl

end Block

/-- The five matrix commands wait while there is no room. -/
theorem exec_matrix {i : Instr} {a : SReg} {clear : Bool} {n : BitVec 3}
    (hi : i ∈ [Instr.mma a, .mzero a, .mload a, .mdrain a, .hist a clear n]) (s : State) : ∃ body : Cur → Warp → Effect,
      exec i s = s.run (engineNeeds 2) body ∧ ∀ c w, s.matrixFull w = true → body c w = .stop s .engine := by
  simp only [List.mem_cons, List.not_mem_nil, or_false] at hi
  rcases hi with rfl | rfl | rfl | rfl | rfl <;> exact ⟨_, rfl, fun c w full => by simp [full]⟩

/-- The commands that take a block. -/
theorem exec_block {i : Instr} {a : SReg} (hi : i ∈ [Instr.mma a, .mzero a, .mload a, .mdrain a]) (s : State) :
    ∃ make : State → Cur → Warp → List Word → Effect, exec i s = s.blockInstr true a make := by
  simp only [List.mem_cons, List.not_mem_nil, or_false] at hi
  rcases hi with rfl | rfl | rfl | rfl
  · have he : exec (.mma a) s = execMma a s := rfl
    unfold execMma at he
    exact ⟨_, he⟩
  · have he : exec (.mzero a) s = execMzero a s := rfl
    unfold execMzero at he
    exact ⟨_, he⟩
  · have he : exec (.mload a) s = execMload a s := rfl
    unfold execMload at he
    exact ⟨_, he⟩
  · have he : exec (.mdrain a) s = execMdrain a s := rfl
    unfold execMdrain at he
    exact ⟨_, he⟩

theorem matrixFull_iff (s : State) (w : Warp) : s.matrixFull w = true ↔ 31 ≤ w.matrix ∨ 64 ≤ (s.core w.coreK).mq.length := by
  simp [State.matrixFull]

/-! ### A command that is queued -/

/-- A MATRIX instruction queues a command, and changes nothing else. -/
def QueuesMatrix (s : State) (c : Cur) (w : Warp) (i : Instr) (kind : MatrixKind) (block : List Word) (out : Nat) : Prop :=
  ∃ (t : State) (u : Warp) (q : MatrixCmd),
    Ends i s c t ∧ t = { s with warps := t.warps, cores := t.cores, nextId := s.nextId + 1 } ∧ t.warp c.warp = some u ∧
    u = { w with matrix := w.matrix + 1, lanes := u.lanes } ∧ (kind ≠ .mdrain → u.lanes = w.lanes) ∧
    (t.core w.coreK).mq = (s.core w.coreK).mq ++ [q] ∧ (t.core w.coreK).acc = (s.core w.coreK).acc ∧ q.kind = kind ∧
        q.block = block ∧
    q.out = out ∧ q.warp = c.warp ∧ q.gang = w.gang ∧ q.asid = w.asid ∧ q.cvtmode = w.cvtmode ∧ q.ran = false

/-- The command with the operands of its warp, behind the others of its core. -/
theorem State.queueMatrix_eq (s : State) (c : Cur) (w : Warp) (kind : MatrixKind) (block : List Word) (out : Nat)
    (idx : List Nat)
    (draw : Word) (lanes : Bool) : ∃ (q : MatrixCmd) (gap : Nat),
      (q.kind = kind ∧ q.block = block ∧ q.out = out ∧ q.warp = c.warp ∧ q.gang = w.gang ∧ q.asid = w.asid ∧
          q.cvtmode = w.cvtmode ∧
        q.ran = false) ∧
      s.queueMatrix c w kind block out idx draw lanes =
        (({ s with nextId := s.nextId + 1 } : State).setWarp c.warp { w with matrix := w.matrix + 1 }).setCore w.coreK
          { s.core w.coreK with mq := (s.core w.coreK).mq ++ [q], idleGap := gap } :=
  ⟨_, _, ⟨rfl, rfl, rfl, rfl, rfl, rfl, rfl, rfl⟩, rfl⟩

/-- The queueing of a command for a warp that has at most taken draws,
    in a state that differs in the cores' choices of engine. -/
theorem queuesMatrix_of {s : State} {c : Cur} {w u : Warp} {i : Instr} {kind : MatrixKind} {block : List Word} {out :
    Nat} {idx : List Nat}
    {draw : Word} {lanes : Bool} {v : State} (same : v = { s with cores := v.cores })
    (core : (v.core w.coreK).mq = (s.core w.coreK).mq ∧ (v.core w.coreK).acc = (s.core w.coreK).acc)
        (hu : u = { w with lanes := u.lanes })
    (hl : kind ≠ .mdrain → u.lanes = w.lanes) (he : exec i s = State.settle c
        (.done (v.queueMatrix c u kind block out idx draw lanes))) :
    QueuesMatrix s c w i kind block out := by
  obtain ⟨mq, acc⟩ := core
  obtain ⟨q, gap, ⟨kindq, blockq, outq, warp, gang, asid, cvtmode, ran⟩, eq⟩ :=
      v.queueMatrix_eq c u kind block out idx draw lanes
  have key : u.coreK = w.coreK := by rw [hu]; rfl
  rw [eq, key] at he
  refine ⟨_, { u with matrix := u.matrix + 1 }, q, he, ?_, ?_, ?_, hl, ?_, ?_, kindq, blockq, outq, warp, ?_, ?_, ?_, ran⟩
  · rw [same]
    rfl
  · rw [State.warp_of_setCore, State.warp_setWarp_same]
  · rw [hu]
  · rw [State.core_setCore, if_pos rfl, ← mq]
  · rw [State.core_setCore, if_pos rfl, ← acc]
  · rw [gang, hu]
  · rw [asid, hu]
  · rw [cvtmode, hu]

/-- The draw of a drain changes the lanes of its warp only. -/
theorem Warp.draw_sameButLanes (w : Warp) (lane : Nat) : (w.draw lane).2 = { w with lanes := (w.draw lane).2.lanes } := rfl

/-! ### The conditions of a block (R186, R200) -/

/-- A condition that does not hold counts for nothing. -/
theorem SameConds.drop {p : Prop} {k : Nat} {conds : List (Prop × Nat)} {l : List ParamCheck} (no : ¬p)
    (h : SameConds conds l) :
    SameConds ((p, k) :: conds) l := fun x => by
  simp only [List.mem_cons, or_and_right, exists_or, exists_eq_left]
  exact (or_iff_right fun hp => no hp.1).trans (h x)

/-- The window of a global operand. -/
def near (x : Nat) : Prop := windowOf x = .priv ∨ windowOf x = .peer

theorem not_near_iff (x : Nat) : ¬near x ↔ (windowOf x != .priv && windowOf x != .peer) = true := by
  simp [near]

/-- The conditions of an operand whose page is formatted or not and whose last rows are given (R200). -/
def operandConds (region x stride side atX atTy : Nat) (t : Ty) (formatted : Bool) (last : Nat → Prop) (n : Nat) :
    List (Prop × Nat) :=
  let off := x % 2 ^ 24
  let size := if t.blockBytes = 0 then tyBytes t else 1
  [(x.testBit 63 = true ∧ x / 2 ^ 24 % 2 ^ 39 ≠ 0, 0x200 + atX),
    (x.testBit 63 = true ∧ ∃ r, last r ∧ region < off + (r * stride + rowBytes t n), 0x600),
    (x.testBit 63 = true ∧ (off % size ≠ 0 ∨ stride % size ≠ 0), 0x600 + atTy), (¬x.testBit 63 = true ∧ ¬near x, 0x700 + atX),
    (¬x.testBit 63 = true ∧ side ≠ 0 ∧ formatted = true, 0x200 + atX),
    (t.blockBytes ≠ 0 ∧ formatted = false ∧ stride % t.blockBytes ≠ 0, 0x400 + atTy),
    (t.blockBytes ≠ 0 ∧ formatted = false ∧ side ≠ 0 ∧
      ∃ r, last r ∧ region < side + 2 * ((r * stride + rowBytes t n - 1) / t.blockBytes) + 2, 0x600)]

/-- The last row of an operand: none where it reads none. -/
def IsLast (last : Nat → Prop) (rows : Option Nat) : Prop :=
  match rows with
  | none => ∀ r, ¬last r
  | some m => last m ∧ ∀ r, last r → r ≤ m

/-- A bound that grows with the row is passed by some row when the last one passes it. -/
theorem exists_last_iff {last : Nat → Prop} {rows : Option Nat} (h : IsLast last rows) {f : Nat → Nat}
    (mono : Monotone f) (region : Nat) :
    (∃ r, last r ∧ region < f r) ↔ (rows.isSome && decide (region < f (rows.getD 0))) = true := by
  cases rows with
  | none => exact ⟨fun ⟨r, hr, _⟩ => absurd hr (h r), fun no => Bool.noConfusion no⟩
  | some m =>
    obtain ⟨mem, le⟩ := h
    simp only [Option.isSome_some, Bool.true_and, Option.getD_some, decide_eq_true_eq]
    exact ⟨fun ⟨r, hr, lt⟩ => lt.trans_le (mono (le r hr)), fun lt => ⟨m, mem, lt⟩⟩

theorem isBlock_iff (t : Ty) : t.isBlock = true ↔ t.blockBytes ≠ 0 := by
  simp [Ty.blockBytes, Ty.isBlock]

theorem sameConds_operand (s : State) (w : Warp) (u : OperandUse) {last : Nat → Prop} (hl : IsLast last u.rows) :
    SameConds (operandConds (s.regionBytes w.gang) u.addr u.stride u.side u.addrOff u.tyOff u.ty
        (!s.operandRaw w.die w.asid u.addr) last
      u.elems) (s.operandChecks w u) := by
  have code : ∀ k off : Nat, 256 * k + off = (⟨true, k, off⟩ : ParamCheck).code := fun _ _ => rfl
  have size : (if u.ty.blockBytes = 0 then tyBytes u.ty else 1) = if u.ty.isBlock then 1 else tyBytes u.ty := by
    by_cases hb : u.ty.isBlock = true
    · rw [if_pos hb, if_neg ((isBlock_iff _).1 hb)]
    · rw [if_neg hb, if_pos (not_not.1 fun hne => hb ((isBlock_iff _).2 hne))]
  obtain ⟨raw, hraw⟩ : ∃ raw, raw = s.operandRaw w.die w.asid u.addr := ⟨_, rfl⟩
  rw [operandConds, State.operandChecks, ← hraw]
  refine SameConds.append (conds := [_, _, _, _, _]) (conds' := [_, _]) ?_ ?_
  · by_cases loc : u.addr.testBit 63 = true
    · rw [if_pos (show addrLocal u.addr = true from loc)]
      refine .cons ?_ rfl <| .cons ?_ rfl <| .cons ?_ rfl <| .drop (fun h => h.1 loc) <| .drop (fun h => h.1 loc) .nil
      · rw [bne_iff_ne, and_iff_right loc]
        rfl
      · rw [and_iff_right loc]
        exact exists_last_iff hl (f := fun r => u.addr % 2 ^ 24 + (r * u.stride + rowBytes u.ty u.elems))
          (fun a b hab => by have := Nat.mul_le_mul_right u.stride hab; dsimp only; omega) _
      · rw [and_iff_right loc, size]
        simp only [Bool.or_eq_true, bne_iff_ne]
        rfl
    · rw [if_neg (show ¬addrLocal u.addr = true from loc)]
      refine .drop (fun h => loc h.1) <| .drop (fun h => loc h.1) <| .drop
          (fun h => loc h.1) <| .cons ?_ rfl <| .cons ?_ rfl .nil
      · rw [and_iff_right loc, not_near_iff]
      · rw [and_iff_right loc]
        simp
  · by_cases use : u.ty.isBlock = true ∧ raw = true
    · obtain ⟨hb, hr⟩ := use
      rw [hb, hr, Bool.and_true, if_pos rfl]
      have pos := (isBlock_iff _).1 hb
      have most : max 1 u.ty.blockBytes = u.ty.blockBytes := max_eq_right (Nat.one_le_iff_ne_zero.2 pos)
      refine .cons ?_ rfl <| .cons ?_ rfl .nil
      · rw [and_iff_right pos, bne_iff_ne]
        simp
      · rw [and_iff_right pos, exists_last_iff hl (f := fun r => u.side + 2 *
          ((r * u.stride + rowBytes u.ty u.elems - 1) / u.ty.blockBytes) + 2)
          (fun a b hab => ?_) _, most]
        · simp only [Bool.and_eq_true, bne_iff_ne, Bool.not_true, true_and, decide_eq_true_eq]
          rw [and_assoc, and_left_comm]
        · have := Nat.div_le_div_right (c := u.ty.blockBytes)
            (Nat.sub_le_sub_right (Nat.add_le_add_right (Nat.mul_le_mul_right u.stride hab) (rowBytes u.ty u.elems)) 1)
          dsimp only
          omega
    · have off : (u.ty.isBlock && raw) = false := by rwa [← Bool.not_eq_true, Bool.and_eq_true]
      rw [off, if_neg Bool.false_ne_true]
      have no : ¬(u.ty.blockBytes ≠ 0 ∧ (!raw) = false) := by
        rw [← isBlock_iff, Bool.not_eq_false']
        exact use
      exact .drop (fun h => no ⟨h.1, h.2.1⟩) <| .drop (fun h => no ⟨h.1, h.2.1⟩) .nil

/-- The operand pairs of an `mma`, with G and ACCTYPE (R200). -/
def IsPair (b : MBlock) (g x : Nat) : Prop :=
  let narrow (t : Ty) := t ∈ [Ty.e4m3, .e5m2, .e3m2, .e2m3]
  let four (t : Ty) := t ∈ [Ty.e2m1, .kf4]
  let byte (t : Ty) := t ∈ [Ty.i8, .n8]
  ∃ p q, b.aty = some p ∧ b.bty = some q ∧
    ((g = 16 ∧ x = 13 ∧ p = q ∧ (p = .f16 ∨ p = .bf16)) ∨ (g = 64 ∧ x = 13 ∧ four p ∧ four q) ∨
        (g = 32 ∧ x = 9 ∧ byte p ∧ byte q) ∨
      (g = 32 ∧ x = 13 ∧ (narrow p ∨ four p) ∧ (narrow q ∨ four q) ∧ (narrow p ∨ narrow q)))

theorem tyNarrow_iff (t : Ty) : tyNarrow t = true ↔ t ∈ [Ty.e4m3, .e5m2, .e3m2, .e2m3] := by
  simp [tyNarrow, or_assoc]

theorem tyFour_iff (t : Ty) : tyFour t = true ↔ t ∈ [Ty.e2m1, .kf4] := by
  simp [tyFour]

theorem pairOf_eq_some (p q : Ty) (g x : Nat) : pairOf p q = some (g, x) ↔
    (g = 16 ∧ x = 13 ∧ p = q ∧ (p = .f16 ∨ p = .bf16)) ∨ (g = 64 ∧ x = 13 ∧ tyFour p = true ∧ tyFour q = true) ∨
      (g = 32 ∧ x = 9 ∧ p ∈ [Ty.i8, .n8] ∧ q ∈ [Ty.i8, .n8]) ∨
      (g = 32 ∧ x = 13 ∧ (tyNarrow p = true ∨ tyFour p = true) ∧ (tyNarrow q = true ∨ tyFour q = true) ∧
        (tyNarrow p = true ∨ tyNarrow q = true)) := by
  have flip : ∀ a b : Nat, some (a, b) = some (g, x) ↔ g = a ∧ x = b := fun a b => by
    rw [Option.some.injEq, Prod.mk.injEq, @eq_comm _ a, @eq_comm _ b]
  have other : ∀ t : Ty, tyNarrow t = true ∨ tyFour t = true → t ≠ .f16 ∧ t ≠ .bf16 ∧ t ∉ [Ty.i8, .n8] := fun t => by
    cases t <;> decide
  rw [pairOf]
  split_ifs with halves bytes fours mixed
  · rw [flip]
    rcases halves with ⟨rfl, rfl⟩ | ⟨rfl, rfl⟩ <;> simp [tyFour, tyNarrow]
  · rw [flip]
    obtain ⟨rfl | rfl, rfl | rfl⟩ := bytes <;> simp [tyFour, tyNarrow]
  · rw [flip]
    simp only [tyFour, Bool.and_eq_true, Bool.or_eq_true, beq_iff_eq] at fours
    obtain ⟨rfl | rfl, rfl | rfl⟩ := fours <;> simp [tyFour, tyNarrow]
  · rw [flip]
    simp only [Bool.and_eq_true, Bool.or_eq_true] at mixed fours
    obtain ⟨hp, hq⟩ := mixed
    obtain ⟨notF16, notBf16, notByte⟩ := other p hp
    have some_ : tyNarrow p = true ∨ tyNarrow q = true := by
      by_contra no
      rw [not_or] at no
      exact fours ⟨hp.resolve_left no.1, hq.resolve_left no.2⟩
    simp only [notF16, notBf16, notByte, hp, hq, some_, fours, or_false, false_and, and_false, false_or, and_true]
  · simp only [Bool.and_eq_true, Bool.or_eq_true] at mixed fours
    refine ⟨fun h => absurd h (by simp), ?_⟩
    rintro (⟨-, -, rfl, hp⟩ | ⟨-, -, hp, hq⟩ | ⟨-, -, hp, hq⟩ | ⟨-, -, hp, hq, -⟩)
    · exact absurd (hp.imp (fun h => ⟨h, h⟩) fun h => ⟨h, h⟩) halves
    · exact absurd ⟨hp, hq⟩ fours
    · exact absurd ⟨by simpa using hp, by simpa using hq⟩ bytes
    · exact absurd ⟨hp, hq⟩ mixed

theorem isPair_iff (b : MBlock) (g x : Nat) : IsPair b g x ↔ b.pair = some (g, x) := by
  rw [MBlock.pair]
  simp only [IsPair, ← tyNarrow_iff, ← tyFour_iff, ← pairOf_eq_some]
  cases hp : b.aty with
  | none => simp
  | some p =>
    cases hq : b.bty with
    | none => simp
    | some q => simp

/-! ### The conditions of each command -/

/-- R186 kinds 4 and 5 of the region. -/
def MBlock.storeConds (b : MBlock) (die : Nat) : List (Prop × Nat) :=
  [(b.m = 0, 0x404), (b.n = 0, 0x406), ((if die < 4 then 1024 else 256) < b.row0 + b.m, 0x504), (512 < b.col0 + b.n, 0x506)]

/-- Reserved bits of a block. -/
def MBlock.reservedConds (b : MBlock) : List (Prop × Nat) :=
  [(b.res0 = true, 0x200), (b.res14 = true, 0x238), (b.res14hi = true, 0x23A), (b.res15 = true, 0x23C)]

theorem MBlock.same_store (b : MBlock) (die : Nat) : SameConds (b.storeConds die) (b.regionChecks (accRowCount die)) := by
  refine .cons (by simp) rfl <| .cons (by simp) rfl <| .cons ?_ rfl <| .cons (by simp) rfl .nil
  rw [decide_eq_true_eq, accRowCount, isMatrixDie]
  simp only [decide_eq_true_eq]

theorem MBlock.same_reserved (b : MBlock) : SameConds b.reservedConds b.reservedChecks :=
  .cons Iff.rfl rfl <| .cons Iff.rfl rfl <| .cons Iff.rfl rfl <| .cons Iff.rfl rfl .nil

/-- The rows of A that an `mma` reads, in the terms of R202. -/
def State.rowsA (s : State) (gang : Nat) (b : MBlock) (r : Nat) : Prop :=
  if b.gather = true then b.idx + 4 * b.m ≤ s.regionBytes gang ∧ r ≠ 0xFFFFFFFF ∧
    ∃ i, i < b.m ∧ leNat (s.localBytes gang (b.idx + 4 * i) 4) = r
  else r = b.m - 1

/-- The greatest of a list and a first one. -/
theorem isLast_foldl_max (r : Nat) (l : List Nat) : IsLast (fun x => x ∈ r :: l) (some (l.foldl max r)) := by
  induction l generalizing r with
  | nil => exact ⟨List.mem_cons_self, fun x hx => (List.mem_singleton.1 hx).le⟩
  | cons y l ih =>
    obtain ⟨mem, le⟩ := ih (max r y)
    refine ⟨?_, fun x hx => ?_⟩
    · rcases List.mem_cons.1 mem with eq | mem
      · rw [List.foldl_cons, eq]
        rcases max_choice r y with same | same <;> rw [same] <;> simp
      · exact List.mem_cons_of_mem _ (List.mem_cons_of_mem _ mem)
    · have base := le _ List.mem_cons_self
      rcases List.mem_cons.1 hx with rfl | hx
      · exact (le_max_left _ _).trans base
      · rcases List.mem_cons.1 hx with rfl | hx
        · exact (le_max_right _ _).trans base
        · exact le x (List.mem_cons_of_mem _ hx)

theorem State.isLast_rowsA (s : State) (gang : Nat) (b : MBlock) : IsLast (s.rowsA gang b) (s.lastRow gang b) := by
  rw [State.lastRow]
  by_cases hg : b.gather = true
  · have rows : ∀ r, s.rowsA gang b r ↔ s.outside gang b.idx (4 * b.m) = false ∧ r ∈
      (s.gatherIdx gang b).filter fun r => r ≠ 0xFFFFFFFF :=
      fun r => by
        simp only [State.rowsA, if_pos hg, State.outside, State.gatherIdx, decide_eq_false_iff_not, Nat.not_lt,
            List.mem_filter,
          List.mem_map, List.mem_range, decide_eq_true_eq]
        tauto
    rw [if_pos hg]
    split_ifs with out
    · exact fun r hr => by
        have inside := ((rows r).1 hr).1
        rw [out] at inside
        exact Bool.noConfusion inside
    · have inside : s.outside gang b.idx (4 * b.m) = false := Bool.eq_false_iff.2 out
      cases hl : (s.gatherIdx gang b).filter fun r => r ≠ 0xFFFFFFFF with
      | nil => exact fun r hr => absurd ((rows r).1 hr).2 (by rw [hl]; exact List.not_mem_nil)
      | cons r l =>
        obtain ⟨mem, le⟩ := isLast_foldl_max r l
        exact ⟨(rows _).2 ⟨inside, by rw [hl]; exact mem⟩, fun x hx => le x (by rw [← hl]; exact ((rows x).1 hx).2)⟩
  · rw [if_neg hg]
    have rows : ∀ r, s.rowsA gang b r ↔ r = b.m - 1 := fun r => by rw [State.rowsA, if_neg hg]
    exact ⟨(rows _).2 rfl, fun r hr => ((rows r).1 hr).le⟩

/-- The conditions of `mma` and `quote` (R390). -/
def State.mmaConds (s : State) (w : Warp) (b : MBlock) : List (Prop × Nat) :=
  let region := s.regionBytes w.gang
  b.reservedConds ++ [(b.res10 = true, 0x22B), (¬(∃ g x, IsPair b g x), 0x301), ((∃ g x, IsPair b g x ∧ x ≠ b.accTy), 0x301),
    (b.k = 0, 0x408), ((∃ g x, IsPair b g x ∧ b.k % g ≠ 0), 0x401)] ++ b.storeConds w.die ++
    [(4 < b.scope, 0x73A), ((b.bty.getD .b8).blockBytes ≠ 0 ∧ b.transB = false, 0xB00),
        (b.gather = true ∧ b.nidx ≠ b.m, 0x900),
      (b.gather = true ∧ (b.idx % 4 ≠ 0 ∨ region < b.idx + 4 * b.nidx), 0x600)] ++
    operandConds region b.aaddr b.astride b.aside 16 1 (b.aty.getD .b8) (!s.operandRaw w.die w.asid b.aaddr)
        (s.rowsA w.gang b) b.k ++
    operandConds region b.baddr b.bstride b.bside 24 2 (b.bty.getD .b8) (!s.operandRaw w.die w.asid b.baddr)
      (fun r => r = (if b.transB = true then b.n else b.k) - 1) (if b.transB = true then b.k else b.n)

theorem State.same_mma (s : State) (w : Warp) (b : MBlock) : SameConds (s.mmaConds w b) (s.mmaChecks w b) := by
  refine .append (.append (.append (.append (.append b.same_reserved
    (.cons Iff.rfl rfl <| .cons ?_ rfl <| .cons ?_ rfl <| .cons ?_ rfl <| .cons ?_ rfl .nil)) (b.same_store w.die))
    (.cons ?_ rfl <| .cons ?_ rfl <| .cons ?_ rfl <| .cons ?_ rfl .nil))
    (sameConds_operand s w (s.operandA w.gang b) (s.isLast_rowsA w.gang b)))
    (sameConds_operand s w b.operandB ⟨rfl, fun (r : Nat) hr => Nat.le_of_eq hr⟩)
  · simp only [isPair_iff]
    rcases b.pair with _ | ⟨g, x⟩ <;> simp
  · simp only [isPair_iff]
    rcases b.pair with _ | ⟨g, x⟩ <;> simp
  · simp
  · simp only [isPair_iff]
    rcases b.pair with _ | ⟨g, x⟩ <;> simp [Nat.mod_one]
  · simp
  · rw [← isBlock_iff]
    simp
  · simp
  · simp [State.outside]

/-- The conditions of `mload` (R389). -/
def State.mloadConds (s : State) (w : Warp) (b : MBlock) : List (Prop × Nat) :=
  let isLocal := b.aaddr.testBit 63 = true
  let off := b.aaddr % 2 ^ 24
  [(b.atyCode ≠ b.accTy, 0x301), (b.accTy ≠ 13 ∧ b.accTy ≠ 9, 0x303)] ++ b.storeConds w.die ++
    [(4 < b.scope, 0x73A), (isLocal ∧ b.aaddr / 2 ^ 24 % 2 ^ 39 ≠ 0, 0x210),
      (isLocal ∧ s.regionBytes w.gang < off + ((b.m - 1) * b.astride + 4 * b.n), 0x604),
      (isLocal ∧ (off % 4 ≠ 0 ∨ b.astride % 4 ≠ 0), 0x610), (¬isLocal ∧ ¬near b.aaddr, 0x710)]

theorem State.same_mload (s : State) (w : Warp) (b : MBlock) : SameConds (s.mloadConds w b) (s.mloadChecks w b) := by
  rw [State.mloadConds, State.mloadChecks, List.append_assoc _ [_] _]
  refine .append (.append (.cons ?_ rfl <| .cons ?_ rfl .nil) (b.same_store w.die)) ?_
  · simp
  · simp
  by_cases loc : b.aaddr.testBit 63 = true
  · rw [if_pos (show addrLocal b.aaddr = true from loc)]
    refine .cons (by simp) rfl <| .cons ?_ rfl <| .cons ?_ rfl <| .cons ?_ rfl <| .drop (fun h => h.1 loc) .nil
    · rw [bne_iff_ne, and_iff_right loc]
      rfl
    · rw [and_iff_right loc]
      exact decide_eq_true_iff.symm
    · rw [and_iff_right loc]
      simp only [Bool.or_eq_true, bne_iff_ne]
      rfl
  · rw [if_neg (show ¬addrLocal b.aaddr = true from loc)]
    refine .cons (by simp) rfl <| .drop (fun h => loc h.1) <| .drop (fun h => loc h.1) <| .drop
        (fun h => loc h.1) <| .cons ?_ rfl .nil
    rw [and_iff_right loc, not_near_iff]

/-- The conditions of `mdrain` (R387). -/
def State.mdrainConds (s : State) (w : Warp) (b : MBlock) : List (Prop × Nat) :=
  let isLocal := b.aaddr.testBit 63 = true
  let region := s.regionBytes w.gang
  let t := b.aty.getD .b8
  b.reservedConds ++ [(b.aside ≠ 0 ∧ ¬isLocal, 0x210),
      (¬∃ t, b.aty = some t ∧ ((b.accTy = 13 ∧ (t ∈ [Ty.f32, .f16, .bf16] ∨ t.blockBytes ≠ 0)) ∨
        (b.accTy = 9 ∧ t ∈ [Ty.i32, .n32, .i16, .n16, .i8, .n8])), 0x301),
            (b.hist = true ∧ b.accTy = 9, 0x300)] ++ b.storeConds w.die ++
    [(isLocal ∧ b.aaddr / 2 ^ 24 % 2 ^ 39 ≠ 0, 0x210),
      (isLocal ∧ region < b.aaddr % 2 ^ 24 + ((b.m - 1) * b.astride + if t.blockBytes =
          0 then b.n * tyBytes t else b.n / 32 * t.blockBytes),
        0x601),
      (isLocal ∧ t.blockBytes ≠ 0 ∧ (b.aside = 0 ∨ region < b.aside + 2 * (b.m * b.n / 32)), 0x601),
          (¬isLocal ∧ ¬near b.aaddr, 0x710),
      (4 < b.scope, 0x73A), (t.blockBytes ≠ 0 ∧ b.n % 32 ≠ 0, 0xB01)]

theorem drainOk_iff (accTy : Nat) (t : Ty) : drainOk accTy t = true ↔
    (accTy = 13 ∧ (t ∈ [Ty.f32, .f16, .bf16] ∨ t.blockBytes ≠ 0)) ∨
    (accTy = 9 ∧ t ∈ [Ty.i32, .n32, .i16, .n16, .i8, .n8]) := by
  rw [← isBlock_iff, drainOk]
  split_ifs with h
  · simp [h, or_assoc]
  · simp [h, or_assoc]

theorem State.same_mdrain (s : State) (w : Warp) (b : MBlock) : SameConds (s.mdrainConds w b) (s.mdrainChecks w b) := by
  have bytes : (if (b.aty.getD .b8).blockBytes = 0 then b.n * tyBytes (b.aty.getD .b8) else b.n / 32 *
      (b.aty.getD .b8).blockBytes) =
      if (b.aty.getD .b8).isBlock then b.n / 32 * (b.aty.getD .b8).blockBytes else b.n * tyBytes (b.aty.getD .b8) := by
    by_cases hb : (b.aty.getD .b8).isBlock = true
    · rw [if_pos hb, if_neg ((isBlock_iff _).1 hb)]
    · rw [if_neg hb, if_pos (not_not.1 fun hne => hb ((isBlock_iff _).2 hne))]
  rw [State.mdrainConds, State.mdrainChecks, List.append_assoc _ _ [_, _]]
  refine .append (.append (.append b.same_reserved (.cons ?_ rfl <| .cons ?_ rfl <| .cons ?_ rfl .nil)) (b.same_store w.die))
    (SameConds.append (conds := [_, _, _, _]) (conds' := [_, _]) ?_ (.cons ?_ rfl <| .cons ?_ rfl .nil))
  · simp [addrLocal]
  · simp only [← drainOk_iff]
    cases b.aty <;> simp
  · simp
  · by_cases loc : b.aaddr.testBit 63 = true
    · rw [if_pos (show addrLocal b.aaddr = true from loc)]
      refine .cons ?_ rfl <| .cons ?_ rfl <| .cons ?_ rfl <| .drop (fun h => h.1 loc) .nil
      · rw [bne_iff_ne, and_iff_right loc]
        rfl
      · rw [and_iff_right loc, bytes]
        exact decide_eq_true_iff.symm
      · rw [and_iff_right loc, ← isBlock_iff]
        simp [State.outside]
    · rw [if_neg (show ¬addrLocal b.aaddr = true from loc)]
      refine .drop (fun h => loc h.1) <| .drop (fun h => loc h.1) <| .drop (fun h => loc h.1) <| .cons ?_ rfl .nil
      rw [and_iff_right loc, not_near_iff]
  · simp
  · rw [← isBlock_iff]
    simp

/-! ### The commands -/

section Members
variable {s : State} {c : Cur} {w : Warp} {l : List Nat} {a : SReg} (h : Issues s c w) (hu : w.priv = false)
include h hu

theorem hist_judged (ha : w.mayAccess c.lanes) (free : s.matrixFull w = false) (a : SReg) (clear : Bool) (n : BitVec 3) :
    let off := (w.s a).toNat
    Judged (.hist a clear n) s c [(off % 64 ≠ 0 ∨ s.regionBytes w.gang < off + 264, 0x6FF)]
      (QueuesMatrix s c w (.hist a clear n) (.hist clear n.toNat) [] off) := by
  intro off
  have run : exec (.hist a clear n) s = State.settle c (s.checked [⟨off % 64 != 0 || s.outside w.gang off 264, 6,
      0xFF⟩] fun _ =>
      .done (s.queueMatrix c w (.hist clear n.toNat) [] off [] 0 false)) := by
    refine (run_engine (e := 2) h hu ha _).trans ?_
    rw [free]
    rfl
  exact judged_of run (.cons (by simp [State.outside]) rfl .nil) (queuesMatrix_of rfl ⟨rfl, rfl⟩ rfl fun _ => rfl)

variable (hp : s.paramBlock w a 4 = some l)
include hp

theorem mma_judged (ha : w.mayAccess c.lanes) (free : s.matrixFull w = false) :
    let b : List Word := l.map fun x => BitVec.ofNat 32 x
    Judged (.mma a) s c (s.mmaConds w (MBlock.of b)) (QueuesMatrix s c w (.mma a) .mma b 0) := by
  intro b
  have he : exec (.mma a) s = execMma a s := rfl
  unfold execMma at he
  refine judged_of ((blockInstr_command h hu ha free he).2 l hp) (s.same_mma w _) fun he => ?_
  dsimp only at he
  by_cases auto : (MBlock.of (l.map fun x => BitVec.ofNat 32 x)).auto = true
  · rw [if_pos auto] at he
    refine queuesMatrix_of rfl ⟨?_, ?_⟩ rfl (fun _ => rfl) he
    · rw [State.core_setCore, if_pos rfl]
    · rw [State.core_setCore, if_pos rfl]
  · rw [if_neg auto] at he
    exact queuesMatrix_of rfl ⟨rfl, rfl⟩ rfl (fun _ => rfl) he

theorem mzero_judged (ha : w.mayAccess c.lanes) (free : s.matrixFull w = false) :
    let b : List Word := l.map fun x => BitVec.ofNat 32 x
    Judged (.mzero a) s c (((MBlock.of b).res0 = true, 0x200) :: (MBlock.of b).storeConds w.die)
      (QueuesMatrix s c w (.mzero a) .mzero b 0) := by
  intro b
  have he : exec (.mzero a) s = execMzero a s := rfl
  unfold execMzero at he
  exact judged_of ((blockInstr_command h hu ha free he).2 l hp) (.cons Iff.rfl rfl ((MBlock.of b).same_store w.die))
    (queuesMatrix_of rfl ⟨rfl, rfl⟩ rfl fun _ => rfl)

theorem mload_judged (ha : w.mayAccess c.lanes) (free : s.matrixFull w = false) :
    let b : List Word := l.map fun x => BitVec.ofNat 32 x
    Judged (.mload a) s c (s.mloadConds w (MBlock.of b)) (QueuesMatrix s c w (.mload a) .mload b 0) := by
  intro b
  have he : exec (.mload a) s = execMload a s := rfl
  unfold execMload at he
  exact judged_of ((blockInstr_command h hu ha free he).2 l hp) (s.same_mload w _)
      (queuesMatrix_of rfl ⟨rfl, rfl⟩ rfl fun _ => rfl)

theorem mdrain_judged (ha : w.mayAccess c.lanes) (free : s.matrixFull w = false) :
    let b : List Word := l.map fun x => BitVec.ofNat 32 x
    Judged (.mdrain a) s c (s.mdrainConds w (MBlock.of b)) (QueuesMatrix s c w (.mdrain a) .mdrain b 0) := by
  intro b
  have he : exec (.mdrain a) s = execMdrain a s := rfl
  unfold execMdrain at he
  refine judged_of ((blockInstr_command h hu ha free he).2 l hp) (s.same_mdrain w _) fun he => ?_
  dsimp only at he
  refine queuesMatrix_of rfl ⟨rfl, rfl⟩ ?_ (fun ne => absurd rfl ne) he
  split
  · exact w.draw_sameButLanes _
  · rfl

theorem quote_judged (d : SReg) (lanes : Bool) :
    let b : List Word := l.map fun x => BitVec.ofNat 32 x
    let q := s.quoteOf w (MBlock.of b) lanes
    Judged (.quote d a lanes) s c (s.mmaConds w (MBlock.of b))
      (Lands (.quote d a lanes) s c ((w.setS d (BitVec.ofNat 64 q.1)).setS (d + 1) (BitVec.ofNat 64 q.2))) := by
  intro b q
  have he : exec (.quote d a lanes) s = execQuote d a lanes s := rfl
  unfold execQuote at he
  exact judged_of ((blockInstr_quote h hu he).2 l hp) (s.same_mma w _) fun he => he

end Members

/-! ### Time and energy (16 R262) -/

/-- A quotient as `quote` writes it: rounded to nearest, ties up, and held at the greatest 32-bit value. -/
theorem quoted_eq (num den : Nat) (h : 0 < den) :
    ((BitVec.ofNat 64 (quoted num den)).toNat : ℤ) = min 0xFFFFFFFF ⌊(num : ℚ) / den + 1 / 2⌋ := by
  have le : quoted num den ≤ 0xFFFFFFFF := min_le_right _ _
  have floor : ⌊(num : ℚ) / den + 1 / 2⌋ = (((2 * num + den) / (2 * den) : ℕ) : ℤ) := by
    have pos : (den : ℚ) ≠ 0 := Nat.cast_ne_zero.2 h.ne'
    have eq : (num : ℚ) / den + 1 / 2 = ((2 * num + den : ℕ) : ℚ) / ((2 * den : ℕ) : ℚ) := by
      push_cast
      field_simp
    rw [eq, Rat.floor_natCast_div_natCast, Int.natCast_ediv]
  rw [BitVec.toNat_ofNat, Nat.mod_eq_of_lt (by omega), floor, quoted, sat32, min_comm]
  push_cast
  rfl

/-- The energy of a byte in nJ. -/
theorem byteEnergy_eq (p : Nat) (h : p < 3) : ((byteEnergy p : ℕ) : ℚ) / 320 = [1 / 320, 1 / 40, 1 / 16].getD p 0 := by
  interval_cases p <;> norm_num [byteEnergy]

theorem placement_lt (x : Nat) : placement x < 3 := by
  rw [placement]
  split_ifs <;> decide

/-- The side pairs of an operand in bytes. -/
def sidePairs (t : Ty) (side : Nat) (formatted : Bool) (n k : Nat) : Nat :=
  if t.blockBytes ≠ 0 ∧ (side ≠ 0 ∨ formatted = true) then 2 * n * ((k + 31) / 32) else 0

theorem State.operandCost_eq (s : State) (w : Warp) (x side : Nat) (t : Ty) (n k : Nat) :
    let formatted := !s.operandRaw w.die w.asid x
    let pairs := sidePairs t side formatted n k
    s.operandCost w x side t n k = (n * rowBytes t k + pairs,
      n * rowBytes t k * byteEnergy (placement x) + pairs * byteEnergy (if formatted then placement x else 0)) := by
  intro formatted pairs
  have same : (if t.isBlock && (side != 0 || formatted) then n * 2 * ((k + 31) / 32) else 0) = pairs := by
    simp only [pairs, sidePairs, ← isBlock_iff, Bool.and_eq_true, Bool.or_eq_true, bne_iff_ne, Nat.mul_comm n 2]
  rw [State.operandCost, ← same]

/-- The energy of an operand in nJ. -/
theorem State.operandCost_energy (s : State) (w : Warp) (x side : Nat) (t : Ty) (n k : Nat) :
    let formatted := !s.operandRaw w.die w.asid x
    let each : ℚ := [1 / 320, 1 / 40, 1 / 16].getD (placement x) 0
    (((s.operandCost w x side t n k).2 : ℕ) : ℚ) / 320 =
      n * rowBytes t k * each + sidePairs t side formatted n k * (if formatted = true then each else 1 / 320) := by
  intro formatted each
  have own : ((byteEnergy (if formatted then placement x else 0) : ℕ) : ℚ) / 320 = if formatted =
      true then each else 1 / 320 := by
    split_ifs
    · exact byteEnergy_eq _ (placement_lt x)
    · norm_num [byteEnergy]
  have one : ((byteEnergy (placement x) : ℕ) : ℚ) / 320 = each := byteEnergy_eq _ (placement_lt x)
  rw [State.operandCost_eq, ← own, ← one]
  push_cast
  ring

/-- The time that the farthest operand adds. -/
theorem wait_eq (p : Nat) (h : p < 3) : ((if p = 0 then 0 else if p = 1 then 240 else 880 : ℕ) : ℚ) =
    [0, 240, 880].getD p 0 := by
  interval_cases p <;> norm_num

section Cost
variable (s : State) (w : Warp) (b : MBlock) (idx : List Nat) (lanes : Bool)

/-- Rows of A that the command reads. -/
def MBlock.rowsRead : Nat := if b.gather then (idx.filter fun r => r ≠ 0xFFFFFFFF).length else b.m

/-- What the operands of an `mma` cost, B where the latch does not hold it. -/
def State.costA : Nat × Nat := s.operandCost w b.aaddr b.aside (b.aty.getD .b8) (b.rowsRead idx) b.k
def State.costB : Nat × Nat := if !lanes && s.latched w b then (0, 0) else s.operandCost w b.baddr b.bside
    (b.bty.getD .b8) b.n b.k

/-- The steps of the engine: tiles of the output times groups of K. -/
def MBlock.tiles (die g : Nat) : Nat :=
  let side := if isMatrixDie die then 64 else 32
  (b.m + side - 1) / side * ((b.n + side - 1) / side) * ((b.k + g - 1) / g)

variable {s w b idx lanes} (freq : 0 < (s.cluster w.clusterK).freq)
include freq

theorem State.mmaCost_time :
    let c := s.mmaCost w b idx lanes
    let f : ℚ := (s.cluster w.clusterK).freq / 1000
    let clocks : ℕ := if lanes = true then 5 + 16 * ((b.m * b.n * b.k + 15) / 16)
      else 52 + ((s.costA w b idx).1 + (s.costB w b lanes).1 + 511) / 512 + b.tiles w.die ((b.pair.map Prod.fst).getD 16) +
        (if (s.core w.coreK).gated then 64 else 0) + if b.gather then 4 * ((b.m + 63) / 64) else 0
    c.2.1 = (s.cluster w.clusterK).freq ∧ (c.1 : ℚ) / c.2.1 =
      (if lanes = true then 5 else 8) + [0, 240, 880].getD (max (placement b.aaddr) (placement b.baddr)) 0 + clocks / f := by
  intro c f clocks
  have one : max 1 (s.cluster w.clusterK).freq = (s.cluster w.clusterK).freq := max_eq_right freq
  have pos : ((s.cluster w.clusterK).freq : ℚ) ≠ 0 := Nat.cast_ne_zero.2 freq.ne'
  have time : c.2.1 = (s.cluster w.clusterK).freq ∧ c.1 = ((if lanes = true then 5 else 8) +
      (if max (placement b.aaddr) (placement b.baddr) = 0 then 0 else if max (placement b.aaddr) (placement b.baddr) =
          1 then 240 else 880)) *
        (s.cluster w.clusterK).freq + 1000 * clocks := by
    simp only [c, State.mmaCost, one]
    cases lanes <;> exact ⟨rfl, rfl⟩
  rw [← wait_eq _ (max_lt (placement_lt _) (placement_lt _)), time.1, time.2]
  refine ⟨rfl, ?_⟩
  have split : ∀ x y : ℕ, ((x * (s.cluster w.clusterK).freq + 1000 * y : ℕ) : ℚ) / (s.cluster w.clusterK).freq =
      x + y / f := fun x y => by
    simp only [f]
    push_cast
    field_simp
  rw [split]
  push_cast
  rfl

omit freq in
theorem State.mmaCost_energy :
    let v : ℚ := (pointMv (s.cluster w.clusterK).point : ℕ) / 750
    let full := isMatrixDie w.die
    let moved : ℚ := ((s.costA w b idx).2 : ℚ) / 320 + ((s.costB w b lanes).2 : ℚ) / 320
    ((s.mmaCost w b idx lanes).2.2 : ℚ) / energyUnit =
      if lanes = true then (144 / 1000 + b.m * b.n * b.k / 1000) * v ^ 2 + moved
      else (24 / 10 + (if full = true then 64 / 10 else 16 / 10) * b.tiles w.die
          ((b.pair.map Prod.fst).getD 16)) * v ^ 2 + moved +
        if (s.core w.coreK).gated then (if full = true then 40 else 10) else 0 := by
  intro v full moved
  have unit : ((energyUnit : ℕ) : ℚ) = 1000 * 562500 * 320 := by norm_num [energyUnit]
  have energy : (s.mmaCost w b idx lanes).2.2 = if lanes = true then (144 + b.m * b.n * b.k) * pointMv
      (s.cluster w.clusterK).point *
        pointMv (s.cluster w.clusterK).point * 320 + ((s.costA w b idx).2 + (s.costB w b lanes).2) * 562500 * 1000
      else (2400 + (if full = true then 6400 else 1600) * b.tiles w.die ((b.pair.map Prod.fst).getD 16)) *
        pointMv (s.cluster w.clusterK).point * pointMv (s.cluster w.clusterK).point * 320 +
          ((s.costA w b idx).2 + (s.costB w b lanes).2) * 562500 * 1000 +
        if (s.core w.coreK).gated then (if full = true then 40 else 10) * energyUnit else 0 := by
    simp only [State.mmaCost]
    cases lanes
    · have work : (if isMatrixDie w.die = true then 2400 + 6400 * b.tiles w.die ((b.pair.map Prod.fst).getD 16)
            else 2400 + 1600 * b.tiles w.die ((b.pair.map Prod.fst).getD 16)) =
          2400 + (if full = true then 6400 else 1600) * b.tiles w.die ((b.pair.map Prod.fst).getD 16) := by
        simp only [full]
        split <;> rfl
      rw [← work]
      generalize energyUnit = e
      rfl
    · rfl
  rw [energy]
  simp only [moved, v]
  cases lanes
  · simp only [Bool.false_eq_true, if_false]
    cases full <;> cases (s.core w.coreK).gated <;> simp only [Bool.false_eq_true, if_false,
        if_true] <;> push_cast <;> rw [unit] <;> ring
  · simp only [if_true]
    push_cast
    rw [unit]
    ring

end Cost

/-- Settles O43: a command finds room or waits; its block is judged, and with no condition it is queued. -/
theorem matrixMembers : Obligations.MatrixMembers := by
  unfold Obligations.MatrixMembers
  intro s c w h hu d a clear n lanes queues commands room region
  have found : room → w.mayAccess c.lanes ∧ s.matrixFull w = false := fun ⟨ha, few, short⟩ =>
    ⟨ha, Bool.eq_false_iff.2 fun full => ((matrixFull_iff s w).1 full).elim (fun many => absurd few (Nat.not_lt.2 many))
      fun many => absurd short (Nat.not_lt.2 many)⟩
  refine ⟨fun l mem out holds kept names i hi => ?_, fun ha full i hi => ?_, ?_, fun hr => ?_,
      fun none => ⟨?_, fun hr i hi => ?_⟩,
    fun l hp => ?_⟩
  · obtain ⟨body, he, -⟩ := exec_matrix hi s
    exact waits_acquire h hu he mem out holds kept names rfl
  · obtain ⟨body, he, stop⟩ := exec_matrix hi s
    exact waits_engine h hu ha he (stop c w ((matrixFull_iff s w).2 full))
  · refine ⟨w.s a &&& 0x01FFFFFFFFFFFFFC, ends_userOnly h hu (free_nil w) rfl rfl, fun j => ?_⟩
    have mask : (0x01FFFFFFFFFFFFFC : Xword).getLsbD j = (decide (2 ≤ j) && decide (j ≤ 56)) := by
      by_cases lt : j < 64
      · interval_cases j <;> rfl
      · rw [BitVec.getLsbD_of_ge _ _ (not_lt.1 lt), decide_eq_false (p := j ≤ 56) (by omega), Bool.and_false]
    rw [BitVec.getLsbD_and, mask, Bool.and_comm]
  · obtain ⟨ha, free⟩ := found hr
    exact hist_judged h hu ha free a clear n
  · have he : exec (.quote d a lanes) s = execQuote d a lanes s := rfl
    unfold execQuote at he
    exact (blockInstr_quote h hu he).1 none
  · obtain ⟨ha, free⟩ := found hr
    obtain ⟨make, he⟩ := exec_block hi s
    exact (blockInstr_command h hu ha free he).1 none
  intro b f pair unit row isLocal near' formatted m n k acc idx gather transB aty bty gathered narrow four byte isPair
    store reserved scope operand rowsA rowsB mma x off stride ends
  have whole : ∀ n, f n 0 32 = (b.getD n 0).toNat := fun n => by
    simp only [f, pow_zero, Nat.div_one]
    exact Nat.mod_eq_of_lt (b.getD n 0).isLt
  have units : unit = Ty.blockBytes := funext fun t => (blockBytes_eq t).symm
  have rows : row = rowBytes := funext fun t => funext fun n => by
    simp only [row, units, rowBytes]
    by_cases hb : t.isBlock = true
    · rw [if_pos hb, if_neg ((isBlock_iff _).1 hb)]
    · rw [if_neg hb, if_pos (not_not.1 fun hne => hb ((isBlock_iff _).2 hne))]
  have pages : formatted = fun x => !s.operandRaw w.die w.asid x := funext fun x => by
    simp only [formatted, State.operandRaw, State.baseFmt, addrLocal, Bool.not_or]
    cases s.walk w.die w.asid x <;> simp [bne]
  have set : ∀ x y : Nat, (x ≠ y) = ((x != y) = true) := fun x y => propext bne_iff_ne.symm
  have res0 : (f 0 7 1 ≠ 0) = ((MBlock.of b).res0 = true) := set _ _
  have res14 : (f 14 3 13 ≠ 0) = ((MBlock.of b).res14 = true) := set _ _
  have res14hi : (f 14 19 13 ≠ 0) = ((MBlock.of b).res14hi = true) := set _ _
  have res15 : ((b.getD 15 0).toNat ≠ 0) = ((MBlock.of b).res15 = true) := set _ _
  have res10 : (f 10 24 8 ≠ 0) = ((MBlock.of b).res10 = true) := set _ _
  have hist : (f 0 6 1 = 1) = ((MBlock.of b).hist = true) := propext beq_iff_eq.symm
  have mmaEq : mma = s.mmaConds w (MBlock.of b) := by
    simp only [mma, reserved, store, scope, operand, rowsB, k, units, rows, pages, pair, whole, res0, res14, res14hi,
        res15, res10]
    rfl
  refine ⟨fun hr => ?_, ?_⟩
  · obtain ⟨ha, free⟩ := found hr
    refine ⟨?_, ?_, ?_, ?_⟩
    · rw [mmaEq]
      exact mma_judged h hu hp ha free
    · rw [res0]
      exact mzero_judged h hu hp ha free
    · have eq : [(f 0 8 8 ≠ acc, 0x301), (acc ≠ 13 ∧ acc ≠ 9, 0x303)] ++ store ++ [scope,
            (isLocal x ∧ x / 2 ^ 24 % 2 ^ 39 ≠ 0, 0x210), (isLocal x ∧ ends (4 * n), 0x604),
            (isLocal x ∧ (off % 4 ≠ 0 ∨ stride % 4 ≠ 0), 0x610), (¬isLocal x ∧ ¬near' x, 0x710)] = s.mloadConds w
                (MBlock.of b) := by
        simp only [store, scope, ends, off, stride, x, pair, whole]
        rfl
      rw [eq]
      exact mload_judged h hu hp ha free
    · have eq : reserved ++ [(f 12 0 32 ≠ 0 ∧ ¬isLocal x, 0x210),
            (¬∃ t, tyOf (f 0 8 8) = some t ∧ ((acc = 13 ∧ (t ∈ [Ty.f32, .f16, .bf16] ∨ unit t ≠ 0)) ∨
              (acc = 9 ∧ t ∈ [Ty.i32, .n32, .i16, .n16, .i8, .n8])), 0x301), (f 0 6 1 = 1 ∧ acc = 9, 0x300)] ++ store ++
          [(isLocal x ∧ x / 2 ^ 24 % 2 ^ 39 ≠ 0, 0x210), (isLocal x ∧ ends
              (if unit aty = 0 then n * tyBytes aty else n / 32 * unit aty), 0x601),
            (isLocal x ∧ unit aty ≠ 0 ∧ (f 12 0 32 = 0 ∨ region < f 12 0 32 + 2 * (m * n / 32)), 0x601),
                (¬isLocal x ∧ ¬near' x, 0x710),
            scope, (unit aty ≠ 0 ∧ n % 32 ≠ 0, 0xB01)] = s.mdrainConds w (MBlock.of b) := by
        simp only [reserved, store, scope, ends, off, stride, x, units, pair, whole, res0, res14, res14hi, res15, hist]
        rfl
      rw [eq]
      exact mdrain_judged h hu hp ha free
  · rw [mmaEq]
    obtain ⟨judged, traps⟩ := quote_judged h hu hp d lanes
    refine ⟨fun none freq => ⟨_, _, judged none, fun g z isPair => ?_⟩, traps⟩
    have gk : ((MBlock.of b).pair.map Prod.fst).getD 16 = g := by rw [(isPair_iff (MBlock.of b) g z).1 isPair]; rfl
    have read : (if gather = true then ((List.range m).filter fun i => gathered i ≠ 0xFFFFFFFF).length else m) =
        (MBlock.of b).rowsRead (s.gatherIdx w.gang (MBlock.of b)) := by
      rw [MBlock.rowsRead, State.gatherIdx, List.filter_map, List.length_map]
      rfl
    intro full held up away each rowsOf sides cost bytes q v f1 asleep nb eb clocks time energy
    have sizes : ∀ x side t p, bytes x side t p = (s.operandCost w x side t p (MBlock.of b).k).1 := fun x side t p => by
      rw [State.operandCost_eq]
      simp only [bytes, sides, rows, units, pages, k, whole]
      rfl
    have costs : ∀ x side t p, cost x side t p = ((s.operandCost w x side t p (MBlock.of b).k).2 : ℚ) / 320 :=
        fun x side t p => by
      rw [State.operandCost_energy]
      simp only [cost, sides, rows, units, pages, k, whole]
      rfl
    have nbEq : nb = (s.costA w (MBlock.of b) (s.gatherIdx w.gang (MBlock.of b))).1 + (s.costB w (MBlock.of b) lanes).1 := by
      simp only [nb, sizes, rowsOf, read, pair, whole, State.costB, State.costA, apply_ite Prod.fst]
      rfl
    have ebEq : eb = ((s.costA w (MBlock.of b) (s.gatherIdx w.gang (MBlock.of b))).2 : ℚ) / 320 +
        ((s.costB w (MBlock.of b) lanes).2 : ℚ) / 320 := by
      have right : ((s.costB w (MBlock.of b) lanes).2 : ℚ) / 320 =
          if held = true then 0 else cost (pair 6) (f 13 0 32) bty n := by
        simp only [State.costB, costs, pair, whole]
        by_cases latched : held = true
        · rw [if_pos latched, if_pos (show (!lanes && s.latched w (MBlock.of b)) = true from latched), Nat.cast_zero,
            zero_div]
        · rw [if_neg latched, if_neg (show ¬(!lanes && s.latched w (MBlock.of b)) = true from latched)]
          rfl
      rw [right]
      simp only [eb, costs, rowsOf, read, pair, whole, State.costA]
      rfl
    obtain ⟨freqEq, timeEq⟩ := State.mmaCost_time (b := MBlock.of b) (idx := s.gatherIdx w.gang (MBlock.of b))
        (lanes := lanes) freq
    have energyEq := State.mmaCost_energy (s := s) (w := w) (b := MBlock.of b)
        (idx := s.gatherIdx w.gang (MBlock.of b)) (lanes := lanes)
    dsimp only at timeEq energyEq
    rw [gk, ← nbEq] at timeEq
    rw [gk, ← ebEq] at energyEq
    have kEq : k = (MBlock.of b).k := whole 2
    have tilesEq : (MBlock.of b).tiles w.die g = q := by
      simp only [q, up, kEq]
      rfl
    have scale : ((65536 : ℕ) : ℚ) = 2 ^ 16 := by norm_num
    rw [tilesEq] at timeEq energyEq
    have timeIs : time = (if lanes = true then 5 else 8) +
        [0, 240, 880].getD (max (placement (MBlock.of b).aaddr) (placement (MBlock.of b).baddr)) 0 + clocks / f1 := by
      simp only [time, away, pair, whole]
      rfl
    have clocksIs : clocks = if lanes = true then 5 + 16 * (((MBlock.of b).m * (MBlock.of b).n * (MBlock.of b).k + 15) / 16)
        else 52 + (nb + 511) / 512 + q + (if (s.core w.coreK).gated then 64 else 0) +
          if (MBlock.of b).gather then 4 * (((MBlock.of b).m + 63) / 64) else 0 := by
      simp only [clocks, kEq]
      rfl
    rw [← clocksIs] at timeEq
    constructor
    · refine (quoted_eq _ _ (by rw [freqEq]; exact freq)).trans ?_
      rw [Nat.cast_mul, mul_div_assoc, timeEq, timeIs, scale]
    · refine (quoted_eq _ _ (by decide)).trans ?_
      rw [Nat.cast_mul, mul_div_assoc, energyEq, scale]
      simp only [energy, kEq]
      rfl

end Sys2Proof.Machine
end

section
/-!
PROOFS. The special-function unit (R114, R115, R352): the special inputs, the distance of a rounded value,
    and the exact values that
the bounds are held to.
-/

namespace Sys2Proof

/-! ### The distance of a rounded value -/

/-- A code's step is at most the power of two of the last place of a value at or above it. -/
theorem step_le (f : Fmt) {m : Nat} (hm : m ≠ 0) {e : Int} {k : Nat} (h : f.mag k ≤ m * 2 ^ e) :
    f.mag (k + 1) - f.mag k ≤ 2 ^ max ((Nat.log2 m : Int) + e - f.mbits) f.qmin := by
  obtain ⟨j, u, rfl, hu, hj⟩ := exists_binade f k
  rw [mag_binade f hu.le hj] at h
  rw [Nat.add_assoc, mag_binade f hu (hj.imp_right fun h => h.trans (Nat.le_succ u)), mag_binade f hu.le hj, ← sub_mul]
  push_cast
  rw [add_sub_cancel_left, one_mul]
  refine zpow_le_zpow_right₀ one_le_two ?_
  rcases hj with rfl | norm
  · exact (by simp : f.qmin + ((0 : Nat) : Int) ≤ f.qmin).trans (le_max_right _ _)
  · have below : (2 : ℚ) ^ ((f.mbits : Int) + (f.qmin + j)) < 2 ^ ((Nat.log2 m : Int) + e + 1) := by
      refine lt_of_le_of_lt ?_ (log2_bounds hm e).2
      rw [zpow_add₀ two_ne_zero, zpow_natCast]
      exact (mul_le_mul_of_nonneg_right (by exact_mod_cast norm) (by positivity)).trans h
    have := (zpow_lt_zpow_iff_right₀ (one_lt_two (α := ℚ))).1 below
    omega

/-- The value of the code that rounding to nearest gives lies within half a step. -/
theorem rne_error (f : Fmt) (neg : Bool) (m : Nat) (e : Int) (hle : |(FVal.fin neg m e).rat| ≤ f.mag f.maxCode) :
    let y := f.value (f.rne (.fin neg m e))
    y.isFin = true ∧ |y.rat - (FVal.fin neg m e).rat| ≤
      (if m = 0 then 0 else 2 ^ max ((Nat.log2 m : Int) + e - f.mbits) f.qmin) / 2 := by
  obtain ⟨k, r, s, between, rounds⟩ := rne_fin f neg m e
  have le := between.roundMag_le hle .nearest neg (x := 0) (by decide)
  rw [placed_of_le le] at rounds
  obtain ⟨fin, -, rat⟩ := value_signed f neg le
  have hv : (FVal.fin neg m e).rat = (if neg then -1 else 1) * |(FVal.fin neg m e).rat| := by
    rw [FVal.abs_rat_fin, FVal.rat_eq_sign_mul]
  simp only [rounds]
  refine ⟨fin, ?_⟩
  rw [abs_sub_comm, rat, hv, dist_signed _ _ _ _ (abs_nonneg _) (mag_nonneg f _), if_pos rfl]
  have closest := fun i => (between.nearest neg 0 i).1
  split
  next zero =>
    have none : |(FVal.fin neg m e).rat| = f.mag 0 := by rw [FVal.abs_rat_fin, zero, mag_zero, Nat.cast_zero, zero_mul]
    have := closest 0
    rw [none, sub_self, abs_zero, ← none] at this
    rwa [zero_div]
  next pos =>
    have low := between.mag_le
    have step := step_le f pos (k := k) (by rw [← FVal.abs_rat_fin neg]; exact low)
    have near := closest k
    have far := closest (k + 1)
    rw [abs_of_nonneg (sub_nonneg.2 low)] at near
    rw [abs_sub_comm _ (f.mag (k + 1)), abs_of_nonneg (sub_nonneg.2 between.lt_mag_succ.le)] at far
    linarith

/-- The largest finite number of f32. -/
theorem f32_top : (Fmt.f32.value 0x7F7FFFFF).rat = Fmt.f32.mag Fmt.f32.maxCode := rat_value .f32 (k := 0x7F7FFFFF) (by decide)

/-- A finite value that f32 reaches is rounded to within half an ulp. -/
theorem rne_close {v : FVal} (hv : v.isFin = true) (hle : |v.rat| ≤ (Fmt.f32.value 0x7F7FFFFF).rat) :
    (Fmt.f32.value (Fmt.f32.rne v)).isFin = true ∧ |(Fmt.f32.value (Fmt.f32.rne v)).rat - v.rat| ≤ 2 ^ ulpExp v / 2 := by
  cases v with
  | nan => exact Bool.noConfusion hv
  | inf neg => exact Bool.noConfusion hv
  | fin neg m e =>
    obtain ⟨fin, error⟩ := rne_error .f32 neg m e (f32_top ▸ hle)
    refine ⟨fin, error.trans ?_⟩
    rw [ulpExp]
    split
    · rw [zero_div]
      positivity
    · exact le_rfl

/-- The last place of a value below a power of two. -/
theorem ulpExp_le {v : FVal} {q : Int} (hq : -149 ≤ q) (h : |v.rat| < 2 ^ (q + 24)) : ulpExp v ≤ q := by
  cases v with
  | nan => exact hq
  | inf neg => exact hq
  | fin neg m e =>
    rw [ulpExp]
    split
    next => exact hq
    next pos =>
      rw [FVal.abs_rat_fin] at h
      have := (zpow_lt_zpow_iff_right₀ (one_lt_two (α := ℚ))).1 ((log2_bounds pos e).1.trans_lt h)
      omega

/-- What a distance check says. -/
theorem closeTo_iff {y v : FVal} (hv : v.isFin = true) (n : Nat) (q : Int) :
    closeTo y v n q = true ↔ y.isFin = true ∧ |y.rat - v.rat| ≤ n * 2 ^ q := by
  cases v with
  | nan => exact Bool.noConfusion hv
  | inf neg => exact Bool.noConfusion hv
  | fin neg m e =>
    cases y with
    | nan => simp [closeTo, FVal.add, FVal.isFin]
    | inf a => simp [closeTo, FVal.add, FVal.neg, FVal.isFin]
    | fin a k f =>
      have sum := FVal.rat_add_fin a (!neg) k m f e
      obtain ⟨b, z, g, hz⟩ : ∃ b z g, (FVal.fin a k f).add (.fin (!neg) m e) = .fin b z g := by
        rw [FVal.add_fin]
        split <;> exact ⟨_, _, _, rfl⟩
      have neg_ : (FVal.fin (!neg) m e).rat = -(FVal.fin neg m e).rat := FVal.rat_neg_fin neg m e
      rw [neg_, ← sub_eq_add_neg] at sum
      have pos : ∀ (j : Nat) (i : Int), (FVal.fin false j i).rat = j * 2 ^ i := fun j i => by rw [FVal.rat_eq_sign_mul]; simp
      rw [← sum, hz, FVal.abs_rat_fin, closeTo, FVal.neg, hz, bne_iff_ne, ← FVal.leq_iff_cmp (by simp) (by simp)]
      simp only [FVal.isFin, true_and]
      rw [← pos, ← pos]
      rfl

/-! ### The result of a member -/

theorem fixVal_eq (x k : Int) : ∃ neg m, fixVal x k = .fin neg m (k - 320) ∧ (fixVal x k).rat = x * 2 ^ (k - 320) :=
  ⟨_, _, rfl, by rw [fixVal, FVal.ofInt, FVal.rat_fin, signedMant_ofInt]⟩

theorem isFin_sfuExact (fn : SfuFn) (neg : Bool) (m : Nat) (e : Int) : (sfuExact fn neg m e).isFin = true := by
  cases fn <;> rfl

/-- A result of an input that is not special: within its bound, or the exact value rounded. -/
theorem sfu_cases {fn : SfuFn} {x : Word} {neg : Bool} {m : Nat} {e : Int} (hv : Fmt.f32.value x.toNat = .fin neg m e)
    (plain : sfuSpecial fn (.fin neg m e) = none) :
    (fn ≠ .sqrt ∧ sfuBound fn m e (Fmt.f32.value (sfu fn x).toNat) (sfuExact fn neg m e) = true) ∨
      (sfu fn x).toNat = Fmt.f32.rne (sfuExact fn neg m e) := by
  have result : sfu fn x = if (fn ≠ .sqrt && sfuBound fn m e (Fmt.f32.value (Config.sfu fn.code x).toNat)
      (sfuExact fn neg m e)) = true then
      Config.sfu fn.code x else BitVec.ofNat 32 (Fmt.f32.rne (sfuExact fn neg m e)) := by
    rw [sfu, hv, plain]
  rw [result]
  split
  next bound =>
    rw [Bool.and_eq_true, decide_eq_true_eq] at bound
    exact .inl bound
  next =>
    refine .inr ?_
    rw [BitVec.toNat_ofNat]
    exact Nat.mod_eq_of_lt (Machine.rne_lt .f32 _)

/-- The mantissa and the exponent of an f32 number. -/
theorem f32_fin_bounds {x : Nat} {neg : Bool} {m : Nat} {e : Int} (h : Fmt.f32.value x = .fin neg m e) :
    m < 2 ^ 24 ∧ -149 ≤ e := by
  simp only [Fmt.value] at h
  have small : x % 2 ^ Fmt.f32.magBits % 2 ^ Fmt.f32.mbits < 2 ^ 23 := Nat.mod_lt _ (by decide)
  have qmin : Fmt.f32.qmin = -149 := by decide
  have mbits : Fmt.f32.mbits = 23 := rfl
  split at h
  · split at h <;> exact FVal.noConfusion h
  · split at h
    · injection h with _ hm he
      exact ⟨by omega, by omega⟩
    · injection h with _ hm he
      rw [mbits] at hm
      exact ⟨by rw [mbits] at small; omega, by omega⟩

/-! ### The exact values -/

/-- A part of a large power of two. -/
theorem share_le {d i j k : Nat} (hd : d ≤ 2 ^ i) (h : i + j ≤ k) : (d : ℚ) / 2 ^ k ≤ 1 / 2 ^ j := by
  rw [div_le_div_iff₀ (pow_pos two_pos k) (pow_pos two_pos j), one_mul]
  have le : (d : ℚ) ≤ 2 ^ i := by exact_mod_cast hd
  calc (d : ℚ) * 2 ^ j ≤ 2 ^ i * 2 ^ j := mul_le_mul_of_nonneg_right le (pow_pos two_pos j).le
    _ = 2 ^ (i + j) := (pow_add _ _ _).symm
    _ ≤ 2 ^ k := pow_le_pow_right₀ one_le_two h

/-- A number just below a power of two, against that power. -/
theorem near_one {a d i j k : Nat} (sum : a + d = 2 ^ k) (hd : d ≤ 2 ^ i) (h : i + j ≤ k) :
    |(a : ℚ) / 2 ^ k - 1| ≤ 1 / 2 ^ j := by
  have pos : (0 : ℚ) < 2 ^ k := pow_pos two_pos k
  have cast : (a : ℚ) = 2 ^ k - d := by
    rw [eq_sub_iff_add_eq]
    exact_mod_cast sum
  rw [cast, sub_div, div_self pos.ne', sub_sub_cancel_left, abs_neg, abs_of_nonneg (div_nonneg (Nat.cast_nonneg d) pos.le)]
  exact share_le hd h

/-- The distance of a number from n times the square of its root's whole part. -/
theorem root_gap {s n P Q B W : Nat} (low : s * s * n ≤ P) (high : P < (s + 1) * (s + 1) * n) (square : P = Q * Q)
    (pos : 0 < n)
    (hn : n ≤ B) (wide : (2 * Q + 1) * B ≤ W) : P - s * s * n ≤ W := by
  have root : s ≤ Q := Nat.mul_self_le_mul_self_iff.1 ((Nat.le_mul_of_pos_right _ pos).trans (square ▸ low))
  have next : (s + 1) * (s + 1) * n = s * s * n + (2 * s + 1) * n := by ring
  exact (by omega : P - s * s * n ≤ (2 * s + 1) * n).trans ((Nat.mul_le_mul (by omega) hn).trans wide)

section Exact
variable {neg : Bool} {m : Nat} {e : Int}

theorem sfuExact_rcp (hm : m ≠ 0) (small : m < 2 ^ 24) :
    |(sfuExact .rcp neg m e).rat * (FVal.fin neg m e).rat - 1| ≤ 1 / 2 ^ 300 := by
  have pos : 0 < m := Nat.pos_of_ne_zero hm
  have product : (sfuExact .rcp neg m e).rat * (FVal.fin neg m e).rat = ((m * (2 ^ 400 / m) : ℕ) : ℚ) / 2 ^ 400 := by
    have power : (2 : ℚ) ^ (-400 - e) * 2 ^ e = 1 / 2 ^ 400 := by
      rw [← zpow_add₀ two_ne_zero, sub_add_cancel, zpow_neg, one_div, zpow_ofNat]
    rw [sfuExact, FVal.rat_eq_sign_mul, FVal.rat_eq_sign_mul, Nat.cast_mul, div_eq_mul_one_div, ← power]
    cases neg <;> simp <;> ring
  rw [product]
  exact near_one (Nat.div_add_mod _ m) ((Nat.mod_lt _ pos).le.trans small.le) (by norm_num)

/-- A mantissa and an exponent made even name the same number. -/
theorem even_split (m : Nat) (e : Int) : ∃ (n : Nat) (h : Int), (if e.emod 2 = 0 then m else 2 * m) = n ∧
    (if e.emod 2 = 0 then e else e - 1) = 2 * h ∧ (m : ℚ) * 2 ^ e = n * 2 ^ (2 * h) ∧ (m ≠ 0 → n ≠ 0) ∧ n ≤ 2 * m := by
  by_cases even : e.emod 2 = 0
  · refine ⟨m, e / 2, if_pos even, ?_, ?_, id, by omega⟩
    · rw [if_pos even]
      exact (Int.mul_ediv_cancel' (Int.dvd_of_emod_eq_zero even)).symm
    · rw [Int.mul_ediv_cancel' (Int.dvd_of_emod_eq_zero even)]
  · have half : e - 1 = 2 * (e / 2) := by
      have := Int.mul_ediv_add_emod e 2
      have : e % 2 = 1 := by
        rcases Int.emod_two_eq_zero_or_one e with zero | one
        · exact absurd zero even
        · exact one
      omega
    refine ⟨2 * m, e / 2, if_neg even, ?_, ?_, fun h => by omega, le_rfl⟩
    · rw [if_neg even, half]
    · rw [← half]
      have : (2 : ℚ) ^ e = 2 ^ (e - 1) * 2 := by rw [← zpow_add_one₀ two_ne_zero, sub_add_cancel]
      rw [this]
      push_cast
      ring

theorem sfuExact_rsq (hm : m ≠ 0) (small : m < 2 ^ 24) :
    0 < (sfuExact .rsq neg m e).rat ∧
      |(sfuExact .rsq neg m e).rat * (sfuExact .rsq neg m e).rat * (FVal.fin false m e).rat - 1| ≤ 1 / 2 ^ 300 := by
  obtain ⟨n, h, hn, hh, value, nonzero, le⟩ := even_split m e
  have pos : 0 < n := Nat.pos_of_ne_zero (nonzero hm)
  obtain ⟨s, hs⟩ : ∃ s, s = Nat.sqrt (2 ^ 800 / n) := ⟨_, rfl⟩
  have exact_ : sfuExact .rsq neg m e = .fin false s (-400 - h) := by
    simp only [sfuExact, hn, hh, ← hs]
    rw [Int.mul_ediv_cancel_left _ two_ne_zero]
  have low : s * s * n ≤ 2 ^ 800 := (Nat.mul_le_mul_right n (hs ▸ Nat.sqrt_le _)).trans (Nat.div_mul_le_self _ _)
  have high : 2 ^ 800 < (s + 1) * (s + 1) * n := (Nat.div_lt_iff_lt_mul pos).1 (hs ▸ Nat.lt_succ_sqrt _)
  have product : (sfuExact .rsq neg m e).rat * (sfuExact .rsq neg m e).rat * (FVal.fin false m e).rat =
      ((s * s * n : ℕ) : ℚ) / 2 ^ 800 := by
    have power : (2 : ℚ) ^ (-400 - h) * 2 ^ (-400 - h) * 2 ^ (2 * h) = 1 / 2 ^ 800 := by
      rw [← zpow_add₀ two_ne_zero, ← zpow_add₀ two_ne_zero, show -400 - h + (-400 - h) + 2 * h = -800 by ring,
          zpow_neg, one_div,
        zpow_ofNat]
    rw [exact_, FVal.rat_eq_sign_mul, FVal.rat_eq_sign_mul, value, div_eq_mul_one_div, ← power]
    push_cast
    ring
  have large : 2 ^ 25 ≤ 2 ^ 800 := Nat.pow_le_pow_right (n := 2) two_pos (show 25 ≤ 800 by decide)
  have square : 2 ^ 800 = 2 ^ 400 * 2 ^ 400 := pow_add 2 400 400
  have wide : (2 * 2 ^ 400 + 1) * 2 ^ 25 ≤ 2 ^ 427 := by
    have := Nat.pow_le_pow_right (n := 2) two_pos (show 25 ≤ 426 by decide)
    have half : 2 ^ 427 = 2 ^ 426 + 2 ^ 426 := by rw [pow_succ, mul_two]
    have first : 2 * 2 ^ 400 * 2 ^ 25 = 2 ^ 426 := by rw [← pow_succ', ← pow_add]
    rw [add_mul, first, one_mul, half]
    exact Nat.add_le_add_left this _
  have le25 : n ≤ 2 ^ 25 := by omega
  have spos : 0 < s := by
    refine Nat.pos_of_ne_zero fun zero => ?_
    rw [zero, zero_add, one_mul, one_mul] at high
    exact absurd (le25.trans large) (not_le.2 high)
  refine ⟨?_, ?_⟩
  · rw [exact_, FVal.rat_eq_sign_mul, if_neg Bool.false_ne_true, one_mul]
    exact mul_pos (Nat.cast_pos.2 spos) (zpow_pos two_pos _)
  · rw [product]
    exact near_one (Nat.add_sub_cancel' low) (root_gap low high square pos le25 wide) (by norm_num)

theorem sfuExact_sqrt (hm : m ≠ 0) :
    0 < (sfuExact .sqrt neg m e).rat ∧
      |(sfuExact .sqrt neg m e).rat * (sfuExact .sqrt neg m e).rat - (FVal.fin false m e).rat| ≤
          (FVal.fin false m e).rat / 2 ^ 190 := by
  obtain ⟨n, h, hn, hh, value, nonzero, -⟩ := even_split m e
  have pos : 0 < n := Nat.pos_of_ne_zero (nonzero hm)
  obtain ⟨M, hM⟩ : ∃ M : Nat, M = n * 2 ^ 400 := ⟨_, rfl⟩
  obtain ⟨r, hr⟩ : ∃ r, r = Nat.sqrt M := ⟨_, rfl⟩
  obtain ⟨t, ht⟩ : ∃ t : Nat, t = if r * r = M then 0 else 1 := ⟨_, rfl⟩
  have exact_ : sfuExact .sqrt neg m e = .fin false (2 * r + t) (h - 201) := by
    simp only [sfuExact, hn, hh, ← hM, ← hr, ← ht]
    rw [Int.mul_ediv_cancel_left _ two_ne_zero]
  have low : r * r ≤ M := hr ▸ Nat.sqrt_le _
  have high : M < (r + 1) * (r + 1) := hr ▸ Nat.lt_succ_sqrt _
  have large : 2 ^ 200 ≤ r := by
    refine Nat.le_sqrt.2 ?_ |>.trans hr.ge
    rw [← pow_add, hM]
    exact Nat.le_mul_of_pos_left _ pos
  obtain ⟨C, hC⟩ : ∃ C : ℚ, C = 2 ^ (2 * h - 402) := ⟨_, rfl⟩
  have Cpos : 0 < C := by rw [hC]; positivity
  have rat : (FVal.fin false m e).rat = 4 * (M : ℕ) * C := by
    rw [FVal.rat_eq_sign_mul, value, hM, hC]
    have : (2 : ℚ) ^ (2 * h) = 2 ^ (2 * h - 402) * (2 ^ 400 * 4) := by
      rw [show (2 : ℚ) ^ 400 * 4 = 2 ^ (402 : ℤ) by rw [show (4 : ℚ) = 2 ^ 2 by norm_num, ← pow_add, ← zpow_natCast]; rfl,
        ← zpow_add₀ two_ne_zero, sub_add_cancel]
    rw [this]
    push_cast
    simp
    ring
  have root : (sfuExact .sqrt neg m e).rat * (sfuExact .sqrt neg m e).rat = ((2 * r + t : ℕ) : ℚ) *
      ((2 * r + t : ℕ) : ℚ) * C := by
    have : C = 2 ^ (h - 201) * 2 ^ (h - 201) := by rw [hC, ← zpow_add₀ two_ne_zero]; congr 1; ring
    rw [exact_, FVal.rat_eq_sign_mul, this]
    simp
    ring
  refine ⟨by rw [exact_, FVal.rat_eq_sign_mul]; simp only [Bool.false_eq_true, if_false, one_mul]; positivity, ?_⟩
  rw [root, rat, ← sub_mul, abs_mul, abs_of_pos Cpos, mul_div_right_comm]
  refine mul_le_mul_of_nonneg_right ?_ Cpos.le
  rw [le_div_iff₀ (pow_pos two_pos 190)]
  by_cases whole : r * r = M
  · rw [ht, if_pos whole, add_zero, ← whole]
    push_cast
    rw [show (2 * (r : ℚ)) * (2 * r) - 4 * (r * r) = 0 by ring, abs_zero, zero_mul]
    positivity
  · rw [ht, if_neg whole]
    have strict : r * r + 1 ≤ M := Nat.lt_of_le_of_ne low whole
    have upper : M ≤ r * r + 2 * r := by
      have : (r + 1) * (r + 1) = r * r + 2 * r + 1 := by ring
      omega
    have strictQ : (r : ℚ) * r + 1 ≤ M := by exact_mod_cast strict
    have upperQ : (M : ℚ) ≤ r * r + 2 * r := by exact_mod_cast upper
    have largeQ : (2 : ℚ) ^ 190 ≤ r := by
      refine (pow_le_pow_right₀ one_le_two (show 190 ≤ 200 by decide)).trans ?_
      exact_mod_cast large
    have one : (1 : ℚ) ≤ r := (one_le_pow₀ one_le_two).trans largeQ
    have gap : |((2 * r + 1 : ℕ) : ℚ) * ((2 * r + 1 : ℕ) : ℚ) - 4 * (M : ℕ)| ≤ 4 * r := by
      push_cast
      rw [abs_le]
      constructor <;> linarith
    calc _ ≤ 4 * (r : ℚ) * 2 ^ 190 := mul_le_mul_of_nonneg_right gap (pow_pos two_pos 190).le
      _ ≤ 4 * (r : ℚ) * r := mul_le_mul_of_nonneg_left largeQ (by linarith)
      _ ≤ 4 * (M : ℕ) := by linarith

theorem fixOne_cast : ((fixOne : ℤ) : ℚ) = 2 ^ (320 : ℤ) := by rw [fixOne, Int.cast_pow]; rfl

theorem fixOne_pos : 0 < fixOne := by decide

/-- A value in fixed point. -/
theorem fixOf_cast (he : 0 ≤ e + 320) : ((fixOf neg m e : ℤ) : ℚ) = (FVal.fin neg m e).rat * 2 ^ (320 : ℤ) := by
  have power : (2 : ℚ) ^ (e + 320).toNat = 2 ^ e * 2 ^ (320 : ℤ) := by
    rw [← zpow_add₀ two_ne_zero, ← zpow_natCast, Int.toNat_of_nonneg he]
  rw [fixOf, if_pos he, FVal.rat_eq_sign_mul, mul_assoc, mul_assoc, ← power]
  cases neg <;> simp

theorem rat_fixVal (x : Int) : (fixVal x 0).rat = (x : ℚ) / fixOne := by
  obtain ⟨_, _, -, rat⟩ := fixVal_eq x 0
  rw [rat, fixOne_cast, zero_sub, zpow_neg, div_eq_mul_inv]

theorem fixMul_zero_left (y : Int) : fixMul 0 y = 0 := by rw [fixMul, zero_mul, Int.zero_ediv]
theorem fixMul_zero_right (t : Int) : fixMul t 0 = 0 := by rw [fixMul, mul_zero, Int.zero_ediv]

theorem expSeries_zero (n : Nat) (t a : Int) : expSeries n t 0 a = t := by
  induction n generalizing t a with
  | zero => rfl
  | succ n ih => rw [expSeries, fixMul_zero_right, Int.zero_ediv, ih, add_zero]

theorem atanhSeries_zero (n : Nat) (y a : Int) : atanhSeries n 0 y a = 0 := by
  induction n generalizing a with
  | zero => rfl
  | succ n ih => rw [atanhSeries, fixMul_zero_left, Int.zero_ediv, ih, add_zero]

/-- 2 to an integer. -/
theorem sfuExact_exp2 (he : -149 ≤ e) {k : ℤ} (h : (FVal.fin neg m e).rat = k) : (sfuExact .exp2 neg m e).rat = 2 ^ k := by
  have fixed : fixOf neg m e = k * fixOne := by
    have := fixOf_cast (neg := neg) (m := m) (e := e) (by omega)
    rw [h, ← fixOne_cast] at this
    exact_mod_cast this
  have whole : k * fixOne / fixOne = k := Int.mul_ediv_cancel k fixOne_pos.ne'
  have value : sfuExact .exp2 neg m e = fixVal fixOne k := by
    simp only [sfuExact, exp2Val, fixed, whole, sub_self, fixMul_zero_left, expSeries_zero]
  obtain ⟨_, _, -, rat⟩ := fixVal_eq fixOne k
  rw [value, rat, fixOne_cast, ← zpow_add₀ two_ne_zero, add_sub_cancel]

/-- The logarithm of a mantissa at least 1 and below 2, as the model computes it, in units of fixed point. -/
def lnPart (m : Nat) : Int :=
  let y := fixOf false m (-(Nat.log2 m : Int))
  let z := (y - fixOne) * fixOne / (y + fixOne)
  2 * atanhSeries 110 z (fixMul z z) 1

theorem sfuExact_log2_eq : (sfuExact .log2 neg m e).rat = (Nat.log2 m : ℚ) + e +
    ((lnPart m * fixOne / ln2Fixed : ℤ) : ℚ) / fixOne := by
  have value : sfuExact .log2 neg m e = fixVal (((Nat.log2 m : Int) + e) * fixOne + lnPart m * fixOne / ln2Fixed) 0 := rfl
  have pos : ((fixOne : ℤ) : ℚ) ≠ 0 := by exact_mod_cast fixOne_pos.ne'
  rw [value, rat_fixVal]
  push_cast
  rw [add_div, mul_div_cancel_right₀ _ pos]

/-- The mantissa that is scaled to at least 1 and below 2. -/
theorem fixOf_scaled (hm : m ≠ 0) (small : m < 2 ^ 24) :
    ((fixOf false m (-(Nat.log2 m : Int)) : ℤ) : ℚ) = m * 2 ^ (-(Nat.log2 m : Int)) * fixOne := by
  have le : Nat.log2 m < 24 := (Nat.log2_lt hm).2 small
  rw [fixOf_cast (by omega), FVal.rat_eq_sign_mul, fixOne_cast, if_neg Bool.false_ne_true, one_mul]

/-- The logarithm of a power of two. -/
theorem sfuExact_log2 (hm : m ≠ 0) (small : m < 2 ^ 24) {k : ℤ} (h : (FVal.fin false m e).rat = 2 ^ k) :
    (sfuExact .log2 neg m e).rat = k := by
  rw [FVal.rat_eq_sign_mul, if_neg Bool.false_ne_true, one_mul] at h
  obtain ⟨low, high⟩ := log2_bounds hm e
  rw [h] at low high
  have exponent : k = (Nat.log2 m : Int) + e := by
    have := (zpow_le_zpow_iff_right₀ (one_lt_two (α := ℚ))).1 low
    have := (zpow_lt_zpow_iff_right₀ (one_lt_two (α := ℚ))).1 high
    omega
  have one : fixOf false m (-(Nat.log2 m : Int)) = fixOne := by
    have scaled := fixOf_scaled hm small
    have : (m : ℚ) * 2 ^ (-(Nat.log2 m : Int)) = 1 := by
      have : (m : ℚ) = 2 ^ k * 2 ^ (-e) := by rw [← h, mul_assoc, ← zpow_add₀ two_ne_zero, add_neg_cancel, zpow_zero, mul_one]
      rw [this, ← zpow_add₀ two_ne_zero, ← zpow_add₀ two_ne_zero, exponent]
      norm_num
    rw [this, one_mul] at scaled
    exact_mod_cast scaled
  have ln : lnPart m = 0 := by
    simp only [lnPart, one, sub_self, zero_mul, Int.zero_ediv, atanhSeries_zero, mul_zero]
  rw [sfuExact_log2_eq, ln, zero_mul, Int.zero_ediv, exponent]
  push_cast
  ring

/-! ### How large the exact values are -/

/-- The series of atanh, for a z of at most a half. -/
theorem atanhSeries_bounds (n : Nat) {t y a : Int} (ht : 0 ≤ t) (hy : 0 ≤ y) (hy' : 4 * y ≤ fixOne) (ha : 1 ≤ a) :
    0 ≤ atanhSeries n t y a ∧ atanhSeries n t y a ≤ 2 * t := by
  induction n generalizing t a with
  | zero => exact ⟨le_rfl, by rw [atanhSeries]; omega⟩
  | succ n ih =>
    have next : 0 ≤ fixMul t y := Int.ediv_nonneg (mul_nonneg ht hy) fixOne_pos.le
    have small : 4 * fixMul t y ≤ t := by
      have part : fixMul t y * fixOne ≤ t * y := Int.ediv_mul_le _ fixOne_pos.ne'
      have : t * (4 * y) ≤ t * fixOne := mul_le_mul_of_nonneg_left hy' ht
      have : 4 * fixMul t y * fixOne ≤ t * fixOne := by linarith
      exact le_of_mul_le_mul_right this fixOne_pos
    obtain ⟨low, high⟩ := ih next (a := a + 2) (by omega)
    have first : 0 ≤ t / a ∧ t / a ≤ t := ⟨Int.ediv_nonneg ht (by omega), Int.ediv_le_self _ ht⟩
    rw [atanhSeries]
    omega

/-- The logarithm of a number from 1/2 to 2. -/
theorem abs_sfuExact_log2 (hm : m ≠ 0) (small : m < 2 ^ 24) (low : 1 / 2 ≤ (FVal.fin false m e).rat)
    (high : (FVal.fin false m e).rat ≤ 2) :
    |(sfuExact .log2 neg m e).rat| < 2 ^ 3 := by
  rw [FVal.rat_eq_sign_mul, if_neg Bool.false_ne_true, one_mul] at low high
  obtain ⟨below, above⟩ := log2_bounds hm e
  have top : (Nat.log2 m : Int) + e ≤ 1 := by
    refine (zpow_le_zpow_iff_right₀ (one_lt_two (α := ℚ))).1 (below.trans ?_)
    rwa [zpow_one]
  have bottom : -1 < (Nat.log2 m : Int) + e + 1 := by
    refine (zpow_lt_zpow_iff_right₀ (one_lt_two (α := ℚ))).1 (lt_of_le_of_lt ?_ above)
    rwa [zpow_neg_one, ← one_div]
  obtain ⟨y, hy⟩ : ∃ y, y = fixOf false m (-(Nat.log2 m : Int)) := ⟨_, rfl⟩
  have scaled := fixOf_scaled hm small
  rw [← hy] at scaled
  obtain ⟨one, two⟩ := log2_bounds hm (-(Nat.log2 m : Int))
  rw [add_neg_cancel, zpow_zero] at one
  rw [add_neg_cancel, zero_add, zpow_one] at two
  have pos : (0 : ℚ) < (fixOne : ℤ) := by exact_mod_cast fixOne_pos
  have yLow : fixOne ≤ y := by
    have : ((fixOne : ℤ) : ℚ) ≤ y := by rw [scaled]; exact le_mul_of_one_le_left pos.le one
    exact_mod_cast this
  have yHigh : y ≤ 2 * fixOne := by
    have : (y : ℚ) ≤ 2 * (fixOne : ℤ) := by rw [scaled]; exact mul_le_mul_of_nonneg_right two.le pos.le
    exact_mod_cast this
  obtain ⟨z, hz⟩ : ∃ z, z = (y - fixOne) * fixOne / (y + fixOne) := ⟨_, rfl⟩
  have one_pos := fixOne_pos
  have zLow : 0 ≤ z := hz ▸ Int.ediv_nonneg (mul_nonneg (by omega) one_pos.le) (by omega)
  have zHigh : 2 * z ≤ fixOne := by
    have part : z * (y + fixOne) ≤ (y - fixOne) * fixOne := hz ▸ Int.ediv_mul_le _ (by omega)
    have : 2 * z * (y + fixOne) ≤ fixOne * (y + fixOne) := by nlinarith
    exact le_of_mul_le_mul_right this (by omega)
  have square : 0 ≤ fixMul z z ∧ 4 * fixMul z z ≤ fixOne := by
    refine ⟨Int.ediv_nonneg (mul_nonneg zLow zLow) one_pos.le, ?_⟩
    have part : fixMul z z * fixOne ≤ z * z := Int.ediv_mul_le _ one_pos.ne'
    have : 4 * fixMul z z * fixOne ≤ fixOne * fixOne := by nlinarith
    exact le_of_mul_le_mul_right this one_pos
  obtain ⟨lnLow, lnHigh⟩ := atanhSeries_bounds 110 zLow square.1 square.2 le_rfl
  have ln : lnPart m = 2 * atanhSeries 110 z (fixMul z z) 1 := by rw [lnPart, ← hy, ← hz]
  have part : 0 ≤ lnPart m * fixOne / ln2Fixed ∧ lnPart m * fixOne / ln2Fixed ≤ 4 * fixOne := by
    have ln2 : 0 < ln2Fixed ∧ fixOne ≤ 2 * ln2Fixed := by decide
    refine ⟨Int.ediv_nonneg (mul_nonneg (by omega) one_pos.le) ln2.1.le, Int.ediv_le_of_le_mul ln2.1 ?_⟩
    have : lnPart m ≤ 2 * fixOne := by omega
    nlinarith
  have fraction : 0 ≤ ((lnPart m * fixOne / ln2Fixed : ℤ) : ℚ) / (fixOne : ℤ) ∧
      ((lnPart m * fixOne / ln2Fixed : ℤ) : ℚ) / (fixOne : ℤ) ≤ 4 := by
    refine ⟨div_nonneg (by exact_mod_cast part.1) pos.le, (div_le_iff₀ pos).2 ?_⟩
    exact_mod_cast part.2
  have whole : -1 ≤ (Nat.log2 m : ℚ) + e ∧ (Nat.log2 m : ℚ) + e ≤ 1 := by
    constructor
    · exact_mod_cast (by omega : -1 ≤ (Nat.log2 m : Int) + e)
    · exact_mod_cast top
  rw [sfuExact_log2_eq, abs_lt]
  constructor <;> linarith

end Exact

/-- A bound of the series of sine and cosine, for an angle whose square is at most 10. -/
def trigBound (n T a : Nat) : Nat :=
  match n with
  | 0 => T
  | n + 1 => T + trigBound n (10 * T / (a * (a + 1)) + 1) (a + 2)

theorem trigBound_mono (n : Nat) {T T' : Nat} (h : T ≤ T') (a : Nat) : trigBound n T a ≤ trigBound n T' a := by
  induction n generalizing T T' a with
  | zero => exact h
  | succ n ih =>
    exact Nat.add_le_add h (ih (Nat.add_le_add_right (Nat.div_le_div_right (Nat.mul_le_mul_left 10 h)) 1) _)

/-- A quotient's magnitude, rounded down as the model does. -/
theorem natAbs_ediv_le (x : Int) (d : Nat) : (x / (d : Int)).natAbs ≤ x.natAbs / d + 1 := by
  rcases Int.natAbs_eq x with h | h
  · rw [h, ← Int.natCast_ediv, Int.natAbs_natCast, Int.natAbs_natCast]
    omega
  · rcases Nat.eq_zero_or_pos d with rfl | pos
    · simp
    rw [h, Int.natAbs_neg, Int.natAbs_natCast]
    have low : -((x.natAbs / d : Nat) : Int) - 1 ≤ -(x.natAbs : Int) / d := by
      rw [Int.le_ediv_iff_mul_le (by omega)]
      have := Nat.lt_div_mul_add (a := x.natAbs) pos
      push_cast at *
      nlinarith
    have high : -(x.natAbs : Int) / d ≤ 0 := Int.ediv_nonpos_of_nonpos_of_neg (by omega) (by omega)
    omega

theorem trigSeries_bound (n : Nat) {t y : Int} {a : Nat} (hy : y ≤ 0) (hy' : -10 * fixOne ≤ y) :
    (trigSeries n t y a).natAbs ≤ trigBound n t.natAbs a := by
  induction n generalizing t a with
  | zero => exact le_rfl
  | succ n ih =>
    have product : (fixMul t y).natAbs ≤ 10 * t.natAbs := by
      have one := fixOne_pos
      rcases le_total 0 t with ht | ht
      · have low : -10 * t ≤ fixMul t y := (Int.le_ediv_iff_mul_le one).2 (by nlinarith)
        have high : fixMul t y ≤ 0 := Int.ediv_le_of_le_mul one (by rw [zero_mul]; exact mul_nonpos_of_nonneg_of_nonpos ht hy)
        omega
      · have low : 0 ≤ fixMul t y := Int.ediv_nonneg (mul_nonneg_of_nonpos_of_nonpos ht hy) one.le
        have high : fixMul t y ≤ -10 * t := Int.ediv_le_of_le_mul one (by nlinarith)
        omega
    have next := ih (t := fixMul t y / ((a * (a + 1) : Nat) : Int)) (a := a + 2)
    have cast : ((a * (a + 1) : Nat) : Int) = (a : Int) * (a + 1) := by push_cast; rfl
    rw [cast] at next
    have step : (fixMul t y / ((a : Int) * (a + 1))).natAbs ≤ 10 * t.natAbs / (a * (a + 1)) + 1 :=
      (cast ▸ natAbs_ediv_le (fixMul t y) (a * (a + 1))).trans (Nat.add_le_add_right (Nat.div_le_div_right product) 1)
    rw [trigSeries, trigBound]
    exact (Int.natAbs_add_le _ _).trans (Nat.add_le_add_left (next.trans (trigBound_mono n step _)) _)

/-- A reduced angle is at most pi. -/
theorem abs_reduceAngle (x : Int) : |reduceAngle x| ≤ piFixed := by
  have pos : 0 < 2 * piFixed := by decide
  have low := Int.emod_nonneg x pos.ne'
  have high := Int.emod_lt_of_pos x pos
  have same : x.emod (2 * piFixed) = x % (2 * piFixed) := rfl
  simp only [reduceAngle, same]
  rw [abs_le]
  split <;> constructor <;> omega

/-- A sine or a cosine is below 16 in magnitude. -/
theorem abs_trig {t : Int} {a : Nat} (x : Int) (ht : trigBound 50 t.natAbs a < 16 * fixOne.natAbs) :
    |(fixVal (trigSeries 50 t (-(fixMul (reduceAngle x) (reduceAngle x))) a) 0).rat| < 2 ^ 4 := by
  obtain ⟨r, hr⟩ : ∃ r, r = reduceAngle x := ⟨_, rfl⟩
  have one := fixOne_pos
  have bound : r * r ≤ piFixed * piFixed := by
    have := abs_reduceAngle x
    rw [← hr] at this
    nlinarith [abs_mul_abs_self r, abs_nonneg r]
  have square : 0 ≤ fixMul r r ∧ fixMul r r ≤ 10 * fixOne := by
    refine ⟨Int.ediv_nonneg (mul_self_nonneg r) one.le, Int.ediv_le_of_le_mul one (bound.trans ?_)⟩
    decide
  have series := (trigSeries_bound 50 (t := t) (y := -fixMul r r) (a := a) (by omega) (by omega)).trans_lt ht
  have pos : (0 : ℚ) < (fixOne : ℤ) := by exact_mod_cast one
  rw [rat_fixVal, abs_div, abs_of_pos pos, div_lt_iff₀ pos, ← hr]
  have : |trigSeries 50 t (-fixMul r r) a| < 2 ^ 4 * fixOne := by
    rw [Int.abs_eq_natAbs]
    omega
  exact_mod_cast this

theorem abs_sfuExact_trig {fn : SfuFn} (h : fn = .sin ∨ fn = .cos) (neg : Bool) (m : Nat) (e : Int) :
    |(sfuExact fn neg m e).rat| < 2 ^ 4 := by
  rcases h with rfl | rfl
  · refine abs_trig (a := 2) (fixOf neg m e) ((trigBound_mono 50 (T' := piFixed.natAbs) ?_ 2).trans_lt (by decide +kernel))
    have := abs_reduceAngle (fixOf neg m e)
    have pos : 0 ≤ piFixed := by decide
    rw [Int.abs_eq_natAbs] at this
    omega
  · exact abs_trig (a := 1) (fixOf neg m e) (by decide +kernel)

/-! ### The values that R115 lists -/

/-- A value near n / 2^60. -/
def nearFixed (v : FVal) (n : Nat) : Bool :=
  match v with
  | .fin neg m e => decide (e = -320) && decide ((signedMant neg m * 2 ^ 60 - n * fixOne).natAbs ≤ fixOne.natAbs)
  | _ => false

theorem near_of_nearFixed {v : FVal} {n : Nat} (h : nearFixed v n = true) : |v.rat - n / 2 ^ 60| ≤ 1 / 2 ^ 60 := by
  cases v with
  | nan => exact Bool.noConfusion h
  | inf neg => exact Bool.noConfusion h
  | fin neg m e =>
    rw [nearFixed, Bool.and_eq_true, decide_eq_true_eq, decide_eq_true_eq] at h
    obtain ⟨rfl, close⟩ := h
    have one := fixOne_pos
    have pos : (0 : ℚ) < (fixOne : ℤ) := by exact_mod_cast one
    have int : |signedMant neg m * 2 ^ 60 - n * fixOne| ≤ fixOne := by
      rw [Int.abs_eq_natAbs]
      omega
    have rat : |((signedMant neg m : ℤ) : ℚ) * 2 ^ 60 - (n : ℚ) * ((fixOne : ℤ) : ℚ)| ≤ ((fixOne : ℤ) : ℚ) :=
        by exact_mod_cast int
    have split : (FVal.fin neg m (-320)).rat - n / 2 ^ 60 = (((signedMant neg m : ℤ) : ℚ) * 2 ^ 60 - (n : ℚ) *
        ((fixOne : ℤ) : ℚ)) / (((fixOne : ℤ) : ℚ) * 2 ^ 60) := by
      rw [FVal.rat_fin, zpow_neg, ← fixOne_cast]
      field_simp
    have both : (0 : ℚ) < ((fixOne : ℤ) : ℚ) * 2 ^ 60 := mul_pos pos (pow_pos two_pos 60)
    rw [split, abs_div, abs_of_pos both, div_le_div_iff₀ both (pow_pos two_pos 60), one_mul]
    exact mul_le_mul_of_nonneg_right rat (pow_pos two_pos 60).le

/-! ### The results -/

/-- The reciprocal of a number so small that it is beyond the largest finite one. -/
theorem f32_limits : Fmt.f32.mag Fmt.f32.maxCode = (2 ^ 24 - 1) * 2 ^ 104 ∧ Fmt.f32.halfStep = 2 ^ 103 := by
  have top : Fmt.f32.mag Fmt.f32.maxCode = (2 ^ 24 - 1) * 2 ^ 104 := by
    norm_num [Fmt.mag, Fmt.mbits, Fmt.maxCode, Fmt.qmin, Fmt.bias]
  refine ⟨top, ?_⟩
  rw [Fmt.halfStep, top]
  norm_num [Fmt.mag, Fmt.mbits, Fmt.maxCode, Fmt.qmin, Fmt.bias]

theorem rcp_beyond {neg : Bool} {m : Nat} {e : Int} (hm : m ≠ 0) (small : m < 2 ^ 24) (he : -149 ≤ e)
    (h : Fmt.f32.mag Fmt.f32.maxCode < |(sfuExact .rcp neg m e).rat|) :
    Fmt.f32.mag Fmt.f32.maxCode + Fmt.f32.halfStep ≤ |(sfuExact .rcp neg m e).rat| := by
  obtain ⟨V, hV⟩ : ∃ V, V = |(sfuExact .rcp neg m e).rat| := ⟨_, rfl⟩
  obtain ⟨topEq, halfEq⟩ := f32_limits
  rw [topEq, ← hV] at h
  rw [topEq, halfEq, ← hV]
  have product := sfuExact_rcp (neg := neg) (e := e) hm small
  obtain ⟨p, hp⟩ : ∃ p, p = (sfuExact .rcp neg m e).rat * (FVal.fin neg m e).rat := ⟨_, rfl⟩
  have abs_p : |p| = V * (m * 2 ^ e) := by rw [hp, abs_mul, FVal.abs_rat_fin, hV]
  have close : |p - 1| ≤ 1 / 2 ^ 100 := by
    rw [hp]
    exact product.trans (one_div_le_one_div_of_le (by positivity) (pow_le_pow_right₀ one_le_two (by decide)))
  have low : 1 - 1 / 2 ^ 100 ≤ V * (m * 2 ^ e) := by
    have := (abs_le.1 close).1
    rw [← abs_p]
    linarith [le_abs_self p]
  have high : V * (m * 2 ^ e) ≤ 1 + 1 / 2 ^ 100 := by
    have := abs_sub_abs_le_abs_sub p 1
    rw [abs_one] at this
    rw [← abs_p]
    linarith
  obtain ⟨N, hN⟩ : ∃ N : Nat, N = m * 2 ^ (e + 149).toNat := ⟨_, rfl⟩
  have units : (m : ℚ) * 2 ^ e = N / 2 ^ 149 := by
    have : (2 : ℚ) ^ e = 2 ^ (e + 149).toNat / 2 ^ 149 := by
      rw [eq_div_iff (by positivity), ← zpow_natCast (2 : ℚ) (e + 149).toNat, Int.toNat_of_nonneg (by omega),
          zpow_add₀ two_ne_zero]
      norm_num
    rw [this, hN]
    push_cast
    ring
  rw [units, ← mul_div_assoc, le_div_iff₀ (by positivity)] at low
  rw [units, ← mul_div_assoc, div_le_iff₀ (by positivity)] at high
  have Npos : (0 : ℚ) < N := by
    rw [hN]
    exact_mod_cast Nat.mul_pos (Nat.pos_of_ne_zero hm) (Nat.two_pow_pos _)
  have few : N ≤ 2 ^ 21 := by
    have : (N : ℚ) < 2 ^ 21 + 1 := by
      have := mul_lt_mul_of_pos_right h Npos
      linarith
    exact Nat.lt_succ_iff.1 (by exact_mod_cast this)
  have fewQ : (N : ℚ) ≤ 2 ^ 21 := by exact_mod_cast few
  have Vpos : 0 ≤ V := hV ▸ abs_nonneg _
  have := mul_le_mul_of_nonneg_left fewQ Vpos
  norm_num at this low ⊢
  linarith

theorem sfu_special {fn : SfuFn} {x : Word} {r : FVal} (h : sfuSpecial fn (Fmt.f32.value x.toNat) = some r) :
    sfu fn x = BitVec.ofNat 32 (Fmt.f32.rne r) := by
  rw [sfu, h]

theorem sfu_nan {fn : SfuFn} {x : Word} (h : sfuSpecial fn (Fmt.f32.value x.toNat) = some .nan) : sfu fn x = 0x7FC00000 := by
  rw [sfu_special h]
  rfl

/-- A negative number other than -0. -/
theorem f32_negative {x : Word} (h : x.toInt < 0) (nonzero : x ≠ 0x80000000) : Fmt.f32.value x.toNat = .nan ∨
    Fmt.f32.value x.toNat = .inf true ∨ ∃ m e, m ≠ 0 ∧ Fmt.f32.value x.toNat = .fin true m e := by
  have large : 2 ^ 31 ≤ x.toNat := by
    rw [BitVec.toInt] at h
    split at h <;> omega
  have lt := x.isLt
  have sign : (x.toNat / 2 ^ Fmt.f32.magBits % 2 == 1) = true := by
    rw [show Fmt.f32.magBits = 31 from rfl, beq_iff_eq]
    omega
  have mag : x.toNat % 2 ^ Fmt.f32.magBits ≠ 0 := fun zero => by
    rw [show Fmt.f32.magBits = 31 from rfl] at zero
    exact nonzero (BitVec.eq_of_toNat_eq (by rw [show (0x80000000 : Word).toNat = 2 ^ 31 from rfl]; omega))
  simp only [Fmt.value, sign]
  split
  · split
    · exact .inr (.inl rfl)
    · exact .inl rfl
  · split
    next zero =>
      refine .inr (.inr ⟨_, _, fun none => mag ?_, rfl⟩)
      have := Nat.div_add_mod (x.toNat % 2 ^ Fmt.f32.magBits) (2 ^ Fmt.f32.mbits)
      rw [zero, none, mul_zero] at this
      exact this.symm
    next => exact .inr (.inr ⟨_, _, fun none => (Nat.two_pow_pos _).ne' (Nat.add_eq_zero_iff.1 none).1, rfl⟩)

theorem sfu_negative {x : Word} (h : x.toInt < 0) (nonzero : x ≠ 0x80000000) :
    sfu .rsq x = 0x7FC00000 ∧ sfu .sqrt x = 0x7FC00000 ∧ sfu .log2 x = 0x7FC00000 := by
  rcases f32_negative h nonzero with value | value | ⟨m, e, pos, value⟩
  · exact ⟨sfu_nan (by rw [value]; rfl), sfu_nan (by rw [value]; rfl), sfu_nan (by rw [value]; rfl)⟩
  · exact ⟨sfu_nan (by rw [value]; rfl), sfu_nan (by rw [value]; rfl), sfu_nan (by rw [value]; rfl)⟩
  · exact ⟨sfu_nan (by rw [value]; simp [sfuSpecial, pos]), sfu_nan (by rw [value]; simp [sfuSpecial, pos]),
      sfu_nan (by rw [value]; simp [sfuSpecial, pos])⟩

section Bound
variable {fn : SfuFn} {x : Word} {neg : Bool} {m : Nat} {e : Int} (hv : Fmt.f32.value x.toNat = .fin neg m e)
  (plain : sfuSpecial fn (.fin neg m e) = none)
include hv plain

omit hv in
/-- An input that is not special is not zero, and of a root or a logarithm it is positive. -/
theorem plain_input : m ≠ 0 ∧ (fn = .rsq ∨ fn = .sqrt ∨ fn = .log2 → neg = false) := by
  have pos : m ≠ 0 := fun zero => by simp [sfuSpecial, zero] at plain
  refine ⟨pos, fun h => ?_⟩
  rcases h with rfl | rfl | rfl <;> cases neg <;> simp_all [sfuSpecial]

/-- Within a distance of the exact value: by the check of the open value, or by the rounding. -/
theorem sfu_within {d : ℚ} (range : |(sfuExact fn neg m e).rat| ≤ (Fmt.f32.value 0x7F7FFFFF).rat)
    (open_ : sfuBound fn m e (Fmt.f32.value (sfu fn x).toNat) (sfuExact fn neg m e) = true →
      (Fmt.f32.value (sfu fn x).toNat).isFin = true ∧ |(Fmt.f32.value (sfu fn x).toNat).rat - (sfuExact fn neg m e).rat| ≤ d)
    (rounded : 2 ^ ulpExp (sfuExact fn neg m e) / 2 ≤ d) :
    (Fmt.f32.value (sfu fn x).toNat).isFin = true ∧ |(Fmt.f32.value (sfu fn x).toNat).rat -
        (sfuExact fn neg m e).rat| ≤ d := by
  rcases sfu_cases hv plain with ⟨-, bound⟩ | eq
  · exact open_ bound
  · rw [eq]
    obtain ⟨fin, error⟩ := rne_close (isFin_sfuExact fn neg m e) range
    exact ⟨fin, error.trans rounded⟩

omit hv plain in
/-- The half of a place that is at most a bound. -/
theorem half_ulp_le {q : Int} (hq : -149 ≤ q) (h : |(sfuExact fn neg m e).rat| < 2 ^ (q + 24)) :
    (2 : ℚ) ^ ulpExp (sfuExact fn neg m e) / 2 ≤ 2 ^ (q - 1) := by
  rw [zpow_sub_one₀ two_ne_zero, div_eq_mul_inv]
  exact mul_le_mul_of_nonneg_right (zpow_le_zpow_right₀ one_le_two (ulpExp_le hq h)) (by norm_num)

end Bound

theorem FVal.cmp_ne_gt_iff (m n : Nat) (e f : Int) :
    ((FVal.fin false m e).cmp (.fin false n f) != .gt) = true ↔ (m : ℚ) * 2 ^ e ≤ n * 2 ^ f := by
  have pos : ∀ (j : Nat) (i : Int), (FVal.fin false j i).rat = j * 2 ^ i := fun j i => by rw [FVal.rat_eq_sign_mul]; simp
  rw [bne_iff_ne, ← FVal.leq_iff_cmp (by simp) (by simp), ← pos, ← pos]
  rfl

theorem FVal.cmp_ne_lt_iff (m n : Nat) (e f : Int) :
    ((FVal.fin false m e).cmp (.fin false n f) != .lt) = true ↔ (n : ℚ) * 2 ^ f ≤ m * 2 ^ e := by
  rw [← FVal.cmp_ne_gt_iff, FVal.cmp_swap]
  cases (FVal.fin false n f).cmp (.fin false m e) <;> simp

/-- The middle range of the logarithm. -/
theorem middle_iff (m : Nat) (e : Int) : ((FVal.fin false m e).cmp (.fin false 1 (-1)) != .lt &&
    (FVal.fin false m e).cmp (.fin false 1 1) != .gt) = true ↔ 1 / 2 ≤ (FVal.fin false m e).rat ∧
        (FVal.fin false m e).rat ≤ 2 := by
  rw [Bool.and_eq_true, FVal.cmp_ne_lt_iff, FVal.cmp_ne_gt_iff, FVal.rat_eq_sign_mul]
  norm_num

theorem sfu_rcp_beyond {x : Word} {neg : Bool} {m : Nat} {e : Int} (hv : Fmt.f32.value x.toNat = .fin neg m e)
    (plain : sfuSpecial .rcp (.fin neg m e) = none) (beyond : Fmt.f32.mag Fmt.f32.maxCode < |(sfuExact .rcp neg m e).rat|) :
    Fmt.f32.value (sfu .rcp x).toNat = .inf neg := by
  obtain ⟨small, he⟩ := f32_fin_bounds hv
  have past := rcp_beyond (plain_input plain).1 small he beyond
  have range : inF32Range (sfuExact .rcp neg m e) = false := by
    rw [Bool.eq_false_iff]
    intro inside
    rw [sfuExact, inF32Range, FVal.cmp_ne_gt_iff] at inside
    rw [sfuExact, FVal.abs_rat_fin, f32_limits.1] at beyond
    norm_num at inside beyond
    linarith
  rcases sfu_cases hv plain with ⟨-, bound⟩ | eq
  · rw [sfuBound, range] at bound
    exact Bool.noConfusion bound
  · have odd : ¬Even Fmt.f32.maxCode := odd_maxCode rfl
    rw [eq, sfuExact, rne_past_half past fun even => absurd even odd, overflow_of_hasInf rfl]
    exact value_infCode rfl neg

/-- The results of the inputs that R115 lists. -/
theorem sfu_listed :
    [sfu .rcp 0xFF800000, sfu .rcp 0x80000000, sfu .rcp 0, sfu .rcp 0x7F800000] = [0x80000000, 0xFF800000, 0x7F800000, 0] ∧
    [sfu .rsq 0x80000000, sfu .rsq 0, sfu .rsq 0x7F800000] = [0xFF800000, 0x7F800000, 0] ∧
    [sfu .sqrt 0x80000000, sfu .sqrt 0, sfu .sqrt 0x7F800000] = [0x80000000, 0, 0x7F800000] ∧
    [sfu .exp2 0xFF800000, sfu .exp2 0x80000000, sfu .exp2 0, sfu .exp2 0x7F800000] =
        [0, 0x3F800000, 0x3F800000, 0x7F800000] ∧
    [sfu .log2 0x80000000, sfu .log2 0, sfu .log2 0x7F800000, sfu .log2 0x3F800000] =
        [0xFF800000, 0xFF800000, 0x7F800000, 0] ∧
    [sfu .sin 0xFF800000, sfu .sin 0x80000000, sfu .sin 0, sfu .sin 0x7F800000] = [0x7FC00000, 0x80000000, 0, 0x7FC00000] ∧
    [sfu .cos 0xFF800000, sfu .cos 0x80000000, sfu .cos 0, sfu .cos 0x7F800000] =
        [0x7FC00000, 0x3F800000, 0x3F800000, 0x7FC00000] ∧
    [sfu .tanh 0xFF800000, sfu .tanh 0x80000000, sfu .tanh 0, sfu .tanh 0x7F800000] =
        [0xBF800000, 0x80000000, 0, 0x3F800000] := by
  decide +kernel

end Sys2Proof

namespace Sys2Proof.Machine
open Sys2Proof

/-- Settles O13: each member maps `sfu` over the lanes, and each result is special, within the bound,
    or the exact value rounded. -/
theorem sfuMembers : Obligations.SfuMembers := by
  unfold Obligations.SfuMembers
  obtain ⟨rcp, rsq, sqrt, exp2, log2, sin, cos, tanh⟩ := sfu_listed
  refine ⟨fun s c w d a h hf => ?_, fun fn x nan => sfu_nan (by rw [nan]; rfl), fun x neg nonzero => sfu_negative neg nonzero,
    rcp, rsq, sqrt, exp2, log2, sin, cos, tanh, fun fn x neg m e hv plain => ?_, ?_⟩
  · intro writes
    have each : ∀ (i : Instr) (fn : SfuFn), exec i s = s.vecUn d a (sfu fn) → writes i fn := fun i fn he =>
      writesV_vecUn h hf he fun _ => rfl
    exact ⟨each _ _ rfl, each _ _ rfl, each _ _ rfl, each _ _ rfl, each _ _ rfl, each _ _ rfl, each _ _ rfl, each _ _ rfl⟩
  · intro a v y off ulp top
    obtain ⟨pos, positive⟩ := plain_input plain
    obtain ⟨small, he⟩ := f32_fin_bounds hv
    have ulpPos : (0 : ℚ) < ulp := zpow_pos two_pos _
    have fin : v.isFin = true := isFin_sfuExact fn neg m e
    have whole : ulp / 2 ≤ ulp := half_le_self ulpPos.le
    have twice : ulp / 2 ≤ 2 * ulp := by linarith
    have near : ∀ {n : Nat} {q : Int} {d : ℚ}, n * 2 ^ q ≤ d → closeTo y v n q = true → off d := fun le check =>
      ((closeTo_iff fin _ _).1 check).imp id fun error => error.trans le
    refine ⟨fun range => ?_, ?_, ?_, ?_, ?_, ?_⟩
    · cases fn with
      | rcp =>
        refine sfu_within hv plain range (fun bound => ?_) whole
        exact near (n := 1) (by rw [Nat.cast_one, one_mul]) (Bool.and_eq_true_iff.1 bound).2
      | rsq => exact sfu_within hv plain range (near (n := 2) le_rfl) twice
      | exp2 => exact sfu_within hv plain range (near (n := 2) le_rfl) twice
      | sqrt => exact (sfu_cases hv plain).resolve_left fun h => h.1 rfl
      | log2 =>
        obtain rfl := positive (.inr (.inr rfl))
        change if 1 / 2 ≤ a ∧ a ≤ 2 then off (1 / 2 ^ 22) else off (2 * ulp)
        split
        next middle =>
          refine sfu_within hv plain range (fun bound => ?_) ?_
          · rw [sfuBound, if_pos ((middle_iff m e).2 middle)] at bound
            exact near (n := 1) (by norm_num) bound
          · exact (half_ulp_le (q := -21) (by norm_num) (abs_sfuExact_log2 pos small middle.1 middle.2)).trans (by norm_num)
        next outside =>
          refine sfu_within hv plain range (fun bound => ?_) twice
          rw [sfuBound, if_neg fun inside => outside ((middle_iff m e).1 inside)] at bound
          exact near (n := 2) le_rfl bound
      | sin =>
        exact sfu_within hv plain range (near (n := 1) (by norm_num))
          ((half_ulp_le (q := -20) (by norm_num) (abs_sfuExact_trig (.inl rfl) neg m e)).trans (by norm_num))
      | cos =>
        exact sfu_within hv plain range (near (n := 1) (by norm_num))
          ((half_ulp_le (q := -20) (by norm_num) (abs_sfuExact_trig (.inr rfl) neg m e)).trans (by norm_num))
      | tanh =>
        refine sfu_within hv plain range (fun bound => ?_) (twice.trans (le_max_left _ _))
        rcases Bool.or_eq_true_iff.1 bound with check | check
        · exact near (n := 2) (le_max_left _ _) check
        · exact near (n := 1) (le_trans (by norm_num) (le_max_right _ _)) check
    · rintro rfl
      exact ⟨sfuExact_rcp pos small, fun beyond => sfu_rcp_beyond hv plain (f32_top ▸ beyond)⟩
    · rintro rfl
      obtain rfl := positive (.inl rfl)
      exact sfuExact_rsq pos small
    · rintro rfl
      obtain rfl := positive (.inr (.inl rfl))
      exact sfuExact_sqrt pos
    · rintro rfl k integer
      exact sfuExact_exp2 he integer
    · rintro rfl k power
      obtain rfl := positive (.inr (.inr rfl))
      exact sfuExact_log2 pos small power
  · exact ⟨near_of_nearFixed (by decide +kernel), near_of_nearFixed (by decide +kernel), near_of_nearFixed
      (by decide +kernel),
      near_of_nearFixed (by decide +kernel), near_of_nearFixed (by decide +kernel)⟩

end Sys2Proof.Machine
end

section
/-!
PROOFS. Conversions (R97 to R105, R339, R340, R400, R434): rounding in every mode, integer results,
    the places of packed elements,
and the draws of a lane.
-/

namespace Sys2Proof

/-! ### Rounding a finite value in each mode (R100) -/

/-- A fraction in units of 2^-32, rounded down. -/
theorem floor_fraction (r s : Nat) : ⌊(r : ℚ) / 2 ^ s * 2 ^ 32⌋ = ((r * 2 ^ 32 / 2 ^ s : ℕ) : ℤ) := by
  obtain ⟨low, high⟩ := fraction_bounds (r * 2 ^ 32) s
  have same : (r : ℚ) / 2 ^ s * 2 ^ 32 = ((r * 2 ^ 32 : ℕ) : ℚ) / 2 ^ s := by push_cast; ring
  rw [same, div_two_pow_eq (r * 2 ^ 32) s, Int.floor_eq_iff, Int.cast_natCast]
  exact ⟨le_add_of_nonneg_right low, add_lt_add_right high _⟩

section Between
variable {f : Fmt} {a : ℚ} {k r s : Nat} (h : f.Between a k r s)
include h

/-- The fraction in units of 2^-32, as a draw meets it. -/
theorem Fmt.Between.floor_part {lo hi : ℚ} (hlo : lo = f.mag k) (hhi : hi - lo = f.mag (k + 1) - f.mag k) :
    ⌊(a - lo) / (hi - lo) * 2 ^ 32⌋ = ((r * 2 ^ 32 / 2 ^ s : ℕ) : ℤ) := by
  rw [hhi, hlo, h.frac_eq]
  exact floor_fraction r s

theorem Fmt.Between.roundMag_stochastic {lo hi : ℚ} (hlo : lo = f.mag k) (hhi : hi - lo = f.mag (k + 1) - f.mag k)
    (neg : Bool) (x : Nat) :
    roundMag .stochastic neg x k r s = if 2 ^ 32 ≤ ⌊(a - lo) / (hi - lo) * 2 ^ 32⌋ + (x : ℤ) then k + 1 else k := by
  rw [h.floor_part hlo hhi, roundMag]
  refine if_congr ?_ rfl rfl
  rw [ge_iff_le]
  exact_mod_cast Iff.rfl

/-- Away from zero no code at or above the value is smaller. -/
theorem Fmt.Between.roundMag_up (x : Nat) : a ≤ f.mag (roundMag .down true x k r s) ∧
    ∀ i, a ≤ f.mag i → roundMag .down true x k r s ≤ i := by
  by_cases whole : r = 0
  · have same : roundMag .down true x k r s = k := if_neg fun h => h.2 whole
    have at_ : a = f.mag k := by rw [h.place, whole, Nat.cast_zero, zero_div, zero_mul, add_zero]
    rw [same]
    exact ⟨at_.le, fun i hi => (mag_strictMono f).le_iff_le.1 (at_ ▸ hi)⟩
  · have same : roundMag .down true x k r s = k + 1 := if_pos ⟨rfl, whole⟩
    rw [same]
    refine ⟨h.lt_mag_succ.le, fun i hi => Nat.succ_le_of_lt ((mag_strictMono f).lt_iff_lt.1 (lt_of_lt_of_le ?_ hi))⟩
    have pos : 0 < (r : ℚ) / 2 ^ s := lt_of_le_of_ne (by positivity) (Ne.symm (mt fraction_eq_zero.1 whole))
    have := mul_pos pos (step_pos f k)
    rw [h.place]
    linarith

end Between

/-- A mode that drops the fraction of a value of a sign. -/
def Rnd.truncates (rnd : Rnd) (neg : Bool) : Prop := rnd = .zero ∨ (rnd = .down ∧ neg = false)

theorem roundMag_truncates {rnd : Rnd} {neg : Bool} (h : rnd.truncates neg) (x n r s : Nat) :
    roundMag rnd neg x n r s = n := by
  rcases h with rfl | ⟨rfl, rfl⟩
  · rfl
  · simp [roundMag]

section Round
variable {f : Fmt} {md : CvtField} {x : Nat} (hx : x < 2 ^ 32) (neg : Bool) (m : Nat) (e : Int)
include hx

/-- R100 within the finite range: the code of each mode. -/
theorem round_within (hle : |(FVal.fin neg m e).rat| ≤ f.mag f.maxCode) :
    let a := |(FVal.fin neg m e).rat|
    ∃ c, c ≤ f.maxCode ∧ f.round md x (.fin neg m e) = f.signed neg c ∧ (∀ k, f.mag k = a → c = k) ∧
      (md.rnd = .nearest → f.round md x (.fin neg m e) = f.rne (.fin neg m e)) ∧
      (md.rnd.truncates neg → f.mag c ≤ a ∧ ∀ k, f.mag k ≤ a → k ≤ c) ∧
      (md.rnd = .down → neg = true → a ≤ f.mag c ∧ ∀ k, a ≤ f.mag k → c ≤ k) ∧
      (md.rnd = .stochastic → ∀ k, f.mag k ≤ a → a < f.mag (k + 1) →
        c = if 2 ^ 32 ≤ ⌊(a - f.mag k) / (f.mag (k + 1) - f.mag k) * 2 ^ 32⌋ + (x : ℤ) then k + 1 else k) := by
  intro a
  obtain ⟨k, r, s, between, rounds⟩ := round_fin f neg m e
  rw [← FVal.abs_rat_fin neg] at between
  have le := between.roundMag_le hle md.rnd neg hx
  refine ⟨roundMag md.rnd neg x k r s, le, (rounds md x hx).trans (placed_of_le le),
    fun i hi => between.roundMag_of_mag_eq hi md.rnd neg hx, fun nearest => ?_, fun cut => ?_, fun down minus => ?_,
        fun draws i low high => ?_⟩
  · have le' := between.roundMag_le hle .nearest neg (x := 0) (by decide)
    rw [rounds md x hx, placed_of_le le, nearest, Fmt.rne, rounds nearestMode 0 (by decide), show nearestMode.rnd =
        .nearest from rfl,
      placed_of_le le']
    rfl
  · rw [roundMag_truncates cut]
    exact ⟨between.mag_le, fun i hi => between.mag_le_iff.1 hi⟩
  · rw [down, minus]
    exact between.roundMag_up x
  · have same : i = k := by
      refine le_antisymm (between.mag_le_iff.1 low) (Nat.lt_succ_iff.1
          ((mag_strictMono f).lt_iff_lt.1 (between.mag_le.trans_lt high)))
    rw [draws, same]
    exact between.roundMag_stochastic rfl rfl neg x

/-- R100 beyond the finite range: the largest code, or what lies beyond it. -/
theorem round_beyond (hlt : f.mag f.maxCode < |(FVal.fin neg m e).rat|) :
    let a := |(FVal.fin neg m e).rat|
    let t := ⌊(a - f.mag f.maxCode) / (f.mag (f.maxCode + 1) - f.mag f.maxCode) * 2 ^ 32⌋
    ∃ c, f.maxCode ≤ c ∧ f.round md x (.fin neg m e) = f.placed md neg c ∧
      (md.rnd.truncates neg → f.round md x (.fin neg m e) = f.signed neg f.maxCode) ∧
      (md.rnd = .nearest → md.sat = false → f.round md x (.fin neg m e) = f.rne (.fin neg m e)) ∧
      (md.rnd = .down → neg = true → f.maxCode < c) ∧
      (md.rnd = .stochastic → (t + x < 2 ^ 32 → c = f.maxCode) ∧ (2 ^ 32 ≤ t + x → f.maxCode < c)) := by
  intro a t
  obtain ⟨k, r, s, between, rounds⟩ := round_fin f neg m e
  rw [← FVal.abs_rat_fin neg] at between
  have ge : f.maxCode ≤ k := between.mag_le_iff.1 hlt.le
  have grow : k ≤ roundMag md.rnd neg x k r s := by rcases roundMag_eq_or md.rnd neg x k r s with hc | hc <;> omega
  refine ⟨roundMag md.rnd neg x k r s, ge.trans grow, rounds md x hx, fun cut => ?_, fun nearest sat => ?_,
      fun down minus => ?_,
    fun draws => ?_⟩
  · rw [rounds md x hx, roundMag_truncates cut, Fmt.placed]
    split
    · rcases cut with zero | ⟨down, plus⟩
      · simp [Fmt.overflow, zero]
      · simp [Fmt.overflow, down, plus]
    · rw [le_antisymm (by omega) ge]
  · have same : md = nearestMode := by cases md; simp_all [nearestMode]
    rw [rounds md x hx, same, Fmt.rne, rounds nearestMode 0 (by decide)]
    rfl
  · have up := (between.roundMag_up x).1
    rw [down, minus]
    exact (mag_strictMono f).lt_iff_lt.1 (hlt.trans_le up)
  · rcases ge.eq_or_lt with rfl | past
    · have up := between.roundMag_stochastic rfl rfl neg x
      rw [draws, up]
      exact ⟨fun low => if_neg (not_le.2 low), fun high => by rw [if_pos high]; exact Nat.lt_succ_self _⟩
    · have far : f.mag (f.maxCode + 1) ≤ a := between.mag_le_iff.2 past
      have large : 2 ^ 32 ≤ t := by
        have one : 1 ≤ (a - f.mag f.maxCode) / (f.mag (f.maxCode + 1) - f.mag f.maxCode) := by
          rw [le_div_iff₀ (step_pos f _)]
          linarith
        rw [Int.le_floor]
        push_cast
        linarith
      exact ⟨fun low => by omega, fun _ => past.trans_le grow⟩

end Round

/-- What lies beyond the largest finite code, where nothing holds the result back (R100 steps 2 and 3). -/
theorem overflow_beyond {f : Fmt} {md : CvtField} {neg : Bool} (sat : md.sat = false) (hn : f.hasNan = true)
    (free : ¬md.rnd.truncates neg) :
    (f.hasInf = true → f.value (f.overflow md neg) = .inf neg) ∧ (f.hasInf = false → f.overflow md neg = f.nanCode) := by
  have open_ : (!f.hasNan || md.sat || md.rnd == .zero || (md.rnd == .down && !neg)) = false := by
    rw [Rnd.truncates, not_or, not_and] at free
    obtain ⟨zero, down⟩ := free
    cases neg <;> simp_all
  rw [Fmt.overflow, if_neg (Bool.eq_false_iff.1 open_)]
  refine ⟨fun hi => ?_, fun hi => ?_⟩
  · rw [if_pos hi]
    exact value_infCode hi neg
  · rw [if_neg (Bool.eq_false_iff.1 hi)]

theorem placed_beyond {f : Fmt} {md : CvtField} {neg : Bool} (sat : md.sat = false) (hn : f.hasNan = true)
    (free : ¬md.rnd.truncates neg)
    {c r : Nat} (past : f.maxCode < c) (h : r = f.placed md neg c) :
    (f.hasInf = true → f.value r = .inf neg) ∧ (f.hasInf = false → r = f.nanCode) := by
  rw [h, Fmt.placed, if_pos past]
  exact overflow_beyond sat hn free

theorem not_truncates_down {rnd : Rnd} {neg : Bool} (down : rnd = .down) (minus : neg = true) : ¬rnd.truncates neg := by
  simp [Rnd.truncates, down, minus]

theorem not_truncates_stochastic {rnd : Rnd} {neg : Bool} (h : rnd = .stochastic) : ¬rnd.truncates neg := by
  simp [Rnd.truncates, h]

theorem overflow_held {f : Fmt} {md : CvtField} (neg : Bool) (h : md.sat = true ∨ f.hasNan = false) :
    f.overflow md neg = f.signed neg f.maxCode := by
  rcases h with sat | none
  · simp [Fmt.overflow, sat]
  · exact overflow_of_not_hasNan none md neg

/-- Where a result is held, the largest code is what lies beyond. -/
theorem placed_held {f : Fmt} {md : CvtField} (neg : Bool) (h : md.sat = true ∨ f.hasNan = false) {c : Nat}
    (ge : f.maxCode ≤ c) :
    f.placed md neg c = f.signed neg f.maxCode := by
  rw [Fmt.placed]
  split
  · exact overflow_held neg h
  · rw [le_antisymm (by omega) ge]

theorem round_inf (f : Fmt) (md : CvtField) (x : Nat) (neg : Bool) :
    (md.sat = true ∨ f.hasNan = false → f.round md x (.inf neg) = f.signed neg f.maxCode) ∧
      (md.sat = false → f.hasNan = true → (f.hasInf = true → f.value (f.round md x (.inf neg)) = .inf neg) ∧
        (f.hasInf = false → f.round md x (.inf neg) = f.nanCode)) := by
  refine ⟨fun h => ?_, fun sat hn => ⟨fun hi => ?_, fun hi => ?_⟩⟩
  · rcases h with sat | none
    · simp [Fmt.round, sat]
    · simp [Fmt.round, none]
  · simp [Fmt.round, sat, hn, hi, value_infCode hi neg]
  · simp [Fmt.round, sat, hn, hi]

/-! ### Integer results (R84, R104, R105) -/

/-- The number that the low N bits of an integer name. -/
def lowBits (n : Nat) (signed : Bool) (k : ℤ) : ℤ := if signed then (BitVec.ofInt n k).toInt else (BitVec.ofInt n k).toNat

theorem intValue_eq (n : Nat) (signed : Bool) (hn : 0 < n) (x : Nat) : intValue n signed x = lowBits n signed x := by
  have half : 2 ^ n = 2 * 2 ^ (n - 1) := by rw [← pow_succ', Nat.sub_add_cancel hn]
  rw [lowBits, BitVec.ofInt_natCast]
  cases signed with
  | false => simp [intValue]
  | true =>
    simp only [intValue, Bool.true_and, if_true, BitVec.toInt, BitVec.toNat_ofNat, decide_eq_true_eq]
    split <;> split <;> push_cast <;> omega

/-- A number in the range of N bits is what its low bits name. -/
theorem lowBits_of_range {n : Nat} (signed : Bool) (hn : 0 < n) {v : ℤ} (low : intMin n signed ≤ v)
    (high : v ≤ intMax n signed) :
    lowBits n signed v = v := by
  have half : (2 : ℤ) ^ n = 2 * 2 ^ (n - 1) := by rw [← pow_succ', Nat.sub_add_cancel hn]
  rw [lowBits]
  cases signed with
  | false =>
    simp only [intMin, intMax, Bool.false_eq_true, if_false, BitVec.toNat_ofInt] at low high ⊢
    rw [Nat.cast_pow, Nat.cast_ofNat, Int.emod_eq_of_lt low (by omega), Int.toNat_of_nonneg low]
  | true =>
    simp only [intMin, intMax, if_true] at low high ⊢
    rw [BitVec.toInt_ofInt, Int.bmod_eq_of_le] <;> push_cast <;> omega

theorem lowBits_emod (n : Nat) (signed : Bool) (v : ℤ) : lowBits n signed ((v.emod (2 ^ n)).toNat : ℕ) =
    lowBits n signed v := by
  have same : BitVec.ofInt n ((v.emod (2 ^ n)).toNat : ℕ) = BitVec.ofInt n v := by
    have nonneg : 0 ≤ v.emod (2 ^ n) := Int.emod_nonneg _ (by positivity)
    rw [Int.toNat_of_nonneg nonneg]
    apply BitVec.eq_of_toInt_eq
    rw [BitVec.toInt_ofInt, BitVec.toInt_ofInt]
    change Int.bmod (v % 2 ^ n) (2 ^ n) = _
    exact_mod_cast Int.emod_bmod v (2 ^ n)
  rw [lowBits, lowBits, same]

theorem intNarrow_eq (n : Nat) (signed sat : Bool) (hn : 0 < n) (v : ℤ) : intNarrow n signed sat v = if sat = true then
      (if signed then max (-2 ^ (n - 1)) (min (2 ^ (n - 1) - 1) v) else max 0
          (min (2 ^ n - 1) v)) else lowBits n signed v := by
  have pos : (0 : ℤ) < 2 ^ (n - 1) := by positivity
  have pos' : (0 : ℤ) < 2 ^ n := by positivity
  rw [intNarrow]
  split
  next range =>
    rw [lowBits_of_range signed hn range.1 range.2]
    obtain ⟨low, high⟩ := range
    cases signed <;> cases sat <;> simp only [intMin, intMax, Bool.false_eq_true, if_false, if_true] at low high ⊢ <;> omega
  next out =>
    rw [intValue_eq n signed hn, lowBits_emod]
    cases sat with
    | false => simp
    | true => cases signed <;> simp only [intMin, intMax, Bool.false_eq_true, if_false, if_true] at out ⊢ <;> split <;> omega

/-- The bounds of an integer type are those of a number past them, held within. -/
theorem intNarrow_sat_inf (n : Nat) (signed : Bool) (hn : 0 < n) (neg : Bool) :
    intNarrow n signed true (if neg then -2 ^ n else 2 ^ n) = if neg then intMin n signed else intMax n signed := by
  have half : (2 : ℤ) ^ n = 2 * 2 ^ (n - 1) := by rw [← pow_succ', Nat.sub_add_cancel hn]
  have pos : (0 : ℤ) < 2 ^ (n - 1) := by positivity
  rw [intNarrow_eq n signed true hn]
  cases neg <;> cases signed <;> simp only [intMin, intMax, Bool.false_eq_true, if_false, if_true] <;> omega

/-- The integer that a mode takes of a number (R104). -/
def IsWhole (rnd : Rnd) (x : Nat) (q : ℚ) (k : ℤ) : Prop :=
  match rnd with
  | .nearest => |q - k| ≤ 1 / 2 ∧ (|q - k| = 1 / 2 → Even k)
  | .zero => k = if q < 0 then ⌈q⌉ else ⌊q⌋
  | .down => k = ⌊q⌋
  | .stochastic => |k| = ⌊|q|⌋ + (if 2 ^ 32 ≤ ⌊(|q| - ⌊|q|⌋) * 2 ^ 32⌋ + (x : ℤ) then 1 else 0) ∧ 0 ≤ k * q

theorem isWhole_roundUnits (rnd : Rnd) {x : Nat} (hx : x < 2 ^ 32) (neg : Bool) (m : Nat) (e : Int) :
    IsWhole rnd x (FVal.fin neg m e).rat (signedMant neg (roundUnits rnd neg x m e 0)) := by
  obtain ⟨n, r, s, hr, value, rounds⟩ := roundUnits_eq_roundMag m e 0
  rw [zpow_zero, mul_one] at value
  rw [rounds rnd neg x hx, FVal.rat_eq_sign_mul, value]
  cases rnd with
  | nearest =>
    obtain ⟨near, tie⟩ := roundMag_nearest neg x n hr
    cases neg with
    | false =>
      simp only [IsWhole, Bool.false_eq_true, if_false, one_mul, signedMant, Int.cast_natCast]
      exact ⟨near, fun h => (Int.even_coe_nat _).2 (tie h)⟩
    | true =>
      simp only [IsWhole, if_true, neg_mul, one_mul, signedMant, Int.cast_neg, Int.cast_natCast, sub_neg_eq_add,
          neg_add_eq_sub]
      rw [abs_sub_comm]
      exact ⟨near, fun h => ((Int.even_coe_nat _).2 (tie h)).neg⟩
  | zero => exact (trunc_eq neg n hr).symm
  | down => exact (floor_eq_roundMag neg x n hr).symm
  | stochastic =>
    have nonneg : 0 ≤ (n : ℚ) + r / 2 ^ s := by positivity
    have frac : 0 ≤ (r : ℚ) / 2 ^ s ∧ (r : ℚ) / 2 ^ s < 1 :=
      ⟨by positivity, by rw [div_lt_one (by positivity)]; exact_mod_cast hr⟩
    have abs_q : |(if neg then -1 else 1) * ((n : ℚ) + r / 2 ^ s)| = n + r / 2 ^ s := by
      rw [abs_mul, abs_of_nonneg nonneg]
      cases neg <;> simp
    have floor : ⌊(n : ℚ) + r / 2 ^ s⌋ = n := by
      rw [Int.floor_eq_iff, Int.cast_natCast]
      constructor <;> linarith [frac.1, frac.2]
    have part : ⌊(r : ℚ) / 2 ^ s * 2 ^ 32⌋ = ((r * 2 ^ 32 / 2 ^ s : ℕ) : ℤ) := floor_fraction r s
    have abs_k : |signedMant neg (roundMag .stochastic neg x n r s)| = (roundMag .stochastic neg x n r s : ℕ) := by
      cases neg <;> simp [signedMant]
    refine ⟨?_, ?_⟩
    · rw [abs_k, abs_q, floor, Int.cast_natCast, add_sub_cancel_left, part, roundMag]
      split
      next up => rw [if_pos (by exact_mod_cast up)]; push_cast; rfl
      next down => rw [if_neg (by exact_mod_cast down), add_zero]
    · have count : (0 : ℚ) ≤ (roundMag .stochastic neg x n r s : ℕ) := Nat.cast_nonneg _
      cases neg <;> simp only [signedMant, Bool.false_eq_true, if_false, if_true] <;> push_cast <;> nlinarith

end Sys2Proof
end

section
namespace Sys2Proof.Machine
open Sys2Proof

/-! ### The lanes' draws (R101, R102) -/

/-- A draw changes its lane alone. -/
theorem Warp.lane_draw (w : Warp) {i l : Nat} (hl : l < 64) : (w.draw i).2.lane l =
    if l = i ∧ l < w.lanes.length then { w.lane l with xs := xsNext (w.lane l).xs } else w.lane l := by
  by_cases inside : l < w.lanes.length
  · rw [Warp.draw, Warp.lane_onLanes _ _ _ _ inside, getLsbD_laneBit i hl]
    by_cases same : l = i
    · rw [if_pos (decide_eq_true same), if_pos ⟨same, inside⟩, same]
    · rw [if_neg (by simpa using same), if_neg fun h => same h.1]
  · have none : ∀ v : Warp, v.lanes.length = w.lanes.length → v.lane l = w.lane l := fun v hv => by
      rw [Warp.lane, Warp.lane, List.getD_eq_default _ _ (by omega), List.getD_eq_default _ _ (by omega)]
    rw [if_neg fun h => inside h.2]
    exact none _ (Warp.onLanes_length _ _ _)

/-- The same draws, as many as a list of values takes. -/
def Warp.draws (w : Warp) (i n : Nat) : Warp := (fun v : Warp => (v.draw i).2)^[n] w

theorem Warp.draws_succ (w : Warp) (i n : Nat) : w.draws i (n + 1) = (w.draw i).2.draws i n := rfl

theorem Warp.draws_shape (w : Warp) (i n : Nat) : w.draws i n = { w with lanes := (w.draws i n).lanes } ∧
    (w.draws i n).lanes.length = w.lanes.length := by
  induction n generalizing w with
  | zero => exact ⟨rfl, rfl⟩
  | succ n ih =>
    obtain ⟨shape, length⟩ := ih (w.draw i).2
    rw [Warp.draws_succ]
    refine ⟨by rw [shape]; rfl, length.trans (Warp.onLanes_length _ _ _)⟩

theorem Warp.lane_draws (w : Warp) {i l : Nat} (hl : l < 64) (n : Nat) : (w.draws i n).lane l =
    if l = i ∧ l < w.lanes.length then { w.lane l with xs := xsNext^[n] (w.lane l).xs } else w.lane l := by
  induction n generalizing w with
  | zero => split <;> rfl
  | succ n ih =>
    have length : (w.draw i).2.lanes.length = w.lanes.length := Warp.onLanes_length _ _ _
    rw [Warp.draws_succ, ih, length, w.lane_draw hl]
    split
    next same => rw [Function.iterate_succ_apply]
    next => rfl

/-- The words that a lane converts, with the draws from a state of its recurrence where it takes them. -/
def convertWords (dst src : Ty) (md : CvtField) (takes : Bool) (x : Word) : List Word → List Word
  | [] => []
  | v :: vs => convert dst src md (if takes then (xsNext x).toNat else 0) v.toNat :: convertWords dst src md takes
      (xsNext x) vs

theorem convertWords_plain (dst src : Ty) (md : CvtField) (x : Word) (l : List Word) :
    convertWords dst src md false x l = l.map fun v => convert dst src md 0 v.toNat := by
  induction l generalizing x with
  | nil => rfl
  | cons v l ih => rw [convertWords, ih]; rfl

theorem getElem?_convertWords (dst src : Ty) (md : CvtField) (takes : Bool) (x : Word) (l : List Word) (k : Nat) :
    (convertWords dst src md takes x l)[k]? =
      l[k]?.map fun v => convert dst src md (if takes then (xsNext^[k + 1] x).toNat else 0) v.toNat := by
  induction l generalizing x k with
  | nil => rfl
  | cons v l ih =>
    cases k with
    | zero => rfl
    | succ k => exact ih (xsNext x) k

/-- What a lane's conversions give, and the warp after them. -/
theorem Warp.convertAll_eq (w : Warp) {i : Nat} (hi : i < 64) (dst src : Ty) (l : List Word) :
    let md := cvtField w.cvtmode dst
    let takes := takesDraw dst src md
    ∃ ws, w.convertAll i dst src l = (ws, if takes then w.draws i l.length else w) ∧
      (takes = false ∨ i < w.lanes.length → ws = convertWords dst src md takes (w.lane i).xs l) := by
  intro md takes
  have steps : ∀ (l acc : List Word) (v : Warp), ∃ ws, l.foldl (fun (r : List Word × Warp) x =>
        let t := if takes then r.2.draw i else (0, r.2)
        (r.1 ++ [convert dst src md t.1.toNat x.toNat], t.2)) (acc, v) =
            (acc ++ ws, if takes then v.draws i l.length else v) ∧
      (takes = false ∨ i < v.lanes.length → ws = convertWords dst src md takes (v.lane i).xs l) := by
    intro l
    induction l with
    | nil => exact fun acc v => ⟨[], by cases takes <;> simp [Warp.draws], fun _ => rfl⟩
    | cons x l ih =>
      intro acc v
      rw [List.foldl_cons]
      cases ht : takes with
      | false =>
        rw [ht] at ih
        obtain ⟨ws, eq, words⟩ := ih (acc ++ [convert dst src md 0 x.toNat]) v
        refine ⟨convert dst src md 0 x.toNat :: ws, eq.trans (by rw [List.append_assoc]; rfl), fun _ => ?_⟩
        rw [words (.inl rfl), convertWords, convertWords_plain, convertWords_plain]
        rfl
      | true =>
        rw [ht] at ih
        obtain ⟨ws, eq, words⟩ := ih (acc ++ [convert dst src md (v.draw i).1.toNat x.toNat]) (v.draw i).2
        refine ⟨convert dst src md (v.draw i).1.toNat x.toNat :: ws, eq.trans (by rw [List.append_assoc]; rfl),
            fun inside => ?_⟩
        have here : i < v.lanes.length := inside.resolve_left Bool.noConfusion
        have length : (v.draw i).2.lanes.length = v.lanes.length := Warp.onLanes_length _ _ _
        rw [words (.inr (by rw [length]; exact here)), v.lane_draw hi, if_pos ⟨rfl, here⟩]
        rfl
  exact steps l [] w

/-- A warp after conversions of the lanes of a list: those lanes have drawn, and nothing else changed. -/
structure Warp.Drew (w u : Warp) (lanes : List Nat) (n : Nat) : Prop where
  shape : u = { w with lanes := u.lanes }
  length : u.lanes.length = w.lanes.length
  lane : ∀ l, l < 64 → u.lane l = if l ∈ lanes ∧ l < w.lanes.length then
    { w.lane l with xs := xsNext^[n] (w.lane l).xs } else w.lane l

theorem Warp.Drew.nil (w : Warp) (n : Nat) : w.Drew w [] n := ⟨rfl, rfl,
    fun l _ => by rw [if_neg fun h => List.not_mem_nil h.1]⟩

theorem Warp.Drew.cons {w u : Warp} {i n : Nat} {lanes : List Nat} (new : i ∉ lanes) (h : (w.draws i n).Drew u lanes n) :
    w.Drew u (i :: lanes) n := by
  obtain ⟨shape, length⟩ := w.draws_shape i n
  refine ⟨by rw [h.shape, shape], h.length.trans length, fun l hl => ?_⟩
  rw [h.lane l hl, length, w.lane_draws hl]
  by_cases same : l = i
  · subst same
    rw [if_neg fun h => new h.1]
    simp only [List.mem_cons, true_or, true_and]
  · rw [if_neg (fun h : l = i ∧ _ => same h.1)]
    simp only [List.mem_cons, same, false_or]

/-- Lane by lane, the results and the warp after them. -/
theorem Warp.convertLanes_eq (w : Warp) (lanes : LaneSet) (dst src : Ty) (read : Nat → List Word)
    (make : List Word → Word) {n : Nat}
    (hn : ∀ i, (read i).length = n) :
    let md := cvtField w.cvtmode dst
    let takes := takesDraw dst src md
    ∃ (g : Nat → Word) (u : Warp), w.convertLanes lanes dst src read make = ((lanesOf lanes).map fun i => (i, g i), u) ∧
      (takes = true → w.Drew u (lanesOf lanes) n) ∧ (takes = false → u = w) ∧
      ∀ i ∈ lanesOf lanes, takes = false ∨ i < w.lanes.length → g i = make
          (convertWords dst src md takes (w.lane i).xs (read i)) := by
  intro md takes
  have steps : ∀ (l : List Nat) (v : Warp) (acc : List (Nat × Word)), (∀ i ∈ l, i < 64) → l.Nodup → v.cvtmode = w.cvtmode →
      ∃ (g : Nat → Word) (u : Warp), l.foldl (fun (r : List (Nat × Word) × Warp) i =>
          let q := r.2.convertAll i dst src (read i)
          (r.1 ++ [(i, make q.1)], q.2)) (acc, v) = (acc ++ l.map fun i => (i, g i), u) ∧
        (takes = true → v.Drew u l n) ∧ (takes = false → u = v) ∧
        ∀ i ∈ l, takes = false ∨ i < v.lanes.length → g i = make (convertWords dst src md takes (v.lane i).xs (read i)) := by
    intro l
    induction l with
    | nil => exact fun v acc _ _ _ => ⟨fun _ => 0, v, by simp, fun _ => .nil v n, fun _ => rfl,
        fun i hi => absurd hi List.not_mem_nil⟩
    | cons i l ih =>
      intro v acc small nodup mode
      obtain ⟨new, nodup⟩ := List.nodup_cons.1 nodup
      have hi := small i List.mem_cons_self
      obtain ⟨ws, eq, words⟩ := v.convertAll_eq hi dst src (read i)
      rw [mode] at eq words
      have next : (if takes then v.draws i n else v).cvtmode = w.cvtmode := by
        split
        · rw [(v.draws_shape i n).1]
          exact mode
        · exact mode
      obtain ⟨g, u, eqs, drew, kept, results⟩ := ih (if takes then v.draws i n else v) (acc ++ [(i, make ws)])
        (fun j hj => small j (List.mem_cons_of_mem _ hj)) nodup next
      refine ⟨fun j => if j = i then make ws else g j, u, ?_, fun ht => ?_, fun ht => ?_, fun j hj inside => ?_⟩
      · rw [List.foldl_cons]
        dsimp only
        rw [eq, hn i]
        refine eqs.trans ?_
        have rest : (l.map fun j => (j, g j)) = l.map fun j => (j, if j = i then make ws else g j) :=
          List.map_congr_left fun j hj => by
            rw [if_neg fun h : j = i => new (h ▸ hj)]
        rw [List.map_cons, if_pos rfl, rest, List.append_assoc]
        rfl
      · have after := drew ht
        rw [if_pos ht] at after
        exact after.cons new
      · rw [kept ht, if_neg (Bool.eq_false_iff.1 ht)]
      · by_cases same : j = i
        · subst same
          exact (if_pos rfl).trans (congrArg make (words inside))
        · have mem := (List.mem_cons.1 hj).resolve_left same
          have lane : (if takes then v.draws i n else v).lane j = v.lane j ∧
              (if takes then v.draws i n else v).lanes.length = v.lanes.length := by
            split
            · rw [v.lane_draws (small j hj), if_neg fun h => same h.1]
              exact ⟨rfl, (v.draws_shape i n).2⟩
            · exact ⟨rfl, rfl⟩
          refine (if_neg same).trans ?_
          rw [results j mem (inside.imp id fun h => by rw [lane.2]; exact h), lane.1]
  have small : ∀ i ∈ lanesOf lanes, i < 64 := fun i hi => ((mem_lanesOf lanes i).1 hi).1
  exact steps (lanesOf lanes) w [] small (List.nodup_range.filter _) rfl

/-! ### The conversions of a group -/

section Converts
variable {i : Instr} {s : State} {c : Cur} {w : Warp} {dst src : Ty} {d : VReg} {read : Nat → List Word} {make :
    List Word → Word}
  {n : Nat} {f : (Nat → Nat) → Nat → Word}
  (he : Lands i s c ((w.convertLanes c.lanes dst src read make).2.setVs d.toNat (w.convertLanes c.lanes dst src read make).1))
  (hn : ∀ i, (read i).length = n)
  (hf : ∀ l takes x, make (convertWords dst src (cvtField w.cvtmode dst) takes x (read l)) =
    f (fun k => if takes then (xsNext^[k + 1] x).toNat else 0) l)
include he hn hf

/-- Conversions that take no draws write their register alone. -/
theorem writesV_convertLanes (ht : takesDraw dst src (cvtField w.cvtmode dst) = false) :
    WritesV i s c w d fun l => f (fun _ => 0) l := by
  obtain ⟨g, u, eq, -, kept, results⟩ := w.convertLanes_eq c.lanes dst src read make hn
  obtain rfl := kept ht
  rw [eq] at he
  refine ⟨_, he, u.setVs_shape _ _, u.sameBelow_setVs _ _, fun m l hl => ?_⟩
  refine (Warp.v_vecMap u c.lanes d g m l hl).trans ?_
  split
  next at_ =>
    rw [results l ((mem_lanesOf c.lanes l).2 ⟨hl, at_.2⟩) (.inl ht), hf, ht]
    rfl
  next => rfl

/-- Conversions that take draws write their register and go on in the lanes' recurrences. -/
theorem writes_draws_convertLanes (ht : takesDraw dst src (cvtField w.cvtmode dst) = true) :
    ∃ u : Warp, Lands i s c u ∧ u = { w with vregs := u.vregs, lanes := u.lanes } ∧ w.sameBelow u ∧
      ∀ l, l < w.lanes.length → l < 64 →
        (∀ m, u.v m l = if m = d.toNat ∧ c.lanes.getLsbD l = true then f
            (fun k => (xsNext^[k + 1] (w.lane l).xs).toNat) l else w.v m l) ∧
        u.lane l = if c.lanes.getLsbD l = true then { w.lane l with xs := xsNext^[n] (w.lane l).xs } else w.lane l := by
  obtain ⟨g, u, eq, drew, -, results⟩ := w.convertLanes_eq c.lanes dst src read make hn
  obtain ⟨shape, -, lane⟩ := drew ht
  rw [eq] at he
  have same : ∀ m l, u.v m l = w.v m l := fun m l => by rw [shape]; rfl
  refine ⟨_, he, ?_, fun k hk => ?_, fun l hl h64 => ⟨fun m => ?_, ?_⟩⟩
  · rw [u.setVs_shape, shape]
  · have below := u.sameBelow_setVs d.toNat ((lanesOf c.lanes).map fun i => (i, g i)) k
    rw [shape] at below ⊢
    exact below hk
  · refine (Warp.v_vecMap u c.lanes d g m l h64).trans ?_
    rw [same]
    split
    next at_ =>
      rw [results l ((mem_lanesOf c.lanes l).2 ⟨h64, at_.2⟩) (.inr hl), hf, ht]
      rfl
    next => rfl
  · have lanes : (u.setVs d.toNat ((lanesOf c.lanes).map fun i => (i, g i))).lane l = u.lane l := by
      rw [Warp.lane, Warp.setVs_lanes]
      rfl
    rw [lanes]
    refine (lane l h64).trans (if_congr ?_ rfl rfl)
    rw [mem_lanesOf, and_iff_right h64, and_iff_left hl]

end Converts

/-! ### The places of packed elements (R97, R98, R400) -/

/-- Each type's elements, their width, and where element k starts. -/
structure Places (t : Ty) (count bits : Nat) (pos : Nat → Nat) : Prop where
  count_eq : packCount t = count
  bits_eq : packBits t = bits
  pos_eq : ∀ k, k < count → packPos t k = pos k

/-- What a packed register holds: nothing above its elements, and each element at its place. -/
def Holds (t : Ty) (count bits : Nat) : Prop :=
  ∀ l : List Word, l.length = count → (packWord t l).toNat < 2 ^ (count * bits) ∧
    ∀ k x, l[k]? = some x → (packWord t l).toNat / 2 ^ packPos t k % 2 ^ bits = x.toNat % 2 ^ bits

/-- A number from its digits, and each digit. -/
theorem digit_of_ofDigits {b : Nat} {ds : List Nat} (small : ∀ d ∈ ds, d < 2 ^ b) {i d : Nat} (hd : ds[i]? = some d) :
    Nat.ofDigits (2 ^ b) ds / 2 ^ (b * i) % 2 ^ b = d := by
  have mem : d ∈ ds := List.mem_of_getElem? hd
  have rest : ds.drop i = d :: ds.drop (i + 1) := by
    obtain ⟨hi, rfl⟩ := List.getElem?_eq_some_iff.1 hd
    exact List.drop_eq_getElem_cons hi
  rw [pow_mul, Nat.ofDigits_div_pow_eq_ofDigits_drop i (Nat.two_pow_pos b) ds small, rest, Nat.ofDigits_cons,
    Nat.add_mul_mod_self_left]
  exact Nat.mod_eq_of_lt (small d mem)

/-- Elements that stand as digits of a word. -/
theorem packWord_digits {t : Ty} {l : List Word} {b count : Nat} {ds : List Nat} (small : ∀ d ∈ ds, d < 2 ^ b)
    (len : ds.length = count)
    (fits : count * b ≤ 32) (hb : 0 < b)
    (value : (l.zipIdx.map fun e => e.1.toNat % 2 ^ packBits t * 2 ^ packPos t e.2).sum = Nat.ofDigits (2 ^ b) ds) :
    (packWord t l).toNat < 2 ^ (count * b) ∧ ∀ i d, ds[i]? = some d → (packWord t l).toNat / 2 ^ (b * i) % 2 ^ b = d := by
  have below : Nat.ofDigits (2 ^ b) ds < 2 ^ (count * b) := by
    have := Nat.ofDigits_lt_base_pow_length (Nat.one_lt_two_pow hb.ne') small
    rwa [len, ← pow_mul, Nat.mul_comm] at this
  have toNat : (packWord t l).toNat = Nat.ofDigits (2 ^ b) ds := by
    rw [packWord, value, BitVec.toNat_ofNat]
    exact Nat.mod_eq_of_lt (below.trans_le (Nat.pow_le_pow_right two_pos fits))
  rw [toNat]
  exact ⟨below, fun i d hd => digit_of_ofDigits small hd⟩

theorem holds_two {t : Ty} (h : Places t 2 16 fun k => 16 * k) : Holds t 2 16 := by
  obtain ⟨-, bits, pos⟩ := h
  intro l hl
  obtain ⟨x, y, rfl⟩ := List.length_eq_two.1 hl
  obtain ⟨below, digit⟩ := packWord_digits (count := 2) (t := t) (l := [x, y]) (b := 16)
      (ds := [x.toNat % 2 ^ 16, y.toNat % 2 ^ 16])
    (by simp [Nat.mod_lt]) rfl (by decide) (by decide) (by simp [bits, pos, Nat.ofDigits_cons]; ring)
  refine ⟨below, fun k z hz => ?_⟩
  match k, hz with
  | 0, hz => cases hz; rw [pos 0 (by decide)]; exact digit 0 _ rfl
  | 1, hz => cases hz; rw [pos 1 (by decide)]; exact digit 1 _ rfl

theorem holds_four {t : Ty} {b : Nat} (fits : 4 * b ≤ 32) (hb : 0 < b) (h : Places t 4 b fun k => b * k) : Holds t 4 b := by
  obtain ⟨-, bits, pos⟩ := h
  intro l hl
  match l, hl with
  | [x, y, z, u], _ =>
    obtain ⟨below, digit⟩ := packWord_digits (t := t) (l := [x, y, z, u]) (b := b)
      (ds := [x.toNat % 2 ^ b, y.toNat % 2 ^ b, z.toNat % 2 ^ b, u.toNat % 2 ^ b])
      (by simp [Nat.mod_lt]) rfl fits hb (by simp [bits, pos, Nat.ofDigits_cons]; ring)
    refine ⟨below, fun k v hv => ?_⟩
    match k, hv with
    | 0, hv => cases hv; rw [pos 0 (by decide)]; exact digit 0 _ rfl
    | 1, hv => cases hv; rw [pos 1 (by decide)]; exact digit 1 _ rfl
    | 2, hv => cases hv; rw [pos 2 (by decide)]; exact digit 2 _ rfl
    | 3, hv => cases hv; rw [pos 3 (by decide)]; exact digit 3 _ rfl

/-- Where the elements of e2m1 stand: the even ones in the low half, the odd ones in the high half. -/
def halvesPos (k : Nat) : Nat := 4 * [0, 4, 1, 5, 2, 6, 3, 7].getD k 0

theorem sum_halves {t : Ty} (h : Places t 8 4 halvesPos) (x0 x1 x2 x3 x4 x5 x6 x7 : Word) :
    ([x0, x1, x2, x3, x4, x5, x6, x7].zipIdx.map fun e => e.1.toNat % 2 ^ packBits t * 2 ^ packPos t e.2).sum =
      Nat.ofDigits (2 ^ 4) ([x0, x2, x4, x6, x1, x3, x5, x7].map fun x => x.toNat % 2 ^ 4) := by
  obtain ⟨-, bits, pos⟩ := h
  have p0 : packPos t 0 = 0 := pos 0 (by decide)
  have p1 : packPos t 1 = 16 := pos 1 (by decide)
  have p2 : packPos t 2 = 4 := pos 2 (by decide)
  have p3 : packPos t 3 = 20 := pos 3 (by decide)
  have p4 : packPos t 4 = 8 := pos 4 (by decide)
  have p5 : packPos t 5 = 24 := pos 5 (by decide)
  have p6 : packPos t 6 = 12 := pos 6 (by decide)
  have p7 : packPos t 7 = 28 := pos 7 (by decide)
  simp only [List.zipIdx_cons, List.zipIdx_nil, List.map_cons, List.map_nil, List.sum_cons, List.sum_nil, Nat.ofDigits_cons,
    Nat.ofDigits_nil, bits]
  simp only [Nat.reduceAdd, p0, p1, p2, p3, p4, p5, p6, p7]
  push_cast
  omega
theorem holds_eight {t : Ty} (h : Places t 8 4 halvesPos) : Holds t 8 4 := by
  intro l hl
  match l, hl with
  | [x0, x1, x2, x3, x4, x5, x6, x7], _ =>
    obtain ⟨below, digit⟩ := packWord_digits (count := 8) (by simp [Nat.mod_lt]) rfl (by decide) (by decide)
      (sum_halves h x0 x1 x2 x3 x4 x5 x6 x7)
    refine ⟨below, fun k v hv => ?_⟩
    match k, hv with
    | 0, hv => cases hv; rw [h.pos_eq 0 (by decide)]; exact digit 0 _ rfl
    | 1, hv => cases hv; rw [h.pos_eq 1 (by decide)]; exact digit 4 _ rfl
    | 2, hv => cases hv; rw [h.pos_eq 2 (by decide)]; exact digit 1 _ rfl
    | 3, hv => cases hv; rw [h.pos_eq 3 (by decide)]; exact digit 5 _ rfl
    | 4, hv => cases hv; rw [h.pos_eq 4 (by decide)]; exact digit 2 _ rfl
    | 5, hv => cases hv; rw [h.pos_eq 5 (by decide)]; exact digit 6 _ rfl
    | 6, hv => cases hv; rw [h.pos_eq 6 (by decide)]; exact digit 3 _ rfl
    | 7, hv => cases hv; rw [h.pos_eq 7 (by decide)]; exact digit 7 _ rfl

/-- A type's elements, their width, their places, and what a packed register holds. -/
def Layout (t : Ty) (count bits : Nat) : Prop :=
  packCount t = count ∧ packBits t = bits ∧
    (∀ k, k < count → packPos t k = bits * (if t = .e2m1 then [0, 4, 1, 5, 2, 6, 3, 7].getD k 0 else k)) ∧ Holds t count bits

theorem layout_two {t : Ty} (h : Places t 2 16 fun k => 16 * k) (other : t ≠ .e2m1) : Layout t 2 16 :=
  ⟨h.count_eq, h.bits_eq, fun k hk => by rw [h.pos_eq k hk, if_neg other], holds_two h⟩

theorem layout_four {t : Ty} {b : Nat} (fits : 4 * b ≤ 32) (hb : 0 < b) (h : Places t 4 b fun k => b * k)
    (other : t ≠ .e2m1) :
    Layout t 4 b := ⟨h.count_eq, h.bits_eq, fun k hk => by rw [h.pos_eq k hk, if_neg other], holds_four fits hb h⟩

/-! ### The fields of CVTMODE (R42) and the recurrence (R101) -/

theorem cvtField_eq (m : Xword) {t : Ty} {k : Nat} (h : t.cvtIndex = some k) :
    [Rnd.nearest, .zero, .down, .stochastic][m.toNat / 2 ^ (4 * k) % 4]? = some (cvtField m t).rnd ∧
      (cvtField m t).sat = m.getLsbD (4 * k + 2) := by
  have low : m.toNat / 2 ^ (4 * k) % 16 % 4 = m.toNat / 2 ^ (4 * k) % 4 := by omega
  have bit : m.toNat / 2 ^ (4 * k) % 16 / 4 % 2 = m.toNat / 2 ^ (4 * k + 2) % 2 := by
    rw [pow_add, ← Nat.div_div_eq_div_mul]
    omega
  rw [cvtField, h]
  constructor
  · have four : m.toNat / 2 ^ (4 * k) % 4 < 4 := Nat.mod_lt _ (by decide)
    simp only [rndOf, low]
    interval_cases m.toNat / 2 ^ (4 * k) % 4 <;> rfl
  · simp only [bit]
    rw [BitVec.getLsbD, Nat.testBit_eq_decide_div_mod_eq]
    rfl

theorem xsNext_toNat (x : Word) : (xsNext x).toNat =
    let a := x.toNat ^^^ (x.toNat * 2 ^ 13 % 2 ^ 32)
    let b := a ^^^ (a / 2 ^ 17)
    b ^^^ (b * 2 ^ 5 % 2 ^ 32) := by
  simp only [xsNext, BitVec.toNat_xor, BitVec.toNat_shiftLeft, BitVec.toNat_ushiftRight, Nat.shiftLeft_eq,
      Nat.shiftRight_eq_div_pow]

/-! ### One element converted (R339, R340) -/

section Convert
variable {dst src : Ty} (md : CvtField) (x code : Nat) {f g : Fmt} {n m : Nat} {signed other : Bool}

theorem Ty.fmt_none_of_int {t : Ty} (h : t.int = some (n, signed)) : t.fmt = none ∧ 0 < n := by
  cases t <;> simp_all [Ty.int, Ty.fmt] <;> omega

theorem toNat_ofNat_round (v : FVal) : (BitVec.ofNat 32 (f.round md x v)).toNat = f.round md x v := by
  refine Nat.mod_eq_of_lt ((round_lt f md x v).trans_le (Nat.pow_le_pow_right two_pos ?_))
  cases f <;> decide

theorem convert_float_float (hd : dst.fmt = some f) (hs : src.fmt = some g) :
    (convert dst src md x code).toNat = f.round md x (g.value code) := by
  rw [convert, hd, hs]
  exact toNat_ofNat_round md x _

theorem FVal.rat_ofInt (k : ℤ) : (FVal.ofInt k 0).rat = k := by
  rw [FVal.ofInt, FVal.rat_eq_sign_mul, zpow_zero, mul_one]
  rcases lt_or_ge k 0 with neg | pos
  · rw [decide_eq_true neg, if_pos rfl, ← Int.cast_natCast, Int.ofNat_natAbs_of_nonpos neg.le]
    push_cast
    ring
  · rw [decide_eq_false (not_lt.2 pos), if_neg Bool.false_ne_true, ← Int.cast_natCast, Int.natAbs_of_nonneg pos, one_mul]

theorem convert_int_float (hd : dst.fmt = some f) (hs : src.int = some (n, signed)) :
    ∃ v : FVal, v.isFin = true ∧ v.rat = lowBits n signed code ∧ (v.rat = 0 → v.isNeg = false) ∧
      (convert dst src md x code).toNat = f.round md x v := by
  obtain ⟨none, pos⟩ := Ty.fmt_none_of_int hs
  refine ⟨.ofInt (intValue n signed code) 0, rfl, ?_, fun zero => ?_, ?_⟩
  · rw [FVal.rat_ofInt, intValue_eq n signed pos]
  · rw [FVal.rat_ofInt] at zero
    rw [Int.cast_eq_zero.1 zero]
    rfl
  · rw [convert, hd, none, hs]
    exact toNat_ofNat_round md x _

theorem convert_float_int (hd : dst.int = some (n, signed)) (hs : src.fmt = some g) :
    convert dst src md x code = intWord (toIntType n signed md x (g.value code)) := by
  rw [convert, (Ty.fmt_none_of_int hd).1, hs, hd]

theorem convert_int_int (hd : dst.int = some (n, signed)) (hs : src.int = some (m, other)) :
    convert dst src md x code = intWord (intNarrow n signed md.sat (lowBits m other code)) := by
  obtain ⟨none, pos⟩ := Ty.fmt_none_of_int hs
  rw [convert, (Ty.fmt_none_of_int hd).1, none, hd, hs, ← intValue_eq m other pos]

/-- What the integer result of a float is (R104). -/
theorem toIntType_spec (hn : 0 < n) (hx : x < 2 ^ 32) (v : FVal) : (v = .nan → toIntType n signed md x v = 0) ∧
    (∀ neg, v = .inf neg → toIntType n signed md x v =
      if md.sat = true then intNarrow n signed true (if neg then -2 ^ n else 2 ^ n) else 0) ∧
    (v.isFin = true → ∃ k, IsWhole md.rnd x v.rat k ∧ toIntType n signed md x v = intNarrow n signed md.sat k) := by
  cases v with
  | nan => exact ⟨fun _ => rfl, fun _ h => FVal.noConfusion h, fun h => absurd h Bool.false_ne_true⟩
  | inf neg =>
    refine ⟨FVal.noConfusion, fun _ h => ?_, fun h => absurd h Bool.false_ne_true⟩
    cases h
    rw [intNarrow_sat_inf n signed hn, toIntType]
  | fin neg m e => exact ⟨FVal.noConfusion, fun _ h => FVal.noConfusion h,
      fun _ => ⟨_, isWhole_roundUnits md.rnd hx neg m e, rfl⟩⟩

theorem takesDraw_iff : takesDraw dst src md = true ↔ md.rnd = .stochastic ∧ (dst.fmt ≠ none ∨ src.fmt ≠ none) := by
  simp [takesDraw, Option.isSome_iff_ne_none]

end Convert

/-! ### Unpacking (R434, R435) -/

/-- A register in which some lanes take a value each. -/
theorem Warp.v_setVs_map (w : Warp) (lanes : LaneSet) (d : Nat) (f : Nat → Word) (n : Nat) {l : Nat} (hl : l < 64) :
    (w.setVs d ((lanesOf lanes).map fun i => (i, f i))).v n l = if n = d ∧ lanes.getLsbD l = true then f l else w.v n l := by
  rw [Warp.v_setVs w d n l _ (fun e he => by
    obtain ⟨i, hi, rfl⟩ := List.mem_map.1 he
    exact ((mem_lanesOf lanes i).1 hi).1) hl]
  by_cases at_ : n = d
  · rw [if_pos at_, ← List.map_reverse, find_map_same]
    by_cases mem : lanes.getLsbD l = true
    · rw [if_pos (by simp [mem_lanesOf, hl, mem]), if_pos ⟨at_, mem⟩]
      rfl
    · rw [if_neg (by simp [mem_lanesOf, mem]), if_neg (by simp [mem])]
      rfl
  · rw [if_neg at_, if_neg (by simp [at_])]

theorem Warp.unpacked (w : Warp) (lanes : LaneSet) (d : Nat) (f : Nat → Nat → Word) (count : Nat) :
    let u := (List.range count).foldl (fun w' k => w'.setVs (d + k) ((lanesOf lanes).map fun i => (i, f i k))) w
    u = { w with vregs := u.vregs } ∧ w.sameBelow u ∧ ∀ n l, l < 64 → u.v n l =
      if d ≤ n ∧ n < d + count ∧ lanes.getLsbD l = true then f l (n - d) else w.v n l := by
  induction count with
  | zero => exact ⟨rfl, fun _ _ => rfl, fun n l _ => (if_neg fun h => by omega).symm⟩
  | succ count ih =>
    rw [List.range_succ, List.foldl_append]
    generalize (List.range count).foldl (fun w' k => w'.setVs (d + k) ((lanesOf lanes).map fun i => (i, f i k))) w = v at ih ⊢
    obtain ⟨shape, below, value⟩ := ih
    refine ⟨?_, fun k hk => ?_, fun n l hl => ?_⟩
    · refine (v.setVs_shape (d + count) _).trans ?_
      rw [shape]
      rfl
    · have vwb : v.vwb = w.vwb := by rw [shape]
      exact (v.sameBelow_setVs (d + count) _ k (by rw [vwb]; exact hk)).trans (below k hk)
    · have last := v.v_setVs_map lanes (d + count) (fun i => f i count) n (l := l) hl
      refine last.trans ?_
      rw [value n l hl]
      by_cases here : n = d + count
      · subst here
        rw [Nat.add_sub_cancel_left]
        exact if_congr (by simp) rfl (if_neg fun h => by omega)
      · rw [if_neg fun h => here h.1]
        exact if_congr (and_congr_right fun _ => and_congr_left' (by omega)) rfl rfl

theorem convertWords_range (dst src : Ty) (md : CvtField) (takes : Bool) (x : Word) (n : Nat) (v : Nat → Word) :
    convertWords dst src md takes x ((List.range n).map v) =
      (List.range n).map fun k => convert dst src md (if takes then (xsNext^[k + 1] x).toNat else 0) (v k).toNat := by
  refine List.ext_getElem? fun k => ?_
  rw [getElem?_convertWords, List.getElem?_map, List.getElem?_map]
  by_cases hk : k < n
  · rw [List.getElem?_range hk]
    rfl
  · rw [List.getElem?_eq_none (by simpa using hk)]
    rfl

/-! ### The statement's clauses -/

theorem draws_only_stochastic (dst src : Ty) (md : CvtField) :
    (takesDraw dst src md = true → md.rnd = .stochastic ∧ ¬(dst.int ≠ none ∧ src.int ≠ none)) ∧
      (md.rnd = .stochastic → dst.fmt ≠ none ∨ src.fmt ≠ none → takesDraw dst src md = true) := by
  refine ⟨fun takes => ?_, fun rnd float => takesDraw_iff md |>.2 ⟨rnd, float⟩⟩
  obtain ⟨rnd, float⟩ := (takesDraw_iff md).1 takes
  refine ⟨rnd, fun ⟨hd, hs⟩ => ?_⟩
  obtain ⟨_, hd⟩ := Option.ne_none_iff_exists'.1 hd
  obtain ⟨_, hs⟩ := Option.ne_none_iff_exists'.1 hs
  exact float.elim (· (Ty.fmt_none_of_int hd).1) (· (Ty.fmt_none_of_int hs).1)

/-- Settles O14: a value stands between two codes of its format,
    so that each mode's result is one of the two; integer results are
read off the low bits; and conversions of several lanes draw lane by lane. -/
theorem conversions : Obligations.Conversions := by
  refine ⟨by decide, fun f md x v hx => ?_, fun dst src md x code hx => ?_, fun m e he => ?_, ?_, xsNext_toNat,
    fun s c w dst src d a h => ⟨fun hf => ?_, fun hf => ?_, fun hf => ?_⟩⟩
  · intro r mag a top largest beyond part
    have mags : ∀ k, k ≤ f.maxCode → mag k = f.mag k := fun k hk => rat_value f hk
    refine ⟨fun h => by rw [show r = f.round md x v from rfl, h]; rfl, fun inf num => ?_, fun fin le => ?_, fun fin lt => ?_⟩
    · cases v with
      | nan => exact absurd rfl num
      | fin => exact Bool.noConfusion inf
      | inf neg => exact round_inf f md x neg
    · cases v with
      | nan => exact absurd fin Bool.false_ne_true
      | inf => exact absurd fin Bool.false_ne_true
      | fin neg m e =>
        obtain ⟨c, small, eq, exact_, near, cut, up, draws⟩ := round_within (f := f) (md := md) hx neg m e
            (mags _ le_rfl ▸ le)
        refine ⟨c, small, eq, fun k hk h => exact_ k (mags k hk ▸ h), near, fun h => ?_, fun down minus => ?_,
            fun sr k hk low high => ?_⟩
        · rw [mags c small]
          exact ⟨(cut h).1, fun k hk low => (cut h).2 k (mags k hk ▸ low)⟩
        · rw [mags c small]
          exact ⟨(up down minus).1, fun k hk low => (up down minus).2 k (mags k hk ▸ low)⟩
        · have here := mags k hk.le
          have next := mags (k + 1) hk
          rw [here] at low ⊢
          rw [next] at high ⊢
          exact draws sr k low high
    · cases v with
      | nan => exact absurd fin Bool.false_ne_true
      | inf => exact absurd fin Bool.false_ne_true
      | fin neg m e =>
        have topEq : top = f.mag f.maxCode := mags _ le_rfl
        obtain ⟨c, ge, eq, cut, near, up, draws⟩ := round_beyond (f := f) (md := md) hx neg m e (topEq ▸ lt)
        refine ⟨fun held => ?_, fun sat num => ⟨fun nearest => near nearest sat, fun down minus => ?_, fun sr => ?_⟩⟩
        · rcases held with sat | none | cuts
          · exact eq.trans (placed_held neg (.inl sat) ge)
          · exact eq.trans (placed_held neg (.inr none) ge)
          · exact cut cuts
        · exact placed_beyond sat num (not_truncates_down down minus) (up down minus) eq
        · intro t
          have part_eq : t = ⌊(a - f.mag f.maxCode) / (f.mag (f.maxCode + 1) - f.mag f.maxCode) * 2 ^ 32⌋ := by
            rw [mag_top_step, ← topEq, ← mags _ (Nat.sub_le _ _)]
          rw [part_eq]
          refine ⟨fun low => eq.trans ?_, fun high => placed_beyond sat num (not_truncates_stochastic sr)
              ((draws sr).2 high) eq⟩
          rw [(draws sr).1 low]
          exact if_neg (lt_irrefl _)
  · intro r low narrow whole
    have narrow_eq : ∀ n signed k, 0 < n → intWord (intNarrow n signed md.sat k) = narrow n signed k :=
        fun n signed k hn => by
      rw [intNarrow_eq n signed md.sat hn]
      rfl
    refine ⟨fun f g hd hs => convert_float_float md x code hd hs, fun f n signed hd hs => convert_int_float md x code hd hs,
      fun n signed g hd hs => ?_, fun n signed m t hd hs => ?_, draws_only_stochastic dst src md⟩
    · have pos := (Ty.fmt_none_of_int hd).2
      have eq : r = _ := convert_float_int md x code hd hs
      obtain ⟨nan, inf, fin⟩ := toIntType_spec (signed := signed) md x pos hx (g.value code)
      refine ⟨fun h => by rw [eq, nan h]; rfl, fun neg h => ⟨fun sat => ?_, fun sat => ?_⟩, fun h => ?_⟩
      · rw [eq, inf neg h, if_pos sat, ← narrow_eq n signed _ pos, sat]
      · rw [eq, inf neg h, sat]
        rfl
      · obtain ⟨k, is, result⟩ := fin h
        exact ⟨k, is, by rw [eq, result, narrow_eq n signed k pos]⟩
    · have eq : r = _ := convert_int_int md x code hd hs
      rw [eq, narrow_eq n signed _ (Ty.fmt_none_of_int hd).2]
      rfl
  · simp only [List.mem_cons, List.not_mem_nil, or_false] at he
    rcases he with rfl | rfl | rfl | rfl | rfl | rfl | rfl | rfl | rfl | rfl | rfl | rfl | rfl | rfl | rfl <;>
      exact cvtField_eq m rfl
  · intro layouts e he
    simp only [layouts, List.mem_cons, List.not_mem_nil, or_false] at he
    rcases he with rfl | rfl | rfl | rfl | rfl | rfl | rfl | rfl | rfl | rfl | rfl
    · exact layout_two ⟨rfl, rfl, fun _ _ => rfl⟩ (by decide)
    · exact layout_two ⟨rfl, rfl, fun _ _ => rfl⟩ (by decide)
    · exact layout_two ⟨rfl, rfl, fun _ _ => rfl⟩ (by decide)
    · exact layout_two ⟨rfl, rfl, fun _ _ => rfl⟩ (by decide)
    · exact layout_four (by decide) (by decide) ⟨rfl, rfl, fun _ _ => rfl⟩ (by decide)
    · exact layout_four (by decide) (by decide) ⟨rfl, rfl, fun _ _ => rfl⟩ (by decide)
    · exact layout_four (by decide) (by decide) ⟨rfl, rfl, fun _ _ => rfl⟩ (by decide)
    · exact layout_four (by decide) (by decide) ⟨rfl, rfl, fun _ _ => rfl⟩ (by decide)
    · exact layout_four (by decide) (by decide) ⟨rfl, rfl, fun _ _ => rfl⟩ (by decide)
    · exact layout_four (by decide) (by decide) ⟨rfl, rfl, fun _ _ => rfl⟩ (by decide)
    · exact ⟨rfl, rfl, by decide, holds_eight ⟨rfl, rfl, by decide⟩⟩
  · have lands : Lands (.cvt dst src d a) s c _ := ends_uses h hf rfl rfl
    have one : ∀ l takes x, (convertWords dst src (cvtField w.cvtmode dst) takes x [w.v a.toNat l]).headD 0 =
        convert dst src (cvtField w.cvtmode dst) (if takes then (xsNext^[0 + 1] x).toNat else 0) (w.v a.toNat l).toNat :=
      fun _ _ _ => rfl
    let f (x : Nat → Nat) (l : Nat) : Word := convert dst src (cvtField w.cvtmode dst) (x 0) (w.v a.toNat l).toNat
    exact ⟨writesV_convertLanes (f := f) lands (fun _ => rfl) one, writes_draws_convertLanes (f := f) lands
        (fun _ => rfl) one⟩
  · have lands : Lands (.pack dst src d a) s c _ := ends_uses h hf rfl rfl
    have all := fun l takes x => congrArg (packWord dst) (convertWords_range dst src (cvtField w.cvtmode dst) takes x
        (packCount dst)
      fun k => w.v (a.toNat + k) l)
    have length : ∀ l, ((List.range (packCount dst)).map fun k => w.v (a.toNat + k) l).length = packCount dst :=
        fun l => by simp
    let f (x : Nat → Nat) (l : Nat) : Word :=
      packWord dst ((List.range (packCount dst)).map fun k => convert dst src (cvtField w.cvtmode dst) (x k)
          (w.v (a.toNat + k) l).toNat)
    exact ⟨writesV_convertLanes (f := f) lands length all, writes_draws_convertLanes (f := f) lands length all⟩
  · obtain ⟨shape, below, value⟩ := w.unpacked c.lanes d.toNat (fun l k => unpackElem dst src (w.v a.toNat l) k)
      (packCount src)
    have lands : Lands (.unpack dst src d a) s c _ := ends_uses h hf rfl rfl
    exact ⟨_, lands, shape, below, value⟩

end Sys2Proof.Machine
end

section
/-!
PROOFS. Every step keeps the canonical form of memory (log 4): the predicate on a state, on what a meaning answers,
and the units below the instructions: homes, translation, caches, records and kills.
-/

namespace Sys2Proof.Machine
open Sys2Proof

/-- Memory in its canonical form. -/
def State.Canon (s : State) : Prop := Memory.wf s.mem = true

/-- What a meaning answers leaves memory in its canonical form. -/
def Effect.Canon : Effect → Prop
  | .done s | .moved s | .trap s .. | .trapPast s .. | .stop s _ => s.Canon
  | .fault _ => True

/-- What a step answers leaves memory in its canonical form. -/
def Kept : Host.Outcome State Fault Refusal → Prop
  | .next s => s.Canon
  | .fault _ | .refused _ => True

/-- What may fail leaves memory in its canonical form where it does not. -/
def KeptSome (o : Option State) : Prop := ∀ t, o = some t → t.Canon

theorem keptSome_none : KeptSome none := fun _ h => nomatch h

theorem keptSome_some {s : State} (h : s.Canon) : KeptSome (some s) := fun _ e => Option.some.inj e ▸ h

/-- A fold of operations that keep a predicate keeps it. -/
theorem foldl_keeps {σ α : Type} (P : σ → Prop) {f : σ → α → σ} (hf : ∀ r x, P r → P (f r x)) {l : List α} {r : σ} (h : P r) :
    P (l.foldl f r) := by
  induction l generalizing r with
  | nil => exact h
  | cons x l ih => exact ih (hf r x h)

theorem ite_keeps {σ : Type} (P : σ → Prop) {c : Prop} [Decidable c] {a b : σ} (ha : P a) (hb : P b) :
    P (if c then a else b) := by
  split
  · exact ha
  · exact hb

/-- The state of a pair. -/
theorem canon_of_fst {α : Type} {r : State × α} {t : State} {x : α} (h : r.1.Canon) (e : r = (t, x)) : t.Canon := by
  subst e; exact h

theorem canon_ite {c : Prop} [Decidable c] {s t : State} (hs : s.Canon) (ht : t.Canon) : (if c then s else t).Canon :=
  ite_keeps State.Canon hs ht

theorem canon_then {c : Prop} [Decidable c] {s t : State} (f : s.Canon → t.Canon) (h : s.Canon) :
    (if c then t else s).Canon :=
  canon_ite (f h) h

theorem canon_else {c : Prop} [Decidable c] {s t : State} (f : s.Canon → t.Canon) (h : s.Canon) :
    (if c then s else t).Canon :=
  canon_ite h (f h)

theorem canon_of_mem {s t : State} (h : s.Canon) (e : t.mem = s.mem) : t.Canon := by
  unfold State.Canon
  rw [e]
  exact h

namespace State.Canon

theorem foldl {α : Type} {f : State → α → State} {l : List α} {s : State} (hf : ∀ s x, s.Canon → (f s x).Canon)
    (h : s.Canon) :
    (l.foldl f s).Canon := foldl_keeps State.Canon hf h

variable {s : State} (h : s.Canon)
include h

/-! ### Updates of other parts -/

theorem setCore {k : Nat} {x : Core} : (s.setCore k x).Canon := canon_of_mem h (State.setCore_mem s k x)
theorem setCluster {k : Nat} {x : Cluster} : (s.setCluster k x).Canon := canon_of_mem h (State.setCluster_mem s k x)
theorem setDie {k : Nat} {x : Die} : (s.setDie k x).Canon := canon_of_mem h (State.setDie_mem s k x)
theorem setCtx {k : Nat} {x : Ctx} : (s.setCtx k x).Canon := canon_of_mem h (State.setCtx_mem s k x)
theorem setQueue {k : Nat} {x : Queue} : (s.setQueue k x).Canon := canon_of_mem h (State.setQueue_mem s k x)
theorem setWarp {k : Nat} {x : Warp} : (s.setWarp k x).Canon := canon_of_mem h (State.setWarp_mem s k x)
theorem onWarp {k : Nat} {f : Warp → Warp} : (s.onWarp k f).Canon := canon_of_mem h (State.onWarp_mem s k f)
theorem setGang {k : Nat} {x : Gang} : (s.setGang k x).Canon := canon_of_mem h (State.setGang_mem s k x)
theorem setLaunch {k : Nat} {x : Launch} : (s.setLaunch k x).Canon := canon_of_mem h (State.setLaunch_mem s k x)
theorem onOwner {k die asid : Nat} {f : Warp → Warp} : (s.onOwner k die asid f).Canon :=
  canon_of_mem h (State.onOwner_mem s k die asid f)
theorem onWaiter {m : Monitor} {f : Warp → Warp} {g : Launch → Launch} : (s.onWaiter m f g).Canon :=
  canon_of_mem h (State.onWaiter_mem s m f g)
theorem latch {a : Nat} {m : Monitor} {x : Xword} : (s.latch a m x).Canon := canon_of_mem h (State.latch_mem s a m x)
theorem send {p : Packet} : (s.send p).Canon := canon_of_mem h (State.send_mem s p)
theorem dropLatch {ck pa : Nat} {l : List Byte} : (s.dropLatch ck pa l).Canon :=
  canon_of_mem h (State.dropLatch_mem s ck pa l)
theorem freeNat : s.freeNat.2.Canon := h
theorem fresh : s.fresh.2.Canon := h

/-! ### Homes, translation and caches -/

theorem homeWrite {l : List (Nat × Byte)} : (s.homeWrite l).Canon := homeWrite_wf s l h
theorem homeAtomic {op : AtomOp} {pa : Nat} {x : Xword} : (s.homeAtomic op pa x).1.Canon := homeAtomic_wf s op pa x h
theorem homeCas {wide : Bool} {pa : Nat} {cmp new : Xword} : (s.homeCas wide pa cmp new).1.Canon :=
  homeCas_wf s wide pa cmp new h
theorem homeRead {pa n rcount : Nat} {acquire : Bool} : (s.homeRead pa n rcount acquire).Canon :=
  homeRead_wf s pa n rcount acquire h
theorem homeReadAll {pa n rcount : Nat} {acquire : Bool} : (s.homeReadAll pa n rcount acquire).Canon :=
  homeReadAll_wf s pa n rcount acquire h
theorem recallLine {a line : Nat} : (s.recall a line).Canon := recall_wf s a line h
theorem pull {a sig : Nat} : (s.pull a sig).Canon := pull_wf s a sig h
theorem pullAt {pa n : Nat} : (s.pullAt pa n).Canon := pullAt_wf s pa n h
theorem pushLine {ck line : Nat} : (s.pushLine ck line).Canon := pushLine_wf s ck line h
theorem writeBackSector {ck k : Nat} : (s.writeBackSector ck k).Canon := writeBackSector_wf s ck k h
theorem flushCore {ck : Nat} : (s.flushCore ck).Canon := flushCore_wf s ck h
theorem flushExported {ck : Nat} : (s.flushExported ck).Canon := flushExported_wf s ck h
theorem releaseCore {ck : Nat} : (s.releaseCore ck).Canon := releaseCore_wf s ck h
theorem evictL1 {ck line : Nat} : (s.evictL1 ck line).Canon := evictL1_wf s ck line h
theorem l1Room {ck line : Nat} : (s.l1Room ck line).Canon := l1Room_wf s ck line h
theorem setSector {ck k : Nat} {x : Sector} : (s.setSector ck k x).Canon := setSector_wf s ck k x h
theorem storePlain {ck : Nat} {l : List (Nat × Byte)} {x : Bool} : (s.storePlain ck l x).Canon := storePlain_wf s ck l x h
theorem loadPlain {ck pa n rcount : Nat} : (s.loadPlain ck pa n rcount).1.Canon := loadPlain_wf s ck pa n rcount h
theorem writeHomeBy {ck : Nat} {y : Bool} {l : List (Nat × Byte)} : (s.writeHomeBy ck y l).Canon := writeHomeBy_wf s ck y l h
theorem writeHome {ck : Nat} {l : List (Nat × Byte)} : (s.writeHome ck l).Canon := writeHome_wf s ck l h

theorem pullAll : s.pullAll.Canon := foldl (fun _ _ h => foldl (fun _ _ h => h.pull) h) h

theorem homeAtomics {op : AtomOp} {l : List (Nat × Xword)} : (s.homeAtomics op l).1.Canon :=
  foldl_keeps (fun r : State × List Xword => r.1.Canon) (fun _ _ h => h.homeAtomic) h

theorem homeCases {wide : Bool} {l : List (Nat × Xword × Xword)} : (s.homeCases wide l).1.Canon :=
  foldl_keeps (fun r : State × List Xword => r.1.Canon) (fun _ _ h => h.homeCas) h

theorem armMonitor {m : Monitor} : (s.armMonitor m).1.Canon := by
  have read := h.homeRead (pa := m.addr) (n := if m.wide then 8 else 4) (rcount := 0) (acquire := true)
  unfold State.armMonitor
  generalize s.homeRead m.addr (if m.wide then 8 else 4) 0 true = t at read ⊢
  dsimp only
  split
  · exact read
  · split <;> exact read

theorem dropMonitors {w : Warp} : (s.dropMonitors w).Canon := by
  refine canon_of_mem h ?_
  simp [State.dropMonitors]

theorem dropCtxMonitors {die asid : Nat} : (s.dropCtxMonitors die asid).Canon := foldl (fun _ _ h => h) h

theorem translate {ck asid va : Nat} : (s.translate ck asid va).1.Canon := by
  unfold State.translate
  dsimp only
  split
  · exact h
  · split
    · exact h.setCore
    · split
      · exact h.setDie.setCore
      · exact h

theorem translateDie {die asid va : Nat} : (s.translateDie die asid va).1.Canon := by
  unfold State.translateDie
  dsimp only
  split
  · exact h
  · split
    · exact h.setDie
    · exact h
    · exact h

theorem checkLane {ck asid size lane : Nat} {want : Want} {fmtOk : Bool} {a : Xword} :
    (s.checkLane ck asid want size fmtOk lane a).1.Canon := by
  unfold State.checkLane
  dsimp only
  split
  · exact h
  split
  · exact h
  have ht := h.translate (ck := ck) (asid := asid) (va := a.toNat)
  generalize s.translate ck asid a.toNat = r at ht ⊢
  obtain ⟨t, x⟩ := r
  cases x with
  | leaf l =>
    dsimp only
    repeat' split
    all_goals exact ht
  | _ => exact ht

theorem checkLanes {ck asid size : Nat} {want : Want} {fmtOk : Bool} {l : List (Nat × Xword)} :
    (s.checkLanes ck asid want size fmtOk l).1.Canon :=
  foldl_keeps (fun r : State × List (Nat × Check) => r.1.Canon) (fun _ _ h => h.checkLane) h

theorem cleanLine {ck line : Nat} : (s.cleanLine ck line).Canon := foldl (fun _ _ h => h.writeBackSector) h.pushLine

theorem dropLine {ck line : Nat} : (s.dropLine ck line).Canon := foldl (fun _ _ h => h.setSector) h.cleanLine

theorem acquireCore {ck : Nat} : (s.acquireCore ck).Canon := h

/-- Another operation's update goes home first. -/
theorem pushOther {ck pa : Nat} {op : AtomOp} : (match mfind (s.core ck).uo (lineOf pa) with
    | some u => if u.op = op then s else s.pushLine ck (lineOf pa)
    | none => s).Canon := by
  split
  · exact canon_ite h h.pushLine
  · exact h

theorem reduceHeld {ck pa : Nat} {op : AtomOp} {x : Xword} {exported : Bool} : (s.reduceHeld ck op pa x exported).Canon := by
  have dropped : (if (s.lineSectors ck (lineOf pa)).isEmpty then s else s.dropLine ck (lineOf pa)).Canon :=
    canon_ite h h.dropLine
  exact setCore (pushOther dropped).l1Room.dropLatch

/-! ### Records: the writes of F2 and F3 -/

theorem fwDeliver {fuel dst : Nat} : (s.fwDeliver fuel dst).Canon := by
  induction fuel generalizing s with
  | zero => exact h
  | succ fuel ih =>
    unfold State.fwDeliver
    dsimp only
    split
    · split
      · split
        · refine ih (homeWrite ?_)
          exact h
        · refine ih ?_
          exact h
        · exact h
      · exact h
    · exact h

theorem fwWriteSector {l : List (Nat × Byte)} : (s.fwWriteSector l).Canon := by
  cases l with
  | nil => exact h
  | cons e r => exact h.send.fwDeliver

theorem fwWrite {l : List (Nat × Byte)} : (s.fwWrite l).Canon := foldl (fun _ _ h => h.fwWriteSector) h

theorem hostEvent {l : List Xword} : (s.hostEvent l).Canon := by
  unfold State.hostEvent
  dsimp only
  split
  · exact h.fwWrite
  · exact h

theorem answer {rec data : List Xword} {status : Nat} : (s.answer rec status data).Canon := h.hostEvent

theorem ctxEvent {die asid code agent : Nat} {w1 : Xword} : (s.ctxEvent die asid code agent w1).Canon := by
  unfold State.ctxEvent
  dsimp only
  split
  · exact h
  · split
    · exact h.homeReadAll.fwWrite.fwWrite
    · exact h.homeReadAll.fwWrite

theorem recordFault {die asid page : Nat} : (s.recordFault die asid page).1.Canon := by
  unfold State.recordFault
  dsimp only
  split
  · exact h
  · split <;> exact h

/-- A pull at the home of a signal that translates. -/
theorem pullSignal {l : Launch} {va : Nat} : (match s.translateDie l.die l.asid va with
    | (s, .leaf f) => s.pull l.die (f.pa + va % pageBytes f.level)
    | (s, _) => s).Canon := by
  have ht := h.translateDie (die := l.die) (asid := l.asid) (va := va)
  split
  next e => exact (canon_of_fst ht e).pull
  next e => exact canon_of_fst ht e

theorem finishLaunch {lid status : Nat} : (s.finishLaunch lid status).Canon := by
  unfold State.finishLaunch
  split
  · exact h
  next l _ =>
    refine canon_ite (setQueue (setLaunch (fresh ?told))) (setQueue ?told)
    refine canon_else (fun h => h.ctxEvent) ?_
    exact foldl (fun _ _ h => h.pullSignal) h.setLaunch

theorem skipEvent {die asid : Nat} {f : FrontWrite} : (s.skipEvent die asid f).Canon := h.ctxEvent

end State.Canon

/-- What became of a front-end write leaves memory in its canonical form. -/
def Front.Canon : Front → Prop
  | .made s | .held s | .skipped s => s.Canon

namespace State.Canon
variable {s : State} (h : s.Canon)
include h

theorem frontWrite {die asid : Nat} {f : FrontWrite} : (s.frontWrite die asid f).Canon := by
  unfold State.frontWrite
  split
  · exact h
  have ht := h.translateDie (die := die) (asid := asid) (va := f.addr)
  generalize s.translateDie die asid f.addr = r at ht ⊢
  obtain ⟨t, x⟩ := r
  cases x with
  | replay => exact ht.recordFault
  | absent => exact ht
  | malformed => exact ht
  | hole pa => exact ht
  | leaf l =>
    dsimp only
    split
    · exact ht
    · refine foldl (fun s pa h => ?_) ht
      split
      · exact canon_ite h.homeWrite h.send
      · exact canon_ite h.homeAtomic h.send

theorem drainLaunch {fuel lid : Nat} : (s.drainLaunch fuel lid).Canon := by
  induction fuel generalizing s with
  | zero => exact h
  | succ fuel ih =>
    unfold State.drainLaunch
    split
    · exact h
    next l _ =>
      split
      · split
        · exact h.finishLaunch
        all_goals exact h
      next f rest _ =>
        have made := h.frontWrite (die := l.die) (asid := l.asid) (f := f)
        generalize s.frontWrite l.die l.asid f = r at made ⊢
        cases r with
        | held => exact made
        | made => exact ih (setLaunch made)
        | skipped => exact ih (setLaunch (skipEvent made))

theorem frontWrites {lid : Nat} {fs : List FrontWrite} : (s.frontWrites lid fs).Canon := by
  unfold State.frontWrites
  split
  · exact h
  · exact h.setLaunch.drainLaunch

theorem endLaunch {lid status : Nat} {first : List FrontWrite} : (s.endLaunch lid status first).Canon := by
  unfold State.endLaunch
  split
  · exact h
  · split
    case h_1 => exact h
    case h_2 => exact h
    all_goals exact h.setLaunch.frontWrites

/-! ### Kills -/

theorem matrixRest {die core asid : Nat} : (s.matrixRest die core asid).Canon := canon_ite h h.setCore

theorem copyRest {die cluster asid : Nat} : (s.copyRest die cluster asid).Canon := canon_ite h.setCluster h

theorem emptyMatrix {ck asid : Nat} : (s.emptyMatrix ck asid).Canon := canon_ite h.setCore.matrixRest h.setCore

theorem emptyCopies {die cluster asid : Nat} : (s.emptyCopies die cluster asid).Canon :=
  canon_ite h.setCluster h.setCluster.copyRest

theorem tlbRemove {die : Nat} {p : Leaf → Bool} : (s.tlbRemove die p).Canon := foldl (fun _ _ h => h.setCore) h.setDie

theorem unmap {die asid va : Nat} : (s.unmap die asid va).Canon := by
  refine setCtx (tlbRemove ?_)
  split
  · exact h.homeWrite
  · exact h

theorem withdrawDone : s.withdrawDone.Canon := by
  refine foldl (fun _ _ h => ?_) ?_
  · split
    · exact h.answer
    · exact h
  · exact h

theorem addRemoval {w : Withdrawal} : (s.addRemoval w).Canon := h

theorem withdraw {ck handle : Nat} {tell : Bool} {reply : Option (List Xword)} : (s.withdraw ck handle tell reply).Canon := by
  refine foldl (fun _ _ h => ?_) (canon_else (fun h => h.addRemoval) h.setCtx)
  exact canon_then (fun h => h.ctxEvent) (foldl (fun _ _ h => h.unmap) h)

theorem endSharing {ck : Nat} : (s.endSharing ck).Canon := by
  refine foldl (fun _ _ h => h.unmap) (canon_else (fun h => h.addRemoval) ?_)
  exact foldl (fun _ _ h => h.withdraw) h

theorem earlinessOf {ends all : List CopyCmd} {late : Nat} : (s.earlinessOf ends all late).Canon :=
  foldl (fun _ _ h => canon_ite h.setCtx h) h

theorem lateOutside {c : CopyCmd} : (s.lateOutside c).2.Canon := by
  unfold State.lateOutside
  split
  · exact h
  · exact h.freeNat

theorem earlyEnd {c : CopyCmd} : (s.earlyEnd c).Canon := canon_ite h h.lateOutside.earlinessOf

theorem abandonCopy {c : CopyCmd} : (s.abandonCopy c).Canon := canon_ite h.homeWrite h

theorem unpin {gangs : List Nat} : (s.unpin gangs).Canon := foldl (fun _ _ h => h.setDie) h

theorem releaseAll {die asid : Nat} : (s.releaseAll die asid).Canon := by
  refine foldl (fun _ _ h => ?_) (setDie (unpin (foldl (fun _ _ h => h.abandonCopy) (foldl (fun _ _ h => h.earlyEnd) ?_))))
  · exact setCluster (emptyCopies (foldl (fun _ _ h => h.emptyMatrix.setCore) h))
  · exact h.dropCtxMonitors

theorem abandonLaunches {die asid : Nat} {resident : List (Nat × Nat)} : (s.abandonLaunches die asid resident).Canon :=
  foldl (fun _ _ h => h.endLaunch) h

theorem kill {die asid reason : Nat} {k : KillInfo} : (s.kill die asid reason k).Canon := by
  refine canon_ite h ?_
  refine hostEvent (foldl (fun _ _ h => h.withdraw) (tlbRemove (abandonLaunches (foldl (fun _ _ h => h.setQueue) ?_))))
  exact h.releaseAll.setCtx

end State.Canon
end Sys2Proof.Machine
end

section
/-!
PROOFS. The canonical form of memory, continued: traps and completions, barriers, the ends of warps, and what loads,
stores, atomics and CACHE operations issue.
-/

namespace Sys2Proof.Machine
open Sys2Proof

namespace State.Canon
variable {s : State} (h : s.Canon)
include h

/-! ### Traps and completions -/

theorem takeTrap {k cause : Nat} {lanes : LaneSet} {pc info : Xword} : (s.takeTrap k lanes pc cause info).Canon := by
  unfold State.takeTrap
  split
  · exact h
  · exact canon_ite h.kill (canon_ite h.kill h.setWarp)

theorem checkDeadlock {k : Nat} : (s.checkDeadlock k).Canon := by
  unfold State.checkDeadlock
  split
  · exact h
  · split
    · exact h
    · exact h.setWarp.takeTrap

theorem complete {c : Cur} {moved : Bool} : (s.complete c moved).Canon := by
  refine checkDeadlock (onWarp ?_)
  exact h

theorem trapAt {c : Cur} {next : Bool} {pc info : Xword} {cause : Nat} : (s.trapAt c next pc cause info).Canon := by
  refine takeTrap (onWarp ?_)
  exact h

theorem stop {c : Cur} {why : Stop} : Kept (State.settle c (.stop s why)) := by
  change ((State.onWarp _ _ _) : State).Canon
  refine onWarp ?_
  exact h

end State.Canon

theorem Effect.Canon.settle {c : Cur} {e : Effect} (h : e.Canon) : Kept (State.settle c e) := by
  cases e with
  | done s => exact State.Canon.complete h
  | moved s => exact State.Canon.complete h
  | trap s => exact State.Canon.trapAt h
  | trapPast s => exact State.Canon.trapAt h
  | stop s why => exact State.Canon.stop h
  | fault => trivial

namespace State.Canon
variable {s : State} (h : s.Canon)
include h

theorem missStop {w : Warp} {va : Nat} : (s.missStop w va).Canon := h.recordFault

theorem stirCtx {die asid : Nat} : (s.stirCtx die asid).Canon := h

theorem landLoad {k : Nat} {l : LoadOp} : (s.landLoad k l).Canon := by
  unfold State.landLoad
  split
  · exact h
  · dsimp only
    split
    · exact h.setWarp
    · exact h.setWarp
    · exact h.setWarp.pullAll.acquireCore

theorem awaitLoads {c : Cur} {l : List LoadOp} : Kept (s.awaitLoads c l) := by
  unfold State.awaitLoads
  split
  · exact Effect.Canon.settle h.onWarp
  · split
    · refine foldl (fun _ _ h => h.landLoad) ?_
      exact h
    · exact h.stop

/-- An instruction keeps the form where its body does. -/
theorem run {n : Needs} {body : Cur → Warp → Effect} (hb : ∀ c w, (body c w).Canon) : Kept (s.run n body) := by
  unfold State.run
  split
  · trivial
  · split
    · trivial
    · split
      · exact Effect.Canon.settle h
      · split
        · exact (hb _ _).settle
        · exact h.awaitLoads

/-! ### Shapes of register instructions -/

theorem vec {names : List Nat} {d : VReg} {f : Warp → Nat → Word} : Kept (s.vec names d f) := h.run fun _ _ => h.setWarp
theorem scal {d : SReg} {f : Warp → Xword} : Kept (s.scal d f) := h.run fun _ _ => h.setWarp
theorem predMap {n : Needs} {p : PReg} {f : Warp → Nat → Bool} : Kept (s.predMap n p f) := h.run fun _ _ => h.setWarp
theorem reduceLanes {d a : VReg} {f : Word → Word → Word} : Kept (s.reduceLanes d a f) := h.run fun _ _ => h.setWarp
theorem scanLanes {d a : VReg} {f : Word → Word → Word} : Kept (s.scanLanes d a f) := h.run fun _ _ => h.setWarp

/-! ### Barriers -/

theorem setBarObj {g o : Nat} {b : BarObj} : (s.setBarObj g o b).Canon := h

theorem barComplete {g o : Nat} : (s.barComplete g o).Canon := canon_then (fun h => h) h

theorem trapPrimary {k cause : Nat} {info : Xword} : (s.trapPrimary k cause info).Canon := by
  unfold State.trapPrimary
  split
  · exact h
  · split
    · exact h
    · exact h.setWarp.takeTrap

theorem barStuck {g o : Nat} : (s.barStuck g o).Canon := by
  refine canon_then (fun h => ?_) h
  split
  · exact h.setBarObj
  · exact foldl (fun _ _ h => h.trapPrimary) h.setBarObj

theorem barRemove {g o slot : Nat} : (s.barRemove g o slot).Canon := canon_ite h.setBarObj h.setBarObj.barComplete.barStuck

theorem barLeave {g slot : Nat} : (s.barLeave g slot).Canon :=
  foldl (fun _ _ h => canon_then (fun h => h.barRemove) h.setBarObj) h

theorem barUnwait {g slot : Nat} : (s.barUnwait g slot).Canon := foldl (fun _ _ h => h.setBarObj) h

theorem barWait {k o : Nat} {w : Warp} : (s.barWait k w o).Canon := by
  unfold State.barWait
  dsimp only
  split
  · exact h.setBarObj.setWarp
  · exact h.setBarObj.barStuck

theorem barArrive {w : Warp} {o : Nat} : (s.barArrive w o).Canon := h.releaseCore.setBarObj.barComplete

theorem barPast {c : Cur} {w : Warp} {d : SReg} {o : Nat} {t x : Xword} : (s.barPast c w d o t x).Canon := by
  unfold State.barPast
  dsimp only
  split
  · exact h.setWarp.acquireCore
  · exact h.barWait

/-! ### The ends of lanes and warps -/

theorem checkTriggered {lid : Nat} : (s.checkTriggered lid).Canon := by
  unfold State.checkTriggered
  split
  · exact h
  · exact canon_then (fun h => h.setLaunch.frontWrites) h

theorem checkGangTriggered {g : Nat} : (s.checkGangTriggered g).Canon := by
  unfold State.checkGangTriggered
  split
  · exact h
  · exact h.checkTriggered

theorem workgroupEnd {ck g member : Nat} : (s.workgroupEnd ck g member).Canon := canon_then (fun h => h.setCore) h

theorem reportEnded {w : Warp} : (s.reportEnded w).Canon := by
  refine foldl (fun _ _ h => ?_) (foldl (fun _ _ h => canon_ite h.ctxEvent h.ctxEvent) h)
  split
  · exact h.ctxEvent
  · exact h

theorem warpEnd {k : Nat} : (s.warpEnd k).Canon := by
  unfold State.warpEnd
  split
  · exact h
  · exact h.reportEnded.setWarp.dropMonitors.barLeave.workgroupEnd.checkGangTriggered

theorem leaveHandler {k : Nat} {w : Warp} : (s.leaveHandler k w).Canon :=
  canon_then (fun h => h.dropMonitors.barUnwait) h.setWarp

theorem endLanes {k : Nat} {w : Warp} {lanes : LaneSet} : (s.endLanes k w lanes).Canon := by
  have left : ∀ {c : Prop} [Decidable c] {w' : Warp}, (if c then s.leaveHandler k w' else s.setWarp k w').Canon :=
    canon_ite h.leaveHandler h.setWarp
  exact canon_ite left.warpEnd left.checkGangTriggered

/-! ### What accesses issue -/

end State.Canon

/-- What checks come to leaves memory in its canonical form. -/
def Checks.Canon {α : Type} : Checks α → Prop
  | .go s _ => s.Canon
  | .ends e => e.Canon

namespace State.Canon
variable {s : State} (h : s.Canon)
include h

theorem place {w : Warp} {want : Want} {size : Nat} {fmtOk : Bool} {l : List (Nat × Xword)} :
    (s.place w want size fmtOk l).Canon := by
  have checked := h.checkLanes (ck := w.coreK) (asid := w.asid) (want := want) (size := size) (fmtOk := fmtOk) (l := l)
  unfold State.place
  dsimp only
  split
  · trivial
  · exact checked
  · exact checked.missStop
  · split
    · exact checked
    · exact checked

omit h in
theorem packet {t : Sent} (h : t.s.Canon) {p : Packet} : (t.packet p).s.Canon := h.send

omit h in
theorem charge {s : State} {w : Warp} {t : Sent} {k : State → Effect} (h : s.Canon) (ht : t.s.Canon)
    (hk : ∀ s : State, s.Canon → (k s).Canon) :
    (s.charge w t k).Canon := by
  unfold State.charge
  split
  · exact hk _ ht
  · split
    · exact hk _ ht.setCtx
    · exact h

theorem deferAt {die asid slot : Nat} : KeptSome (s.deferAt die asid slot) :=
  ite_keeps KeptSome keptSome_none (keptSome_some h.setDie)

theorem getD {o : Option State} (ho : KeptSome o) : (o.getD s).Canon := by
  cases o with
  | none => exact h
  | some t => exact ho t rfl

theorem beforeWrites {w : Warp} {lanes : LaneSet} {e : MemExt} {pas : List Nat} : (s.beforeWrites w lanes e pas).Canon := by
  have out : ∀ {c : Prop} [Decidable c], (if c then s.flushExported w.coreK else s).Canon :=
    canon_then (fun h => h.flushExported) h
  refine canon_ite out (canon_ite out.releaseCore ?_)
  exact foldl (fun _ _ h => getD (releaseCore h) h.deferAt) (canon_else (fun h => h.releaseCore) out)

theorem cancelFill {ck sector : Nat} : (s.cancelFill ck sector).Canon := canon_of_mem h rfl

theorem l1Follow {ck pa : Nat} {l : List Byte} : (s.l1Follow ck pa l).Canon := l1Follow_wf s ck pa l h

omit h in
theorem sentWrite {t : Sent} (h : t.s.Canon) {w : Warp} {k op : Nat} {l : List (Nat × Byte)} :
    (t.write w k op l).s.Canon := by
  cases l with
  | nil => exact h
  | cons e r => exact packet (foldl (fun _ _ h => h.l1Follow) (foldl (fun _ _ h => h.cancelFill) h))

theorem addStore {k op packets walks : Nat} : (s.addStore k op packets walks).Canon := canon_else (fun h => h.onWarp) h

theorem refresh {ck k : Nat} : (s.refresh ck k).Canon := by
  unfold State.refresh
  split
  · exact h
  · exact h.setSector

theorem readOwn {ck rcount : Nat} {u : ReadUnit} {acq : Option Scope} : (s.readOwn ck u acq rcount).1.Canon := by
  unfold State.readOwn
  split
  · exact foldl (fun _ _ h => h.refresh) (foldl (fun _ _ h => h.homeReadAll) h)
  next k _ =>
    have pulled : (if acq.isSome then (s.pushLine ck (k / 4)).pullAt (128 * k) 128 else s.pushLine ck (k / 4)).Canon :=
      canon_then (fun h => h.pullAt) h.pushLine
    exact ite_keeps (fun r : State × List Byte => r.1.Canon)
      (ite_keeps (fun r : State × List Byte => r.1.Canon) pulled pulled.homeRead)
      (ite_keeps (fun r : State × List Byte => r.1.Canon) pulled pulled.homeRead.setSector)

theorem dropData {ck : Nat} {u : ReadUnit} : (s.dropData ck u).Canon := foldl (fun _ _ h => h.cancelFill.setSector) h

omit h in
theorem loadingRead {t : Loading} (h : t.sent.s.Canon) {k rcount : Nat} {w : Warp} {acq : Option Scope} {u : ReadUnit} :
    (t.read k w acq rcount u).sent.s.Canon := by
  refine ite_keeps (fun t : Loading => t.sent.s.Canon) h.readOwn (ite_keeps (fun t : Loading => t.sent.s.Canon) h ?_)
  exact packet (fresh h.dropData)

theorem ldGlobal {c : Cur} {w : Warp} {t : Ty} {d b : VReg} {a : SReg} {e : MemExt} : (s.ldGlobal c w t d a b e).Canon := by
  have placed := h.place (w := w) (want := .load) (size := tyBytes t) (fmtOk := tyFormatted t)
    (l := w.addrs c.lanes a b e (tyBytes t))
  unfold State.ldGlobal
  split
  next e => rw [e] at placed; exact placed
  next e =>
    rw [e] at placed
    refine charge placed ?_ fun _ h => h.onWarp
    exact foldl_keeps (fun l : Loading => l.sent.s.Canon) (fun _ _ h => loadingRead h) placed.fresh

theorem addLocal {k : Nat} {dests : List Nat} {ready : List LoadReg} : (s.addLocal k dests ready).Canon := h.fresh.onWarp

theorem ldLocal {c : Cur} {w : Warp} {t : Ty} {d b : VReg} {a : SReg} {e : MemExt} : (s.ldLocal c w t d a b e).Canon := by
  unfold State.ldLocal
  dsimp only
  split
  · exact h
  · exact h.addLocal

omit h in
theorem writeUnit {t : Sent} (h : t.s.Canon) {w : Warp} {k op : Nat} {released : Bool} {u : WriteUnit} :
    (t.writeUnit w k op released u).s.Canon := by
  unfold Sent.writeUnit
  split
  · exact sentWrite h
  · split
    · exact h.storePlain
    · exact h.writeHome

theorem stGlobal {c : Cur} {w : Warp} {t : Ty} {d b : VReg} {a : SReg} {e : MemExt} : (s.stGlobal c w t d b a e).Canon := by
  have placed := h.place (w := w) (want := .store) (size := tyBytes t) (fmtOk := tyFormatted t)
    (l := w.addrs c.lanes a b e (tyBytes t))
  unfold State.stGlobal
  split
  next e => rw [e] at placed; exact placed
  next e =>
    rw [e] at placed
    refine charge placed ?_ fun _ h => h.addStore
    exact foldl_keeps (fun t : Sent => t.s.Canon) (fun _ _ h => writeUnit h) placed.fresh.beforeWrites.onWarp

theorem localPoke {gang o : Nat} {l : List Byte} : (s.localPoke gang o l).Canon :=
  canon_of_mem h (State.localPoke_mem s gang o l)

theorem localWrites {g : Nat} {l : List (Nat × List Byte)} : (s.localWrites g l).Canon := foldl (fun _ _ h => h.localPoke) h

theorem stLocal {c : Cur} {w : Warp} {t : Ty} {d b : VReg} {a : SReg} {e : MemExt} : (s.stLocal c w t d b a e).Canon := by
  unfold State.stLocal
  dsimp only
  split
  · exact h
  · exact h.localWrites

/-! ### Atomics -/

theorem dropLines {ck : Nat} {pas : List Nat} : (s.dropLines ck pas).Canon := foldl (fun _ _ h => h.dropLine) h

theorem dropRemote {ck : Nat} {pas : List Nat} : (s.dropRemote ck pas).Canon := foldl (fun _ _ h => h.cancelFill.setSector) h

omit h in
theorem loadingAtomic {α : Type} {t : Loading} (h : t.sent.s.Canon) {k : Nat} {w : Warp} {wide : Bool} {d : VReg}
    {own : State → List (Nat × α) → State × List Xword} {body : List (Nat × α) → Nat → PacketBody} {g : List (Nat × Nat × α)}
    (ho : ∀ s l, State.Canon s → (own s l).1.Canon) : (t.atomic k w wide d own body g).sent.s.Canon := by
  unfold Loading.atomic
  dsimp only
  split
  · exact ho _ _ h
  · exact packet (dropRemote h.fresh)

theorem atomicGlobal {α : Type} {c : Cur} {w : Warp} {wide : Bool} {d : VReg} {l : List (Nat × Xword)} {e : MemExt}
    {operand : Nat → α}
    {own : State → List (Nat × α) → State × List Xword} {body : List (Nat × α) → Nat → PacketBody}
    (ho : ∀ s l, State.Canon s → (own s l).1.Canon) : (s.atomicGlobal c w wide d l e operand own body).Canon := by
  have placed := h.place (w := w) (want := .atomic) (size := if wide then 8 else 4) (fmtOk := false) (l := l)
  unfold State.atomicGlobal
  split
  next e => rw [e] at placed; exact placed
  next e =>
    rw [e] at placed
    refine charge placed ?_ fun _ h => h.onWarp
    refine foldl_keeps (fun t : Loading => t.sent.s.Canon) (fun _ _ h => loadingAtomic h ho) ?_
    exact canon_then (fun h => foldl (fun _ _ h => h.pullAt) h) placed.fresh.beforeWrites.dropLines

theorem localUpdate {g o n : Nat} {f : Xword → Xword} : (s.localUpdate g o n f).1.Canon := h.localPoke

theorem localUpdates {g n : Nat} {l : List (Nat × Xword)} {f : Nat → Xword → Xword} : (s.localUpdates g n l f).1.Canon :=
  foldl_keeps (fun r : State × List (Nat × Xword) => r.1.Canon) (fun _ _ h => h.localUpdate) h

theorem atomicLocal {c : Cur} {w : Warp} {wide : Bool} {d : VReg} {l : List (Nat × Xword)} {f : Nat → Xword → Xword} :
    (s.atomicLocal c w wide d l f).Canon := by
  unfold State.atomicLocal
  dsimp only
  split
  · exact h
  · exact h.localUpdates.addLocal

omit h in
theorem reductions {t : Sent} (h : t.s.Canon) {w : Warp} {k id : Nat} {op : AtomOp} {l : List (Nat × Xword)} :
    (t.reductions w k id op l).s.Canon :=
  foldl_keeps (fun t : Sent => t.s.Canon) (fun _ _ h => packet h.dropRemote) h

theorem redGlobal {c : Cur} {w : Warp} {op : AtomOp} {d : VReg} {l : List (Nat × Xword)} {e : MemExt} :
    (s.redGlobal c w op d l e).Canon := by
  have placed := h.place (w := w) (want := .reduce) (size := atomBytes op) (fmtOk := false) (l := l)
  unfold State.redGlobal
  split
  next e => rw [e] at placed; exact placed
  next e =>
    rw [e] at placed
    refine charge placed (reductions ?_) fun _ h => h.addStore
    exact homeAtomics (dropLines (foldl (fun _ _ h => h.reduceHeld) placed.fresh.beforeWrites))

end State.Canon
end Sys2Proof.Machine
end

section
/-!
PROOFS. The canonical form of memory, continued: CACHE operations, waits, and what the engines read, write and run.
-/

namespace Sys2Proof.Machine
open Sys2Proof

namespace State.Canon
variable {s : State} (h : s.Canon)
include h

/-! ### CACHE operations -/

theorem fillLine {a line : Nat} : (s.fillLine a line).Canon := canon_of_mem h (State.fillLine_mem s a line)

theorem tlbHeld {ck asid va : Nat} : ∀ r, s.tlbHeld ck asid va = some r → r.1.Canon := by
  intro r e
  unfold State.tlbHeld at e
  dsimp only at e
  split at e
  · exact Option.some.inj e ▸ h
  · split at e
    · exact Option.some.inj e ▸ h.setCore
    · cases e

theorem dropHint {ctx n : Nat} : (s.dropHint ctx n).Canon := h.setCtx

theorem keepAt {line gang ctx n : Nat} : (s.keepAt line gang ctx n).Canon := by
  refine canon_ite ?_ h.fillLine
  split
  · exact h.setDie.fillLine
  · exact h.dropHint

theorem prefOwn {ck line : Nat} : (s.prefOwn ck line).Canon :=
  canon_else (fun h => foldl (fun _ _ h => canon_else (fun h => h.setSector) h) h.recallLine) h.fillLine

omit h in
theorem prefSector {t : Sent} (h : t.s.Canon) {o : CacheOp} {n k : Nat} : (t.prefSector o n k).s.Canon :=
  packet (canon_else (fun h => h.setCore) h.fresh)

omit h in
theorem prefRemote {t : Sent} (h : t.s.Canon) {o : CacheOp} {line n : Nat} : (t.prefRemote o line n).s.Canon :=
  foldl_keeps (fun t : Sent => t.s.Canon) (fun _ _ h => prefSector h) h

omit h in
theorem cacheLane {t : Sent} (h : t.s.Canon) {o : CacheOp} {va n : Nat} {l : Leaf} : (t.cacheLane o va l n).s.Canon := by
  refine ite_keeps (fun t : Sent => t.s.Canon) h.dropHint ?_
  split
  · exact ite_keeps (fun t : Sent => t.s.Canon) h.prefOwn (prefRemote h)
  · exact ite_keeps (fun t : Sent => t.s.Canon) h.keepAt (packet h)
  · dsimp only
    exact dropLine (foldl (fun _ _ h => h.cancelFill) h)
  · exact h.cleanLine

theorem cacheIssue {o : CacheOp} {storeOp va n : Nat} : (s.cacheIssue o storeOp va n).1.Canon := by
  refine ite_keeps (fun r : State × Option Leaf => r.1.Canon) h.dropHint ?_
  have held := h.tlbHeld (ck := o.ck) (asid := o.asid) (va := va)
  split
  next e => exact held _ e
  next => exact h.setDie

theorem cacheInstr {op : Nat} {counted : Bool} {a : SReg} {b : VReg} {ext : Option MemExt} :
    Kept (s.cacheInstr op counted a b ext) := by
  refine h.run fun c w => ite_keeps Effect.Canon h ?_
  have issued := foldl_keeps (fun r : State × List (Nat × Leaf × Nat) => r.1.Canon) (r := (s.fresh.2, []))
    (l := lineGroups ((w.addrs c.lanes a b (extOf ext) 1).map fun e => e.2.toNat))
    (f := fun r e =>
      let q := r.1.cacheIssue (w.cacheOp c.warp op) s.fresh.1 e.1 e.2
      (q.1, match q.2 with
        | some l => r.2 ++ [(e.1, l, e.2)]
        | none => r.2)) (fun _ _ h => h.cacheIssue) h.fresh
  refine charge h ?_ fun _ h => canon_then (fun h => h.addStore) h
  exact foldl_keeps (fun t : Sent => t.s.Canon) (fun _ _ h => cacheLane h) issued

/-! ### Waits -/

theorem fenceAcq {c : Cur} {w : Warp} {mask : BitVec 4} {sc : Scope} : (s.fenceAcq c w mask sc).Canon :=
  canon_ite (canon_else (fun h => h.pullAll.acquireCore) h) h.onWarp

theorem waitcDone {c : Cur} {w : Warp} {d : SReg} {x : Xword} : (s.waitcDone c w d x).Canon := h.onWarp.pullAll.acquireCore

theorem armOwn {c : Cur} {w : Warp} {d : SReg} {m : Monitor} : (s.armOwn c w d m).Canon :=
  ite_keeps Effect.Canon h.cleanLine.armMonitor.waitcDone h.cleanLine.armMonitor.onWarp

theorem armRemote {c : Cur} {w : Warp} {m : Monitor} : (s.armRemote c w m).Canon := by
  have asked := packet (t := { s := s, cost := 0, dsts := [] }) h
    (p := mkPacket w.die (ownerOf m.addr) 0 w.asid (.waitReq m) (some c.warp) none)
  exact charge (k := fun s => .stop (s.onWarp c.warp fun w => w.setArming (some m)) (.monitor m.addr false)) h asked
    fun _ h => h.onWarp

theorem checked {l : List ParamCheck} {k : Unit → Effect} (hk : (k ()).Canon) : (s.checked l k).Canon := by
  unfold State.checked
  split
  · exact h
  · exact hk

theorem engineAcquire : s.engineAcquire.Canon := h.pullAll

omit h in
theorem engineWrite {t : Sent} (h : t.s.Canon) {e : EngineCtx} {cls op : Nat} {bypass : Bool} {ev : EngEvent} :
    (t.engineWrite e cls op bypass ev).s.Canon := by
  unfold Sent.engineWrite
  dsimp only
  split
  · exact h
  · refine ite_keeps (fun t : Sent => t.s.Canon) h.writeHomeBy (packet ?_)
    exact foldl (fun _ _ h => h.l1Follow) (foldl (fun _ _ h => h.cancelFill) h)

omit h in
theorem pay {t : Sent} (h : t.s.Canon) {e : EngineCtx} {cls : Nat} : KeptSome (t.pay s e cls) :=
  ite_keeps KeptSome (keptSome_some h) (ite_keeps KeptSome (keptSome_some h.setCtx) keptSome_none)

omit h in
theorem engineAsk {t : Sent} (h : t.s.Canon) {e : EngineCtx} {cls op va : Nat} {parts : List (Nat × Nat)} :
    (t.engineAsk e cls op va parts).2.s.Canon := by
  refine packet ?_
  exact h.fresh

end State.Canon

/-! ### What a part of a command comes to -/

/-- What a part of a command comes to leaves memory in its canonical form. -/
def Eng.Canon {α : Type} : Eng α → Prop
  | .go s _ | .pause s _ | .fail s .. | .need s .. => s.Canon
  | .hole _ => True

theorem Eng.Canon.bind {α β : Type} {x : Eng α} {f : State → α → Eng β} (h : x.Canon) (hf : ∀ s a, s.Canon → (f s a).Canon) :
    (x.bind f).Canon := by
  cases x with
  | go s a => exact hf s a h
  | pause => exact h
  | fail => exact h
  | need => exact h
  | hole => trivial

theorem engList_canon {α β : Type} {f : State → α → Eng β} (hf : ∀ s x, s.Canon → (f s x).Canon) {l : List α} {s : State}
    (h : s.Canon) :
    (engList f s l).Canon := by
  induction l generalizing s with
  | nil => exact h
  | cons x l ih => exact (hf s x h).bind fun _ _ h => (ih h).bind fun _ _ h => h

namespace State.Canon
variable {s : State} (h : s.Canon)
include h

theorem engineAddr {e : EngineCtx} {want : Want} {va : Nat} : (s.engineAddr e want va).Canon := by
  unfold State.engineAddr
  split
  · exact h
  have ht := h.translateDie (die := e.die) (asid := e.asid) (va := va)
  generalize s.translateDie e.die e.asid va = r at ht ⊢
  obtain ⟨t, x⟩ := r
  cases x with
  | replay => exact ht.recordFault
  | absent => exact ht
  | malformed => exact ht
  | hole => trivial
  | leaf l =>
    refine ite_keeps Eng.Canon ht (ite_keeps Eng.Canon trivial ?_)
    split
    · exact ht
    · exact ht

theorem engineRead {e : EngineCtx} {va : Nat} {parts : List (Nat × Nat)} : (s.engineRead e va parts).Canon :=
  ite_keeps Eng.Canon (foldl (fun _ _ h => h.homeReadAll) h) h

theorem pageSpans {fuel va n : Nat} {e : EngineCtx} {want : Want} : (s.pageSpans fuel e want va n).Canon := by
  induction fuel generalizing s va n with
  | zero => exact h.engineAddr.bind fun _ _ h => ite_keeps Eng.Canon h (ite_keeps Eng.Canon trivial h)
  | succ fuel ih =>
    refine h.engineAddr.bind fun _ _ h => ite_keeps Eng.Canon h (ite_keeps Eng.Canon trivial (ite_keeps Eng.Canon h ?_))
    exact (ih h).bind fun _ _ h => h

theorem engineSpan {va n : Nat} {e : EngineCtx} {want : Want} : (s.engineSpan e want va n).Canon := h.pageSpans

theorem engineBytes {va n : Nat} {e : EngineCtx} : (s.engineBytes e va n).Canon := h.engineSpan.bind fun _ _ h => h.engineRead

theorem spot {e : EngineCtx} {want : Want} {t : Ty} {row c0 : Nat} : (s.spot e want t row c0).Canon := by
  have raw : ∀ {s : State} {va : Nat}, s.Canon → ((s.engineAddr e want va).bind fun s p =>
      if p.leaf.fmt ≠ 0 ∨ t.isBlock then Eng.fail s 0x07 (faultInfo 0 va) va else .go s (Spot.raw va)).Canon :=
    fun h => h.engineAddr.bind fun _ _ h => ite_keeps Eng.Canon h h
  have ht := h.translateDie (die := e.die) (asid := e.asid) (va := row)
  unfold State.spot
  generalize s.translateDie e.die e.asid row = r at ht ⊢
  obtain ⟨u, x⟩ := r
  cases x with
  | replay => exact ht.engineAddr.bind fun _ _ h => raw h
  | absent => exact raw ht
  | malformed => exact raw ht
  | hole => exact raw ht
  | leaf l =>
    dsimp only
    split
    · exact raw ht
    · refine ht.engineAddr.bind fun _ _ h => ite_keeps Eng.Canon h (ite_keeps Eng.Canon (ite_keeps Eng.Canon h h) ?_)
      exact ite_keeps Eng.Canon h h

theorem engineBlock {e : EngineCtx} {p : Place} : (s.engineBlock e p).Canon := h.engineRead

theorem spotValue {e : EngineCtx} {x : Spot} : (s.spotValue e x).Canon := by
  cases x with
  | raw => exact h
  | half => exact h.engineRead.bind fun _ _ h => h
  | block => exact h.engineBlock.bind fun _ _ h => h

theorem valueIn {e : EngineCtx} {r : List Xword} {idx : List Nat} {t : Ty} {n : Nat} : (s.valueIn e r idx t n).Canon := by
  unfold State.valueIn
  split
  · exact h
  · exact h.spot.bind fun _ _ h => h.spotValue

theorem elemIn {e : EngineCtx} {c : CopyCmd} {r : List Xword} {idx bases : List Nat} {t : Ty} :
    (s.elemIn e c r idx bases t).Canon := by
  unfold State.elemIn
  dsimp only
  split
  · exact h
  · refine h.spot.bind fun s x h => ?_
    cases x with
    | raw => exact h.engineBytes.bind fun _ _ h => h
    | half => exact h.engineRead.bind fun _ _ h => ite_keeps Eng.Canon h h
    | block => exact h.spotValue.bind fun _ _ h => h

theorem blockIn {e : EngineCtx} {c : CopyCmd} {r : List Xword} {idx bases : List Nat} {t : Ty} :
    (s.blockIn e c r idx bases t).Canon := by
  have values : ∀ {s : State}, s.Canon → ∀ f : List FVal → SliceOut,
      ((engList (fun s k => s.valueIn e r idx t (c.slice + k)) s (List.range 32)).bind fun s vs => Eng.go s (f vs)).Canon :=
    fun h _ => (engList_canon (fun _ _ h => h.valueIn) h).bind fun _ _ h => h
  refine ite_keeps Eng.Canon ?_ (values h _)
  split
  · split
    · exact ite_keeps Eng.Canon h (values h _)
    · exact h.engineAddr.bind fun _ _ h => h
    · exact h
  · refine h.spot.bind fun s x h => ?_
    cases x with
    | raw => exact values h _
    | half => exact values h _
    | block => exact ite_keeps Eng.Canon (h.engineBlock.bind fun _ _ h => h) (values h _)

theorem elemOut {e : EngineCtx} {c : CopyCmd} {r : List Xword} {t : Ty} : (s.elemOut e c r t).Canon := by
  unfold State.elemOut
  dsimp only
  split
  · exact h
  · refine h.spot.bind fun s x h => ?_
    cases x with
    | raw => exact h.engineSpan.bind fun _ _ h => h
    | half => exact h
    | block => exact ite_keeps Eng.Canon (ite_keeps Eng.Canon h h) h

theorem bytesAcross {e : EngineCtx} {c : CopyCmd} {src dst n : Nat} {srcLoc dstLoc : Bool} :
    (s.bytesAcross e c src dst n srcLoc dstLoc).Canon := by
  refine Eng.Canon.bind ?_ fun _ _ h => ite_keeps Eng.Canon h (h.engineSpan.bind fun _ _ h => h)
  exact ite_keeps Eng.Canon h h.engineBytes

theorem sliceOf {c : CopyCmd} : (s.sliceOf c).Canon := by
  unfold State.sliceOf
  dsimp only
  split
  · exact h.bytesAcross
  · exact ite_keeps Eng.Canon h.blockIn h.elemIn
  · exact h.elemOut
  · exact ite_keeps Eng.Canon h.blockIn h.elemIn
  · exact ite_keeps Eng.Canon h.blockIn h.elemIn
  · exact h

theorem counterTargets {e : EngineCtx} {va : Nat} : (s.counterTargets e va).Canon :=
  h.engineAddr.bind fun _ _ h => ite_keeps Eng.Canon h h

theorem coreSector {e : EngineCtx} {va pa n : Nat} : (s.coreSector e va pa n).Canon := by
  refine ite_keeps Eng.Canon ?_ (ite_keeps Eng.Canon h h.engineRead)
  exact h.loadPlain

theorem coreBytes {e : EngineCtx} {va n : Nat} : (s.coreBytes e va n).Canon :=
  h.engineSpan.bind fun _ _ h => (engList_canon (fun _ _ h => h.coreSector) h).bind fun _ _ h => h

theorem coreBlock {e : EngineCtx} {p : Place} : (s.coreBlock e p).Canon :=
  ite_keeps Eng.Canon (foldl (fun _ _ h => h.homeReadAll) h) h.engineRead

theorem pageElem {e : EngineCtx} {t : Ty} {p : Place} {k : Nat} : (s.pageElem e t p k).Canon := by
  refine ite_keeps Eng.Canon (ite_keeps Eng.Canon h ?_) ?_
  · exact h.engineAddr.bind fun _ _ h => ite_keeps Eng.Canon h (h.coreSector.bind fun _ _ h => h)
  · split
    · exact h
    · exact h.engineAddr.bind fun _ _ h => ite_keeps Eng.Canon h (h.coreBlock.bind fun _ _ h => h)

theorem opRow {e : EngineCtx} {g addr side n x : Nat} {t : Ty} : (s.opRow e g addr side t n x).Canon := by
  refine ite_keeps Eng.Canon h (h.engineAddr.bind fun _ _ h => ite_keeps Eng.Canon ?_ ?_)
  · exact ite_keeps Eng.Canon h (h.coreBytes.bind fun _ _ h => h)
  · exact ite_keeps Eng.Canon (engList_canon (fun _ _ h => h.pageElem) h) h

theorem drainPlace {e : EngineCtx} {b : MBlock} {t : Ty} {p : DrainPart} : (s.drainPlace e b t p).Canon := by
  refine ite_keeps Eng.Canon (ite_keeps Eng.Canon h (ite_keeps Eng.Canon h h))
    (ite_keeps Eng.Canon ?_ (ite_keeps Eng.Canon h ?_))
  · exact h.engineAddr.bind fun _ _ h => ite_keeps Eng.Canon h (ite_keeps Eng.Canon h (ite_keeps Eng.Canon h h))
  · exact h.engineAddr.bind fun _ _ h => ite_keeps Eng.Canon h h

theorem placeParts {e : EngineCtx} {b : MBlock} {t : Ty} {l : List DrainPart} : (s.placeParts e b t l).2.Canon := by
  induction l generalizing s with
  | nil => exact h
  | cons p r ih =>
    have placed := h.drainPlace (e := e) (b := b) (t := t) (p := p)
    unfold State.placeParts
    generalize s.drainPlace e b t p = x at placed ⊢
    cases x with
    | go => exact ih placed
    | pause => exact placed
    | fail => exact placed
    | need => exact placed
    | hole => trivial

end State.Canon
end Sys2Proof.Machine
end

section
/-!
PROOFS. The canonical form of memory, continued: copies, matrix commands and the launch rings.
-/

namespace Sys2Proof.Machine
open Sys2Proof

namespace State.Canon
variable {s : State} (h : s.Canon)
include h

/-! ### Copies -/

theorem statusWrite {ck pa word : Nat} : (s.statusWrite ck pa word).Canon := canon_then (fun h => h.writeHome) h

theorem chooseAlloc {w : Warp} {bytes : Nat} : (s.chooseAlloc w bytes).2.Canon := h.setCtx.setCluster

theorem queueCopy {c : Cur} {w : Warp} {d : SReg} {x : CopySpec} : (s.queueCopy c w d x).Canon := by
  refine canon_ite (setDie (onWarp (fresh ?told))) (setCluster (onWarp (fresh ?told)))
  exact canon_then (fun h => h.chooseAlloc) h.flushCore.setCtx.statusWrite

theorem recordCopy {coll : Bool} {a : SReg} {make : State → Cur → Warp → List Xword → Effect}
    (hm : ∀ c w l, (make s c w l).Canon) :
    Kept (s.recordCopy coll a make) := by
  refine h.run fun c w => ite_keeps Effect.Canon h ?_
  split
  · exact h
  · exact hm _ _ _

theorem queueRecord {c : Cur} {w : Warp} {d : SReg} {r : List Xword} {kind : CopyKind} {idx : List Nat} {toGlobal : Bool} :
    (s.queueRecord c w d r kind idx toGlobal).Canon := h.queueCopy

theorem onCopy {clk id : Nat} {f : CopyCmd → CopyCmd} : (s.onCopy clk id f).Canon := h.setCluster

theorem takeOwed {c : CopyCmd} : (s.takeOwed c).1.Canon := by
  unfold State.takeOwed
  split
  · refine ite_keeps (fun r : State × CopyCmd => r.1.Canon) h ?_
    split
    · exact h.onOwner
    · exact h
  all_goals exact h

omit h in
theorem doSlice {s0 s : State} (h0 : s0.Canon) (h : s.Canon) {clk : Nat} {c : CopyCmd} {o : SliceOut} :
    (s0.doSlice s clk c o).Canon := by
  have noted : (if o.events.isEmpty then s.localWrites c.gang o.locals
      else (s.localWrites c.gang o.locals).setCtx (ctxKey c.die c.asid)
        (((s.localWrites c.gang o.locals).ctx (ctxKey c.die c.asid)).noteLines
          (s.localWrites c.gang o.locals).now o.events)).Canon :=
    canon_else (fun h => h.setCtx) h.localWrites
  have written := foldl_keeps (fun t : Sent => t.s.Canon) (l := o.events)
    (f := fun t l => t.engineWrite (c.ctx []) 1 c.id (!c.alloc) l) (fun _ _ h => engineWrite h)
      (r := { s := _, cost := 0, dsts := [] }) noted
  have paid := pay (s := s0) (e := c.ctx []) (cls := 1) written
  unfold State.doSlice
  dsimp only
  split
  · exact h0.onCopy
  next e => exact (paid _ e).onCopy

theorem passSlice {clk : Nat} : (s.passSlice clk).Canon := by
  unfold State.passSlice
  split
  · exact h
  · split
    · exact h
    · exact h.onCopy

theorem passCopy {clk : Nat} : (s.passCopy clk).Canon := by
  unfold State.passCopy
  dsimp only
  split
  · exact h
  · exact h.setCluster

omit h in
theorem countAt {t : Sent} (h : t.s.Canon) {e : EngineCtx} {cls op va pa : Nat} {add : Word} :
    (t.countAt e cls op va add pa).s.Canon := by
  unfold Sent.countAt
  split
  · exact h.homeAtomic.l1Follow
  · exact packet h

theorem finishCopy {c : CopyCmd} : (s.finishCopy c).Canon := by
  unfold State.finishCopy
  dsimp only
  split
  · exact h.statusWrite.onOwner
  · exact h.statusWrite.onOwner.ctxEvent

theorem dropCopy {clk id : Nat} {c : CopyCmd} : (s.dropCopy clk id c).Canon := h.setCluster.stirCtx

/-! ### Matrix commands -/

theorem queueMatrix {c : Cur} {w : Warp} {kind : MatrixKind} {block : List Word} {out : Nat} {idx : List Nat}
    {draw : Word} {lanes : Bool} :
    (s.queueMatrix c w kind block out idx draw lanes).Canon := h.fresh.setWarp.setCore

theorem blockInstr {queued : Bool} {a : SReg} {make : State → Cur → Warp → List Word → Effect}
    (hm : ∀ c w l, (make s c w l).Canon) :
    Kept (s.blockInstr queued a make) := by
  refine h.run fun c w => ite_keeps Effect.Canon h ?_
  split
  · exact h
  · exact hm _ _ _

theorem fillRegion {c : MatrixCmd} {b : MBlock} {f : Core → Nat × Nat → Word} : (s.fillRegion c b f).Canon := h.setCore

theorem chargeEnergy {die cl asid e : Nat} : (s.chargeEnergy die cl asid e).Canon := h.setCluster.setCtx

theorem mmaSpent {c : MatrixCmd} {b : MBlock} : (s.mmaSpent c b).Canon := by
  unfold State.mmaSpent
  split
  · exact h
  · exact h.setCore.chargeEnergy

theorem runMma {c : MatrixCmd} {b : MBlock} : (s.runMma c b).Canon := by
  refine Eng.Canon.bind (engList_canon (fun _ _ h => ?_) h) fun _ _ h => ?_
  · exact ite_keeps Eng.Canon h h.opRow
  · exact (engList_canon (fun _ _ h => h.opRow) h).bind fun _ _ h => h.fillRegion.mmaSpent

theorem runMload {c : MatrixCmd} {b : MBlock} : (s.runMload c b).Canon := by
  refine Eng.Canon.bind (engList_canon (fun _ _ h => ?_) h) fun _ _ h => h.fillRegion
  exact ite_keeps Eng.Canon h (ite_keeps Eng.Canon h h.coreBytes)

theorem drainWrites {c : MatrixCmd} {l : List DrainPlace} : (s.drainWrites c l).s.Canon := by
  refine foldl_keeps (fun t : Sent => t.s.Canon) (fun _ _ h => engineWrite h) ?_
  exact foldl (fun _ _ h => h.localWrites) h

theorem runMdrain {c : MatrixCmd} {b : MBlock} : (s.runMdrain c b).1.s.Canon ∧ (s.runMdrain c b).2.Canon := by
  have placed := h.placeParts (e := c.ctx) (b := b) (t := b.aty.getD .f32) (l := (s.partsLeft c b).map Prod.fst)
  unfold State.runMdrain
  dsimp only
  split
  next e =>
    rw [e] at placed
    have base : State.Canon _ := placed
    refine ⟨drainWrites ?ran, ?ran⟩
    exact canon_then (fun h => h.fillRegion) (canon_then (fun h => h.setCore) base)
  next e => rw [e] at placed; exact ⟨drainWrites placed, placed⟩
  next => exact ⟨h, placed⟩

theorem runHist {c : MatrixCmd} {clear : Bool} {t : Nat} : (s.runHist c clear t).Canon :=
  canon_then (fun h => h.setCore) h.localWrites

theorem onFirst {ck : Nat} {f : MatrixCmd → MatrixCmd} : (s.onFirst ck f).Canon := h.setCore

theorem matrixEnd {c : MatrixCmd} : (s.matrixEnd c).Canon :=
  canon_else (fun h => h.matrixRest) h.setCore.stirCtx.onOwner.workgroupEnd

theorem matrixFault {c : MatrixCmd} {cause : Nat} {info : Xword} : (s.matrixFault c cause info).Canon := by
  unfold State.matrixFault
  dsimp only
  split
  · exact canon_ite h.ctxEvent h.setWarp
  · exact h.ctxEvent

theorem undefineRegion {c : MatrixCmd} {b : MBlock} : (s.undefineRegion c b).Canon := canon_of_mem h rfl

theorem matrixDiscard {c : MatrixCmd} {b : MBlock} {cause : Nat} {info : Xword} : (s.matrixDiscard c b cause info).Canon :=
  h.undefineRegion.matrixFault.matrixEnd

/-- The states of a command that ran wholly or not at all. -/
theorem whole {x : Eng Sent} {r : Sent × Eng Unit}
    (hr : r = match x with
      | .go s t => ({ t with s := s }, Eng.go s ())
      | .pause s g => (noPackets s, .pause s g)
      | .fail s cause i va => (noPackets s, .fail s cause i va)
      | .need s va l => (noPackets s, .need s va l)
      | .hole pa => (noPackets s, .hole pa)) (hx : x.Canon) : r.1.s.Canon ∧ r.2.Canon := by
  subst hr
  cases x with
  | hole => exact ⟨h, trivial⟩
  | _ => exact ⟨hx, hx⟩

theorem matrixRun {c : MatrixCmd} {b : MBlock} : (s.matrixRun c b).1.s.Canon ∧ (s.matrixRun c b).2.Canon := by
  unfold State.matrixRun
  dsimp only
  split
  · exact h.whole rfl h.runMma
  · exact ⟨h.fillRegion, h.fillRegion⟩
  · exact h.whole rfl h.runMload
  · exact h.runMdrain
  · exact ⟨h.runHist, h.runHist⟩

theorem matrixAcquire {c : MatrixCmd} {b : MBlock} : (s.matrixAcquire c b).Canon :=
  canon_then (fun h => h.engineAcquire.acquireCore) h

theorem matrixRelease {c : MatrixCmd} {b : MBlock} : (s.matrixRelease c b).Canon := canon_then (fun h => h.releaseCore) h

theorem matrixStep {c : MatrixCmd} : Kept (s.matrixStep c) := by
  have acquired := h.matrixAcquire (c := c) (b := MBlock.of c.block)
  obtain ⟨sent, result⟩ := acquired.matrixRun (c := c) (b := MBlock.of c.block)
  have paid := pay (s := s.matrixAcquire c (MBlock.of c.block)) (e := c.ctx) (cls := 1) sent
  refine ite_keeps Kept h.matrixEnd ?_
  split
  · trivial
  next e => rw [e] at result; exact onFirst result
  next s' va parts e =>
    rw [e] at result
    have asked := pay (s := s.matrixAcquire c (MBlock.of c.block)) (e := c.ctx) (cls := 1)
      (engineAsk (t := noPackets s') (e := c.ctx) (cls := 1) (op := c.id) (va := va) (parts := parts) result)
    dsimp only
    split
    · exact acquired.onFirst
    next e => exact (asked _ e).onFirst
  next =>
    split
    · exact acquired.onFirst
    next e => exact (paid _ e).matrixDiscard
  next =>
    split
    · exact acquired.onFirst
    next e => exact ite_keeps Kept (paid _ e).matrixRelease.matrixEnd (paid _ e).matrixRelease.onFirst

theorem someParts {c : MatrixCmd} : (s.someParts c).1.s.Canon := by
  unfold State.someParts
  dsimp only
  split
  · refine drainWrites ?_
    exact h
  · refine localWrites ?_
    exact h
  · exact h
  · exact h
  · exact h

theorem partlyRun {c : MatrixCmd} : (s.partlyRun c).Canon := by
  unfold State.partlyRun
  split
  · exact h.getD (pay h.someParts)
  · refine foldl (fun _ _ h => h.localPoke) ?_
    exact h
  · exact h
  · exact h
  · exact h

theorem writeSome {ck : Nat} : (s.writeSome ck).Canon := by
  unfold State.writeSome
  split
  · exact h
  · exact canon_then (fun _ => h.someParts.onFirst) h

/-! ### The launch rings -/

theorem slotWrite {die asid va : Nat} {l : List Byte} : KeptSome (s.slotWrite die asid va l) := by
  have ht := h.translateDie (die := die) (asid := asid) (va := va)
  unfold State.slotWrite
  generalize s.translateDie die asid va = r at ht ⊢
  obtain ⟨t, x⟩ := r
  cases x with
  | leaf => exact keptSome_some (canon_then (fun h => h.homeWrite) ht)
  | replay => exact keptSome_none
  | absent => exact keptSome_some ht
  | malformed => exact keptSome_some ht
  | hole => exact keptSome_some ht

theorem enqueue {die asid n : Nat} {l : List Byte} : ∀ r, s.enqueue die asid n l = .ok r → r.1.Canon := by
  intro r e
  unfold State.enqueue at e
  dsimp only at e
  split at e
  · exact Except.ok.inj e ▸ h
  · split at e
    · cases e
    next w => exact Except.ok.inj e ▸ (h.slotWrite _ w).setQueue

end State.Canon
end Sys2Proof.Machine
end

section
/-!
PROOFS. The canonical form of memory, continued: packets of the causeway, what a departing die takes with it, resets,
and collectives.
-/

namespace Sys2Proof.Machine
open Sys2Proof

namespace State.Canon
variable {s : State} (h : s.Canon)
include h

/-! ### Packets -/

theorem onCommands {die : Nat} {f : CopyCmd → CopyCmd} {g : MatrixCmd → MatrixCmd} : (s.onCommands die f g).Canon :=
  (canon_else (c := (s.die die).colls.isEmpty = true) (fun h => h.setDie (k := die)
    (x := { s.die die with colls := (s.die die).colls.map fun x => (f x.1, x.2) })) h :)

theorem onCommand {die id : Nat} {f : CopyCmd → CopyCmd} {g : MatrixCmd → MatrixCmd} : (s.onCommand die id f g).Canon :=
  h.onCommands

theorem packetDone {p : Packet} : (s.packetDone p).Canon := by
  unfold State.packetDone
  split
  · exact h
  · exact h.onOwner.stirCtx
  · exact h.onCommand.stirCtx

theorem fillSectorOf {ck sector : Nat} {bytes : List Byte} : (s.fillSectorOf ck sector bytes).Canon :=
  canon_else (fun h => h.setSector) h

theorem warpReply {k die asid req : Nat} {bytes : List Byte} : (s.warpReply k die asid req bytes).Canon := by
  unfold State.warpReply
  dsimp only
  split
  · exact h.onOwner.stirCtx
  · refine canon_then (fun h => ?_) h.onOwner.stirCtx
    split
    · exact h.fillSectorOf
    · exact h

theorem commandReply {die id req : Nat} {bytes : List Byte} : (s.commandReply die id req bytes).Canon := h.onCommand

theorem prefetchReply {die req : Nat} {bytes : List Byte} : (s.prefetchReply die req bytes).Canon := by
  refine canon_ite h ?_
  split
  · exact h
  · exact canon_else (fun h => h.fillSectorOf) h.setCore

theorem waitAt {m : Monitor} : (s.waitAt m).Canon :=
  canon_then (fun h => canon_ite h.armMonitor.latch (canon_else (fun h => h.send) h.armMonitor)) h

theorem waitAnswer {m : Monitor} {x : Option Xword} : (s.waitAnswer m x).Canon := by
  cases x with
  | none => exact h.onWaiter
  | some => exact h.onWaiter

theorem perform {p : Packet} : (s.perform p).Canon := by
  unfold State.perform
  dsimp only
  split
  · exact h.homeWrite.packetDone
  · exact send (foldl (fun _ _ h => h.homeReadAll) h)
  · split
    · exact h.warpReply
    · exact h.commandReply
    · exact h.prefetchReply
  · exact send (homeAtomics (canon_then (fun h => foldl (fun _ _ h => h.pullAt) h) h))
  · exact send (homeCases (canon_then (fun h => foldl (fun _ _ h => h.pullAt) h) h))
  · split
    · exact h.warpReply
    · exact h.prefetchReply
  · exact packetDone (foldl (fun _ _ h => h.homeAtomic) h)
  · exact h.waitAt
  · exact h.waitAnswer
  · split
    · exact h.keepAt
    · exact h.fillLine.recallLine.send
  · exact h.packetDone
  · exact h.packetDone
  all_goals exact h

theorem arrive {src dst : Nat} : (s.arrive src dst).Canon := by
  unfold State.arrive
  split
  · exact h
  · exact canon_then (fun h => h) h

theorem malformedAt {p : Packet} : (s.malformedAt p).Canon := canon_then (fun h => h.kill) (canon_then (fun h => h.setDie) h)

theorem stirSender {p : Packet} : (s.stirSender p).Canon := canon_then (fun h => h.stirCtx) h

theorem deliverBy {perform : State → Packet → State} (hp : ∀ s p, State.Canon s → (perform s p).Canon) {src dst : Nat} :
    (s.deliverBy perform src dst).Canon := by
  unfold State.deliverBy
  split
  · exact h
  · refine canon_then (fun h => ?_) h
    refine canon_ite (malformedAt ?_) (stirSender (hp _ _ ?_))
    · exact h
    · exact h

theorem deliverNext {perform : State → Packet → State} (hp : ∀ s p, State.Canon s → (perform s p).Canon) {i j : Nat} :
    KeptSome (s.deliverNext perform i j) := by
  unfold State.deliverNext
  dsimp only
  split
  · exact keptSome_none
  · exact ite_keeps KeptSome (keptSome_some (h.arrive.deliverBy hp)) keptSome_none

omit h in
theorem bind {o : Option State} {f : State → Option State} (ho : KeptSome o) (hf : ∀ s, s.Canon → KeptSome (f s)) :
    KeptSome (o.bind f) := by
  cases o with
  | none => exact keptSome_none
  | some t => exact hf t (ho t rfl)

theorem drainChannel {perform : State → Packet → State} (hp : ∀ s p, State.Canon s → (perform s p).Canon) {i j : Nat} :
    KeptSome (s.drainChannel perform i j) :=
  foldl_keeps KeptSome (fun _ _ ho => bind ho fun _ h => h.deliverNext hp) (keptSome_some h)

theorem atOnce {perform : State → Packet → State} (hp : ∀ s p, State.Canon s → (perform s p).Canon) {p : Packet} :
    KeptSome (s.atOnce perform p) := ite_keeps KeptSome keptSome_none (h.send.drainChannel hp)

theorem readAtOnce {i a asid pa n : Nat} {acquire : Bool} : KeptSome (s.readAtOnce i a asid pa n acquire) := by
  refine ite_keeps KeptSome keptSome_none (bind (h.fresh.atOnce fun _ _ h => h.perform) fun _ h => ?_)
  exact ite_keeps KeptSome (h.drainChannel fun _ _ h => h.perform) keptSome_none

/-! ### A die that departs -/

theorem owePeer {k die asid kind agent : Nat} : (s.owePeer k die asid kind agent).Canon := canon_ite h.onOwner h.ctxEvent

theorem loseLoads {k die asid agent : Nat} {gone : LoadReq → Bool} : (s.loseLoads k die asid agent gone).Canon := by
  unfold State.loseLoads
  split
  · exact h
  · exact canon_ite h (canon_ite (stirCtx (onOwner (foldl (fun _ _ h => h.ctxEvent) h))) h.onOwner.stirCtx)

theorem loseMonitor {k agent : Nat} {m : Monitor} : (s.loseMonitor k m agent).Canon := by
  unfold State.loseMonitor
  dsimp only
  split
  · split
    · exact canon_ite h.setWarp.takeTrap h.onOwner
    · exact h.onOwner
  · exact h.onOwner
  · exact h

theorem loseWaiter {m : Monitor} {agent : Nat} : (s.loseWaiter m agent).Canon := by
  unfold State.loseWaiter
  split
  · exact h.loseMonitor
  · exact h

theorem loseCommand {die id agent va : Nat} {wrote first : Bool} : (s.loseCommand die id agent va wrote first).Canon := by
  unfold State.loseCommand
  dsimp only
  split
  · exact canon_then (fun h => h.matrixFault) h.onCommand
  · exact h.onCommand

theorem loseRead {p : Packet} {agent req : Nat} : (match p.warp with
    | some k => s.loseLoads k p.src p.asid agent fun q => q.req == req
    | none => s).Canon := by
  split
  · exact h.loseLoads
  · exact h

theorem discarded {agent : Nat} {p : Packet} {first : Bool} : (s.discarded agent p first).Canon := by
  unfold State.discarded
  dsimp only
  split
  · split
    · exact packetDone (canon_then (fun h => h.owePeer) h)
    · exact h.loseCommand
    · exact h
  · split
    · exact packetDone (canon_then (fun h => h.owePeer) h)
    · exact h.loseCommand
    · exact h
  · split
    · exact h.loseCommand
    · exact h.loseRead
  · split
    · exact (canon_then (fun h => h.owePeer) h).loseLoads
    · exact h
  · split
    · exact (canon_then (fun h => h.owePeer) h).loseLoads
    · exact h
  · exact canon_then (fun h => h.loseWaiter) h
  · exact h
  · exact h.packetDone
  · exact h.packetDone
  all_goals exact h

theorem loseReplies {die : Nat} : (s.loseReplies die).Canon :=
  foldl (fun _ _ h => h.loseCommand) (foldl (fun _ _ h => h.loseLoads) h)

theorem loseMonitors {die : Nat} : (s.loseMonitors die).Canon := foldl (fun _ _ h => h.loseWaiter) h.setDie

theorem discardAll {die : Nat} {seen l : List Packet} : (s.discardAll die seen l).Canon := by
  induction l generalizing s seen with
  | nil => exact h
  | cons p r ih => exact ih h.discarded.stirSender

omit h in
theorem releaseHeld {perform : State → Packet → State} (hp : ∀ s p, State.Canon s → (perform s p).Canon) {fuel : Nat}
    {from_ : Option Nat}
    {s : State} (h : s.Canon) : (State.releaseHeld perform fuel s from_).Canon := by
  induction fuel generalizing s with
  | zero => exact h
  | succ fuel ih => exact ih (foldl (fun _ _ h => h.deliverBy hp) h)

theorem killDie {die reason : Nat} : (s.killDie die reason).Canon := foldl (fun _ _ h => h.kill) h

omit h in
theorem depart {perform : State → Packet → State} (hp : ∀ s p, State.Canon s → (perform s p).Canon) {die reason : Nat}
    {s : State}
    (h : s.Canon) : (State.depart perform s die reason).Canon := by
  refine canon_ite h (canon_ite h.killDie (killDie (hostEvent
    (foldl (fun _ _ h => h.ctxEvent) (loseMonitors (loseReplies (discardAll ?_)))))))
  exact releaseHeld hp (releaseHeld hp h.setDie)

theorem reinitDie {die : Nat} : (s.reinitDie die).Canon := memory_filter_wf _ _ h

omit h in
theorem resetDie {perform : State → Packet → State} (hp : ∀ s p, State.Canon s → (perform s p).Canon) {die : Nat} {s : State}
    (h : s.Canon) : (State.resetDie perform s die).Canon := by
  unfold State.resetDie
  split
  · exact reinitDie (depart hp h)
  · exact h
  · exact h

theorem reenable {rejoin : Option Nat} : (s.reenable rejoin).Canon := by
  have live : (match rejoin with
      | some d => ({ s with cway := { s.cway with reseal := .normal } } : State).setDie d
          { ({ s with cway := { s.cway with reseal := .normal } } : State).die d with departed := false, renewed := false }
      | none => { s with cway := { s.cway with reseal := .normal } }).Canon := by
    split
    · refine setDie ?_
      exact h
    · exact h
  unfold State.reenable
  dsimp only at live ⊢
  split
  · refine answer ?_
    exact live
  · exact live

/-! ### Collectives -/

theorem onColl {die id : Nat} {f : CopyCmd → CopyCmd} : (s.onColl die id f).Canon := h.setDie

theorem endColl {c : CopyCmd} {fault : Option (Nat × Nat)} : (s.endColl c fault).Canon := h.setDie.finishCopy

theorem abandonColl {c : CopyCmd} : (s.abandonColl c).Canon := h.setDie.statusWrite.onOwner

theorem earliness {mates : List CopyCmd} {late : Nat} : (s.earliness mates late).Canon := h.earlinessOf

theorem abandonAll {c : CopyCmd} : (s.abandonAll c).Canon :=
  canon_ite h (foldl (fun _ _ h => h.abandonColl) h.lateOutside.earliness)

theorem failColl {mates : List CopyCmd} {die cause va : Nat} : (s.failColl mates die cause va).Canon :=
  foldl (fun _ _ h => canon_ite h.endColl h.abandonColl) h

theorem keepInput {c : CopyCmd} {l : List Nat} : (s.keepInput c l).Canon := h.setDie

theorem collInput {c : CopyCmd} : (s.collInput c).Canon := by
  refine engList_canon (fun _ x h => ?_) (canon_then (fun h => h.engineAcquire) h)
  cases x with
  | none => exact h
  | some => exact h.engineBytes.bind fun _ _ h => h

theorem collEvents {c : CopyCmd} {vals : List (Option Nat)} : (s.collEvents c vals).Canon := by
  refine Eng.Canon.bind (engList_canon (fun _ x h => ?_) h) fun _ _ h => h
  split
  · exact h.engineSpan.bind fun _ _ h => h
  · exact h

end State.Canon

/-- What a gathering answers leaves memory in its canonical form. -/
def KeptPair : Host.Outcome (State × Bool) Fault Refusal → Prop
  | .next r => r.1.Canon
  | .fault _ | .refused _ => True

namespace State.Canon
variable {s : State} (h : s.Canon)
include h

theorem collGather {mates : List CopyCmd} {l : List (CopyCmd × Option (List Nat))} {late : Nat} :
    KeptPair (s.collGather mates l late) := by
  induction l generalizing s with
  | nil => exact h
  | cons x r ih =>
    obtain ⟨c, x⟩ := x
    cases x with
    | some => exact ih h
    | none =>
      have input := h.collInput (c := c)
      unfold State.collGather
      generalize s.collInput c = y at input ⊢
      cases y with
      | go => exact ih (keepInput input)
      | pause => exact onColl input
      | fail => exact failColl (earliness input)
      | hole => trivial
      | need s' va parts =>
        have asked := engineAsk (t := { s := s', cost := 0, dsts := [] }) (e := c.ctx c.fetched) (cls := 2) (op := c.id)
          (va := va)
          (parts := parts) input
        have paid := pay (s := s) (e := c.ctx c.fetched) (cls := 2) asked
        dsimp only
        split
        · exact h.onColl
        next e => exact (paid _ e).onColl

theorem collSpread {mates : List (CopyCmd × List Nat)} : (s.collSpread mates).1.Canon := by
  refine foldl_keeps (fun r : State × List (CopyCmd × Nat) => r.1.Canon) (fun r x h => ?_) h
  have sent := foldl_keeps (fun t : Sent => t.s.Canon) (r := { s := r.1, cost := 0, dsts := [] })
    (l := mates.filter fun m => m.1.die ≠ x.1.die && !r.1.gone m.1.die)
    (f := fun t m => (pieces ((x.1.contributed x.2).flatMap fun v => leBytes (tyBytes x.1.collTy) v)).foldl (fun t l =>
      t.packet (mkPacket x.1.die m.1.die 2 x.1.asid (.contribution l) none (some x.1.id))) t)
    (fun _ _ h => foldl_keeps (fun t : Sent => t.s.Canon) (fun _ _ h => packet h) h) h
  have paid := pay (s := r.1) (e := x.1.ctx []) (cls := 2) sent
  dsimp only
  split
  · exact h
  next e => exact (paid _ e).onColl

omit h in
theorem engineWrites {t : Sent} (h : t.s.Canon) {e : EngineCtx} {cls op : Nat} {bypass : Bool} {l : List EngEvent} :
    (l.foldl (fun t b => t.engineWrite e cls op bypass b) t).s.Canon :=
  foldl_keeps (fun t : Sent => t.s.Canon) (fun _ _ h => engineWrite h) h

theorem someResults {op root : Nat} {inputs : List (Nat × List Nat)} {c : CopyCmd} :
    (s.someResults op root inputs c).Canon := by
  refine getD ?_ (pay (engineWrites ?_))
  · exact h
  · exact h

theorem collPlan {op root : Nat} {inputs : List (Nat × List Nat)} {l : List CopyCmd} : (s.collPlan op root inputs l).1.Canon ∧
    ∀ m x, (s.collPlan op root inputs l).2.1 = some (m, x) → x.Canon := by
  induction l generalizing s with
  | nil => exact ⟨h, fun _ _ e => nomatch e⟩
  | cons c r ih =>
    have events := h.collEvents (c := c) (vals := collVals op root inputs c)
    unfold State.collPlan
    generalize s.collEvents c (collVals op root inputs c) = y at events ⊢
    cases y with
    | go => exact ih events
    | hole => exact ⟨h, fun _ _ e => by cases e; trivial⟩
    | pause => exact ⟨events, fun _ _ e => by cases e; exact events⟩
    | fail => exact ⟨events, fun _ _ e => by cases e; exact events⟩
    | need => exact ⟨events, fun _ _ e => by cases e; exact events⟩

theorem collShort {r : State × List (CopyCmd × Nat)} (hr : r.1.Canon) : (s.collShort r).Canon := by
  unfold State.collShort
  split
  · exact hr
  · exact foldl (fun _ _ h => h.onColl) h

theorem collWrite {l : List (CopyCmd × List EngEvent)} : (s.collWrite l).1.Canon := by
  refine foldl_keeps (fun r : State × List (CopyCmd × Nat) => r.1.Canon) (fun r x h => ?_) h
  have paid := pay (s := r.1) (e := x.1.ctx []) (cls := 2)
    (engineWrites (t := { s := r.1, cost := 0, dsts := [] }) (e := x.1.ctx []) (cls := 2) (op := x.1.id)
      (bypass := false) (l := x.2) h)
  dsimp only
  split
  · exact h
  next e => exact (paid _ e).onColl

theorem collFinish {c : CopyCmd} : Kept (s.collFinish c) := by
  refine ite_keeps Kept h.endColl ?_
  have targets := h.counterTargets (e := c.ctx []) (va := c.counter)
  dsimp only
  generalize s.counterTargets (c.ctx []) c.counter = y at targets ⊢
  cases y with
  | pause => exact onColl targets
  | fail => exact endColl targets
  | need => exact targets
  | hole => trivial
  | go s' pas =>
    have counted := foldl_keeps (fun t : Sent => t.s.Canon) (r := { s := s', cost := 0, dsts := [] }) (l := pas)
      (f := fun t pa => t.countAt (c.ctx []) 2 c.id c.counter c.add pa) (fun _ _ h => countAt h) targets
    have paid := pay (s := s) (e := c.ctx []) (cls := 2) counted
    dsimp only
    split
    · exact h.onColl
    next e => exact ite_keeps Kept (paid _ e).endColl (paid _ e).onColl

theorem collStart {c : CopyCmd} {mates : List (CopyCmd × Option (List Nat))} {late : Nat} :
    Kept (s.collStart c mates late) := by
  refine ite_keeps Kept (foldl (fun _ _ h => h.abandonColl) h.earliness) ?_
  have gathered := h.collGather (mates := mates.map Prod.fst) (l := mates) (late := late)
  split
  next e => trivial
  next e => trivial
  next e => rw [e] at gathered; exact gathered
  next e =>
    rw [e] at gathered
    have base : State.Canon _ := gathered
    exact ite_keeps Kept (base.collShort base.collSpread) (foldl (fun _ _ h => h.endColl) base.freeNat.earliness)

theorem collEnd {c : CopyCmd} {mates : List (CopyCmd × Option (List Nat))} {others : List OutsideBox} {late : Nat} :
    Kept (s.collEnd c mates others late) := by
  unfold State.collEnd
  dsimp only
  split
  · exact h
  next inputs _ =>
    obtain ⟨planned, stopped⟩ := h.collPlan (op := fld c.collWord 0 3) (root := fld c.collWord 8 4) (inputs := inputs)
      (l := mates.map Prod.fst)
    split
    next => exact canon_ite h.collWrite.earliness (h.collShort h.collWrite)
    next e =>
      have base := stopped _ _ (congrArg (fun r => r.2.1) e)
      exact onColl base
    next e =>
      have base := stopped _ _ (congrArg (fun r => r.2.1) e)
      refine failColl (earliness (foldl (fun _ _ h => h.someResults) ?_))
      exact base
    next => trivial
    next e => exact canon_of_fst planned e
    next e => exact canon_of_fst planned e

end State.Canon
end Sys2Proof.Machine
end

section
/-!
PROOFS. The canonical form of memory, continued: clocks and limits, chains, page tables and fetches.
-/

namespace Sys2Proof.Machine
open Sys2Proof

namespace State.Canon
variable {s : State} (h : s.Canon)
include h

/-! ### Clocks and limits -/

theorem setPoint {die cl k : Nat} : (s.setPoint die cl k).Canon :=
  canon_ite h.setDie (canon_else (fun h => h.setCluster) h.setDie)

theorem releasePoints {die : Nat} : (s.releasePoints die).Canon := canon_ite h (foldl (fun _ _ h => h.setCluster) h.setDie)

theorem pinHold {die cl : Nat} : (s.pinHold die cl).Canon := canon_else (fun h => h.setPoint) h

theorem wakeCluster {die cl : Nat} : (s.wakeCluster die cl).Canon := canon_ite h.setCluster.pinHold h.setCluster.setPoint

theorem choosePoint {die cl : Nat} : (s.choosePoint die cl).Canon :=
  canon_ite h.pinHold (canon_else (fun h => canon_else (fun h => h.setCluster.setPoint) h) h)

theorem markSample {key : Nat} : (s.markSample key).Canon := canon_else (fun h => h.setCluster) h

theorem refloor : s.refloor.Canon := by
  refine foldl (fun _ _ h => canon_else (fun h => h.setCtx.ctxEvent) h) ?_
  exact h

theorem writePcap {v : Xword} : (s.writePcap v).Canon := by
  unfold State.writePcap
  dsimp only
  split <;> exact h

theorem writePrate {v : Xword} : (s.writePrate v).Canon := by
  unfold State.writePrate
  dsimp only
  split <;> exact h

theorem writePstat {v : Xword} : (s.writePstat v).Canon := h

theorem writePfloor {die asid : Nat} {v : Xword} : (s.writePfloor die asid v).Canon := h.setCtx

theorem writeClkreq {die cl : Nat} {v : Xword} : (s.writeClkreq die cl v).Canon := by
  unfold State.writeClkreq
  dsimp only
  split
  · exact h.setCluster.pinHold
  · exact h.setCluster
  · exact h.setCluster

/-! ### Chains -/

theorem applyCeil {die : Nat} : (s.applyCeil die).Canon :=
  foldl (fun _ _ h => canon_ite h (canon_ite h.pinHold (canon_else (fun h => h.choosePoint) h))) h.setDie

theorem onMember {die id : Nat} {f : ChainMember → ChainMember} : (s.onMember die id f).Canon := h.setDie

theorem countLate {die effect : Nat} : (s.countLate die effect).Canon := canon_then (fun h => h.setDie.applyCeil) h

theorem takeEntry {die : Nat} {m : ChainMsg} : (s.takeEntry die m).Canon := h.onMember.countLate

theorem takeJoin {die : Nat} {m : ChainMsg} : (s.takeJoin die m).Canon := h.setDie.countLate

theorem takeSnapshot {die : Nat} {m : ChainMsg} : (s.takeSnapshot die m).Canon :=
  canon_ite h (countLate (onMember (canon_else (fun h => h.setDie) h)))

theorem tellRemoval {die id : Nat} : (s.tellRemoval die id).Canon := foldl (fun _ _ h => h.ctxEvent) h.hostEvent

theorem takeRemoval {die : Nat} {m : ChainMsg} : (s.takeRemoval die m).Canon := canon_then (fun h => h.tellRemoval) h.onMember

theorem chainTake {die : Nat} {m : ChainMsg} : (s.chainTake die m).Canon := by
  refine canon_ite h (onMember ?_)
  split
  · exact h.takeEntry
  · exact h.takeJoin
  · exact h.takeSnapshot
  · exact h.onMember
  · exact h.takeRemoval

theorem post {dest : Nat} {m : ChainMsg} : (s.post dest m).Canon := by
  unfold State.post
  split
  · exact h.chainTake
  · exact h

theorem chainReceive {die : Nat} {m : ChainMsg} : (s.chainReceive die m).Canon :=
  canon_then (fun h => foldl (fun _ _ h => h.post) h) h.chainTake

theorem chainWords {die : Nat} {w0 w1 w2 w3 : Xword} : (s.chainWords die w0 w1 w2 w3).Canon := by
  unfold State.chainWords
  split
  · exact h.setDie
  · exact h.chainReceive

theorem chainSend {die : Nat} {m : ChainMsg} : (s.chainSend die m).Canon := foldl (fun _ _ h => h.post) h

theorem ceilChanged {die : Nat} : (s.ceilChanged die).Canon := canon_ite h.chainSend.applyCeil h.applyCeil

theorem writeClkdie {die : Nat} {v : Xword} : (s.writeClkdie die v).Canon :=
  canon_ite h.setDie (canon_ite h.setDie h.setDie.ceilChanged)

theorem retime {die : Nat} {shift : Int} : (s.retime die shift).Canon := h.setDie

theorem chainShift {die via : Nat} : (s.chainShift die via).2.Canon := by
  unfold State.chainShift
  split
  · exact h
  · split
    · exact h
    · exact h.freeNat.freeNat

theorem sendJoin {via : Nat} {through : Option Nat} {m : ChainMsg} : (s.sendJoin via through m).Canon := by
  refine foldl (fun _ _ h => h.chainReceive) ?_
  split
  · exact h
  · exact foldl (fun _ _ h => h.post) h

theorem joinChain {die via j : Nat} : KeptSome (s.joinChain die via j) :=
  ite_keeps KeptSome keptSome_none (keptSome_some (canon_else (fun h => h.sendJoin) h.chainShift.retime.setDie))

theorem leaveChain {die l : Nat} : (s.leaveChain die l).Canon := h.chainSend

/-! ### Page tables -/

theorem flushRange {die : Nat} {range : Nat × Nat} : (s.flushRange die range).Canon :=
  foldl (fun _ _ h => foldl (fun _ _ h => h.pushLine) (foldl (fun _ _ h => h.writeBackSector) h)) h

theorem writeLeaf {die asid va at_ w0 w1 : Nat} {page : Nat × Nat} : (s.writeLeaf die asid va at_ w0 w1 page).Canon :=
  h.flushRange.homeWrite.tlbRemove

theorem newTable {at_ level : Nat} {demand : Bool} : (s.newTable at_ level demand).Canon := h.homeWrite

theorem mapFrom {va target area w0 w1 fuel level table : Nat} :
    KeptSome (s.mapFrom va target area w0 w1 fuel level table) := by
  induction fuel generalizing s level table with
  | zero => exact keptSome_none
  | succ fuel ih =>
    refine ite_keeps KeptSome keptSome_none (ite_keeps KeptSome
      (ite_keeps KeptSome keptSome_none (keptSome_some h.homeWrite)) ?_)
    refine ite_keeps KeptSome (ite_keeps KeptSome keptSome_none (ih h.newTable.homeWrite)) ?_
    exact ite_keeps KeptSome keptSome_none (ih h)

theorem mapLeaf {die asid va level area w0 w1 : Nat} : KeptSome (s.mapLeaf die asid va level area w0 w1) := by
  refine ite_keeps KeptSome keptSome_none fun t e => ?_
  obtain ⟨u, mapped, rfl⟩ := Option.map_eq_some_iff.1 e
  exact (h.mapFrom u mapped).tlbRemove

/-! ### Fetches -/

theorem fetchHome {ck asid va pa : Nat} : (s.fetchHome ck asid va pa).1.Canon := by
  refine ite_keeps (fun r : State × Fetched => r.1.Canon) ?_ h
  dsimp only
  split
  · exact h.setCore
  · exact h.setCore.freeNat

theorem fetchWord {ck asid va : Nat} : (s.fetchWord ck asid va).1.Canon := by
  have ht := h.translate (ck := ck) (asid := asid) (va := va)
  unfold State.fetchWord
  generalize s.translate ck asid va = r at ht ⊢
  obtain ⟨t, x⟩ := r
  split
  · exact h
  · exact h
  · exact h
  · exact h
  · cases x with
    | leaf => exact ite_keeps (fun r : State × Fetched => r.1.Canon) ht (fetchHome ht)
    | _ => exact ht

theorem fetchAhead {ck asid : Nat} : (s.fetchAhead ck asid).Canon := h.freeNat.fetchWord

theorem fetchInstr {ck asid va : Nat} : (s.fetchInstr ck asid va).1.Canon := by
  have first := h.fetchWord (ck := ck) (asid := asid) (va := va)
  unfold State.fetchInstr
  generalize s.fetchWord ck asid va = r at first ⊢
  obtain ⟨t, x⟩ := r
  cases x with
  | word w =>
    refine ite_keeps (fun r : State × FetchedInstr => r.1.Canon) ?_ first
    have second := fetchWord (s := t) first (ck := ck) (asid := asid) (va := (va + 4) % 2 ^ 64)
    generalize t.fetchWord ck asid ((va + 4) % 2 ^ 64) = q at second ⊢
    obtain ⟨u, y⟩ := q
    cases y <;> exact second
  | _ => exact first

theorem repTrap {cause : Nat} {info : Xword} {target : Bool} : (s.repTrap cause info target).Canon :=
  ite_keeps Effect.Canon h h

theorem branchAll {c : Cur} {w : Warp} {t : Xword} : (s.branchAll c w t).Canon := h.setWarp

theorem linkAll {c : Cur} {w : Warp} {t : Xword} : (s.linkAll c w t).Canon := h.setWarp

theorem pastEnd {w : Warp} {stop : Xword} {k : State → Xword → Effect} (hk : ∀ s x, State.Canon s → (k s x).Canon) :
    (s.pastEnd w stop k).Canon := by
  have fetched := h.fetchInstr (ck := w.coreK) (asid := w.asid) (va := stop.toNat)
  unfold State.pastEnd
  split
  next e => exact (canon_of_fst fetched e).missStop
  next e => trivial
  next e => exact hk _ _ (canon_of_fst fetched e)

end State.Canon
end Sys2Proof.Machine
end

section
/-!
PROOFS. The canonical form of memory, continued: the front end, the placer, time and the special registers.
-/

namespace Sys2Proof.Machine
open Sys2Proof

/-! ### What the front end reads -/

/-- What a front-end read comes to leaves memory in its canonical form. -/
def FrontRead.Canon : FrontRead → Prop
  | .bytes s _ | .held s | .bad s => s.Canon

/-- So does a step of a prologue, -/
def ProStep.Canon : ProStep → Prop
  | .goes s _ | .fails s | .waits s => s.Canon
  | .exits => True

/-- what a prologue comes to, -/
def ProEnd.Canon : ProEnd → Prop
  | .ended s _ | .waits s => s.Canon

/-- and the reading of a schedule image. -/
def SchedRead.Canon : SchedRead → Prop
  | .image s _ | .held s | .bad s => s.Canon

namespace State.Canon
variable {s : State} (h : s.Canon)
include h

theorem frontPage {die asid va n : Nat} {acquire : Bool} : (s.frontPage die asid va n acquire).Canon := by
  refine ite_keeps FrontRead.Canon h ?_
  have ht := h.translateDie (die := die) (asid := asid) (va := va)
  generalize s.translateDie die asid va = r at ht ⊢
  obtain ⟨t, x⟩ := r
  cases x with
  | replay => exact ht.recordFault
  | absent => exact ht
  | malformed => exact ht
  | hole => exact ht
  | leaf l =>
    refine ite_keeps FrontRead.Canon ht (ite_keeps FrontRead.Canon (homeReadAll ht) ?_)
    split
    · exact ht
    next e => exact readAtOnce ht _ e

theorem frontBytes {fuel die asid va n : Nat} : (s.frontBytes fuel die asid va n).Canon := by
  induction fuel generalizing s va n with
  | zero => exact h
  | succ fuel ih =>
    refine ite_keeps FrontRead.Canon h ?_
    have page := h.frontPage (die := die) (asid := asid) (va := va) (n := min n (2 ^ 16 - va % 2 ^ 16)) (acquire := false)
    generalize s.frontPage die asid va (min n (2 ^ 16 - va % 2 ^ 16)) false = r at page ⊢
    cases r with
    | held => exact page
    | bad => exact page
    | bytes t l =>
      refine ite_keeps FrontRead.Canon page ?_
      have rest := ih page (va := va + min n (2 ^ 16 - va % 2 ^ 16)) (n := n - min n (2 ^ 16 - va % 2 ^ 16))
      generalize t.frontBytes fuel die asid (va + min n (2 ^ 16 - va % 2 ^ 16))
        (n - min n (2 ^ 16 - va % 2 ^ 16)) = q at rest ⊢
      cases q <;> exact rest

theorem stopQueue {die n : Nat} : (s.stopQueue die n).Canon := h.setQueue.ctxEvent

/-! ### Prologues -/

theorem proRun {w : Warp} {pc next : Nat} {f : State → Host.Outcome State Fault Refusal} : (s.proRun w pc next f).Canon := by
  unfold State.proRun
  dsimp only
  split
  · split
    · split <;> exact h
    · exact h
  · exact h
  · exact h

theorem proWait {w : Warp} {next : Nat} {wide : Bool} {d a : SReg} : (s.proWait w next wide d a).Canon := by
  refine ite_keeps ProStep.Canon h ?_
  have page := h.frontPage (die := w.die) (asid := w.asid) (va := (w.s a).toNat) (n := if wide then 8 else 4)
    (acquire := true)
  generalize s.frontPage w.die w.asid (w.s a).toNat (if wide then 8 else 4) true = r at page ⊢
  cases r <;> exact page

theorem proWord {die asid va : Nat} : (s.proWord die asid va).Canon := by
  refine ite_keeps FrontRead.Canon h ?_
  have ht := h.translateDie (die := die) (asid := asid) (va := va)
  generalize s.translateDie die asid va = r at ht ⊢
  obtain ⟨t, x⟩ := r
  cases x with
  | leaf => exact ite_keeps FrontRead.Canon (frontPage ht) ht
  | replay => exact ht.recordFault
  | absent => exact ht
  | malformed => exact ht
  | hole => exact ht

theorem proFetch {die asid pc : Nat} : (s.proFetch die asid pc).1.Canon := by
  have first := h.proWord (die := die) (asid := asid) (va := pc)
  unfold State.proFetch
  generalize s.proWord die asid pc = r at first ⊢
  cases r with
  | held => exact first
  | bad => exact first
  | bytes t l =>
    refine ite_keeps (fun r : State × Option FetchedInstr × Bool => r.1.Canon) ?_ first
    have second := proWord (s := t) first (die := die) (asid := asid) (va := pc + 4)
    generalize t.proWord die asid (pc + 4) = q at second ⊢
    cases q <;> exact second

theorem proStep {w : Warp} : (s.proStep w).Canon := by
  have fetched := h.proFetch (die := w.die) (asid := w.asid) (pc := ((w.lane 0).pc).toNat)
  unfold State.proStep
  dsimp only
  split
  next e => rw [e] at fetched; exact fetched
  next e => rw [e] at fetched; exact fetched
  next e =>
    rw [e] at fetched
    have base : State.Canon _ := fetched
    split
    · trivial
    · exact base.proWait
    · split
      · exact base.proRun
      · exact base

theorem proLoop {fuel : Nat} {w : Warp} : (State.proLoop fuel s w).Canon := by
  induction fuel generalizing s w with
  | zero => exact h
  | succ fuel ih =>
    have stepped := h.proStep (w := w)
    unfold State.proLoop
    generalize s.proStep w = r at stepped ⊢
    cases r with
    | exits => exact h
    | fails => exact stepped
    | waits => exact stepped
    | goes => exact ih stepped

theorem readSched {l : Launch} : (s.readSched l).Canon := by
  refine ite_keeps SchedRead.Canon h ?_
  have count := h.frontBytes (fuel := 2) (die := l.die) (asid := l.asid) (va := l.schedVa) (n := 4)
  generalize s.frontBytes 2 l.die l.asid l.schedVa 4 = r at count ⊢
  cases r with
  | held => exact count
  | bad => exact count
  | bytes t c =>
    refine ite_keeps SchedRead.Canon count ?_
    have entries := frontBytes (s := t) count (fuel := 4 * leNat c / 2 ^ 16 + 2) (die := l.die) (asid := l.asid)
      (va := l.schedVa + 4)
      (n := 4 * leNat c)
    generalize t.frontBytes (4 * leNat c / 2 ^ 16 + 2) l.die l.asid (l.schedVa + 4) (4 * leNat c) = q at entries ⊢
    cases q <;> exact entries

/-! ### Heads of queues -/

theorem checkLaunch {lid : Nat} : (s.checkLaunch lid).Canon := by
  unfold State.checkLaunch
  split
  · exact h
  next l _ =>
    refine canon_then (fun h => ?_) h
    split
    · exact h.endLaunch
    · have read := h.readSched (l := l)
      generalize s.readSched l = r at read ⊢
      cases r with
      | held => exact read
      | bad => exact endLaunch read
      | image => exact setLaunch read

theorem waitsigPa {l : Launch} : (s.waitsigPa l).1.Canon := by
  refine ite_keeps (fun r : State × Option Nat => r.1.Canon) h ?_
  have ht := h.translateDie (die := l.die) (asid := l.asid) (va := l.waitsig)
  generalize s.translateDie l.die l.asid l.waitsig = r at ht ⊢
  obtain ⟨t, x⟩ := r
  cases x with
  | replay => exact ht.recordFault
  | _ => exact ht

theorem armWaitsig {lid : Nat} {l : Launch} : (s.armWaitsig lid l).Canon := by
  have placed := h.waitsigPa (l := l)
  unfold State.armWaitsig
  split
  next e => exact canon_of_fst placed e
  next e =>
    have base := canon_of_fst placed e
    exact canon_ite (canon_ite base.fresh.armMonitor.setLaunch (canon_then (fun h => h.setLaunch) base.fresh.armMonitor))
      base.fresh.setLaunch.send

theorem watchHead {lid : Nat} : (s.watchHead lid).Canon := by
  unfold State.watchHead
  split
  · exact h
  · refine canon_else (fun h => canon_ite h.setLaunch (canon_ite h.pullAll.setLaunch ?_)) h
    exact canon_else (fun h => h.armWaitsig) h

theorem advanceHead {lid : Nat} : (s.advanceHead lid).Canon := h.checkLaunch.watchHead

/-! ### The placer -/

theorem shiftWaits {die asid : Nat} : (s.shiftWaits die asid).Canon := h

/-- The cores of a cluster start clean for their context. -/
theorem clearCores {cores : List Nat} :
    (cores.foldl (fun s ck => s.setCore ck { (s.core ck).cleared with lastAuto := none }) s).Canon :=
  foldl (fun _ _ h => h.setCore) h

theorem takeCluster {die cl asid : Nat} : (s.takeCluster die cl asid).Canon := by
  have shifted : (if (s.clustersOf die asid).isEmpty then s.shiftWaits die asid else s).Canon :=
    canon_then (fun h => h.shiftWaits) h
  unfold State.takeCluster
  generalize (if (s.clustersOf die asid).isEmpty then s.shiftWaits die asid else s) = t at shifted ⊢
  exact canon_else (fun _ => shifted.clearCores.setCluster.wakeCluster) h

theorem seatWorkgroup {l : Launch} {gid g cl c m : Nat} : (s.seatWorkgroup l gid g cl c m).Canon := by
  refine acquireCore (setCore ?_)
  exact foldl (fun _ _ h => h.setWarp) h

theorem placeGang {lid : Nat} {l : Launch} {w : Nat × Nat × Nat} : (s.placeGang lid l w).Canon :=
  setLaunch (foldl (fun _ _ h => h.seatWorkgroup) h.takeCluster.fresh.setGang)

theorem placeAll {fuel lid : Nat} : (State.placeAll fuel s lid).1.Canon := by
  induction fuel generalizing s with
  | zero => exact h
  | succ fuel ih =>
    unfold State.placeAll
    split
    · exact h
    · refine ite_keeps (fun r : State × Bool => r.1.Canon) h ?_
      split
      · exact h
      · exact ih h.placeGang

theorem launchPlaced {lid : Nat} : (s.launchPlaced lid).Canon := by
  unfold State.launchPlaced
  split
  · exact h
  · exact canon_then (fun h => checkTriggered (canon_else (fun h => h.setQueue) h.setLaunch)) h

theorem reserve {lid : Nat} : (s.reserve lid).Canon := by
  unfold State.reserve
  split
  · exact h
  · refine canon_else (fun h => ?_) h
    dsimp only
    split
    · exact h
    · exact h.setLaunch

theorem countPass {blocked : List Nat} : (s.countPass blocked).Canon := by
  refine foldl (fun s k h => ?_) h
  split
  · exact h
  · exact canon_then (fun h => h.reserve) h.setLaunch

theorem placeEach {fuel lid : Nat} {blocked : List Nat} : (State.placeEach fuel s blocked lid).1.Canon := by
  induction fuel generalizing s with
  | zero => exact h
  | succ fuel ih =>
    unfold State.placeEach
    split
    · exact h
    · refine ite_keeps (fun r : State × Bool => r.1.Canon) h ?_
      split
      · exact ih h.placeGang.countPass
      · exact ite_keeps (fun r : State × Bool => r.1.Canon) h.setLaunch h.endLaunch

theorem placeHead {lid : Nat} {blocked : List Nat} : (s.placeHead blocked lid).1.Canon := by
  unfold State.placeHead
  split
  · exact h
  next l _ =>
    refine ite_keeps (fun r : State × List Nat => r.1.Canon) h (ite_keeps (fun r : State × List Nat => r.1.Canon) ?_ ?_)
    · have placed := h.placeAll (fuel := l.gangs + 1) (lid := lid)
      split
      next e => exact launchPlaced (foldl (fun _ _ h => h.countPass) (canon_of_fst placed e))
      next => exact h.endLaunch
    · exact h.placeEach.launchPlaced

theorem placerPass {die : Nat} : (s.placerPass die).Canon := by
  refine foldl_keeps (fun r : State × List Nat => r.1.Canon) (fun _ _ h => h.placeHead) ?_
  exact foldl (fun _ _ h => h.advanceHead) h

theorem retireLaunch {lid : Nat} : (s.retireLaunch lid).Canon := by
  unfold State.retireLaunch
  split
  · exact h
  · exact canon_then (fun h => h.endLaunch) h

theorem retireGang {g : Nat} {x : Gang} : (s.retireGang g x).Canon := by
  have unpinned := unpin (gangs := [g]) (foldl (l := List.range x.members)
    (f := fun s k => s.releaseCore (coreKey x.die (x.core + k)))
    (fun _ _ h => h.releaseCore) h)
  unfold State.retireGang
  dsimp only
  split
  · exact unpinned
  · refine retireLaunch (frontWrites (setLaunch ?_))
    exact unpinned

/-! ### Time and special registers -/

theorem advance {dt : Nat} : (s.advance dt).Canon := by
  refine foldl (f := State.releasePoints) (fun _ _ h => h.releasePoints) (foldl (fun _ _ h => h.setCtx) ?_)
  exact foldl (f := State.markSample) (fun _ _ h => h.markSample) h

theorem timePasses : s.timePasses.Canon := h.freeNat.advance

theorem startCluster : s.startCluster.Canon := canon_then (fun h => h) h

theorem passTime {w : Warp} {n : Nat} : (s.passTime w n).Canon := by
  unfold State.passTime
  dsimp only
  split
  · exact h.freeNat.setCluster
  · exact h.freeNat.advance
  · exact h.freeNat.advance
  · exact h.freeNat.advance
  · exact h

theorem setSpecial {k n : Nat} {w : Warp} {x : Xword} : (s.setSpecial k w n x).Canon := by
  unfold State.setSpecial
  dsimp only
  split
  case h_1 | h_4 | h_9 | h_10 => exact h.setCtx
  case h_13 => exact h
  all_goals exact h.setWarp

end State.Canon
end Sys2Proof.Machine
end

section
/-!
PROOFS. The canonical form of memory, continued: what the front end, the placer, the switches and F3 do.
-/

namespace Sys2Proof.Machine
open Sys2Proof

namespace State.Canon
variable {s : State} (h : s.Canon)
include h

/-! ### The front end's events -/

theorem headLaunchTake {die n : Nat} : Kept (execHeadLaunchTake die n s) := by
  refine ite_keeps Kept ?_ h
  have page := h.frontPage (die := die) (asid := (s.queue (queueKey die n)).asid)
    (va := (s.queue (queueKey die n)).ringSlot (s.queue (queueKey die n)).head.toNat) (n := 128) (acquire := false)
  dsimp only
  split
  next e => rw [e] at page; exact page
  next e => rw [e] at page; exact stopQueue page
  next e => rw [e] at page; exact setQueue (setLaunch (fresh page))

theorem prologueRun {die n : Nat} : Kept (execPrologueRun die n s) := by
  unfold execPrologueRun
  split
  · exact h
  · split
    · exact h
    next l _ =>
      refine ite_keeps Kept h ?_
      have ended := h.proLoop (fuel := 256) (w := l.proWarp)
      split
      next e => rw [e] at ended; exact ended
      next e => rw [e] at ended; exact endLaunch ended
      next e => rw [e] at ended; exact canon_then (fun h => h.endLaunch) (setLaunch ended)

theorem overflowMove {die n : Nat} : Kept (execOverflowMove die n s) := by
  refine ite_keeps Kept ?_ h
  have page := h.frontPage (die := die) (asid := (s.queue (queueKey die n)).asid)
    (va := (s.queue (queueKey die n)).ovfSlot (s.queue (queueKey die n)).ovfhead.toNat) (n := 128) (acquire := false)
  dsimp only
  split
  next e => rw [e] at page; exact page
  next e => rw [e] at page; exact stopQueue page
  next e =>
    rw [e] at page
    split
    · exact recordFault page
    next e => exact setQueue (slotWrite page _ e)

theorem waitsigSatisfied {die n : Nat} : Kept (execWaitsigSatisfied die n s) := by
  unfold execWaitsigSatisfied
  split
  · exact h
  · exact h.watchHead

theorem headGangAgeTimeout {die n : Nat} : Kept (execHeadGangAgeTimeout die n s) := by
  unfold execHeadGangAgeTimeout
  dsimp only
  split
  · exact h
  · split
    · exact canon_then (fun h => h.reserve) h
    · exact h

theorem gangRetire {g : Nat} : Kept (execGangRetire g s) := by
  unfold execGangRetire
  split
  · exact h
  · exact canon_then (fun h => h.retireGang) h

/-! ### Switches -/

theorem onWarps {die asid : Nat} {set : List Nat} {f : Warp → Warp} : (s.onWarps die asid set f).Canon := h

theorem setStage {die asid : Nat} {x : SwitchStage} : (s.setStage die asid x).Canon := h.setCtx

theorem drainLoads {k : Nat} {w : Warp} : (s.drainLoads k w).Canon := foldl (fun _ _ h => h.landLoad) h

theorem dropCommands {ck : Nat} : (s.dropCommands ck).Canon := by
  have stopped : (match (s.core ck).mq with
    | c :: _ => if s.canRun c && !c.ran then s.partlyRun c else s
    | [] => s).Canon := by
    split
    · exact canon_then (fun h => h.partlyRun) h
    · exact h
  unfold State.dropCommands
  dsimp only
  split
  · exact emptyMatrix stopped
  · exact stopped

theorem switchStop {die asid : Nat} {clusters : List Nat} : Kept (execSwitchStop die asid clusters s) :=
  ite_keeps Kept h h.setCtx

theorem switchDrain {die asid : Nat} : Kept (execSwitchDrain die asid s) := by
  refine ite_keeps Kept h (canon_then (fun h => h.setStage) (onWarps (foldl (fun _ _ h => h.dropCommands) ?_)))
  exact foldl (fun _ _ h => h.drainLoads) h

theorem switchWriteBack {die asid : Nat} : Kept (execSwitchWriteBack die asid s) := by
  refine ite_keeps Kept h (setStage (unpin ?_))
  exact foldl (fun _ _ h => h.releaseCore) h

/-- Bytes go to a place of a save area, where it has one. -/
theorem writePlace {o : Option Nat} {f : Nat → List (Nat × Byte)} : (match o with
    | some pa => s.homeWrite (f pa)
    | none => s).Canon := by
  split
  · exact h.homeWrite
  · exact h

theorem writeSaved {ck : Nat} {ws : SMap Warp} {gs : SMap Gang} {region : Nat × Gang → List Byte} {tables : SMap SchedTable} :
    (s.writeSaved ck ws gs region tables).Canon :=
  foldl (fun _ _ h => h.writePlace) (foldl (fun _ _ h => h.writePlace) h.writePlace)

theorem switchSave {die asid : Nat} : Kept (execSwitchSave die asid s) := by
  refine ite_keeps Kept h (writeSaved (setCtx ?_))
  exact h

theorem switchClear {die asid : Nat} : Kept (execSwitchClear die asid s) := by
  refine ite_keeps Kept h (setCtx ?_)
  exact foldl (fun _ _ h => setCluster (foldl (fun _ _ h => h.setCore) h)) h

/-- A gang of a table takes an update, where it is there. -/
theorem updateGang {k : Nat} {f : Gang → Gang} : (match mfind s.gangs k with
    | some g => s.setGang k (f g)
    | none => s).Canon := by
  split
  · exact h.setGang
  · exact h

theorem restoreWarp {c : Ctx} {k : Nat} {w : Warp} : (s.restoreWarp c k w).Canon := by
  refine canon_ite ?_ ?_
  · exact h.dropMonitors.updateGang.setWarp
  · exact h.setWarp

theorem restoreRegs {die asid : Nat} : (s.restoreRegs die asid).Canon := by
  unfold State.restoreRegs
  dsimp only
  split
  · exact canon_then (fun h => h.setCtx) h
  · exact h

theorem switchAdmit {die asid : Nat} : Kept (execSwitchAdmit die asid s) := by
  refine ite_keeps Kept h (setCtx (foldl (fun _ _ h => h.restoreWarp) (foldl (fun _ _ h => h.setCore.acquireCore)
    (foldl (fun _ _ h => h.setCore) ?_))))
  exact foldl (fun _ _ h => h.takeCluster) h.restoreRegs

/-! ### Kills, errors and recorded misses -/

theorem uncorrectableError {die address : Nat} {asids : List Nat} {place : ErrorPlace} :
    Kept (execUncorrectableError die asids place address s) := by
  unfold execUncorrectableError
  dsimp only
  split
  all_goals exact foldl (fun _ _ h => canon_then (fun h => h.kill) h) h

theorem unpause {die asid page : Nat} {f : CopyCmd → CopyCmd} : (s.unpause die asid page f).Canon := h.onCommands

theorem recordWaiting {die : Nat} : (s.recordWaiting die).Canon := by
  refine foldl (fun _ _ h => h.recordFault) (foldl (fun s e h => ?_) h)
  split
  · exact canon_ite h.recordFault.setWarp h.recordFault
  all_goals exact h

theorem freeRecord {die asid page : Nat} : (s.freeRecord die asid page).Canon := h.setDie.recordWaiting

theorem retryWrites {die : Nat} : (s.retryWrites die).Canon := by
  refine foldl (fun s e h => ?_) h
  split
  · exact h.drainLaunch
  · exact h

theorem backPage {die asid va level area w0 w1 : Nat} : KeptSome (s.backPage die asid va level area w0 w1) := by
  unfold State.backPage
  split
  · exact keptSome_some h
  all_goals exact ite_keeps KeptSome h.mapLeaf keptSome_none

theorem faultResolved {die asid : Nat} {page : MissEntry} {w0 w1 : Xword} :
    Kept (execFaultResolved die asid page w0 w1 s) := by
  unfold execFaultResolved
  dsimp only
  split
  · exact h
  next e =>
    have backed : State.Canon _ := ite_keeps KeptSome h.backPage keptSome_none _ e
    refine retryWrites (freeRecord (unpause ?_))
    exact canon_of_mem backed rfl

theorem xlateAt {k va : Nat} : (s.xlateAt k va).Canon := by
  unfold State.xlateAt
  dsimp only
  split
  · exact h.onWarp.takeTrap
  · exact h.onWarp

theorem attempt {f : State → Host.Outcome State Fault Refusal} (hf : Kept (f s)) : (s.attempt f).Canon := by
  unfold State.attempt
  split
  next e => rw [e] at hf; exact hf
  all_goals exact h

theorem frontUnbacked {die asid page : Nat} : (s.frontUnbacked die asid page).Canon := by
  refine setDie (retryWrites (foldl (fun s k h => ?_) (foldl (fun _ _ h => h.attempt h.overflowMove)
    (foldl (fun _ _ h => h.attempt h.headLaunchTake) h.setDie))))
  have run := h.attempt (h.prologueRun (die := die) (n := k % 256))
  dsimp only
  split
  · exact checkLaunch run
  · exact run

theorem faultUnresolvable {die asid page : Nat} : Kept (execFaultUnresolvable die asid page s) := by
  refine ite_keeps Kept (frontUnbacked (freeRecord (setCtx (foldl (fun _ _ h => h.xlateAt) ?_)))) h
  exact foldl (fun _ _ h => h.matrixDiscard) h.unpause

end State.Canon
end Sys2Proof.Machine
end

section
/-!
PROOFS. The canonical form of memory, continued: the host's side, its commands, the control aperture and resets.
-/

namespace Sys2Proof.Machine
open Sys2Proof

namespace State.Canon
variable {s : State} (h : s.Canon)
include h

/-! ### Commands -/

theorem takeCommand {rec : List Xword} {f : State → State} (hf : ∀ s, s.Canon → (f s).Canon) :
    Kept (s.takeCommand rec f) := by
  refine ite_keeps Kept h (canon_ite (answer ?told) (hf _ ?told))
  exact h

theorem command {rec : List Xword} {f : State → State × Nat × List Xword} (hf : ∀ s, s.Canon → (f s).1.Canon) :
    Kept (s.command rec f) :=
  h.takeCommand fun _ h => (hf _ h).answer

theorem commandLater {rec : List Xword} {f : State → State × Option Nat} (hf : ∀ s, s.Canon → (f s).1.Canon) :
    Kept (s.commandLater rec f) := by
  refine h.takeCommand fun t h => ?_
  have done := hf t h
  dsimp only
  split
  · exact answer done
  · exact done

theorem commandDone {rec : List Xword} {f : State → State × Nat} (hf : ∀ s, s.Canon → (f s).1.Canon) :
    Kept (s.commandDone rec f) :=
  h.command hf

theorem endReservations {die asid : Nat} : (s.endReservations die asid).Canon := h

theorem mapRing {die asid ring va area : Nat} : KeptSome (s.mapRing die asid ring va area) := by
  refine ite_keeps KeptSome keptSome_none (foldl_keeps KeptSome (fun _ _ h => ?_) (keptSome_some h))
  exact bind h fun _ h => ite_keeps KeptSome h.mapLeaf keptSome_none

theorem bindCommand {rec : List Xword} : (s.bindCommand rec).1.Canon := by
  refine ite_keeps (fun r : State × Nat => r.1.Canon) h ?_
  dsimp only
  split
  · exact ite_keeps (fun r : State × Nat => r.1.Canon) h h.setQueue
  · exact ite_keeps (fun r : State × Nat => r.1.Canon) h (endReservations (setCtx (canon_else (fun h => h.endSharing) h)))
  · exact h.writePfloor
  · refine ite_keeps (fun r : State × Nat => r.1.Canon) h (ite_keeps (fun r : State × Nat => r.1.Canon) h.setCtx ?_)
    split
    next e => exact mapRing h.setCtx _ e
    · exact h
  · exact ite_keeps (fun r : State × Nat => r.1.Canon) h h.setCtx
  · exact ite_keeps (fun r : State × Nat => r.1.Canon) h h.setQueue
  · exact h

theorem unbindRegion {die asid : Nat} : (s.unbindRegion die asid).1.Canon := by
  refine ite_keeps (fun r : State × Nat => r.1.Canon) h (setCtx (endSharing ?_))
  exact foldl (fun _ _ h => h.setCluster) h

theorem unbindCommand {rec : List Xword} : (s.unbindCommand rec).1.Canon := by
  refine ite_keeps (fun r : State × Nat => r.1.Canon) h ?_
  split
  · exact ite_keeps (fun r : State × Nat => r.1.Canon) h h.setQueue
  · exact h.unbindRegion
  · exact h.setCtx
  · exact h.setCtx
  · exact h

theorem cmdKillContext {rec : List Xword} : Kept (execCmdKillContext rec s) :=
  h.commandDone fun _ h => ite_keeps (fun r : State × Nat => r.1.Canon) h.kill h

theorem cmdReseal {rec : List Xword} : Kept (execCmdReseal rec s) := by
  refine h.commandLater fun t h => ?_
  split <;> exact h

theorem bootStage {stage : Nat} {digests : List (List Byte)} {good : Bool} : Kept (execBootStage stage digests good s) := by
  refine ite_keeps Kept (canon_then (fun h => h) h)
    (ite_keeps Kept h (ite_keeps Kept (hostEvent ?_) (ite_keeps Kept ?_ (hostEvent ?_))))
  all_goals exact h

theorem cmdAttestationReport {rec : List Xword} : Kept (execCmdAttestationReport rec s) :=
  h.commandDone fun _ h => ite_keeps (fun r : State × Nat => r.1.Canon) h.fwWrite h

theorem exportPage {die asid handle va : Nat} : (s.exportPage die asid handle va).1.Canon := by
  unfold State.exportPage
  dsimp only
  split
  · exact ite_keeps (fun r : State × Nat => r.1.Canon) h h.writeLeaf.setCtx
  · exact h

theorem importPage {die asid handle owner oasid ova va area : Nat} :
    (s.importPage die asid handle owner oasid ova va area).1.Canon := by
  unfold State.importPage
  dsimp only
  split
  · refine ite_keeps (fun r : State × Nat => r.1.Canon) h (ite_keeps (fun r : State × Nat => r.1.Canon) ?_ h.setCtx)
    split
    next e => exact mapLeaf h.setCtx _ e
    · exact h
  · exact h

theorem pagesCommand {rec : List Xword} : (s.pagesCommand rec).1.Canon := by
  refine ite_keeps (fun r : State × Option Nat => r.1.Canon) h ?_
  split
  · exact h.exportPage
  · exact h.importPage
  · exact h.withdraw.withdrawDone
  · exact h

theorem chainCommand {rec : List Xword} : (s.chainCommand rec).1.Canon := by
  refine ite_keeps (fun r : State × Nat => r.1.Canon) h ?_
  split
  · split
    next e => exact ite_keeps KeptSome keptSome_none h.joinChain _ e
    · exact h
  · exact ite_keeps (fun r : State × Nat => r.1.Canon) h.leaveChain h
  · exact h

theorem cmdBind {rec : List Xword} : Kept (execCmdBind rec s) := h.commandDone fun _ h => h.bindCommand

theorem cmdUnbind {rec : List Xword} : Kept (execCmdUnbind rec s) := h.commandDone fun _ h => h.unbindCommand

theorem cmdExtendMeas7 {rec : List Xword} : Kept (execCmdExtendMeas7 rec s) := h.commandDone fun _ h => h

theorem cmdExportImportWithdraw {rec : List Xword} : Kept (execCmdExportImportWithdraw rec s) :=
  h.commandLater fun _ h => h.pagesCommand

theorem cmdChainJoinLeave {rec : List Xword} : Kept (execCmdChainJoinLeave rec s) := h.commandDone fun _ h => h.chainCommand

theorem cmdReadTelemetry {rec : List Xword} : Kept (execCmdReadTelemetry rec s) := h.command fun _ h => h

theorem mailboxReservedOp {rec : List Xword} : Kept (execMailboxReservedOp rec s) := h.command fun _ h => h

theorem nextCommand : ∀ r, s.nextCommand = some r → r.1.Canon := by
  intro r e
  unfold State.nextCommand at e
  dsimp only at e
  split at e
  · obtain ⟨t, read, rfl⟩ := Option.map_eq_some_iff.mp e
    exact h.readAtOnce t read
  · cases e

/-! ### Resets and the control aperture -/

theorem resetPackage : s.resetPackage.Canon := memory_filter_wf _ _ h

omit h in
theorem writeRstctl {perform : State → Packet → State} (hp : ∀ s p, State.Canon s → (perform s p).Canon) {v : Xword}
    {s : State}
    (h : s.Canon) : (State.writeRstctl perform s v).Canon :=
  canon_ite h.resetPackage (foldl (fun _ _ h => resetDie hp h) h)

theorem clearHints {die asid : Nat} : (s.clearHints die asid).Canon := h.setCtx

theorem clearLost : s.clearLost.Canon := h

theorem writeDieBlock {die o : Nat} {v : Xword} : (s.writeDieBlock die o v).Canon := by
  refine canon_ite (canon_then (fun h => h.setQueue) h)
    (canon_ite h.writeClkdie (canon_ite (canon_then (fun h => h.writeClkreq) h)
    (canon_ite (canon_then (fun h => h.clearHints) h) (canon_then (fun h => h.writePfloor) h))))

omit h in
theorem writePackageBlock {perform : State → Packet → State} (hp : ∀ s p, State.Canon s → (perform s p).Canon) {o : Nat}
    {v : Xword}
    {s : State} (h : s.Canon) : (State.writePackageBlock perform s o v).Canon := by
  unfold State.writePackageBlock
  dsimp only
  split
  · exact h.writePcap
  · exact h.writePrate
  · exact h.writePstat
  · exact h.writeRstctl hp
  case h_9 => exact canon_then (fun h => h.clearLost) h
  all_goals exact h

omit h in
theorem writeAperture {perform : State → Packet → State} (hp : ∀ s p, State.Canon s → (perform s p).Canon)
    {offset size : Nat} {v : Xword}
    {s : State} (h : s.Canon) : (State.writeAperture perform s offset size v).Canon :=
  canon_ite h (canon_ite h.writeDieBlock (h.writePackageBlock hp))

/-! ### Accesses of the host -/

omit h in
theorem performWith {fuel : Nat} : ∀ s p, State.Canon s → (State.performWith fuel s p).Canon := by
  induction fuel with
  | zero =>
    intro s p h
    unfold State.performWith
    split
    · refine canon_ite h.prefetchReply ?_
      split
      · exact h.send
      · exact h
    · exact h.perform
  | succ fuel ih =>
    intro s p h
    unfold State.performWith
    split
    · refine canon_ite h.prefetchReply ?_
      split
      · exact h.send
      · exact h.writeAperture ih
    · exact h.perform

omit h in
theorem performAll : ∀ s p, State.Canon s → (s.performAll p).Canon := performWith

theorem packetDeliver {src dst : Nat} : Kept (execPacketDeliver src dst s) := h.deliverBy performAll

theorem departure {die : Nat} : Kept (execDeparture die s) := h.depart performAll

theorem dieReset {die : Nat} : Kept (execDieReset die s) := canon_then (fun h => h.resetDie performAll) h

theorem resealReenable : Kept (execResealReenable s) := by
  unfold execResealReenable
  split
  · refine (?_ : State.Canon _)
    dsimp only
    split
    · exact h.reenable
    · refine resetDie performAll ?_
      exact h.reenable
  · exact h
  · exact h

theorem hostAccess {offset size : Nat} {v : Option Xword} : (s.hostAccess offset size v).Canon := by
  unfold State.hostAccess
  dsimp only
  split
  · exact h.fresh.send
  next e =>
    have done := atOnce (fresh h) performAll _ e
    exact canon_then (fun h => h.getD (h.drainChannel performAll)) done

theorem hostWrite {here : Bool} {offset : Nat} {v : Xword} : Kept (s.hostWrite here offset v) :=
  canon_then (fun h => h.hostAccess) h

theorem registerWrite {offset size : Nat} {v : Option Xword} : Kept (execRegisterWrite offset size v s) :=
  canon_then (fun h => h.hostAccess) h

end State.Canon
end Sys2Proof.Machine
end

section
/-!
PROOFS. The canonical form of memory, continued: the instructions that do more than write registers.
-/

namespace Sys2Proof.Machine
open Sys2Proof

namespace State.Canon
variable {s : State} (h : s.Canon)
include h

/-! ### Accesses -/

theorem ld_kept {t : Ty} {d b : VReg} {a : SReg} {ext : Option MemExt} : Kept (execLd t d a b ext s) :=
  h.run fun _ _ => ite_keeps Effect.Canon h.ldLocal h.ldGlobal

theorem st_kept {t : Ty} {d b : VReg} {a : SReg} {ext : Option MemExt} : Kept (execSt t d a b ext s) :=
  h.run fun _ _ => ite_keeps Effect.Canon h (ite_keeps Effect.Canon h.stLocal h.stGlobal)

theorem atom_kept {op : AtomOp} {d b : VReg} {a : SReg} {ext : Option MemExt} : Kept (execAtom op d a b ext s) :=
  h.run fun _ _ => ite_keeps Effect.Canon h.atomicLocal (h.atomicGlobal fun _ _ h => h.homeAtomics)

theorem cas_kept {wide : Bool} {d b : VReg} {a : SReg} {ext : Option MemExt} : Kept (execCas wide d a b ext s) :=
  h.run fun _ _ => ite_keeps Effect.Canon h.atomicLocal (h.atomicGlobal fun _ _ h => h.homeCases)

theorem red_kept {op : AtomOp} {d b : VReg} {a : SReg} {ext : Option MemExt} : Kept (execRed op d a b ext s) := by
  refine h.run fun _ _ => ite_keeps Effect.Canon h (ite_keeps Effect.Canon ?_ h.redGlobal)
  split
  · exact h
  · exact h.localUpdates

theorem launch_kept {d a b : SReg} : Kept (execLaunch d a b s) := by
  refine h.run fun c w => ite_keeps Effect.Canon h (ite_keeps Effect.Canon h ?_)
  have placed := h.place (w := w) (want := .load) (size := 128) (fmtOk := false) (l := [((firstLane c.lanes).getD 0, w.s a)])
  dsimp only
  split
  next e => rw [e] at placed; exact placed
  next e =>
    rw [e] at placed
    split
    · exact missStop (homeRead (releaseCore placed))
    next e => exact onWarp (enqueue (homeRead (releaseCore placed)) _ e)

/-! ### Barriers and waits -/

theorem fence_kept {k : FenceKind} {mask : BitVec 4} {sc : Scope} : Kept (execFence k mask sc s) := by
  refine h.run fun c w => ite_keeps Effect.Canon h ?_
  exact canon_then (fun h => h.fenceAcq) (canon_then (fun h => h.setWarp) h)

theorem barinit_kept {o : BitVec 4} {d a : SReg} : Kept (execBarinit o d a s) :=
  h.run fun _ _ => ite_keeps Effect.Canon h (ite_keeps Effect.Canon h h.setBarObj)

theorem arrive_kept {d : SReg} {o : BitVec 4} : Kept (execArrive d o s) := by
  refine h.run fun c w => ?_
  dsimp only
  split
  · exact h
  · exact ite_keeps Effect.Canon h.barWait h.barArrive.onWarp.barStuck

theorem bwait_kept {d a : SReg} {o : BitVec 4} : Kept (execBwait d o a s) :=
  h.run fun _ _ => ite_keeps Effect.Canon h.setWarp (ite_keeps Effect.Canon h h.barPast)

theorem bsync_kept {d : SReg} {o : BitVec 4} : Kept (execBsync d o s) := by
  refine h.run fun c w => ?_
  dsimp only
  split
  · exact h.barPast
  · split
    · exact h
    · exact ite_keeps Effect.Canon h.barWait h.setWarp.barArrive.barPast

theorem bdrop_kept {o : BitVec 4} : Kept (execBdrop o s) :=
  h.run fun _ _ => ite_keeps Effect.Canon h (ite_keeps Effect.Canon h.barRemove h)

theorem disarm {o : Option Monitor} : (s.disarm o).Canon := by
  cases o with
  | none => exact h
  | some => exact h.setDie

theorem waitc_kept {cond : WaitCond} {wide : Bool} {d a b : SReg} : Kept (execWaitc cond wide d a b s) := by
  refine h.run fun c w => ?_
  have placed := h.place (w := w) (want := .wait) (size := if wide then 8 else 4) (fmtOk := false)
    (l := [((firstLane c.lanes).getD 0, w.s a)])
  split
  · exact h.waitcDone
  · split
    next e => rw [e] at placed; exact placed
    next e =>
      rw [e] at placed
      exact ite_keeps Effect.Canon placed (ite_keeps Effect.Canon (armOwn (disarm (fresh placed)))
        (armRemote (disarm (fresh placed))))

theorem waitn_kept {ld st cp mx : BitVec 5} : Kept (execWaitn ld st cp mx s) := by
  refine h.run fun c w => ite_keeps Effect.Canon h.onWarp (ite_keeps Effect.Canon ?_ h)
  exact foldl (fun _ _ h => h.landLoad) h

/-! ### Engine commands -/

theorem cpy_kept {d a : SReg} : Kept (execCpy d a s) :=
  h.run fun _ _ => ite_keeps Effect.Canon h (h.checked h.queueCopy)

theorem cpyt_kept {d a : SReg} {toGlobal : Bool} : Kept (execCpyt d a toGlobal s) :=
  h.recordCopy fun _ _ _ => h.checked h.queueRecord

theorem cpym_kept {d a : SReg} : Kept (execCpym d a s) :=
  h.recordCopy fun _ _ _ => h.checked (ite_keeps Effect.Canon h h.queueRecord)

theorem cpyx_kept {d a b : SReg} : Kept (execCpyx d a b s) :=
  h.recordCopy fun _ _ _ => h.checked h.queueRecord

theorem coll_kept {d a b : SReg} : Kept (execColl d a b s) :=
  h.recordCopy fun _ _ _ => h.checked h.queueCopy

theorem mma_kept {a : SReg} : Kept (execMma a s) :=
  h.blockInstr fun _ _ _ => h.checked (ite_keeps Effect.Canon h.setCore.queueMatrix h.queueMatrix)

theorem mzero_kept {a : SReg} : Kept (execMzero a s) :=
  h.blockInstr fun _ _ _ => h.checked h.queueMatrix

theorem mload_kept {a : SReg} : Kept (execMload a s) :=
  h.blockInstr fun _ _ _ => h.checked h.queueMatrix

theorem mdrain_kept {a : SReg} : Kept (execMdrain a s) :=
  h.blockInstr fun _ _ _ => h.checked h.queueMatrix

theorem hist_kept {a : SReg} {clear : Bool} {t : BitVec 3} : Kept (execHist a clear t s) :=
  h.run fun _ _ => ite_keeps Effect.Canon h (h.checked h.queueMatrix)

theorem quote_kept {d a : SReg} {lanes : Bool} : Kept (execQuote d a lanes s) :=
  h.blockInstr fun _ _ _ => h.checked h.setWarp

/-! ### Control -/

theorem trigger_kept : Kept (execTrigger s) := h.run fun _ _ => h.releaseCore.onWarp.checkGangTriggered

theorem next_kept {d : SReg} {p : PReg} : Kept (execNext d p s) := by
  refine h.run fun c w => ite_keeps Effect.Canon h ?_
  dsimp only
  split
  · exact h.setCore.setWarp
  · exact h.setWarp

theorem rep_kept {n : BitVec 6} {sd sa sb : BitVec 2} : Kept (execRep n sd sa sb s) := by
  refine h.run fun c w => ite_keeps Effect.Canon h ?_
  have fetched := h.fetchInstr (ck := w.coreK) (asid := w.asid) (va := c.nextPc.toNat)
  split
  next e => exact (canon_of_fst fetched e).missStop
  next e => trivial
  next e =>
    have base := canon_of_fst fetched e
    split
    · exact base.repTrap
    · exact base.setWarp

theorem exit_kept : Kept (execExit s) := h.run fun _ _ => h.endLanes

theorem eret_kept : Kept (execEret s) := h.run fun _ _ => h.leaveHandler

theorem ret_kept {a : SReg} : Kept (execRet a s) := h.run fun _ _ => ite_keeps Effect.Canon h h.branchAll

theorem wbase_kept {imm : BitVec 7} : Kept (execWbase imm s) := h.run fun _ _ => ite_keeps Effect.Canon h h.setWarp

theorem lexit_kept : Kept (execLexit s) := by
  refine h.run fun c w => ?_
  split
  · exact h
  · exact h.pastEnd fun _ _ h => ite_keeps Effect.Canon h.setWarp h.setWarp

theorem park_kept {j : JMask} : Kept (execPark j s) := h.run fun _ _ => ite_keeps Effect.Canon h h.setWarp

theorem bra_kept {off : BitVec 26} : Kept (execBra off s) := h.run fun _ _ => h.branchAll

theorem brs_kept {b : BrsCond} {a : SReg} {off : BitVec 15} : Kept (execBrs b a off s) :=
  h.run fun _ _ => ite_keeps Effect.Canon h.branchAll h

theorem brp_kept {p : PReg} {inv : Bool} {off : BitVec 21} : Kept (execBrp p inv off s) :=
  h.run fun _ _ => ite_keeps Effect.Canon h h.setWarp

theorem call_kept {off : BitVec 26} : Kept (execCall off s) := h.run fun _ _ => h.linkAll

theorem jmp_kept {d a : SReg} : Kept (execJmp d a s) :=
  h.run fun _ _ => ite_keeps Effect.Canon h (ite_keeps Effect.Canon h.branchAll h.linkAll)

theorem enrol_kept {j : JMask} {off : BitVec 21} : Kept (execEnrol j off s) :=
  h.run fun _ _ => ite_keeps Effect.Canon h h.setWarp

theorem loop_kept {n : LoopCount} {off : BitVec 18} : Kept (execLoop n off s) :=
  h.run fun _ _ => ite_keeps Effect.Canon (h.pastEnd fun _ _ h => h.setWarp) (ite_keeps Effect.Canon h h.setWarp)

theorem instructionFetchFault_kept : Kept (execInstructionFetchFault s) := by
  refine h.run fun c w => ?_
  have fetched := h.fetchInstr (ck := w.coreK) (asid := w.asid) (va := c.pc.toNat)
  split
  next e => exact canon_of_fst fetched e
  next e => exact (canon_of_fst fetched e).missStop
  next e => trivial
  next e => exact canon_of_fst fetched e
  next e => exact canon_of_fst fetched e

/-! ### Special registers -/

theorem getsr_kept {d n : BitVec 7} : Kept (execGetsr d n s) := by
  refine h.run fun c w => ite_keeps Effect.Canon h.setWarp ?_
  dsimp only
  split
  · exact h
  · exact h.passTime.setWarp

theorem setsr_kept {n : BitVec 7} {a : SReg} : Kept (execSetsr n a s) := by
  refine h.run fun c w => ?_
  split
  · exact h
  · exact ite_keeps Effect.Canon h h.setSpecial

theorem tlbi_kept {a : SReg} {all : Bool} : Kept (execTlbi a all s) :=
  h.run fun _ _ => ite_keeps Effect.Canon h.releaseCore.tlbRemove h.releaseCore.tlbRemove

end State.Canon
end Sys2Proof.Machine
end

section
/-!
PROOFS. The canonical form of memory, continued: the events.
-/

namespace Sys2Proof.Machine
open Sys2Proof

namespace State.Canon
variable {s : State} (h : s.Canon)
include h

/-! ### Warps, packets and walks -/

theorem asyncTrapEntry {k : Nat} : Kept (execAsyncTrapEntry k s) := by
  unfold execAsyncTrapEntry
  split
  · exact h
  · split
    · exact h.setWarp.takeTrap
    · exact h

theorem loadReturn {k id : Nat} : Kept (execLoadReturn k id s) := by
  unfold execLoadReturn
  split
  · exact h
  · split
    · exact h
    · exact h.landLoad

theorem storePerformed {k id : Nat} : Kept (execStorePerformed k id s) := by
  unfold execStorePerformed
  split
  · exact h
  · exact ite_keeps Kept h.setWarp.stirCtx h

/-- A walk's translation leaves memory in its canonical form, and so does the line of a CACHE operation that it finds. -/
theorem walkLine {o : CacheOp} {core asid va n ctx : Nat} : (match s.translate core asid va with
    | (s, .leaf l) => ({ s := s, cost := 0, dsts := [] } : Sent).cacheLane o va l n
    | (s, .replay) | (s, .absent) | (s, .malformed) | (s, .hole _) =>
      { s := s.dropHint ctx n, cost := 0, dsts := [] }).s.Canon := by
  have ht := h.translate (ck := core) (asid := asid) (va := va)
  generalize s.translate core asid va = r at ht ⊢
  obtain ⟨t, x⟩ := r
  cases x with
  | leaf => exact cacheLane ht
  | replay => exact dropHint ht
  | absent => exact dropHint ht
  | malformed => exact dropHint ht
  | hole => exact dropHint ht

theorem cacheWalkDone {die : Nat} : Kept (execCacheWalkDone die s) := by
  unfold execCacheWalkDone
  split
  · exact h
  next k rest _ =>
    have found := (h.setDie (k := die) (x := { s.die die with walks := rest })).walkLine
      (o := { warp := k.warp, ck := k.core, gang := k.gang, asid := k.asid, op := k.op }) (core := k.core)
        (asid := k.asid) (va := k.va)
      (n := k.lanes) (ctx := ctxKey die k.asid)
    exact ite_keeps Kept found.onWarp.stirCtx (ite_keeps Kept found.setCtx.onWarp.stirCtx h.setDie)

theorem waitcPoll {k : Nat} : Kept (execWaitcPoll k s) := h.onWarp

theorem packetArrive {src dst : Nat} {outside : Option (BitVec 128 × BitVec 256 × List Byte)} :
    Kept (execPacketArrive src dst outside s) := by
  unfold execPacketArrive
  split
  · exact h.arrive
  · refine ite_keeps Kept h ?_
    dsimp only
    split
    · exact canon_then (fun h => h) h
    · exact h.send

theorem floorBeatSend {src dst : Nat} : Kept (execFloorBeatSend src dst s) := ite_keeps Kept h h

theorem floorBeatReceive {src dst : Nat} : Kept (execFloorBeatReceive src dst s) := by
  unfold execFloorBeatReceive
  split
  · exact h
  · dsimp only
    split
    · exact h
    · exact h

theorem tokenBucketReady {k : Nat} : Kept (execTokenBucketReady k s) := by
  unfold execTokenBucketReady
  dsimp only
  split
  · exact h.onCommands
  · split
    · exact ite_keeps Kept h.onCommands.setWarp h.onCommands
    all_goals exact h.onCommands

theorem resealZero : Kept (execResealZero s) := by
  unfold execResealZero
  split
  · exact ite_keeps Kept h h
  · exact h
  · exact h

theorem resealStop {rejoin : Option Nat} : Kept (execResealStop rejoin s) := by
  unfold execResealStop
  split <;> exact h

theorem linkWidthChangeDone {die : Nat} : Kept (execLinkWidthChangeDone die s) := by
  unfold execLinkWidthChangeDone
  dsimp only
  split
  · exact h
  · exact foldl (fun _ _ h => h.setPoint) h.setDie

/-! ### Engines -/

theorem copySlice {die cluster : Nat} : Kept (execCopySlice die cluster s) := by
  unfold execCopySlice
  dsimp only
  split
  · exact h
  next c _ =>
    have turned := h.setCluster (k := clusterKey die cluster)
      (x := { s.cluster (clusterKey die cluster) with lastTurn := c.warp })
    generalize s.setCluster (clusterKey die cluster)
      { s.cluster (clusterKey die cluster) with lastTurn := c.warp } = u at turned ⊢
    have acquired : (if c.acq ∧ c.slice = 0 ∧ c.fetched = [] then u.engineAcquire else u).Canon :=
      canon_then (fun h => h.engineAcquire) turned
    generalize (if c.acq ∧ c.slice = 0 ∧ c.fetched = [] then u.engineAcquire else u) = t at acquired ⊢
    have owed := acquired.takeOwed (c := c)
    have cut := owed.sliceOf (c := (t.takeOwed c).2)
    split
    next e => rw [e] at cut; exact doSlice acquired cut
    next e => rw [e] at cut; exact onCopy cut
    next e => rw [e] at cut; exact onCopy cut
    next s' va parts e =>
      rw [e] at cut
      have asked := engineAsk (t := { s := s', cost := 0, dsts := [] }) cut (e := c.ctx c.fetched) (cls := 1)
        (op := c.id) (va := va)
        (parts := parts)
      split
      · exact acquired.onCopy
      next e => exact (pay asked _ e).onCopy
    next => trivial

theorem copyComplete {die cluster id : Nat} : Kept (execCopyComplete die cluster id s) := by
  unfold execCopyComplete
  dsimp only
  split
  · exact h
  next c _ =>
    refine ite_keeps Kept h.dropCopy.finishCopy.copyRest ?_
    have found := h.counterTargets (e := c.ctx []) (va := c.counter)
    split
    next e => rw [e] at found; exact onCopy found
    next e => rw [e] at found; exact copyRest (finishCopy (dropCopy found))
    next e => rw [e] at found; exact found
    next => trivial
    next s' pas e =>
      rw [e] at found
      have counted := foldl_keeps (fun t : Sent => t.s.Canon) (l := pas)
        (f := fun t pa => t.countAt (c.ctx []) 1 id c.counter c.add pa) (fun _ _ h => countAt h)
          (r := { s := s', cost := 0, dsts := [] }) found
      split
      · exact h.onCopy
      next e =>
        have paid := pay counted _ e
        exact ite_keeps Kept paid.dropCopy.finishCopy.copyRest paid.onCopy

theorem collectiveComplete {die id late : Nat} {others : List OutsideBox} :
    Kept (execCollectiveComplete die id others late s) := by
  unfold execCollectiveComplete
  split
  · exact h
  · refine ite_keeps Kept h.collFinish (ite_keeps Kept h.earliness.failColl (ite_keeps Kept h ?_))
    split
    · exact h
    · refine ite_keeps Kept (foldl (fun _ _ h => h.abandonColl) h.earliness) (ite_keeps Kept h ?_)
      exact ite_keeps Kept h.collStart h.collEnd

theorem collectiveAbandon {die id : Nat} : Kept (execCollectiveAbandon die id s) := by
  unfold execCollectiveAbandon
  split
  · exact h
  · exact h.abandonAll

theorem matrixCommandComplete {die core : Nat} : Kept (execMatrixCommandComplete die core s) := by
  unfold execMatrixCommandComplete
  split
  · exact h
  · exact ite_keeps Kept h.matrixStep h

theorem engineWake {die number : Nat} {isCopy : Bool} : Kept (execEngineWake die number isCopy s) := by
  refine ite_keeps Kept h.setCluster ?_
  dsimp only
  split
  · exact h.setCore
  · exact canon_then (fun h => h.chargeEnergy) h.setCore

/-! ### Power and clocks -/

theorem voltageStep {die cluster : Nat} : Kept (execVoltageStep die cluster s) :=
  canon_ite h.setCluster (canon_then (fun h => h.setCluster) h)

theorem voltageReached {die cluster : Nat} : Kept (execVoltageReached die cluster s) := canon_then (fun h => h.setCluster) h

theorem membershipChangeEffective {die : Nat} : Kept (execMembershipChangeEffective die s) :=
  applyCeil (foldl (fun _ _ h => h.abandonAll) (canon_then (fun h => h.retime) h.setDie))

theorem causewayWidthChooser {die packets traffic : Nat} : Kept (execCausewayWidthChooser die packets traffic s) :=
  canon_else (fun h => h.setDie) h

theorem rateBroadcast : Kept (execRateBroadcast s) := by
  refine foldl (fun _ _ h => h.setCluster) ?_
  exact h.freeNat

theorem rateIntegratorStep {p1 other : Nat} {dies : List Nat} : Kept (execRateIntegratorStep p1 other dies s) := by
  refine refloor (foldl (fun _ _ h => h.setDie) ?_)
  exact h

theorem limiterSample {die power : Nat} : Kept (execLimiterSample die power s) :=
  canon_ite (foldl (fun _ _ h => h.setCluster) h.setDie) (canon_then (foldl fun _ _ h => h.setCluster) h.setDie)

theorem emergencyStep {die : Nat} : Kept (execEmergencyStep die s) :=
  canon_else (foldl fun _ _ h => h.setCluster.setPoint) h

/-- A context's energy takes a sample of one of its clusters. -/
theorem countEnergy {o : Option Nat} {key : Nat → Nat} {f : Nat → Ctx} : (match o with
    | none => s
    | some a => s.setCtx (key a) (f a)).Canon := by
  split
  · exact h
  · exact h.setCtx

theorem stallSampleEnd {die cluster occupied stalled energy : Nat} :
    Kept (execStallSampleEnd die cluster occupied stalled energy s) :=
  ite_keeps Kept h (canon_else (fun h => h.choosePoint) h.setCluster.countEnergy)

theorem prefetchDepthChooser {die core : Nat} {stalls : List Nat} {bytes : List (Nat × Nat)} :
    Kept (execPrefetchDepthChooser die core stalls bytes s) := canon_else (fun h => h.setCore) h

theorem skewBiasDecay : Kept (execSkewBiasDecay s) := foldl (fun _ _ h => h.setCtx) h

theorem clusterGate {die cluster : Nat} : Kept (execClusterGate die cluster s) :=
  canon_then (fun h => h.setCluster.setPoint) h

theorem ceilingRepublish {die : Nat} : Kept (execCeilingRepublish die s) := canon_then (fun h => h.chainSend) h

theorem chainSilenceTimeout {die member : Nat} : Kept (execChainSilenceTimeout die member s) :=
  canon_then (fun h => h.chainSend) h

theorem softErrorCorrected {die : Nat} : Kept (execSoftErrorCorrected die s) := h.setDie

theorem hbmStackInitDone : Kept (execHbmStackInitDone s) := h

theorem thermalLimitChange {die mhz : Nat} : Kept (execThermalLimitChange die mhz s) := h.setDie.ceilChanged

end State.Canon
end Sys2Proof.Machine
end

section
/-!
PROOFS. The canonical form of memory, concluded: every instruction and event, an issue, and a step.
-/

namespace Sys2Proof.Machine
open Sys2Proof

namespace State.Canon
variable {s : State} (h : s.Canon)
include h

theorem exec {i : Instr} : Kept (exec i s) := by
  cases i with
  | mad | bfi | mov | sel | shfl | bcast | slup | sldn | add | sub | mul | mulhiI | mulhiN | minI | minN | maxI | maxN
    | and | or | xor | shl | shr | sra | andn | rol | absdI | absdN | bfxI | bfxN | divI | divN | remI | remN | clz
    | popc | brev | fabs | fabsF16x2 | fabsBf16x2 | fneg | fnegF16x2 | fnegBf16x2 | frnd | frndF16x2 | frndBf16x2
    | frcp | frsq | fsqrt | fexp2 | flog2 | fsin | fcos | ftanh | fadd | faddF16x2 | faddBf16x2 | fsub | fsubF16x2
    | fsubBf16x2 | fmul | fmulF16x2 | fmulBf16x2 | fma | fmaF16x2 | fmaBf16x2 | fmin | fminF16x2 | fminBf16x2 | fmax
    | fmaxF16x2 | fmaxBf16x2 | fdot2F16 | fdot2Bf16 => exact h.vec
  | madS | clzS | popcS | brevS | bfiS | movS | cmpS | addS | subS | mulS | mulhiIS | mulhiNS | minIS | minNS | maxIS
    | maxNS | andS | orS | xorS | shlS | shrS | sraS | andnS | rolS | absdIS | absdNS | bfxIS | bfxNS | divIS | divNS
    | remIS | remNS => exact h.scal
  | cmp | fcmp => exact h.predMap
  | reduceAddI32 | reduceAddF32 | reduceMinI32 | reduceMaxI32 | reduceMinF32 | reduceMaxF32 => exact h.reduceLanes
  | scanAddI32 | scanAddF32 | scanMaxI32 | scanMinI32 => exact h.scanLanes
  | pref | keep | cinv | cwb => exact h.cacheInstr
  | compress | expand | matchRank | matchCnt | matchLead | voteAny | voteAll | voteBallot | plog | pmovPFromS
    | pmovSFromP | pcnt | elect | cvt | pack | unpack | mrst | yield | strike => exact h.run fun _ _ => h.setWarp
  | nop | brk | trap | sysc | reservedEncoding | literalWordAtInstructionStart => exact h.run fun _ _ => h
  | ld => exact h.ld_kept
  | st => exact h.st_kept
  | atom => exact h.atom_kept
  | red => exact h.red_kept
  | cas => exact h.cas_kept
  | launch => exact h.launch_kept
  | fence => exact h.fence_kept
  | barinit => exact h.barinit_kept
  | arrive => exact h.arrive_kept
  | bwait => exact h.bwait_kept
  | bsync => exact h.bsync_kept
  | bdrop => exact h.bdrop_kept
  | waitc => exact h.waitc_kept
  | waitn => exact h.waitn_kept
  | cpy => exact h.cpy_kept
  | cpyt => exact h.cpyt_kept
  | cpym => exact h.cpym_kept
  | cpyx => exact h.cpyx_kept
  | coll => exact h.coll_kept
  | mma => exact h.mma_kept
  | mzero => exact h.mzero_kept
  | mload => exact h.mload_kept
  | mdrain => exact h.mdrain_kept
  | hist => exact h.hist_kept
  | quote => exact h.quote_kept
  | trigger => exact h.trigger_kept
  | next => exact h.next_kept
  | rep => exact h.rep_kept
  | exit => exact h.exit_kept
  | eret => exact h.eret_kept
  | ret => exact h.ret_kept
  | wbase => exact h.wbase_kept
  | lexit => exact h.lexit_kept
  | park => exact h.park_kept
  | bra => exact h.bra_kept
  | brs => exact h.brs_kept
  | brp => exact h.brp_kept
  | call => exact h.call_kept
  | jmp => exact h.jmp_kept
  | enrol => exact h.enrol_kept
  | loop => exact h.loop_kept
  | instructionFetchFault => exact h.instructionFetchFault_kept
  | getsr => exact h.getsr_kept
  | setsr => exact h.setsr_kept
  | tlbi => exact h.tlbi_kept
  | asyncTrapEntry => exact h.asyncTrapEntry
  | loadReturn => exact h.loadReturn
  | storePerformed => exact h.storePerformed
  | cacheWalkDone => exact h.cacheWalkDone
  | waitcPoll => exact h.waitcPoll
  | packetArrive => exact h.packetArrive
  | packetDeliver => exact h.packetDeliver
  | floorBeatSend => exact h.floorBeatSend
  | floorBeatReceive => exact h.floorBeatReceive
  | tokenBucketReady => exact h.tokenBucketReady
  | resealZero => exact h.resealZero
  | resealStop => exact h.resealStop
  | resealReenable => exact h.resealReenable
  | linkWidthChangeDone => exact h.linkWidthChangeDone
  | copySlice => exact h.copySlice
  | copyComplete => exact h.copyComplete
  | collectiveComplete => exact h.collectiveComplete
  | collectiveAbandon => exact h.collectiveAbandon
  | matrixCommandComplete => exact h.matrixCommandComplete
  | engineWake => exact h.engineWake
  | headLaunchTake => exact h.headLaunchTake
  | prologueRun => exact h.prologueRun
  | waitsigSatisfied => exact h.waitsigSatisfied
  | placerPass => exact h.placerPass
  | headGangAgeTimeout => exact h.headGangAgeTimeout
  | overflowMove => exact h.overflowMove
  | gangRetire => exact h.gangRetire
  | switchStop => exact h.switchStop
  | switchDrain => exact h.switchDrain
  | switchWriteBack => exact h.switchWriteBack
  | switchSave => exact h.switchSave
  | switchClear => exact h.switchClear
  | switchAdmit => exact h.switchAdmit
  | kill => exact h.kill
  | uncorrectableError => exact h.uncorrectableError
  | faultResolved => exact h.faultResolved
  | faultUnresolvable => exact h.faultUnresolvable
  | voltageStep => exact h.voltageStep
  | voltageReached => exact h.voltageReached
  | membershipChangeEffective => exact h.membershipChangeEffective
  | causewayWidthChooser => exact h.causewayWidthChooser
  | rateBroadcast => exact h.rateBroadcast
  | rateIntegratorStep => exact h.rateIntegratorStep
  | limiterSample => exact h.limiterSample
  | emergencyStep => exact h.emergencyStep
  | stallSampleEnd => exact h.stallSampleEnd
  | prefetchDepthChooser => exact h.prefetchDepthChooser
  | skewBiasDecay => exact h.skewBiasDecay
  | clusterWake => exact h.wakeCluster
  | clusterGate => exact h.clusterGate
  | ceilingRepublish => exact h.ceilingRepublish
  | chainSilenceTimeout => exact h.chainSilenceTimeout
  | thermalLimitChange => exact h.thermalLimitChange
  | cmdKillContext => exact h.cmdKillContext
  | cmdReseal => exact h.cmdReseal
  | cmdAttestationReport => exact h.cmdAttestationReport
  | bootStage => exact h.bootStage
  | departure => exact h.departure
  | dieReset => exact h.dieReset
  | registerWrite => exact h.registerWrite
  | doorbellWrite | pcapWrite | prateWrite | pstatWrite | pfloorWrite | clkdieWrite | hintdropClear | elostClear
    | clkreqRelease | clkreqPinDelta | clkreqPinPoint | clkreqReservedMode => exact h.hostWrite
  | chainCeilingMessage | chainJoin | chainSnapshot | chainLeave | chainRemove => exact h.chainWords
  | ceilingEffective => exact h.applyCeil
  | softErrorCorrected => exact h.softErrorCorrected
  | hbmStackInitDone => exact h.hbmStackInitDone
  | packageReset => exact h.resetPackage
  | cmdBind => exact h.cmdBind
  | cmdUnbind => exact h.cmdUnbind
  | cmdExtendMeas7 => exact h.cmdExtendMeas7
  | cmdChainJoinLeave => exact h.cmdChainJoinLeave
  | cmdExportImportWithdraw => exact h.cmdExportImportWithdraw
  | cmdReadTelemetry => exact h.cmdReadTelemetry
  | mailboxReservedOp => exact h.mailboxReservedOp

/-! ### Issues -/

theorem runIn {c : Cur} {i : Instr} : Kept (s.runIn c i) := by
  refine exec ?_
  exact h

theorem issueRepeat {k : Nat} {w : Warp} {pc : Xword} {lanes cands : LaneSet} {n : BitVec 6} {sd sa sb : BitVec 2} :
    Kept (s.issueRepeat k w pc lanes cands n sd sa sb) := by
  refine ite_keeps Kept h.onWarp.complete ?_
  dsimp only
  split
  · exact Effect.Canon.settle h.onWarp.fetchInstr.repTrap
  · exact h.onWarp.fetchInstr.runIn

theorem issueGroup {k : Nat} {w : Warp} {pc : Xword} {lanes cands : LaneSet} : Kept (s.issueGroup k w pc lanes cands) := by
  refine ite_keeps Kept ?_ h.fetchInstr.runIn
  split
  · exact h.fetchInstr.issueRepeat
  · exact h.fetchInstr.runIn
  · exact h.fetchInstr.onWarp

theorem issueWarp {k : Nat} : Kept (s.issueWarp k) := by
  unfold State.issueWarp
  split
  · exact h
  next w _ =>
    refine ite_keeps Kept ?_ (ite_keeps Kept h.exec ?_)
    · split
      · exact h
      · exact h.setWarp.issueGroup
    · split
      · exact h
      next pc lanes _ =>
        have issued := h.issueGroup (k := k) (w := w) (pc := pc) (lanes := lanes) (cands := w.candidates)
        dsimp only
        split
        next e => rw [e] at issued; exact canon_then (fun h => h) issued
        · exact issued

theorem issueSecond {k : Nat} {lanes : LaneSet} : Kept (s.issueSecond k lanes) := by
  unfold State.issueSecond
  dsimp only
  split
  · refine issueGroup ?_
    exact h
  · exact h

/-! ### Steps -/

theorem evictL2 {a line : Nat} : (s.evictL2 a line).Canon := canon_of_mem h (State.evictL2_mem s a line)

theorem evictL3 {line : Nat} : (s.evictL3 line).Canon := h

theorem take {c : Choice} : Kept (s.take c) := by
  cases c with
  | issue => exact h.issueWarp
  | event => exact h.exec
  | outside =>
    unfold State.take
    dsimp only
    split
    · exact h
    · refine exec ?_
      exact h
  | inject => exact h
  | withdrawn => exact h.withdrawDone
  | fetchAhead => exact h.fetchAhead
  | evictL1 => exact h.evictL1
  | evictL2 => exact h.evictL2
  | evictL3 => exact h.evictL3
  | passSlice => exact h.passSlice
  | passCopy => exact h.passCopy
  | writeSome => exact h.writeSome
  | startCluster => exact h.startCluster
  | command =>
    unfold State.take
    dsimp only
    split
    next e => exact exec (h.nextCommand _ e)
    · exact h
  | time => exact h.timePasses

theorem proceed : Kept s.proceed := by
  unfold State.proceed
  split
  · exact h.timePasses
  · exact h.take
  · exact h.freeNat.take

theorem step : Kept (step s) := by
  unfold Machine.step
  split
  · exact h.issueSecond
  · exact h.proceed

end State.Canon

/-- Settles O59: each unit that writes memory does so at a home, where it keeps the canonical form, and every other
update leaves memory as it is. -/
theorem stepKeepsMemory : Obligations.StepKeepsMemory := by
  unfold Obligations.StepKeepsMemory
  intro s t h e
  have kept := State.Canon.step h
  rw [e] at kept
  exact kept

end Sys2Proof.Machine
end
